-- ==== Sys2Proof/Word.lean ====
section
/-! DEFINITION. The word types of the model and the one shape of sparse data (a list of key and value pairs). -/

namespace Sys2Proof

/-- One byte (R8). -/
abbrev Byte := BitVec 8
/-- A byte string, lowest address first (R8). -/
abbrev Bytes := List (BitVec 8)
/-- The bits of an FP32 value, or an INT32 (R46, R50). -/
abbrev F32 := BitVec 32
/-- A 64-bit word. -/
abbrev W64 := BitVec 64
/-- Sparse data: key and value pairs in one canonical form, keys strictly rising and no value equal to what
an unlisted key reads as (`SMap.wf` in Machine/Sparse.lean). -/
abbrev SMap (β : Type) := List (Nat × β)

/-- 2 to the k, as a shift. -/
abbrev pow2 (k : Nat) : Nat := 1 <<< k

end Sys2Proof
end

