-- ==== Sys2Proof/Syntax.lean ====
section
/-! DEFINITION. The commands of the block: one constructor per row of spec/opcode_table.json. Operands are what the
row's happening carries in from outside the state: addresses, values, bytes that arrive, errors met, waits, and the
contributions of other modules (log 5). -/

namespace Sys2Proof

/-- A fret by logical name: compute die, logical column, logical row (R11). -/
structure FretId where
  die : Fin 2
  col : Fin 16
  row : Fin 24
  deriving DecidableEq, Repr

/-- A fret whose sequencer issues its next operation, or ends one, and how many corrected errors the operation met in the
fret's memories, its own word of the voicing store among them (R84). -/
structure Issue extends FretId where
  ce : Nat
  deriving DecidableEq, Repr

/-- An operand's supply: bytes that a bus, a neighbour or the edge supplies; and the place, first line and first block of
the whole tensor, of a tile that source 0x8 converts (R71), and the cycles that source 0x8 waited at its slot (R133). -/
structure Supply where
  bytes : Bytes
  line : Nat
  block : Nat
  wait : Nat
  deriving DecidableEq, Repr

/-- A cause that a surrounding reports with a clock, port or fault. -/
inductive FaultCause where
  /-- An uncorrectable fret SRAM error (R84). -/
  | sram
  /-- A failed array self-check (R81). -/
  | selfCheck
  /-- A phase at twice its bound (R111). -/
  | twiceBound
  deriving DecidableEq, Repr

/-- A fret's fault: its cause, and the corrected errors met on the way (R84). -/
structure FretReport where
  cause : FaultCause
  ce : Nat
  deriving DecidableEq, Repr

/-- What a window write carries: its data, and the corrected errors met (R84). -/
structure WindowData where
  value : BitVec 64
  ce : Nat
  deriving DecidableEq, Repr

/-- A gradient term that a source sends to a row's home die (R260): the source, of how many that have terms for the die in the
step; the place of its micro-batch in Jexon's order, the micro-batch and the position number; its laddered format, and the
gradient's values before the conversion. -/
structure ScatterTerm where
  source : Nat
  sources : Nat
  turn : Nat
  mb : Nat
  pos : Nat
  fmt : Nat
  values : List F32
  deriving DecidableEq, Repr

/-- What a reply carries: bits [63:48] of its header's first word, the info field, and the data after the header (R250,
R342). -/
structure ReplyData where
  info : Nat
  bytes : Bytes
  deriving DecidableEq, Repr

/-- The lanes of a fabric port that trained: bit i for lane i of the 24, in transmit and in receive (R333, R334). -/
structure LaneTest where
  tx : BitVec 24
  rx : BitVec 24
  deriving DecidableEq, Repr

/-- The lanes of the Vilny link that trained: bit i for lane i of the 9, in transmit and in receive (R364, R367). -/
structure VilnyLanes where
  tx : BitVec 9
  rx : BitVec 9
  deriving DecidableEq, Repr

/-- A ring whose two ports pass loopback: the lanes that trained, of the port in + direction and of the other (R334, R351). -/
structure LoopTest where
  ring : Fin 3
  plus : LaneTest
  minus : LaneTest
  deriving DecidableEq, Repr

/-- What may retrain a port: the most pre-FEC symbol errors of one of its lanes within 1 ms, and whether a lane lost its signal
(R334). -/
structure PortTrouble where
  port : Fin 6
  errors : Nat
  lost : Bool
  deriving DecidableEq, Repr

/-- What arrives of the summed commit vote: chunks that come down the tree, as number and values (R348), and the lowest other
rank that voted a fault, where one did (R293). -/
structure VoteArrival where
  arrived : List (Nat × List F32)
  lowest : Option Nat
  deriving DecidableEq, Repr

/-- What the boot ROM finds of an image's signatures (R475, R476): the vendor's verifies; the owner's verifies against slot 1, slot 2. -/
structure ImageCheck where
  vendor : Bool
  slot1 : Bool
  slot2 : Bool
  deriving DecidableEq, Repr

/-- What the identity check compares (R474): the public key derived from the secret with the certificate's, and the eight die identities
and twelve stack serials as read with those of its extension. -/
structure IdentityCheck where
  key : Bytes
  certKey : Bytes
  parts : List Bytes
  certParts : List Bytes
  deriving DecidableEq, Repr

/-- How a bring-up phase ended, as its devices answered (R441). -/
structure PhaseFindings where
  /-- Measured time of the phase in µs (R442). -/
  micros : Nat
  /-- Physical frets that failed self-test: die, column, physical row (R80). -/
  badFrets : List (Fin 2 × Fin 16 × Fin 25)
  /-- Control cores that failed: die of R419 and physical core (R461). -/
  badCores : List (Nat × Nat)
  /-- Hot-set banks that failed: memory-side die and physical bank (R463). -/
  badBanks : List (Fin 4 × Fin 64)
  /-- Lanes switched to a spare by training: tier, number, channel, lane (R319). -/
  laneSpares : List (Nat × Nat × Nat × Nat)
  /-- Channels that did not train: tier and channel (R322). -/
  badChannels : List (Nat × Nat)
  /-- Post-package repairs that the devices still report for a bank: tier, channel, bank, hard ones, soft ones (R318). -/
  repairs : List (Nat × Nat × Nat × Nat × Nat)
  /-- What the signatures of images A and B verify as in this boot (R476). -/
  images : ImageCheck × ImageCheck
  /-- What the identity check compares (R474). -/
  identity : IdentityCheck
  /-- Did the Vilny link train, and with which lanes (R367)? -/
  vilnyUp : Bool
  vilnyLanes : VilnyLanes
  /-- Clock domains that are not good, by die and domain (R448, R487). -/
  badClocks : List (Fin 8 × Fin 10)
  deriving DecidableEq, Repr

/-- Where a tile that the agreement watcher may sample lies (R230): its row tile and column tile, and the entry of the parameter map
and the row and column at which its stationary load begins (R272). -/
structure SampleAt where
  rowTile : Nat
  colTile : Nat
  entry : Nat
  row : Nat
  col : Nat
  deriving DecidableEq, Repr

/-- The address of a unit's request: an offset of the module's own local map (R302), or a global address (R332). -/
inductive MemAddr where
  | own (offset : Nat)
  | global (addr : Nat)
  deriving DecidableEq, Repr

/-- Who sends a datagram on the management bus, and to whom: IPv6 addresses and UDP ports (R408, R412). -/
structure Requester where
  addr : BitVec 128
  port : BitVec 16
  dst : BitVec 128
  dstPort : BitVec 16
  deriving DecidableEq, Repr

/-- The commands. -/
inductive Instr where
  -- Sequencer operations and what ends them (R104). `f` is the fret whose sequencer issues its next operation.
  /-- NOP. -/
  | nop (f : Issue)
  /-- LOADB: its supply; whether the staged source fails (R194). -/
  | loadb (f : Issue) (supply : Supply) (ue : Bool)
  /-- LOADB_DONE. -/
  | loadbDone (f : FretId)
  /-- SWAPB. -/
  | swapb (f : Issue)
  /-- STREAM: cycles waited at the slot, corrected errors met, its supply, whether the staged source fails, and for the agreement
  watcher the tile's place (R230). -/
  | stream (f : FretId) (wait ce : Nat) (supply : Supply) (ue : Bool) (sample : Option SampleAt)
  /-- SPILL of one slot. -/
  | spill (f : Issue) (slot : Fin 16)
  /-- SUM_BOUND_EXCEEDED for one slot. -/
  | sumBoundExceeded (f : FretId) (slot : Fin 16)
  /-- EPU: cycles waited at the slot. -/
  | epu (f : Issue) (wait : Nat)
  /-- CONV: cycles waited at the slot, whether it lost its column bus (R95), and the tile's place: first line and first block of the whole tensor (R71). -/
  | conv (f : Issue) (wait busWait line block : Nat)
  /-- SEND: waits for the column bus (R95). -/
  | send (f : Issue) (busWait : Nat)
  /-- RECV: its supply; whether the staged source fails. -/
  | recv (f : Issue) (supply : Supply) (ue : Bool)
  /-- RECV_DONE: the supply that completes it. -/
  | recvDone (f : Issue) (supply : Supply)
  /-- BRIDGE: cycles waited at the slot. -/
  | bridge (f : Issue) (wait : Nat)
  /-- BRIDGE_RESULT: the group's first bridge index on a die, or the module level. -/
  | bridgeResult (die : Fin 2) (base : Fin 384)
  /-- PUSH. -/
  | push (f : Issue)
  /-- STAGE_READY: whether staging failed (R194). -/
  | stageReady (f : FretId) (ue : Bool)
  /-- SUMMARY. -/
  | summary (f : Issue)
  /-- SUMMARY_WAIT_END. -/
  | summaryWaitEnd (f : FretId)
  /-- SUMMARY_MAILBOX_ARRIVAL: serving core, and the records firmware takes. -/
  | summaryMailboxArrival (die : Fin 2) (core : Fin 8) (take : Nat)
  /-- LOOP. -/
  | loop (f : Issue)
  /-- WAIT. -/
  | wait (f : Issue)
  /-- WAIT_RELEASE. -/
  | waitRelease (f : FretId)
  /-- SWITCH. -/
  | switch (f : Issue)
  /-- SWITCH_WAIT_END. -/
  | switchWaitEnd (f : FretId)
  /-- HALT. -/
  | halt (f : Issue)
  -- Voicings, phases, fret faults, the fret window
  /-- VOICING_LOAD: a write of FRET.LOAD_CTRL with START, by a privileged master or another. -/
  | voicingLoad (die : Fin 2) (value : BitVec 32) (priv : Bool)
  /-- VOICING_LOAD_DONE: whether a memory error met the load (R101). -/
  | voicingLoadDone (die : Fin 2) (ue : Bool)
  /-- PHASE_START: voicing, admitted bound in cycles, first bridge index and count of frets, and the frame's step
  and micro-batch when a frame runs the phase. -/
  | phaseStart (die : Fin 2) (vid : BitVec 16) (bound : Nat) (first count : Nat) (frame : Option (Nat × Nat))
  /-- OVERRUN. -/
  | overrun (f : FretId)
  /-- PHASE_AT_TWICE_BOUND. -/
  | phaseAtTwiceBound (f : FretId)
  /-- FRET_FAULT: a physical fret, why, and the corrected errors met on the way. -/
  | fretFault (die : Fin 2) (col : Fin 16) (physRow : Fin 25) (report : FretReport)
  /-- SPARE_VOICING_RELOAD_DONE. -/
  | spareVoicingReloadDone (die : Fin 2) (col : Fin 16)
  /-- WINDOW_WRITE: address in the fret window space, width in bytes, data, corrected errors met. -/
  | windowWrite (addr width : Nat) (data : WindowData)
  /-- WINDOW_TIMEOUT: the oldest access that waits on the fret, a write or a read. -/
  | windowTimeout (f : FretId) (write : Bool)
  -- Numerics supervision
  /-- PASS_VERDICT: layer and direction (false forward). -/
  | passVerdict (layer : Nat) (backward : Bool)
  /-- REPEAT_IMAGES_LOADED. -/
  | repeatImagesLoaded (layer : Nat) (backward : Bool)
  /-- STEP_VERDICT: chunks of the summed vector that come down the tree with it, as number and values (R219, R348). -/
  | stepVerdict (arrived : List (Nat × List F32))
  -- Embedding
  /-- TALLY_COMPLETE for a held frame. -/
  | tallyComplete (frame : Nat)
  /-- REMOTE_ROW_READ: requesting node, table, row, step. -/
  | remoteRowRead (source table row step : Nat)
  /-- HELD_READ_RELEASE. -/
  | heldReadRelease
  /-- SCATTER_TERM: table, row, the term, and whether it is its source's last. -/
  | scatterTerm (die : Fin 4) (table row : Nat) (term : ScatterTerm) (last : Bool)
  /-- SORT_MERGE. -/
  | sortMerge (die : Fin 4)
  /-- EXCHANGE_RECORD: source rank and the 16-byte header with its payload. -/
  | exchangeRecord (src : Nat) (record : Bytes)
  /-- EXCHANGE_END_MARKER. -/
  | exchangeEndMarker (src : Nat)
  /-- OWNER_REDUCTION. -/
  | ownerReduction
  /-- HOTSET_PUSH_ROW: owner rank, table, row, class, removal, slot bytes. -/
  | hotsetPushRow (owner table row cls : Nat) (removal : Bool) (payload : Bytes)
  /-- HOTSET_INSTALL_COMPLETE. -/
  | hotsetInstallComplete (step pushed entered left migrations : Nat)
  -- Update and commit
  /-- LAYER_UPDATE: parameter-map entry and its reduced gradient from the bridge, FP32 per element, unless it comes
  from the keep region. -/
  | layerUpdate (entry : Nat) (grad : List F32)
  /-- ROW_UPDATE. -/
  | rowUpdate (table row : Nat)
  /-- MODULE_APPLIED. -/
  | moduleApplied
  /-- COMMIT_VOTE: what arrives of the summed vote (R290, R293). -/
  | commitVote (arrival : VoteArrival)
  /-- STEP_RERUN. -/
  | stepRerun
  /-- VOTE_TIME_LIMIT: what rank 0's commit object answers: its value, or none when it cannot be reached. -/
  | voteTimeLimit (answer : Option (BitVec 64))
  /-- CHECKPOINT. -/
  | checkpoint
  -- Memory
  /-- MEMORY_REQUEST: class, local address, write data or none, length read, corrected and uncorrectable bits met,
  and whether an admitted phase reads it. -/
  | memoryRequest (cls : Nat) (addr : MemAddr) (write : Option Bytes) (len : Nat) (corrected uncorrectable phase : Bool)
  /-- REMAP_COPY_DONE: tier, channel, bank, row. -/
  | remapCopyDone (tier : Fin 2) (chan bank row : Nat)
  /-- SCRUB_PERIOD of a tier. -/
  | scrubPeriod (tier : Fin 2) (lastPassDone : Bool)
  /-- MAINTENANCE_WINDOW_START: spare lanes that training switches in. -/
  | maintenanceWindowStart (lanes : List (Nat × Nat × Nat × Nat))
  /-- MAINTENANCE_WINDOW_END. -/
  | maintenanceWindowEnd
  /-- DRIFT_CHECK: tier, channel, measured drift beyond the limit. -/
  | driftCheck (tier : Fin 2) (chan : Nat) (beyond : Bool)
  /-- CHANNEL_RETRAIN_TRIGGER: corrected symbols attributed to one lane, or parity errors on the interface, in the last 1 ms. -/
  | channelRetrainTrigger (tier : Fin 2) (chan errors : Nat)
  /-- CHANNEL_RETRAIN: duration in ns and lanes switched. -/
  | channelRetrain (tier : Fin 2) (chan duration : Nat) (lanes : List Nat)
  /-- RETRAIN_FAIL. -/
  | retrainFail (tier : Fin 2) (chan : Nat)
  -- Fabric
  /-- LOOPBACK_PASS of a ring: with fewer than 20 lanes a port has not trained. -/
  | loopbackPass (ring : LoopTest)
  /-- PORT_JOIN: the neighbour's node coordinates; its hall extent (3 bytes), zone entries (6) and zone identifier (4) as
  one little-endian number; and how many of the 24 lanes trained. -/
  | portJoin (port : Fin 6) (coord zone : Nat) (lanes : LaneTest)
  /-- JOIN_TIME_LIMIT of a ring. -/
  | joinTimeLimit (ring : Fin 3)
  /-- RING_RETRY of a ring. -/
  | ringRetry (ring : Fin 3)
  /-- LINK_LOSS: the partner dropped out or was replaced. -/
  | linkLoss (port : Fin 6)
  /-- PACKET_TRANSMIT on a port. -/
  | packetTransmit (port : Fin 6)
  /-- PACKET_RECEIVE: the packet's bytes, whether its line code was corrected, whether it could not be. -/
  | packetReceive (port : Fin 6) (packet : Bytes) (corrected uncorrectable : Bool)
  /-- REPLAY_REQUEST naming a sequence number. -/
  | replayRequest (port : Fin 6) (seq : Nat)
  /-- PORT_RETRAIN. -/
  | portRetrain (port : PortTrouble)
  /-- PORT_RETRAIN_DONE: trained lanes. -/
  | portRetrainDone (port : Fin 6) (lanes : LaneTest)
  /-- PORT_FAILED. -/
  | portFailed (port : Fin 6)
  /-- ZONE_FAULT_MESSAGE: the node and port it names. -/
  | zoneFaultMessage (node port : Nat)
  /-- READ: requester, request id, local offset, length. -/
  | read (src id addr len : Nat)
  /-- WRITE. -/
  | write (src id addr : Nat) (data : Bytes)
  /-- COPY: source offset, destination global address, length. -/
  | copy (src id addr dst len : Nat)
  /-- COPY_DONE. -/
  | copyDone (id : Nat) (status : Nat)
  /-- ADD_I64. -/
  | addI64 (src id addr : Nat) (operand : BitVec 64)
  /-- ADD_F32. -/
  | addF32 (src id addr : Nat) (operand : BitVec 32)
  /-- MSG to a receive queue. -/
  | msg (src id queue : Nat) (body : Bytes)
  /-- SYNC sub-operations: requester, id, object, operands; `remote` says whether the fabric carried it. -/
  | syncGet (src id obj : Nat) (remote : Bool)
  | syncSet (src id obj : Nat) (remote : Bool) (value : BitVec 64)
  | syncAdd (src id obj : Nat) (remote : Bool) (value : BitVec 64)
  | syncMax (src id obj : Nat) (remote : Bool) (value : BitVec 64)
  | syncCas (src id obj : Nat) (remote : Bool) (expected value : BitVec 64)
  | syncRecord (src id obj : Nat) (remote : Bool) (value : BitVec 64)
  | syncStepMax (src id obj : Nat) (remote : Bool) (value : BitVec 64)
  | syncStepAdd (src id obj : Nat) (remote : Bool) (value : BitVec 64)
  | syncWait (src id obj : Nat) (remote : Bool) (value : BitVec 64) (limit : Nat)
  /-- SYNC_WAIT_SATISFIED: a place of the wait table. -/
  | syncWaitSatisfied (place : Nat)
  /-- SYNC_WAIT_TIMEOUT. -/
  | syncWaitTimeout (place : Nat)
  /-- REMOTE_REPLY to one of the module's requests: status and data. -/
  | remoteReply (id status : Nat) (data : ReplyData)
  /-- REMOTE_TIMEOUT. -/
  | remoteTimeout (id : Nat)
  /-- BRIDGE_PACKET: what R146 matches, the chunk, the level the sender joins at, op, rows, n and data; `down` for the
  result on its way back. -/
  | bridgePacket (layer tensor pass mb opno chunk level op rows n : Nat) (data : List F32) (down : Bool)
  /-- STEP_SYNC_UPDATE: object 2 or 3 and its new value. -/
  | stepSyncUpdate (delay : Bool) (value : BitVec 64)
  /-- STEP_SYNC_ACK: every acknowledgement of the update is in. -/
  | stepSyncAck (delay : Bool) (value : BitVec 64)
  /-- EXTENSION_POSTED for a held frame. -/
  | extensionPosted (frame : Nat)
  /-- TIME_EXCHANGE: the four stamps' outcome: measured delay in ns, whether the partner is locked, and this module's
  offset from the partner's time in 1/16 ns. -/
  | timeExchange (port : Fin 6) (delay : Nat) (partnerLocked : Bool) (offset : Int)
  /-- TIME_LOCK: the parent's time. -/
  | timeLock (port : Fin 6) (value : Nat)
  /-- PARENT_LOST: the port lost and the neighbour that it locks to, when there is one. -/
  | parentLost (other : Option (Fin 6))
  /-- TIME_UNLOCK. -/
  | timeUnlock
  -- Vilny link and admission
  /-- FLIT_RECEIVE: 256 bytes. -/
  | flitReceive (flit : Bytes)
  /-- VILNY_RETRAIN. -/
  | vilnyRetrain
  /-- VILNY_TRAIN_DONE: trained lanes and the active lane that the spare replaces. -/
  | vilnyTrainDone (lanes : VilnyLanes) (spareFor : Option (Fin 8) × Option (Fin 8))
  /-- VILNY_LINK_DOWN. -/
  | vilnyLinkDown
  /-- VILNY_TRAIN_RETRY. -/
  | vilnyTrainRetry
  /-- Host frames, whole, at their last word (R370). `fabric` is the fabric term, `memory` the tally's places. -/
  | events (frame : Bytes)
  | put (frame : Bytes)
  | rows (frame : Bytes)
  | restore (frame : Bytes)
  | settle (frame : Bytes)
  | snapshotReq (frame : Bytes)
  | readback (frame : Bytes)
  | status (frame : Bytes)
  /-- FRAME_WAIT_LIMIT of a step. -/
  | frameWaitLimit (step : Nat)
  /-- BOUND_EXPIRY of a frame. -/
  | boundExpiry (frame : Nat)
  -- Dictionary and SDP
  /-- SDP requests: the message of R409, the transport (true: management bus), the requester, and for a CONTROL frame
  its frame_id. -/
  | sdpGet (bus : Bool) (req : Requester) (frame : Nat) (message : Bytes)
  | sdpSet (bus : Bool) (req : Requester) (frame : Nat) (message : Bytes)
  | sdpOpen (bus : Bool) (req : Requester) (frame : Nat) (message : Bytes)
  | sdpClose (bus : Bool) (req : Requester) (frame : Nat) (message : Bytes)
  | sdpSubscribe (bus : Bool) (req : Requester) (frame : Nat) (message : Bytes)
  /-- NONCE_EXPIRY of a requester. -/
  | nonceExpiry (bus : Bool) (req : Requester)
  /-- SESSION_IDLE of a session. -/
  | sessionIdle (session : Nat)
  /-- STAGING_IDLE of an entry: index × 256 + subindex. -/
  | stagingIdle (entry : Nat)
  /-- AUTH_LOCKOUT_END. -/
  | authLockoutEnd
  /-- FUNCTION_START of function 1 to 5 (0 training … 4 snapshot). -/
  | functionStart (fn : Fin 5)
  /-- FUNCTION_STOP. -/
  | functionStop (fn : Fin 5)
  /-- STOPPING_COMPLETE. -/
  | stoppingComplete
  /-- REGISTER_DATA_GET by a session of the level. -/
  | registerDataGet (level : Fin 4)
  /-- REGISTER_DATA_SET. -/
  | registerDataSet (level : Fin 4) (value : BitVec 64)
  /-- IMAGE_UPLOAD: the whole staged image. -/
  | imageUpload (image : Bytes)
  /-- ANTI_ROLLBACK_ADVANCE: the value written. -/
  | antiRollbackAdvance (value : BitVec 8)
  /-- OWNER_KEY_ENROLMENT: the public key written. -/
  | ownerKeyEnrolment (key : Bytes)
  /-- ENROLLED_KEYS: the writing session's level and the new entries. -/
  | enrolledKeys (level : Fin 4) (entries : Bytes)
  /-- ATTESTATION_NONCE. -/
  | attestationNonce (nonce : Bytes)
  /-- ATTESTATION_REPORT_READY. -/
  | attestationReportReady
  /-- CALENDAR_SET: ns. -/
  | calendarSet (ns : BitVec 64)
  /-- MASTER_TIME_SET: ns. -/
  | masterTimeSet (ns : BitVec 64)
  -- Registers
  /-- DICE_TEST_START: a write of CONV.DICE_CTR. -/
  | diceTestStart (die : Fin 2) (ctr : BitVec 64)
  /-- DICE_TEST_DONE. -/
  | diceTestDone (die : Fin 2)
  /-- RESTART: a write of CTRL.RESTART with GO. -/
  | restart (die : Fin 2) (value : BitVec 32) (priv : Bool)
  /-- BLOCK_RESET: a write of RST.BLOCK_RESET with GO. -/
  | blockReset (die : Fin 8) (value : BitVec 32) (priv : Bool)
  /-- BLOCK_RESET_DONE. -/
  | blockResetDone (die : Fin 8)
  /-- FLUSH: a write of LIFE.CTRL with FLUSH. -/
  | flush (priv : Bool)
  /-- OTP_PROGRAM_DONE. -/
  | otpProgramDone
  /-- SLOW_WRITE_APPLY of a slow window. -/
  | slowWriteApply (window : Fin 3)
  /-- REGISTER_WRITE: register space address, width, data, whether a privileged or secure master writes. -/
  | registerWrite (addr width : Nat) (data : BitVec 64) (priv : Bool)
  /-- SLOW_CLOCK_EDGE of MGMT (true) or BACKUP (false). -/
  | slowClockEdge (mgmt : Bool)
  -- Reset, clocks, power
  /-- PIN_RESET. -/
  | pinReset
  /-- RESET_N_RELEASE: the low time in ns, and how a time within 40 ns of 2 µs is taken. -/
  | resetNRelease (low : Nat) (asReset : Bool)
  /-- INTERNAL_RESET: the wait in µs since the pin reset started. -/
  | internalReset (waited : Nat)
  /-- POWER_ON_RESET. -/
  | powerOnReset
  /-- VIN_LOSS. -/
  | vinLoss
  /-- VBAK_LOSS. -/
  | vbakLoss
  /-- BRINGUP_PHASE_DONE with what the phase found. -/
  | bringupPhaseDone (found : PhaseFindings)
  /-- PHASE_OVER: the unit that held the phase up: die, block code, unit. -/
  | phaseOver (die : Fin 8) (block unit : Nat)
  /-- CLOCK_GOOD of a domain on a die. -/
  | clockGood (die : Fin 8) (domain : Fin 10)
  /-- CLOCK_UNSTABLE. -/
  | clockUnstable (die : Fin 8) (domain : Fin 10)
  /-- CLOCK_RECOVERY_LIMIT. -/
  | clockRecoveryLimit (die : Fin 8) (domain : Fin 10)
  /-- POWER_STATE_ENTRY. -/
  | powerStateEntry
  /-- POWER_STATE_SETTLED. -/
  | powerStateSettled
  /-- WAKE. -/
  | wake
  /-- WAKE_COMPLETE. -/
  | wakeComplete
  /-- VIN_LOW: the input voltage in mV. -/
  | vinLow (mv : Nat)
  /-- HOT: a die and its junction temperature. -/
  | hot (die : Fin 8) (temp : Nat)
  /-- FAULT_SHUTDOWN: thermal (true) or input. -/
  | faultShutdown (thermal : Bool)
  -- Spares and life
  /-- CORE_FAULT: a die and a logical core. -/
  | coreFault (die : Fin 6) (core : Fin 8)
  /-- MANAGEMENT_CORE_FAULT. -/
  | managementCoreFault (core : Fin 2)
  /-- HOTSET_BANK_FAULT: memory-side die and logical bank. -/
  | hotsetBankFault (die : Fin 4) (bank : Fin 60)
  /-- REGULATOR_PHASE_FAIL of a die rail. -/
  | regulatorPhaseFail (die : Fin 8)
  /-- SPARE_RECORD_REWRITE. -/
  | spareRecordRewrite
  /-- COUNTER_FLUSH. -/
  | counterFlush
  /-- THERMAL_CYCLE of a die. -/
  | thermalCycle (die : Fin 8)
  /-- MGMT_PHY_LINK: up, PLCA active. -/
  | mgmtPhyLink (up active : Bool)
  deriving DecidableEq, Repr

end Sys2Proof
end

