-- ==== Sys2Proof/Decode.lean ====
section
/-! DEFINITION. The commands of a word. The module is a block: the opcode table lists events and gives no row bits,
so no word spells a command. -/

namespace Sys2Proof

/-- The command a word spells by the table's bits: none, as no row gives bits. -/
def decodeTableWord (_nbits _w : Nat) : Option Instr := none

end Sys2Proof
end

