-- ==== Sys2Proof/Machine/Sparse.lean ====
section
/-! DEFINITION. Sparse data: reading a key, writing a key, the canonical form, and little-endian byte strings (R8). -/

namespace Sys2Proof

/-- The value at key `k`; `d` is what an unlisted key reads as. -/
def SMap.get {β : Type} (d : β) (m : SMap β) (k : Nat) : β :=
  match m with
  | [] => d
  | (k', v) :: t => if k' = k then v else SMap.get d t k

/-- The entries of consecutive values from key `k` up: those that differ from `d`. -/
def SMap.listed {β : Type} [DecidableEq β] (d : β) (k : Nat) (vs : List β) : SMap β :=
  match vs with
  | [] => []
  | v :: t => if v = d then SMap.listed d (k + 1) t else (k, v) :: SMap.listed d (k + 1) t

/-- Write consecutive values from key `k` up; writing the value an unlisted key reads as removes the entry. -/
def SMap.setMany {β : Type} [DecidableEq β] (d : β) (m : SMap β) (k : Nat) (vs : List β) : SMap β :=
  (m.filter fun p => p.1 < k) ++ SMap.listed d k vs ++ (m.filter fun p => k + vs.length ≤ p.1)

/-- Write `v` at `k`. -/
def SMap.set {β : Type} [DecidableEq β] (d : β) (m : SMap β) (k : Nat) (v : β) : SMap β := SMap.setMany d m k [v]

/-- The canonical form: keys strictly rising from above `lo`, no entry equal to `d`. -/
def SMap.wfFrom {β : Type} [DecidableEq β] (d : β) (lo : Nat) (m : SMap β) : Bool :=
  match m with
  | [] => true
  | (k, v) :: t => decide (lo ≤ k) && decide (v ≠ d) && SMap.wfFrom d (k + 1) t

/-- The canonical form of sparse data. -/
def SMap.wf {β : Type} [DecidableEq β] (d : β) (m : SMap β) : Bool := SMap.wfFrom d 0 m

/-- Apply `f` to the value at `k`. -/
def SMap.modify {β : Type} [DecidableEq β] (d : β) (m : SMap β) (k : Nat) (f : β → β) : SMap β :=
  SMap.set d m k (f (SMap.get d m k))

/-- Drop every key of the half-open range. -/
def SMap.eraseRange {β : Type} (m : SMap β) (lo n : Nat) : SMap β :=
  m.filter fun p => p.1 < lo || lo + n ≤ p.1

/-- Read `n` consecutive values from key `k` up. -/
def SMap.getMany {β : Type} (d : β) (m : SMap β) (k n : Nat) : List β :=
  (List.range n).map fun i => SMap.get d m (k + i)

/-- The number a byte string stores, least significant byte first (R8). -/
def leNat (bs : Bytes) : Nat :=
  match bs with
  | [] => 0
  | b :: t => b.toNat + 256 * leNat t

/-- The `n` bytes of a number, least significant first (R8). -/
def natLE (n v : Nat) : Bytes :=
  match n with
  | 0 => []
  | n + 1 => BitVec.ofNat 8 v :: natLE n (v / 256)

/-- `n` bytes of a byte string from offset `o`, zero past its end. -/
def byteSlice (bs : Bytes) (o n : Nat) : Bytes :=
  (List.range n).map fun i => bs.getD (o + i) 0

/-- The little-endian number of `n` bytes at offset `o` of a byte string. -/
def leAt (bs : Bytes) (o n : Nat) : Nat := leNat (byteSlice bs o n)

/-- `n` zero bytes. -/
def zeroBytes (n : Nat) : Bytes := List.replicate n 0

/-- The byte string, padded with zeros to exactly `n` bytes. -/
def padTo (n : Nat) (bs : Bytes) : Bytes := (bs ++ zeroBytes (n - bs.length)).take n

/-- Bits [hi:lo] of a number (R7). -/
def bits (v hi lo : Nat) : Nat := (v >>> lo) % pow2 (hi + 1 - lo)

/-- Ceiling division. -/
def ceilDiv (a b : Nat) : Nat := if b = 0 then 0 else (a + b - 1) / b

/-- Round up to a multiple. -/
def roundUp (a b : Nat) : Nat := ceilDiv a b * b

/-- A counter that stops at 0xFFFF_FFFF. -/
def cap32 (n : Nat) : Nat := min n 0xFFFFFFFF

/-- The bytes of ASCII text. -/
def asciiBytes (s : String) : Bytes := s.toList.map fun c => BitVec.ofNat 8 c.toNat

/-- Insert into a list that `le` orders, after its equals. -/
def insertBy {α : Type} (le : α → α → Bool) (x : α) : List α → List α
  | [] => [x]
  | y :: t => if le y x then y :: insertBy le x t else x :: y :: t

/-- A stable sort. -/
def sortBy {α : Type} (le : α → α → Bool) (l : List α) : List α :=
  l.foldl (fun acc x => insertBy le x acc) []

/-- The first `n` items of a list, or none when it has fewer. -/
def takeExact {α : Type} (n : Nat) (l : List α) : Option (List α × List α) :=
  if l.length < n then none else some (l.take n, l.drop n)

/-- Cut a list into pieces of `n`, at most `fuel` of them. -/
def chunk {α : Type} (n : Nat) : Nat → List α → List (List α)
  | 0, _ => []
  | fuel + 1, l => if l.isEmpty then [] else l.take n :: chunk n fuel (l.drop n)

/-- Cut a list into pieces of `n`. -/
def chunks {α : Type} (n : Nat) (l : List α) : List (List α) := chunk n l.length l

end Sys2Proof
end

