-- ==== Sys2Proof/Config.lean ====
section
/-! DEFINITION. What is fixed for one part: its identity, and the values the manual leaves open. Every `opaque` here
is a free value: nothing can be proved about which value it is (log 3, 6, 7). -/

namespace Sys2Proof.Config

/-- The n-th free value drawn by the module: session numbers (R412), nonces (R412, R480), signatures (R480). -/
opaque freeValue : Nat → BitVec 64

/-- Identity constants of the part (R473). -/
opaque serialChars : Fin 12 → BitVec 8
def serial : Bytes := List.ofFn serialChars
opaque macBytes : Fin 6 → BitVec 8
def macAddress : Bytes := List.ofFn macBytes
opaque certBytes : Nat → BitVec 8
opaque certLength : Fin 4097
def certificate : Bytes := (List.range certLength.val).map certBytes
/-- The identity secret in OTP, the public key that is derived from it as an uncompressed point, and the identity key's signature of a
digest (R474, R475, R480): none of them leaves the secure core but through the last two. -/
opaque secret : BitVec 384
opaque derive : BitVec 384 → Fin 96 → BitVec 8
def publicKey : Bytes := 4#8 :: List.ofFn (derive secret)
opaque signWith : BitVec 384 → Bytes → Fin 96 → BitVec 8
def sign (digest : Bytes) : Bytes := List.ofFn (signWith secret digest)
/-- Lot of at most 12 characters, wafer, x and y of each die, in the order of OD 0x1001 to 0x1008. -/
opaque lotChars : Nat → Fin 12 → BitVec 8
opaque lotLength : Nat → Fin 13
def lot (d : Nat) : Bytes := (List.ofFn (lotChars d)).take (lotLength d).val
opaque waferNo : Nat → Fin 25
def wafer (d : Nat) : BitVec 8 := BitVec.ofNat 8 ((waferNo d).val + 1)
opaque dieX : Nat → BitVec 8
opaque dieY : Nat → BitVec 8
/-- The serial of each HBM stack (R473). -/
opaque stackSerial : Nat → Bytes
/-- SHA-384 of the boot ROM (R480). -/
opaque romHash : Bytes
/-- Sensor readings the manual gives no value for (R459): input power in W by time; die power in W and the hottest junction in
°C by die and time. -/
opaque inputPower : Nat → BitVec 16
opaque diePower : Nat → Nat → BitVec 16
opaque dieTemp : Nat → Nat → BitVec 8
/-- Is a block idle that no function owns, by die, block code and time (R445 gives no condition)? -/
opaque unitIdle : Nat → Nat → Nat → Bool
/-- Spare rows provided, by tier, as OD 0x1120.01 shows them: device repair included, which the manual does not number. -/
opaque rowSpares : Nat → BitVec 16
/-- The 256 KiB block of the NV store that holds an item, by the model's item number (R469). -/
opaque nvBlock : Nat → BitVec 8
/-- Does a write of an item erase a block of the NV store, by item, block and time; and how many sub-pulses an erase of a block takes
(R437, R469: open)? -/
opaque nvErases : Nat → Nat → Nat → Bool
opaque nvSubPulses : Nat → Nat
/-- Does a FRAM write fail its read-back check, by the life log's next number and time (R481)? -/
opaque framFails : Nat → Nat → Bool
/-- FRET.FAULT_LOC.CAUSE of a core fault, by die and core: the field's codes name none (R81, R461). -/
opaque coreFaultCause : Nat → Nat → BitVec 4
/-- Does a step program use a unit, by program number, die, block code and unit (R467)? The manual gives no list of a program's units but
its frets. -/
opaque programUses : Nat → Nat → Nat → Nat → Bool
/-- SLOT_ID[5:0] as the straps read at a time (R490). -/
opaque slotStraps : Nat → BitVec 6
/-- The kind of the life-log entry of an identity mismatch (R474 gives none). -/
opaque mismatchKind : BitVec 8
/-- The vendor public key, which holds Vendor (R479). -/
opaque vendorKey : Bytes

/-- scale_min and scale_max of a statistics record whose conversion emitted no scale (R74). -/
opaque noScaleMin : BitVec 8
opaque noScaleMax : BitVec 8
/-- The zero point of a UA4 block that holds a non-finite input (R44, R56), by the block's inputs. -/
opaque nanZero : List (BitVec 32) → BitVec 4

/-- The code that source 0x8 delivers for an INT32 word into INT8 or INT4 (R50, R132): the manual gives the conversion
unit no conversion from integers. By format code and word. -/
opaque intCode : Nat → BitVec 32 → BitVec 8
/-- Did a voicing load read a byte of the image, by its offset, after it was changed while the load was busy (R101)? By
the time of the load's start. -/
opaque readLate : Nat → Nat → Bool
/-- Where the voicings of a step program take a position's row and its validity bit (R252): frets, with the byte offset of the
row and the bit offset of the bit in the operand SRAM, by program, feature slot, event and item. -/
opaque rowPlaces : Nat → Nat → Nat → Nat → List (Nat × Nat × Nat)
/-- Where the voicings that form the loss-gradient seed take its factor 2^c (R221): frets, with the byte offset of the FP32 word in the
operand SRAM. The manual names no place. -/
opaque seedPlaces : List (Nat × Nat)
/-- The place in its tensor, first row and first column, of the tile that a module-level bridge operation delivers
(R296): by voicing_id, operation number and group base. -/
opaque bridgePlace : Nat → Nat → Nat → Nat × Nat
/-- Jexon's cost in cycles of rescaling the carries by the raise of R224, by step. -/
opaque rescaleCost : Nat → Nat
/-- The update write bytes that Jexon gives for a step (R299). -/
opaque updateBytes : Nat → Nat

/-- sgn of a NaN in Lion and FTRL-Proximal (R280). -/
opaque sgnNaN : BitVec 32

/-- The bank in which a tier's controller spare row n of a channel lies (R315). -/
opaque spareBank : Nat → Nat → Nat

/-- What a byte reads as whose read ends in an uncorrectable error or an address error (R302, R311), by local offset. -/
opaque unreadable : Nat → BitVec 8
/-- The bound in ns of a STATUS frame (R372, R390), by frame_id. -/
opaque statusBound : Nat → Nat

/-- The wait in ns for a first admitted step that a snapshot request's bound counts (R391), by frame_id. -/
opaque snapshotWait : Nat → Nat
/-- How far past the moment of its expiry a broken bound reaches, in ns (R355, R368), by frame_id and time. -/
opaque lateRise : Nat → Nat → Nat

/-- The rise in ns of the bounds that an overrun breaks (R111, R385), by voicing_id and step. -/
opaque overrunRise : Nat → Nat → Nat

/-- Cycles of pushing a failed hot-set bank's rows again, a part of the new bounds (R463), by die, bank and time. -/
opaque bankPush : Nat → Nat → Nat → Nat

end Sys2Proof.Config
end

