-- ==== Sys2Proof/Machine/Digest.lean ====
section
/-! DEFINITION. The check sums and signatures the module computes: CRC-32 of IEEE 802.3 (R365, R370), SHA-384 of
FIPS 180-4 and ECDSA P-384 verification of FIPS 186-5 (R475, R479). -/

namespace Sys2Proof

/-- One bit of the reflected CRC-32. -/
def crcBit (c : BitVec 32) : BitVec 32 := if c.getLsbD 0 then (c >>> 1) ^^^ 0xEDB88320#32 else c >>> 1

/-- One byte into the CRC. -/
def crcByte (c : BitVec 32) (b : Byte) : BitVec 32 :=
  (List.range 8).foldl (fun c _ => crcBit c) (c ^^^ b.setWidth 32)

/-- CRC-32, IEEE 802.3 polynomial, of a byte string. -/
def crc32 (bs : Bytes) : BitVec 32 := ~~~ (bs.foldl crcByte 0xFFFFFFFF#32)

namespace Sha384

/-- Round constants 0 to 19. -/
def k0 : List W64 := [
  0x428A2F98D728AE22#64, 0x7137449123EF65CD#64, 0xB5C0FBCFEC4D3B2F#64, 0xE9B5DBA58189DBBC#64,
  0x3956C25BF348B538#64, 0x59F111F1B605D019#64, 0x923F82A4AF194F9B#64, 0xAB1C5ED5DA6D8118#64,
  0xD807AA98A3030242#64, 0x12835B0145706FBE#64, 0x243185BE4EE4B28C#64, 0x550C7DC3D5FFB4E2#64,
  0x72BE5D74F27B896F#64, 0x80DEB1FE3B1696B1#64, 0x9BDC06A725C71235#64, 0xC19BF174CF692694#64,
  0xE49B69C19EF14AD2#64, 0xEFBE4786384F25E3#64, 0x0FC19DC68B8CD5B5#64, 0x240CA1CC77AC9C65#64]

/-- Round constants 20 to 39. -/
def k1 : List W64 := [
  0x2DE92C6F592B0275#64, 0x4A7484AA6EA6E483#64, 0x5CB0A9DCBD41FBD4#64, 0x76F988DA831153B5#64,
  0x983E5152EE66DFAB#64, 0xA831C66D2DB43210#64, 0xB00327C898FB213F#64, 0xBF597FC7BEEF0EE4#64,
  0xC6E00BF33DA88FC2#64, 0xD5A79147930AA725#64, 0x06CA6351E003826F#64, 0x142929670A0E6E70#64,
  0x27B70A8546D22FFC#64, 0x2E1B21385C26C926#64, 0x4D2C6DFC5AC42AED#64, 0x53380D139D95B3DF#64,
  0x650A73548BAF63DE#64, 0x766A0ABB3C77B2A8#64, 0x81C2C92E47EDAEE6#64, 0x92722C851482353B#64]

/-- Round constants 40 to 59. -/
def k2 : List W64 := [
  0xA2BFE8A14CF10364#64, 0xA81A664BBC423001#64, 0xC24B8B70D0F89791#64, 0xC76C51A30654BE30#64,
  0xD192E819D6EF5218#64, 0xD69906245565A910#64, 0xF40E35855771202A#64, 0x106AA07032BBD1B8#64,
  0x19A4C116B8D2D0C8#64, 0x1E376C085141AB53#64, 0x2748774CDF8EEB99#64, 0x34B0BCB5E19B48A8#64,
  0x391C0CB3C5C95A63#64, 0x4ED8AA4AE3418ACB#64, 0x5B9CCA4F7763E373#64, 0x682E6FF3D6B2B8A3#64,
  0x748F82EE5DEFB2FC#64, 0x78A5636F43172F60#64, 0x84C87814A1F0AB72#64, 0x8CC702081A6439EC#64]

/-- Round constants 60 to 79. -/
def k3 : List W64 := [
  0x90BEFFFA23631E28#64, 0xA4506CEBDE82BDE9#64, 0xBEF9A3F7B2C67915#64, 0xC67178F2E372532B#64,
  0xCA273ECEEA26619C#64, 0xD186B8C721C0C207#64, 0xEADA7DD6CDE0EB1E#64, 0xF57D4F7FEE6ED178#64,
  0x06F067AA72176FBA#64, 0x0A637DC5A2C898A6#64, 0x113F9804BEF90DAE#64, 0x1B710B35131C471B#64,
  0x28DB77F523047D84#64, 0x32CAAB7B40C72493#64, 0x3C9EBE0A15C9BEBC#64, 0x431D67C49C100D4C#64,
  0x4CC5D4BECB3E42B6#64, 0x597F299CFC657E2A#64, 0x5FCB6FAB3AD6FAEC#64, 0x6C44198C4A475817#64]

/-- All eighty round constants. -/
def ks : List W64 := k0 ++ k1 ++ k2 ++ k3

/-- The initial hash value. -/
def h0 : List W64 := [
  0xCBBB9D5DC1059ED8#64, 0x629A292A367CD507#64, 0x9159015A3070DD17#64, 0x152FECD8F70E5939#64,
  0x67332667FFC00B31#64, 0x8EB44A8768581511#64, 0xDB0C2E0D64F98FA7#64, 0x47B5481DBEFA4FA4#64]

def bsig0 (x : W64) : W64 := x.rotateRight 28 ^^^ x.rotateRight 34 ^^^ x.rotateRight 39
def bsig1 (x : W64) : W64 := x.rotateRight 14 ^^^ x.rotateRight 18 ^^^ x.rotateRight 41
def ssig0 (x : W64) : W64 := x.rotateRight 1 ^^^ x.rotateRight 8 ^^^ (x >>> 7)
def ssig1 (x : W64) : W64 := x.rotateRight 19 ^^^ x.rotateRight 61 ^^^ (x >>> 6)

/-- A big-endian number. -/
def beNat (bs : Bytes) : Nat := bs.foldl (fun a b => a * 256 + b.toNat) 0

/-- The `n` bytes of a number, most significant first. -/
def natBE (n v : Nat) : Bytes := (natLE n v).reverse

/-- The message with its padding. -/
def padded (m : Bytes) : Bytes :=
  m ++ [0x80#8] ++ zeroBytes ((239 - m.length % 128) % 128) ++ natBE 16 (8 * m.length)

/-- The next word of the schedule goes to the front of the words so far, newest first. -/
def schedStep (ws : List W64) : List W64 :=
  (ssig1 (ws.getD 1 0) + ws.getD 6 0 + ssig0 (ws.getD 14 0) + ws.getD 15 0) :: ws

/-- The eighty schedule words of a block. -/
def schedule (blk : Bytes) : List W64 :=
  let w := (List.range 16).map fun i => BitVec.ofNat 64 (beNat (byteSlice blk (8 * i) 8))
  ((List.range 64).foldl (fun ws _ => schedStep ws) w.reverse).reverse

/-- One round on the eight working words. -/
def round (st : List W64) (kw : W64 × W64) : List W64 :=
  let a := st.getD 0 0
  let b := st.getD 1 0
  let c := st.getD 2 0
  let d := st.getD 3 0
  let e := st.getD 4 0
  let f := st.getD 5 0
  let g := st.getD 6 0
  let h := st.getD 7 0
  let t1 := h + bsig1 e + ((e &&& f) ^^^ (~~~e &&& g)) + kw.1 + kw.2
  let t2 := bsig0 a + ((a &&& b) ^^^ (a &&& c) ^^^ (b &&& c))
  [t1 + t2, a, b, c, d + t1, e, f, g]

/-- One block. -/
def block (h : List W64) (blk : Bytes) : List W64 :=
  List.zipWith (· + ·) h ((ks.zip (schedule blk)).foldl round h)

/-- The 48-byte digest. -/
def hash (m : Bytes) : Bytes :=
  (((chunks 128 (padded m)).foldl block h0).take 6).flatMap fun w => natBE 8 w.toNat

end Sha384

namespace P384

/-- The field prime, the order of the base point, and the curve's b. -/
def p : Nat := 0xFFFFFFFFFFFFFFFFFFFFFFFFFFFFFFFFFFFFFFFFFFFFFFFFFFFFFFFFFFFFFFFEFFFFFFFF0000000000000000FFFFFFFF
def n : Nat := 0xFFFFFFFFFFFFFFFFFFFFFFFFFFFFFFFFFFFFFFFFFFFFFFFFC7634D81F4372DDF581A0DB248B0A77AECEC196ACCC52973
def b : Nat := 0xB3312FA7E23EE7E4988E056BE3F82D19181D9C6EFE8141120314088F5013875AC656398D8A2ED19D2A85C8EDD3EC2AEF
/-- The base point. -/
def gx : Nat := 0xAA87CA22BE8B05378EB1C71EF320AD746E1D3B628BA79B9859F741E082542A385502F25DBF55296C3A545E3872760AB7
def gy : Nat := 0x3617DE4A96262C6F5D9E98BF9292DC29F8F41DBD289A147CE9DA3113B5F0B8C00A60B1CE1D7E819D7A431D7C90EA0E5F

/-- a − b in the field, for reduced operands. -/
def sub (a b : Nat) : Nat := (a + (p - b % p)) % p

/-- a to the `e`, modulo `q`: bits of e from `k` − 1 down. -/
def powMod (q a e : Nat) : Nat → Nat → Nat
  | 0, r => r
  | k + 1, r => powMod q a e k (if (e >>> k) % 2 = 1 then r * r % q * a % q else r * r % q)

/-- The inverse modulo a prime. -/
def inv (q a : Nat) : Nat := powMod q (a % q) (q - 2) 384 1

/-- A point in Jacobian coordinates; z = 0 is the point at infinity. -/
structure Pt where
  x : Nat
  y : Nat
  z : Nat
  deriving DecidableEq, Repr

def double (a : Pt) : Pt :=
  if a.z = 0 || a.y = 0 then ⟨1, 1, 0⟩
  else
    let z2 := a.z * a.z % p
    let m := 3 * (sub a.x z2) * (a.x + z2) % p
    let y2 := a.y * a.y % p
    let s := 4 * a.x * y2 % p
    let x := sub (m * m % p) (2 * s % p)
    ⟨x, sub (m * (sub s x) % p) (8 * y2 * y2 % p), 2 * a.y * a.z % p⟩

def add (a c : Pt) : Pt :=
  if a.z = 0 then c
  else if c.z = 0 then a
  else
    let za := a.z * a.z % p
    let zc := c.z * c.z % p
    let u1 := a.x * zc % p
    let u2 := c.x * za % p
    let s1 := a.y * zc * c.z % p
    let s2 := c.y * za * a.z % p
    if u1 = u2 then (if s1 = s2 then double a else ⟨1, 1, 0⟩)
    else
      let h := sub u2 u1
      let r := sub s2 s1
      let h2 := h * h % p
      let h3 := h * h2 % p
      let v := u1 * h2 % p
      let x := sub (sub (r * r % p) h3) (2 * v % p)
      ⟨x, sub (r * (sub v x) % p) (s1 * h3 % p), h * a.z * c.z % p⟩

/-- k times a point: bits of k from `i` − 1 down. -/
def mulPt (k : Nat) (a : Pt) : Nat → Pt → Pt
  | 0, r => r
  | i + 1, r => mulPt k a i (if (k >>> i) % 2 = 1 then add (double r) a else double r)

/-- Is (x, y) a point of the curve? -/
def onCurve (x y : Nat) : Bool := x < p && y < p && y * y % p = (x * x % p * x + (p - 3) * x + b) % p

/-- ECDSA verification: a 97-byte uncompressed public key, a 96-byte signature r then s, and the 48-byte digest
(R475, R479). -/
def verify (key sig digest : Bytes) : Bool :=
  let x := Sha384.beNat (byteSlice key 1 48)
  let y := Sha384.beNat (byteSlice key 49 48)
  let r := Sha384.beNat (byteSlice sig 0 48)
  let s := Sha384.beNat (byteSlice sig 48 48)
  if key.length ≠ 97 || sig.length ≠ 96 || key.getD 0 0 ≠ 4#8 || !onCurve x y then false
  else if r = 0 || s = 0 || n ≤ r || n ≤ s then false
  else
    let w := inv n s
    let u1 := Sha384.beNat digest * w % n
    let u2 := r * w % n
    let q := add (mulPt u1 ⟨gx, gy, 1⟩ 384 ⟨1, 1, 0⟩) (mulPt u2 ⟨x, y, 1⟩ 384 ⟨1, 1, 0⟩)
    if q.z = 0 then false
    else
      let zi := inv p q.z
      decide (q.x * zi % p * zi % p % n = r)

end P384
end Sys2Proof
end

