-- ==== Sys2Proof/Machine/Dice.lean ====
section
/-! DEFINITION. The dice generator: mix4, the key schedule and the counters (R67 to R71). -/

namespace Sys2Proof
namespace Dice

/-- mult[i] of R71. -/
def mult (i : Nat) : W64 :=
  match i with
  | 0 => 0xB5A91C37E84D0F63#64
  | 1 => 0x9D3F62A4C1B758E5#64
  | 2 => 0xE4C70B963A5D27F1#64
  | _ => 0xA18ED753694BC02D#64

/-- shift[i] of R71. -/
def shift (i : Nat) : Nat :=
  match i with
  | 0 => 31
  | 1 => 29
  | 2 => 32
  | _ => 27

/-- wk of R71. -/
def wk : W64 := 0x7F4E2C91B3A65D07#64
/-- k0 of R71. -/
def k0 : W64 := 0x5C3A91E60DB4F72B#64

/-- One of the four rounds of mix4. -/
def round (key : W64) (v : W64) (i : Nat) : W64 :=
  let v := v ^^^ (key + BitVec.ofNat 64 i * wk)
  let v := v * mult i
  v ^^^ (v >>> shift i)

/-- mix4 (R71). -/
def mix4 (v key : W64) : W64 := round key (round key (round key (round key v 0) 1) 2) 3

/-- The tensor key of R71 from the run seed, the step number and w2. -/
def tensorKey (seed step w2 : W64) : W64 :=
  mix4 (mix4 (mix4 seed k0 ^^^ step) k0 ^^^ w2) k0

/-- The counter of word w of block b on line r (R68). -/
def counter (r b w : Nat) : W64 := BitVec.ofNat 64 ((r <<< 24) ||| (b <<< 3) ||| w)

/-- The tensor key word w2 (R69). -/
def keyWord (layer tensor mb pass scope node : Nat) : W64 :=
  BitVec.ofNat 64 (((layer % 0x10000) <<< 48) ||| ((tensor % 0x100) <<< 40) ||| ((mb % 0x100) <<< 32)
    ||| ((pass % 16) <<< 28) ||| ((scope % 2) <<< 27) ||| (if scope % 2 = 1 then node % 0x8000 else 0))

/-- The 16 dice bits of element k of block b on line r (R67). -/
def dice16 (key : W64) (r b k : Nat) : Nat :=
  bits (mix4 (counter r b (k / 4)) key).toNat (16 * (k % 4) + 15) (16 * (k % 4))

end Dice
end Sys2Proof
end

