-- ==== Sys2Proof/Machine/Fp32.lean ====
section
/-! DEFINITION. FP32 arithmetic from exact values: unpacking, exact sums and products, one rounding to nearest even
(R46, R57, R58, R118, R154, R155). -/

namespace Sys2Proof

/-- An exact value: NaN, an infinity, or (−1)^neg × m × 2^e. -/
inductive FpVal where
  | nan
  | inf (neg : Bool)
  | fin (neg : Bool) (m : Nat) (e : Int)
  deriving DecidableEq, Repr

namespace Fp

/-- floor(log2 n) for n > 0, by halving; 0 for 0. -/
def log2 (n : Nat) : Nat := Nat.log2 n

/-- The canonical quiet NaN (R46). -/
def qnan : F32 := 0x7FC00000#32
/-- The largest finite magnitude's bits. -/
def maxFin : Nat := 0x7F7FFFFF
/-- 1.0 -/
def one : F32 := 0x3F800000#32
/-- ±0, ±Inf. -/
def zero (neg : Bool) : F32 := if neg then 0x80000000#32 else 0#32
/-- ±Inf. -/
def infty (neg : Bool) : F32 := if neg then 0xFF800000#32 else 0x7F800000#32

def isNaN (x : F32) : Bool := 0x7F800000 < x.toNat % 0x80000000
def isInf (x : F32) : Bool := x.toNat % 0x80000000 == 0x7F800000
def isFinite (x : F32) : Bool := x.toNat % 0x80000000 < 0x7F800000
def isZero (x : F32) : Bool := x.toNat % 0x80000000 == 0
def sign (x : F32) : Bool := 0x80000000 ≤ x.toNat

/-- The exact value of FP32 bits (R39 with e = 8, m = 23; R46). -/
def unpack (x : F32) : FpVal :=
  let n := x.toNat
  let ex := bits n 30 23
  let f := n % 0x800000
  if ex = 255 then (if f = 0 then .inf (sign x) else .nan)
  else if ex = 0 then .fin (sign x) f (-149)
  else .fin (sign x) (f + 0x800000) ((ex : Int) - 150)

/-- Rounding modes of a grid (R58 to R60). -/
inductive Mode where
  | rne
  | sr (rnd : Nat)
  | rtz
  deriving DecidableEq, Repr

/-- The rounding of R57: the exponent e of the value's binade (not below emin), and the multiple of
u = 2^(e − mb) that the magnitude m × 2^ex rounds to. The value is q × 2^(e − mb). -/
def roundGrid (mode : Mode) (mb : Nat) (emin : Int) (m : Nat) (ex : Int) : Int × Nat :=
  if m = 0 then (emin, 0) else
    let e := max (ex + (log2 m : Int)) emin
    let sh := ex - (e - (mb : Int))
    if 0 ≤ sh then (e, m <<< sh.toNat)
    else
      let k := (-sh).toNat
      let q := m >>> k
      let r := m % pow2 k
      let up := match mode with
        | .rne => decide (pow2 k < 2 * r) || (decide (2 * r = pow2 k) && q % 2 == 1)
        | .sr rnd => decide (rnd < (r <<< 16) >>> k)
        | .rtz => false
      (e, if up then q + 1 else q)

/-- The sign-less code of a grid result: exponent field and mantissa field together. -/
def gridCode (mb : Nat) (emin : Int) (p : Int × Nat) : Nat := (p.1 - emin).toNat * pow2 mb + p.2

/-- Round a finite magnitude to FP32 bits without sign, RNE, before any overflow rule. -/
def magRne (m : Nat) (e : Int) : Nat := gridCode 23 (-126) (roundGrid .rne 23 (-126) m e)

/-- Attach a sign to a magnitude's bits. -/
def withSign (neg : Bool) (mag : Nat) : F32 := BitVec.ofNat 32 (mag + if neg then 0x80000000 else 0)

/-- One rounding to FP32 with RNE and IEEE 754 overflow to Inf (R154). -/
def pack : FpVal → F32
  | .nan => qnan
  | .inf neg => infty neg
  | .fin neg m e =>
    let c := magRne m e
    if 0x7F800000 ≤ c then infty neg else withSign neg c

/-- Is the magnitude m × 2^e above the largest finite FP32 value (2^24 − 1) × 2^104? -/
def beyondMax (m : Nat) (e : Int) : Bool :=
  if 104 ≤ e then decide (0xFFFFFF < m <<< (e - 104).toNat)
  else decide (0xFFFFFF <<< (104 - e).toNat < m)

/-- One rounding to FP32 with RNE where a finite value beyond the largest finite one saturates
(R62, R87, R118); the flag says that it did. -/
def packSat : FpVal → F32 × Bool
  | .nan => (qnan, false)
  | .inf neg => (infty neg, false)
  | .fin neg m e => if beyondMax m e then (withSign neg maxFin, true) else (withSign neg (magRne m e), false)

/-- The signed mantissa of a finite value at exponent `e0` not above its own. -/
def atExp (neg : Bool) (m : Nat) (e e0 : Int) : Int :=
  let v : Nat := m <<< (e - e0).toNat
  if neg then -(v : Int) else (v : Int)

/-- The exact sum; the sign of a zero sum follows IEEE 754 under RNE. -/
def exactAdd : FpVal → FpVal → FpVal
  | .nan, _ => .nan
  | _, .nan => .nan
  | .inf a, .inf b => if a = b then .inf a else .nan
  | .inf a, _ => .inf a
  | _, .inf b => .inf b
  | .fin n1 m1 e1, .fin n2 m2 e2 =>
    let e0 := min e1 e2
    let s := atExp n1 m1 e1 e0 + atExp n2 m2 e2 e0
    if s = 0 then .fin (n1 && n2) 0 0 else .fin (decide (s < 0)) s.natAbs e0

/-- The exact product. -/
def exactMul : FpVal → FpVal → FpVal
  | .nan, _ => .nan
  | _, .nan => .nan
  | .inf a, .inf b => .inf (a != b)
  | .inf a, .fin n m _ => if m = 0 then .nan else .inf (a != n)
  | .fin n m _, .inf b => if m = 0 then .nan else .inf (n != b)
  | .fin n1 m1 e1, .fin n2 m2 e2 => .fin (n1 != n2) (m1 * m2) (e1 + e2)

/-- The value times 2^k. -/
def scale (k : Int) : FpVal → FpVal
  | .fin n m e => .fin n m (e + k)
  | v => v

def negate (x : F32) : F32 := x ^^^ 0x80000000#32
def abs (x : F32) : F32 := x &&& 0x7FFFFFFF#32

/-- a + b, RNE (R154). -/
def add (a b : F32) : F32 := pack (exactAdd (unpack a) (unpack b))
/-- a × b, RNE (R154). -/
def mul (a b : F32) : F32 := pack (exactMul (unpack a) (unpack b))
/-- a − b, RNE (R154). -/
def sub (a b : F32) : F32 := if isNaN b then qnan else add a (negate b)
/-- a + t with saturation, and whether it saturated: the rounded sum of finite values is beyond the largest finite
value, which R122 calls "not finite" (R118; DEDUCED, log 30). -/
def addSat (a t : F32) : F32 × Bool :=
  match exactAdd (unpack a) (unpack t) with
  | .fin neg m e =>
    let c := magRne m e
    if 0x7F800000 ≤ c then (withSign neg maxFin, true) else (withSign neg c, false)
  | v => (pack v, false)

/-- a quotient of finite magnitudes, exact but for a sticky last bit: 64 bits more than FP32 needs. -/
def quot (m1 : Nat) (e1 : Int) (m2 : Nat) (e2 : Int) : Nat × Int :=
  let k := 96 + log2 m2
  let n := m1 <<< k
  let q := n / m2
  (2 * q + (if n % m2 = 0 then 0 else 1), e1 - e2 - (k : Int) - 1)

/-- a / b (R155). -/
def div (a b : F32) : F32 :=
  match unpack a, unpack b with
  | .nan, _ => qnan
  | _, .nan => qnan
  | .inf _, .inf _ => qnan
  | .inf s, .fin n _ _ => infty (s != n)
  | .fin s _ _, .inf n => zero (s != n)
  | .fin s m1 e1, .fin n m2 e2 =>
    if m2 = 0 then (if m1 = 0 then qnan else infty (s != n))
    else if m1 = 0 then zero (s != n)
    else let p := quot m1 e1 m2 e2; pack (.fin (s != n) p.1 p.2)

/-- RCP: 1 / a (R155). -/
def rcp (a : F32) : F32 := div one a

/-- floor of the square root, one bit of the root at a time from bit `k` down. -/
def isqrtAux (n : Nat) : Nat → Nat → Nat
  | 0, r => r
  | k + 1, r => let t := r + pow2 k; isqrtAux n k (if t * t ≤ n then t else r)

/-- floor of the square root. -/
def isqrt (n : Nat) : Nat := isqrtAux n (log2 n / 2 + 1) 0

/-- The square root of m × 2^e, with a sticky last bit. -/
def rootOf (m : Nat) (e : Int) : Nat × Int :=
  let par : Nat := (e % 2).toNat
  let n := (m <<< par) <<< 128
  let e2 := e - (par : Int) - 128
  let r := isqrt n
  (2 * r + (if r * r = n then 0 else 1), e2 / 2 - 1)

/-- SQRT (R155). -/
def sqrt (a : F32) : F32 :=
  match unpack a with
  | .nan => qnan
  | .inf s => if s then qnan else infty false
  | .fin s m e => if m = 0 then zero s else if s then qnan else
      let p := rootOf m e; pack (.fin false p.1 p.2)

/-- RSQ: the reciprocal square root (R155). -/
def rsq (a : F32) : F32 :=
  match unpack a with
  | .nan => qnan
  | .inf s => if s then qnan else zero false
  | .fin s m e =>
    if m = 0 then infty s else if s then qnan else
      let par : Nat := (e % 2).toNat
      let m' := m <<< par
      let h := (e - (par : Int)) / 2
      let n := pow2 192
      let r := isqrt (n / m')
      pack (.fin false (2 * r + (if r * r * m' = n then 0 else 1)) (-96 - h - 1))

/-- Fixed-point one for EXP2 and LOG2: 256 fraction bits. -/
def fx : Nat := 256

/-- The roots 2^(1/2), 2^(1/4), …: for each fraction bit that is set, multiply by the root; truncated at 256
bits, far below the spacing of FP32 results. -/
def exp2Frac (f : Nat) : Nat → Nat → Nat → Nat
  | 0, _, acc => acc
  | k + 1, root, acc =>
    let root' := isqrt (root <<< fx)
    let acc' := if (f >>> k) % 2 = 1 then (acc * root') >>> fx else acc
    exp2Frac f k root' acc'

/-- EXP2 (R155). -/
def exp2 (a : F32) : F32 :=
  match unpack a with
  | .nan => qnan
  | .inf s => if s then zero false else infty false
  | .fin s m e =>
    if m = 0 then one
    else if 8 ≤ e + (log2 m : Int) then (if s then zero false else infty false)
    else
      -- a × 2^160 as an integer: exact, since e ≥ −149
      let v : Int := let w : Nat := m <<< (e + 160).toNat; if s then -(w : Int) else (w : Int)
      let i := v.fdiv (pow2 160 : Int)
      let f := (v - i * (pow2 160 : Int)).toNat
      if f = 0 then pack (.fin false 1 i)
      else
        let p := exp2Frac f 160 (pow2 (fx + 1)) (pow2 fx)
        pack (.fin false (2 * p + 1) (i - (fx : Int) - 1))

/-- `k` fraction bits of log2 of y / 2^fx, for y / 2^fx in [1, 2), by repeated squaring. -/
def log2Bits : Nat → Nat → Nat → Nat
  | 0, _, acc => acc
  | k + 1, y, acc =>
    let y2 := (y * y) >>> (2 * fx)
    if pow2 (2 * fx + 1) ≤ y2 then log2Bits k (y2 >>> 1) (2 * acc + 1) else log2Bits k y2 (2 * acc)

/-- LOG2 (R155). -/
def log2f (a : F32) : F32 :=
  match unpack a with
  | .nan => qnan
  | .inf s => if s then qnan else infty false
  | .fin s m e =>
    if m = 0 then infty true else if s then qnan else
      let k := log2 m
      let i : Int := e + (k : Int)
      if m = pow2 k then (if i = 0 then zero false else pack (.fin (decide (i < 0)) i.natAbs 0))
      else
        let f := log2Bits 128 (m <<< (2 * fx - k)) 0
        let v : Int := i * (pow2 128 : Int) + (f : Int)
        pack (.fin (decide (v < 0)) (2 * v.natAbs + 1) (-129))

/-- A signed integer as FP32 with RNE (I2F, and F of R278 for U64). -/
def ofInt (i : Int) : F32 := pack (.fin (decide (i < 0)) i.natAbs 0)
/-- A natural number as FP32 with RNE. -/
def ofNat (n : Nat) : F32 := pack (.fin false n 0)

/-- The integer floor of a finite value. -/
def floorInt (neg : Bool) (m : Nat) (e : Int) : Int :=
  let v : Int := if neg then -(m : Int) else (m : Int)
  if 0 ≤ e then v * (pow2 e.toNat : Int) else v.fdiv (pow2 (-e).toNat : Int)

/-- FLOOR: the largest integral FP32 value not above a (R167); a zero keeps its sign. -/
def floor (a : F32) : F32 :=
  match unpack a with
  | .nan => qnan
  | .inf s => infty s
  | .fin s m e => if m = 0 then zero s else
      let i := floorInt s m e
      if i = 0 then zero s else ofInt i

/-- Round a finite value to an integer: 0 RNE, 1 RTZ, 2 toward −Inf. -/
def roundInt (mode : Nat) (neg : Bool) (m : Nat) (e : Int) : Int :=
  if 0 ≤ e then floorInt neg m e
  else
    let k := (-e).toNat
    let q := m >>> k
    let r := m % pow2 k
    let sgn : Int → Int := fun v => if neg then -v else v
    if mode = 1 then sgn q
    else if mode = 2 then floorInt neg m e
    else sgn (if pow2 k < 2 * r || (2 * r = pow2 k && q % 2 == 1) then (q + 1 : Nat) else q)

/-- F2I (R156): saturates; 0 for NaN. -/
def f2i (mode : Nat) (a : F32) : F32 :=
  match unpack a with
  | .nan => 0#32
  | .inf s => if s then 0x80000000#32 else 0x7FFFFFFF#32
  | .fin s m e =>
    let i := roundInt mode s m e
    if i > 0x7FFFFFFF then 0x7FFFFFFF#32 else if i < -0x80000000 then 0x80000000#32 else BitVec.ofInt 32 i

/-- A key that rises with the value: −Inf … −0, +0 … +Inf (NaN not used). -/
def rank (x : F32) : Int := if sign x then -1 - ((x.toNat % 0x80000000 : Nat) : Int) else (x.toNat : Int)

/-- Comparisons of numbers: −0 equals +0, and any comparison with NaN is false (R167 FCMP). -/
def lt (a b : F32) : Bool :=
  !isNaN a && !isNaN b && !(isZero a && isZero b) && decide (rank a < rank b)
def eq (a b : F32) : Bool := !isNaN a && !isNaN b && ((isZero a && isZero b) || a == b)
def le (a b : F32) : Bool := lt a b || eq a b

/-- MIN and MAX (R154): NaN if either is NaN; −0 below +0. -/
def fmin (a b : F32) : F32 := if isNaN a || isNaN b then qnan else if rank a ≤ rank b then a else b
def fmax (a b : F32) : F32 := if isNaN a || isNaN b then qnan else if rank a ≤ rank b then b else a

/-- The total order of R141, from lowest to highest: −Inf, negatives, −0, +0, positives, +Inf, NaN. -/
def rank141 (x : F32) : Int := if isNaN x then 0x100000000 else rank x

/-- The upper 16 bits grid: round an exact value to BF16 with the mode; finite values beyond 0x7F7F saturate
(R57, R62); the result is widened FP32 bits, with the saturation flag. -/
def roundTop (mb : Nat) (mode : Mode) (v : FpVal) : F32 × Bool :=
  match v with
  | .nan => (qnan, false)
  | .inf s => (infty s, false)
  | .fin s m e =>
    let drop := 23 - mb
    let top := (maxFin >>> drop) <<< drop
    let p := roundGrid mode mb (-126) m e
    -- the largest finite value of the grid is (2^(mb+1) − 1) × 2^(127 − mb)
    let lim := pow2 (mb + 1) - 1
    let ex : Int := 127 - (mb : Int)
    let tooBig := if ex ≤ e then decide (lim < m <<< (e - ex).toNat) else decide (lim <<< (ex - e).toNat < m)
    if tooBig then (withSign s top, true) else (withSign s (gridCode mb (-126) p <<< drop), false)

/-- BF16 by RNE in the EPU's sense (R154: leaves narrowed with RNE; no saturation is stated there, so overflow gives
Inf as R154 says). -/
def toBf16Epu (x : F32) : BitVec 16 :=
  match unpack x with
  | .nan => 0x7FC0#16
  | .inf s => if s then 0xFF80#16 else 0x7F80#16
  | .fin s m e =>
    let c := gridCode 7 (-126) (roundGrid .rne 7 (-126) m e)
    BitVec.ofNat 16 ((min c 0x7F80) + if s then 0x8000 else 0)

/-- A BF16 code widened exactly to FP32 (R154). -/
def ofBf16 (b : Nat) : F32 := BitVec.ofNat 32 ((b % 65536) <<< 16)

/-- Signed value of INT32 bits. -/
def toI (x : F32) : Int := x.toInt

/-- INT32 addition that saturates, with the flag (R119). -/
def addInt (a : F32) (t : Int) : F32 × Bool :=
  let s := a.toInt + t
  if s > 0x7FFFFFFF then (0x7FFFFFFF#32, true)
  else if s < -0x80000000 then (0x80000000#32, true)
  else (BitVec.ofInt 32 s, false)

end Fp
end Sys2Proof
end

