-- ==== Sys2Proof/Machine/Formats.lean ====
section
/-! DEFINITION. The number formats: element encodings, block scales, rounding, conversion and its statistics
(R34 to R66, R73, R74). -/

namespace Sys2Proof

/-- The statistics one conversion gathers (R73, R74), before layer, tensor, pass, format and mode are attached. -/
structure ConvStat where
  elements : Nat
  sats : Nat
  unders : Nat
  nonfin : Nat
  clamps : Nat
  /-- Sum of squared errors. -/
  sse : F32
  /-- Sum of squared inputs. -/
  ssi : F32
  maxAbs : F32
  /-- Smallest E8M0 code emitted other than 0xFF; none while none was emitted. -/
  scMin : Option Nat
  /-- Largest E8M0 code emitted other than 0xFF. -/
  scMax : Option Nat
  deriving DecidableEq, Repr

namespace ConvStat

/-- No element yet. -/
def empty : ConvStat := ⟨0, 0, 0, 0, 0, 0#32, 0#32, 0#32, none, none⟩

/-- The smaller, or larger, of two optional values. -/
def optBy (f : Nat → Nat → Nat) : Option Nat → Option Nat → Option Nat
  | none, b => b
  | a, none => a
  | some a, some b => some (f a b)

/-- Two statistics in order: the sums add in FP32 with RNE (R73, R74). -/
def join (a b : ConvStat) : ConvStat :=
  { elements := a.elements + b.elements
    sats := cap32 (a.sats + b.sats)
    unders := cap32 (a.unders + b.unders)
    nonfin := cap32 (a.nonfin + b.nonfin)
    clamps := cap32 (a.clamps + b.clamps)
    sse := Fp.add a.sse b.sse
    ssi := Fp.add a.ssi b.ssi
    maxAbs := Fp.fmax a.maxAbs b.maxAbs
    scMin := optBy min a.scMin b.scMin
    scMax := optBy max a.scMax b.scMax }

/-- One non-padding element with input x and decoded result d (R73 item 1). -/
def addElem (s : ConvStat) (x d : F32) (sat under : Bool) : ConvStat :=
  let e := Fp.sub x d
  { s with
    elements := s.elements + 1
    sats := cap32 (s.sats + if sat then 1 else 0)
    unders := cap32 (s.unders + if under then 1 else 0)
    sse := Fp.add s.sse (Fp.mul e e)
    ssi := Fp.add s.ssi (Fp.mul x x)
    maxAbs := Fp.fmax s.maxAbs (Fp.abs x) }

/-- One element that only counts as non-finite. -/
def addNonfin (s : ConvStat) : ConvStat :=
  { s with elements := s.elements + 1, nonfin := cap32 (s.nonfin + 1) }

end ConvStat

namespace Fmt

/-- Format codes (R34). -/
def fp32 : Nat := 0
def bf16 : Nat := 1
def s24 : Nat := 2
def e4m3 : Nat := 3
def e5m2 : Nat := 4
def e3m2 : Nat := 5
def e2m3 : Nat := 6
def mxfp4 : Nat := 7
def n3 : Nat := 8
def n2 : Nat := 9
def ua4 : Nat := 10
def l8 : Nat := 11
def int8 : Nat := 12
def int4 : Nat := 13
def int32 : Nat := 14

/-- The block formats 0x3 to 0xA (R34). -/
def isBlock (f : Nat) : Bool := 3 ≤ f && f ≤ 10

/-- Integer formats (R34, R50). -/
def isInt (f : Nat) : Bool := f = 12 || f = 13 || f = 14

/-- Element bits (R34). -/
def width (f : Nat) : Nat :=
  match f with
  | 0 => 32 | 1 => 16 | 2 => 24 | 3 => 8 | 4 => 8 | 5 => 6 | 6 => 6 | 7 => 4 | 8 => 3 | 9 => 2 | 10 => 4
  | 11 => 8 | 12 => 8 | 13 => 4 | 14 => 32 | _ => 0

/-- Exponent bits, mantissa bits and bias of a floating-point element (R39). -/
def params (f : Nat) : Nat × Nat × Nat :=
  match f with
  | 3 => (4, 3, 7) | 4 => (5, 2, 15) | 5 => (3, 2, 3) | 6 => (2, 3, 1) | 7 => (2, 1, 1) | 8 => (1, 1, 1)
  | _ => (1, 0, 1)

/-- emax of R39; 0 for N2 (R54). -/
def emax (f : Nat) : Int :=
  match f with
  | 3 => 8 | 4 => 15 | 5 => 4 | 6 => 2 | 7 => 2 | _ => 0

/-- emin of R39; N2 rounds on the grid 0, 1 (R42, R57). -/
def emin (f : Nat) : Int :=
  match f with
  | 3 => -6 | 4 => -14 | 5 => -2 | _ => 0

/-- Mantissa bits of the rounding grid; 0 for N2. -/
def mbits (f : Nat) : Nat :=
  match f with
  | 3 => 3 | 4 => 2 | 5 => 2 | 6 => 3 | 7 => 1 | 8 => 1 | _ => 0

/-- The largest finite magnitude as m × 2^e (R39, R54). -/
def maxnorm (f : Nat) : Nat × Int :=
  match f with
  | 3 => (7, 6) | 4 => (7, 13) | 5 => (7, 2) | 6 => (15, -1) | 7 => (3, 1) | 8 => (3, -1) | _ => (1, 0)

/-- m1 × 2^e1 > m2 × 2^e2. -/
def magGt (m1 : Nat) (e1 : Int) (m2 : Nat) (e2 : Int) : Bool :=
  if e1 ≤ e2 then decide (m2 <<< (e2 - e1).toNat < m1) else decide (m2 < m1 <<< (e1 - e2).toNat)

/-- The unscaled value of an element code of formats 0x3 to 0x9 (R39 to R42). -/
def elem (f code : Nat) : FpVal :=
  if f = 9 then
    match code % 4 with
    | 1 => .fin false 1 0
    | 3 => .fin true 1 0
    | _ => .fin false 0 0
  else
    let p := params f
    let w := width f
    let neg := (code >>> (w - 1)) % 2 = 1
    let ex := (code >>> p.2.1) % pow2 p.1
    let man := code % pow2 p.2.1
    if f = 3 && ex = 15 && man = 7 then .nan
    else if f = 4 && ex = 31 then (if man = 0 then .inf neg else .nan)
    else if ex = 0 then .fin neg man (1 - (p.2.2 : Int) - (p.2.1 : Int))
    else .fin neg (man + pow2 p.2.1) ((ex : Int) - (p.2.2 : Int) - (p.2.1 : Int))

/-- The exact value of an element under its block's scale code and zero point (R36, R43, R66). -/
def value (f code scale z : Nat) : FpVal :=
  if scale = 0xFF then .nan
  else if f = 10 then
    let d : Int := (code % 16 : Nat) - (z : Int)
    .fin (decide (d < 0)) d.natAbs ((scale : Int) - 127)
  else Fp.scale ((scale : Int) - 127) (elem f code)

/-- Decode to FP32, with the saturation flag of R66. -/
def decode (f code scale z : Nat) : F32 × Bool := Fp.packSat (value f code scale z)

/-- D[c mod 8]: the mantissa fields of the FP32 values nearest 2^(j/8) (R48). -/
def l8Root (j : Nat) : Nat :=
  match j with
  | 0 => 0 | 1 => 0x0B95C2 | 2 => 0x1837F0 | 3 => 0x25FED7 | 4 => 0x3504F3 | 5 => 0x45672A | 6 => 0x5744FD
  | _ => 0x6AC0C7

/-- T[i] of R49. -/
def l8Thresh : List Nat :=
  [0x05AAC3, 0x11C3D3, 0x1EF532, 0x2D583F, 0x3D08A4, 0x4E248C, 0x60CCDF, 0x75257D]

/-- The value of an L8 code (R48). -/
def l8Decode (c : Nat) : F32 :=
  if c % 256 = 0 then 0#32
  else BitVec.ofNat 32 (((c % 256) / 8 + 103) * 0x800000 + l8Root (c % 8))

/-- L8 encoding (R49): the code, and whether it counts as saturation, underflow, non-finite. -/
def l8Encode (x : F32) : Nat × Bool × Bool × Bool :=
  if Fp.isZero x then (0, false, false, false)
  else if Fp.sign x || !Fp.isFinite x then (255, false, false, true)
  else
    let f := x.toNat % 0x800000
    let ex := bits x.toNat 30 23
    if ex = 0 then (0, false, true, false)
    else
      let n := (l8Thresh.filter fun t => t ≤ f).length
      let c : Int := 8 * ((ex : Int) - 127) + (n : Int) + 192
      if c ≤ 0 then (0, false, true, false)
      else if 256 ≤ c then (255, true, false, false)
      else (c.toNat, false, false, false)

/-- The bits [w·k + w − 1 : w·k] of an element plane (R37). -/
def planeCode (plane : Bytes) (w k : Nat) : Nat :=
  let o := w * k
  (leAt plane (o / 8) 5 >>> (o % 8)) % pow2 w

/-- Codes of w bits packed from bit 0 up (R37). -/
def packCodes (w : Nat) (codes : List Nat) : Bytes :=
  natLE (ceilDiv (w * codes.length) 8) (codes.foldr (fun c acc => acc <<< w ||| c % pow2 w) 0)

/-- Bytes of an element plane of n blocks; for the unblocked formats, of n elements. -/
def planeBytes (f n : Nat) : Nat := if isBlock f then 4 * width f * n else ceilDiv (width f * n) 8

/-- Is the rounding mode code SR, and the rounding it stands for with 16 dice bits (R61). -/
def mode (code rnd : Nat) : Fp.Mode :=
  match code with
  | 1 => .sr rnd
  | 2 => .rtz
  | _ => .rne

/-- The magnitude of an FP32 value as m × 2^e. -/
def mag (x : F32) : Nat × Int :=
  match Fp.unpack x with
  | .fin _ m e => (m, e)
  | _ => (0, 0)

/-- The largest magnitude of a list. -/
def amax (xs : List F32) : F32 := xs.foldl (fun a x => Fp.fmax a (Fp.abs x)) 0#32

/-- The BLOCK rule for the scale exponent (R54). -/
def blockExp (f : Nat) (xs : List F32) : Int :=
  let a := mag (amax xs)
  if a.1 = 0 then 0
  else
    let x := a.2 + (Fp.log2 a.1 : Int) - emax f
    let mx := maxnorm f
    if magGt a.1 a.2 mx.1 (mx.2 + x) then x + 1 else x

/-- Clamp to [−127, 127] (R56). -/
def clampExp (x : Int) : Int := max (-127) (min 127 x)

/-- Encode one element of formats 0x3 to 0x9 at scale exponent X: code, saturated, underflowed (R57 to R63). -/
def encElem (f : Nat) (md : Fp.Mode) (x : F32) (X : Int) : Nat × Bool × Bool :=
  let a := mag x
  let mx := maxnorm f
  let sgn := if Fp.sign x then pow2 (width f - 1) else 0
  if magGt a.1 (a.2 - X) mx.1 mx.2 then
    (Fp.gridCode (mbits f) (emin f) (Fp.roundGrid .rtz (mbits f) (emin f) mx.1 mx.2) + sgn, true, false)
  else
    let q := Fp.gridCode (mbits f) (emin f) (Fp.roundGrid md (mbits f) (emin f) a.1 (a.2 - X))
    if q = 0 then (0, false, decide (a.1 ≠ 0)) else (q + sgn, false, false)

/-- Round m × 2^e to an integer: nearest even, or toward zero (R44). -/
def rneNat (rtz : Bool) (m : Nat) (e : Int) : Nat :=
  (Fp.roundInt (if rtz then 1 else 0) false m e).toNat

/-- The smallest X with span ≤ 15 × 2^X, for an exact positive span (R44). -/
def spanExp (m : Nat) (e : Int) : Int :=
  let x := e + (Fp.log2 m : Int) - 4
  if !magGt m e 15 x then x else if !magGt m e 15 (x + 1) then x + 1 else x + 2

/-- Scale exponent before the clamp, and zero point, of a UA4 block (R44). -/
def ua4Scale (xs : List F32) : Int × Nat :=
  let lo := xs.foldl (fun a x => if Fp.lt x a then x else a) 0#32
  let hi := xs.foldl (fun a x => if Fp.lt a x then x else a) 0#32
  if Fp.isZero lo && Fp.isZero hi then (0, 0)
  else
    match Fp.exactAdd (Fp.unpack hi) (Fp.unpack (Fp.negate lo)) with
    | .fin _ m e =>
      let x := spanExp m e
      let l := mag lo
      let h := mag hi
      let z := rneNat false l.1 (l.2 - x)
      if 15 < rneNat false h.1 (h.2 - x) + z then (x + 1, rneNat false l.1 (l.2 - x - 1)) else (x, z)
    | _ => (0, 0)

/-- Encode one UA4 element (R44): code, saturated, underflowed. -/
def encUa4 (rtz : Bool) (x : F32) (X : Int) (z : Nat) : Nat × Bool × Bool :=
  let a := mag x
  let n := rneNat rtz a.1 (a.2 - X)
  let q : Int := if Fp.sign x then (z : Int) - (n : Int) else (z : Int) + (n : Int)
  if q < 0 then (0, true, false)
  else if 15 < q then (15, true, false)
  else (q.toNat, false, decide (a.1 ≠ 0) && decide (q = (z : Int)))

/-- What a conversion of one block, or of one group of an unblocked format, gives. -/
structure Block where
  codes : List Nat
  scale : Nat
  zero : Nat
  stat : ConvStat
  deriving DecidableEq, Repr

/-- Encode one block: `xs` are its elements before padding, `held` the HELD exponent where that source is
named, `rnd` the dice bits of each element, `nanZero` the zero point of a UA4 block that holds a non-finite input,
which the manual does not state (R44, R54 to R63, R73). UA4 under mode SR, which its rounding excludes, rounds with RNE (DESIGN CHOICE,
log 31). -/
def encBlock (f md : Nat) (held : Option Int) (rnd : Nat → Nat) (nanZero : Nat) (xs : List F32) : Block :=
  if xs.any fun x => !Fp.isFinite x then
    { codes := List.replicate 32 0, scale := 0xFF, zero := if f = 10 then nanZero else 0
      stat := { ConvStat.empty with
        elements := xs.length
        nonfin := (xs.filter fun x => !Fp.isFinite x).length } }
  else
    let u := ua4Scale xs
    let raw : Int := if f = 10 then u.1 else match held with | some h => h | none => blockExp f xs
    let X := clampExp raw
    let scale := (X + 127).toNat
    let z := if f = 10 then u.2 else 0
    let es := xs.zipIdx.map fun p =>
      (p.1, if f = 10 then encUa4 (decide (md = 2)) p.1 X z else encElem f (mode md (rnd p.2)) p.1 X)
    let st := es.foldl (fun s p => s.addElem p.1 (decode f p.2.1 scale z).1 p.2.2.1 p.2.2.2) ConvStat.empty
    { codes := es.map (fun p => p.2.1) ++ List.replicate (32 - xs.length) (if f = 10 then z else 0)
      scale := scale, zero := z
      stat := { st with clamps := if X = raw then 0 else 1, scMin := some scale, scMax := some scale } }

/-- Encode one element of an unblocked format: code, decoded value, saturated, underflowed, non-finite
(R46, R47, R49, R62 to R64). -/
def encPlain (f : Nat) (md : Fp.Mode) (x : F32) : Nat × F32 × Bool × Bool × Bool :=
  if f = 11 then
    let r := l8Encode x
    (r.1, l8Decode r.1, r.2.1, r.2.2.1, r.2.2.2)
  else
    let r := Fp.roundTop (if f = 1 then 7 else if f = 2 then 15 else 23) md (Fp.unpack x)
    let c := r.1.toNat
    (if f = 1 then c >>> 16 else if f = 2 then c >>> 8 else c, r.1, r.2,
      Fp.isFinite x && !Fp.isZero x && Fp.isZero r.1, !Fp.isFinite x)

/-- Encode one group of up to 32 elements of an unblocked format (R73 item 2). -/
def encGroup (f md : Nat) (rnd : Nat → Nat) (xs : List F32) : Block :=
  let es := xs.zipIdx.map fun p => (p.1, encPlain f (mode md (rnd p.2)) p.1)
  { codes := es.map (fun p => p.2.1), scale := 0, zero := 0
    stat := es.foldl (fun s p =>
      if p.2.2.2.2.2 then s.addNonfin else s.addElem p.1 p.2.2.1 p.2.2.2.1 p.2.2.2.2.1) ConvStat.empty }

/-- Encode a block or a group (R54 to R66, R73). -/
def enc (f md : Nat) (held : Option Int) (rnd : Nat → Nat) (nanZero : Nat) (xs : List F32) : Block :=
  if isBlock f then encBlock f md held rnd nanZero xs else encGroup f md rnd xs

/-- The value of one code of an unblocked float format (R46 to R48). -/
def plain (f code : Nat) : F32 :=
  match f with
  | 1 => BitVec.ofNat 32 ((code % 0x10000) <<< 16)
  | 2 => BitVec.ofNat 32 ((code % 0x1000000) <<< 8)
  | 11 => l8Decode code
  | _ => BitVec.ofNat 32 code

/-- The signed value of a two's-complement code of w bits (R50). -/
def signed (w code : Nat) : Int :=
  let c := code % pow2 w
  if pow2 (w - 1) ≤ c then (c : Int) - (pow2 w : Int) else (c : Int)

/-- The rung of a format on the ladder (R51). -/
def rungOf (f : Nat) : Option Nat :=
  match f with
  | 9 => some 0 | 8 => some 1 | 7 => some 2 | 5 => some 3 | 4 => some 4 | 1 => some 5 | _ => none

/-- The format of a rung (R51). -/
def ofRung (r : Nat) : Nat :=
  match r with
  | 0 => 9 | 1 => 8 | 2 => 7 | 3 => 5 | 4 => 4 | _ => 1

/-- The formats a role admits (R53); roles as out_role of R93 names them. -/
def rungs3to5 (f : Nat) : Bool := f = 5 || f = 4 || f = 1

end Fmt
end Sys2Proof
end

