-- ==== Sys2Proof/Machine/OdTable.lean ====
section
/-! DEFINITION. The object dictionary: every entry's type, access code, privilege, default and range
(R12, R13, R398, R399 and the entry tables of every chapter). -/

namespace Sys2Proof

/-- Access codes (R12). -/
inductive OdAcc where
  | ro
  | rw
  | wo
  | rws
  | const
  deriving DecidableEq, Repr

/-- One entry: index × 256 + subindex; the type code of R399; the access code; the privilege a write needs (R13);
the default; and, for integer types, the least and greatest value and the step the value is a multiple of. -/
structure OdRow where
  key : Nat
  type : Nat
  acc : OdAcc
  level : Nat
  dflt : Bytes
  lo : Int
  hi : Int
  step : Nat
  deriving DecidableEq, Repr

/-- An entry's key. -/
abbrev od (index sub : Nat) : Nat := index * 256 + sub

/-- Value bytes of a fixed-size type; 0 for STR and DOMAIN (R399). -/
def odSize (type : Nat) : Nat :=
  match type with
  | 1 => 1 | 2 => 1 | 3 => 2 | 4 => 4 | 5 => 8 | 6 => 1 | 7 => 4 | 8 => 4 | 11 => 8 | _ => 0

/-- Entries 0x1000 to 0x10FF. -/
def odRows10 : List OdRow := [
  ⟨0x100001, 9, .const, 1, [], 0, 0, 0⟩,
  ⟨0x100002, 9, .const, 1, [76, 71, 81, 45, 52, 78, 50, 52], 0, 0, 0⟩,
  ⟨0x100003, 10, .const, 1, [], 0, 0, 0⟩,
  ⟨0x100004, 10, .ro, 1, [], 0, 0, 0⟩,
  ⟨0x100005, 10, .ro, 1, [], 0, 0, 0⟩,
  ⟨0x100006, 1, .ro, 1, natLE 1 0x0, 0, 1, 1⟩,
  ⟨0x100007, 2, .ro, 1, natLE 1 0x0, 0, 255, 1⟩,
  ⟨0x100101, 9, .const, 1, [], 0, 0, 0⟩,
  ⟨0x100102, 2, .const, 1, natLE 1 0x0, 0, 255, 1⟩,
  ⟨0x100103, 6, .const, 1, natLE 1 0x0, -128, 127, 1⟩,
  ⟨0x100104, 6, .const, 1, natLE 1 0x0, -128, 127, 1⟩,
  ⟨0x100201, 9, .const, 1, [], 0, 0, 0⟩,
  ⟨0x100202, 2, .const, 1, natLE 1 0x0, 0, 255, 1⟩,
  ⟨0x100203, 6, .const, 1, natLE 1 0x0, -128, 127, 1⟩,
  ⟨0x100204, 6, .const, 1, natLE 1 0x0, -128, 127, 1⟩,
  ⟨0x100301, 9, .const, 1, [], 0, 0, 0⟩,
  ⟨0x100302, 2, .const, 1, natLE 1 0x0, 0, 255, 1⟩,
  ⟨0x100303, 6, .const, 1, natLE 1 0x0, -128, 127, 1⟩,
  ⟨0x100304, 6, .const, 1, natLE 1 0x0, -128, 127, 1⟩,
  ⟨0x100401, 9, .const, 1, [], 0, 0, 0⟩,
  ⟨0x100402, 2, .const, 1, natLE 1 0x0, 0, 255, 1⟩,
  ⟨0x100403, 6, .const, 1, natLE 1 0x0, -128, 127, 1⟩,
  ⟨0x100404, 6, .const, 1, natLE 1 0x0, -128, 127, 1⟩,
  ⟨0x100501, 9, .const, 1, [], 0, 0, 0⟩,
  ⟨0x100502, 2, .const, 1, natLE 1 0x0, 0, 255, 1⟩,
  ⟨0x100503, 6, .const, 1, natLE 1 0x0, -128, 127, 1⟩,
  ⟨0x100504, 6, .const, 1, natLE 1 0x0, -128, 127, 1⟩,
  ⟨0x100601, 9, .const, 1, [], 0, 0, 0⟩,
  ⟨0x100602, 2, .const, 1, natLE 1 0x0, 0, 255, 1⟩,
  ⟨0x100603, 6, .const, 1, natLE 1 0x0, -128, 127, 1⟩,
  ⟨0x100604, 6, .const, 1, natLE 1 0x0, -128, 127, 1⟩,
  ⟨0x100701, 9, .const, 1, [], 0, 0, 0⟩,
  ⟨0x100702, 2, .const, 1, natLE 1 0x0, 0, 255, 1⟩,
  ⟨0x100703, 6, .const, 1, natLE 1 0x0, -128, 127, 1⟩,
  ⟨0x100704, 6, .const, 1, natLE 1 0x0, -128, 127, 1⟩,
  ⟨0x100801, 9, .const, 1, [], 0, 0, 0⟩,
  ⟨0x100802, 2, .const, 1, natLE 1 0x0, 0, 255, 1⟩,
  ⟨0x100803, 6, .const, 1, natLE 1 0x0, -128, 127, 1⟩,
  ⟨0x100804, 6, .const, 1, natLE 1 0x0, -128, 127, 1⟩,
  ⟨0x101001, 9, .ro, 1, [], 0, 0, 0⟩]

/-- Entries 0x1000 to 0x10FF. -/
def odRows10b : List OdRow := [
  ⟨0x101002, 9, .ro, 1, [], 0, 0, 0⟩,
  ⟨0x101003, 9, .ro, 1, [], 0, 0, 0⟩,
  ⟨0x101004, 9, .ro, 1, [], 0, 0, 0⟩,
  ⟨0x101005, 9, .ro, 1, [], 0, 0, 0⟩,
  ⟨0x101006, 9, .ro, 1, [], 0, 0, 0⟩,
  ⟨0x101007, 9, .ro, 1, [], 0, 0, 0⟩,
  ⟨0x101008, 9, .ro, 1, [], 0, 0, 0⟩,
  ⟨0x101009, 9, .ro, 1, [], 0, 0, 0⟩,
  ⟨0x10100A, 9, .ro, 1, [], 0, 0, 0⟩,
  ⟨0x10100B, 9, .ro, 1, [], 0, 0, 0⟩,
  ⟨0x10100C, 9, .ro, 1, [], 0, 0, 0⟩,
  ⟨0x103001, 2, .rw, 2, natLE 1 0x0, 0, 1, 1⟩,
  ⟨0x103002, 2, .ro, 1, natLE 1 0x0, 0, 255, 1⟩,
  ⟨0x103003, 2, .ro, 1, natLE 1 0x0, 0, 255, 1⟩,
  ⟨0x103004, 10, .ro, 1, [], 0, 0, 0⟩,
  ⟨0x103005, 2, .rw, 3, natLE 1 0x0, 0, 63, 1⟩,
  ⟨0x103006, 10, .ro, 1, [], 0, 0, 0⟩,
  ⟨0x103007, 10, .wo, 3, [], 0, 0, 0⟩,
  ⟨0x103010, 10, .wo, 2, [], 0, 0, 0⟩,
  ⟨0x104001, 10, .rw, 2, [], 0, 0, 0⟩,
  ⟨0x105001, 10, .wo, 1, [], 0, 0, 0⟩,
  ⟨0x105002, 10, .ro, 1, [], 0, 0, 0⟩]

/-- Entries 0x1100 to 0x11FF. -/
def odRows11 : List OdRow := [
  ⟨0x110001, 4, .ro, 1, natLE 4 0x0, 0, 4294967295, 1⟩,
  ⟨0x110002, 4, .ro, 1, natLE 4 0x0, 0, 4294967295, 1⟩,
  ⟨0x110003, 4, .ro, 1, natLE 4 0x0, 0, 4294967295, 1⟩,
  ⟨0x110004, 10, .ro, 1, [], 0, 0, 0⟩,
  ⟨0x110101, 11, .rw, 2, natLE 8 0x0, 0, 18446744073709551615, 1⟩,
  ⟨0x110102, 1, .ro, 1, natLE 1 0x0, 0, 1, 1⟩,
  ⟨0x111001, 5, .ro, 1, natLE 8 0x0, 0, 18446744073709551615, 1⟩,
  ⟨0x111002, 10, .ro, 1, [], 0, 0, 0⟩,
  ⟨0x111003, 10, .ro, 1, [], 0, 0, 0⟩,
  ⟨0x111004, 10, .ro, 1, [], 0, 0, 0⟩,
  ⟨0x111005, 10, .ro, 1, [], 0, 0, 0⟩,
  ⟨0x111006, 4, .ro, 1, natLE 4 0x0, 0, 4294967295, 1⟩,
  ⟨0x111101, 4, .rw, 1, natLE 4 0x0, 0, 4294967295, 1⟩,
  ⟨0x111102, 10, .ro, 1, [], 0, 0, 0⟩,
  ⟨0x112001, 10, .ro, 1, [], 0, 0, 0⟩]

/-- Entries 0x1200 to 0x12FF. -/
def odRows12 : List OdRow := [
  ⟨0x120001, 4, .rw, 1, natLE 4 0x0, 0, 4000000000, 1⟩,
  ⟨0x120002, 2, .ro, 1, natLE 1 0x0, 0, 255, 1⟩,
  ⟨0x120003, 5, .rw, 2, natLE 8 0x6B10000000, 0, 18446744073709551615, 65536⟩,
  ⟨0x120004, 4, .ro, 1, natLE 4 0x0, 0, 4294967295, 1⟩,
  ⟨0x120005, 4, .ro, 1, natLE 4 0x0, 0, 4294967295, 1⟩,
  ⟨0x120006, 10, .const, 1, [32, 78, 0, 0, 128, 132, 30, 0, 0, 202, 154, 59], 0, 0, 0⟩,
  ⟨0x120010, 10, .ro, 1, [], 0, 0, 0⟩,
  ⟨0x120200, 1, .rw, 1, natLE 1 0x0, 0, 1, 1⟩,
  ⟨0x121001, 2, .ro, 1, natLE 1 0x0, 0, 255, 1⟩,
  ⟨0x121002, 10, .ro, 1, [], 0, 0, 0⟩]

/-- Entries 0x2000 to 0x20FF. -/
def odRows20 : List OdRow := [
  ⟨0x200001, 2, .rw, 1, natLE 1 0x0, 0, 255, 1⟩,
  ⟨0x200002, 2, .rw, 1, natLE 1 0x0, 0, 255, 1⟩,
  ⟨0x200003, 2, .rw, 2, natLE 1 0x0, 0, 255, 1⟩,
  ⟨0x200004, 2, .rw, 1, natLE 1 0x0, 0, 255, 1⟩,
  ⟨0x200005, 2, .rw, 1, natLE 1 0x0, 0, 255, 1⟩,
  ⟨0x200011, 4, .ro, 1, natLE 4 0x0, 0, 4294967295, 1⟩,
  ⟨0x200012, 4, .ro, 1, natLE 4 0x0, 0, 4294967295, 1⟩,
  ⟨0x200013, 4, .ro, 1, natLE 4 0x0, 0, 4294967295, 1⟩,
  ⟨0x200014, 4, .ro, 1, natLE 4 0x0, 0, 4294967295, 1⟩,
  ⟨0x200015, 4, .ro, 1, natLE 4 0x0, 0, 4294967295, 1⟩,
  ⟨0x200101, 10, .ro, 1, zeroBytes 48, 0, 0, 0⟩,
  ⟨0x200102, 11, .ro, 1, natLE 8 0x0, 0, 18446744073709551615, 1⟩]

/-- Entries 0x2100 to 0x21FF. -/
def odRows21 : List OdRow := [
  ⟨0x210001, 6, .rws, 1, natLE 1 0xF, -32, 63, 1⟩,
  ⟨0x210002, 4, .rws, 1, natLE 4 0x7D0, 0, 1000000, 1⟩,
  ⟨0x210003, 2, .rws, 1, natLE 1 0x5, 2, 5, 1⟩,
  ⟨0x210004, 2, .rws, 1, natLE 1 0x1, 0, 4, 1⟩,
  ⟨0x210005, 3, .rws, 1, natLE 2 0x1000, 8, 16384, 1⟩,
  ⟨0x210006, 4, .rws, 1, natLE 4 0x100, 0, 4294967295, 1⟩,
  ⟨0x210007, 4, .rws, 1, natLE 4 0x400, 1, 24577, 1⟩,
  ⟨0x210008, 4, .rws, 1, natLE 4 0x1000, 1, 65536, 1⟩,
  ⟨0x210009, 10, .rws, 1, [0, 0, 128, 51, 0, 0, 0, 61], 0, 0, 0⟩,
  ⟨0x21000A, 4, .rws, 1, natLE 4 0x1, 0, 65536, 1⟩,
  ⟨0x21000B, 5, .rws, 1, natLE 8 0x0, 0, 18446744073709551615, 1⟩,
  ⟨0x21000C, 2, .rws, 1, natLE 1 0x1, 0, 16, 1⟩,
  ⟨0x21000D, 2, .rws, 1, natLE 1 0x0, 0, 1, 1⟩,
  ⟨0x21000E, 4, .rws, 1, natLE 4 0x400, 0, 1048576, 1⟩,
  ⟨0x21000F, 3, .rws, 1, natLE 2 0x10, 1, 4096, 1⟩,
  ⟨0x210010, 2, .rws, 1, natLE 1 0xA, 1, 40, 1⟩,
  ⟨0x210011, 1, .rw, 2, natLE 1 0x0, 0, 1, 1⟩,
  ⟨0x210012, 5, .rws, 1, natLE 8 0x6BFF000000, 0, 18446744073709551615, 65536⟩]

/-- Entries 0x2200 to 0x22FF. -/
def odRows22 : List OdRow := [
  ⟨0x220001, 10, .rws, 1, [], 0, 0, 0⟩,
  ⟨0x220002, 5, .rws, 1, natLE 8 0x0, 0, 18446744073709551615, 1⟩,
  ⟨0x220003, 3, .rws, 1, natLE 2 0x8, 1, 4096, 1⟩,
  ⟨0x220004, 10, .rws, 1, [], 0, 0, 0⟩,
  ⟨0x220005, 4, .rws, 1, natLE 4 0x40, 0, 1048576, 1⟩,
  ⟨0x220006, 4, .rws, 1, natLE 4 0x1000, 0, 4294967295, 1⟩,
  ⟨0x220007, 4, .rws, 1, natLE 4 0x100, 0, 4294967295, 1⟩,
  ⟨0x220008, 4, .rws, 1, natLE 4 0x10, 0, 4294967295, 1⟩,
  ⟨0x220009, 4, .rws, 1, natLE 4 0x20, 0, 4294967295, 1⟩,
  ⟨0x220010, 5, .rws, 1, natLE 8 0x6000000000, 0, 18446744073709551615, 65536⟩,
  ⟨0x220011, 5, .rws, 1, natLE 8 0x400000000, 0, 18446744073709551615, 65536⟩,
  ⟨0x220012, 5, .rws, 1, natLE 8 0x6400000000, 0, 18446744073709551615, 65536⟩,
  ⟨0x220013, 5, .rws, 1, natLE 8 0x600000000, 0, 18446744073709551615, 65536⟩,
  ⟨0x220014, 5, .rws, 1, natLE 8 0x0, 0, 18446744073709551615, 65536⟩,
  ⟨0x220015, 5, .rws, 1, natLE 8 0x4000000000, 0, 18446744073709551615, 65536⟩,
  ⟨0x220016, 5, .rws, 1, natLE 8 0x10000000000, 0, 18446744073709551615, 65536⟩,
  ⟨0x220017, 5, .rws, 1, natLE 8 0x8000000000, 0, 18446744073709551615, 65536⟩,
  ⟨0x220020, 10, .ro, 1, [], 0, 0, 0⟩]

/-- Entries 0x2300 to 0x23FF. -/
def odRows23 : List OdRow := [
  ⟨0x230001, 10, .rws, 1, [], 0, 0, 0⟩,
  ⟨0x230002, 10, .rws, 1, (List.replicate 16 (255#8 :: zeroBytes 63)).flatten, 0, 0, 0⟩,
  ⟨0x230004, 10, .rws, 1, [], 0, 0, 0⟩,
  ⟨0x230008, 8, .rws, 1, [0, 0, 0, 65], 0, 0, 0⟩,
  ⟨0x230009, 8, .rws, 1, [10, 215, 35, 60], 0, 0, 0⟩,
  ⟨0x23000A, 4, .rws, 1, natLE 4 0x64, 0, 4294967295, 1⟩,
  ⟨0x230010, 5, .rws, 1, natLE 8 0x6A00000000, 0, 18446744073709551615, 65536⟩,
  ⟨0x230011, 5, .rws, 1, natLE 8 0x40000000, 0, 18446744073709551615, 65536⟩,
  ⟨0x230012, 5, .rws, 1, natLE 8 0x6B00000000, 0, 18446744073709551615, 65536⟩,
  ⟨0x230013, 5, .rws, 1, natLE 8 0x4000000000, 0, 18446744073709551615, 65536⟩,
  ⟨0x230014, 5, .rws, 1, natLE 8 0x4200000000, 0, 18446744073709551615, 65536⟩,
  ⟨0x230015, 5, .rws, 1, natLE 8 0x400000000, 0, 18446744073709551615, 65536⟩,
  ⟨0x230016, 4, .rws, 1, natLE 4 0xF4240, 10000, 100000000, 1⟩,
  ⟨0x230017, 5, .rws, 1, natLE 8 0x200000000, 0, 18446744073709551615, 65536⟩,
  ⟨0x230018, 2, .rws, 1, natLE 1 0x3, 1, 16, 1⟩,
  ⟨0x230020, 10, .ro, 1, [], 0, 0, 0⟩,
  ⟨0x230030, 5, .ro, 1, natLE 8 0x0, 0, 18446744073709551615, 1⟩,
  ⟨0x230031, 4, .ro, 1, natLE 4 0x0, 0, 4294967295, 1⟩,
  ⟨0x230032, 4, .ro, 1, natLE 4 0x0, 0, 4294967295, 1⟩,
  ⟨0x230033, 4, .ro, 1, natLE 4 0x0, 0, 4294967295, 1⟩]

/-- Entries 0x2400 to 0x24FF. -/
def odRows24 : List OdRow := [
  ⟨0x240001, 5, .const, 1, natLE 8 0x6C00000000, 0, 18446744073709551615, 1⟩,
  ⟨0x240002, 5, .ro, 1, natLE 8 0x0, 0, 18446744073709551615, 1⟩,
  ⟨0x240003, 10, .ro, 1, [], 0, 0, 0⟩,
  ⟨0x240004, 5, .ro, 1, natLE 8 0x0, 0, 18446744073709551615, 1⟩,
  ⟨0x240005, 2, .rws, 2, natLE 1 0x3, 1, 255, 1⟩,
  ⟨0x240006, 4, .rws, 2, natLE 4 0x5460, 3600, 604800, 1⟩,
  ⟨0x240007, 4, .rws, 2, natLE 4 0x30D40, 10000, 60000000, 1⟩,
  ⟨0x240008, 4, .rws, 2, natLE 4 0x0, 0, 4294967295, 1⟩,
  ⟨0x240009, 4, .rws, 2, natLE 4 0x32, 30, 1000, 1⟩,
  ⟨0x24000A, 4, .rws, 2, natLE 4 0x7D0, 0, 100000, 1⟩,
  ⟨0x24000B, 4, .rws, 2, natLE 4 0x40, 1, 65535, 1⟩,
  ⟨0x24000C, 11, .ro, 1, natLE 8 0x0, 0, 18446744073709551615, 1⟩,
  ⟨0x24000D, 2, .ro, 1, natLE 1 0x0, 0, 255, 1⟩,
  ⟨0x240010, 5, .rws, 1, natLE 8 0x1000000000, 0, 463856467968, 65536⟩,
  ⟨0x240011, 5, .rws, 1, natLE 8 0x5000000000, 0, 18446744073709551615, 65536⟩,
  ⟨0x240012, 5, .rws, 1, natLE 8 0x18000000000, 0, 18446744073709551615, 65536⟩,
  ⟨0x240013, 5, .rws, 1, natLE 8 0x4000000000, 0, 1099511627776, 65536⟩,
  ⟨0x240014, 10, .rws, 1, [], 0, 0, 0⟩]

/-- Entries 0x2500 to 0x25FF. -/
def odRows25 : List OdRow := [
  ⟨0x250001, 3, .rws, 2, natLE 2 0xFFFF, 0, 65535, 1⟩,
  ⟨0x250002, 10, .rws, 2, [1, 1, 1], 0, 0, 0⟩,
  ⟨0x250003, 10, .rws, 2, [0, 0, 0, 1, 1, 1], 0, 0, 0⟩,
  ⟨0x250004, 4, .rws, 2, natLE 4 0x0, 0, 4294967295, 1⟩,
  ⟨0x250005, 2, .rws, 2, natLE 1 0x10, 0, 48, 1⟩,
  ⟨0x250006, 4, .rws, 1, natLE 4 0x186A0, 10000, 10000000, 1⟩,
  ⟨0x25000A, 4, .rws, 2, natLE 4 0x1000, 1, 4294967295, 1⟩,
  ⟨0x25000B, 2, .rws, 2, natLE 1 0x10, 2, 255, 1⟩,
  ⟨0x25000C, 4, .rws, 2, natLE 4 0xC8, 100, 10000, 1⟩,
  ⟨0x250010, 3, .rws, 2, natLE 2 0x0, 0, 65535, 1⟩,
  ⟨0x250011, 11, .wo, 2, natLE 8 0x0, 0, 18446744073709551615, 1⟩,
  ⟨0x250020, 10, .ro, 1, [], 0, 0, 0⟩,
  ⟨0x258001, 1, .rws, 2, natLE 1 0x0, 0, 1, 1⟩,
  ⟨0x258002, 2, .rws, 2, natLE 1 0x0, 0, 127, 1⟩,
  ⟨0x258003, 4, .rws, 2, natLE 4 0x0, 0, 4294967295, 1⟩,
  ⟨0x258004, 4, .rws, 2, natLE 4 0x0, 0, 4294967295, 1⟩,
  ⟨0x258005, 4, .rws, 2, natLE 4 0x0, 0, 4294967295, 1⟩,
  ⟨0x258006, 5, .rws, 2, natLE 8 0x0, 0, 18446744073709551615, 1⟩,
  ⟨0x258007, 2, .rws, 2, natLE 1 0x8, 2, 8, 1⟩]

/-- Entries 0x2600 to 0x26FF. -/
def odRows26 : List OdRow := [
  ⟨0x260001, 4, .rw, 1, natLE 4 0x0, 0, 4294967295, 1⟩,
  ⟨0x260002, 4, .rw, 1, natLE 4 0x0, 0, 4294967295, 1⟩,
  ⟨0x260003, 4, .rw, 1, natLE 4 0x0, 0, 4294967295, 1⟩,
  ⟨0x260004, 4, .rw, 1, natLE 4 0x0, 0, 4294967295, 1⟩,
  ⟨0x260006, 4, .rws, 1, natLE 4 0x1388, 0, 10000000, 1⟩,
  ⟨0x260007, 4, .rws, 1, natLE 4 0x4E20, 0, 10000000, 1⟩,
  ⟨0x260008, 4, .rws, 1, natLE 4 0x2710, 0, 1000000, 1⟩,
  ⟨0x260009, 4, .rws, 1, natLE 4 0x0, 0, 4294967295, 1⟩,
  ⟨0x26000A, 4, .rws, 1, natLE 4 0xF4240, 10000, 1000000000, 1⟩,
  ⟨0x26000B, 4, .rws, 2, natLE 4 0x40, 1, 65535, 1⟩,
  ⟨0x260010, 10, .rws, 1, [], 0, 0, 0⟩,
  ⟨0x260011, 5, .rws, 1, natLE 8 0x4600000000, 0, 18446744073709551615, 65536⟩,
  ⟨0x260012, 5, .rws, 1, natLE 8 0x40000000, 67108864, 17179869184, 65536⟩,
  ⟨0x260020, 10, .rws, 1, [], 0, 0, 0⟩,
  ⟨0x260030, 10, .ro, 1, [], 0, 0, 0⟩]

/-- Entries 0x2700 to 0x27FF. -/
def odRows27 : List OdRow := [
  ⟨0x270001, 10, .ro, 1, [], 0, 0, 0⟩,
  ⟨0x270010, 10, .ro, 1, [], 0, 0, 0⟩,
  ⟨0x270011, 10, .ro, 1, [], 0, 0, 0⟩,
  ⟨0x270012, 10, .ro, 1, [], 0, 0, 0⟩]

/-- Entries 0x2900 to 0x29FF. -/
def odRows29 : List OdRow := [
  ⟨0x290001, 2, .rw, 2, natLE 1 0xFF, 0, 255, 1⟩,
  ⟨0x290002, 2, .rw, 2, natLE 1 0x8, 1, 255, 1⟩,
  ⟨0x290003, 10, .rw, 2, [], 0, 0, 0⟩,
  ⟨0x290004, 2, .rw, 2, natLE 1 0x20, 1, 255, 1⟩,
  ⟨0x295001, 2, .rw, 3, natLE 1 0x2, 0, 2, 1⟩,
  ⟨0x295002, 4, .rw, 3, natLE 4 0x3C0000, 0, 4294967295, 1⟩,
  ⟨0x296001, 5, .rw, 2, natLE 8 0x7F000000000, 0, 18446744073709551615, 1⟩,
  ⟨0x296002, 5, .rw, 2, natLE 8 0x0, 0, 18446744073709551615, 1⟩,
  ⟨0x296003, 2, .rw, 2, natLE 1 0x8, 0, 255, 1⟩]

/-- Entries 0x3000 to 0x30FF. -/
def odRows30 : List OdRow := [
  ⟨0x300001, 4, .ro, 1, natLE 4 0x0, 0, 4294967295, 1⟩,
  ⟨0x300002, 4, .ro, 1, natLE 4 0x0, 0, 4294967295, 1⟩,
  ⟨0x300003, 4, .ro, 1, natLE 4 0x0, 0, 4294967295, 1⟩,
  ⟨0x300004, 4, .rw, 1, natLE 4 0x0, 0, 4294967295, 1⟩,
  ⟨0x300005, 10, .ro, 1, [], 0, 0, 0⟩]

/-- Every entry, in ascending index and subindex. -/
def odRows : List OdRow :=
  odRows10 ++ odRows10b ++ odRows11 ++ odRows12 ++ odRows20 ++ odRows21 ++ odRows22 ++ odRows23 ++
  odRows24 ++ odRows25 ++ odRows26 ++ odRows27 ++ odRows29 ++ odRows30

/-- The entry of a key. -/
def odRow (k : Nat) : Option OdRow := odRows.find? fun r => r.key = k

/-- The indices that hold entries. -/
def odHighest (index : Nat) : Option Nat :=
  odRows.foldl (fun a r => if r.key / 256 = index then some (r.key % 256) else a) none

end Sys2Proof
end

