-- ==== Sys2Proof/Machine/RegTable.lean ====
section
/-! DEFINITION. The register maps of every block: offsets, widths, access masks, reset values and guarded registers
(R14 to R16, R75, R114, R151, R152, R179, R208, R209, R240, R270, R301, R327, R328, R361, R362, R395, R396, R421 to
R425, R431, R433, R459, R481). -/

namespace Sys2Proof

/-- One register of a window: block code (R423), offset, width in bits, the bits software writes, the bits writing 1
clears, the value after a power-on reset (R16), and whether it is guarded (R424). -/
structure RegRow where
  block : Nat
  off : Nat
  width : Nat
  rw : Nat
  w1c : Nat
  reset : Nat
  guarded : Bool
  deriving DecidableEq, Repr

/-- A register by block code and offset: block × 0x10000 + offset. -/
abbrev RegName := Nat

namespace Reg

def convStatus : RegName := 0x50010
def convN2RsvdCount : RegName := 0x50018
def convSatCount : RegName := 0x50020
def convUnderflowCount : RegName := 0x50028
def convNonfiniteCount : RegName := 0x50030
def convDecodeSatCount : RegName := 0x50038
def convDiceCtrl : RegName := 0x50040
def convDiceKey : RegName := 0x50048
def convDiceCtr : RegName := 0x50050
def convDiceOut : RegName := 0x50058
def fretStatus : RegName := 0x10
def fretLoadCtrl : RegName := 0x18
def fretLoadAddr : RegName := 0x20
def fretLoadStatus : RegName := 0x28
def fretSpareMapLo : RegName := 0x30
def fretSpareMapHi : RegName := 0x38
def fretSwitchWaitCount : RegName := 0x40
def fretOverrunCount : RegName := 0x48
def fretSramCeCount : RegName := 0x50
def fretBusWaitCount : RegName := 0x58
def fretFaultLoc : RegName := 0x60
def accStatus : RegName := 0x10010
def accAliasWaitCount : RegName := 0x10018
def accAliasWaitCycles : RegName := 0x10020
def accSpillCount : RegName := 0x10028
def accSatCount : RegName := 0x10030
def accIntSatCount : RegName := 0x10038
def accBoundCount : RegName := 0x10040
def accBoundLoc : RegName := 0x10048
def bridgeStatus : RegName := 0x20010
def bridgeOpCount : RegName := 0x20018
def bridgeEmptyCount : RegName := 0x20020
def epuStatus : RegName := 0x30010
def epuSummaryWaitCount : RegName := 0x30018
def epuCompactDropCount : RegName := 0x30020
def epuTableMismatchCount : RegName := 0x30028
def epuTableSel : RegName := 0x30030
def epuTableCrc : RegName := 0x30038
def stackStatus : RegName := 0x70010
def stackLaneSel : RegName := 0x70018
def stackLaneTop : RegName := 0x70020
def stackLaneHigh : RegName := 0x70028
def stackPushBytes : RegName := 0x70030
def stackSpillBytes : RegName := 0x70038
def stackFaultCount : RegName := 0x70040
def stackLeftoverCount : RegName := 0x70048
def capoStatus : RegName := 0x40010
def capoReblockBlockCount : RegName := 0x40018
def capoReblockInexactCount : RegName := 0x40020
def capoTransCount : RegName := 0x40028
def numStatus : RegName := 0x60010
def numCube : RegName := 0x60018
def numCleanSteps : RegName := 0x60020
def numRepeatCount : RegName := 0x60028
def numSurviveCount : RegName := 0x60030
def numSkipCount : RegName := 0x60038
def numReplayCount : RegName := 0x60040
def numAgreeSampleCount : RegName := 0x60048
def numAgreeFailCount : RegName := 0x60050
def numPassSel : RegName := 0x60058
def numPassRung : RegName := 0x60060
def numCalibLeft : RegName := 0x60068
def embStatus : RegName := 0x80010
def embDropInvalidCount : RegName := 0x80018
def embDropMissingCount : RegName := 0x80020
def embCombinedCount : RegName := 0x80028
def embSortmergeTerms : RegName := 0x80030
def embMigrateCount : RegName := 0x80038
def embMigrateDeferCount : RegName := 0x80040
def embExchNonfiniteCount : RegName := 0x80048
def embCoalesceHigh : RegName := 0x80050
def embRefreshStep : RegName := 0x80058
def updStatus : RegName := 0x90010
def updNormRejectCount : RegName := 0x90018
def updRowsUpdated : RegName := 0x90020
def updNonfiniteCount : RegName := 0x90028
def updJournalBytes : RegName := 0x90030
def updJournalHigh : RegName := 0x90038
def updSnapCopyBytes : RegName := 0x90040
def hbmcStatus : RegName := 0xA0010
def hbmcPcSel : RegName := 0xA0018
def hbmcPcInfo : RegName := 0xA0020
def hbmcCeCount : RegName := 0xA0028
def hbmcUeCount : RegName := 0xA0030
def hbmcPoisonCount : RegName := 0xA0038
def hbmcRemapCount : RegName := 0xA0040
def hbmcRemapRepeatCount : RegName := 0xA0048
def hbmcRetrainCount : RegName := 0xA0050
def hbmcErrLoc : RegName := 0xA0058
def benchStatus : RegName := 0xB0010
def benchCeCount : RegName := 0xB0018
def benchUeCount : RegName := 0xB0020
def benchRemapCount : RegName := 0xB0028
def benchRetrainCount : RegName := 0xB0030
def benchErrLoc : RegName := 0xB0038
def benchPoisonCount : RegName := 0xB0040
def zfStatus : RegName := 0xC0010
def zfPortSel : RegName := 0xC0018
def zfPortState : RegName := 0xC0020
def zfFecCorrCount : RegName := 0xC0028
def zfFecUncorrCount : RegName := 0xC0030
def zfReplayCount : RegName := 0xC0038
def zfTimeoutCount : RegName := 0xC0040
def zfTimeStatus : RegName := 0xC0048
def zfInjectCount : RegName := 0xC0050
def syncStatus : RegName := 0xD0010
def syncObjSel : RegName := 0xD0018
def syncObjValue : RegName := 0xD0020
def syncOpCount : RegName := 0xD0028
def syncWaitPending : RegName := 0xD0030
def vlkStatus : RegName := 0xE0010
def vlkLaneState : RegName := 0xE0018
def vlkReplayCount : RegName := 0xE0020
def vlkCrcErrCount : RegName := 0xE0028
def vlkRetrainCount : RegName := 0xE0030
def auStatus : RegName := 0xF0010
def auAcceptCount : RegName := 0xF0018
def auRefuseCount : RegName := 0xF0020
def auBrokenCount : RegName := 0xF0028
def auLastRefuse : RegName := 0xF0030
def auQueueEnd : RegName := 0xF0038
def ctrlStatus : RegName := 0x100010
def ctrlCoreMap : RegName := 0x100018
def ctrlRestart : RegName := 0x100020
def ctrlRestartSkipCount : RegName := 0x100028
def mgmtStatus : RegName := 0x110010
def mgmtSdpRxCount : RegName := 0x110018
def mgmtSdpErrCount : RegName := 0x110020
def mgmtPlca : RegName := 0x110028
def rstStatus : RegName := 0x120010
def rstCause : RegName := 0x120018
def rstPhaseSel : RegName := 0x120020
def rstPhaseTime : RegName := 0x120028
def rstBlockReset : RegName := 0x120030
def rstBlockIdle : RegName := 0x120038
def rstBlockRefuseCount : RegName := 0x120040
def rstDelay : RegName := 0x120048
def rstPorCount : RegName := 0x120050
def rstPinCount : RegName := 0x120058
def rstGlitchCount : RegName := 0x120060
def clkStatus : RegName := 0x130010
def clkGood : RegName := 0x130018
def clkHeld : RegName := 0x130020
def clkUnstableCount : RegName := 0x130028
def clkLastFail : RegName := 0x130030
def pwrStatus : RegName := 0x140010
def pwrState : RegName := 0x140018
def pwrCtrl : RegName := 0x140020
def pwrDie : RegName := 0x140028
def pwrInput : RegName := 0x140030
def secStatus : RegName := 0x150010
def secBoot : RegName := 0x150018
def secOtpCtrl : RegName := 0x150020
def secAuthFailCount : RegName := 0x150028
def secAttestCount : RegName := 0x150030
def lifeStatus : RegName := 0x160010
def lifeCalendar : RegName := 0x160018
def lifePowerOnSec : RegName := 0x160020
def lifeLogSeq : RegName := 0x160028
def lifeCtrl : RegName := 0x160030

end Reg

/-- The FRET window. -/
def regRowsFret : List RegRow := [
  ⟨0, 0x10, 32, 0x0, 0x7F, 0x0, false⟩,
  ⟨0, 0x18, 32, 0x1FF2, 0x0, 0x0, true⟩,
  ⟨0, 0x20, 64, 0x1FFFFFFFFF00, 0x0, 0x0, true⟩,
  ⟨0, 0x28, 32, 0x0, 0x6, 0x0, false⟩,
  ⟨0, 0x30, 64, 0x0, 0x0, 0x0, false⟩,
  ⟨0, 0x38, 64, 0x0, 0x0, 0x0, false⟩,
  ⟨0, 0x40, 32, 0x0, 0x0, 0x0, false⟩,
  ⟨0, 0x48, 32, 0x0, 0x0, 0x0, false⟩,
  ⟨0, 0x50, 32, 0x0, 0x0, 0x0, false⟩,
  ⟨0, 0x58, 32, 0x0, 0x0, 0x0, false⟩,
  ⟨0, 0x60, 32, 0x0, 0x10000, 0x0, false⟩]

/-- The ACC window. -/
def regRowsAcc : List RegRow := [
  ⟨1, 0x10, 32, 0x0, 0x1F, 0x0, false⟩,
  ⟨1, 0x18, 32, 0x0, 0x0, 0x0, false⟩,
  ⟨1, 0x20, 32, 0x0, 0x0, 0x0, false⟩,
  ⟨1, 0x28, 32, 0x0, 0x0, 0x0, false⟩,
  ⟨1, 0x30, 32, 0x0, 0x0, 0x0, false⟩,
  ⟨1, 0x38, 32, 0x0, 0x0, 0x0, false⟩,
  ⟨1, 0x40, 32, 0x0, 0x0, 0x0, false⟩,
  ⟨1, 0x48, 32, 0x0, 0x80000000, 0x0, false⟩]

/-- The BRIDGE window. -/
def regRowsBridge : List RegRow := [
  ⟨2, 0x10, 32, 0x0, 0xF, 0x0, false⟩,
  ⟨2, 0x18, 32, 0x0, 0x0, 0x0, false⟩,
  ⟨2, 0x20, 32, 0x0, 0x0, 0x0, false⟩]

/-- The EPU window. -/
def regRowsEpu : List RegRow := [
  ⟨3, 0x10, 32, 0x0, 0x1F, 0x0, false⟩,
  ⟨3, 0x18, 32, 0x0, 0x0, 0x0, false⟩,
  ⟨3, 0x20, 32, 0x0, 0x0, 0x0, false⟩,
  ⟨3, 0x28, 32, 0x0, 0x0, 0x0, false⟩,
  ⟨3, 0x30, 32, 0xF, 0x0, 0x0, false⟩,
  ⟨3, 0x38, 64, 0x0, 0x0, 0x0, false⟩]

/-- The CAPO window. -/
def regRowsCapo : List RegRow := [
  ⟨4, 0x10, 32, 0x0, 0x3, 0x0, false⟩,
  ⟨4, 0x18, 32, 0x0, 0x0, 0x0, false⟩,
  ⟨4, 0x20, 32, 0x0, 0x0, 0x0, false⟩,
  ⟨4, 0x28, 32, 0x0, 0x0, 0x0, false⟩]

/-- The CONV window. -/
def regRowsConv : List RegRow := [
  ⟨5, 0x10, 32, 0x0, 0x1F, 0x0, false⟩,
  ⟨5, 0x18, 32, 0x0, 0x0, 0x0, false⟩,
  ⟨5, 0x20, 32, 0x0, 0x0, 0x0, false⟩,
  ⟨5, 0x28, 32, 0x0, 0x0, 0x0, false⟩,
  ⟨5, 0x30, 32, 0x0, 0x0, 0x0, false⟩,
  ⟨5, 0x38, 32, 0x0, 0x0, 0x0, false⟩,
  ⟨5, 0x40, 32, 0x1, 0x0, 0x0, false⟩,
  ⟨5, 0x48, 64, 0xFFFFFFFFFFFFFFFF, 0x0, 0x0, false⟩,
  ⟨5, 0x50, 64, 0xFFFFFFFFFFFFFFFF, 0x0, 0x0, false⟩,
  ⟨5, 0x58, 64, 0x0, 0x0, 0x0, false⟩]

/-- The NUM window. -/
def regRowsNum : List RegRow := [
  ⟨6, 0x10, 32, 0x0, 0x1FF, 0x0, false⟩,
  ⟨6, 0x18, 32, 0x0, 0x0, 0xF, false⟩,
  ⟨6, 0x20, 32, 0x0, 0x0, 0x0, false⟩,
  ⟨6, 0x28, 32, 0x0, 0x0, 0x0, false⟩,
  ⟨6, 0x30, 32, 0x0, 0x0, 0x0, false⟩,
  ⟨6, 0x38, 32, 0x0, 0x0, 0x0, false⟩,
  ⟨6, 0x40, 32, 0x0, 0x0, 0x0, false⟩,
  ⟨6, 0x48, 32, 0x0, 0x0, 0x0, false⟩,
  ⟨6, 0x50, 32, 0x0, 0x0, 0x0, false⟩,
  ⟨6, 0x58, 32, 0xFFF, 0x0, 0x0, false⟩,
  ⟨6, 0x60, 32, 0x0, 0x0, 0x0, false⟩,
  ⟨6, 0x68, 32, 0x0, 0x0, 0x0, false⟩]

/-- The STACK window. -/
def regRowsStack : List RegRow := [
  ⟨7, 0x10, 32, 0x0, 0x1F, 0x0, false⟩,
  ⟨7, 0x18, 32, 0xFF, 0x0, 0x0, false⟩,
  ⟨7, 0x20, 64, 0x0, 0x0, 0x100000000, false⟩,
  ⟨7, 0x28, 64, 0x0, 0x0, 0x0, false⟩,
  ⟨7, 0x30, 64, 0x0, 0x0, 0x0, false⟩,
  ⟨7, 0x38, 64, 0x0, 0x0, 0x0, false⟩,
  ⟨7, 0x40, 32, 0x0, 0x0, 0x0, false⟩,
  ⟨7, 0x48, 32, 0x0, 0x0, 0x0, false⟩]

/-- The EMB window. -/
def regRowsEmb : List RegRow := [
  ⟨8, 0x10, 32, 0x0, 0x1F, 0x0, false⟩,
  ⟨8, 0x18, 32, 0x0, 0x0, 0x0, false⟩,
  ⟨8, 0x20, 32, 0x0, 0x0, 0x0, false⟩,
  ⟨8, 0x28, 32, 0x0, 0x0, 0x0, false⟩,
  ⟨8, 0x30, 32, 0x0, 0x0, 0x0, false⟩,
  ⟨8, 0x38, 32, 0x0, 0x0, 0x0, false⟩,
  ⟨8, 0x40, 32, 0x0, 0x0, 0x0, false⟩,
  ⟨8, 0x48, 32, 0x0, 0x0, 0x0, false⟩,
  ⟨8, 0x50, 32, 0x0, 0x0, 0x0, false⟩,
  ⟨8, 0x58, 64, 0x0, 0x0, 0xFFFFFFFFFFFFFFFF, false⟩]

/-- The UPD window. -/
def regRowsUpd : List RegRow := [
  ⟨9, 0x10, 32, 0x0, 0x7D, 0x0, false⟩,
  ⟨9, 0x18, 32, 0x0, 0x0, 0x0, false⟩,
  ⟨9, 0x20, 32, 0x0, 0x0, 0x0, false⟩,
  ⟨9, 0x28, 32, 0x0, 0x0, 0x0, false⟩,
  ⟨9, 0x30, 64, 0x0, 0x0, 0x0, false⟩,
  ⟨9, 0x38, 64, 0x0, 0x0, 0x0, false⟩,
  ⟨9, 0x40, 64, 0x0, 0x0, 0x0, false⟩]

/-- The HBMC window. -/
def regRowsHbmc : List RegRow := [
  ⟨10, 0x10, 32, 0x0, 0x1BF, 0x0, false⟩,
  ⟨10, 0x18, 32, 0x7F, 0x0, 0x0, false⟩,
  ⟨10, 0x20, 32, 0x0, 0x0, 0x400, false⟩,
  ⟨10, 0x28, 32, 0x0, 0x0, 0x0, false⟩,
  ⟨10, 0x30, 32, 0x0, 0x0, 0x0, false⟩,
  ⟨10, 0x38, 32, 0x0, 0x0, 0x0, false⟩,
  ⟨10, 0x40, 32, 0x0, 0x0, 0x0, false⟩,
  ⟨10, 0x48, 32, 0x0, 0x0, 0x0, false⟩,
  ⟨10, 0x50, 32, 0x0, 0x0, 0x0, false⟩,
  ⟨10, 0x58, 64, 0x0, 0x8000000000000000, 0x0, false⟩]

/-- The BENCH window. -/
def regRowsBench : List RegRow := [
  ⟨11, 0x10, 32, 0x0, 0xBF, 0x0, false⟩,
  ⟨11, 0x18, 32, 0x0, 0x0, 0x0, false⟩,
  ⟨11, 0x20, 32, 0x0, 0x0, 0x0, false⟩,
  ⟨11, 0x28, 32, 0x0, 0x0, 0x0, false⟩,
  ⟨11, 0x30, 32, 0x0, 0x0, 0x0, false⟩,
  ⟨11, 0x38, 64, 0x0, 0x8000000000000000, 0x0, false⟩,
  ⟨11, 0x40, 32, 0x0, 0x0, 0x0, false⟩]

/-- The ZF window. -/
def regRowsZf : List RegRow := [
  ⟨12, 0x10, 32, 0x0, 0x1DF, 0x0, false⟩,
  ⟨12, 0x18, 32, 0x7, 0x0, 0x0, false⟩,
  ⟨12, 0x20, 64, 0x0, 0x0, 0x0, false⟩,
  ⟨12, 0x28, 32, 0x0, 0x0, 0x0, false⟩,
  ⟨12, 0x30, 32, 0x0, 0x0, 0x0, false⟩,
  ⟨12, 0x38, 32, 0x0, 0x0, 0x0, false⟩,
  ⟨12, 0x40, 32, 0x0, 0x0, 0x0, false⟩,
  ⟨12, 0x48, 64, 0x0, 0x0, 0x7000000000000000, false⟩,
  ⟨12, 0x50, 32, 0x0, 0x0, 0x0, false⟩]

/-- The SYNC window. -/
def regRowsSync : List RegRow := [
  ⟨13, 0x10, 32, 0x0, 0x7, 0x0, false⟩,
  ⟨13, 0x18, 32, 0x1FFF, 0x0, 0x0, false⟩,
  ⟨13, 0x20, 64, 0x0, 0x0, 0x0, false⟩,
  ⟨13, 0x28, 32, 0x0, 0x0, 0x0, false⟩,
  ⟨13, 0x30, 32, 0x0, 0x0, 0x0, false⟩]

/-- The VLK window. -/
def regRowsVlk : List RegRow := [
  ⟨14, 0x10, 32, 0x0, 0xE, 0x0, false⟩,
  ⟨14, 0x18, 32, 0x0, 0x0, 0x1E00, false⟩,
  ⟨14, 0x20, 32, 0x0, 0x0, 0x0, false⟩,
  ⟨14, 0x28, 32, 0x0, 0x0, 0x0, false⟩,
  ⟨14, 0x30, 32, 0x0, 0x0, 0x0, false⟩]

/-- The AU window. -/
def regRowsAu : List RegRow := [
  ⟨15, 0x10, 32, 0x0, 0x17, 0x0, false⟩,
  ⟨15, 0x18, 32, 0x0, 0x0, 0x0, false⟩,
  ⟨15, 0x20, 32, 0x0, 0x0, 0x0, false⟩,
  ⟨15, 0x28, 32, 0x0, 0x0, 0x0, false⟩,
  ⟨15, 0x30, 64, 0x0, 0x100000000, 0x0, false⟩,
  ⟨15, 0x38, 64, 0x0, 0x0, 0x0, false⟩]

/-- The CTRL window. -/
def regRowsCtrl : List RegRow := [
  ⟨16, 0x10, 32, 0x0, 0x7, 0x0, false⟩,
  ⟨16, 0x18, 32, 0x0, 0x0, 0xF, false⟩,
  ⟨16, 0x20, 32, 0x7FFFF, 0x0, 0x0, true⟩,
  ⟨16, 0x28, 32, 0x0, 0x0, 0x0, false⟩]

/-- The MGMT window. -/
def regRowsMgmt : List RegRow := [
  ⟨17, 0x10, 32, 0x0, 0x6, 0x0, false⟩,
  ⟨17, 0x18, 32, 0x0, 0x0, 0x0, false⟩,
  ⟨17, 0x20, 32, 0x0, 0x0, 0x0, false⟩,
  ⟨17, 0x28, 32, 0x0, 0x0, 0x8FF, false⟩]

/-- The RST window. -/
def regRowsRst : List RegRow := [
  ⟨18, 0x10, 32, 0x0, 0x1F, 0x0, false⟩,
  ⟨18, 0x18, 32, 0x0, 0x0, 0x0, false⟩,
  ⟨18, 0x20, 32, 0x7, 0x0, 0x0, false⟩,
  ⟨18, 0x28, 32, 0x0, 0x0, 0x0, false⟩,
  ⟨18, 0x30, 32, 0xFF, 0x0, 0x0, true⟩,
  ⟨18, 0x38, 32, 0x0, 0x0, 0x0, false⟩,
  ⟨18, 0x40, 32, 0x0, 0x0, 0x0, false⟩,
  ⟨18, 0x48, 32, 0x0, 0x0, 0x0, false⟩,
  ⟨18, 0x50, 32, 0x0, 0x0, 0x0, false⟩,
  ⟨18, 0x58, 32, 0x0, 0x0, 0x0, false⟩,
  ⟨18, 0x60, 32, 0x0, 0x0, 0x0, false⟩]

/-- The CLK window. -/
def regRowsClk : List RegRow := [
  ⟨19, 0x10, 32, 0x0, 0x3, 0x0, false⟩,
  ⟨19, 0x18, 32, 0x0, 0x0, 0x0, false⟩,
  ⟨19, 0x20, 32, 0x0, 0x0, 0x0, false⟩,
  ⟨19, 0x28, 32, 0x0, 0x0, 0x0, false⟩,
  ⟨19, 0x30, 32, 0x0, 0x80000000, 0x0, false⟩]

/-- The PWR window. -/
def regRowsPwr : List RegRow := [
  ⟨20, 0x10, 32, 0x0, 0xF, 0x0, false⟩,
  ⟨20, 0x18, 32, 0x0, 0x0, 0x0, false⟩,
  ⟨20, 0x20, 32, 0x1, 0x0, 0x0, true⟩,
  ⟨20, 0x28, 32, 0x0, 0x0, 0x0, false⟩,
  ⟨20, 0x30, 32, 0x0, 0x0, 0x0, false⟩]

/-- The SEC window. -/
def regRowsSec : List RegRow := [
  ⟨21, 0x10, 32, 0x0, 0xD, 0x0, false⟩,
  ⟨21, 0x18, 32, 0x0, 0x0, 0x3, false⟩,
  ⟨21, 0x20, 32, 0x1, 0x0, 0x0, true⟩,
  ⟨21, 0x28, 32, 0x0, 0x0, 0x0, false⟩,
  ⟨21, 0x30, 32, 0x0, 0x0, 0x0, false⟩]

/-- The LIFE window. -/
def regRowsLife : List RegRow := [
  ⟨22, 0x10, 32, 0x0, 0x6, 0x0, false⟩,
  ⟨22, 0x18, 64, 0x0, 0x0, 0x0, false⟩,
  ⟨22, 0x20, 64, 0x0, 0x0, 0x0, false⟩,
  ⟨22, 0x28, 64, 0x0, 0x0, 0x0, false⟩,
  ⟨22, 0x30, 32, 0x0, 0x0, 0x0, true⟩]

/-- The registers of a block's window, apart from ID and GUARD. -/
def regRows (block : Nat) : List RegRow :=
  match block with
  | 0 => regRowsFret
  | 1 => regRowsAcc
  | 2 => regRowsBridge
  | 3 => regRowsEpu
  | 4 => regRowsCapo
  | 5 => regRowsConv
  | 6 => regRowsNum
  | 7 => regRowsStack
  | 8 => regRowsEmb
  | 9 => regRowsUpd
  | 10 => regRowsHbmc
  | 11 => regRowsBench
  | 12 => regRowsZf
  | 13 => regRowsSync
  | 14 => regRowsVlk
  | 15 => regRowsAu
  | 16 => regRowsCtrl
  | 17 => regRowsMgmt
  | 18 => regRowsRst
  | 19 => regRowsClk
  | 20 => regRowsPwr
  | 21 => regRowsSec
  | 22 => regRowsLife
  | _ => []

/-- The highest decoded offset bit of a block (R423). -/
def decodedBit (block : Nat) : Nat :=
  match block with
  | 2 => 5
  | 3 => 5
  | 4 => 5
  | 13 => 5
  | 14 => 5
  | 15 => 5
  | 16 => 5
  | 17 => 5
  | 21 => 7
  | 22 => 7
  | _ => 6

/-- Does the die carry the block's window (R423)? Dies are numbered as in R419. -/
def carries (die block : Nat) : Bool :=
  if block ≤ 5 then die ≤ 1
  else if block = 6 then die = 6
  else if block ≤ 11 then 2 ≤ die && die ≤ 5
  else if block ≤ 15 then die = 6
  else if block = 16 then die ≤ 5
  else if block = 17 then die = 6
  else if block ≤ 20 then die ≤ 7
  else if block ≤ 22 then die = 6
  else false

/-- The registers a die's window holds: the RST counters at 0x50 to 0x60 and the input readings of PWR are on X0 only
(R459). -/
def dieRows (die block : Nat) : List RegRow :=
  (regRows block).filter fun r =>
    die = 6 || !((block = 18 && 0x50 ≤ r.off) || (block = 20 && r.off = 0x30))

/-- The row of a register name. -/
def regRow (n : RegName) : Option RegRow := (regRows (n / 0x10000)).find? fun r => r.off = n % 0x10000

end Sys2Proof
end

