-- ==== Sys2Proof/Machine/State.lean ====
section
/-! DEFINITION. The state of the module as plain data, and its value after reset. -/

namespace Sys2Proof.Machine

/-- Why the module stops: never. Every command of the table has an effect by the manual, and the module's own faults
are effects on its state. -/
inductive Fault where
  deriving DecidableEq, Repr

/-- Why the model gives no meaning. -/
inductive Refusal where
  /-- For an arm of Dispatch.lean whose command has no meaning. No arm raises it. Safe: no claim would be made about
  such a command. -/
  | notModelled (mnemonic : String)
  deriving DecidableEq, Repr

/-! ### The fretboard -/

/-- A tile of an operand: its format, its lines, the 32-element blocks of each line, and its planes (R37, R160,
R185). A line is a row of A, or a column of B. -/
structure Tile where
  fmt : Nat
  lines : Nat
  blocks : Nat
  plane : Bytes
  scales : Bytes
  zeros : Bytes
  deriving DecidableEq, Repr

/-- A stationary bank (R85, R92, R102). -/
structure Bank where
  /-- 0 empty, 1 a LOADB is filling it, 2 loaded. -/
  status : Nat
  /-- Left for the next voicing's first SWAPB. -/
  next : Bool
  tile : Tile
  deriving DecidableEq, Repr

/-- An enclosing LOOP: its body, its count, the iteration number, its strides (R104, R106). -/
structure LoopFrame where
  start : Nat
  len : Nat
  count : Nat
  iter : Nat
  loadStride : Nat
  sramStride : Nat
  deriving DecidableEq, Repr

/-- Why a running fret does not issue. -/
inductive Stall where
  | none
  /-- A SWAPB waits for its LOADB (R92). -/
  | swapb
  /-- A WAIT with its condition (R104). -/
  | wait (cond : Nat)
  /-- A SUMMARY waits for a mailbox place (R174). -/
  | summary
  /-- A switch waits for a load (R102). -/
  | switch
  /-- A SWITCH waits for the pass verdict (R213). -/
  | gate
  deriving DecidableEq, Repr

/-- One EPU lane: sixteen registers and four predicates (R153). -/
structure Lane64 where
  v : List F32
  p : List Bool
  deriving DecidableEq, Repr

/-- A summary accumulator: its kind and its lane partials (R172). -/
structure SumAcc where
  kind : Nat
  parts : List F32
  deriving DecidableEq, Repr

/-- The phase a fret runs (R111, R133). -/
structure FretPhase where
  vid : Nat
  /-- Admitted bound in cycles; none for an uncosted voicing (R110). -/
  bound : Option Nat
  overran : Bool
  /-- Module time of the switch into it (R233). -/
  start : Nat
  deriving DecidableEq, Repr

/-- One fret (R83, R98 to R106, R115 to R134, R153 to R174). -/
structure Fret where
  /-- The two voicing slots, 16 KiB each (R98), and whether each is empty (0), loading (1) or loaded (2). -/
  img0 : SMap Byte
  img1 : SMap Byte
  st0 : Nat
  st1 : Nat
  /-- The active slot: 0, 1, or 2 for none (R432). -/
  active : Nat
  /-- 0 halted, 1 running, 2 stopped by a fault (R81, R104). -/
  run : Nat
  pc : Nat
  loops : List LoopFrame
  stall : Stall
  /-- Operand SRAM, 256 KiB. -/
  sram : SMap Byte
  /-- Accumulator file, 73,728 words (R115). -/
  acc : SMap F32
  /-- Spill buffer, 16,384 words: pair q is words 2q and 2q + 1 (R123). -/
  spill : SMap F32
  /-- Mute bits, by accumulator word (R134). -/
  mute : SMap Bool
  /-- Terms since the last spill, and spills, by accumulator word (R122). -/
  terms : SMap Nat
  spills : SMap Nat
  /-- Slots whose bound event was raised and not yet armed again (R128). -/
  bounded : List Nat
  bankA : Bank
  bankB : Bank
  /-- The current bank: 0 A, 1 B. -/
  cur : Nat
  /-- Bytes that have arrived and wait to be taken: north, east, south, west, row bus, column bus (R93 to R95). -/
  inN : Bytes
  inE : Bytes
  inS : Bytes
  inW : Bytes
  inRow : Bytes
  inCol : Bytes
  lanes : List Lane64
  /-- Voicing and start of the run in the EPU's instruction buffer (R163). -/
  epuBuf : Option (Nat × Nat)
  sums : List SumAcc
  /-- The delivered count, and its quantum (R171). -/
  delivered : Nat
  quantum : Nat
  /-- An issued RECV: source, SRAM offset, bytes (R104). -/
  recv : Option (Nat × Nat × Nat)
  /-- The RECV was issued in the active voicing (R104). -/
  recvWait : Bool
  bridgeIssued : Nat
  bridgeDone : Nat
  barIssued : Nat
  barDone : Nat
  phase : Option FretPhase
  /-- Step and micro-batch of the frame that runs the phase; none when no frame does (R71). -/
  frame : Option (Nat × Nat)
  /-- The bounds and frames that the admission unit wrote for phases the fret has not switched into yet, in order (R111). -/
  armed : List (FretPhase × Option (Nat × Nat))
  /-- The voicings of a repeat that the supervisor loads into the shadow slot after the next switches (R215). -/
  follow : List Nat
  /-- Address of the image last loaded into each slot (R81 step 5). -/
  last0 : Option Nat
  last1 : Option Nat
  /-- A substitute's slots that its images are still being loaded into (R81 step 5). -/
  reload : List Nat
  deriving DecidableEq, Repr

/-- No tile. -/
def Tile.empty : Tile := ⟨0, 0, 0, [], [], []⟩
/-- No operand. -/
def Bank.empty : Bank := ⟨0, false, Tile.empty⟩

/-- A fret after reset: halted, both slots empty, no active voicing (R432); its SRAM, file, buffer and banks are
"Lost" and read 0 here (log 4). -/
def Fret.reset : Fret :=
  { img0 := [], img1 := [], st0 := 0, st1 := 0, active := 2, run := 0, pc := 0, loops := [], stall := .none
    sram := [], acc := [], spill := [], mute := [], terms := [], spills := [], bounded := []
    bankA := Bank.empty, bankB := Bank.empty, cur := 0
    inN := [], inE := [], inS := [], inW := [], inRow := [], inCol := []
    lanes := [], epuBuf := none
    sums := [], delivered := 0, quantum := 1, recv := none, recvWait := false
    bridgeIssued := 0, bridgeDone := 0, barIssued := 0, barDone := 0
    phase := none, frame := none, armed := [], follow := [], last0 := none, last1 := none, reload := [] }

/-- One member's part in a bridge operation (R140, R146). -/
structure Contribution where
  die : Nat
  /-- Bridge index of the member (R135), and its position in the group. -/
  index : Nat
  pos : Nat
  base : Nat
  size : Nat
  /-- Its place in the member's program: how many BRIDGE operations the member issued before it in the voicing. -/
  ordinal : Nat
  /-- The run of its voicing on the fret in the step (R149). -/
  runNo : Nat
  vid : Nat
  op : Nat
  deliver : Nat
  extent : Nat
  norm : Bool
  k : Nat
  rows : Nat
  cols : Nat
  slot : Nat
  int : Bool
  layer : Nat
  tensor : Nat
  pass : Nat
  mb : Nat
  /-- Row-major values V, and their mute bits. -/
  vals : List F32
  mutes : List Bool
  deriving DecidableEq, Repr

/-- A phase of a die (R133, R200, R233): its voicing, the frets that are to run it or still run it, those of them that
have switched into it, alias waits, re-block counts, the first switch, the bound, and whether an overrun of it was reported
(R385). -/
structure DiePhase where
  die : Nat
  vid : Nat
  frets : List Nat
  began : List Nat
  waits : Nat
  blocks : Nat
  inexact : Nat
  start : Nat
  bound : Nat
  told : Bool
  deriving DecidableEq, Repr

/-- A norm partial with its tag (R149): kind 0 W, 1 G, 2 U. -/
structure NormPart where
  layer : Nat
  backward : Bool
  kind : Nat
  die : Nat
  vid : Nat
  runNo : Nat
  base : Nat
  opno : Nat
  value : F32
  deriving DecidableEq, Repr

/-- A conversion pass's statistics in the making: the fret sums by die × 384 + bridge index (R73, R74, R150). -/
structure ConvRun where
  layer : Nat
  tensor : Nat
  pass : Nat
  mb : Nat
  format : Nat
  mode : Nat
  parts : List (Nat × ConvStat)
  /-- The chooser's histogram of the run (R225): 64 bins. -/
  hist : List Nat
  /-- Did a laddered conversion take part (R210)? -/
  laddered : Bool
  /-- Elements that laddered conversions converted (R231). -/
  ladElems : Nat
  /-- Did a laddered conversion emit a code other than +0 (R231), and has the pass's verdict taken the run (R213)? -/
  nonzero : Bool
  final : Bool
  deriving DecidableEq, Repr

/-- A voicing load in progress on a die (R101): source address, broadcast, column, row; when it started, and the image as
it stood then; the shadow slots that it writes, as fret and slot. -/
structure VLoad where
  addr : Nat
  broadcast : Bool
  col : Nat
  row : Nat
  start : Nat
  read : SMap Byte
  slots : List (Nat × Nat)
  deriving DecidableEq, Repr

/-- A fret window access that waits while its slot is busy (R130): the fret, the offset in its window, the width, and
what it carries: the data of a write, none for a read; a read's class and address. -/
structure WindowWait where
  fret : Nat
  off : Nat
  width : Nat
  data : Option Nat
  cls : Nat
  addr : Nat
  deriving DecidableEq, Repr

/-- What a compute die holds beside its frets. -/
structure CDie where
  load : Option VLoad
  /-- Table register: CRC + 1 by table_set; unlisted: empty (R178). -/
  tables : SMap Nat
  /-- Physical frets recorded as failed: column, physical row (R81, R82). -/
  failed : List (Nat × Nat)
  /-- Summary mailboxes, records on their way, and records firmware has taken: serving core and record (R174). -/
  mail : List (Nat × Bytes)
  flight : List (Nat × Bytes)
  taken : List (Nat × Bytes)
  /-- Dice test in flight: counter and key (R76). -/
  dice : Option (W64 × W64)
  /-- Out of training service (R82). -/
  out : Bool
  deriving DecidableEq, Repr

/-- A compute die after reset. -/
def CDie.reset : CDie := ⟨none, [], [], [], [], [], none, false⟩

/-- What the two compute dies' shared units hold. -/
structure Board where
  c0 : CDie
  c1 : CDie
  /-- Bridge contributions that wait for their operation to complete (R140, R146). -/
  contribs : List Contribution
  phases : List DiePhase
  norms : List NormPart
  /-- Runs of a voicing on a fret in the step, by fret index × 65536 + voicing_id (R149). -/
  runs : SMap Nat
  /-- Window accesses that wait, oldest first (R130). -/
  waits : List WindowWait
  /-- Statistics of the step in progress, and the step records of the latest committed step (R74, R497). -/
  convs : List ConvRun
  records : List Bytes
  /-- Where the images that loaded stand in memory: fret index × 65536 + voicing_id, and the address + 1 (log 10). -/
  lib : SMap Nat
  deriving DecidableEq, Repr

/-- After reset. -/
def Board.reset : Board := ⟨CDie.reset, CDie.reset, [], [], [], [], [], [], [], []⟩

/-- A lane at the start of a laddered pass (R215): the pass, the voicings of it that the fret has run, in order, the records and
the pushes. -/
structure LaneMark where
  layer : Nat
  backward : Bool
  vids : List Nat
  recs : List (Nat × Nat)
  pushes : Nat
  deriving DecidableEq, Repr

/-- One stack lane (R181 to R194): records by lane offset and bytes, top first; pushes since it was empty; the highest
end reached; how many records from the top down are staged; whether staging met an error. -/
structure SLane where
  recs : List (Nat × Nat)
  pushes : Nat
  high : Nat
  staged : Nat
  /-- A WAIT with condition 3, or a draw, has asked for staging. -/
  asked : Bool
  /-- The lane at the start of the laddered pass that runs, and the records drawn since, by lane offset (R215). -/
  mark : Option LaneMark
  kept : List (Nat × Bytes)
  deriving DecidableEq, Repr

/-- An empty lane (R183). -/
def SLane.reset : SLane := ⟨[], 0, 0, 0, false, none, []⟩

/-! ### Numerics supervision -/

/-- A pass record (R211, R232) with what the supervisor keeps beside it. Rungs are 0 to 5, or 7 (R211). -/
structure PassRec where
  layer : Nat
  backward : Bool
  compiled : Nat
  /-- The current rung at the step's start: a repeat raises `current` for the step only (R215). -/
  base : Nat
  /-- The rung of the next wider format of an off-ladder compiled format (R52); 0 for a rung on the ladder. -/
  wider : Nat
  current : Nat
  pending : Nat
  /-- The pending rung of the verdict before the latest: in force from the next step (R220). -/
  next : Nat
  repeatsStep : Nat
  repeats : Nat
  survived : Nat
  zeroRun : Nat
  normW : F32
  normG : F32
  normU : F32
  ratio : F32
  agreeD : F32
  agreeQ : F32
  agreeFails : Nat
  step : Nat
  /-- The pass overflowed, repeated or survived in this step (R219). -/
  overflowed : Bool
  repeated : Bool
  survivedNow : Bool
  /-- It overflowed at rung 5 in this step (R219). -/
  topNow : Nat
  /-- It repeated or survived, on some module, in the window in progress (R227). -/
  windowRep : Bool
  /-- The zero run was reported (R231). -/
  zeroTold : Bool
  /-- The histogram of the window in progress, and the job-wide one of the latest window (R225, R232). -/
  hist : List Nat
  jobHist : List F32
  deriving DecidableEq, Repr

/-- Phase times of a die and voicing (R233). -/
structure PhaseTime where
  die : Nat
  vid : Nat
  runs : Nat
  least : Nat
  most : Nat
  latest : Nat
  sum : Nat
  bound : Nat
  deriving DecidableEq, Repr

/-- A scale history (R234): cube, clean steps, pass records, step, job key; and by how much, in log2, the cube has changed
since the carried sums were written (R224). -/
structure History where
  cube : Nat
  clean : Nat
  carry : Int
  passes : List PassRec
  step : Nat
  key : Bytes
  deriving DecidableEq, Repr

/-- What a rollback of the step restores: the pass records, NUM.CUBE, NUM.CLEAN_STEPS and the pending scale of the carried
sums, as they stood before the verdict (R296). -/
structure NumSave where
  passes : List PassRec
  cube : Nat
  clean : Nat
  carry : Int
  deriving DecidableEq, Repr

/-- The numerics supervisor. The cube, the clean-step count and the calibration count stand in the NUM registers. -/
structure Num where
  passes : List PassRec
  /-- The step whose verdict was taken; whether it skips the step; whether it updates. -/
  decided : Option Nat
  skip : Bool
  /-- The step was rolled back to be recomputed at a halved cube (R222). -/
  halved : Bool
  /-- The verdict was clean, and whether it resets the clean-step count (R223). -/
  clean : Bool
  dirty : Bool
  /-- The supervisor before the verdict: a rollback returns to it (R296). -/
  before : Option NumSave
  /-- Raised repeats of the step (R218), and the carried sums' pending scale in log2 (R224). -/
  stepRepeats : Nat
  carry : Int
  /-- Passes whose repeat images are loading, by record number (R215). -/
  repeating : List Nat
  /-- Gates that have opened in the step: layer, direction, micro-batch (R213). -/
  gates : List (Nat × Bool × Nat)
  /-- Layers outside the ratio band (R229). -/
  outside : List Nat
  /-- Histories in the NV store, and loaded over Vilny (R235, R236); those in HBM stand in memory. -/
  nv : Option History
  loaded : Option History
  /-- The cube was written while training was Stopped (R236). -/
  cubeWritten : Bool
  times : List PhaseTime
  /-- A rollback happened and no commit since (R233). -/
  sinceRollback : Bool
  deriving DecidableEq, Repr

/-- After reset. -/
def Num.reset : Num := ⟨[], none, false, false, false, false, none, 0, 0, [], [], [], none, none, false, [], false⟩

/-! ### Embedding -/

/-- A hot-set member in the tag store of a home die (R256): owner rank, table, row, class. -/
structure HotRow where
  die : Nat
  owner : Nat
  table : Nat
  row : Nat
  cls : Nat
  value : Bytes
  deriving DecidableEq, Repr

/-- A row of a step's row list (R249): occurrences, how many of them scatter has met, and the last occurrence in each
micro-batch that names it, as micro-batch and position number; Jexon's order of the micro-batches makes one of them the row's
last in scatter order. -/
structure ListedRow where
  step : Nat
  table : Nat
  row : Nat
  count : Nat
  met : Nat
  lasts : List (Nat × Nat)
  deriving DecidableEq, Repr

/-- A term that waits at its home die for the next terms of the other sources (R260). -/
structure QueuedTerm where
  die : Nat
  table : Nat
  row : Nat
  term : ScatterTerm
  deriving DecidableEq, Repr

/-- A term on the sort-merge path: its format, and where its tag and payload stand in the work region (R262). -/
structure MergeTerm where
  die : Nat
  table : Nat
  row : Nat
  fmt : Nat
  at' : Nat
  deriving DecidableEq, Repr

/-- A row's gradient slot at its owner: the reduced count, and where the reduced sum stands in the work region (R267). -/
structure GradSlot where
  die : Nat
  table : Nat
  row : Nat
  count : Nat
  at' : Nat
  deriving DecidableEq, Repr

/-- A row of the read combiner's window: where its read has been answered, the answer's header field and payload (R251). -/
structure WindowRow where
  die : Nat
  step : Nat
  table : Nat
  row : Nat
  reply : Option (Nat × Bytes)
  deriving DecidableEq, Repr

/-- What a frame's positions cost: by tier the bytes, those that are assumed on every channel and those counted by channel (R309);
fabric bytes, gradient terms and their sort-merge bytes. -/
structure Tally where
  hbm : Nat
  hbmEven : Nat
  hbmChan : List (Nat × Nat)
  bench : Nat
  benchEven : Nat
  benchChan : List (Nat × Nat)
  fabric : Nat
  terms : Nat
  sortBytes : Nat
  deriving DecidableEq, Repr

/-- What a tally holds of a table (R248): positions by class, and rows new to the step, owned here and remote. -/
structure TableTally where
  table : Nat
  hot : Nat
  hbm : Nat
  bench : Nat
  remote : Nat
  invalid : Nat
  newOwned : Nat
  newRemote : Nat
  deriving DecidableEq, Repr

/-- The tally of a held frame (R248), and what its positions cost. -/
structure FrameTally where
  frame : Nat
  step : Nat
  tables : List TableTally
  cost : Tally
  deriving DecidableEq, Repr

/-- What a refresh has chosen before the vote (R257, R258): the hot rows, by table and row, and the count of migrations. -/
structure RefreshChoice where
  rows : List (Nat × Nat)
  moved : List (Nat × Nat)
  deriving DecidableEq, Repr

/-- A refresh that is committed here and not yet installed (R258): its step, the members pushed, the rows that entered and left, and
the migrations, of the module's own rows. -/
structure Refreshed where
  step : Nat
  pushed : Nat
  entered : Nat
  left : Nat
  moved : Nat
  deriving DecidableEq, Repr

/-- A row whose gradient is being summed (R261, R262). -/
structure RowSum where
  die : Nat
  table : Nat
  row : Nat
  count : Nat
  sum : List F32
  deriving DecidableEq, Repr

/-- A record of the exchange (R266): source rank, table, row, count, decoded values. -/
structure ExRecord where
  src : Nat
  table : Nat
  row : Nat
  count : Nat
  vals : List F32
  deriving DecidableEq, Repr

/-- A position's delivery to the frets (R252): frame, feature slot, event, item, validity, payload, and whether it has left
for the frets. -/
structure Delivery where
  frame : Nat
  step : Nat
  slot : Nat
  event : Nat
  item : Nat
  valid : Bool
  bytes : Bytes
  sent : Bool
  deriving DecidableEq, Repr

/-- A remote row that was asked for (R250): request id, table, row. -/
structure RowAsk where
  id : Nat
  frame : Nat
  table : Nat
  row : Nat
  step : Nat
  deriving DecidableEq, Repr

/-- A row read that an owner holds (R253): requester and its request id; for the module's own gathers the frame. -/
structure HeldRead where
  src : Nat
  id : Nat
  table : Nat
  row : Nat
  step : Nat
  deriving DecidableEq, Repr

/-- The embedding engines of the four memory-side dies. -/
structure Emb where
  hot : List HotRow
  rows : List ListedRow
  /-- Terms that wait for other sources, and the sources of a die that have sent their last term (R260). -/
  queue : List QueuedTerm
  closed : List (Nat × Nat)
  /-- Open coalescer entries, and terms on the sort-merge path (R261, R262). -/
  open' : List RowSum
  merge : List MergeTerm
  /-- Bytes of the work region in use in the step (R262, R267). -/
  work : Nat
  /-- Dies that raised EV_COALESCE_OVERFLOW's flag in this step (R262). -/
  overflow : List Nat
  /-- Dies whose last term has been met, and records taken in, end markers (R266, R267). -/
  ended : List Nat
  records : List ExRecord
  markers : List Nat
  /-- The owner's gradient slots of the step (R267), and whether the reduction has run. -/
  reduced : List GradSlot
  done : Bool
  /-- Step counts: key step parity × 4096 + table × 4 + (0 invalid, 1 missing, 2 positions); the last committed
  step's by table × 4 + kind. -/
  counts : SMap Nat
  lastCounts : SMap Nat
  /-- The popularity sketch's two copies (R265): parity × 65536 + row × 16384 + counter. -/
  sketch : SMap Nat
  /-- Shard records by parity × 1024 + table: accepted, navg (R283). -/
  shard : SMap (Nat × F32)
  /-- Row slots in use: address and bytes; those that return to the pool at commit, and at rollback (R287). -/
  pool : SMap Nat
  freeCommit : List Nat
  freeRollback : List Nat
  /-- Tallies of the frames of steps in progress (R248). -/
  tallies : List FrameTally
  /-- Deliveries of the steps in progress, reads in flight, reads held (R250 to R253). -/
  out : List Delivery
  asks : List RowAsk
  held : List HeldRead
  /-- The refresh's push to the job: records still to send (R258), as table, row, class, removal, payload. -/
  push : List (Nat × Nat × Nat × Bool × Bytes)
  /-- What the refresh of the step in progress has chosen (R258). -/
  choice : Option RefreshChoice
  /-- The refresh whose install is not complete (R258). -/
  install : Option Refreshed
  /-- The read combiner's window: each die's latest distinct rows, newest first (R251). -/
  window : List WindowRow
  deriving DecidableEq, Repr

/-- After reset. -/
def Emb.reset : Emb :=
  { hot := [], rows := [], queue := [], closed := [], open' := [], merge := [], work := 0, overflow := [], ended := [], records := [], markers := []
    reduced := [], done := false, counts := [], lastCounts := [], sketch := [], shard := [], pool := []
    freeCommit := [], freeRollback := [], tallies := [], out := [], asks := [], held := []
    push := [], choice := none, install := none, window := [] }

/-! ### Update units, journal, commit -/

/-- A journal record (R286): die, table, row, offset in the die's journal, whether its kind is 1. -/
structure JRec where
  die : Nat
  table : Nat
  row : Nat
  at' : Nat
  deriving DecidableEq, Repr

/-- An item of a snapshot that is still to be streamed (R297, R391): chunk kind, index, offset within its item, the key
by which writers know it (R298), its content at the commit. -/
structure SnapItem where
  kind : Nat
  index : Nat
  off : Nat
  key : Nat
  data : Bytes
  die : Nat
  places : List (Nat × Nat)
  deriving DecidableEq, Repr

/-- A snapshot in progress (R297 to R299): the request's frame; the step once it committed, with its history; the items
still to be streamed; the items copied first, by key, place in the buffer and bytes; data bytes streamed. -/
structure Snap where
  frame : Nat
  step : Option Nat
  history : Option History
  items : List SnapItem
  copied : List (Nat × Nat × Nat)
  total : Nat
  deriving DecidableEq, Repr

/-- A restore in progress (R392): its step, the history's and the sketch's bytes so far, the table whose rows arrive with the
bytes of a row not yet whole, the directory entries received. -/
structure Restore where
  step : Nat
  history : Bytes
  sketch : Bytes
  table : Nat
  rest : Bytes
  rows : List Bytes
  deriving DecidableEq, Repr

/-- One copy of the commit record (R291): the step and the live half of each entry of the parameter map. -/
structure CommitRec where
  step : Option Nat
  bits : SMap Nat
  deriving DecidableEq, Repr

/-- The update units and the step commit. -/
structure Upd where
  /-- The two copies of the commit record on X0, by the parity of the step. -/
  recs : List CommitRec
  /-- Entries whose other half was written in the step; entries that were handled (updated, rejected, not due);
  layers that passed and that failed their norm check. -/
  wrote : List Nat
  handled : List Nat
  passed : List Nat
  failed : List Nat
  /-- Tables whose shard check was made in the step: table and outcome. -/
  shards : List (Nat × Bool)
  rowsUpdated : Nat
  checksFailed : Nat
  /-- Rows of the step that the update has handled. -/
  rowsDone : List (Nat × Nat)
  journal : List JRec
  /-- Memory-side dies whose update unit stopped writing (R288); the module's applied state and vote (R289, R290). -/
  full : List Nat
  applied : Bool
  voted : Bool
  /-- A fault of the module in the step: its class. -/
  fault : Option Nat
  /-- A step whose frames stopped arriving before it was in progress: its fault is voted once it is (R387). -/
  late : Option Nat
  /-- Kept gradients of the step that arrived whole (R294). -/
  kept : List Nat
  /-- Pins whose carried sum each half of the carry region holds: half, fret, pin (R295). -/
  carried : List (Nat × Nat × Nat)
  /-- Rollbacks of the step, and the run's kind: 0 first run, 1 replay, 2 recomputation; 3 and 4 before they start (R296). -/
  rolls : Nat
  rerun : Nat
  /-- Steps that wait for the host under R292. -/
  lost : Option Nat
  /-- Rejections per parameter-map entry, then per table (R283); counts since restart. -/
  rejects : SMap Nat
  rollbacks : Nat
  replays : Nat
  recomputes : Nat
  snap : Option Snap
  restore : Option Restore
  deriving DecidableEq, Repr

/-- After reset. -/
def Upd.reset : Upd :=
  { recs := [⟨none, []⟩, ⟨none, []⟩], wrote := [], handled := [], passed := [], failed := [], shards := []
    rowsUpdated := 0, checksFailed := 0, rowsDone := [], journal := [], full := [], applied := false
    voted := false, fault := none, late := none, kept := [], carried := [], rolls := 0, rerun := 0, lost := none, rejects := []
    rollbacks := 0, replays := 0, recomputes := 0, snap := none, restore := none }

/-! ### The memory tiers -/

/-- What holds a remapped row (R315, R316, R318): a controller spare, a soft or hard repair of the device; or the spare has itself
failed, and another entry holds the row. -/
inductive RemapKind where
  | spare
  | soft
  | hard
  | failed
  deriving DecidableEq, Repr

/-- A remapped row (R315): tier, channel, bank, row, the spare's number; the copy still runs; it was made permanent. -/
structure Remap where
  tier : Nat
  chan : Nat
  bank : Nat
  row : Nat
  spare : Nat
  copying : Bool
  kind : RemapKind
  deriving DecidableEq, Repr

/-- What a request to the memory of this node is for: a unit of the module, or an operation of another node with its source and
request id; a copy's destination, and whether it lies on this node (R305, R340). -/
inductive MemWork where
  | own
  | read (src id : Nat)
  | write (src id : Nat)
  | copy (src id dst : Nat) (here : Bool)
  | addI64 (src id operand : Nat)
  | addF32 (src id operand : Nat)
  deriving DecidableEq, Repr

/-- A request to either tier that waits for a channel: its class, address, data of a write, length of a read, bits found on the way,
and whether an admitted phase reads (R305, R306, R320). -/
structure MemReq where
  cls : Nat
  addr : Nat
  write : Option Bytes
  len : Nat
  corrected : Bool
  uncorrectable : Bool
  phase : Bool
  work : MemWork
  deriving DecidableEq, Repr

/-- A retired band (R317): tier, band, module time; left out of the map since the latest bring-up. -/
structure Band where
  tier : Nat
  band : Nat
  time : Nat
  out : Bool
  deriving DecidableEq, Repr

/-- The memory controllers of both tiers. Channels are the pseudo-channels k of R303 and the bench channels k of R304;
a channel that trains on HBM is numbered stack × 16 + channel. -/
structure Dram where
  /-- Poisoned 64-byte sectors, by address / 64 (R311). -/
  poison : List Nat
  /-- Corrected errors of a row in the scrub period (R314), by tier, channel, bank, row. -/
  rowErrs : SMap Nat
  remaps : List Remap
  /-- Repeat failures of a bank (R316), by tier, channel, bank. -/
  repeats : SMap Nat
  retired : List Band
  /-- Tiers out of service, and the failed channels: tier and channel (R322). -/
  failed : List (Nat × Nat)
  /-- Bench packages marked for replacement, and logical packages the spare stands in for (R18, R322). -/
  subst : List Nat
  swapped : List Nat
  /-- Retrains in progress: tier, channel, trigger (R321, R322); and the latest trigger of the retrain. -/
  training : List (Nat × Nat × Nat)
  latest : Nat
  /-- Retrains deferred to the next window (R321). -/
  deferred : List (Nat × Nat)
  /-- A maintenance window is open (R320). -/
  window : Bool
  /-- Spare lanes in use: tier, channel, lanes; a lane of 255 is the command/address lane (R319). -/
  lanes : List (Nat × Nat × Nat)
  /-- Requests that wait for a channel that trains, in arrival order (R306, R320). -/
  queue : List MemReq
  /-- Data returned to requesters, newest first: class, address, bytes, whether uncorrectable (R306, R311). -/
  replies : List (Nat × Nat × Bytes × Bool)
  deriving DecidableEq, Repr

/-- After a power-on reset. -/
def Dram.reset : Dram :=
  ⟨[], [], [], [], [], [], [], [], [], 0, [], false, [], [], []⟩

/-! ### The fabric -/

/-- A packet that waits for link time: class (0 bulk, 1 sync, 2 bridge, 3 link control) and everything of it but the
link sequence number and the crc (R335). -/
structure Packet where
  dst : Nat
  src : Nat
  cls : Nat
  vc : Nat
  op : Nat
  pseq : Nat
  flags : Nat
  data : Bytes
  deriving DecidableEq, Repr

/-- A packet in a port's replay buffer: its sequence number, its bytes, how often it has been resent (R335), and whether its
latest transmission had an injected fault (R359). -/
structure SentPacket where
  seq : Nat
  bytes : Bytes
  times : Nat
  hurt : Bool
  deriving DecidableEq, Repr

/-- One port (R333 to R354). -/
structure Port where
  /-- 0 down, 1 loopback, 2 joining, 3 joined, 4 retraining, 5 failed (R361). -/
  state : Nat
  partner : Nat
  boundary : Bool
  /-- BYPASS_N released. -/
  line : Bool
  /-- It passed loopback; its partner dropped out, so that the next module along the ring may answer (R352). -/
  looped : Bool
  skip : Bool
  txSeq : Nat
  rxSeq : Nat
  /-- The replay buffer, oldest first (R335). -/
  replay : List SentPacket
  /-- Bytes that left, newest first (the last 256 packets). -/
  wire : List Bytes
  queue : List Packet
  /-- Slot of the round (R339). -/
  slot : Nat
  /-- n of R359, and packets held back by reordering: packets still to pass, and bytes. -/
  inj : Nat
  holdBack : List (Nat × Bytes)
  /-- Replay request to send. -/
  ask : Option Nat
  fecCorr : Nat
  fecUncorr : Nat
  replays : Nat
  delay : Option Nat
  /-- Start of the latest retrain. -/
  since : Nat
  deriving DecidableEq, Repr

/-- A port after reset: down, its line low (R350). -/
def Port.reset : Port :=
  { state := 0, partner := 0, boundary := false, line := false, looped := false, skip := false, txSeq := 0, rxSeq := 0
    replay := [], wire := [], queue := [], slot := 0, inj := 0, holdBack := [], ask := none
    fecCorr := 0, fecUncorr := 0, replays := 0, delay := none, since := 0 }

/-- Why the module asked another one (R342). -/
inductive Purpose where
  /-- A row of the embedding tables (R250). -/
  | row
  /-- A rollback to be recorded by rank 0 (R292). -/
  | record (step : Nat)
  /-- A post of an extension for a frame, or of a delay (R346). -/
  | extension (frame : Nat)
  | delay
  /-- A WRITE of a COPY that this node performs (R340). -/
  | copy (job : Nat)
  /-- An update passed to a child of the tree (R346). -/
  | ack
  | other
  deriving DecidableEq, Repr

/-- A request that waits for its reply. -/
structure Request where
  id : Nat
  dst : Nat
  op : Nat
  time : Nat
  phase : Bool
  purpose : Purpose
  deriving DecidableEq, Repr

/-- A wait of the wait table (R345). -/
structure Waiter where
  src : Nat
  id : Nat
  obj : Nat
  value : W64
  until' : Nat
  remote : Bool
  deriving DecidableEq, Repr

/-- A COPY that this node performs (R340): requester, its id, bytes still unwritten. -/
structure CopyJob where
  src : Nat
  id : Nat
  left : Nat
  status : Nat
  deriving DecidableEq, Repr

/-- A module-level bridge operation in the making (R348): its key, its shape, the chunks combined so far by tree
child, and the result's chunks. X0's own sums stand among them (R219, R290; log 17). -/
structure TreeOp where
  layer : Nat
  tensor : Nat
  pass : Nat
  mb : Nat
  opno : Nat
  op : Nat
  rows : Nat
  n : Nat
  /-- Contributions by child: own first (child 0), chunk number, values. -/
  parts : List (Nat × Nat × List F32)
  down : List (Nat × List F32)
  bad : Bool
  deriving DecidableEq, Repr

/-- The fabric, the sync objects and hall time. -/
structure Fab where
  ports : List Port
  /-- Sync objects; unlisted: 0 (R343). -/
  sync : SMap W64
  waits : List Waiter
  reqs : List Request
  nextId : Nat
  /-- Next pseq by destination (R335). -/
  pseq : SMap Nat
  copies : List CopyJob
  /-- Packets delivered to the module's units and not yet acted on, oldest first. -/
  inbox : List Packet
  /-- The pseq after the latest packet taken in, plus one, by source; 0 where none came. Packets that passed earlier ones of their
  source (R341). -/
  heard : SMap Nat
  early : List Packet
  /-- Receive queues: queue, source, body, newest last (R340). -/
  msgs : List (Nat × Nat × Bytes)
  /-- Replies to the module's own units: id, status, data, newest first. -/
  answers : List (Nat × Nat × Bytes)
  tree : List TreeOp
  /-- The zone fault is held, and was sent on (R354). -/
  zoneFault : Bool
  /-- Latest time of a replay, a retrain or a timeout (R355). -/
  trouble : Option Nat
  /-- The latest update of objects 2 and 3 that was applied: step, extension, delay (R346). -/
  seen : Nat × Nat × Nat
  /-- Posts at rank 0 whose acknowledgements are awaited: object, value, poster, id. -/
  posts : List (Nat × W64 × Nat × Nat)
  /-- Acknowledgements owed to the parent in the tree: node and request id; and the worst answer of this module and its
  children to the latest update (R207, R346). -/
  acks : List (Nat × Nat)
  ackStatus : Nat
  /-- The step whose extension a module of the job turned away (R207). -/
  away : Option Nat
  /-- When the parent was lost and which port it was (R357), whether module time was stepped, and the slew that is still
  to be applied, in 1/16 ns. -/
  lostAt : Option (Nat × Nat)
  stepped : Bool
  slew : Int
  /-- Ring join deadlines: when the lines were released. -/
  released : List Nat
  deriving DecidableEq, Repr

/-- After reset. -/
def Fab.reset : Fab :=
  { ports := List.replicate 6 Port.reset, sync := [], waits := [], reqs := [], nextId := 0, pseq := [], copies := [], inbox := [], heard := [], early := []
    msgs := [], answers := [], tree := [], zoneFault := false, trouble := none, seen := (0, 0, 0), posts := [], acks := [], ackStatus := 0, away := none
    lostAt := none, stepped := false, slew := 0, released := [0, 0, 0] }

/-! ### The Vilny link and admission -/

/-- A host frame the module holds (R372, R379). -/
structure HeldFrame where
  id : Nat
  type : Nat
  step : Nat
  mb : Nat
  mbCount : Nat
  dclass : Nat
  extendable : Bool
  tLast : Nat
  bound : Nat
  extended : Bool
  /-- The extension in ns that the frame asked to post (R206, R381). -/
  ext : Nat
  /-- The ACCEPT waits: for a tally (1) or for an extension's post (2); 0 when it has been sent. -/
  waiting : Nat
  /-- While its extension is posted: the earliest bound of the step that was accepted before it (R207). -/
  until' : Option Nat
  program : Nat
  /-- Work still to be done counts as incomplete (R379, R384). -/
  done : Bool
  bytes : Bytes
  deriving DecidableEq, Repr

/-- A step with an accepted frame (R378): W(s) in ns and in cycles (0 cycles where it is the job step budget), its
expected arrival E, its commit time C, by how much faults, extensions and delays raised it (R321, R346), and its class-0
bytes in HBM and the bench tier (R308). -/
structure AdmStep where
  step : Nat
  mbCount : Nat
  work : Nat
  cycles : Nat
  arrival : Nat
  commit : Nat
  raised : Nat
  hbm0 : Nat
  bench0 : Nat
  deriving DecidableEq, Repr

/-- A data stream that is open (R383, R390, R391): kind 0x83 or 0x84, frame, due, next address, bytes left. -/
structure Stream where
  kind : Nat
  id : Nat
  due : Nat
  addr : Nat
  left : Nat
  deriving DecidableEq, Repr

/-- A module frame that waits to leave (R371, R383): order class (0 ACCEPT and REFUSE, 1 STATUS, 2 data), due, bytes. -/
structure OutFrame where
  prio : Nat
  due : Nat
  bytes : Bytes
  deriving DecidableEq, Repr

/-- The Vilny link (R364 to R369): 0 down, 1 training, 2 up, 3 retraining. -/
structure Vilny where
  state : Nat
  /-- Next seq expected, next seq to send, first seq not yet acknowledged, flits granted beyond it. -/
  rxSeq : Nat
  txSeq : Nat
  acked : Nat
  credit : Nat
  /-- The replay buffer: seq, 248 data bytes and consecutive resends of the flits sent and not acknowledged, oldest first. -/
  replay : List SentPacket
  /-- Flits that left the module, newest first (the last 2,048). -/
  wire : List Bytes
  /-- Frame bytes received and not yet whole; whole host frames whose decision is still to come, oldest first. -/
  rx : Bytes
  arrived : List Bytes
  /-- n of R359 for transmitted and received data flits, and flits held back by reordering: flits still to pass, bytes. -/
  injTx : Nat
  injRx : Nat
  holdTx : List (Nat × Bytes)
  holdRx : List (Nat × Bytes)
  /-- The rest of the frame that is being sent, in whole flits' data; the host frame whose work is complete when it has left, as it
  is the last data frame (R384); frames that wait. -/
  tx : Bytes
  ends : Option Nat
  out : List OutFrame
  deriving DecidableEq, Repr

/-- The link before it trains (R367). The adapter's grant comes with its flits (R366). -/
def Vilny.reset : Vilny :=
  { state := 0, rxSeq := 0, txSeq := 0, acked := 0, credit := 0, replay := [], wire := [], rx := []
    arrived := [], injTx := 0, injRx := 0, holdTx := [], holdRx := [], tx := [], ends := none, out := [] }

/-- The admission unit (R372 to R394). -/
structure Adm where
  frames : List HeldFrame
  steps : List AdmStep
  streams : List Stream
  /-- Acceptance is suspended for a channel retrain (R321) from this time, or for a port retrain (R353). -/
  chanSince : Option Nat
  portSince : Option Nat
  /-- OD 0x2600.30: accepted, refused by cause, broken by class, rows dropped. -/
  counts : List Nat
  highId : Nat
  /-- The next STATUS frame carries the RESET record (R389), and tells of the snapshot, by its frame and step, that a reset
  abandoned (R299). -/
  resetRecord : Bool
  abandoned : Option (Nat × Nat)
  /-- Host frames that arrived while the decision on an earlier one waits for its tally (R372): time and bytes. -/
  behind : List (Nat × Bytes)
  deriving DecidableEq, Repr

/-- After reset. -/
def Adm.reset : Adm := ⟨[], [], [], none, none, List.replicate 26 0, 0, true, none, []⟩

/-! ### The dictionary, SDP and the event log -/

/-- A session (R412, R413). -/
structure Session where
  num : Nat
  level : Nat
  bus : Bool
  req : Nat
  seq : Nat
  reply : Bytes
  notify : Bool
  deriving DecidableEq, Repr

/-- An outstanding nonce (R412). -/
structure Nonce where
  bus : Bool
  req : Nat
  value : Bytes
  deriving DecidableEq, Repr

/-- A DOMAIN being staged (R414). -/
structure Staging where
  key : Nat
  session : Nat
  bytes : Bytes
  deriving DecidableEq, Repr

/-- The dictionary and SDP (R398 to R417). -/
structure Dict where
  /-- Entry values that were written; unlisted: the table's default. -/
  od : SMap (Option Bytes)
  /-- Values still in force of RWS entries that were written since their function last started (R406). -/
  before : SMap (Option Bytes)
  /-- Values written through to the NV store (R443). -/
  nv : SMap (Option Bytes)
  /-- Function states in the order of OD 0x2000.01 to 05: 0 Stopped, 1 Running, 2 Starting, 3 Stopping. -/
  fn : List Nat
  refusal : List Nat
  hash : Bytes
  hashTime : Nat
  sessions : List Session
  nonces : List Nonce
  staging : List Staging
  /-- Event records, newest first, up to 8,192; the next record's number; records overwritten (R416, R417). -/
  log : List Bytes
  logNext : Nat
  overwritten : Nat
  /-- Messages sent on the management bus: requester and message, newest first (R408, R417). -/
  bus : List (Nat × Bytes)
  deriving DecidableEq, Repr

/-- After reset (R401, R412, R417, R443). -/
def Dict.reset : Dict :=
  { od := [], before := [], nv := [], fn := [0, 0, 0, 0, 0], refusal := [0, 0, 0, 0, 0], hash := zeroBytes 48, hashTime := 0
    sessions := [], nonces := [], staging := [], log := [], logNext := 0, overwritten := 0, bus := [] }

/-- A queued write of a slow window (R428): register name, the bits that the access covers, data, slow edges seen since. -/
structure SlowWrite where
  reg : Nat
  mask : W64
  data : W64
  edges : Nat
  deriving DecidableEq, Repr

/-- A slow-domain window (R427, R428): MGMT, LIFE, or the RST window of X0. -/
structure SlowWin where
  epoch : Nat
  queue : List SlowWrite
  /-- Copies held in the CTRL domain, by window offset. -/
  copies : SMap W64
  deriving DecidableEq, Repr

/-! ### Reset, clocks, power, life records, security -/

/-- An erase of a block of the NV store (R437, R438): sub-pulses done, and when the sub-pulses that run now began; none while the
erase is suspended. -/
structure NvErase where
  block : Nat
  done : Nat
  since : Option Nat
  deriving DecidableEq, Repr

/-- The reset logic, bring-up, the backup domain, pins and power (R434 to R458). -/
structure Rst where
  /-- VIN_42 present; VBAK present; every rail off after a fault shutdown (R458). -/
  vin : Bool
  vbak : Bool
  off : Bool
  /-- RESET_N is high. -/
  resetN : Bool
  /-- A pin reset has started and waits for an NV pulse; the internal reset is asserted. -/
  pinWait : Bool
  asserted : Bool
  /-- Start of the latest NV program pulse; the erases that have not ended (R437). -/
  pulse : Option Nat
  erases : List NvErase
  /-- Phase that the latest reset abandoned, 0xFF when bring-up had finished (R440). -/
  abandoned : Nat
  /-- Bring-up phase 0 to 6; 7 when bring-up has finished. -/
  phase : Nat
  /-- The bring-up follows a power-on reset. -/
  power : Bool
  times : List Nat
  /-- Wait of the latest delayed reset, µs; EV_RESET_DELAYED is still to be logged. -/
  delay : Nat
  delayed : Bool
  /-- Reset records, newest first, up to 64 (R440): backup domain. -/
  records : List Bytes
  /-- The backup domain has lost its contents and is not yet zeroed; the bring-up since the latest reset found it lost (R439, R480). -/
  lost : Bool
  foundLost : Bool
  /-- OD 0x1202.00, in the backup domain. -/
  keep : Bool
  /-- BACKUP cycles of the calendar, and whether it was set (R471, R472). -/
  calendar : Nat
  calValid : Bool
  /-- Memory-valid bit of each memory-side die (R444), and OD 0x2400.0D. -/
  memValid : List Bool
  keepOutcome : Nat
  /-- PWR_OK; SLOT_ID as sampled (R490). BYPASS_N stands with the ports; PRESENT_N is always low. -/
  pwrOk : Bool
  slotId : Nat
  /-- Die states and targets (R450). -/
  dieState : List Nat
  dieTarget : List Nat
  waking : Bool
  restSaved : Bool
  /-- Held blocks in block reset: die × 32 + block (R445). -/
  blockReset : List Nat
  /-- When a domain stopped being good: die × 16 + domain (R449). -/
  clockLost : List Nat
  vinMv : Nat
  deriving DecidableEq, Repr

/-- A firmware image of the NV store (R475): present, SVN, SHA-384. -/
structure FwImage where
  present : Bool
  svn : Nat
  hash : Bytes
  deriving DecidableEq, Repr

/-- The live maps of every spare, which the spare record holds (R465). -/
structure SpareRec where
  /-- Fret spare maps: die × 16 + column and bypassed row + 1. -/
  frets : SMap Nat
  /-- Failed physical frets: die, column, row. -/
  failed : List (Nat × Nat × Nat)
  /-- Core maps: die and logical core + 1. -/
  cores : SMap Nat
  /-- Hot-set bank maps: die × 64 + logical bank and physical bank + 1. -/
  banks : SMap Nat
  /-- Spares that failed while they stood in for nothing: dies whose spare core did, hot-set banks by die and physical bank. -/
  badCores : List Nat
  badBanks : List (Nat × Nat)
  /-- Lane spares: tier, number, channel, lane. -/
  lanes : List (Nat × Nat × Nat × Nat)
  /-- Fabric lanes (R334): port × 2 + direction, 0 transmit and 1 receive, the lane replaced and the spare lane in its place. -/
  ports : List (Nat × Nat × Nat)
  /-- The Vilny lane that the spare replaces, in transmit and in receive (R367); 15 none. -/
  vilny : Nat × Nat
  deriving DecidableEq, Repr

/-- Nothing substituted. -/
def SpareRec.empty : SpareRec := ⟨[], [], [], [], [], [], [], [], (15, 15)⟩

/-- The spare record of the NV store (R465): the maps, the bench substitution and the remap history. -/
structure NvSpares where
  maps : SpareRec
  swapped : List Nat
  remaps : List Remap
  deriving DecidableEq, Repr

/-- A change of the service level in the present MGMT cycle (R468): its number, the level before it, the lowest die that left and
its block. -/
structure LevelChange where
  cycle : Nat
  old : Nat
  die : Nat
  block : Nat
  deriving DecidableEq, Repr

/-- Service, spares, life records and wear counters (R460 to R472). -/
structure Life where
  level : Nat
  /-- A change of the level that is still to be logged (R468). -/
  change : Option LevelChange
  /-- Units out of service: die, block code, unit (R468). -/
  units : List (Nat × Nat × Nat)
  spare : SpareRec
  nvSpare : NvSpares
  rewrite : Bool
  /-- Regulator phases shed per die (R464), management cores that failed (R462). -/
  shed : List Nat
  mgmtFailed : List Nat
  /-- Life log, newest first, up to 65,536 entries; the number of the next entry (R470). -/
  log : List Bytes
  seq : Nat
  /-- Wear counters not yet added into FRAM, and in FRAM, by counter key (R469). -/
  bk : SMap Nat
  fram : SMap Nat
  deriving DecidableEq, Repr

/-- What an armed OTP program will burn (R475, R478, R481). -/
inductive OtpWord where
  | owner (hash : Bytes)
  | fuse
  deriving DecidableEq, Repr

/-- Identity, boot, keys, attestation (R473 to R481). -/
structure Sec where
  owners : List Bytes
  counter : Nat
  /-- An OTP word the secure core is programming while ARM is set. -/
  otp : Option OtpWord
  images : List FwImage
  running : Nat
  runningSvn : Nat
  mismatch : Bool
  recovery : Bool
  fallback : Bool
  /-- Failed proofs' times within the last 60 s, and whether OPENs above Observer are locked out (R479). -/
  failTimes : List Nat
  locked : Bool
  /-- Attestation: the latest nonce, the report when it is ready (R480). -/
  nonce : Option Bytes
  report : Option Bytes
  deriving DecidableEq, Repr

/-! ### The module -/

/-- The state of the module. -/
structure State where
  /-- The commands that wait, first in, first out. -/
  pending : List Instr
  /-- Module time, ns (R6). -/
  time : Nat
  /-- The model's own counter of free values drawn (log 3). -/
  free : Nat
  /-- HBM, the bench tier and the hot-set windows, by local offset (R302). -/
  mem : List Host.Cell
  /-- Registers, by offset in the register space (R419); unlisted: 0. -/
  regs : SMap W64
  /-- Frets, by die × 384 + bridge index (R11, R135); unlisted: as after reset. -/
  frets : SMap Fret
  /-- Stack lanes, in the same order (R181). -/
  slanes : SMap SLane
  board : Board
  num : Num
  emb : Emb
  upd : Upd
  dram : Dram
  fab : Fab
  vlk : Vilny
  adm : Adm
  dict : Dict
  slow : List SlowWin
  rst : Rst
  life : Life
  sec : Sec
  deriving DecidableEq, Repr

/-- The registers whose value after a power-on reset is not zero (R16). -/
def resetRegs : SMap W64 :=
  (List.range 8).flatMap fun die => (List.range 23).flatMap fun b =>
    if carries die b then
      let g : List (Nat × W64) := [((die * 32 + b) * 0x10000 + 8, 8#64)]
      g ++ ((dieRows die b).filter fun r => r.reset ≠ 0).map fun r =>
        ((die * 32 + b) * 0x10000 + r.off, BitVec.ofNat 64 r.reset)
    else []

/-- The copies of the slow windows at reset: the reset values of their registers, with CAL_INVALID set (R16, R427, R481). -/
def resetSlow : List SlowWin :=
  [⟨0, [], [(8, 8), (0x28, 0x8FF)]⟩, ⟨0, [], [(8, 8), (0x10, 1)]⟩, ⟨0, [], []⟩]

/-- The module right after a power-on reset has started, at phase 0 of bring-up (R434, R441). -/
def State.reset : State :=
  { pending := [], time := 0, free := 0, mem := [], regs := resetRegs, frets := [], slanes := []
    board := Board.reset, num := Num.reset, emb := Emb.reset, upd := Upd.reset, dram := Dram.reset
    fab := Fab.reset, vlk := Vilny.reset, adm := Adm.reset, dict := Dict.reset
    slow := resetSlow
    rst :=
      { vin := true, vbak := true, off := false, resetN := true, pinWait := false, asserted := false
        pulse := none, erases := [], abandoned := 0xFF, phase := 0, power := true, times := [0, 0, 0, 0, 0, 0, 0]
        delay := 0, delayed := false, records := [], lost := false, foundLost := false, keep := false, calendar := 0, calValid := false
        memValid := [false, false, false, false], keepOutcome := 0, pwrOk := false, slotId := 0
        dieState := List.replicate 8 0, dieTarget := List.replicate 8 0, waking := false
        restSaved := false, blockReset := [], clockLost := [], vinMv := 42000 }
    life :=
      { level := 3, change := none, units := [], spare := SpareRec.empty, nvSpare := ⟨SpareRec.empty, [], []⟩, rewrite := false
        shed := List.replicate 8 0, mgmtFailed := [], log := [], seq := 0, bk := [], fram := [] }
    sec :=
      { owners := [[], []], counter := 0, otp := none, images := [⟨true, 0, zeroBytes 48⟩, ⟨false, 0, zeroBytes 48⟩]
        running := 3, runningSvn := 0, mismatch := false, recovery := false, fallback := false, failTimes := []
        locked := false, nonce := none, report := none } }

end Sys2Proof.Machine
end

