-- ==== Sys2Proof/Machine/Flags.lean ====
section
/-! DEFINITION. Registers as the hardware's own units read and write them, status flags and their companion counters
(R419, R429). -/

namespace Sys2Proof.Machine

/-- A register's offset in the register space (R419). -/
def regKey (die : Nat) (n : RegName) : Nat := die * 0x200000 + n

/-- The stored value of a register. -/
def State.reg (s : State) (die : Nat) (n : RegName) : Nat := (SMap.get 0 s.regs (regKey die n)).toNat

/-- Store a register. -/
def State.setReg (s : State) (die : Nat) (n : RegName) (v : Nat) : State :=
  { s with regs := SMap.set 0 s.regs (regKey die n) (BitVec.ofNat 64 v) }

/-- Replace the bits [hi:lo] of a register. -/
def State.setField (s : State) (die : Nat) (n : RegName) (hi lo v : Nat) : State :=
  let old := s.reg die n
  let m := (pow2 (hi + 1 - lo) - 1) <<< lo
  s.setReg die n ((old &&& (0xFFFFFFFFFFFFFFFF ^^^ m)) ||| ((v % pow2 (hi + 1 - lo)) <<< lo))

/-- Set flags: the set wins over a clear (R429). -/
def State.orReg (s : State) (die : Nat) (n : RegName) (mask : Nat) : State := s.setReg die n (s.reg die n ||| mask)

/-- Clear bits. -/
def State.clearReg (s : State) (die : Nat) (n : RegName) (mask : Nat) : State :=
  s.setReg die n (s.reg die n &&& (0xFFFFFFFFFFFFFFFF ^^^ mask))

/-- Set one flag of a register. -/
def State.flag (s : State) (die : Nat) (n : RegName) (bit : Nat) : State := s.orReg die n (pow2 bit)

/-- Add to a counter that stops at 0xFFFF_FFFF (R75, R114, R429). -/
def State.bump (s : State) (die : Nat) (n : RegName) (k : Nat) : State := s.setReg die n (cap32 (s.reg die n + k))

/-- A flag with its companion counter, for `k` occurrences (R429); nothing for none. -/
def State.flagCount (s : State) (die : Nat) (f : RegName) (bit : Nat) (c : RegName) (k : Nat) : State :=
  if k = 0 then s else (s.flag die f bit).bump die c k

end Sys2Proof.Machine
end

