-- ==== Sys2Proof/Machine/Ops.lean ====
section
/-! DEFINITION. The named operations over the state: memory, frets, the dictionary's values, events, life
records. -/

namespace Sys2Proof.Machine

/-! ### Memory -/

/-- The canonical form of memory: addresses strictly rising, no entry equal to what an unlisted address reads as, 0 (log 4). -/
def Memory.wf (m : List Host.Cell) : Bool := SMap.wf 0 m

/-- One byte of the local map's memories (R302). -/
def State.byte (s : State) (a : Nat) : Byte := SMap.get 0 s.mem a

/-- Bytes from an address up. -/
def State.readMem (s : State) (a n : Nat) : Bytes := SMap.getMany 0 s.mem a n

/-- Write bytes from an address up. -/
def State.writeMem (s : State) (a : Nat) (bs : Bytes) : State := { s with mem := SMap.setMany 0 s.mem a bs }

/-- Zero a range. -/
def State.zeroMem (s : State) (a n : Nat) : State := { s with mem := SMap.eraseRange s.mem a n }

/-- Does a byte range hold poison (R311)? -/
def State.poisoned (s : State) (a n : Nat) : Bool :=
  s.dram.poison.any fun p => p * 64 < a + n && a < p * 64 + 64

/-- A memory write clears the poison of the sectors it covers whole (R311). -/
def State.store (s : State) (a : Nat) (bs : Bytes) : State :=
  let s := s.writeMem a bs
  { s with dram := { s.dram with poison := s.dram.poison.filter fun p => !(a ≤ p * 64 && p * 64 + 64 ≤ a + bs.length) } }

/-- Zeros written over a range clear the poison of the sectors that it covers whole (R311). -/
def State.zeroStore (s : State) (a n : Nat) : State :=
  let s := s.zeroMem a n
  { s with dram := { s.dram with poison := s.dram.poison.filter fun p => !(a ≤ p * 64 && p * 64 + 64 ≤ a + n) } }

/-- A little-endian number of memory. -/
def State.memNat (s : State) (a n : Nat) : Nat := leNat (s.readMem a n)

/-! ### Frets and dies -/

/-- A fret's place in die, column, row order (R135, R181). -/
def fretIdx (f : FretId) : Nat := f.die.val * 384 + f.col.val * 24 + f.row.val

/-- The fret of an index. -/
def State.fret (s : State) (i : Nat) : Fret := SMap.get Fret.reset s.frets i
/-- Replace a fret. -/
def State.setFret (s : State) (i : Nat) (f : Fret) : State := { s with frets := SMap.set Fret.reset s.frets i f }
/-- Change a fret. -/
def State.updFret (s : State) (i : Nat) (g : Fret → Fret) : State := s.setFret i (g (s.fret i))

/-- Corrected errors in a fret's memories on a die (R84). -/
def State.sramCe (s : State) (d n : Nat) : State := s.flagCount d Reg.fretStatus 4 Reg.fretSramCeCount n

/-- The stack lane of a fret. -/
def State.lane (s : State) (i : Nat) : SLane := SMap.get SLane.reset s.slanes i
/-- Replace a stack lane. -/
def State.setLane (s : State) (i : Nat) (l : SLane) : State := { s with slanes := SMap.set SLane.reset s.slanes i l }

/-- A compute die's own units. -/
def State.cdie (s : State) (d : Nat) : CDie := if d = 0 then s.board.c0 else s.board.c1
/-- Replace them. -/
def State.setCDie (s : State) (d : Nat) (c : CDie) : State :=
  { s with board := if d = 0 then { s.board with c0 := c } else { s.board with c1 := c } }

/-- Change the units the compute dies share. -/
def State.updBoard (s : State) (g : Board → Board) : State := { s with board := g s.board }

/-- The memory-side die (0 M0 … 3 M3) that serves a fret's stack lane (R191). -/
def stackDie (i : Nat) : Nat := (i / 384) * 2 + (i % 384) / 192

/-! ### The dictionary's values -/

/-- An entry's value bytes: as written, or the table's default. -/
def State.odWritten (s : State) (k : Nat) : Bytes :=
  match SMap.get none s.dict.od k with
  | some b => b
  | none => match odRow k with
    | some r => r.dflt
    | none => []

/-- An entry's value bytes as the module uses them: a value written while its function is stopped only from the next start (R406). -/
def State.odBytes (s : State) (k : Nat) : Bytes :=
  match SMap.get none s.dict.before k with
  | some b => b
  | none => s.odWritten k

/-- An entry's value as a number. -/
def State.odNat (s : State) (k : Nat) : Nat := leNat (s.odBytes k)

/-- Replace an entry's value. -/
def State.setOd (s : State) (k : Nat) (b : Bytes) : State :=
  { s with dict := { s.dict with od := SMap.set none s.dict.od k (some b) } }

/-- A function's state: 0 training, 1 embedding, 2 fabric, 3 host link, 4 snapshot (R401). -/
def State.fnState (s : State) (i : Nat) : Nat := s.dict.fn.getD i 0
/-- Set a function's state. -/
def State.setFn (s : State) (i v : Nat) : State := { s with dict := { s.dict with fn := s.dict.fn.set i v } }

/-! ### Free values -/

/-- Draw a free value (log 3). -/
def State.draw (s : State) : W64 × State := (Config.freeValue s.free, { s with free := s.free + 1 })

/-- Draw `n` free bytes. -/
def State.drawBytes (s : State) (n : Nat) : Bytes × State :=
  ((List.range n).map fun i => (Config.freeValue (s.free + i)).setWidth 8, { s with free := s.free + n })

/-! ### Events and life records -/

/-- Fields of event parameters and records. -/
def u8 (v : Nat) : Bytes := natLE 1 v
def u16 (v : Nat) : Bytes := natLE 2 v
def u32 (v : Nat) : Bytes := natLE 4 v
def u64 (v : Nat) : Bytes := natLE 8 v
/-- A count or a duration: a U32 that stops (R496). -/
def c32 (v : Nat) : Bytes := natLE 4 (cap32 v)

/-- Is fault injection in effect (R358): armed, and the fabric function running? -/
def State.injecting (s : State) : Bool := s.fnState 2 = 1 && s.odNat (od 0x2580 1) = 1

/-- One event record (R416). -/
def eventRecord (code flags seq time : Nat) (params : Bytes) : Bytes :=
  u16 code ++ u16 flags ++ u32 seq ++ u64 time ++ padTo 16 params

/-- The header of an SDP message (R409). -/
def sdpHeader (op status flags session seq index sub type offset length : Nat) : Bytes :=
  u8 1 ++ u8 op ++ u8 status ++ u8 flags ++ u16 session ++ u16 seq ++ u16 index ++ u8 sub ++ u8 type
    ++ u32 offset ++ u32 length ++ u32 0

/-- NOTIFY of a record to every subscribed session of the management bus (R415, R417); while the PHY is down it
cannot be sent (R433). -/
def State.notify (s : State) (record : Bytes) : State :=
  let subs := s.dict.sessions.filter fun x => x.notify && x.bus
  if subs.isEmpty then s
  else if s.reg 6 Reg.mgmtStatus % 2 = 1 then
    { s with dict := { s.dict with bus :=
        (subs.map fun x => (x.req, sdpHeader 6 0 0 x.num 0 0 0 0 0 32 ++ record)).reverse ++ s.dict.bus } }
  else s.flag 6 Reg.mgmtStatus 2

/-- Add a record to the log's ring of 8,192 (R417). -/
def State.logRecord (s : State) (record : Bytes) : State :=
  let full := decide (8192 ≤ s.dict.log.length)
  let s := { s with dict := { s.dict with
    log := (record :: s.dict.log).take 8192
    logNext := (s.dict.logNext + 1) % 0x100000000
    overwritten := if full then cap32 (s.dict.overwritten + 1) else s.dict.overwritten } }
  s.notify record

/-- Log an event: as many records as its parameters need, all but the last with CONT (R416, R496). -/
def State.event (s : State) (code : Nat) (params : Bytes) : State :=
  let parts := if params.isEmpty then [[]] else chunks 16 params
  parts.zipIdx.foldl (fun s p =>
    let fl := (if s.injecting then 1 else 0) + (if p.2 + 1 < parts.length then 2 else 0)
    s.logRecord (eventRecord code fl s.dict.logNext s.time p.1)) s

/-- Calendar time in ns (R472). -/
def State.calendarNs (s : State) : Nat := s.rst.calendar * 1000000000 / 32768

/-- Module time as the life log takes it (R470): 0 from a power-on reset until the master takes its calendar's, another module locks
(log 27). -/
def State.mtime (s : State) : Nat :=
  if s.rst.power && !(s.rst.phase = 7 && (s.fab.stepped || s.odNat (od 0x2500 1) = s.odNat (od 0x2500 0x10))) then 0 else s.time

/-- A FRAM write: it may fail its read-back check (R481). -/
def State.framWrite (s : State) : State := if Config.framFails s.life.seq s.time then s.flag 6 Reg.lifeStatus 2 else s

/-- Write a life-log entry (R470). -/
def State.lifeLog (s : State) (kind die unit detail : Nat) : State :=
  let e := u8 kind ++ u8 die ++ u16 unit ++ u32 detail ++ u64 s.calendarNs ++ u64 s.mtime
    ++ u32 s.life.seq ++ u32 0
  let s := if 65536 ≤ s.life.log.length then s.flag 6 Reg.lifeStatus 1 else s
  let s := s.framWrite
  { s with life := { s.life with log := (e :: s.life.log).take 65536, seq := s.life.seq + 1 } }

/-- Change the live spare maps; the record's rewrite is queued (R465). -/
def State.updSpare (s : State) (g : SpareRec → SpareRec) : State :=
  { s with life := { s.life with spare := g s.life.spare, rewrite := true } }

/-- A substitution's life-log entry (R465, R470). -/
def State.logSubst (s : State) (die block unit detail : Nat) : State :=
  s.lifeLog 1 die (block * 256 + unit % 256) detail

/-- Add to a wear counter of the backup domain (R469). -/
def State.wear (s : State) (key n : Nat) : State :=
  { s with life := { s.life with bk := SMap.modify 0 s.life.bk key (· + n) } }

/-- The 256 KiB blocks of the NV store that an item of n bytes takes (R469). -/
def nvBlocks (item n : Nat) : List Nat := (List.range (max 1 (ceilDiv n 0x40000))).map fun k => ((Config.nvBlock item).toNat + k) % 256

/-- A program pulse of the NV store for an item of n bytes: the counts of its blocks rise, and a pulse has started. What it replaces is erased
afterwards, where the store does so (R437, R469, log 29). -/
def State.nvPulse (s : State) (item n : Nat) : State :=
  let s := (nvBlocks item n).foldl (fun (s : State) b =>
    let s := s.wear (3000 + b) 1
    if Config.nvErases item b s.time then
      let s := s.wear (3000 + b) 1
      { s with rst := { s.rst with erases := s.rst.erases ++ [⟨b, 0, some s.time⟩] } }
    else s) s
  { s with rst := { s.rst with pulse := some s.time } }

/-! ### Service level -/

/-- The block code that stands for a whole die among the units out of service: FRET on a compute die (R82), RST elsewhere. -/
def dieBlock (die : Nat) : Nat := if die < 2 then 0 else 18
/-- Has a die left service (R82, R449, R461, R464)? -/
def State.dieOut (s : State) (die : Nat) : Bool := s.life.units.contains (die, dieBlock die, 0xFFFF)

/-- Working frets of a compute die. -/
def State.workingFrets (s : State) (die : Nat) : Nat :=
  if s.dieOut die then 0
  else 384 - (s.life.units.filter fun u => u.1 = die && u.2.1 = 0 && u.2.2 < 384).length

/-- Working stacks of a memory-side die (die number 2 to 5). -/
def State.workingStacks (s : State) (die : Nat) : Nat :=
  if s.dieOut die then 0
  else 3 - (s.life.units.filter fun u => u.1 = die && u.2.1 = 0x0A && u.2.2 < 12).length

/-- Is the Vilny link out of service, and how many fabric ports are? -/
def State.vilnyOut (s : State) : Bool := s.dieOut 6 || s.life.units.any fun u => u.2.1 = 0x0E

/-- Is a unit lost that Management-only needs (R466): management core 0, die X0, or one of its MGMT, RST, SEC and LIFE blocks, which
hold the port, the backup domain, the boot ROM and the NV store (DESIGN CHOICE, log 27)? -/
def State.darkened (s : State) : Bool :=
  s.life.mgmtFailed.contains 0 || s.dieOut 6
    || s.life.units.any fun u => u.1 = 6 && [17, 18, 21, 22].contains u.2.1 && u.2.2 = 0xFFFF

/-- Joined fabric ports in service of an I/O die (R466). -/
def State.joinedPorts (s : State) (die : Nat) : Nat :=
  if s.dieOut die then 0
  else (s.fab.ports.zipIdx.filter fun p => 6 + p.2 / 3 = die && (p.1.state = 3 || p.1.state = 4)
    && !s.life.units.contains (die, 0x0C, p.2)).length

/-- The level of R466 from the units out of service. -/
def State.levelNow (s : State) : Nat :=
  if s.darkened then 0
  else if s.life.mgmtFailed.contains 1 || s.sec.recovery then 1
  else if s.life.units.isEmpty then 3
  else
    let io := !s.vilnyOut || decide (2 ≤ s.joinedPorts 6) || decide (2 ≤ s.joinedPorts 7)
    let cd := decide (256 ≤ s.workingFrets 0) || decide (256 ≤ s.workingFrets 1)
    let md := [2, 3, 4, 5].any fun d => decide (2 ≤ s.workingStacks d)
    if cd && md && io then 2 else 1

/-- Log a change of the level (R468): one event and one life-log entry. -/
def State.tellLevel (s : State) : State :=
  match s.life.change with
  | none => s
  | some c =>
    let s : State := { s with life := { s.life with change := none } }
    if c.old = s.life.level then s
    else (s.event 0x0802 (u8 c.old ++ u8 s.life.level ++ u8 c.die ++ u8 c.block)).lifeLog 6 0xFF 0 s.life.level

/-- Compute the level again, with the die and block that caused it (R468): changes of one MGMT cycle, 40 ns, are logged as one at its end
or with the next change. While bring-up runs the level is computed once, at its end (log 27). -/
def State.relevel (s : State) (die block : Nat) : State :=
  let l := s.levelNow
  if l = s.life.level || s.rst.phase < 7 then s
  else
    let n := s.time / 40
    let new : LevelChange := ⟨n, s.life.level, die, block⟩
    let s := match s.life.change with
      | none => { s with life := { s.life with change := some new } }
      | some c =>
        if c.cycle = n then
          if die < c.die then { s with life := { s.life with change := some { new with old := c.old } } } else s
        else { s.tellLevel with life := { s.tellLevel.life with change := some new } }
    { s with life := { s.life with level := l } }

/-- A unit leaves service (R468). -/
def State.leaveService (s : State) (die block unit : Nat) : State :=
  if s.life.units.contains (die, block, unit) then s
  else ({ s with life := { s.life with units := s.life.units ++ [(die, block, unit)] } }).relevel die block

/-! ### Blocks that are held (R445, R448 to R450, R464) -/

/-- The clock domain of a block (R446, DEDUCED log 26). -/
def blockDomain (block : Nat) : Nat :=
  if block ≤ 5 then 0
  else match block with
    | 7 => 1 | 8 => 1 | 9 => 1 | 10 => 2 | 11 => 3 | 12 => 4 | 14 => 5 | 17 => 7 | 22 => 8 | _ => 6

/-- Is a domain of a die held (R449)? -/
def State.domainHeld (s : State) (die domain : Nat) : Bool := s.reg die Reg.clkHeld / pow2 domain % 2 = 1

/-- Does a die's power state turn a block off (R450): the ARITH clocks of C0 and C1 from Hold on, all of these dies in Rest, where HBM and
bench are in self-refresh? -/
def State.asleep (s : State) (die block : Nat) : Bool :=
  let st := s.rst.dieState.getD die 0
  (die < 2 && decide (1 ≤ st) && (decide (block ≤ 5) || st = 3)) || (2 ≤ die && die < 6 && st = 3 && (block = 10 || block = 11))

/-- Is a block of a die held: in a reset of the module or of its own, its clock domain not good, its die in a state that turns it off or
short of regulator phases (R436, R445, R449, R450, R464)? What the block does waits: a command for it changes nothing, and may
come again after the release (log 29). -/
def State.held (s : State) (die block : Nat) : Bool :=
  !s.rst.vin || s.rst.off || s.rst.asserted || s.rst.blockReset.contains (die * 32 + block) || s.domainHeld die (blockDomain block)
    || s.asleep die block || decide (2 < s.life.shed.getD die 0)

/-- Is an engine of any memory-side die held? -/
def State.engineHeld (s : State) (block : Nat) : Bool := [2, 3, 4, 5].any fun d => s.held d block

end Sys2Proof.Machine
end

