-- ==== Sys2Proof/Machine/Guard.lean ====
section
/-! DEFINITION. Register windows: which register an offset names, and the guard (R419 to R425). -/

namespace Sys2Proof.Machine

/-- The GUARD register of a block. -/
def guardReg (block : Nat) : RegName := block * 0x10000 + 8

/-- Does the offset name a register of the window: ID, GUARD, or one of its map? -/
def namesReg (die block off : Nat) : Bool :=
  off = 0 || off = 8 || (dieRows die block).any fun r => r.off = off

/-- While the result names no register, clear the highest set bit among [k:3] (R422 step 2). -/
def resolveFrom (die block : Nat) : Nat → Nat → Nat
  | 0, _ => 0
  | k + 1, off =>
    if namesReg die block off then off
    else resolveFrom die block k (off % pow2 (k + 3))

/-- The register offset that an access reaches (R422). -/
def resolve (die block off : Nat) : Nat :=
  let k := decodedBit block
  let o := off % pow2 (k + 1) / 8 * 8
  resolveFrom die block (k - 1) o

/-- Is the access served: its address inside the space, on a window the die carries, of 4 or 8 bytes and naturally
aligned (R419, R420)? The answer is die, block and register offset. -/
def regAccess (off width : Nat) : Option (Nat × Nat × Nat) :=
  let w := off / 0x10000
  let die := w / 32
  let block := w % 32
  if off < 0x1000000 && carries die block && (width = 4 || width = 8) && off % width = 0 then
    some (die, block, resolve die block (off % 0x10000))
  else none

/-- Is the register guarded (R424)? -/
def guarded (n : RegName) : Bool := match regRow n with | some r => r.guarded | none => false

/-- Guard mode and lock bit of a window. -/
def State.guardMode (s : State) (die block : Nat) : Nat := bits (s.reg die (guardReg block)) 3 2
def State.guardLock (s : State) (die block : Nat) : Bool := s.reg die (guardReg block) % 2 = 1

/-- May a master read a guarded register, and write it (R425)? -/
def State.guardRead (s : State) (die block : Nat) (priv : Bool) : Bool :=
  s.guardMode die block = 1 || priv
def State.guardWrite (s : State) (die block : Nat) (priv : Bool) : Bool :=
  s.guardRead die block priv && !(s.guardMode die block ≠ 0 && s.guardLock die block)

/-- The guard refused an access: DENIED is set (R425). -/
def State.denied (s : State) (die block : Nat) : State := s.flag die (guardReg block) 1

end Sys2Proof.Machine
end

