-- ==== Sys2Proof/Machine/Voicing.lean ====
section
/-! DEFINITION. The voicing image: its header, its sequencer program, its EPU program, its tables, its cost
descriptor, and the load checks (R53, R86, R98 to R106, R108, R113, R117, R139, R147, R157, R162, R165, R175, R186,
R187). -/

namespace Sys2Proof.Machine

/-- A voicing image, by offset. -/
abbrev Img := SMap Byte

/-- A little-endian number of the image. -/
def imgNat (img : Img) (o n : Nat) : Nat := leNat (SMap.getMany 0 img o n)

/-- Bits [hi:lo] of header word w (R99). -/
def hdr (img : Img) (w hi lo : Nat) : Nat := bits (imgNat img (8 * w) 8) hi lo

/-- The header's fields (R99, R139). -/
structure Voicing where
  vid : Nat
  layer : Nat
  tensor : Nat
  pass : Nat
  scope : Nat
  fmtA : Nat
  fmtB : Nat
  fmtOut : Nat
  round : Nat
  scaleSrc : Nat
  held : Nat
  role : Nat
  srcA : Nat
  srcB : Nat
  capoA : Nat
  capoB : Nat
  passOut : Nat
  m : Nat
  n : Nat
  b : Nat
  kb : Nat
  first : Nat
  count : Nat
  pinned : Nat
  pinA : Nat
  pinB : Nat
  epuLen : Nat
  tableSet : Nat
  srcPass : Nat
  op : Nat
  deliver : Nat
  extent : Nat
  norm : Bool
  position : Nat
  size : Nat
  k : Nat
  seqLen : Nat
  deriving DecidableEq, Repr

/-- Read the header. -/
def Voicing.of (i : Img) : Voicing :=
  { vid := hdr i 0 31 16, layer := hdr i 0 47 32, tensor := hdr i 0 55 48, pass := hdr i 0 59 56
    scope := hdr i 0 60 60, fmtA := hdr i 1 3 0, fmtB := hdr i 1 7 4, fmtOut := hdr i 1 11 8, round := hdr i 1 13 12
    scaleSrc := hdr i 1 14 14, held := hdr i 1 23 16, role := hdr i 1 26 24, srcA := hdr i 1 35 32
    srcB := hdr i 1 39 36, capoA := hdr i 1 41 40, capoB := hdr i 1 43 42, passOut := hdr i 1 47 44
    m := hdr i 2 6 0, n := hdr i 2 14 8, b := hdr i 2 19 16, kb := hdr i 2 47 24
    first := hdr i 3 3 0, count := hdr i 3 7 4 + 1, pinned := hdr i 3 9 8, pinA := hdr i 3 13 10
    pinB := hdr i 3 17 14, epuLen := hdr i 4 6 0, tableSet := hdr i 4 11 8, srcPass := hdr i 4 27 16
    op := hdr i 5 2 0, deliver := hdr i 5 4 3, extent := hdr i 5 6 5, norm := hdr i 5 7 7 = 1
    position := hdr i 5 16 8, size := hdr i 5 25 17 + 1, k := hdr i 5 31 26 + 1, seqLen := hdr i 6 8 0 }

/-- Does the voicing multiply integers (R86)? -/
def Voicing.int (v : Voicing) : Bool := Fmt.isInt v.fmtA

/-- Slots of the file (R115). -/
def slotsOf (m n : Nat) : Nat := if m * n = 0 then 0 else min 16 (73728 / (m * n))

/-- The slots the voicing pins (R120). -/
def Voicing.pins (v : Voicing) : List Nat :=
  if v.pinned = 0 then [] else if v.pinned = 1 then [v.pinA] else [v.pinA, v.pinB]

/-- Is it an ordinary slot of the voicing (R104)? -/
def Voicing.ordinary (v : Voicing) (s : Nat) : Bool := v.first ≤ s && s < v.first + v.count

/-- Is it a slot of the voicing (R104)? -/
def Voicing.slot (v : Voicing) (s : Nat) : Bool := v.ordinary s || v.pins.contains s

/-- The sequencer operation at a program index (R98, R103). -/
def seqWord (i : Img) (pc : Nat) : Nat := imgNat i (0x100 + 8 * pc) 8

/-- Its opcode. -/
def opcode (w : Nat) : Nat := bits w 63 56

/-- The EPU instruction at a place of the store. -/
def epuWord (i : Img) (p : Nat) : Nat := imgNat i (0x900 + 8 * p) 8

/-! ### Cost descriptor (R108) -/

/-- The fields of the descriptor that admission uses. -/
structure Descr where
  varlen : Bool
  rung : Nat
  repeatRung : Nat
  fixed : Nat
  repeatCycles : Nat
  itemQ8 : Nat
  baseItems : Nat
  maxItems : Nat
  hbm0 : Nat
  hbm1 : Nat
  hbm2 : Nat
  benchRead : Nat
  benchWrite : Nat
  fabric : Nat
  ring : Nat
  push : Nat
  pop : Nat
  itemBytes : Nat
  bridgeSlots : Nat
  deriving DecidableEq, Repr

/-- Read the descriptor. -/
def Descr.of (i : Img) : Descr :=
  let f := fun o n => imgNat i (0x40 + o) n
  { varlen := f 1 1 % 2 = 1, rung := f 2 1, repeatRung := f 3 1, fixed := f 4 4, repeatCycles := f 8 4
    itemQ8 := f 12 4, baseItems := f 16 4, maxItems := f 20 4, hbm0 := f 24 8, hbm1 := f 32 8, hbm2 := f 40 8
    benchRead := f 48 8, benchWrite := f 56 8, fabric := f 64 8, ring := f 72 8, push := f 80 8, pop := f 88 8
    itemBytes := f 96 8, bridgeSlots := f 105 1 }

/-- The fret-side bound in cycles for e items per event (R109). -/
def Descr.bound (d : Descr) (e : Nat) : Nat := d.fixed + ceilDiv ((e - d.baseItems) * d.itemQ8) 256

/-! ### Load checks (R100) -/

/-- Are bits [hi:lo] of header word w zero? -/
def zeroBits (i : Img) (w hi lo : Nat) : Bool := hdr i w hi lo = 0

/-- A product's pair of formats under R86, B stationary and A streaming. -/
def pairOk (a b : Nat) : Bool :=
  let small := fun f => f = 8 || f = 9
  let wide := fun f => 3 ≤ f && f ≤ 6
  let low := fun f => f = 7 || small f
  (small b && (small a || a = 7 || a = 10)) || (b = 7 && (a = 7 || a = 10)) || (a = 13 && b = 13)
    || (wide b && (wide a || low a)) || (wide a && low b) || (a = 12 && (b = 12 || b = 13))
    || (b = 1 && (a = 1 || wide a || low a)) || (a = 1 && (wide b || low b))

/-- The formats a role admits (R53). -/
def roleOk (role fmt : Nat) (int : Bool) : Bool :=
  match role with
  | 0 => [7, 10, 3, 6].contains fmt || Fmt.rungs3to5 fmt
  | 1 => fmt = 7 || Fmt.rungs3to5 fmt
  | 2 => [9, 8, 7].contains fmt || Fmt.rungs3to5 fmt
  | 3 => [3, 5, 7, 8].contains fmt
  | 4 => fmt = 5
  | 5 => fmt = 0 || fmt = 11
  | 6 => fmt = 2
  | _ => fmt = if int then 14 else 0

/-- Check 0x3. -/
def checkFormats (v : Voicing) : Bool :=
  v.fmtA ≠ 15 && v.fmtB ≠ 15 && v.fmtOut ≠ 15 && pairOk v.fmtA v.fmtB && roleOk v.role v.fmtOut v.int
    && (!v.int || v.role = 7)

/-- Check 0x5 (R90). -/
def checkShape (v : Voicing) : Bool :=
  16 ≤ v.m && v.m ≤ 96 && v.m % 16 = 0 && 16 ≤ v.n && v.n ≤ 96 && v.n % 16 = 0 && 1 ≤ v.b && v.b ≤ 8 && 1 ≤ v.kb

/-- Check 0x6: R117 with spill interval T, and R139. -/
def checkSlots (v : Voicing) (i : Img) (T index : Nat) : Bool :=
  let S := slotsOf v.m v.n
  let out := fun p => p < S && !v.ordinary p
  v.first + v.count ≤ S && v.pinned ≤ 2 && v.pins.all out && !(v.pinned = 2 && v.pinA = v.pinB)
    && (v.int || v.kb ≤ T || v.count * v.m * v.n ≤ 8192)
    && v.op ≠ 7 && v.deliver ≠ 3 && v.extent ≠ 3
    && (if v.op = 0 then hdr i 5 31 0 = 0
        else
          let base := index - v.position
          v.position < v.size && v.position ≤ index && base + v.size ≤ 384
            && base % pow2 (if v.size ≤ 1 then 0 else Nat.log2 (v.size - 1) + 1) = 0
            && (!(v.op = 4) || v.k ≤ v.n - 1)
            && (!(v.op = 5 || v.op = 6) || v.extent = 0))

/-- Does a neighbour lie in direction d (0 north, 1 east, 2 south, 3 west) of column c and row j (R93, R94)? -/
def onGrid (c j d : Nat) : Bool :=
  match d with
  | 0 => decide (0 < j)
  | 1 => decide (c < 15)
  | 2 => decide (j < 23)
  | _ => decide (0 < c)

/-- A defined source code that stays on the grid (R93, R94). -/
def sourceOk (c j s : Nat) : Bool := s ≤ 8 && (s = 0 || 5 ≤ s || onGrid c j (s - 1))

/-- Check 0x7: sources, capo paths and passing stay on the grid, at column c and row j (R93, R94, R96). -/
def checkRoutes (v : Voicing) (c j : Nat) : Bool :=
  sourceOk c j v.srcA && sourceOk c j v.srcB && v.capoA ≠ 3 && v.capoB ≠ 3
    && (List.range 4).all fun d => (v.passOut >>> d) % 2 = 0 || onGrid c j d

/-- Bytes of a tile of `lines` lines of `blocks` blocks: the element plane, the scale plane from the next 64-byte
boundary, the zero-point plane from the next (R160, R185). -/
def tileBytes (fmt lines blocks : Nat) : Nat :=
  let nb := lines * blocks
  let plane := 4 * Fmt.width fmt * nb
  if fmt = 10 then roundUp (roundUp plane 64 + nb) 64 + ceilDiv nb 2
  else if Fmt.isBlock fmt then roundUp plane 64 + nb
  else plane

/-- Bytes of a tile of rows × cols in the layout of R160. -/
def rowTileBytes (fmt rows cols : Nat) : Nat :=
  if Fmt.isBlock fmt then tileBytes fmt rows (ceilDiv cols 32) else ceilDiv (Fmt.width fmt * rows * cols) 8

/-- How many rows of `cols` columns a tile of so many bytes holds, from r up (R160, R186). -/
def tileRows (fmt cols bytes : Nat) : Nat → Nat → Option Nat
  | 0, _ => none
  | fuel + 1, r =>
    let n := rowTileBytes fmt r cols
    if n = bytes then some r else if bytes < n then none else tileRows fmt cols bytes fuel (r + 1)

/-- The whole number of rows that a byte count names (R186); R160 gives S24 no layout. -/
def rowsOfBytes (fmt cols bytes : Nat) : Option Nat := if fmt = 2 then none else tileRows fmt cols bytes 65536 1

/-- Run end: the first end bit at or after `p` (R158). -/
def runLen (i : Img) (len : Nat) : Nat → Nat → Option Nat
  | 0, _ => none
  | fuel + 1, p =>
    if len ≤ p then none
    else if bits (epuWord i p) 56 56 = 1 then some 1
    else (runLen i len fuel (p + 1)).map (· + 1)

/-- The defined opcodes of EPU instructions (R167). -/
def epuCodeOk (o : Nat) : Bool :=
  o ≤ 0x11 || (0x18 ≤ o && o ≤ 0x1B) || (0x20 ≤ o && o ≤ 0x2C) || o = 0x30 || o = 0x31 || (0x38 ≤ o && o ≤ 0x3D)
    || o = 0x40 || o = 0x41 || o = 0x48

/-- Which fields an opcode uses: destination, a, b, c, and a bound on mod (R165, R167 to R172). -/
def epuUses (o : Nat) : Bool × Bool × Bool × Bool × Nat :=
  match o with
  | 0x00 => (false, false, false, false, 1)
  | 0x01 => (true, true, true, false, 1) | 0x02 => (true, true, true, false, 1)
  | 0x03 => (true, true, true, false, 1) | 0x04 => (true, true, true, true, 1)
  | 0x05 => (true, true, true, false, 1) | 0x06 => (true, true, true, false, 1)
  | 0x0C => (true, true, true, false, 1)
  | 0x10 => (true, true, false, false, 3) | 0x11 => (true, true, false, false, 3)
  | 0x18 => (true, true, true, false, 7) | 0x19 => (true, true, true, false, 6)
  | 0x1A => (true, true, false, true, 4) | 0x1B => (true, true, true, false, 6)
  | 0x20 => (true, true, true, false, 1) | 0x21 => (true, true, true, false, 1)
  | 0x22 => (true, true, true, false, 1) | 0x23 => (true, true, true, false, 1)
  | 0x24 => (true, true, true, false, 1) | 0x25 => (true, true, true, false, 1)
  | 0x26 => (true, true, true, false, 1) | 0x27 => (true, true, true, false, 1)
  | 0x28 => (true, true, true, false, 1) | 0x29 => (true, true, false, false, 3)
  | 0x2C => (true, true, true, false, 1)
  | 0x30 => (true, false, false, false, 5) | 0x31 => (true, true, false, false, 1)
  | 0x38 => (true, true, true, false, 1) | 0x39 => (true, true, false, false, 3)
  | 0x3A => (true, true, true, false, 1) | 0x3B => (true, true, false, false, 2)
  | 0x3C => (true, true, false, false, 3) | 0x3D => (true, true, false, false, 3)
  | 0x40 => (false, true, false, false, 4) | 0x41 => (true, false, false, false, 4)
  | 0x48 => (true, true, false, false, 4)
  | _ => (true, true, false, false, 1)

/-- Bits of the immediate field that the opcode reads without the imm bit (R167 to R171). -/
def epuImmBits (o : Nat) : Nat :=
  if o = 0x2B || o = 0x2C then 10 else if o = 0x39 then 6 else if o = 0x40 || o = 0x41 then 2 else 0

/-- Does the destination name a predicate or a summary accumulator (R165)? -/
def epuDestPred (o : Nat) : Bool := o = 0x18 || o = 0x19 || o = 0x1B || o = 0x48

/-- One instruction of the store: a defined opcode, unused fields zero, tables as R162 says (log 30). -/
def epuInstrOk (v : Voicing) (w : Nat) : Bool :=
  let o := bits w 63 57
  let u := epuUses o
  let imm := bits w 35 35 = 1
  let useB := u.2.2.1
  let mov := o = 0x31
  epuCodeOk o && (u.1 || bits w 55 52 = 0) && (u.2.1 && !(mov && imm) && !(o = 0x48 && bits w 34 32 = 3) || bits w 51 48 = 0)
    && ((useB && !imm) || bits w 47 44 = 0) && (u.2.2.2.1 || bits w 43 40 = 0)
    && bits w 34 32 < u.2.2.2.2 && ([0, 4, 5, 6, 7].contains (bits w 39 37))
    && ((useB && o ≠ 0x1B) || mov || !imm) && (imm || bits w 31 0 < pow2 (epuImmBits o))
    && (!epuDestPred o || bits w 55 54 = 0) && (o ≠ 0x1B || (bits w 51 50 = 0 && bits w 47 46 = 0))
    && (o ≠ 0x1B || bits w 34 32 < 4 || bits w 51 44 = 0) && (o ≠ 0 || bits w 55 0 = 0) && (!(o = 0x10 || o = 0x11) || v.tableSet ≠ 0)

/-- The operands of an EPU operation (R157). -/
structure EpuOp where
  s0 : Nat
  offA : Nat
  rows : Nat
  in0 : Nat
  in1 : Nat
  in2 : Nat
  out : Nat
  s1 : Nat
  offB : Nat
  start : Nat
  hold : Bool
  deriving DecidableEq, Repr

/-- Read them. -/
def EpuOp.of (w : Nat) : EpuOp :=
  { s0 := bits w 55 52, offA := bits w 51 42 * 256, rows := bits w 41 35, in0 := bits w 34 32, in1 := bits w 31 29
    in2 := bits w 28 26, out := bits w 25 23, s1 := bits w 22 19, offB := bits w 18 9 * 256, start := bits w 8 3
    hold := bits w 0 0 = 1 }

/-- Does a mode name s1 (R159, R161)? -/
def EpuOp.usesS1 (o : EpuOp) : Bool := [o.in0, o.in1, o.in2].any (fun x => x = 2 || x = 7) || o.out = 2 || o.out = 5

/-- The instruction words of a run. -/
def epuRun (i : Img) (start len : Nat) : List Nat := (List.range len).map fun k => epuWord i (start + k)

/-- The loops around an operation in the program: count and SRAM stride in bytes, outermost first (R104, R106). -/
def loopsAround (i : Img) (maxItems pc : Nat) : List (Nat × Nat) :=
  (List.range pc).filterMap fun p =>
    let w := seqWord i p
    if opcode w = 0x0B && pc ≤ p + bits w 39 32 then
      some (if bits w 31 0 = 0xFFFFFFFF then maxItems else bits w 31 0, bits w 47 40 * 256)
    else none

/-- Does an access of `n` bytes at a field's offset stay within the operand SRAM in every iteration (R106, R162)? Offsets
are multiples of 256 taken modulo 256 KiB, so 1,024 iterations of a LOOP reach all of its offsets. -/
def staysInside (loops : List (Nat × Nat)) (off n : Nat) : Bool :=
  match loops with
  | [] => off % 262144 + n ≤ 262144
  | l :: rest =>
    if l.2 = 0 then staysInside rest off n
    else (List.range (min l.1 1024)).all fun k => staysInside rest (off + k * l.2) n

/-- R162 for one EPU operation, with the loops around it. -/
def epuOpOk (v : Voicing) (i : Img) (loops : List (Nat × Nat)) (w : Nat) : Bool :=
  let o := EpuOp.of w
  match runLen i v.epuLen 64 o.start with
  | none => false
  | some l =>
    let run := epuRun i o.start l
    let cmps := (run.filter fun x => bits x 63 57 = 0x40).length
    let expl := (run.filter fun x => bits x 63 57 = 0x41).length
    let ins := [o.in0, o.in1, o.in2]
    let useA := ins.any fun x => 3 ≤ x && x ≤ 6
    let useB := o.out = 3 || o.out = 4 || o.out = 6
    let E := o.rows * v.n
    let loops := if o.hold then [] else loops
    let within := staysInside loops
    let okA := fun k x => match x with
      | 3 => within o.offA (4 * E)
      | 4 => within o.offA (rowTileBytes v.fmtOut o.rows v.n)
      | 5 => within o.offA (4 * (k * 96 + v.n))
      | 6 => within o.offA (4 * (k * 96 + o.rows))
      | _ => true
    1 ≤ v.epuLen && 1 ≤ o.rows && o.rows ≤ v.m && v.slot o.s0 && (!o.usesS1 || v.slot o.s1) && o.out ≠ 7
      && okA 0 o.in0 && okA 1 o.in1 && okA 2 o.in2
      && (!(o.out = 3 || o.out = 6) || within o.offB (4 * E)) && (!(o.out = 4) || within o.offB (2 * E))
      && (cmps = 0 || !useB) && (expl = 0 || !useA)
      && (!(ins.contains 3 || ins.contains 4) || (ins.filter fun x => 3 ≤ x && x ≤ 6).length ≤ 1
          || (ins.all fun x => x < 3 || x = 7 || x = 3) || (ins.all fun x => x < 3 || x = 7 || x = 4))
      && !(o.out = 4 && v.role = 1) && cmps ≤ 1 && expl ≤ 1 && bits w 2 1 = 0

/-- The size of a record that CONV forms: header and payload (R185, R187). -/
def recordBytes (fmt blocking rows n : Nat) : Nat :=
  let row := rowTileBytes fmt rows n
  let col := if Fmt.isBlock fmt then tileBytes fmt n (ceilDiv rows 32) else ceilDiv (Fmt.width fmt * rows * n) 8
  64 + match blocking with
    | 0 => row
    | 1 => col
    | 2 => roundUp row 64 + col
    | _ => 4 * (rows * n)

/-- One sequencer operation on its own: opcode, unlisted bits zero, field limits (R104, R147, R186, R187). -/
def seqOpOk (v : Voicing) (i : Img) (c j pc : Nat) : Bool :=
  let w := seqWord i pc
  let src := sourceOk c j (bits w 55 52)
  match opcode w with
  | 0x00 => bits w 55 0 = 0
  | 0x01 => src && 1 ≤ bits w 37 34 && bits w 37 34 ≤ 8 && bits w 25 1 = 0
  | 0x02 => bits w 55 0 = 0
  | 0x03 => src && 1 ≤ bits w 37 31 && bits w 37 31 ≤ v.m && v.slot (bits w 30 27) && bits w 19 1 = 0
  | 0x04 => epuOpOk v i (loopsAround i (Descr.of i).maxItems pc) w
  | 0x05 =>
    let dst := bits w 51 48
    let blk := bits w 35 34
    v.slot (bits w 55 52) && dst ≤ 4 && 1 ≤ bits w 33 27 && bits w 33 27 ≤ v.m && bits w 26 1 = 0
      && (!(dst = 3) || (bits w 47 36 = 0 && (!(blk = 1 || blk = 2) || v.m % 32 = 0) && (!(v.role = 7) || blk = 3)
        && recordBytes v.fmtOut blk (bits w 33 27) v.n ≤ 40960))
  | 0x06 => bits w 55 52 ≤ 4 && bits w 17 1 = 0 && (bits w 55 52 ≠ 3 || 64 + bits w 37 18 ≤ 40960)
  | 0x07 => src && bits w 17 1 = 0
  | 0x08 => v.op ≠ 0 && bits w 51 45 ≤ v.m && v.slot (bits w 55 52) && bits w 44 0 = 0
      && (v.op = 5 || v.op = 6 || v.ordinary (bits w 55 52 + 1))
  | 0x09 => bits w 55 52 = 0 && bits w 17 1 = 0 && 64 + bits w 37 18 ≤ 40960
      && (rowsOfBytes v.fmtOut v.n (bits w 37 18)).isSome
  | 0x0A => bits w 43 1 = 0
  | 0x0B => 1 ≤ bits w 39 32
  | 0x0C => bits w 55 4 = 0 && 1 ≤ bits w 3 0 && bits w 3 0 ≤ 4
  | 0x0D => bits w 55 0 = 0
  | 0x0E => bits w 55 0 = 0
  | _ => false

/-- Walk the program with the bodies that enclose each operation: (end, largest iteration × stride, depth). A nested
body ends inside the outer one, nesting is at most 2 deep, and no STREAM's largest effective block offset reaches
ceil(kb / b) (R104, R106). -/
def loopsOk (v : Voicing) (i : Img) (maxItems : Nat) : Nat → Nat → List (Nat × Nat) → Bool
  | 0, _, _ => true
  | fuel + 1, p, open' =>
    if v.seqLen ≤ p then true
    else
      let open' := open'.filter fun f => p < f.1
      let w := seqWord i p
      if opcode w = 0x0B then
        let e := p + 1 + bits w 39 32
        let n := if bits w 31 0 = 0xFFFFFFFF then maxItems else bits w 31 0
        open'.length < 2 && decide (e ≤ v.seqLen) && (open'.all fun f => e ≤ f.1)
          && loopsOk v i maxItems fuel (p + 1) ((e, (n - 1) * bits w 55 48) :: open')
      else if opcode w = 0x03 then
        let reach := bits w 25 20 + if bits w 0 0 = 1 then 0 else (open'.map (·.2)).sum
        decide (reach < ceilDiv v.kb v.b) && loopsOk v i maxItems fuel (p + 1) open'
      else loopsOk v i maxItems fuel (p + 1) open'

/-- Check 0x8. -/
def checkProgram (v : Voicing) (i : Img) (c j : Nat) : Bool :=
  1 ≤ v.seqLen && v.seqLen ≤ 256 && ((List.range v.seqLen).all fun p => seqOpOk v i c j p)
    && v.epuLen ≤ 64 && ((List.range v.epuLen).all fun p => epuInstrOk v (epuWord i p))
    && loopsOk v i (Descr.of i).maxItems 256 0 []

/-- Check 0x9: fields and regions shown as zero. -/
def checkZeros (i : Img) : Bool :=
  zeroBits i 0 15 9 && zeroBits i 0 63 61 && zeroBits i 1 15 15 && zeroBits i 1 31 27 && zeroBits i 1 63 48
    && zeroBits i 2 7 7 && zeroBits i 2 15 15 && zeroBits i 2 23 20 && zeroBits i 2 63 48 && zeroBits i 3 63 18
    && zeroBits i 4 63 28 && zeroBits i 4 7 7 && zeroBits i 4 15 12 && zeroBits i 5 63 32 && zeroBits i 6 63 9
    && zeroBits i 7 63 32 && (hdr i 5 2 0 = 4 || zeroBits i 5 31 26) && (i.all fun p => p.1 < 0xB00 || 0x1000 ≤ p.1)
    && [0x100C, 0x200C, 0x300C].all fun o => imgNat i o 4 = 0

/-- Check 0xA (R113). -/
def checkDescr (i : Img) : Bool :=
  let f := fun o n => imgNat i (0x40 + o) n
  f 0 1 = 1 && f 1 1 < 2 && f 107 1 = 0 && (i.all fun p => p.1 < 0xB8 || 0x100 ≤ p.1) && f 16 4 ≤ f 20 4
    && f 106 1 = hdr i 4 6 0 && (f 3 1 = 0xFF || f 4 4 ≤ f 8 4)

/-- The first check an image fails for the fret at column c and row j, in the order of R100; 0 when none. An image that
could not be read has no bytes that the other checks could be made on (DEDUCED, log 30). -/
def loadCheck (i : Img) (T c j : Nat) (ue : Bool) : Nat :=
  let v := Voicing.of i
  if ue then 0xB
  else if (crc32 (SMap.getMany 0 (i.filter fun p => p.1 < 0x38 || 0x3C ≤ p.1) 0 16384)).toNat ≠ hdr i 7 31 0 then 1
  else if !(hdr i 0 7 0 = 1 && hdr i 0 8 8 = 1) then 2
  else if !checkFormats v then 3
  else if v.round = 3 || (v.round = 1 && v.fmtOut = 10) then 4
  else if !checkShape v then 5
  else if !checkSlots v i T (c * 24 + j) then 6
  else if !checkRoutes v c j then 7
  else if !checkProgram v i c j then 8
  else if !checkZeros i then 9
  else if !checkDescr i then 0xA
  else 0

/-- The CRC of the 12 KiB table region (R178). -/
def tableCrc (i : Img) : Nat := (crc32 (SMap.getMany 0 i 0x1000 12288)).toNat

/-! ### The fret's voicing -/

/-- The image of a slot, and its status. -/
def Fret.img (f : Fret) (slot : Nat) : Img := if slot = 0 then f.img0 else f.img1
def Fret.st (f : Fret) (slot : Nat) : Nat := if slot = 0 then f.st0 else f.st1
/-- Replace a slot's status. -/
def Fret.setSt (f : Fret) (slot v : Nat) : Fret := if slot = 0 then { f with st0 := v } else { f with st1 := v }
/-- Replace a slot's image. -/
def Fret.setImg (f : Fret) (slot : Nat) (i : Img) : Fret :=
  if slot = 0 then { f with img0 := i } else { f with img1 := i }

/-- The slot that is not active; slot 0 while there is no active voicing (R101, log 8). -/
def Fret.shadow (f : Fret) : Nat := if f.active = 0 then 1 else 0

/-- The active image. -/
def Fret.aimg (f : Fret) : Img := f.img f.active
/-- The active voicing's header. -/
def Fret.voicing (f : Fret) : Voicing := Voicing.of f.aimg

/-! ### Table registers (R178) -/

/-- The table_set of a loaded slot; 0 for one that holds none. -/
def Fret.setOf (f : Fret) (slot : Nat) : Nat := if f.st slot = 2 then (Voicing.of (f.img slot)).tableSet else 0

/-- Clear every entry that no loaded slot of the die uses (R178). -/
def State.sweepTables (s : State) (d : Nat) : State :=
  let used := fun t => s.frets.any fun p => p.1 / 384 = d && (p.2.setOf 0 = t || p.2.setOf 1 = t)
  let c := s.cdie d
  s.setCDie d { c with tables := c.tables.filter fun p => used p.1 }

/-- The images loaded on the module, each with its fret's index and slot. -/
def State.loaded (s : State) : List (Nat × Img) :=
  s.frets.flatMap fun p =>
    (if p.2.st0 = 2 then [(p.1, p.2.img0)] else []) ++ (if p.2.st1 = 2 then [(p.1, p.2.img1)] else [])

end Sys2Proof.Machine
end

