-- ==== Sys2Proof/Machine/Accum.lean ====
section
/-! DEFINITION. The accumulator file and the spill buffer of one fret: values, terms, spills, window writes, switches
(R115, R118 to R125, R128, R131, R134), and the block partials of the array (R45, R87, R88). -/

namespace Sys2Proof.Machine

/-- Where a slot's tile begins in the file (R115). -/
def slotBase (v : Voicing) (k : Nat) : Nat := k * v.m * v.n

/-- Does the slot own spill pairs under the voicing with interval T (R123)? -/
def ownsPairs (v : Voicing) (T k : Nat) : Bool := !v.int && T < v.kb && v.ordinary k && !v.pins.contains k

/-- The first spill word of an element (R123). -/
def pairWord (v : Voicing) (k e : Nat) : Nat := 2 * ((k - v.first) * v.m * v.n + e)

/-- s = hi + a with saturation, its exact error e, and whether s saturated (R122). -/
def twoSum (hi a : F32) : F32 × F32 × Bool :=
  let p := Fp.addSat hi a
  let s := p.1
  let bb := Fp.sub s hi
  (s, Fp.add (Fp.sub hi (Fp.sub s bb)) (Fp.sub a bb), p.2)

/-- The value V of an element (R125). -/
def valueV (f : Fret) (v : Voicing) (T k e : Nat) : F32 :=
  let w := slotBase v k + e
  let a := SMap.get 0 f.acc w
  if v.int || !ownsPairs v T k || SMap.get 0 f.spills w = 0 then a
  else
    let hi := SMap.get 0 f.spill (pairWord v k e)
    let lo := SMap.get 0 f.spill (pairWord v k e + 1)
    if Fp.isFinite hi && Fp.isFinite lo && Fp.isFinite a then
      let t := twoSum hi a
      if t.2.2 then t.1 else (Fp.addSat t.1 (Fp.add lo t.2.1)).1
    else (Fp.addSat (Fp.addSat hi a).1 lo).1

/-- V of the first `count` elements of a slot, in row-major order. -/
def slotValues (f : Fret) (v : Voicing) (T k count : Nat) : List F32 :=
  (List.range count).map fun e => valueV f v T k e

/-- Mute bits of the first `count` elements. -/
def slotMutes (f : Fret) (v : Voicing) (k count : Nat) : List Bool :=
  (List.range count).map fun e => SMap.get false f.mute (slotBase v k + e)

/-- A window write of one element (R131): J stays, the mute bit becomes `mu`. -/
def writeElem (f : Fret) (v : Voicing) (T k e : Nat) (x : F32) (mu : Bool) : Fret :=
  let w := slotBase v k + e
  let f := if ownsPairs v T k then { f with spill := SMap.setMany 0 f.spill (pairWord v k e) [0, 0] } else f
  { f with acc := SMap.set 0 f.acc w x, terms := SMap.set 0 f.terms w 0, mute := SMap.set false f.mute w mu
           bounded := f.bounded.filter (· ≠ k) }

/-- Window writes of consecutive elements from `e` up. -/
def writeElems (f : Fret) (v : Voicing) (T k e : Nat) (xs : List (F32 × Bool)) : Fret :=
  let w := slotBase v k + e
  let f := if ownsPairs v T k then
    { f with spill := SMap.setMany 0 f.spill (pairWord v k e) (List.replicate (2 * xs.length) 0) } else f
  { f with acc := SMap.setMany 0 f.acc w (xs.map (·.1)), terms := SMap.eraseRange f.terms w xs.length
           mute := SMap.setMany false f.mute w (xs.map (·.2)), bounded := f.bounded.filter (· ≠ k) }

/-- What a STREAM with first = 1 does before its first addition (R104, R122, R134). -/
def startSlot (f : Fret) (v : Voicing) (T k : Nat) : Fret :=
  let w := slotBase v k
  let E := v.m * v.n
  let f := if ownsPairs v T k then { f with spill := SMap.eraseRange f.spill (pairWord v k 0) (2 * E) } else f
  { f with acc := SMap.eraseRange f.acc w E, terms := SMap.eraseRange f.terms w E
           spills := SMap.eraseRange f.spills w E, mute := SMap.eraseRange f.mute w E
           bounded := f.bounded.filter (· ≠ k) }

/-! ### Block partials (R87) -/

/-- The 32 unscaled values of block j of a line, its scale exponent or none for scale 0xFF, and how many N2 codes
0b10 it held (R36, R42, R43). -/
def Tile.block (t : Tile) (line j : Nat) : List FpVal × Option Int × Nat :=
  let w := Fmt.width t.fmt
  let at0 := line * t.blocks + j
  let codes := (List.range 32).map fun k => Fmt.planeCode t.plane w (at0 * 32 + k)
  if Fmt.isBlock t.fmt then
    let sc := (t.scales.getD at0 0).toNat
    let z := (Fmt.planeCode t.zeros 4 at0 : Nat)
    let vals : List FpVal := codes.map fun (c : Nat) =>
      if t.fmt = 10 then
        let d : Int := (c : Int) - (z : Int)
        FpVal.fin (decide (d < 0)) d.natAbs 0
      else Fmt.elem t.fmt c
    (vals, if sc = 0xFF then none else some ((sc : Int) - 127),
      if t.fmt = 9 then (codes.filter (· = 2)).length else 0)
  else if t.fmt = 1 then (codes.map fun c => Fp.unpack (Fp.ofBf16 c), some 0, 0)
  else (codes.map fun c => let i := Fmt.signed w c; FpVal.fin (decide (i < 0)) i.natAbs 0, some 0, 0)

/-- The exact sum of products, in ascending element order. -/
def dot (a b : List FpVal) : FpVal :=
  (a.zip b).foldl (fun acc p => Fp.exactAdd acc (Fp.exactMul p.1 p.2)) (.fin false 0 0)

/-- One float block partial, rounded once, and whether it saturated (R87). -/
def partialF (a b : List FpVal × Option Int × Nat) : F32 × Bool :=
  match a.2.1, b.2.1 with
  | some x, some y => Fp.packSat (Fp.scale (x + y) (dot a.1 b.1))
  | _, _ => (Fp.qnan, false)

/-- One exact integer partial. -/
def partialI (a b : List FpVal × Option Int × Nat) : Int :=
  match dot a.1 b.1 with
  | .fin neg m e => if neg then -((m <<< e.toNat : Nat) : Int) else ((m <<< e.toNat : Nat) : Int)
  | _ => 0

/-- Counts of one STREAM: FP32 saturations, INT32 saturations, N2 codes 0b10 read. -/
structure StreamCount where
  sat : Nat
  intSat : Nat
  n2 : Nat
  deriving DecidableEq, Repr

/-- Add the terms of one output element in ascending block order (R88, R118, R119). -/
def addTerms (int : Bool) (a0 : F32) (arow bcol : List (List FpVal × Option Int × Nat)) : F32 × Nat :=
  (arow.zip bcol).foldl (fun acc p =>
    if int then
      let r := Fp.addInt acc.1 (partialI p.1 p.2)
      (r.1, acc.2 + if r.2 then 1 else 0)
    else
      let t := partialF p.1 p.2
      let r := Fp.addSat acc.1 t.1
      (r.1, acc.2 + (if t.2 then 1 else 0) + (if r.2 then 1 else 0))) (a0, 0)

/-- Stream a tile of A rows against the current bank into slot k (R85 to R90, R118, R119, R122). Each partial decodes
both its blocks, so a reserved N2 code counts once for each partial (R42, R87; log 30). -/
def streamSlot (f : Fret) (v : Voicing) (T k : Nat) (first : Bool) (A B : Tile) : Fret × StreamCount :=
  let f := if first then startSlot f v T k else f
  let nb := min A.blocks B.blocks
  let bs := (List.range (min B.lines v.n)).map fun col => (List.range nb).map fun j => B.block col j
  let as := (List.range (min A.lines v.m)).map fun i => (List.range nb).map fun j => A.block i j
  let n2 := bs.length * (as.map fun r => (r.map (·.2.2)).sum).sum + as.length * (bs.map fun r => (r.map (·.2.2)).sum).sum
  let w := slotBase v k
  let old := SMap.getMany 0 f.acc w (as.length * v.n)
  let cnt := SMap.getMany 0 f.terms w (as.length * v.n)
  let cell := fun (i col : Nat) =>
    let a0 := old.getD (i * v.n + col) 0
    match as[i]?, bs[col]? with
    | some ar, some bc => let r := addTerms v.int a0 ar bc; (r.1, r.2, nb)
    | _, _ => (a0, 0, 0)
  let cells := (List.range (as.length * v.n)).map fun e => cell (e / v.n) (e % v.n)
  let sat := (cells.map (·.2.1)).sum
  ({ f with acc := SMap.setMany 0 f.acc w (cells.map (·.1))
            terms := SMap.setMany 0 f.terms w (List.zipWith (fun c x => x + c.2.2) cells cnt) },
   if v.int then ⟨0, sat, n2⟩ else ⟨sat, 0, n2⟩)

/-- Must the slot spill (R122)? It must as soon as one element has met T terms, and then every element of it spills (DEDUCED, log 31:
the rule counts by element and spills by slot). -/
def spillDue (f : Fret) (v : Voicing) (T k : Nat) : Bool :=
  ownsPairs v T k && (List.range (v.m * v.n)).any fun e => T ≤ SMap.get 0 f.terms (slotBase v k + e)

/-- Spill every element of a slot, and count the saturations (R122). -/
def spillSlot (f : Fret) (v : Voicing) (k : Nat) : Fret × Nat :=
  let E := v.m * v.n
  let w := slotBase v k
  let es := (List.range E).map fun e =>
    let a := SMap.get 0 f.acc (w + e)
    let hi := SMap.get 0 f.spill (pairWord v k e)
    let lo := SMap.get 0 f.spill (pairWord v k e + 1)
    if Fp.isFinite hi && Fp.isFinite a then
      let t := twoSum hi a
      if t.2.2 then (t.1, (0#32), 1) else (t.1, Fp.add lo t.2.1, 0)
    else ((Fp.addSat hi a).1, (0#32), 0)
  ({ f with spill := SMap.setMany 0 f.spill (pairWord v k 0) (es.flatMap fun p => [p.1, p.2.1])
            acc := SMap.eraseRange f.acc w E, terms := SMap.eraseRange f.terms w E
            spills := SMap.setMany 0 f.spills w ((SMap.getMany 0 f.spills w E).map (· + 1)) },
   (es.map (·.2.2)).sum)

/-- Which bound the slot has passed, if any: 0 a run beyond 65,536 terms, 1 more than 2^24 spills (R128). -/
def boundPassed (f : Fret) (v : Voicing) (k : Nat) : Option Nat :=
  let w := slotBase v k
  let E := v.m * v.n
  if v.int then none
  else if f.terms.any fun p => w ≤ p.1 && p.1 < w + E && 65536 < p.2 then some 0
  else if f.spills.any fun p => w ≤ p.1 && p.1 < w + E && 0x1000000 < p.2 then some 1
  else none

/-- The switch from voicing `o` (none when there was none) to `n`: pinned slots at the same index and shape continue;
of every other element the counts go, the word and the mute bit stay (R121). -/
def switchAcc (f : Fret) (o : Option Voicing) (n : Voicing) : Fret :=
  match o with
  | none => { f with terms := [], spills := [], bounded := [] }
  | some o =>
    let kept := if o.m = n.m && o.n = n.n then o.pins.filter n.pins.contains else []
    let E := n.m * n.n
    let live := fun w => kept.any fun k => k * E ≤ w && w < (k + 1) * E
    { f with terms := f.terms.filter fun p => live p.1
             spills := f.spills.filter fun p => live p.1
             bounded := f.bounded.filter kept.contains }

/-! ### Tiles in bytes (R37, R160, R185) -/

/-- Cut a tile's planes from a byte string. -/
def Tile.of (fmt lines blocks : Nat) (bs : Bytes) : Tile :=
  let nb := lines * blocks
  let plane := 4 * Fmt.width fmt * nb
  let so := roundUp plane 64
  { fmt := fmt, lines := lines, blocks := blocks, plane := byteSlice bs 0 plane
    scales := if Fmt.isBlock fmt then byteSlice bs so nb else []
    zeros := if fmt = 10 then byteSlice bs (roundUp (so + nb) 64) (ceilDiv nb 2) else [] }

/-- Pad a byte string with zeros to a multiple of 64. -/
def pad64 (bs : Bytes) : Bytes := padTo (roundUp bs.length 64) bs

/-- The bytes of converted lines: for block formats the three planes, otherwise elements one after another
(R37, R47, R160). -/
def encodeTile (fmt : Nat) (blocks : List Fmt.Block) : Bytes :=
  let codes := blocks.flatMap (·.codes)
  if Fmt.isBlock fmt then
    let plane := blocks.flatMap fun b => Fmt.packCodes (Fmt.width fmt) b.codes
    let sc := blocks.map fun b => BitVec.ofNat 8 b.scale
    if fmt = 10 then pad64 (pad64 plane ++ sc) ++ Fmt.packCodes 4 (blocks.map (·.zero))
    else pad64 plane ++ sc
  else if fmt = 2 then (codes.flatMap fun c => natLE 2 (c >>> 8)) ++ (codes.flatMap fun c => natLE 1 c)
  else codes.flatMap fun c => natLE (Fmt.width fmt / 8) c

/-- Element e of a tile of `cols` columns stored as R160 says: value, decode saturation, N2 code 0b10. -/
def storedElem (fmt rows cols : Nat) (bs : Bytes) (e : Nat) : F32 × Bool × Bool :=
  if Fmt.isBlock fmt then
    let per := ceilDiv cols 32
    let nb := rows * per
    let so := roundUp (4 * Fmt.width fmt * nb) 64
    let blk := e / cols * per + e % cols / 32
    let code := Fmt.planeCode bs (Fmt.width fmt) (blk * 32 + e % cols % 32)
    let z := if fmt = 10 then Fmt.planeCode (bs.drop (roundUp (so + nb) 64)) 4 blk else 0
    let r := Fmt.decode fmt code (bs.getD (so + blk) 0).toNat z
    (r.1, r.2, fmt = 9 && code = 2)
  else if fmt = 2 then
    let hi := leAt bs (2 * e) 2
    let lo := leAt bs (2 * rows * cols + e) 1
    (BitVec.ofNat 32 (hi <<< 16 ||| lo <<< 8), false, false)
  else if fmt = 0 || fmt = 14 then (BitVec.ofNat 32 (leAt bs (4 * e) 4), false, false)
  else (Fmt.plain fmt (leAt bs (Fmt.width fmt / 8 * e) (Fmt.width fmt / 8)), false, false)

end Sys2Proof.Machine
end

