-- ==== Sys2Proof/Machine/EpuUnit.lean ====
section
/-! DEFINITION. The element program unit: instructions, vectors, input and output modes, compress and expand, summary
accumulators, function tables (R153 to R178). -/

namespace Sys2Proof.Machine

/-- A write that a vector makes when its results retire: a slot element, or bytes of operand SRAM (R161, R163). -/
inductive EpuWrite where
  | slot (k e : Nat) (v : F32) (mute : Bool)
  | sram (addr : Nat) (bs : Bytes)
  deriving DecidableEq, Repr

/-- The unit while an operation runs. -/
structure EpuRun where
  f : Fret
  /-- Values of v0 … v15 and p0 … p3 in each of the 64 lanes. -/
  lanes : List Lane64
  /-- Compress: values stored, kept rows so far, is the current row kept, items stored. -/
  cPos : Nat
  cRow : Nat
  cKeep : Bool
  cItems : Nat
  /-- Expand: values read, rows so far, is the current row taken. -/
  ePos : Nat
  eRow : Nat
  eKeep : Bool
  /-- Quantum of the compress or expand (R171). -/
  quantum : Option Nat
  isCmps : Bool
  writes : List EpuWrite
  drops : Nat
  tableBad : Bool
  kindChange : Bool
  decodeSat : Nat
  n2 : Nat
  deriving DecidableEq, Repr

/-- What does not change while an operation runs. -/
structure EpuCtx where
  img : Img
  v : Voicing
  T : Nat
  op : EpuOp
  /-- Elements covered (R158). -/
  E : Nat

/-- A register of a lane. -/
def Lane64.get (l : Lane64) (r : Nat) : F32 := l.v.getD r 0
/-- A predicate of a lane. -/
def Lane64.pred (l : Lane64) (p : Nat) : Bool := l.p.getD p false
/-- All zero (R159). -/
def Lane64.zero : Lane64 := ⟨List.replicate 16 0, List.replicate 4 false⟩

/-- An F32 of the image. -/
def imgF (i : Img) (o : Nat) : F32 := BitVec.ofNat 32 (imgNat i o 4)

/-- FEV and FDV: the value, and whether a reserved mode was met (R175, R176). -/
def tableEval (i : Img) (t : Nat) (deriv : Bool) (x : F32) : F32 × Bool :=
  if Fp.isNaN x then (Fp.qnan, false)
  else
    let base := 0x1000 * (t + 1)
    let scale := imgF i (base + 4)
    let u := Fp.mul (Fp.sub x (imgF i base)) scale
    let cubic := fun (s : Nat) (tt : F32) =>
      let c := fun k => imgF i (base + 16 + 16 * s + 4 * k)
      if deriv then
        Fp.mul (Fp.add (c 1) (Fp.mul tt (Fp.add (Fp.mul 0x40000000#32 (c 2)) (Fp.mul tt (Fp.mul 0x40400000#32 (c 3))))))
          scale
      else Fp.add (c 0) (Fp.mul tt (Fp.add (c 1) (Fp.mul tt (Fp.add (c 2) (Fp.mul tt (c 3))))))
    let outside := fun (mode s : Nat) (tt : F32) =>
      match mode with
      | 0 => (if deriv then 0#32 else cubic s tt, false)
      | 1 => (if deriv then Fp.one else x, false)
      | 2 => (0#32, false)
      | 3 => (if deriv then 0#32 else Fp.one, false)
      | _ => (Fp.qnan, true)
    if Fp.isNaN u then (Fp.qnan, false)
    else if Fp.lt u 0#32 then outside (imgNat i (base + 8) 1) 0 0#32
    else if Fp.le 0x437F0000#32 u then outside (imgNat i (base + 9) 1) 254 Fp.one
    else
      let s := (Fp.f2i 2 u).toNat
      (cubic s (Fp.sub u (Fp.floor u)), false)

/-- FCMP and ICMP conditions (R167). -/
def condF (m : Nat) (a b : F32) : Bool :=
  match m with
  | 0 => Fp.eq a b
  | 1 => !Fp.eq a b
  | 2 => Fp.lt a b
  | 3 => Fp.le a b
  | 4 => Fp.lt b a
  | 5 => Fp.le b a
  | _ => Fp.isNaN a || Fp.isNaN b

/-- Signed integer conditions. -/
def condI (m : Nat) (a b : F32) : Bool :=
  match m with
  | 0 => a == b
  | 1 => a != b
  | 2 => a.slt b
  | 3 => a.sle b
  | 4 => b.slt a
  | _ => b.sle a

/-- The one-lane instructions with a register result: none for an opcode of another kind (R154 to R156, R167). -/
def alu (i : Img) (o md imm : Nat) (a b c : F32) (p : Bool) (e row col lane vec : Nat) : Option (F32 × Bool) :=
  let r := fun x => some (x, false)
  match o with
  | 0x01 => r (Fp.add a b)
  | 0x02 => r (Fp.sub a b)
  | 0x03 => r (Fp.mul a b)
  | 0x04 => r (Fp.add (Fp.mul a b) c)
  | 0x05 => r (Fp.fmin a b)
  | 0x06 => r (Fp.fmax a b)
  | 0x07 => r (Fp.abs a)
  | 0x08 => r (Fp.negate a)
  | 0x09 => r (Fp.rcp a)
  | 0x0A => r (Fp.rsq a)
  | 0x0B => r (Fp.sqrt a)
  | 0x0C => r (Fp.div a b)
  | 0x0D => r (Fp.exp2 a)
  | 0x0E => r (Fp.log2f a)
  | 0x0F => r (Fp.floor a)
  | 0x10 => some (tableEval i md false a)
  | 0x11 => some (tableEval i md true a)
  | 0x1A => r (if p then a else c)
  | 0x20 => r (a + b)
  | 0x21 => r (a - b)
  | 0x22 => r (a * b)
  | 0x23 => r (a &&& b)
  | 0x24 => r (a ||| b)
  | 0x25 => r (a ^^^ b)
  | 0x26 => r (a <<< (b.toNat % 32))
  | 0x27 => r (a >>> (b.toNat % 32))
  | 0x28 => r (a.sshiftRight (b.toNat % 32))
  | 0x29 => r (Fp.f2i md a)
  | 0x2A => r (Fp.ofInt a.toInt)
  | 0x2B => r (BitVec.ofNat 32 ((a.toNat >>> (imm % 32)) % pow2 (bits imm 9 5 + 1)))
  | 0x2C =>
    let pos := imm % 32
    let len := bits imm 9 5 + 1
    let m := (pow2 len - 1) <<< pos
    r (BitVec.ofNat 32 ((a.toNat &&& (0xFFFFFFFF ^^^ (m % 0x100000000))) ||| ((b.toNat % pow2 len) <<< pos)))
  | 0x30 => r (BitVec.ofNat 32 (match md with | 0 => e | 1 => row | 2 => col | 3 => lane | _ => vec))
  | 0x31 => r a
  | 0x3A => r (BitVec.ofNat 32 ((Fp.toBf16Epu a).toNat + (Fp.toBf16Epu b).toNat * 65536))
  | 0x3B => r (Fp.ofBf16 (if md = 0 then a.toNat else a.toNat >>> 16))
  | _ => none

/-- PERM, SHUF, PKL and UPL: the value lane l receives, from every lane's a and b (R168). -/
def cross (o md imm : Nat) (as bs : List F32) (l : Nat) : Option F32 :=
  match o with
  | 0x38 => some (as.getD ((bs.getD l 0).toNat % 64) 0)
  | 0x39 =>
    let k := imm % 64
    some (as.getD (match md with | 0 => l ^^^ k | 1 => (l + k) % 64 | _ => k) 0)
  | 0x3C =>
    let w := 4 <<< md
    let f := 32 / w
    if l < 64 / f then
      some (BitVec.ofNat 32 ((List.range f).foldl (fun acc i =>
        acc + ((as.getD (l * f + i) 0).toNat % pow2 w) <<< (w * i)) 0))
    else some 0#32
  | 0x3D =>
    let w := 4 <<< md
    let f := 32 / w
    some (BitVec.ofNat 32 (((as.getD (l / f) 0).toNat >>> (w * (l % f))) % pow2 w))
  | _ => none

/-- The identity and the step of a summary kind (R172). -/
def sumIdentity (k : Nat) : F32 :=
  match k with | 1 => 0xFF800000#32 | 2 => 0x7F800000#32 | _ => 0#32
/-- One lane step of a summary. -/
def sumStep (k : Nat) (p a : F32) : F32 :=
  match k with
  | 0 => Fp.add p a
  | 1 => if Fp.rank141 p < Fp.rank141 a then (if Fp.isNaN a then Fp.qnan else a) else p
  | 2 => if Fp.rank141 a < Fp.rank141 p then a else p
  | _ => if p = 0xFFFFFFFF#32 then p else p + 1

/-- A summary accumulator of the fret; at reset it is SUM with every partial +0. -/
def Fret.sum (f : Fret) (k : Nat) : SumAcc := f.sums.getD k ⟨0, List.replicate 64 0⟩
/-- Replace one. -/
def Fret.setSum (f : Fret) (k : Nat) (a : SumAcc) : Fret :=
  { f with sums := ((List.range 4).map f.sum).set k a }

/-- Bytes of operand SRAM. Every byte's offset is taken modulo 256 KiB: an access that runs past the end goes on at offset
0 (R106 says it of the first byte; DEDUCED, log 30). -/
def Fret.sramBytes (f : Fret) (o n : Nat) : Bytes := (List.range n).map fun i => SMap.get 0 f.sram ((o + i) % 262144)
/-- Write operand SRAM, past the end as a read does (DESIGN CHOICE, log 31). -/
def Fret.writeSram (f : Fret) (o : Nat) (bs : Bytes) : Fret :=
  let a := o % 262144
  let m := SMap.setMany 0 f.sram a (bs.take (262144 - a))
  { f with sram := (chunks 262144 (bs.drop (262144 - a))).foldl (fun m c => SMap.setMany 0 m 0 c) m }

/-- CMPS over the lanes of a vector, in ascending element order (R169, R171). -/
def compress (c : EpuCtx) (md imm : Nat) (vec : Nat) (act : List Bool) (as : List F32) (r : EpuRun) : EpuRun :=
  let size := if md / 2 = 1 then 2 else 4
  let r := { r with quantum := some (imm % 4), isCmps := true }
  (List.range 64).foldl (fun (r : EpuRun) l =>
    let e := vec * 64 + l
    if c.E ≤ e then r
    else
      let x := as.getD l 0
      let bs := if size = 2 then natLE 2 (Fp.toBf16Epu x).toNat else natLE 4 x.toNat
      let g := act.getD l false
      if md % 2 = 0 then
        if !g then r
        else
          let a := c.op.offB + r.cPos * size
          if a + size ≤ 262144 then
            { r with writes := r.writes ++ [.sram a bs], cPos := r.cPos + 1, cItems := r.cItems + 1 }
          else { r with drops := r.drops + 1, cPos := r.cPos + 1 }
      else
        let col := e % c.v.n
        let r := if col = 0 then { r with cKeep := g, cRow := r.cRow + if r.cKeep then 1 else 0 } else r
        if !r.cKeep then r
        else
          let a := c.op.offB + (r.cRow * c.v.n + col) * size
          if a + size ≤ 262144 then
            { r with writes := r.writes ++ [.sram a bs]
                     cItems := r.cItems + if col + 1 = c.v.n then 1 else 0 }
          else { r with drops := r.drops + 1 }) r

/-- EXPL: the value each lane receives, and the stream's new place (R170, R171). At row granularity the stream goes on to
its next row behind a row whose column 0 has a true guard, as CMPS stores rows (R169); each lane takes its value or +0
by its own guard. In a run that holds CMPS too, the quantum is that of whichever ran last (DESIGN CHOICE, log 31). -/
def expand (c : EpuCtx) (md imm : Nat) (vec : Nat) (act : List Bool) (r : EpuRun) : List F32 × EpuRun :=
  let size := if md / 2 = 1 then 2 else 4
  let read := fun (f : Fret) (i : Nat) =>
    let a := c.op.offA + i * size
    if a + size ≤ 262144 then
      let n := leNat (f.sramBytes a size)
      if size = 2 then Fp.ofBf16 n else BitVec.ofNat 32 n
    else 0#32
  let r := { r with quantum := some (imm % 4) }
  (List.range 64).foldl (fun (p : List F32 × EpuRun) l =>
    let r := p.2
    let e := vec * 64 + l
    if c.E ≤ e then (p.1 ++ [0#32], r)
    else
      let g := act.getD l false
      if md % 2 = 0 then
        if g then (p.1 ++ [read r.f r.ePos], { r with ePos := r.ePos + 1 }) else (p.1 ++ [0#32], r)
      else
        let col := e % c.v.n
        let r := if col = 0 then { r with eKeep := g, eRow := r.eRow + if r.eKeep then 1 else 0 } else r
        if g then (p.1 ++ [read r.f (r.eRow * c.v.n + col)], r) else (p.1 ++ [0#32], r)) ([], r)

/-- One instruction over the 64 lanes of a vector (R165 to R172). -/
def epuStep (c : EpuCtx) (vec w : Nat) (r : EpuRun) : EpuRun :=
  let o := bits w 63 57
  let d := bits w 55 52
  let md := bits w 34 32
  let imm := bits w 31 0
  let useImm := bits w 35 35 = 1
  let g := bits w 39 37
  let lane := fun l => r.lanes.getD l Lane64.zero
  let lives := fun l => vec * 64 + l < c.E
  let guard := fun l => lives l && ((if g < 4 then true else (lane l).pred (g - 4)) != (bits w 36 36 = 1))
  let act := (List.range 64).map guard
  let srcA := fun l => if o = 0x31 && useImm then BitVec.ofNat 32 imm else (lane l).get (bits w 51 48)
  let srcB := fun l => if useImm then BitVec.ofNat 32 imm else (lane l).get (bits w 47 44)
  let srcC := fun l => (lane l).get (bits w 43 40)
  let live := fun (f : Nat → F32) => (List.range 64).map fun l => if lives l then f l else 0#32
  let setReg := fun (vals : Nat → Option F32) => r.lanes.zipIdx.map fun p =>
    match vals p.2 with
    | some x => { p.1 with v := p.1.v.set d x }
    | none => p.1
  let setPred := fun (vals : Nat → Bool) => r.lanes.zipIdx.map fun p =>
    if guard p.2 then { p.1 with p := p.1.p.set (d % 4) (vals p.2) } else p.1
  if o = 0 then r
  else if o = 0x18 then { r with lanes := setPred fun l => condF md (srcA l) (srcB l) }
  else if o = 0x19 then { r with lanes := setPred fun l => condI md (srcA l) (srcB l) }
  else if o = 0x1B then
    { r with lanes := setPred fun l =>
        let a := (lane l).pred (bits w 51 48 % 4)
        let b := (lane l).pred (bits w 47 44 % 4)
        match md with | 0 => a && b | 1 => a || b | 2 => a != b | 3 => a && !b | 4 => true | _ => false }
  else if o = 0x40 then compress c md imm vec act (live srcA) r
  else if o = 0x41 then
    let p := expand c md imm vec act r
    { p.2 with lanes := p.2.lanes.zipIdx.map fun q =>
        if lives q.2 then { q.1 with v := q.1.v.set d (p.1.getD q.2 0) } else q.1 }
  else if o = 0x48 then
    let k := d % 4
    let a := r.f.sum k
    let change := a.kind ≠ md
    let a := if change then ⟨md, List.replicate 64 (sumIdentity md)⟩ else a
    let a := { a with parts := a.parts.zipIdx.map fun p => if guard p.2 then sumStep md p.1 (srcA p.2) else p.1 }
    { r with f := r.f.setSum k a, kindChange := r.kindChange || change }
  else if 0x38 ≤ o && o ≤ 0x3D && o ≠ 0x3A && o ≠ 0x3B then
    let as := live srcA
    let bs := live srcB
    { r with lanes := setReg fun l => if guard l then cross o md imm as bs l else none }
  else
    let val := fun l =>
      let e := vec * 64 + l
      alu c.img o md imm (srcA l) (srcB l) (srcC l) ((lane l).pred (md % 4)) e (e / c.v.n) (e % c.v.n) l vec
    let bad := (o = 0x10 || o = 0x11) && (List.range 64).any fun l =>
      guard l && (match val l with | some x => x.2 | none => false)
    { r with lanes := setReg fun l => if guard l then (val l).map (·.1) else none, tableBad := r.tableBad || bad }

/-- Input k of an element, with the decode counts (R159). -/
def epuInput (c : EpuCtx) (f : Fret) (k mode e : Nat) : F32 × Bool × Bool :=
  let word := fun a => (BitVec.ofNat 32 (leNat (f.sramBytes a 4)), false, false)
  match mode with
  | 1 => (valueV f c.v c.T c.op.s0 e, false, false)
  | 2 => (valueV f c.v c.T c.op.s1 e, false, false)
  | 3 => word (c.op.offA + 4 * e)
  | 4 => storedElem c.v.fmtOut c.op.rows c.v.n
      (f.sramBytes c.op.offA (rowTileBytes c.v.fmtOut c.op.rows c.v.n)) e
  | 5 => word (c.op.offA + 4 * (k * 96 + e % c.v.n))
  | 6 => word (c.op.offA + 4 * (k * 96 + e / c.v.n))
  | 7 => (valueV f c.v c.T c.op.s1 (e / c.v.n * c.v.n), false, false)
  | _ => (0#32, false, false)

/-- Load v0, v1, v2 and p3 of a vector (R159). -/
def epuLoad (c : EpuCtx) (vec : Nat) (r : EpuRun) : EpuRun :=
  let ins := r.lanes.zipIdx.map fun p =>
    let e := vec * 64 + p.2
    if c.E ≤ e then (p.1, 0, 0)
    else
      let x := [epuInput c r.f 0 c.op.in0 e, epuInput c r.f 1 c.op.in1 e, epuInput c r.f 2 c.op.in2 e]
      let v := (List.range 3).foldl (fun v k => v.set k (x.getD k (0#32, false, false)).1) p.1.v
      let mu := SMap.get false r.f.mute (slotBase c.v c.op.s0 + e)
      (⟨v, p.1.p.set 3 mu⟩, (x.filter (·.2.1)).length, (x.filter (·.2.2)).length)
  { r with lanes := ins.map (·.1), decodeSat := r.decodeSat + (ins.map (·.2.1)).sum
           n2 := r.n2 + (ins.map (·.2.2)).sum }

/-- The writes of a vector's v15 and v14 (R161). -/
def epuOut (c : EpuCtx) (vec : Nat) (r : EpuRun) : List EpuWrite :=
  r.lanes.zipIdx.flatMap fun p =>
    let e := vec * 64 + p.2
    if c.E ≤ e then []
    else
      let a := p.1.get 15
      let b := p.1.get 14
      let mu := p.1.pred 3
      match c.op.out with
      | 1 => [.slot c.op.s0 e a mu]
      | 2 => [.slot c.op.s1 e a mu]
      | 3 => [.sram (c.op.offB + 4 * e) (natLE 4 a.toNat)]
      | 4 => [.sram (c.op.offB + 2 * e) (natLE 2 (Fp.toBf16Epu a).toNat)]
      | 5 => [.slot c.op.s0 e a mu, .slot c.op.s1 e b mu]
      | 6 => [.slot c.op.s0 e a mu, .sram (c.op.offB + 4 * e) (natLE 4 b.toNat)]
      | _ => []

/-- Retire writes. -/
def epuRetire (c : EpuCtx) (f : Fret) (ws : List EpuWrite) : Fret :=
  ws.foldl (fun f w =>
    match w with
    | .slot k e v mu => writeElem f c.v c.T k e v mu
    | .sram a bs => f.writeSram a bs) f

/-- Vectors a result takes to be seen by a later vector's reads: the least d with d × L > L + 2 (R163, R164). -/
def epuDelay (L : Nat) : Nat := if L ≤ 1 then 4 else if L = 2 then 3 else 2

/-- The vectors one after another; `queue` holds the writes of the vectors still in the pipeline, oldest first. -/
def epuVectors (c : EpuCtx) (run : List Nat) : Nat → Nat → List (List EpuWrite) → EpuRun → EpuRun
  | 0, _, queue, r => { r with f := queue.foldl (epuRetire c) r.f }
  | n + 1, vec, queue, r =>
    let full := epuDelay run.length ≤ queue.length
    let r := if full then { r with f := epuRetire c r.f (queue.headD []) } else r
    let queue := if full then queue.tail else queue
    let r := epuLoad c vec { r with writes := [] }
    let r := run.foldl (fun r w => epuStep c vec w r) r
    epuVectors c run n (vec + 1) (queue ++ [r.writes ++ epuOut c vec r]) r

/-- An EPU operation of a fret (R157 to R171). -/
def epuRunOp (img : Img) (v : Voicing) (T : Nat) (op : EpuOp) (f : Fret) : EpuRun :=
  let c : EpuCtx := ⟨img, v, T, op, op.rows * v.n⟩
  let L := (runLen img v.epuLen 64 op.start).getD 1
  let r0 : EpuRun :=
    { f := f, lanes := List.replicate 64 Lane64.zero, cPos := 0, cRow := 0, cKeep := false, cItems := 0
      ePos := 0, eRow := 0, eKeep := false, quantum := none, isCmps := false, writes := [], drops := 0
      tableBad := false, kindChange := false, decodeSat := 0, n2 := 0 }
  let r := epuVectors c (epuRun img op.start L) (ceilDiv c.E 64) 0 [] r0
  let expRows := if (epuRun img op.start L).any fun w => bits w 63 57 = 0x41 && bits w 32 32 = 1
    then r.eRow + if r.eKeep then 1 else 0 else r.ePos
  let f := { r.f with lanes := r.lanes, epuBuf := some (v.vid, op.start) }
  let f := match r.quantum with
    | none => f
    | some q => { f with
        delivered := if r.isCmps then r.cItems else expRows
        quantum := match q with | 0 => 1 | 1 => 16 | 2 => 32 | _ => v.m }
  { r with f := f }

end Sys2Proof.Machine
end

