-- ==== Sys2Proof/Machine/Window.lean ====
section
/-! DEFINITION. The fret windows: what they show, what they take, and accesses that wait for a busy slot (R83, R129 to
R131, R133). -/

namespace Sys2Proof.Machine

/-- Does an operation in flight name the slot (R130, R133)? A BRIDGE names its slot and its companion until its delivery
has retired; every other operation of the model retires as it issues. -/
def State.slotBusy (s : State) (i k : Nat) : Bool :=
  s.board.contribs.any fun c => c.die * 384 + c.index = i && (c.slot = k || (c.slot + 1 = k && c.op ≤ 4))

/-- What an access returns to its requester: class, address, data, and whether it ended in an error. -/
def State.answer (s : State) (cls addr : Nat) (bs : Bytes) (bad : Bool) : State :=
  { s with dram := { s.dram with replies := (cls, addr, bs, bad) :: s.dram.replies } }

/-- The fret of a window address, none where its slot names no fret, and the offset within the window (R83). The windows fill
the 1 GiB from 0x400_0000_0000 up. -/
def windowPlace (addr : Nat) : Option Nat × Nat :=
  let o := addr % 0x40000000
  let slot := o / 0x100000
  let j := slot % 32
  (if j < 24 then some (slot / 512 * 384 + slot % 512 / 32 * 24 + j) else none, o % 0x100000)

/-- Does a local offset lie in the fret windows (R302)? -/
def inWindows (addr : Nat) : Bool := 0x40000000000 ≤ addr && addr < 0x40040000000

/-- Does an offset lie in the accumulator or the spill region, which take 4 or 8 bytes, naturally aligned (R129)? -/
def windowWords (w : Nat) : Bool := 0x40000 ≤ w && w < 0x98000

/-- Does the window serve an access of the width at the offset (R129)? -/
def windowOk (w width : Nat) : Bool := !windowWords w || ((width = 4 || width = 8) && w % width = 0)

/-- Does a window access wait: it reaches a slot that an operation in flight names (R130)? -/
def State.windowBusy (s : State) (i w width : Nat) : Bool :=
  let f := s.fret i
  let E := f.voicing.m * f.voicing.n
  f.active < 2 && E ≠ 0 && 0x40000 ≤ w && w < 0x88000
    && (List.range (width / 4)).any fun k => s.slotBusy i (((w - 0x40000) / 4 + k) / E)

/-- Write one accumulator word through the window (R131). -/
def State.windowWord (s : State) (i w : Nat) (x : F32) : State :=
  s.updFret i fun f =>
    let v := f.voicing
    let E := v.m * v.n
    if f.active < 2 && w < slotsOf v.m v.n * E then writeElem f v (s.odNat (od 0x2100 5)) (w / E) (w % E) x false
    else { f with acc := SMap.set 0 f.acc w x }

/-- A write reaches its fret's window: the accumulator region takes one or two elements, the read-only regions nothing. -/
def State.windowPut (s : State) (i w width data : Nat) : State :=
  if w < 0x40000 then s.updFret i (·.writeSram w (natLE (min width (0x40000 - w)) data))
  else if w < 0x88000 then
    let k := (w - 0x40000) / 4
    let s := s.windowWord i k (BitVec.ofNat 32 data)
    if width = 8 then s.windowWord i (k + 1) (BitVec.ofNat 32 (data / 0x100000000)) else s
  else s

/-- The 32-bit word of a fret's window at an offset, a multiple of 4 (R83, R125, R129). -/
def State.windowRead (s : State) (i w : Nat) : Bytes :=
  let f := s.fret i
  if w < 0x40000 then f.sramBytes w 4
  else if w < 0x88000 then
    let k := (w - 0x40000) / 4
    let v := f.voicing
    let E := v.m * v.n
    let x := if f.active < 2 && k < slotsOf v.m v.n * E then valueV f v (s.odNat (od 0x2100 5)) (k / E) (k % E)
      else SMap.get 0 f.acc k
    u32 x.toNat
  else if w < 0x98000 then u32 (SMap.get 0 f.spill ((w - 0x88000) / 4)).toNat
  else if w < 0x9C000 then SMap.getMany 0 f.img0 (w - 0x98000) 4
  else if w < 0xA0000 then SMap.getMany 0 f.img1 (w - 0x9C000) 4
  else zeroBytes 4

/-- Bytes of a fret's window from an offset up. -/
def State.windowBytes (s : State) (i w n : Nat) : Bytes :=
  let first := w / 4
  ((List.range (ceilDiv (w + n) 4 - first)).flatMap fun k => s.windowRead i (4 * (first + k))).drop (w % 4) |>.take n

/-- A window access: refused with an address error, waiting behind a busy slot, or done (R129 to R131). -/
def State.windowAccess (s : State) (x : WindowWait) : State :=
  if !windowOk x.off x.width then s.answer x.cls x.addr [] true
  else if s.windowBusy x.fret x.off x.width then s.updBoard fun b => { b with waits := b.waits ++ [x] }
  else match x.data with
    | some v => s.windowPut x.fret x.off x.width v
    | none => s.answer x.cls x.addr (s.windowBytes x.fret x.off x.width) false

/-- Slots have become free: accesses that waited happen, in their order. -/
def State.serveWindows (s : State) : State :=
  s.board.waits.foldl State.windowAccess (s.updBoard fun b => { b with waits := [] })

/-- A write to a window address (R83, R129, R131): a slot that names no fret takes nothing. -/
def State.windowWrite (s : State) (addr width data : Nat) : State :=
  match (windowPlace addr).1 with
  | none => s
  | some i => s.windowAccess ⟨i, (windowPlace addr).2, width, some data, 2, addr⟩

/-- A read of a window address by a class: a slot that names no fret reads as zero. -/
def State.windowFetch (s : State) (cls addr width : Nat) : State :=
  match (windowPlace addr).1 with
  | none => s.answer cls addr (zeroBytes width) false
  | some i => s.windowAccess ⟨i, (windowPlace addr).2, width, none, cls, addr⟩

/-- The oldest access that waits on a fret, in a direction, has waited 65,536 cycles (R130). -/
def State.windowTimeout (s : State) (i : Nat) (write : Bool) : State :=
  match s.board.waits.find? fun x => x.fret = i && x.data.isSome = write with
  | none => s
  | some x =>
    let s := s.updBoard fun b => { b with waits := b.waits.erase x }
    let s := s.flag (i / 384) Reg.accStatus 4
    if write then s else s.answer x.cls x.addr (List.replicate x.width 0xFF) false

end Sys2Proof.Machine
end

