-- ==== Sys2Proof/Machine/Job.lean ====
section
/-! DEFINITION. What the chapters share about the job: the step, the node and its rank, the maps of the dictionary,
module frames, broken promises, faults and the rollback (R6, R138, R241, R272, R286, R293, R295, R296, R308, R330,
R370, R385, R386). -/

namespace Sys2Proof.Machine

/-! ### Step, node, rank -/

/-- The newer copy of the commit record (R291). -/
def Upd.live (u : Upd) : CommitRec :=
  match u.recs with
  | [a, b] => match a.step, b.step with
    | some x, some y => if x < y then b else a
    | none, some _ => b
    | _, _ => a
  | a :: _ => a
  | [] => ⟨none, []⟩

/-- The latest committed step (OD 0x2300.30). -/
def State.committed (s : State) : Option Nat := s.upd.live.step
/-- The step in progress. -/
def State.curStep (s : State) : Nat := match s.committed with | some c => c + 1 | none => 0
/-- The live half of an entry of the parameter map. -/
def State.liveHalf (s : State) (entry : Nat) : Nat := SMap.get 0 s.upd.live.bits entry

/-- Node coordinates (OD 0x2500.01). -/
def State.node (s : State) : Nat := s.odNat (od 0x2500 1)
/-- A byte of the hall extent or the zone. -/
def State.hall (s : State) (d : Nat) : Nat := leAt (s.odBytes (od 0x2500 2)) d 1
def State.zoneOrigin (s : State) (d : Nat) : Nat := leAt (s.odBytes (od 0x2500 3)) d 1
def State.zoneExtent (s : State) (d : Nat) : Nat := leAt (s.odBytes (od 0x2500 3)) (3 + d) 1
/-- Modules of the job (R330): the zone's. A zone written while training runs without the fabric function, which only a job of one
module does (R403), counts from the next start (R406). -/
def State.modules (s : State) : Nat :=
  if s.fnState 0 ≠ 0 && s.fnState 2 = 0 then 1 else s.zoneExtent 0 * s.zoneExtent 1 * s.zoneExtent 2

/-- A coordinate of a node: x, y, z. -/
def nodeCoord (node d : Nat) : Nat :=
  match d with | 0 => bits node 14 10 | 1 => bits node 9 5 | _ => bits node 4 0
/-- A node of coordinates. -/
def nodeOf (x y z : Nat) : Nat := x * 1024 + y * 32 + z

/-- A node's offset from the zone's origin in a dimension (R330). -/
def State.zoneOff (s : State) (node d : Nat) : Nat :=
  let h := max 1 (s.hall d)
  (nodeCoord node d + h - s.zoneOrigin d % h) % h

/-- Does the node belong to the zone (R330)? -/
def State.inZone (s : State) (node : Nat) : Bool :=
  [0, 1, 2].all fun d => decide (nodeCoord node d < s.hall d) && decide (s.zoneOff node d < s.zoneExtent d)

/-- The rank of a node of the zone (R138). -/
def State.rankOf (s : State) (node : Nat) : Nat :=
  (s.zoneOff node 2 * s.zoneExtent 1 + s.zoneOff node 1) * s.zoneExtent 0 + s.zoneOff node 0
/-- The module's rank. -/
def State.rank (s : State) : Nat := if s.modules = 1 then 0 else s.rankOf s.node
/-- The node of a rank. -/
def State.nodeOfRank (s : State) (r : Nat) : Nat :=
  let X := max 1 (s.zoneExtent 0)
  let Y := max 1 (s.zoneExtent 1)
  let at' := fun d o => (s.zoneOrigin d + o) % max 1 (s.hall d)
  nodeOf (at' 0 (r % X)) (at' 1 (r / X % Y)) (at' 2 (r / (X * Y)))

/-- The job key: configuration hash and run seed (R234). -/
def State.jobKey (s : State) : Bytes := s.dict.hash ++ s.odBytes (od 0x2100 0x0B)

/-- Cycles of 1.75 GHz in ns, rounded up (R6). -/
def nsOf (cycles : Nat) : Nat := ceilDiv (4 * cycles) 7
/-- ns in cycles, rounded up. -/
def cyclesOf (ns : Nat) : Nat := ceilDiv (7 * ns) 4

/-- The cube in force (R221). -/
def State.cube (s : State) : Int := Fmt.signed 8 (s.reg 6 Reg.numCube)
/-- 2^k as FP32, for |k| ≤ 127. -/
def pow2F (k : Int) : F32 := Fp.pack (.fin false 1 k)
/-- The factor 2^c of the loss-gradient seed stands where the programs that form the seed take it (R221; DESIGN CHOICE, log 33). -/
def State.placeSeed (s : State) : State :=
  Config.seedPlaces.foldl (fun s p => s.updFret p.1 fun f => f.writeSram p.2 (natLE 4 (pow2F s.cube).toNat)) s
/-- Set the cube. -/
def State.setCube (s : State) (c : Int) : State := (s.setReg 6 Reg.numCube (c % 256).toNat).placeSeed

/-! ### Parameter map, tables -/

/-- An entry of the parameter map (R272). -/
structure Param where
  layer : Nat
  tensor : Nat
  ruleSet : Nat
  wfmt : Nat
  bench : Bool
  keep : Bool
  die : Nat
  rows : Nat
  cols : Nat
  base : Nat
  halfBytes : Nat
  keepAt : Nat
  every : Nat
  phase : Nat
  deriving DecidableEq, Repr

/-- Read an entry. -/
def Param.of (b : Bytes) : Param :=
  { layer := leAt b 0 2, tensor := leAt b 2 1, ruleSet := leAt b 3 1, wfmt := leAt b 4 1
    bench := leAt b 5 1 % 2 = 1, keep := leAt b 5 1 / 2 % 2 = 1, die := leAt b 6 1, rows := leAt b 8 4
    cols := leAt b 12 4, base := leAt b 16 8, halfBytes := leAt b 24 8, keepAt := leAt b 32 8, every := leAt b 40 2
    phase := leAt b 42 2 }

/-- The entries of the parameter map. -/
def State.params (s : State) : List Param := (chunks 64 (s.odBytes (od 0x2300 1))).map Param.of
/-- Is a tensor due in a step (R272)? -/
def Param.due (p : Param) (step : Nat) : Bool := p.every ≠ 0 && step % p.every = p.phase

/-- An entry of the table map (R241). -/
structure Table where
  table : Nat
  classified : Bool
  dim : Nat
  deliver : Nat
  exchange : Nat
  rows : Nat
  classes : Nat
  stateBytes : Nat
  optSet : Nat
  deriving DecidableEq, Repr

/-- Read an entry. -/
def Table.of (b : Bytes) : Table :=
  { table := leAt b 0 2, classified := leAt b 2 2 % 2 = 1, dim := leAt b 4 2, deliver := leAt b 6 1
    exchange := leAt b 7 1, rows := leAt b 8 8, classes := leAt b 16 1, stateBytes := leAt b 17 1
    optSet := leAt b 18 1 }

/-- The entries of the table map. -/
def State.tables (s : State) : List Table := (chunks 32 (s.odBytes (od 0x2200 1))).map Table.of
/-- A table by its number. -/
def State.table (s : State) (t : Nat) : Option Table := s.tables.find? fun x => x.table = t

/-! ### Frames of the module (R370, R371, R386) -/

/-- A module frame, whole: header, body padded to 8 bytes, trailer. -/
def moduleFrame (type flags id step time : Nat) (body : Bytes) : Bytes :=
  let body := padTo (roundUp body.length 8) body
  let h := u16 0x4C56 ++ u8 type ++ u8 flags ++ u32 (40 + body.length) ++ u32 id ++ u32 0 ++ u64 step ++ u64 time
    ++ body
  h ++ u32 (crc32 h).toNat ++ u32 0

/-- Put a module frame among those that wait to leave (R383). -/
def State.sendFrame (s : State) (prio due type flags id step : Nat) (body : Bytes) : State :=
  let fl := flags + if s.injecting then 2 else 0
  { s with vlk := { s.vlk with out := s.vlk.out ++ [⟨prio, due, moduleFrame type fl id step s.time body⟩] } }

/-- A record of a STATUS frame (R386). -/
def statusRecord (kind cause flags id step time value : Nat) : Bytes :=
  u8 kind ++ u8 cause ++ u16 flags ++ u32 id ++ u64 step ++ u64 time ++ u64 value

/-- Send a STATUS frame with records of kind, cause, flags, frame_id, step and value; none for no records. `id` is the
host frame that it answers, or 0. The first one after the host-link function enters Running carries the newest reset
record's step and frame_id, and a snapshot that the reset abandoned (R299, R389). -/
def State.sendStatusFor (s : State) (id : Nat) (recs : List (Nat × Nat × Nat × Nat × Nat × Nat)) : State :=
  if recs.isEmpty then s
  else
    let test := if s.injecting then 2 else 0
    let r0 := s.rst.records.headD []
    let recs := match s.adm.abandoned with | some x => (4, 0, 0, x.1, x.2, 0) :: recs | none => recs
    let recs := if s.adm.resetRecord then (6, 0, 0, leAt r0 24 4, leAt r0 16 8, leAt r0 16 8) :: recs else recs
    let body := u32 recs.length ++ u32 0 ++ recs.flatMap fun r =>
      statusRecord r.1 r.2.1 (r.2.2.1 + test) r.2.2.2.1 r.2.2.2.2.1 s.time r.2.2.2.2.2
    let s := { s with adm := { s.adm with resetRecord := false, abandoned := none } }
    s.sendFrame 1 0 0x85 0 id s.curStep body

/-- Send a STATUS frame that answers no host frame. -/
def State.sendStatus (s : State) (recs : List (Nat × Nat × Nat × Nat × Nat × Nat)) : State := s.sendStatusFor 0 recs

/-- All ones: the frame will not complete (R386). -/
def never : Nat := 0xFFFFFFFFFFFFFFFF

/-- Is a promise in flight (R382, R384)? -/
def HeldFrame.inFlight (f : HeldFrame) : Bool := f.waiting = 0 && !f.done
/-- Is it an EVENTS frame? -/
def HeldFrame.isEvents (f : HeldFrame) : Bool := f.type = 1

/-- A step's C rises by so many ns. -/
def AdmStep.later (a : AdmStep) (ns : Nat) : AdmStep := { a with commit := a.commit + ns, raised := a.raised + ns }

/-- Give the held frames new bounds; a frame that will not complete is no longer held, nor is its stream or its step. -/
def State.releaseNever (s : State) (g : HeldFrame → HeldFrame) : State :=
  let frames := (s.adm.frames.map g).filter fun f => f.bound ≠ never
  let gone := fun id => s.adm.frames.any (fun f => f.id = id) && !(frames.any fun f => f.id = id)
  { s with adm := { s.adm with
      frames := frames, streams := s.adm.streams.filter fun x => !gone x.id
      steps := s.adm.steps.filter fun (a : AdmStep) => decide (a.step < s.curStep) || frames.any fun f => f.isEvents && f.step = a.step } }

/-- Report promises broken with a class (R385): each frame with its new bound. -/
def State.breakFrames (s : State) (cls step : Nat) (news : List (Nat × Nat)) : State :=
  let hit := s.adm.frames.filter fun f => f.inFlight && news.any fun n => n.1 = f.id
  if hit.isEmpty then s
  else
    let new := fun (f : HeldFrame) => ((news.find? fun n => n.1 = f.id).map (·.2)).getD f.bound
    let rise := hit.foldl (fun a f => max a (if new f = never then 0xFFFFFFFF else cap32 (new f - f.bound))) 0
    let n := hit.length
    let s := s.event 0x0501 (u8 cls ++ u64 step ++ c32 n ++ u32 rise)
    let s := s.sendStatus (hit.map fun f => (2, cls, 0, f.id, f.step, new f))
    let s := (s.bump 6 Reg.auBrokenCount n).orReg 6 Reg.auStatus (2 + if cls = 0x0D then 16 else 0)
    let s := { s with adm := { s.adm with counts := s.adm.counts.modify (11 + cls) fun c => cap32 (c + n) } }
    s.releaseNever fun f => if hit.contains f then { f with bound := new f } else f

/-- Raise bounds that are no fault's doing: RAISED records (R207, R386). -/
def State.raiseFrames (s : State) (news : List (Nat × Nat)) : State :=
  let hit := s.adm.frames.filter fun f => f.inFlight && news.any fun n => n.1 = f.id
  let new := fun (f : HeldFrame) => ((news.find? fun n => n.1 = f.id).map (·.2)).getD f.bound
  let s := s.sendStatus (hit.map fun f => (3, 0, 0, f.id, f.step, new f))
  { s with adm := { s.adm with frames := s.adm.frames.map fun f =>
      if f.inFlight && news.any (fun n => n.1 = f.id) then { f with bound := new f } else f } }

/-! ### New bounds after a rollback (R296) -/

/-- Bytes of the step's journals (R286). -/
def State.journalBytes (s : State) : Nat := ([2, 3, 4, 5].map fun d => s.reg d Reg.updJournalBytes).sum

/-- The pins of the job's frets: fret and pin slot. -/
def State.pins (s : State) : List (Nat × Nat × Nat) :=
  s.frets.flatMap fun p => if p.2.active < 2 then p.2.voicing.pins.zipIdx.map fun q => (p.1, q.1, q.2) else []

/-- Cycles of the rollback: the journals read and rewritten, and the carries restored, at R308's terms (log 14). -/
def State.rollbackCycles (s : State) : Nat :=
  let term := fun bytes => if bytes = 0 then 0 else 630 + ceilDiv bytes 8400
  term (2 * s.journalBytes) + term (s.pins.length * 36864)

/-- New commit times of the accepted steps from step `from'` up when it runs again with `extra` cycles first. -/
def State.newCommits (s : State) (from' extra : Nat) : List AdmStep :=
  (s.adm.steps.foldl (fun (p : Nat × List AdmStep) a =>
    if a.step < from' then (p.1, p.2 ++ [a])
    else
      let c := if a.step = from' then s.time + nsOf (extra + s.rollbackCycles + a.cycles) + (if a.cycles = 0 then a.work else 0)
        else max a.arrival p.1 + a.work
      (c, p.2 ++ [{ a with commit := c, raised := c - (max a.arrival p.1 + a.work) }])) (0, [])).2

/-- By how many ns a rerun of the step in progress, with `extra` cycles first, delays what waits behind it (log 32). -/
def State.rerunRise (s : State) (steps : List AdmStep) (extra : Nat) : Nat :=
  match s.adm.steps.find? fun a => a.step = s.curStep, steps.find? fun a => a.step = s.curStep with
  | some old, some new => new.commit - old.commit
  | _, _ => nsOf (extra + s.rollbackCycles)

/-- Every promise in flight is reported broken with its new bound under R296, the job's rollback included: an EVENTS frame
by its step's new commit time, another frame by what the rerun delays (log 32); `reload` is none when the job cannot run
the step again. -/
def State.breakStep (s : State) (cls : Nat) (reload : Option Nat) : State :=
  let held := s.adm.frames.filter fun f => f.inFlight
  match reload with
  | none => s.breakFrames cls s.curStep (held.map fun f => (f.id, never))
  | some extra =>
    let steps := s.newCommits s.curStep extra
    let rise := s.rerunRise steps extra
    let new := fun (f : HeldFrame) =>
      if !f.isEvents then f.bound + rise
      else match steps.find? fun a => a.step = f.step with
        | some a => a.commit - f.tLast
        | none => f.bound
    let s := s.breakFrames cls s.curStep (held.map fun f => (f.id, new f))
    { s with adm := { s.adm with steps := steps } }

/-! ### Stopping frets, faults of the job -/

/-- Change every listed fret that meets a test. -/
def State.mapFrets (s : State) (p : Nat → Fret → Bool) (g : Nat → Fret → Fret) : State :=
  s.frets.foldl (fun s q => if p q.1 q.2 then s.setFret q.1 (g q.1 q.2) else s) s

/-- Stop the running frets of dies at the next cycle (R81, R194, R293). -/
def State.stopFrets (s : State) (dies : List Nat) : State :=
  s.mapFrets (fun i f => f.run = 1 && dies.contains (i / 384)) fun _ f =>
    { f with run := 2, stall := .none, recv := none, phase := none, armed := [], follow := [] }

/-- Can the job run the step again (R290 index 3, R296)? -/
def State.canRerun (s : State) : Bool :=
  s.upd.full.isEmpty && decide (s.upd.rolls < s.odNat (od 0x2300 0x18)) && s.dram.failed.isEmpty

/-- A snapshot in progress is abandoned, and the module says so (R299). -/
def State.abandonSnap (s : State) : State :=
  match s.upd.snap with
  | none => s
  | some n =>
    let s := s.sendStatus [(4, 0, 0, n.frame, n.step.getD s.curStep, 0)]
    let s := [2, 3, 4, 5].foldl (fun s d => s.clearReg d Reg.updStatus 2) s
    let keep := s.adm.frames.filter fun f => f.id ≠ n.frame
    { s with upd := { s.upd with snap := none }, adm := { s.adm with frames := keep } }

/-! ### Phases of a die (R133, R200, R233) -/

/-- Are phase times recorded (R233)? -/
def State.recording (s : State) : Bool :=
  s.rst.phase < 7 || s.reg 6 Reg.numCalibLeft ≠ 0 || s.num.sinceRollback || s.odNat (od 0x2100 0x11) = 1

/-- Add a run of a phase to its times. -/
def PhaseTime.add (p : PhaseTime) (cycles bound : Nat) : PhaseTime :=
  { p with runs := cap32 (p.runs + 1), least := if p.runs = 0 then cycles else min p.least cycles
           most := max p.most cycles, latest := cycles, sum := p.sum + cycles, bound := bound }

/-- Record a phase time. -/
def State.recordTime (s : State) (die vid cycles bound : Nat) : State :=
  if s.recording then
    let old := s.num.times.find? fun p => p.die = die && p.vid = vid
    let new := (old.getD ⟨die, vid, 0, 0, 0, 0, 0, 0⟩).add (cap32 cycles) (cap32 bound)
    { s with num := { s.num with times := (s.num.times.filter fun p => !(p.die = die && p.vid = vid)) ++ [new] } }
  else s

/-- Does a fret run the phase: it has switched into it and not left it yet? -/
def DiePhase.runs (p : DiePhase) (i : Nat) : Bool := p.die = i / 384 && p.began.contains i && p.frets.contains i

/-- A fret leaves the phase it runs; the last one of the die ends it (R133, R200). -/
def State.leavePhase (s : State) (i : Nat) : State :=
  let d := i / 384
  match s.board.phases.find? fun p => p.runs i with
  | none => s
  | some p =>
    let rest := p.frets.filter (· ≠ i)
    if rest.isEmpty then
      let s := s.updBoard fun b => { b with phases := b.phases.filter (· ≠ p) }
      let s := if p.waits = 0 then s else s.event 0x0901 (u8 d ++ c32 p.waits)
      let s := if p.blocks = 0 then s else s.event 0x0902 (u8 d ++ c32 p.blocks ++ c32 p.inexact)
      s.recordTime d p.vid (cyclesOf (s.time - p.start)) p.bound
    else s.updBoard fun b => { b with phases := b.phases.map fun q => if q = p then { p with frets := rest } else q }

/-- Does a fret run a phase of a voicing that has no cost (R110)? -/
def Fret.uncosted (f : Fret) : Bool :=
  f.run = 1 && f.active < 2 && (Descr.of f.aimg).fixed = 0

/-- The uncosted phases end: a control core stops them by writing the training function to Stopped (R110). -/
def State.endUncosted (s : State) : State :=
  s.frets.foldl (fun s q =>
    if q.2.uncosted then (s.leavePhase q.1).updFret q.1 fun f => { f with run := 0, stall := .none, recv := none, phase := none }
    else s) s

/-- The training function becomes Stopped (R110, R299, R401). -/
def State.stopTraining (s : State) : State := (s.endUncosted.setFn 0 0).abandonSnap

/-! ### The journal (R286 to R288) -/

/-- Where a die's journal starts. -/
def State.journalBase (s : State) (die : Nat) : Nat :=
  s.odNat (od 0x2300 0x10) + die * s.odNat (od 0x2300 0x11)

/-- A record's crc: over the record with the crc field as zero. -/
def journalCrc (r : Bytes) : Nat := (crc32 (r.take 20 ++ u32 0 ++ r.drop 24)).toNat

/-- A journal record (R286). -/
def journalRecord (kind row table slot : Nat) (entry pre : Bytes) : Bytes :=
  let body := padTo (roundUp pre.length 32) pre
  let r := u16 0x4A52 ++ u8 kind ++ u8 0 ++ u32 (64 + body.length) ++ u64 row ++ u16 table ++ u16 0 ++ u32 0
    ++ u64 slot ++ padTo 16 entry ++ zeroBytes 16 ++ body
  r.take 20 ++ u32 (journalCrc r) ++ r.drop 24

/-- Where the directory entry of a row stands: its address, or none when it is missing (R246). -/
def State.dirBuckets (s : State) : Nat := s.odNat (od 0x2200 0x11) / 64

/-- The row hash (R244): h, and s. -/
def rowHash (seed table row : Nat) : W64 :=
  let tk := Dice.mix4 (BitVec.ofNat 64 table) (Dice.mix4 (BitVec.ofNat 64 seed) Dice.k0)
  Dice.mix4 (BitVec.ofNat 64 row) tk
/-- h of a row of the module's tables. -/
def State.rowH (s : State) (table row : Nat) : Nat := (rowHash (s.odNat (od 0x2200 2)) table row).toNat
/-- s of a row. -/
def State.rowS (s : State) (table row : Nat) : Nat := (Dice.mix4 (BitVec.ofNat 64 (s.rowH table row)) Dice.k0).toNat
/-- Owner rank and home die of a row (R244). -/
def State.owner (s : State) (table row : Nat) : Nat := (bits (s.rowH table row) 63 32 * s.modules) >>> 32
def State.homeDie (s : State) (table row : Nat) : Nat := s.rowH table row % 4

/-- The sixteen places a row's entry can stand: four entries of four consecutive buckets (R246). -/
def State.dirPlaces (s : State) (table row : Nat) : List Nat :=
  let B := s.dirBuckets
  if B = 0 then [] else
  (List.range 4).flatMap fun b => (List.range 4).map fun e =>
    s.odNat (od 0x2200 0x10) + ((s.rowS table row + b) % B) * 64 + 16 * e

/-- A directory entry (R246). -/
structure DirEntry where
  row : Nat
  table : Nat
  cls : Nat
  bench : Bool
  hot : Bool
  touched : Bool
  valid : Bool
  slot : Nat
  deriving DecidableEq, Repr

/-- Read an entry. -/
def DirEntry.of (b : Bytes) : DirEntry :=
  let w := leAt b 8 8
  { row := leAt b 0 8, table := bits w 15 0, cls := bits w 17 16, bench := bits w 18 18 = 1, hot := bits w 19 19 = 1
    touched := bits w 20 20 = 1, valid := bits w 21 21 = 1, slot := bits w 63 24 * 32 }
/-- Write an entry. -/
def DirEntry.bytes (e : DirEntry) : Bytes :=
  let b := fun (x : Bool) k => (if x then 1 else 0) <<< k
  u64 e.row ++ u64 (e.table + (e.cls <<< 16) + b e.bench 18 + b e.hot 19 + b e.touched 20 + b e.valid 21
    + ((e.slot / 32) <<< 24))

/-- Find a row in the directory: the entry's address and the entry. -/
def State.dirFind (s : State) (table row : Nat) : Option (Nat × DirEntry) :=
  ((s.dirPlaces table row).map fun a => (a, DirEntry.of (s.readMem a 16))).find? fun p =>
    p.2.valid && p.2.table = table && p.2.row = row
/-- The first free entry of a row's buckets. -/
def State.dirFree (s : State) (table row : Nat) : Option Nat :=
  (s.dirPlaces table row).find? fun a => !(DirEntry.of (s.readMem a 16)).valid

/-- The records of a die's journal, in order. -/
def State.journalOf (s : State) (die : Nat) : List JRec := s.upd.journal.filter fun j => j.die = die

/-- Write back one pre-image: none when the record fails its check (R293 step 2). -/
def State.rewindOne (s : State) (j : JRec) : Option State :=
  let a := s.journalBase j.die + j.at'
  let r := s.readMem a (s.memNat (a + 4) 4)
  if leAt r 0 2 = 0x4A52 && 64 ≤ r.length && leAt r 20 4 = journalCrc r then
    let s := s.store (leAt r 24 8) (r.drop 64)
    if leAt r 2 1 = 1 then
      match s.dirFind (leAt r 16 2) (leAt r 8 8) with
      | some p => some (s.store p.1 (byteSlice r 32 16))
      | none => some s
    else some s
  else none

/-- Write back every pre-image in reverse order; false when a record failed its check. -/
def State.rewind (s : State) : State × Bool :=
  s.upd.journal.reverse.foldl (fun p j =>
    match p.1.rewindOne j with
    | some s => (s, p.2)
    | none => (p.1, false)) (s, true)

/-- The journals are empty (R286). -/
def State.emptyJournals (s : State) : State :=
  let s := [2, 3, 4, 5].foldl (fun s d => s.setReg d Reg.updJournalBytes 0) s
  { s with upd := { s.upd with journal := [] } }

/-! ### Copies for a snapshot (R298) -/

/-- Keys of a snapshot's items: a tensor half, the sketch and shard records of a parity, a carry half, a row. The header and the
history, which no later write changes, have key 0. -/
def snapHalf (entry h : Nat) : Nat := 4 * (entry * 2 + h) + 4
def snapSketch (parity : Nat) : Nat := 4 * parity + 1
def snapCarry (h : Nat) : Nat := 4 * h + 2
def snapRow (table row : Nat) : Nat := 4 * (row * 65536 + table) + 3

/-- The first place of the buffer, at its start or directly after a copied item, where so many bytes are free. -/
def Snap.bufferPlace (n : Snap) (size bytes : Nat) : Option Nat :=
  (0 :: n.copied.map fun c => c.2.1 + c.2.2).find? fun a =>
    decide (a + bytes ≤ size) && n.copied.all fun c => decide (c.2.1 + c.2.2 ≤ a) || decide (a + bytes ≤ c.2.1)

/-- Before a write that changes an item of the snapshot that the stream has not passed, its content is copied into the
buffer, once; nothing is written outside the buffer (log 19). The register of the item's memory-side die counts the bytes. -/
def State.snapCopy (s : State) (key : Nat) : State :=
  match s.upd.snap with
  | none => s
  | some n =>
    let bytes := ((n.items.filter fun i => i.key = key).map fun i => i.data.length).sum
    let die := ((n.items.find? fun i => i.key = key).map (·.die)).getD 0
    if bytes = 0 || n.copied.any (fun c => c.1 = key) then s
    else
      let place := n.bufferPlace (s.odNat (od 0x2300 0x15)) bytes
      let copy := (key, place.getD 0, if place.isSome then bytes else 0)
      let s := { s with upd := { s.upd with snap := some { n with copied := n.copied ++ [copy] } } }
      let data := (n.items.filter fun i => i.key = key).flatMap (·.data)
      let s := s.store (s.odNat (od 0x2300 0x14) + place.getD 0) (if place.isSome then data else [])
      s.setReg (2 + die) Reg.updSnapCopyBytes (s.reg (2 + die) Reg.updSnapCopyBytes + bytes)

/-- The items that a write to a range changes. -/
def Snap.touched (n : Snap) (a size : Nat) : List Nat :=
  ((n.items.filter fun i => i.places.any fun p => decide (p.1 < a + size) && decide (a < p.1 + p.2)).map (·.key)).eraseDups

/-- A write to memory that may change items of a snapshot: they are copied first (R298). -/
def State.put (s : State) (a : Nat) (bs : Bytes) : State :=
  let s := match s.upd.snap with
    | some n => if s.readMem a bs.length = bs then s else (n.touched a bs.length).foldl State.snapCopy s
    | none => s
  s.store a bs

/-! ### The rollback (R293) -/

/-- An FP32 value times 2^k, rounded with RNE and saturating (R224). -/
def scaleSat (k : Int) (x : F32) : F32 := (Fp.packSat (Fp.scale k (Fp.unpack x))).1

/-- Where a pin's carried sum stands in a half of the carry region (R295). -/
def State.carryAt (s : State) (half fret pin : Nat) : Nat :=
  let slot := fret / 384 * 512 + fret % 384 / 24 * 32 + fret % 24
  s.odNat (od 0x2300 0x12) + ((half * 1024 + slot) * 2 + pin) * 36864

/-- The pins whose places in a half of the carry region meet a range of it. -/
def State.carriedIn (s : State) (half off n : Nat) : List (Nat × Nat × Nat) :=
  let base := s.carryAt half 0 0
  (List.range 768).flatMap fun i => [0, 1].filterMap fun k =>
    let a := s.carryAt half i k - base
    if a < off + n && off < a + 36864 then some (half, i, k) else none

/-- Restore the carried sums of a step's start from half (step − 1) mod 2, times 2^scale; a pin that held none takes +0
(R224, R295). -/
def State.restoreCarries (s : State) (step : Nat) (scale : Int) : State :=
  let T := s.odNat (od 0x2100 5)
  s.pins.foldl (fun s p =>
    let f := s.fret p.1
    let v := f.voicing
    let a := s.carryAt ((step + 1) % 2) p.1 p.2.2
    let vals := (List.range (v.m * v.n)).map fun e =>
      let x : F32 := if step ≠ 0 && s.upd.carried.contains ((step + 1) % 2, p.1, p.2.2) then BitVec.ofNat 32 (s.memNat (a + 4 * e) 4) else 0#32
      ((if scale = 0 || v.int then x else scaleSat scale x), false)
    s.setFret p.1 (writeElems f v T p.2.1 0 vals)) s

/-- Write the carried sums at the end of a step into half step mod 2, which then holds those pins (R295). -/
def State.saveCarries (s : State) (step : Nat) : State :=
  let T := s.odNat (od 0x2100 5)
  let pins := s.pins
  let s := pins.foldl (fun s p =>
    let f := s.fret p.1
    let v := f.voicing
    s.put (s.carryAt (step % 2) p.1 p.2.2)
      ((slotValues f v T p.2.1 (v.m * v.n)).flatMap fun x => natLE 4 x.toNat)) s
  { s with upd := { s.upd with
      carried := (s.upd.carried.filter fun c => c.1 ≠ step % 2) ++ pins.map fun p => (step % 2, p.1, p.2.2) } }

/-- Multiply the carried sums by 2^scale at a change of the cube (R224). -/
def State.rescalePins (s : State) (scale : Int) : State :=
  let T := s.odNat (od 0x2100 5)
  s.pins.foldl (fun s p =>
    let f := s.fret p.1
    let v := f.voicing
    if v.int then s
    else s.setFret p.1 (writeElems f v T p.2.1 0
      ((slotValues f v T p.2.1 (v.m * v.n)).map fun x => (scaleSat scale x, false)))) s

/-- An emptied lane, which keeps the highest offset it reached (R183, R208). -/
def SLane.emptied (l : SLane) : SLane := { SLane.reset with high := l.high }

/-- Every lane is empty (R183). -/
def State.emptyLanes (s : State) : State :=
  { s with slanes := (s.slanes.filter fun l => l.2.high ≠ 0).map fun l => (l.1, l.2.emptied) }

/-- The key of a step count of a table (R248, R254). -/
def countKey (step table kind : Nat) : Nat := step % 2 * 4096 + table * 4 + kind

/-- What a rollback of a step discards on the embedding engines (R268), and the pool's slots of the step (R287). -/
def Emb.discard (e : Emb) (step : Nat) : Emb :=
  { e with rows := e.rows.filter fun r => r.step ≠ step
           queue := [], closed := [], open' := [], merge := [], work := 0, overflow := [], ended := [], records := []
           markers := [], reduced := [], done := false, tallies := e.tallies.filter fun t => t.step ≠ step
           counts := SMap.eraseRange e.counts (countKey step 0 0) 4096
           out := e.out.filter (fun d => d.step ≠ step), asks := e.asks.filter (fun a => a.step ≠ step)
           held := e.held.filter (fun h => h.step ≠ step), window := e.window.filter (fun w => w.step ≠ step)
           push := [], choice := none
           pool := e.freeRollback.foldl (fun p a => SMap.set 0 p a 0) e.pool, freeRollback := [], freeCommit := [] }

/-- What the embedding engines hold of a step that is not in progress yet (R387). -/
def Emb.forget (e : Emb) (step : Nat) : Emb :=
  { e with rows := e.rows.filter fun r => r.step ≠ step
           tallies := e.tallies.filter fun t => t.step ≠ step
           counts := SMap.eraseRange e.counts (countKey step 0 0) 4096
           out := e.out.filter (fun d => d.step ≠ step), asks := e.asks.filter (fun a => a.step ≠ step)
           held := e.held.filter (fun h => h.step ≠ step), window := e.window.filter (fun w => w.step ≠ step) }

/-- The shard records of a step's parity return to the committed copy (R265). -/
def Emb.revertShards (e : Emb) (step : Nat) : Emb :=
  let lo := step % 2 * 1024
  let other := (step + 1) % 2 * 1024
  { e with shard := SMap.setMany (0, 0#32) e.shard lo (SMap.getMany (0, 0#32) e.shard other 1024) }

/-- The supervisor returns to the step's start (R296): rungs, run counts, windows; counts since restart stay. -/
def Num.revert (n : Num) : Num :=
  let old := match n.before with | some b => b.passes | none => n.passes
  { n with
    passes := (n.passes.zip old).map fun p =>
      { p.1 with current := p.1.base, pending := p.2.pending, next := p.2.next, zeroRun := p.2.zeroRun
                 windowRep := p.2.windowRep, zeroTold := p.2.zeroTold, repeatsStep := 0, overflowed := false
                 repeated := false, survivedNow := false, topNow := 0 }
    decided := none, skip := false, clean := false, dirty := false, before := none, stepRepeats := 0
    repeating := [], gates := [], sinceRollback := true }

/-- The cube, the clean-step count and the carried sums' scale return to the step's start too, but at a rollback that the
cube's halving ordered, which runs the step again at the new cube (R222, R296). -/
def State.revertNum (s : State) (cause : Nat) : State :=
  let s := match s.num.before with
    | some b =>
      if cause = 7 then s
      else
        let s := (s.setCube (Fmt.signed 8 b.cube)).setReg 6 Reg.numCleanSteps b.clean
        { s with num := { s.num with carry := b.carry } }
    | none => s
  { s with num := s.num.revert }

/-- The rollback of the step in progress (R293): `decision` 0 replay, 1 recompute, 2 stop; `lowest` the lowest rank
that voted a fault. Promises are broken with ROLLBACK unless this module reported its own fault already. -/
def State.rollback (s : State) (cause decision lowest : Nat) : State :=
  let step := s.curStep
  let s := s.stopFrets [0, 1]
  let told := s.upd.fault.isSome && (decision ≠ 2 || (s.adm.frames.all fun f => !f.inFlight || f.bound = never))
  let s := if told then s else s.breakStep cause (if decision = 2 then none else some 0)
  let r := s.rewind
  let s := if r.2 then r.1 else r.1.stopTraining
  let s := s.emptyJournals
  let s := ({ s with emb := (s.emb.discard step).revertShards step } : State).revertNum cause
  let s := s.restoreCarries step s.num.carry
  let s := (s.emptyLanes).updBoard fun b =>
    { b with contribs := [], phases := [], norms := [], runs := [], convs := [] }
  let s := s.serveWindows
  let s : State := { s with fab := { s.fab with tree := [] } }
  let s := { s with upd := { s.upd with
    wrote := [], handled := [], passed := [], failed := [], shards := [], rowsUpdated := 0, checksFailed := 0
    rowsDone := [], full := [], applied := false, voted := false, fault := none
    rolls := s.upd.rolls + 1, rollbacks := cap32 (s.upd.rollbacks + 1), rerun := if decision = 0 then 3 else 4 } }
  let s := s.event 0x0602 (u64 step ++ u8 cause ++ u8 decision ++ u32 lowest)
  if decision = 2 then s.stopTraining else s

end Sys2Proof.Machine
end

