-- ==== Sys2Proof/Machine/Net.lean ====
section
/-! DEFINITION. What the units share of the fabric: packets, routes, requests and replies, sync objects, posts
(R332 to R347, R359). -/

namespace Sys2Proof.Machine

/-! ### Routes (R336, R337) -/

/-- Does the zone close a ring in dimension d (R330)? -/
def State.isRing (s : State) (d : Nat) : Bool := s.zoneExtent d = s.hall d

/-- The direction in dimension d from one node to another: none when they agree, else true for +. -/
def State.routeDir (s : State) (d src dst : Nat) : Option Bool :=
  let c := nodeCoord src d
  let t := nodeCoord dst d
  if c = t then none
  else if s.isRing d then
    let h := max 1 (s.hall d)
    let δ := (t + h - c) % h
    some (decide (δ ≤ h - δ))
  else some (decide (s.zoneOff src d < s.zoneOff dst d))

/-- The port a packet to `dst` leaves node `src` by, with its dimension and direction. -/
def State.routePort (s : State) (src dst : Nat) : Option (Nat × Nat × Bool) :=
  match s.routeDir 0 src dst with
  | some p => some (if p then 0 else 3, 0, p)
  | none => match s.routeDir 1 src dst with
    | some p => some (if p then 1 else 4, 1, p)
    | none => (s.routeDir 2 src dst).map fun p => (if p then 2 else 5, 2, p)

/-- Does the link in direction `plus` of dimension d cross from coordinate H − 1 to 0 or back (R337)? -/
def State.wraps (s : State) (d : Nat) (plus : Bool) : Bool :=
  let c := nodeCoord s.node d
  if plus then c + 1 = s.hall d else c = 0

/-- A port. -/
def State.port (s : State) (p : Nat) : Port := s.fab.ports.getD p Port.reset
/-- Change a port. -/
def State.updPort (s : State) (p : Nat) (g : Port → Port) : State :=
  { s with fab := { s.fab with ports := s.fab.ports.modify p g } }

/-- Take a packet into the inbox, and after it those of its source that were waiting for it, `k` at most. -/
def Fab.takeRun : Nat → Packet → Fab → Fab
  | 0, _, f => f
  | k + 1, pk, f =>
    let next := (pk.pseq + 1) % 65536
    let f := { f with inbox := f.inbox ++ [pk], heard := SMap.set 0 f.heard pk.src (next + 1) }
    match f.early.find? fun q => q.src = pk.src && q.pseq = next with
    | none => f
    | some q => Fab.takeRun k q { f with early := f.early.erase q }

/-- A packet reached its destination. Operations of a source other than BRIDGE are taken in the order of issue: one that passed
earlier ones waits for them (R341). What comes first from a source starts its order, and so does a number behind it (DESIGN CHOICE,
log 17). -/
def Fab.take (f : Fab) (pk : Packet) : Fab :=
  let next := SMap.get 0 f.heard pk.src
  if pk.op = 8 then { f with inbox := f.inbox ++ [pk] }
  else if next ≠ 0 && pk.pseq ≠ next - 1 && decide ((pk.pseq + 65536 - (next - 1)) % 65536 < 32768) then
    { f with early := f.early ++ [pk] }
  else f.takeRun (f.early.length + 1) pk

/-- Queue a packet on the port its route takes; one to this node is taken in. `dim` is the dimension it
arrives in, none at its source. -/
def State.enqueue (s : State) (pk : Packet) (dim : Option Nat) : State :=
  match s.routePort s.node pk.dst with
  | none => { s with fab := s.fab.take pk }
  | some r =>
    let vc := if dim = some r.2.1 then pk.vc else 0
    let vc := if s.isRing r.2.1 && s.wraps r.2.1 r.2.2 then 1 else vc
    s.updPort r.1 fun p => { p with queue := p.queue ++ [{ pk with vc := vc }] }

/-- Send a packet of this node with flags (R335). All but BRIDGE packets are numbered for their destination (R341). -/
def State.sendFlags (s : State) (dst cls op flags : Nat) (data : Bytes) : State :=
  let n := SMap.get 0 s.fab.pseq dst
  if op = 8 then s.enqueue (Packet.mk dst s.node cls 0 op 0 flags data) none
  else
    let s := { s with fab := { s.fab with pseq := SMap.set 0 s.fab.pseq dst ((n + 1) % 65536) } }
    s.enqueue (Packet.mk dst s.node cls 0 op n flags data) none

/-- Send a packet of this node. -/
def State.send (s : State) (dst cls op : Nat) (data : Bytes) : State := s.sendFlags dst cls op 0 data

/-! ### The module-level tree (R138) -/

/-- Levels at which a rank receives: those children that the job has (R136, R138). -/
def childLevels (modules rank : Nat) : List Nat :=
  ((List.range 15).takeWhile fun l => rank % pow2 (l + 1) = 0).filterMap fun l =>
    if rank + pow2 l < modules then some (l + 1) else none

/-- The level at which a rank above 0 sends, and its parent. -/
def parentOf (rank : Nat) : Nat × Nat :=
  match (List.range 15).find? fun l => rank % pow2 (l + 1) ≠ 0 with
  | some l => (l + 1, rank - pow2 l)
  | none => (0, 0)


/-- The envelope and the packet (R335), fields packed from bit 0 up in the table's order (log 17). -/
def envelope (pk : Packet) (seq : Nat) : Bytes :=
  let n := pk.dst % 32768 + ((pk.src % 32768) <<< 15) + ((pk.cls % 4) <<< 30) + ((pk.vc % 2) <<< 32)
    + ((pk.op % 16) <<< 33) + ((seq % 4096) <<< 37) + ((pk.pseq % 65536) <<< 49)
    + ((pk.data.length % 512) <<< 65) + ((pk.flags % 16) <<< 74)
  let head := natLE 10 n
  let crc := (crc32 (head ++ pk.data)).toNat
  natLE 14 (n + (crc <<< 78)) ++ pk.data

/-- Read an envelope: the packet, its link sequence number, and whether its crc holds. -/
def openEnvelope (bs : Bytes) : Packet × Nat × Bool :=
  let n := leAt bs 0 14
  let data := bs.drop 14
  let head := natLE 10 (n % pow2 78)
  (⟨bits n 14 0, bits n 29 15, bits n 31 30, bits n 32 32, bits n 36 33, bits n 64 49, bits n 77 74, data⟩,
   bits n 48 37, bits n 109 78 = (crc32 (head ++ data)).toNat && bits n 73 65 = data.length)

/-! ### Requests and replies (R340, R342) -/

/-- Reply statuses (R342), and the operation error (R340). -/
def stOk : Nat := 0
def stAddr : Nat := 1
def stPoison : Nat := 2
def stBusy : Nat := 3
def stTimeout : Nat := 4
def stOperation : Nat := 5

/-- A request's 32 bytes (log 17): id, kind 0, sub-operation, class, address or object, two operands. -/
def requestBytes (id sub cls addr a b : Nat) : Bytes := u32 id ++ u8 0 ++ u8 sub ++ u8 cls ++ u8 0 ++ u64 addr ++ u64 a ++ u64 b
/-- A reply's 16 bytes: id, kind 1, status, info. -/
def replyBytes (id status info : Nat) : Bytes := u32 id ++ u8 1 ++ u8 status ++ u16 info ++ u64 0

/-- Issue a request to another node; BRIDGE and the reserved operations end in an operation error at issue, and nothing is sent
(R340). -/
def State.request (s : State) (dst op sub cls addr a b : Nat) (data : Bytes) (phase : Bool) (why : Purpose) : State :=
  let id := s.fab.nextId
  if op = 0 || 7 < op then
    { s with fab := { s.fab with nextId := id + 1, answers := (id, stOperation, []) :: s.fab.answers } }
  else
  let s := { s with fab := { s.fab with
    nextId := id + 1, reqs := s.fab.reqs ++ [Request.mk id dst op s.time phase why] } }
  s.send dst (if op = 6 then 1 else 0) op (requestBytes id sub cls addr a b ++ data)

/-- Reply to a requester: over the fabric, or to the module's own unit (R342). -/
def State.reply (s : State) (src id status : Nat) (data : Bytes) (sync : Bool) : State :=
  if src = s.node then { s with fab := { s.fab with answers := (id, status, data) :: s.fab.answers } }
  else s.sendFlags src (if sync then 1 else 0) 0 (if status = 2 then 2 else 0) (replyBytes id status 0 ++ data)

/-- Is an operation of a source the next to take effect: no earlier one of that source waits in the inbox (R341)? -/
def State.turnOf (s : State) (src op : Nat) : Bool :=
  match s.fab.inbox.find? fun p => p.src = src && p.op ≠ 8 with
  | some p => p.op = op
  | none => true

/-- Is a message to a queue the source's next operation to take effect? -/
def State.turnOfMsg (s : State) (src queue : Nat) : Bool :=
  match s.fab.inbox.find? fun p => p.src = src && p.op ≠ 8 with
  | some p => p.op = 7 && leAt p.data 5 1 = queue
  | none => true

/-- Take the packet that asked for an operation from the inbox: source and op. -/
def State.takeInbox (s : State) (src op : Nat) : State :=
  match s.fab.inbox.find? fun p => p.src = src && p.op = op with
  | none => s
  | some p => { s with fab := { s.fab with inbox := s.fab.inbox.erase p } }


/-! ### Local addresses (R302, R332) -/

/-- Is a tier in service, and its band in the map (R317, R322)? -/
def State.bandOk (s : State) (tier band : Nat) : Bool :=
  !(s.dram.retired.any fun b => b.tier = tier && b.band = band && b.out) && !(s.dram.failed.any fun f => f.1 = tier)

/-- Is the local offset mapped memory of HBM or the bench tier? -/
def State.mapped (s : State) (a : Nat) : Bool :=
  if a < 0x6C00000000 then s.bandOk 0 (a / 0x240000000)
  else if 0x10000000000 ≤ a && a < 0x20000000000 then s.bandOk 1 ((a - 0x10000000000) / 0x800000000)
  else false

/-- Is every byte of a range mapped? Bands are larger than any single access: the two ends decide. -/
def State.mappedRange (s : State) (a n : Nat) : Bool := n = 0 || (s.mapped a && s.mapped (a + n - 1))

/-! ### Sync objects (R343 to R347) -/

/-- A sync object. -/
def State.syncObj (s : State) (o : Nat) : Nat := (SMap.get 0 s.fab.sync o).toNat
/-- Write one. -/
def State.setSync (s : State) (o v : Nat) : State :=
  { s with fab := { s.fab with sync := SMap.set 0 s.fab.sync o (BitVec.ofNat 64 v) } }

/-- STEP_MAX and STEP_ADD on the step layout (R345). -/
def stepMax (v a : Nat) : Nat :=
  if v / 0x1000000 < a / 0x1000000 then a
  else if v / 0x1000000 = a / 0x1000000 then v / 0x1000000 * 0x1000000 + max (v % 0x1000000) (a % 0x1000000) else v
def stepAdd (v a : Nat) : Nat :=
  if v / 0x1000000 < a / 0x1000000 then a
  else if v / 0x1000000 = a / 0x1000000 then
    v / 0x1000000 * 0x1000000 + min 0xFFFFFF (v % 0x1000000 + a % 0x1000000) else v

/-- RECORD on the commit layout (R345, R347). -/
def commitRecord (v a : Nat) : Nat := if v / 4 < a / 4 || (v / 4 = a / 4 && v % 4 = 0) then a else v

/-- A sub-operation's new value (R345). -/
def syncApply (sub v a b : Nat) : Nat :=
  match sub with
  | 1 => a
  | 2 => (v + a) % 0x10000000000000000
  | 3 => max v a
  | 4 => if v = b then a else v
  | 5 => commitRecord v a
  | 6 => stepMax v a
  | 7 => stepAdd v a
  | _ => v

/-- Apply a sub-operation; the operation counter counts it. -/
def State.syncOp (s : State) (sub o a b : Nat) : State :=
  (s.setSync o (syncApply sub (s.syncObj o) a b)).bump 6 Reg.syncOpCount 1

/-! ### Posts of extensions and delays (R207, R346) -/

/-- What the latest update that was applied to a step says of it: extension and delay. -/
def State.seenOf (s : State) (step : Nat) : Nat × Nat := if s.fab.seen.1 = step then s.fab.seen.2 else (0, 0)

/-- The bounds of a step rise by what an update of the step's extension and delay adds (R346); a frame that is not marked
extendable never rises for an extension (R207). -/
def State.applyStepSync (s : State) (step ext delay cls : Nat) : State :=
  let old := s.seenOf step
  let upExt := ext - old.1
  let upDelay := delay - old.2
  let up := upExt + upDelay
  let s := { s with fab := { s.fab with seen := (step, max ext old.1, max delay old.2) } }
  if up = 0 then s
  else
    let rise := fun (f : HeldFrame) => upDelay + if f.extendable then upExt else 0
    let news := (s.adm.frames.filter fun f => f.inFlight && f.isEvents && f.step % 0x10000000000 = step && rise f ≠ 0).map
      fun f => (f.id, f.bound + rise f)
    let s := { s with adm := { s.adm with steps := s.adm.steps.map fun (a : AdmStep) =>
      if a.step % 0x10000000000 = step then a.later up else a } }
    if 0 < upDelay then s.breakFrames cls s.curStep news else s.raiseFrames news

/-- Does the module turn an extension away, since it has accepted a frame of the step that is never raised (R207, log 22)? -/
def State.turnsAway (s : State) (step ext : Nat) : Bool :=
  decide ((s.seenOf step).1 < ext)
    && s.adm.frames.any fun f => f.inFlight && f.isEvents && f.step % 0x10000000000 = step && !f.extendable

/-- The module's own answer to an update, and to one whose acknowledgements are still out. A step whose extension was turned away
is remembered (R207). -/
def State.answerUpdate (s : State) (step ext : Nat) : State :=
  let away := s.turnsAway step ext
  let own := if away then stBusy else stOk
  { s with fab := { s.fab with
    ackStatus := if s.fab.reqs.any fun r => r.purpose = .ack then max s.fab.ackStatus own else own
    away := if away then some step else s.fab.away } }

/-- The sub-operation field of a step update: no sub-operation of R345 (log 17). -/
def subUpdate : Nat := 16

/-- An update goes to the module's children in the tree, with its cause (R346 step 2, log 17). -/
def State.passUpdate (s : State) (v2 v3 cls : Nat) : State :=
  (childLevels s.modules s.rank).foldl (fun s l =>
    s.request (s.nodeOfRank (s.rank + pow2 (l - 1))) 6 subUpdate 0 2 v2 v3 (u8 cls) false .ack) s

/-- Rank 0 updates every module of the job (R346 step 2). -/
def State.fanOut (s : State) (cls : Nat) : State :=
  let v2 := s.syncObj 2
  let v3 := s.syncObj 3
  let step := max (v2 / 0x1000000) (v3 / 0x1000000)
  let low := fun v => if v / 0x1000000 = step then v % 0x1000000 else 0
  ((s.answerUpdate step (low v2)).applyStepSync step (low v2) (low v3) cls).passUpdate v2 v3 cls

/-- The answer to a post that left rank 0's object as it was: an extension of a step that a module turned away is turned away again
(R207). -/
def State.standing (s : State) (obj step : Nat) : Nat :=
  if obj = 2 && decide (s.fab.away = some (step % 0x10000000000)) then stBusy else stOk

/-- Post an extension (object 2) or a delay (object 3) of the current job step; what the field cannot hold is not posted (R346). -/
def State.post (s : State) (delay : Bool) (step ns cls : Nat) (why : Purpose) : State :=
  let a := step % 0x10000000000 * 0x1000000 + ns
  let o := if delay then 3 else 2
  let sub := if delay then 7 else 6
  if 0xFFFFFF < ns then s
  else if s.rank = 0 then
    let t := s.syncOp sub o a 0
    if t.syncObj o = s.syncObj o then t else t.fanOut cls
  else s.request (s.nodeOfRank 0) 6 sub 0 o a cls [] false why

end Sys2Proof.Machine
end

