-- ==== Sys2Proof/Machine/Tree.lean ====
section
/-! DEFINITION. What X0 sums over the modules: the packets of the module-level tree, the step verdict's and the commit
vote's sums, the vote that a module casts, and the faults of the job (R138, R219, R289 to R291, R294, R348). -/

namespace Sys2Proof.Machine

/-! ### The tree's packets (R348) -/

/-- A bridge packet's 16-byte header (log 17). -/
def bridgeHeader (t : TreeOp) (chunk level : Nat) (down : Bool) : Bytes :=
  u16 t.layer ++ u8 t.tensor ++ u8 t.pass ++ u16 t.mb ++ u32 t.opno ++ u16 chunk ++ u8 t.op ++ u8 t.rows ++ u8 t.n
    ++ u8 (level + if down then 128 else 0)

/-- Send a chunk to a rank. -/
def State.sendChunk (s : State) (t : TreeOp) (rank chunk level : Nat) (down : Bool) (data : List F32) : State :=
  s.send (s.nodeOfRank rank) 2 8 (bridgeHeader t chunk level down ++ data.flatMap fun w => natLE 4 w.toNat)

/-- Does a TreeOp carry the matching key? -/
def TreeOp.is (t : TreeOp) (layer tensor pass mb opno : Nat) : Bool :=
  t.layer = layer && t.tensor = tensor && t.pass = pass && t.mb = mb && t.opno = opno

/-- Replace a tree entry. -/
def State.setTree (s : State) (t : TreeOp) : State :=
  { s with fab := { s.fab with tree := (s.fab.tree.filter fun x => !x.is t.layer t.tensor t.pass t.mb t.opno) ++ [t] } }

/-- A result chunk reached this module: it goes on to the children (R348). -/
def State.chunkDown (s : State) (t : TreeOp) (chunk : Nat) (data : List F32) : State :=
  let s := s.setTree { t with down := t.down ++ [(chunk, data)] }
  (childLevels s.modules s.rank).reverse.foldl
    (fun s l => s.sendChunk t (s.rank + pow2 (l - 1)) chunk l true data) s

/-! ### Sums of X0 (R219, R290) -/

/-- The key of a sum of X0 in a step: kind 0 the verdict, 1 the commit vote (log 17). -/
def sumOf (kind step : Nat) : TreeOp := ⟨0xFFFF, 0xFF, 0xFF, kind, step % 0x100000000, 7, 0, 0, [], [], false⟩

/-- A sum in the making. -/
def State.sumTree (s : State) (kind : Nat) : TreeOp :=
  let t := sumOf kind s.curStep
  (s.fab.tree.find? fun x => x.is t.layer t.tensor t.pass t.mb t.opno).getD t

/-- A value of a sum that counts modules or events: exact (R219, R290). -/
def countOf (sum : List F32) (k : Nat) : F32 := sum.getD k 0
/-- Did anything count? -/
def anyOf (sum : List F32) (k : Nat) : Bool := !Fp.isZero (countOf sum k)

/-- Rank 0 records an outcome in its commit object (R291, R347). -/
def State.recordOutcome (s : State) (outcome : Nat) : State :=
  if s.rank = 0 then s.syncOp 5 1 (s.curStep * 4 + outcome) 0 else s

/-- The sum is whole at rank 0 (R291): the vote's outcome is recorded before the fan-out; one that comes after a recorded
rollback is discarded (R292). -/
def State.sumFormed (s : State) (t : TreeOp) (chunk : Nat) (data : List F32) : State :=
  if t.mb ≠ 1 then s.chunkDown t chunk data
  else if s.syncObj 1 = s.curStep * 4 + 2 then s
  else (s.recordOutcome (if countOf data 1 = Fp.ofNat s.modules then 1 else 2)).chunkDown t chunk data

/-- Combine a chunk of a sum when every contribution to it is there, lower rank first, and pass it on (R136, R348). -/
def State.sumUp (s : State) (t : TreeOp) (chunk : Nat) : State :=
  let levels := childLevels s.modules s.rank
  let got := fun l => (t.parts.find? fun p => p.1 = l && p.2.1 = chunk).map (·.2.2)
  if t.bad || !((0 :: levels).all fun l => (got l).isSome) || t.down.any (fun d => d.1 = chunk) then s
  else
    let data := levels.foldl (fun a l => List.zipWith (fun x y => (Fp.addSat x y).1) a ((got l).getD [])) ((got 0).getD [])
    if s.rank = 0 then s.sumFormed t chunk data
    else
      let p := parentOf s.rank
      s.sendChunk t p.2 chunk p.1 false data

/-- Has the module contributed to a sum? -/
def TreeOp.cast (t : TreeOp) : Bool := t.parts.any fun p => p.1 = 0

/-- The module contributes a vector to a sum, once. -/
def State.contribute (s : State) (kind : Nat) (vec : List F32) : State :=
  let t := s.sumTree kind
  if t.cast then s
  else
    let cs := chunks 64 vec
    let t := { t with parts := t.parts ++ cs.zipIdx.map fun p => (0, p.2, p.1) }
    (List.range cs.length).foldl (fun s k => s.sumUp (s.sumTree kind) k) (s.setTree t)

/-- Chunks of a sum that come down from rank 0. -/
def State.sumArrives (s : State) (kind : Nat) (arrived : List (Nat × List F32)) : State :=
  if s.rank = 0 then s
  else arrived.foldl (fun s c =>
    let t := s.sumTree kind
    if t.down.any fun d => d.1 = c.1 then s else s.chunkDown t c.1 c.2) s

/-- The whole sum, where every chunk of it is here. -/
def State.sumHere (s : State) (kind : Nat) : Option (List F32) :=
  let t := s.sumTree kind
  let n := (t.parts.filter fun p => p.1 = 0).length
  let got := (List.range n).filterMap fun k => (t.down.find? fun d => d.1 = k).map (·.2)
  if t.cast && got.length = n then some got.flatten else none

/-! ### The kept gradient (R294) -/

/-- Where an entry's kept gradient stands. -/
def State.keepAddr (s : State) (p : Param) : Nat := s.odNat (od 0x2300 0x13) + p.keepAt

/-- FP32 values of a byte string, and the bytes of values. -/
def f32s (b : Bytes) : List F32 := (chunks 4 b).map fun x => BitVec.ofNat 32 (leNat x)
def f32Bytes (xs : List F32) : Bytes := xs.flatMap fun x => natLE 4 x.toNat

/-- The kept gradient, when it is whole. -/
def State.keptGrad (s : State) (p : Param) : Option (List F32) :=
  let n := 4 * (p.rows * p.cols)
  let b := s.readMem (s.keepAddr p) n
  if s.memNat (s.keepAddr p + n) 4 = (crc32 b).toNat && !s.poisoned (s.keepAddr p) (n + 4) then some (f32s b) else none

/-- Is every kept gradient of the step intact: of each tensor with KEEP, due in the step or not (R289, R294; log 11)? -/
def State.keptIntact (s : State) : Bool :=
  s.params.zipIdx.all fun p => !p.1.keep || (s.upd.kept.contains p.2 && (s.keptGrad p.1).isSome)

/-! ### The vote and the faults (R289, R290) -/

/-- This module's vote (R290). -/
def State.voteVector (s : State) : List F32 :=
  let one := fun (b : Bool) => if b then Fp.one else 0#32
  [Fp.one, one (s.upd.applied && s.upd.fault.isNone), one s.keptIntact, one (s.upd.fault.isSome && !s.canRerun), 0, 0, 0, 0]

/-- The module casts its vote of the step, once (R290). -/
def State.castVote (s : State) : State :=
  ({ s with upd := { s.upd with voted := true } } : State).contribute 1 s.voteVector

/-- The module has a fault in the step: it votes as soon as it can, index 1 at +0 (R290). The first class stands. -/
def State.setFault (s : State) (cls : Nat) : State :=
  ({ s with upd := { s.upd with fault := some (s.upd.fault.getD cls) } } : State).castVote

/-- A fault that rolls the job back: promises broken, vote cast (R81, R194, R312, R342). -/
def State.jobFault (s : State) (cls : Nat) (reload : Option Nat) : State :=
  (s.breakStep cls (if s.canRerun then reload else none)).setFault cls

end Sys2Proof.Machine
end

