-- ==== Sys2Proof/Machine/RowFail.lean ====
section
/-! DEFINITION. Where a unit of memory lies, and what its errors do: corrected and uncorrectable errors, poison, row failures,
remaps, retired banks (R303, R304, R310 to R317, R327, R328). -/

namespace Sys2Proof.Machine

/-! ### Addresses (R303, R304, R327, R328) -/

/-- Where a unit of a tier lies: channel (pseudo-channel k of R303, or bench channel k of R304), bank, row, column. -/
structure Place where
  tier : Nat
  chan : Nat
  bank : Nat
  row : Nat
  col : Nat
  deriving DecidableEq, Repr

/-- The place of a local offset. -/
def placeOf (a : Nat) : Place :=
  if a < 0x10000000000 then
    let u := a / 256
    let q := u / 384
    ⟨0, u % 384, q / 98304, q / 4 % 24576, q % 4⟩
  else
    let u := (a - 0x10000000000) / 256
    let q := u / 64
    ⟨1, u % 64, q / 2097152, q / 8 % 262144, q % 8⟩

/-- Memory-side die (0 to 3) of a channel of a tier, and its number there: p of R327, i of R328. -/
def chanDie (tier chan : Nat) : Nat := if tier = 0 then chan % 12 / 3 else chan % 16 / 4
def chanNo (tier chan : Nat) : Nat :=
  if tier = 0 then chan % 12 % 3 * 32 + chan / 12 else chan % 16 % 4 * 4 + chan / 16
/-- The channel field of an event (R496). -/
def chanField (die no : Nat) : Nat := die * 16384 + no

/-- A channel that trains: on HBM numbered stack × 16 + channel; the bench tier's are the bench channels. -/
def trainDie (tier chan : Nat) : Nat := if tier = 0 then chan / 16 / 3 else chanDie 1 chan
def trainNo (tier chan : Nat) : Nat := if tier = 0 then chan / 16 % 3 * 16 + chan % 16 else chanNo 1 chan

/-- The status register of a tier, and its counters. -/
def tierStatus (tier : Nat) : RegName := if tier = 0 then Reg.hbmcStatus else Reg.benchStatus
def tierErrLoc (tier : Nat) : RegName := if tier = 0 then Reg.hbmcErrLoc else Reg.benchErrLoc

/-- The latest event's location. -/
def State.errLoc (s : State) (kind : Nat) (p : Place) : State :=
  let no := chanNo p.tier p.chan
  let v := if p.tier = 0 then (p.col <<< 28) + (p.row <<< 13) + (p.bank <<< 7) + no
    else (p.col <<< 27) + (p.row <<< 9) + (p.bank <<< 4) + no
  s.setReg (2 + chanDie p.tier p.chan) (tierErrLoc p.tier) (pow2 63 + (kind <<< 60) + v)

/-! ### Row failures (R314 to R317) -/

/-- A row's key, and a bank's. -/
def Place.rowKey (p : Place) : Nat := ((p.tier * 512 + p.chan) * 64 + p.bank) * 0x100000 + p.row
def Place.bankKey (p : Place) : Nat := (p.tier * 512 + p.chan) * 64 + p.bank

/-- Does a controller spare hold the row? -/
def Remap.isRow (r : Remap) (p : Place) : Bool :=
  r.tier = p.tier && r.chan = p.chan && r.bank = p.bank && r.row = p.row && r.kind = .spare

/-- Does the entry keep a controller spare from other rows: it holds one, or the spare has failed? -/
def Remap.inSpare (r : Remap) : Bool := r.kind = .spare || r.kind = .failed

/-- Spare rows of a channel. -/
def spareRows (tier : Nat) : Nat := if tier = 0 then 1024 else 256

/-- Is a spare of a channel free? -/
def State.spareUnused (s : State) (tier chan n : Nat) : Bool :=
  !(s.dram.remaps.any fun r => r.tier = tier && r.chan = chan && r.spare = n && r.inSpare)

/-- The lowest free spare in another bank (R315). -/
def State.freeSpare (s : State) (p : Place) : Option Nat :=
  (List.range (spareRows p.tier)).find? fun n =>
    s.spareUnused p.tier p.chan n && decide (Config.spareBank p.tier n ≠ p.bank)

/-- An event, status flag and life-log entry of a row's failure: kind 3 remap, 4 repeat, 5 retire. -/
def State.rowEvent (s : State) (kind : Nat) (p : Place) : State :=
  let die := chanDie p.tier p.chan
  let no := chanNo p.tier p.chan
  let s := s.event (0x0301 + (kind - 3)) (u8 p.tier ++ u16 (chanField die no) ++ u8 p.bank ++ u32 p.row)
  let s := s.flag (2 + die) (tierStatus p.tier) (kind - 1 + p.tier)
  let s := s.errLoc kind p
  (s.lifeLog (kind - 1) (2 + die) (p.tier * 32768 + p.chan) (p.bank * 0x1000000 + p.row)).updSpare id

/-- The controller copies the row into a spare. The spare that held the row before has failed and holds nothing more (R316). -/
def State.remapRow (s : State) (p : Place) (n : Nat) : State :=
  let die := 2 + chanDie p.tier p.chan
  let old := s.dram.remaps.map fun r => if r.isRow p then { r with kind := .failed, copying := false } else r
  let s := { s with dram := { s.dram with remaps := old ++ [Remap.mk p.tier p.chan p.bank p.row n true .spare] } }
  s.bump die (if p.tier = 0 then Reg.hbmcRemapCount else Reg.benchRemapCount) 1

/-- A bank retires, once (R317). -/
def State.retireBank (s : State) (p : Place) : State :=
  if s.dram.retired.any (fun b => b.tier = p.tier && b.band = p.bank) then s
  else
    let s := { s with dram := { s.dram with retired := s.dram.retired ++ [Band.mk p.tier p.bank s.time false] } }
    s.rowEvent 5 p

/-- A repeat failure (R316, R317). -/
def State.repeatFail (s : State) (p : Place) (spare : Option Nat) : State :=
  let n := SMap.get 0 s.dram.repeats p.bankKey + 1
  let s := { s with dram := { s.dram with repeats := SMap.set 0 s.dram.repeats p.bankKey n } }
  let s := s.rowEvent 4 p
  let s := if p.tier = 0 then s.bump (2 + chanDie 0 p.chan) Reg.hbmcRemapRepeatCount 1 else s
  let s := match spare with
    | some k => (s.remapRow p k).flag (2 + chanDie p.tier p.chan) (tierStatus p.tier) (2 + p.tier)
    | none => s
  if n = 3 then s.retireBank p else s

/-- A row fails (R314 to R316). -/
def State.rowFails (s : State) (p : Place) : State :=
  let s := { s with dram := { s.dram with rowErrs := SMap.set 0 s.dram.rowErrs p.rowKey 0 } }
  let spare := s.freeSpare p
  if s.dram.remaps.any (fun r => r.isRow p) then s.repeatFail p spare
  else match spare with
    | some k => (s.remapRow p k).rowEvent 3 p
    | none => s.repeatFail p none

/-! ### Errors and poison (R302, R310 to R312) -/

/-- A corrected error (R310, R314). -/
def State.correctedError (s : State) (p : Place) : State :=
  let die := 2 + chanDie p.tier p.chan
  let s := s.flagCount die (tierStatus p.tier) 0 (if p.tier = 0 then Reg.hbmcCeCount else Reg.benchCeCount) 1
  let s := s.errLoc 1 p
  let n := SMap.get 0 s.dram.rowErrs p.rowKey + 1
  if s.odNat (od 0x2400 5) ≤ n then s.rowFails p
  else { s with dram := { s.dram with rowErrs := SMap.set 0 s.dram.rowErrs p.rowKey n } }

/-! ### Lanes, training and retrains (R319 to R322) -/

/-- A spare lane is switched in: tier, stack, channel within the stack, lane (R319, R465). -/
def State.laneSpare (s : State) (l : Nat × Nat × Nat × Nat) : State :=
  let die := if l.1 = 0 then l.2.1 / 3 else l.2.1 / 4
  let s := s.event 0x0304 (u8 l.1 ++ u8 l.2.1 ++ u8 l.2.2.1 ++ u8 l.2.2.2)
  let s := if l.1 = 0 then s.flag (2 + die) Reg.hbmcStatus 5 else s
  let s := { s with dram := { s.dram with lanes := s.dram.lanes ++ [(l.1, l.2.1 * 16 + l.2.2.1, l.2.2.2)] } }
  (s.updSpare fun r => { r with lanes := r.lanes ++ [l] }).logSubst (2 + die) 0x0A l.2.2.2 (l.2.1 * 256 + l.2.2.1)

/-- The RETRAINING bits follow the channels that train (R327, R328). -/
def State.showTraining (s : State) : State :=
  [0, 1, 2, 3].foldl (fun s d =>
    [0, 1].foldl (fun s tier =>
      let busy := s.dram.window || s.dram.training.any (fun t => t.1 = tier && trainDie tier t.2.1 = d)
      if busy then s.flag (2 + d) (tierStatus tier) 6 else s.clearReg (2 + d) (tierStatus tier) 0x40) s) s

/-- Acceptance is suspended while a channel or a port retrains (R396). -/
def State.showSuspended (s : State) : State :=
  if s.adm.chanSince.isSome || s.adm.portSince.isSome then s.flag 6 Reg.auStatus 3 else s.clearReg 6 Reg.auStatus 8

/-- Every promise in flight is broken with a class and a bound raised by `ns`; a job of more than one module is told
(R321, R322, R346, R353). -/
def State.breakAll (s : State) (cls ns : Nat) : State :=
  let s := s.breakFrames cls s.curStep ((s.adm.frames.filter fun f => f.inFlight).map fun f => (f.id, f.bound + ns))
  let s := { s with adm := { s.adm with steps := s.adm.steps.map fun (a : AdmStep) =>
    (if s.curStep ≤ a.step then a.later ns else a) } }
  if s.modules ≤ 1 then s
  else
    let step := s.curStep % 0x10000000000
    let old := if s.fab.seen.1 = step then s.fab.seen else (step, 0, 0)
    ({ s with fab := { s.fab with seen := (step, old.2.1, old.2.2 + ns) } } : State).post true s.curStep ns cls .delay

/-- The module time of the next maintenance window's start (R320). -/
def State.nextWindow (s : State) : Nat :=
  let off := s.odNat (od 0x2400 8) * 1000
  let per := max 1 (s.odNat (od 0x2400 7) * 1000)
  if s.time < off then off else off + ((s.time - off) / per + 1) * per

/-- A channel's trigger: it is deferred, joins the retrain in progress, or starts one (R321, R322). -/
def State.retrainTrigger (s : State) (tier chan : Nat) (deferrable : Bool) : State :=
  let known := s.dram.window || s.dram.training.any fun t => t.1 = tier && t.2.1 = chan
  let near := decide (s.nextWindow - s.time ≤ s.odNat (od 0x2400 0x0A) * 1000) && decide (s.odNat (od 0x2400 0x0A) ≠ 0)
  if known then s
  else if deferrable && near then
    if s.dram.deferred.contains (tier, chan) then s
    else { s with dram := { s.dram with deferred := s.dram.deferred ++ [(tier, chan)] } }
  else
    let join := !s.dram.training.isEmpty
    let rise := if join then s.time - s.dram.latest else 21000
    let s := { s with dram := { s.dram with
      training := s.dram.training ++ [(tier, chan, s.time)], latest := s.time
      deferred := s.dram.deferred.filter fun d => d ≠ (tier, chan) } }
    let s := if join then s else { s with adm := { s.adm with chanSince := some s.time } }
    (s.breakAll 1 rise).showTraining.showSuspended

/-! ### Uncorrectable errors (R302, R311, R312, R314, R321) -/

/-- The number under which a unit's channel trains. -/
def Place.trainChan (p : Place) : Nat := if p.tier = 0 then p.chan % 12 * 16 + p.chan / 24 else p.chan

/-- A read of a sector returns an uncorrectable error, fresh or since the sector is poisoned: it is counted, the sector holds
poison, and its row fails (R311, R314). A retrain
of its channel that was deferred starts at once (R321). -/
def State.uncorrectableError (s : State) (sector : Nat) : State :=
  let p := placeOf (64 * sector)
  let die := 2 + chanDie p.tier p.chan
  let s := if p.tier = 0 then
      (s.flagCount die Reg.hbmcStatus 1 Reg.hbmcUeCount 1).bump die Reg.hbmcPoisonCount 1
    else
      ((s.flag die Reg.benchStatus 1).flagCount die Reg.benchStatus 2 Reg.benchPoisonCount 1).bump die Reg.benchUeCount 1
  let s := s.errLoc 2 p
  let s := if s.dram.poison.contains sector then s
    else { s with dram := { s.dram with poison := s.dram.poison ++ [sector] } }
  let s := s.rowFails p
  if s.dram.deferred.contains (p.tier, p.trainChan) then s.retrainTrigger p.tier p.trainChan false else s

/-- The poisoned sectors of a range. -/
def State.poisonIn (s : State) (a n : Nat) : List Nat := s.dram.poison.filter fun q => q * 64 < a + n && a < q * 64 + 64

/-- A read meets every poisoned sector of its range (R311). -/
def State.meetPoison (s : State) (a n : Nat) : State := (s.poisonIn a n).foldl State.uncorrectableError s

/-- An uncorrectable error in data of an admitted phase (R312). -/
def State.memoryFault (s : State) (phase : Bool) : State := if phase then s.jobFault 4 (some 0) else s

/-- Does a read of a range end in an error: poison in it, or an offset that is not mapped, whose address error its requester
treats as an uncorrectable memory error (R302, R311)? -/
def State.readFails (s : State) (a n : Nat) : Bool := s.poisoned a n || !s.mappedRange a n

/-- What an engine's read of a range for an admitted phase does where it fails (R302, R311, R312). -/
def State.failRead (s : State) (a n : Nat) : State := (s.meetPoison a n).memoryFault true

/-! ### Requests that wait (R305, R306, R320, R321) -/

/-- Is a controller of either tier held (R445, R449, R450)? -/
def State.anyMemHeld (s : State) : Bool := [2, 3, 4, 5].any fun d => s.held d 10 || s.held d 11

/-- Does a channel of the range train, or is its controller held (R320, R321, R445)? Units that follow one another repeat their channels
after 384 at most. -/
def State.chanBusy (s : State) (a n : Nat) : Bool :=
  (a < 0x6C00000000 || (0x10000000000 ≤ a && a < 0x20000000000))
    && (s.dram.window || ((s.anyMemHeld || !s.dram.training.isEmpty) &&
      (List.range (min 384 ((a + n - 1) / 256 + 1 - a / 256))).any fun k =>
        let p := placeOf ((a / 256 + k) * 256)
        s.held (2 + chanDie p.tier p.chan) (10 + p.tier) || s.dram.training.any fun t => t.1 = p.tier && t.2.1 = p.trainChan))

/-- Bytes that a request covers, and whether it writes them. -/
def MemReq.size (r : MemReq) : Nat := match r.write with | some b => b.length | none => r.len
def MemReq.writes (r : MemReq) : Bool :=
  r.write.isSome || match r.work with | .addI64 _ _ _ => true | .addF32 _ _ _ => true | _ => false

/-- The ranges of this node's memory that a request touches: address, bytes, whether it writes. -/
def MemReq.spans (r : MemReq) : List (Nat × Nat × Bool) :=
  (r.addr, r.size, r.writes) :: match r.work with | .copy _ _ dst true => [(dst % 0x200000000000, r.len, true)] | _ => []

/-- Do ranges touch the same 32 bytes, one of them writing (R306)? -/
def spansMeet (x y : Nat × Nat × Bool) : Bool :=
  (x.2.2 || y.2.2) && decide (x.1 / 32 * 32 < y.1 + y.2.1) && decide (y.1 / 32 * 32 < x.1 + x.2.1)

/-- Requests that touch the same 32 bytes, one of them writing, keep their order (R306). -/
def MemReq.meets (a b : MemReq) : Bool := a.spans.any fun x => b.spans.any fun y => spansMeet x y

/-- Do accesses to ranges wait: for a channel that trains, or behind a request that they must not pass? -/
def State.spansWait (s : State) (xs : List (Nat × Nat × Bool)) : Bool :=
  xs.any (fun x => s.chanBusy x.1 x.2.1) || s.dram.queue.any fun q => q.spans.any fun y => xs.any fun x => spansMeet x y

/-- An engine's write of class 2: it waits where it must (R305, R306, R320). -/
def State.storeSoon (s : State) (a : Nat) (bs : Bytes) : State :=
  if bs.isEmpty || !s.spansWait [(a, bs.length, true)] then s.store a bs
  else { s with dram := { s.dram with queue := s.dram.queue ++ [MemReq.mk 2 a (some bs) 0 false false false .own] } }

/-- The regions that the end of a step reads and writes: the directory, the row pools, the journals, the carries, the kept gradients and
the history (R246, R258, R287, R291, R294, R295). -/
def State.stepSpans (s : State) : List (Nat × Nat × Bool) :=
  let n := fun k => s.odNat k
  [(n (od 0x2200 0x10), n (od 0x2200 0x11), true), (n (od 0x2200 0x14), n (od 0x2200 0x15), true),
   (n (od 0x2200 0x16), n (od 0x2200 0x17), true), (n (od 0x2300 0x10), 4 * n (od 0x2300 0x11), true),
   (n (od 0x2300 0x12), if s.pins.isEmpty then 0 else 0x9000000, true), (n (od 0x2300 0x13), n (od 0x2300 0x17), true),
   (n (od 0x2100 0x12), 0x1000000, true)].filter fun x => x.2.1 ≠ 0

/-- Does the end of a step wait for memory (R320, R321)? Its commands come when its accesses are done (log 12). -/
def State.stepWaits (s : State) : Bool := s.spansWait s.stepSpans

/-- Carried sums that were restored from poisoned memory are a memory fault of the step that takes them (R311, R312). -/
def State.metCarries (s : State) (step : Nat) : State :=
  s.pins.foldl (fun s p =>
    let a := s.carryAt ((step + 1) % 2) p.1 p.2.2
    let v := (s.fret p.1).voicing
    let n := 4 * (v.m * v.n)
    if step ≠ 0 && s.upd.carried.contains ((step + 1) % 2, p.1, p.2.2) && s.poisoned a n then s.failRead a n else s) s

end Sys2Proof.Machine
end

