-- ==== Sys2Proof/Machine/Operands.lean ====
section
/-! DEFINITION. Operands of the sequencer's operations: the operation at the program counter, loops and effective
operands, sources and destinations, the capo, the activation stack's lanes and records (R91 to R97, R103 to R106,
R132, R160, R181 to R194, R197 to R200). -/

namespace Sys2Proof.Machine

/-! ### Issue, loops, effective operands -/

/-- The operation that the sequencer can issue next: the fret runs, nothing stalls it (R103). A program whose last
operation is neither HALT nor SWITCH runs off its end: the fret goes on running and issues nothing (DESIGN CHOICE, log 31:
the manual gives no effect). -/
def Fret.next (f : Fret) : Option Nat :=
  if f.run = 1 && f.active < 2 && f.stall = .none && f.pc < f.voicing.seqLen then some (seqWord f.aimg f.pc) else none

/-- The operation, when its opcode is `op`. -/
def Fret.nextIs (f : Fret) (op : Nat) : Option Nat :=
  match f.next with
  | some w => if opcode w = op then some w else none
  | none => none

/-- The blocks of its die that an operation needs (R423). -/
def opBlocks (op : Nat) : List Nat :=
  match op with
  | 1 => [0, 4] | 3 => [0, 1, 4] | 4 => [0, 3] | 5 => [0, 5] | 8 => [0, 2] | 9 => [0, 4] | 0x0A => [0, 3] | _ => [0]

/-- The operation at a fret's program counter, when its opcode is `op` and no block that it needs is held: for PUSH the stack engine too
(R186, R445). -/
def State.nextIs (s : State) (i op : Nat) : Option Nat :=
  if ((opBlocks op).any fun b => s.held (i / 384) b) || (op = 9 && s.held (2 + stackDie i) 7) then none else (s.fret i).nextIs op

/-- Leave or repeat the bodies that end at `pc` (R104). -/
def closeLoops (loops : List LoopFrame) (pc : Nat) : List LoopFrame × Nat :=
  match loops with
  | [] => ([], pc)
  | l :: rest =>
    if pc = l.start + l.len then
      if l.iter + 1 < l.count then ({ l with iter := l.iter + 1 } :: rest, l.start) else closeLoops rest pc
    else (l :: rest, pc)

/-- Go on to the next operation. -/
def Fret.goto (f : Fret) (pc : Nat) : Fret :=
  let r := closeLoops f.loops pc
  { f with loops := r.1, pc := r.2 }
/-- The operation was issued. -/
def Fret.advance (f : Fret) : Fret := f.goto (f.pc + 1)

/-- Enter a LOOP (R104, R105). -/
def Fret.enterLoop (f : Fret) (w : Nat) : Fret :=
  let c := bits w 31 0
  let n := if c = 0xFFFFFFFF then ceilDiv f.delivered f.quantum else c
  let len := bits w 39 32
  if n = 0 then f.goto (f.pc + 1 + len)
  else { f with pc := f.pc + 1
                loops := ⟨f.pc + 1, len, n, 0, bits w 55 48, bits w 47 40⟩ :: f.loops }

/-- The added SRAM offset and block offset of an operation with its hold bit (R106). -/
def Fret.strides (f : Fret) (w : Nat) : Nat × Nat :=
  if w % 2 = 1 then (0, 0)
  else ((f.loops.map fun l => l.iter * l.sramStride * 256).sum, (f.loops.map fun l => l.iter * l.loadStride).sum)
/-- An effective operand SRAM offset (R106). -/
def Fret.sramOff (f : Fret) (w off : Nat) : Nat := (off + (f.strides w).1) % 262144

/-! ### Stack lanes (R181 to R184) -/

/-- A lane's shares: HBM base and size, bench base and size. -/
def State.laneShares (s : State) (i : Nat) : Nat × Nat × Nat × Nat :=
  let map := s.odBytes (od 0x2400 0x14)
  let hb := s.odNat (od 0x2400 0x11)
  let bb := s.odNat (od 0x2400 0x12)
  if map.isEmpty then
    let h := s.odNat (od 0x2400 0x10) / (768 * 65536) * 65536
    let b := s.odNat (od 0x2400 0x13) / (768 * 65536) * 65536
    (hb + i * h, h, bb + i * b, b)
  else
    let u := fun k o => leAt map (8 * k + o) 4 * 65536
    (hb + ((List.range i).map fun k => u k 0).sum, u i 0, bb + ((List.range i).map fun k => u k 4).sum, u i 4)

/-- The local address of a lane offset (R182). -/
def State.laneAddr (s : State) (i o : Nat) : Nat :=
  let sh := s.laneShares i
  if o < sh.2.1 then sh.1 + o else sh.2.2.1 + (o - sh.2.1)

/-- A record's bytes (R184). -/
def State.laneRecord (s : State) (i : Nat) (r : Nat × Nat) : Bytes := s.readMem (s.laneAddr i r.1) r.2

/-- The registers of a lane's memory-side die. -/
def laneDie (i : Nat) : Nat := 2 + stackDie i

/-- A stack fault (R194): flag, count, frets of both dies stopped, promises broken, vote cast. -/
def State.stackFault (s : State) (i bit : Nat) : State :=
  let d := laneDie i
  let s := (s.flag d Reg.stackStatus bit).bump d Reg.stackFaultCount 1
  (s.stopFrets [0, 1]).jobFault 3 (some 0)

/-- Staging a record meets an uncorrectable error: one that its sectors hold, or a fresh one in its first sector (R194, R302,
R311). -/
def State.laneError (s : State) (i : Nat) (r : Nat × Nat) : State :=
  let a := s.laneAddr i r.1
  let s := if s.poisoned a r.2 then s.meetPoison a r.2
    else if s.mappedRange a r.2 then s.uncorrectableError (a / 64) else s
  s.stackFault i 1

/-- An operation whose staged source fails (R194). -/
def State.stagedError (s : State) (i : Nat) : State :=
  match (s.lane i).recs with
  | r :: _ => s.laneError i r
  | [] => s.stackFault i 1

/-- The frame's step and micro-batch, or what R71 gives a phase that no frame runs. -/
def State.frameOf (s : State) (f : Fret) : Nat × Nat := f.frame.getD (s.curStep, 0)

/-- Push a record's payload on a fret's lane (R182 to R190): blocking, rows, and the parts' bytes. The row_bytes of a RAW record
are its payload's (DESIGN CHOICE, log 31: the manual names the ROW part only). -/
def State.pushRecord (s : State) (i blocking rows : Nat) (fmt : Nat) (row col : Bytes) : State :=
  let f := s.fret i
  let v := f.voicing
  let fr := s.frameOf f
  let l := s.lane i
  let sh := s.laneShares i
  let rb := row.length
  let cb := col.length
  let payload := if blocking = 2 then pad64 row ++ col else row ++ col
  let size := roundUp (64 + payload.length) 256
  let top := match l.recs with | [] => 0 | r :: _ => r.1 + r.2
  let o := if top < sh.2.1 && sh.2.1 < top + size then sh.2.1 else top
  let d := laneDie i
  if sh.2.1 + sh.2.2.2 < o + size then (s.flag d Reg.stackStatus 2).stackFault i 0
  else
    let prev := match l.recs with | [] => 0xFFFFFFFF | r :: _ => r.1 / 256
    let h := u16 0x5354 ++ u8 1 ++ u8 blocking ++ u16 v.vid ++ u16 v.layer ++ u8 v.tensor ++ u8 v.pass ++ u8 fr.2
      ++ u8 fmt ++ u16 rows ++ u16 v.n ++ u64 fr.1 ++ u32 prev ++ u32 l.pushes ++ u32 (if blocking = 3 then payload.length else rb)
      ++ u32 cb ++ u32 size ++ u32 0
    let rec' := h ++ u32 (crc32 (h ++ payload)).toNat ++ zeroBytes 12 ++ payload
    let s := s.storeSoon (s.laneAddr i o) (padTo size rec')
    let s := s.setLane i { l with recs := (o, size) :: l.recs, pushes := l.pushes + 1, staged := 0
                                  high := max l.high (o + size) }
    let s := s.setReg d Reg.stackPushBytes (s.reg d Reg.stackPushBytes + size)
    if o < sh.2.1 then s
    else (s.flag d Reg.stackStatus 4).setReg d Reg.stackSpillBytes (s.reg d Reg.stackSpillBytes + size)

/-- The bytes of a tile's planes, as they pass on a link. -/
def Tile.bytes (t : Tile) : Bytes :=
  if Fmt.isBlock t.fmt then
    if t.fmt = 10 then pad64 (pad64 t.plane ++ t.scales) ++ t.zeros else pad64 t.plane ++ t.scales
  else t.plane

/-! ### The capo (R96, R197 to R200) -/

/-- A decoded element of a stored tile: its value, whether its block's scale is 0xFF, whether decoding saturated, and
whether its code was N2's reserved one (R42, R66). -/
structure Decoded where
  val : F32
  nan : Bool
  sat : Bool
  n2 : Bool
  deriving DecidableEq, Repr

/-- What a re-blocking gave: the tile, the blocks formed, the inexact elements, blocks with scale 0xFF, and what its
decoding met (R42, R66). -/
structure Reblock where
  tile : Tile
  blocks : Nat
  inexact : Nat
  nonfin : Nat
  sat : Nat
  n2 : Nat

/-- A tile that passes without re-blocking (R197). -/
def Reblock.plain (t : Tile) : Reblock := ⟨t, 0, 0, 0, 0, 0⟩

/-- One new block: the codes, scale, zero point, and how many elements are inexact (R199): under scale 0xFF every element
reads as NaN, so those that did not already are inexact (R200). An element −0, which +0 takes the place of (R40), counts as inexact:
values are compared as FP32 words (DESIGN CHOICE, log 31). -/
def reblockOne (fmt : Nat) (vals : List Decoded) : Fmt.Block × Nat :=
  let xs := vals.map (·.val)
  if vals.any (·.nan) then
    ({ codes := List.replicate 32 0, scale := 0xFF, zero := if fmt = 10 then (Config.nanZero xs).toNat else 0
       stat := ConvStat.empty }, (vals.filter fun x => !x.nan).length)
  else
    let b := Fmt.encBlock fmt 0 none (fun _ => 0) 0 xs
    let bad := (List.range xs.length).filter fun k =>
      (Fmt.decode fmt (b.codes.getD k 0) b.scale b.zero).1 ≠ xs.getD k 0
    (b, bad.length)

/-- A stored element of a tile by line and position. -/
def Tile.at' (t : Tile) (line pos : Nat) : Decoded :=
  let blk := line * t.blocks + pos / 32
  let sc := (t.scales.getD blk 0).toNat
  let code := Fmt.planeCode t.plane (Fmt.width t.fmt) (blk * 32 + pos % 32)
  let r := Fmt.decode t.fmt code sc (Fmt.planeCode t.zeros 4 blk)
  ⟨r.1, sc = 0xFF, r.2, t.fmt = 9 && code = 2⟩

/-- Transpose and re-block a stored tile into `lines` lines of `blocks` blocks (R199, R200). -/
def reblock (t : Tile) (lines blocks : Nat) : Reblock :=
  if Fmt.isBlock t.fmt then
    let src := (List.range lines).flatMap fun i => (List.range blocks).map fun j =>
      (List.range 32).filterMap fun k => if 32 * j + k < t.lines then some (t.at' (32 * j + k) i) else none
    let bs := src.map (reblockOne t.fmt)
    let enc := encodeTile t.fmt (bs.map (·.1))
    { tile := Tile.of t.fmt lines blocks enc, blocks := bs.length, inexact := (bs.map (·.2)).sum
      nonfin := (bs.filter fun b => b.1.scale = 0xFF).length
      sat := (src.flatten.filter (·.sat)).length, n2 := (src.flatten.filter (·.n2)).length }
  else
    let w := Fmt.width t.fmt
    let codes := (List.range lines).flatMap fun i => (List.range (32 * blocks)).map fun k =>
      if k < t.lines then Fmt.planeCode t.plane w (k * t.blocks * 32 + i) else 0
    Reblock.plain ⟨t.fmt, lines, blocks, Fmt.packCodes w codes, [], []⟩

/-- Count a tile that passed a capo, what its decoding met, and add to the die's phase (R42, R66, R75, R200, R209). -/
def State.countCapo (s : State) (i path : Nat) (r : Reblock) : State :=
  let d := i / 384
  let s := if path = 0 then s else s.bump d Reg.capoTransCount 1
  if r.blocks = 0 then s
  else
    let s := ((s.flag d Reg.capoStatus 0).bump d Reg.capoReblockBlockCount r.blocks).bump d Reg.capoReblockInexactCount r.inexact
    let s := if r.nonfin = 0 then s else s.flag d Reg.capoStatus 1
    let s := s.flagCount d Reg.convStatus 4 Reg.convDecodeSatCount r.sat
    let s := s.flagCount d Reg.convStatus 3 Reg.convN2RsvdCount r.n2
    let add := fun (p : DiePhase) => { p with blocks := p.blocks + r.blocks, inexact := p.inexact + r.inexact }
    s.updBoard fun b => { b with phases := b.phases.map fun p => if p.runs i then add p else p }

/-- The dice key of a conversion by a fret (R69 to R71). -/
def State.diceKey (s : State) (f : Fret) (tensor : Nat) : W64 :=
  let v := f.voicing
  let fr := s.frameOf f
  Dice.tensorKey (BitVec.ofNat 64 (s.odNat (od 0x2100 0x0B))) (BitVec.ofNat 64 fr.1)
    (Dice.keyWord v.layer tensor fr.2 v.pass v.scope s.node)

/-! ### Sources (R93, R191 to R193) -/

/-- What an operation's source gives: the bytes it needs are there, they are not there yet, or the operation ended in
a fault of the job. -/
inductive Source where
  | got (s : State) (tile : Tile)
  | notYet (s : State)
  | failed (s : State)

/-- Take `n` bytes of an arrival queue that `supply` joins; none while they are too few. -/
def takeQueue (q supply : Bytes) (n : Nat) : Option (Bytes × Bytes) := takeExact n (q ++ supply)

/-- Take bytes from an arrival queue of a fret by source code 1 to 6 (R93). -/
def Fret.takeIn (f : Fret) (src : Nat) (supply : Bytes) (n : Nat) : Option (Bytes × Fret) :=
  match src with
  | 1 => (takeQueue f.inN supply n).map fun p => (p.1, { f with inN := p.2 })
  | 2 => (takeQueue f.inE supply n).map fun p => (p.1, { f with inE := p.2 })
  | 3 => (takeQueue f.inS supply n).map fun p => (p.1, { f with inS := p.2 })
  | 4 => (takeQueue f.inW supply n).map fun p => (p.1, { f with inW := p.2 })
  | 5 => (takeQueue f.inRow supply n).map fun p => (p.1, { f with inRow := p.2 })
  | _ => (takeQueue f.inCol supply n).map fun p => (p.1, { f with inCol := p.2 })

/-- A record's fields (R184). -/
structure Record where
  blocking : Nat
  fmt : Nat
  rows : Nat
  cols : Nat
  step : Nat
  rowPart : Bytes
  colPart : Bytes
  ok : Bool
  crcOk : Bool
  deriving DecidableEq, Repr

/-- Read a record. -/
def Record.of (b : Bytes) : Record :=
  let rb := leAt b 32 4
  let cb := leAt b 36 4
  let bl := leAt b 3 1
  let colAt := 64 + if bl = 2 then roundUp rb 64 else rb
  let payload := if bl = 2 then roundUp rb 64 + cb else rb + cb
  { blocking := bl, fmt := leAt b 11 1, rows := leAt b 12 2, cols := leAt b 14 2, step := leAt b 16 8
    rowPart := byteSlice b 64 rb, colPart := byteSlice b colAt cb
    ok := leAt b 0 2 = 0x5354 && leAt b 2 1 = 1
    crcOk := (crc32 (b.take 48 ++ byteSlice b 64 payload)).toNat = leAt b 48 4 }

/-- Draw the lane's top record (R192, R193). A RECV stores what the capo delivers, which a re-blocking can make longer
than the byte count that it checks (DEDUCED, log 31). `loadb` says that the operation reduces over the rows; `lines` and `blocks`
are the delivered tile's; `bytes` is a RECV's count. -/
def State.drawRecord (s : State) (i path : Nat) (loadb : Bool) (lines blocks : Nat) (bytes : Option Nat) : Source :=
  let l := s.lane i
  match l.recs with
  | [] => .notYet s
  | top :: below =>
    if l.staged = 0 then .notYet (s.setLane i { l with asked := true })
    else
      let raw := s.laneRecord i top
      let r := Record.of raw
      let useRow := if loadb then path = 1 else path ≠ 1
      let useRow := if r.blocking = 2 && path = 2 then !useRow else useRow
      let part := if useRow then r.rowPart else r.colPart
      let stored := if useRow then Tile.of r.fmt r.rows (ceilDiv r.cols 32) part
        else Tile.of r.fmt r.cols (ceilDiv r.rows 32) part
      let trans := path = 2 && r.blocking ≠ 2
      let sizeOk := match bytes with
        | some n => part.length = n
        | none =>
          if trans then stored.lines ≤ 32 * blocks && 32 * (blocks - 1) < stored.lines && lines ≤ 32 * stored.blocks
            && 32 * (stored.blocks - 1) < lines && part.length = tileBytes r.fmt stored.lines stored.blocks
          else part.length = tileBytes r.fmt lines blocks
      if !r.crcOk then .failed (s.stackFault i 1)
      else if !(r.ok && r.step = (s.frameOf (s.fret i)).1 && !part.isEmpty && sizeOk
          && (r.blocking ≠ 3 || (bytes.isSome && path = 0))) then .failed (s.stackFault i 0)
      else
        let kept := if l.mark.isSome then (top.1, raw) :: l.kept else l.kept
        let s := s.setLane i { l with recs := below, staged := l.staged - 1, asked := !below.isEmpty, kept := kept
                                      pushes := if below.isEmpty then 0 else l.pushes }
        if trans then
          let nl := match bytes with | some _ => (if useRow then r.cols else r.rows) | none => lines
          let nb := match bytes with | some _ => ceilDiv stored.lines 32 | none => blocks
          let re := reblock stored nl nb
          match bytes with
          | some _ => .got (s.countCapo i path re) { Tile.empty with plane := re.tile.bytes }
          | none => .got (s.countCapo i path re) re.tile
        else
          let t := match bytes with
            | some _ => { Tile.empty with plane := part }
            | none => Tile.of r.fmt lines blocks part
          .got (s.countCapo i path (Reblock.plain t)) t

/-! ### Destinations (R93 to R95) -/

/-- The fret's place: column and row. -/
def fretCol (i : Nat) : Nat := i % 384 / 24
def fretRow (i : Nat) : Nat := i % 24

/-- Append arriving bytes: 1 from the north … 4 from the west, 5 row bus, 6 column bus. -/
def Fret.arrive (f : Fret) (src : Nat) (bs : Bytes) : Fret :=
  match src with
  | 1 => { f with inN := f.inN ++ bs }
  | 2 => { f with inE := f.inE ++ bs }
  | 3 => { f with inS := f.inS ++ bs }
  | 4 => { f with inW := f.inW ++ bs }
  | 5 => { f with inRow := f.inRow ++ bs }
  | _ => { f with inCol := f.inCol ++ bs }

/-- Drive the row bus: every other fret of the logical row and die receives the bytes. -/
def State.driveRow (s : State) (i : Nat) (bs : Bytes) : State :=
  (List.range 16).foldl (fun s c =>
    let j := i / 384 * 384 + c * 24 + fretRow i
    if j = i then s else s.updFret j (·.arrive 5 bs)) s
/-- Drive the column bus. -/
def State.driveCol (s : State) (i : Nat) (bs : Bytes) : State :=
  (List.range 24).foldl (fun s r =>
    let j := i / 384 * 384 + fretCol i * 24 + r
    if j = i then s else s.updFret j (·.arrive 6 bs)) s

/-- Pass bytes to the neighbours named by pass_out: bit 0 north, 1 east, 2 south, 3 west (R94, R99). -/
def State.passOn (s : State) (i mask : Nat) (bs : Bytes) : State :=
  let go := fun (s : State) (bit : Nat) (ok : Bool) (j src : Nat) =>
    if (mask >>> bit) % 2 = 1 && ok then s.updFret j (·.arrive src bs) else s
  let s := go s 0 (decide (0 < fretRow i)) (i - 1) 3
  let s := go s 1 (decide (fretCol i < 15)) (i + 24) 4
  let s := go s 2 (decide (fretRow i < 23)) (i + 1) 1
  go s 3 (decide (0 < fretCol i)) (i - 24) 2

/-- Send bytes to a destination of CONV or SEND other than the stack (R104). -/
def State.deliver (s : State) (i dst off : Nat) (bs : Bytes) : State :=
  match dst with
  | 0 => s.updFret i (·.writeSram off bs)
  | 1 => s.driveRow i bs
  | 2 => s.driveCol i bs
  | _ => s.passOn i (s.fret i).voicing.passOut bs

end Sys2Proof.Machine
end

