-- ==== Sys2Proof/Machine/Rules.lean ====
section
/-! DEFINITION. The update rules and their arithmetic (R272 to R281). -/

namespace Sys2Proof.Machine

/-- Transpose a list of rows of `n` values. -/
def transpose (n : Nat) (rows : List (List F32)) : List (List F32) :=
  (List.range n).map fun c => rows.map fun r => r.getD c 0

/-- A sum of squares. -/
def sumSquares (xs : List F32) : F32 := xs.foldl (fun a x => Fp.add a (Fp.mul x x)) 0#32

/-- A rule set (R276). -/
structure Rule where
  rule : Nat
  lr : F32
  wd : F32
  b1 : F32
  b2 : F32
  eps : F32
  l1 : F32
  l2 : F32
  alpha : F32
  beta : F32
  deriving DecidableEq, Repr

/-- An FP32 value at an offset. -/
def f32At (b : Bytes) (o : Nat) : F32 := BitVec.ofNat 32 (leAt b o 4)

/-- Read a rule set. -/
def Rule.of (b : Bytes) : Rule :=
  { rule := leAt b 0 1, lr := f32At b 4, wd := f32At b 8, b1 := f32At b 12, b2 := f32At b 16, eps := f32At b 20
    l1 := f32At b 24, l2 := f32At b 28, alpha := f32At b 32, beta := f32At b 36 }

/-- A rule set of the dictionary. -/
def State.ruleSet (s : State) (k : Nat) : Rule := Rule.of (byteSlice (s.odBytes (od 0x2300 2)) (64 * k) 64)

/-- Which state a rule keeps for R rows (R277, R280). -/
def Rule.hasM (q : Rule) : Bool := q.rule = 1 || q.rule = 3 || q.rule = 4 || q.rule = 5
def Rule.hasR (q : Rule) (rows : Nat) : Bool := (q.rule = 2 || q.rule = 3 || q.rule = 5) && decide (1 < rows)
def Rule.hasC (q : Rule) (rows : Nat) : Bool := q.rule = 3 || ((q.rule = 2 || q.rule = 5) && rows = 1)

/-- The state_bytes that a table of the rule must have (R277). -/
def Rule.rowState (q : Rule) (dim : Nat) : Nat :=
  (if q.hasM then 25 * (dim / 32) else 0) + if q.rule = 2 || q.rule = 3 || q.rule = 5 then 1 else 0

/-! ### The learning rate (R278) -/

/-- The schedule's points. -/
def State.points (s : State) : List (Nat × F32) :=
  (chunks 16 (s.odBytes (od 0x2300 4))).map fun b => (leAt b 0 8, f32At b 8)

/-- The factor between points in ascending order. -/
def factorIn (step : Nat) : List (Nat × F32) → F32
  | [] => Fp.one
  | [p] => p.2
  | p :: q :: t =>
    if step < q.1 then
      Fp.add p.2 (Fp.mul (Fp.sub q.2 p.2) (Fp.div (Fp.ofNat (step - p.1)) (Fp.ofNat (q.1 - p.1))))
    else factorIn step (q :: t)

/-- f(s). -/
def State.factor (s : State) (step : Nat) : F32 :=
  match s.points with
  | [] => Fp.one
  | p :: t => if step ≤ p.1 then p.2 else factorIn step (p :: t)

/-- lr_t of a rule set. -/
def State.rate (s : State) (q : Rule) (step : Nat) : F32 := Fp.mul q.lr (s.factor step)

/-! ### The rules (R279, R280) -/

/-- Multiply by 2^k, rounded once with RNE (R279, R221). -/
def scaleRne (k : Int) (x : F32) : F32 := Fp.pack (Fp.scale k (Fp.unpack x))

/-- sgn of R280. -/
def sgn (x : F32) : F32 :=
  if Fp.isNaN x then Config.sgnNaN else if Fp.isZero x then 0#32 else if Fp.sign x then Fp.negate Fp.one else Fp.one

/-- The optimiser state of a tensor: first moment by rows, row and column vectors, running products. -/
structure OptState where
  m : List (List F32)
  r : List F32
  c : List F32
  p1 : F32
  p2 : F32
  deriving DecidableEq, Repr

/-- Combine two matrices, or three. -/
def zip2 (f : F32 → F32 → F32) (a b : List (List F32)) : List (List F32) := List.zipWith (List.zipWith f) a b
def zip3 (f : F32 → F32 → F32 → F32) (a b c : List (List F32)) : List (List F32) :=
  List.zipWith (fun x y => x y) (List.zipWith (fun ra rb rc =>
    List.zipWith (fun p z => f p.1 p.2 z) (ra.zip rb) rc) a b) c

/-- w − lr_t × (d + wd × w). -/
def Rule.stepW (q : Rule) (lr w d : F32) : F32 := Fp.sub w (Fp.mul lr (Fp.add d (Fp.mul q.wd w)))

/-- a × x + b × y. -/
def mix2 (a x b y : F32) : F32 := Fp.add (Fp.mul a x) (Fp.mul b y)

/-- FTRL-Proximal's z, and its new weight. -/
def Rule.ftrlZ (q : Rule) (n n1 z g w : F32) : F32 :=
  Fp.sub (Fp.add z g) (Fp.mul (Fp.div (Fp.sub (Fp.sqrt n1) (Fp.sqrt n)) q.alpha) w)
def Rule.ftrlW (q : Rule) (n1 z : F32) : F32 :=
  if Fp.le (Fp.abs z) q.l1 then 0#32
  else Fp.div (Fp.sub (Fp.mul (sgn z) q.l1) z) (Fp.add (Fp.div (Fp.add q.beta (Fp.sqrt n1)) q.alpha) q.l2)

/-- A vector's value for every element: by row, or by column when there is one row. -/
def spread (rows cols : Nat) (r c : List F32) : List (List F32) :=
  if rows = 1 then [c] else r.map fun x => List.replicate cols x

/-- AdamW on a dense tensor. -/
def Rule.adamw (q : Rule) (lr : F32) (rows cols : Nat) (w g : List (List F32)) (st : OptState) :
    List (List F32) × OptState :=
  let om1 := Fp.sub Fp.one q.b1
  let om2 := Fp.sub Fp.one q.b2
  let invR := Fp.div Fp.one (Fp.ofNat rows)
  let invC := Fp.div Fp.one (Fp.ofNat cols)
  let p1 := Fp.mul st.p1 q.b1
  let p2 := Fp.mul st.p2 q.b2
  let bc1 := Fp.sub Fp.one p1
  let bc2 := Fp.sub Fp.one p2
  let cs := (transpose cols g).map sumSquares
  let r := if rows = 1 then st.r
    else List.zipWith (fun r x => mix2 q.b2 r om2 (Fp.mul x invC)) st.r (g.map sumSquares)
  let c := List.zipWith (fun c x => mix2 q.b2 c om2 (Fp.mul x invR)) st.c cs
  let rm := Fp.mul (r.foldl Fp.add 0#32) invR
  let v := if rows = 1 then [c]
    else r.map fun x => c.map fun y => if Fp.isZero rm then 0#32 else Fp.div (Fp.mul x y) rm
  let m := zip2 (fun m g => mix2 q.b1 m om1 g) st.m g
  let w' := zip3 (fun w m v =>
    q.stepW lr w (Fp.div (Fp.div m bc1) (Fp.add (Fp.sqrt (Fp.div v bc2)) q.eps))) w m v
  (w', ⟨m, r, c, p1, p2⟩)

/-- The rule on a dense tensor: new weights and new state (R280). -/
def Rule.dense (q : Rule) (lr : F32) (rows cols : Nat) (w g : List (List F32)) (st : OptState) :
    List (List F32) × OptState :=
  let invC := Fp.div Fp.one (Fp.ofNat cols)
  let rowSums := List.zipWith (fun r x => Fp.add r (Fp.mul x invC)) st.r (g.map sumSquares)
  let colSums := List.zipWith (fun c x => Fp.add c (Fp.mul x x)) st.c (g.headD [])
  match q.rule with
  | 0 => (zip2 (q.stepW lr) w g, st)
  | 1 =>
    let m := zip2 (fun m g => Fp.add (Fp.mul q.b1 m) g) st.m g
    (zip2 (q.stepW lr) w m, { st with m := m })
  | 2 =>
    let r := if rows = 1 then st.r else rowSums
    let c := if rows = 1 then colSums else st.c
    (zip3 (fun w g a => q.stepW lr w (Fp.div g (Fp.add (Fp.sqrt a) q.eps))) w g (spread rows cols r c),
      { st with r := r, c := c })
  | 3 => q.adamw lr rows cols w g st
  | 4 =>
    let k := zip2 (fun m g => mix2 q.b1 m (Fp.sub Fp.one q.b1) g) st.m g
    (zip2 (fun w k => q.stepW lr w (sgn k)) w k,
      { st with m := zip2 (fun m g => mix2 q.b2 m (Fp.sub Fp.one q.b2) g) st.m g })
  | _ =>
    let r := if rows = 1 then st.r else rowSums
    let c := if rows = 1 then colSums else st.c
    let old := spread rows cols st.r st.c
    let new := spread rows cols r c
    let zg := zip2 Fp.add st.m g
    let sg := zip2 (fun a b => Fp.div (Fp.sub (Fp.sqrt b) (Fp.sqrt a)) q.alpha) old new
    let z := zip3 (fun x y w => Fp.sub x (Fp.mul y w)) zg sg w
    (zip2 q.ftrlW new z, { st with m := z, r := r, c := c })

/-- The rule on an embedding row, with the second moment, accumulator or n decoded from its L8 byte (R281). -/
def Rule.embRow (q : Rule) (lr : F32) (dim : Nat) (w g m : List F32) (a : F32) : List F32 × List F32 × F32 :=
  let msq := Fp.mul (sumSquares g) (Fp.div Fp.one (Fp.ofNat dim))
  match q.rule with
  | 2 =>
    let a := Fp.add a msq
    (List.zipWith (fun w g => q.stepW lr w (Fp.div g (Fp.add (Fp.sqrt a) q.eps))) w g, m, a)
  | 3 =>
    let v := mix2 q.b2 a (Fp.sub Fp.one q.b2) msq
    let m := List.zipWith (fun m g => mix2 q.b1 m (Fp.sub Fp.one q.b1) g) m g
    (List.zipWith (fun w m => q.stepW lr w (Fp.div m (Fp.add (Fp.sqrt v) q.eps))) w m, m, v)
  | 5 =>
    let n1 := Fp.add a msq
    let z := List.zipWith (fun p w => q.ftrlZ a n1 p.1 p.2 w) (m.zip g) w
    (z.map (q.ftrlW n1), z, n1)
  | _ =>
    let r := q.dense lr 1 dim [w] [g] ⟨[m], [], [], Fp.one, Fp.one⟩
    (r.1.headD [], r.2.m.headD [], a)

/-! ### The parts of a half (R273) -/

/-- Offsets of a half's parts, and its size. -/
structure HalfMap where
  hi : Nat
  ext : Nat
  work : Nat
  m : Nat
  r : Nat
  c : Nat
  size : Nat
  deriving DecidableEq, Repr

/-- Bytes of the working copy and of the first moment. -/
def Param.workBytes (p : Param) : Nat := (4 * Fmt.width p.wfmt + 1) * (ceilDiv p.rows 32 * p.cols)
def Param.momentBytes (p : Param) : Nat := 25 * (ceilDiv p.rows 32 * p.cols)

/-- Lay out a half: each part starts at the next 64-byte boundary, an absent part takes no space. -/
def Param.layout (p : Param) (q : Rule) : HalfMap :=
  let n := p.rows * p.cols
  let hi := 64
  let ext := roundUp (hi + 2 * n) 64
  let work := roundUp (ext + n) 64
  let e1 := work + p.workBytes
  let m := roundUp e1 64
  let e2 := if q.hasM then m + p.momentBytes else e1
  let r := roundUp e2 64
  let e3 := if q.hasR p.rows then r + 4 * p.rows else e2
  let c := roundUp e3 64
  let e4 := if q.hasC p.rows then c + 4 * p.cols else e3
  ⟨hi, ext, work, m, r, c, e4⟩

/-- The parts that hold master and state: offset and bytes (R297 item 3). -/
def Param.stateParts (p : Param) (q : Rule) : List (Nat × Nat) :=
  let l := p.layout q
  let n := p.rows * p.cols
  [(0, 64), (l.hi, 2 * n), (l.ext, n)] ++ (if q.hasM then [(l.m, p.momentBytes)] else [])
    ++ (if q.hasR p.rows then [(l.r, 4 * p.rows)] else []) ++ (if q.hasC p.rows then [(l.c, 4 * p.cols)] else [])

/-- A half's address. -/
def Param.half (p : Param) (h : Nat) : Nat := p.base + h * p.halfBytes

/-- A half's header (R273). -/
structure HalfHead where
  t : Nat
  accepted : Nat
  p1 : F32
  p2 : F32
  navg : F32
  deriving DecidableEq, Repr

/-- Read it: the products are 1.0 at t = 0. -/
def HalfHead.of (b : Bytes) : HalfHead :=
  let t := leAt b 0 4
  ⟨t, leAt b 4 4, if t = 0 then Fp.one else f32At b 8, if t = 0 then Fp.one else f32At b 12, f32At b 16⟩
/-- Write it. -/
def HalfHead.bytes (h : HalfHead) (step : Nat) : Bytes :=
  u32 h.t ++ u32 h.accepted ++ u32 h.p1.toNat ++ u32 h.p2.toNat ++ u32 h.navg.toNat ++ u32 0 ++ u64 step ++ zeroBytes 32

/-- The S24 planes as rows of values (R47; row-major, log 18). -/
def masterRows (cols : Nat) (hi ext : Bytes) : List (List F32) :=
  chunks cols (List.zipWith (fun h (e : Byte) => BitVec.ofNat 32 (leNat h * 65536 + e.toNat * 256)) (chunks 2 hi) ext)

/-- The columns of a tensor stored in blocks along i (R272): values of column j. -/
def blockCols (fmt rows cols : Nat) (b : Bytes) : List (List F32) :=
  let nb := ceilDiv rows 32
  let plane := 4 * Fmt.width fmt * (nb * cols)
  (List.range cols).map fun j => (List.range rows).map fun i =>
    let x := j * nb + i / 32
    (Fmt.decode fmt (Fmt.planeCode b (Fmt.width fmt) (x * 32 + i % 32)) (b.getD (plane + x) 0).toNat 0).1

/-- A new master's S24 code: a non-finite value becomes the largest finite value with its sign (R279). -/
def masterCode (x : F32) (code : Nat) : Nat :=
  if Fp.isFinite x then code else 0x7F7FFF + if Fp.sign x then 0x800000 else 0

/-- The columns of S24 codes of a master's conversion. -/
def masterCols (rows cols : Nat) (bs : List (Fmt.Block × List F32)) : List (List Nat) :=
  let nb := ceilDiv rows 32
  (List.range cols).map fun j => ((bs.drop (j * nb)).take nb).flatMap fun b =>
    List.zipWith masterCode b.2 b.1.codes

end Sys2Proof.Machine
end

