-- ==== Sys2Proof/Machine/Ladder.lean ====
section
/-! DEFINITION. What a load puts into a voicing slot, the images of the ladder sets, and the supervisor's loads (R100, R101, R178,
R210, R212, R215, R218). -/

namespace Sys2Proof.Machine

/-! ### Loads (R100, R101) -/

/-- A load starts into the fret's shadow slot: it reads as empty until the load has passed. -/
def Fret.startLoad (f : Fret) : Fret :=
  let f := (f.setImg f.shadow []).setSt f.shadow 1
  { f with reload := f.reload.filter (· ≠ f.shadow) }

/-- A slot ends its load without an image. -/
def Fret.emptySlot (f : Fret) (slot : Nat) : Fret := (f.setImg slot []).setSt slot 0

/-- Remember the address of a slot's image (R81). -/
def Fret.setLast (f : Fret) (slot : Nat) (a : Nat) : Fret :=
  if slot = 0 then { f with last0 := some a } else { f with last1 := some a }

/-- The image at an address. -/
def State.imageAt (s : State) (a : Nat) : Img :=
  (s.mem.filter fun p => a ≤ p.1 && p.1 < a + 16384).map fun p => (p.1 - a, p.2)

/-- The image as a load read it: a byte that was changed while the load was busy reads as it was or as it is, as the
reading passed it before or after (R101, log 31). -/
def readImage (start : Nat) (old new : Img) : Img :=
  if old = new then new
  else (old ++ new).foldl (fun m p =>
    SMap.set 0 m p.1 (if Config.readLate start p.1 then SMap.get 0 new p.1 else SMap.get 0 old p.1)) []

/-- End the load of one slot of a fret with the image that was read: the first check that fails, and the state (R100,
R178). -/
def State.finishLoad (s : State) (i slot addr : Nat) (img : Img) (ue : Bool) : Nat × State :=
  let d := i / 384
  let bad := loadCheck img (s.odNat (od 0x2100 5)) (fretCol i) (fretRow i)
    (ue || s.poisoned addr 16384 || !s.mappedRange addr 16384)
  if bad ≠ 0 then (bad, (s.updFret i (·.emptySlot slot)).flag d Reg.fretStatus 0)
  else
    let v := Voicing.of img
    let t := v.tableSet
    let crc := tableCrc img + 1
    let c := s.cdie d
    let entry := SMap.get 0 c.tables t
    if t ≠ 0 && entry ≠ 0 && entry ≠ crc then
      (0, ((s.updFret i (·.emptySlot slot)).flag d Reg.epuStatus 1).bump d Reg.epuTableMismatchCount 1)
    else
      let s := if t = 0 then s else s.setCDie d { c with tables := SMap.set 0 c.tables t crc }
      let s := s.updFret i fun f => ((f.setImg slot img).setSt slot 2).setLast slot addr
      (0, s.updBoard fun b => { b with lib := SMap.set 0 b.lib (i * 65536 + v.vid) (addr + 1) })

/-! ### Laddered passes (R210) -/

/-- Does the voicing hold a laddered conversion (R210)? -/
def Voicing.laddered (v : Voicing) : Bool := v.role ≤ 1 && v.pass ≤ 3
/-- The direction of a voicing's layer pass: pass code 0 is forward (R65, R69). -/
def Voicing.backward (v : Voicing) : Bool := v.pass ≠ 0
/-- Does the voicing belong to a laddered pass: a layer pass of which some voicing holds a laddered conversion (R210)? -/
def State.inPass (s : State) (v : Voicing) : Bool :=
  v.pass ≤ 3 && (v.laddered || s.num.passes.any fun p => p.layer = v.layer && p.backward = v.backward)
/-- Does a voicing answer to a voicing_id: its own, or that of another image of its ladder set (R212)? -/
def Voicing.answers (v : Voicing) (vid : Nat) : Bool := v.vid = vid || (v.laddered && v.vid / 64 = vid / 64)

/-! ### Images of the ladder sets (R212, R215, R218) -/

/-- The address of a fret's image of a voicing, where one loaded (log 10). -/
def State.imageOf (s : State) (i vid : Nat) : Option Nat :=
  match SMap.get 0 s.board.lib (i * 65536 + vid) with | 0 => none | a + 1 => some a

/-- The voicing_id with another output rung, or another input rung. -/
def vidOut (vid r : Nat) : Nat := vid / 8 * 8 + r
def vidIn (vid r : Nat) : Nat := vid / 64 * 64 + r * 8 + vid % 8

/-- The images known to the supervisor, one per voicing_id. -/
def State.library (s : State) : List (Nat × Img) :=
  s.board.lib.foldl (fun (acc : List (Nat × Img)) e =>
    if acc.any (fun x => x.1 = e.1 % 65536) then acc else acc ++ [(e.1 % 65536, s.imageAt (e.2 - 1))]) []

/-- The image of a voicing_id in the library. -/
def libImage (lib : List (Nat × Img)) (vid : Nat) : Option Img := (lib.find? fun x => x.1 = vid).map (·.2)

/-- The current rung of a pass, 7 for none. -/
def State.rungOfPass (s : State) (layer : Nat) (backward : Bool) : Nat :=
  ((s.num.passes.find? fun r => r.layer = layer && r.backward = backward).map (·.current)).getD 7

/-- The input rung in force for a voicing: the current rung of the pass that src_pass names, 7 for none (R212). -/
def State.inputRung (s : State) (v : Voicing) : Nat :=
  if v.srcPass = 0xFFF then 7 else ((s.num.passes[v.srcPass]?).map (·.current)).getD 7

/-- The voicing_id that runs, and is costed, for a named one: in a ladder set the image at the rungs in force (R212, R376). -/
def State.rungVid (s : State) (lib : List (Nat × Img)) (vid : Nat) : Nat :=
  match lib.find? fun x => x.1 / 64 = vid / 64 && (Voicing.of x.2).laddered with
  | none => vid
  | some x =>
    let v := Voicing.of x.2
    vid / 64 * 64 + s.inputRung v * 8 + s.rungOfPass v.layer v.backward

/-- The supervisor loads a voicing of the library into a fret's shadow slot (R212, R215). -/
def State.loadShadow (s : State) (i vid : Nat) : State :=
  match s.imageOf i vid with
  | none => s
  | some a =>
    ((((s.updFret i Fret.startLoad).sweepTables (i / 384)).meetPoison a 16384).finishLoad i (s.fret i).shadow a (s.imageAt a) false).2

/-- Does the fret's shadow slot hold an image of no ladder set, or the one at the rungs in force (R212)? -/
def State.shadowCurrent (s : State) (i : Nat) : Bool :=
  let f := s.fret i
  let v := Voicing.of (f.img f.shadow)
  !(f.st f.shadow = 2 && v.laddered) || decide (s.rungVid s.library v.vid = v.vid)

/-- The supervisor loads the image at the rungs in force into a shadow slot that holds another image of the ladder set. -/
def State.followShadow (s : State) (i : Nat) : State :=
  let f := s.fret i
  if s.shadowCurrent i then s else s.loadShadow i (s.rungVid s.library (Voicing.of (f.img f.shadow)).vid)

end Sys2Proof.Machine
end

