-- ==== Sys2Proof/Machine/Fretboard.lean ====
section
/-! DEFINITION. The sequencer's operations on the array, the slots, the conversion unit and the buses, the switch, and
what ends a wait (R85 to R106, R118 to R134, R187, R213, R225). -/

namespace Sys2Proof.Machine

/-! ### Phases of a die (R133) -/

/-- Does a phase of the die wait for the fret to switch into a voicing? -/
def DiePhase.awaits (p : DiePhase) (i : Nat) (v : Voicing) : Bool :=
  p.die = i / 384 && v.answers p.vid && p.frets.contains i && !p.began.contains i

/-- A fret has switched into a voicing whose phase of the die waits for it: the phase begins with its first fret (R133,
R233). One that no PHASE_START and no write of CTRL.RESTART started runs as a phase of its own, without a bound. The run
counts as one more of the voicing on the fret in the step (R149). -/
def State.beginPhase (s : State) (i : Nat) : State :=
  let v := (s.fret i).voicing
  let s := s.updBoard fun b => { b with runs := SMap.modify 0 b.runs (i * 65536 + v.vid) (· + 1) }
  match s.board.phases.find? fun p => p.awaits i v with
  | none => s.updBoard fun b => { b with phases := b.phases ++ [DiePhase.mk (i / 384) v.vid [i] [i] 0 0 0 s.time 0 false] }
  | some p =>
    let q := { p with vid := v.vid, began := p.began ++ [i], start := if p.began.isEmpty then s.time else p.start }
    s.updBoard fun b => { b with phases := b.phases.map fun x => if x = p then q else x }

/-- Is an addition, a spill or a bridge delivery that the fret has started still to retire (R116)? -/
def State.unretired (s : State) (i : Nat) : Bool :=
  let f := s.fret i
  s.board.contribs.any (fun c => c.die * 384 + c.index = i)
    || (f.active < 2 && (List.range 16).any fun k => spillDue f f.voicing (s.odNat (od 0x2100 5)) k)

/-- An operation waited at its slot (R133). -/
def State.aliasWait (s : State) (i cycles : Nat) : State :=
  if cycles = 0 then s
  else
    let d := i / 384
    let s := ((s.flag d Reg.accStatus 0).bump d Reg.accAliasWaitCount 1).bump d Reg.accAliasWaitCycles cycles
    let add := fun (p : DiePhase) => { p with waits := p.waits + 1 }
    s.updBoard fun b => { b with phases := b.phases.map fun p => if p.runs i then add p else p }

/-! ### Laddered passes (R210, R213, R215) -/

/-- At the first voicing of a laddered pass, note the lane's state; at the others, the voicing (R215 steps 2 and 4). -/
def State.markLane (s : State) (i : Nat) (v : Voicing) : State :=
  let l := s.lane i
  let new := { l with mark := some ⟨v.layer, v.backward, [v.vid], l.recs, l.pushes⟩, kept := [] }
  if !s.inPass v then s
  else s.setLane i (match l.mark with
    | some m => if m.layer = v.layer && m.backward = v.backward then { l with mark := some { m with vids := m.vids ++ [v.vid] } }
      else new
    | none => new)

/-! ### The switch (R102, R121) -/

/-- The two banks: idle, and with the idle one replaced. -/
def Fret.idle (f : Fret) : Bank := if f.cur = 0 then f.bankB else f.bankA
def Fret.current (f : Fret) : Bank := if f.cur = 0 then f.bankA else f.bankB
def Fret.setIdle (f : Fret) (b : Bank) : Fret := if f.cur = 0 then { f with bankB := b } else { f with bankA := b }
/-- SWAPB: the idle bank becomes current; the old one is idle and empty of promises. -/
def Fret.swapBanks (f : Fret) : Fret :=
  let f := f.setIdle { f.idle with next := false }
  { f with cur := 1 - f.cur }

/-- The fret after a switch into its shadow slot (R102, R121): what was armed for the voicing is its phase's, but a voicing that
has no cost has no bound (R110). -/
def Fret.switched (f : Fret) (time : Nat) : Fret :=
  let old := if f.active < 2 then some f.voicing else none
  let slot := f.shadow
  let new := Voicing.of (f.img slot)
  let f := switchAcc f old new
  let armed := f.armed.find? fun a => new.answers a.1.vid
  let costed := (Descr.of (f.img slot)).fixed ≠ 0
  let f := { f with
    active := slot, run := 1, pc := 0, loops := [], stall := .none, recvWait := false
    bridgeIssued := 0, bridgeDone := 0, barIssued := 0, barDone := 0
    phase := some (match armed with
      | some a => { a.1 with vid := new.vid, start := time, bound := if costed then a.1.bound else none }
      | none => ⟨new.vid, none, false, time⟩)
    frame := match armed with | some a => a.2 | none => none
    armed := match armed with | some a => f.armed.erase a | none => f.armed }
  if opcode (seqWord f.aimg 0) = 2 && 1 ≤ new.seqLen && f.idle.status = 2 && f.idle.next then f.swapBanks.advance else f

/-- The supervisor loads the next voicing of a repeat (R215). -/
def State.loadNext (s : State) (i : Nat) : State :=
  match (s.fret i).follow with
  | v :: rest => (s.updFret i fun f => { f with follow := rest }).loadShadow i v
  | [] => s

/-- Switch a fret under R102: at once, after the load that still writes the slot, or not at all. Of a ladder set the supervisor
runs the image at the rungs in force (R212). -/
def State.switchFret (s : State) (i : Nat) (halted : Bool) : State :=
  let s := s.followShadow i
  let f := s.fret i
  let d := i / 384
  match f.st f.shadow with
  | 2 =>
    let s := s.leavePhase i
    let s := (s.setFret i (f.switched s.time)).beginPhase i
    (s.markLane i (s.fret i).voicing).loadNext i
  | 1 => (s.setFret i { f with stall := .switch, run := 1 }).bump d Reg.fretSwitchWaitCount 1
  | _ => (if halted then s else s.setFret i { f with run := 2 }).flag d Reg.fretStatus 1

/-- Must the SWITCH wait for the pass verdict (R213): it ends a laddered pass of a frame whose gate is still shut? -/
def State.gated (s : State) (f : Fret) : Bool :=
  let v := f.voicing
  let n := Voicing.of (f.img f.shadow)
  match f.frame with
  | none => false
  | some fr =>
    s.inPass v && !(f.st f.shadow = 2 && n.pass ≤ 3 && n.layer = v.layer && n.backward = v.backward
        && (match f.armed.find? fun a => n.answers a.1.vid with | some a => a.2 = f.frame | none => true))
      && !s.num.gates.contains (v.layer, v.backward, fr.2)

/-! ### Conversions (R54 to R75, R187, R188, R225) -/

/-- The rounding mode in force: the voicing selects it, and gradients take SR whatever the code says (R61). R44 lets
an activation in UA4 round with RTZ, so that forward outputs use RNE is what their voicings say (DEDUCED, log 30). -/
def Voicing.mode (v : Voicing) : Nat := if v.role = 1 then 1 else v.round

/-- E(v): floor(log2 |v|) of a finite nonzero value (R225). -/
def binade (x : F32) : Int :=
  match Fp.unpack x with
  | .fin _ m e => (Fp.log2 m : Int) + e
  | _ => 0

/-- The histogram bins that a block of inputs adds (R225). -/
def histBins (xs : List F32) : List Nat :=
  let fin := xs.filter Fp.isFinite
  let top := fin.foldl (fun a x => Fp.fmax a (Fp.abs x)) 0#32
  fin.map fun x => if Fp.isZero x then 63 else min 62 (binade top - binade x).toNat

/-- Convert lines of inputs: blocks in emitted order, with the line index and first block of each line. -/
def convLines (fmt mode : Nat) (held : Option Int) (key : W64) (line block : Nat) (rows : List (List F32)) :
    List (Fmt.Block × List F32) :=
  rows.zipIdx.flatMap fun r => (chunks 32 r.1).zipIdx.map fun g =>
    (Fmt.enc fmt mode held (fun k => Dice.dice16 key (line + r.2) (block + g.2) k) (Config.nanZero g.1).toNat g.1, g.1)

/-- Add a fret's conversions to its run's statistics and to the die's counters (R73, R75). Conversions of one layer, tensor,
pass and micro-batch are one run, CONV's and source 0x8's alike; its format and mode are the latest's (log 31). -/
def State.addStats (s : State) (i tensor fmt mode mb : Nat) (grad : Bool) (bs : List (Fmt.Block × List F32)) : State :=
  let d := i / 384
  let v := (s.fret i).voicing
  let run? := fun (c : ConvRun) => c.layer = v.layer && c.tensor = tensor && c.pass = v.pass && c.mb = mb && !c.final
  let old := (s.board.convs.find? run?).getD
    ⟨v.layer, tensor, v.pass, mb, fmt, mode, [], List.replicate 64 0, false, 0, false, false⟩
  let st := bs.foldl (fun a b => a.join b.1.stat) (((old.parts.find? fun p => p.1 = i).map (·.2)).getD ConvStat.empty)
  let hist := if grad then (bs.flatMap fun b => histBins b.2).foldl (fun h k => h.modify k (· + 1)) old.hist else old.hist
  let new := { old with
    format := fmt, mode := mode, hist := hist
    parts := (old.parts.filter fun p => p.1 ≠ i) ++ [(i, st)]
    laddered := old.laddered || v.laddered
    ladElems := old.ladElems + if v.laddered then (bs.map fun b => b.1.stat.elements).sum else 0
    nonzero := old.nonzero || (v.laddered && bs.any fun b => (b.1.codes.take b.2.length).any (· ≠ 0) || decide (b.1.scale = 0xFF)) }
  let s := s.updBoard fun b => { b with convs := (b.convs.filter fun c => !run? c) ++ [new] }
  let sum := fun (g : ConvStat → Nat) => (bs.map fun b => g b.1.stat).sum
  let s := s.flagCount d Reg.convStatus 0 Reg.convSatCount (sum (·.sats))
  let s := s.flagCount d Reg.convStatus 1 Reg.convUnderflowCount (sum (·.unders))
  s.flagCount d Reg.convStatus 2 Reg.convNonfiniteCount (sum (·.nonfin))

/-- Rows of V of a slot. -/
def slotRows (f : Fret) (v : Voicing) (T k rows : Nat) : List (List F32) := chunks v.n (slotValues f v T k (rows * v.n))

/-- The exponent that scale_src = 1 holds for the whole tensor (R55). Code 0xFF, which names no exponent, is taken as 128, one above
the clamp (DESIGN CHOICE, log 31). -/
def Voicing.heldExp (v : Voicing) : Option Int := if v.scaleSrc = 1 then some ((v.held : Int) - 127) else none

/-- CONV's ROW part: bytes, and the state with its statistics. -/
def State.convRow (s : State) (i k rows line block : Nat) : Bytes × State :=
  let f := s.fret i
  let v := f.voicing
  let held := v.heldExp
  let bs := convLines v.fmtOut v.mode held (s.diceKey f v.tensor) line block
    (slotRows f v (s.odNat (od 0x2100 5)) k rows)
  (encodeTile v.fmtOut (bs.map (·.1)),
   s.addStats i v.tensor v.fmtOut v.mode (s.frameOf f).2 (v.laddered && v.role = 1) bs)

/-- CONV's COL part (R187, R188): blocks run along the rows; the tensor number is xor 0x80. -/
def State.convCol (s : State) (i k rows line block : Nat) : Bytes × State :=
  let f := s.fret i
  let v := f.voicing
  let held := v.heldExp
  let t := v.tensor ^^^ 0x80
  let bs := convLines v.fmtOut v.mode held (s.diceKey f t) (32 * block) (line / 32)
    (transpose v.n (slotRows f v (s.odNat (od 0x2100 5)) k rows))
  (encodeTile v.fmtOut (bs.map (·.1)),
   s.addStats i t v.fmtOut v.mode (s.frameOf f).2 (v.laddered && v.role = 1) bs)

/-- Raw V words (R104, R187). -/
def State.rawWords (s : State) (i k rows : Nat) : Bytes :=
  let f := s.fret i
  (slotValues f f.voicing (s.odNat (od 0x2100 5)) k (rows * f.voicing.n)).flatMap fun x => natLE 4 x.toNat

/-! ### Operands -/

/-- The tile that source 0x8 delivers (R132): slot row r is line r and slot columns run along its blocks; rows beyond m and
columns beyond n are padding, which no statistics count (R38). The conversion unit keeps its statistics (R73, R75). The manual gives it no conversion of
an INT32 word: the codes of an INT8 or INT4 operand are free values, and nothing is counted (DESIGN CHOICE, log 31). -/
def State.slotTile (s : State) (i fmt lines blocks slot line block : Nat) : Tile × State :=
  let f := s.fret i
  let v := f.voicing
  let V := fun r c => if r < v.m && c < v.n then valueV f v (s.odNat (od 0x2100 5)) slot (r * v.n + c) else 0#32
  if Fmt.isInt fmt then
    let w := Fmt.width fmt
    let codes := (List.range lines).flatMap fun r => (List.range (32 * blocks)).map fun c =>
      (Config.intCode fmt (V r c)).toNat % pow2 w
    (⟨fmt, lines, blocks, Fmt.packCodes w codes, [], []⟩, s)
  else
    let held := v.heldExp
    let n := min v.n (32 * blocks)
    let m := min v.m lines
    let real := convLines fmt v.mode held (s.diceKey f v.tensor) line block
      ((List.range m).map fun r => (List.range n).map (V r))
    let pad := Fmt.enc fmt v.mode held (fun _ => 0) 0 []
    let all := ((chunks (ceilDiv n 32) real).flatMap fun l => l.map (·.1) ++ List.replicate (blocks - l.length) pad)
      ++ List.replicate ((lines - m) * blocks) pad
    let all := all.map fun b => { b with codes := b.codes ++ List.replicate (32 - b.codes.length) 0 }
    (Tile.of fmt lines blocks (encodeTile fmt all),
     s.addStats i v.tensor fmt v.mode (s.frameOf f).2 (v.laddered && v.role = 1) real)

/-- An operand tile of STREAM (A) or LOADB (B): `lines` lines of `blocks` blocks in format `fmt` from a source. -/
def State.takeTile (s : State) (i src path : Nat) (loadb : Bool) (fmt lines blocks off line block : Nat) (supply : Bytes)
    (ue : Bool) : Source :=
  let f := s.fret i
  let n := tileBytes fmt lines blocks
  if src = 0 then .got s (Tile.of fmt lines blocks (f.sramBytes off n))
  else if src = 7 then
    if supply.isEmpty then
      if ue then .failed (s.stagedError i) else s.drawRecord i path loadb lines blocks none
    else
      let m := if path = 2 then tileBytes fmt (32 * blocks) (ceilDiv lines 32) else n
      match takeExact m supply with
      | none => .notYet s
      | some p =>
        if path = 2 then
          let re := reblock (Tile.of fmt (32 * blocks) (ceilDiv lines 32) p.1) lines blocks
          .got (s.countCapo i path re) re.tile
        else .got (s.countCapo i path (Reblock.plain Tile.empty)) (Tile.of fmt lines blocks p.1)
  else if src = 8 then
    let r := s.slotTile i fmt lines blocks (off / 16 % 16) line block
    .got r.2 r.1
  else match f.takeIn src supply n with
    | none => .notYet s
    | some p => .got (s.setFret i p.2) (Tile.of fmt lines blocks p.1)

/-- Must an operand's source wait: source 0x8 reads a slot that an undelivered BRIDGE names (R103, R133)? The slot is the
offset field modulo 16 (DESIGN CHOICE, log 31: the manual names no field for it). -/
def State.sourceBusy (s : State) (i src off : Nat) : Bool := src = 8 && s.slotBusy i (off / 16 % 16)

/-- Source 0x8 waited at the slot that it reads (R133). -/
def State.sourceWait (s : State) (i src cycles : Nat) : State := if src = 8 then s.aliasWait i cycles else s

/-! ### The operations -/

/-- NOP (R104). -/
def execNop (f : Issue) (s : State) : Host.Outcome State Fault Refusal :=
  let i := fretIdx f.toFretId
  .next (match s.nextIs i 0 with
    | some _ => (s.updFret i (·.advance)).sramCe f.die.val f.ce
    | none => s)

/-- Pass a received operand on under pass_out (R94, R99): one that came from the fret's own SRAM or from a slot was not
received, and is not passed (DESIGN CHOICE, log 31: the manual says "passed operands" only). -/
def State.passOperand (s : State) (i src : Nat) (bs : Bytes) : State :=
  if src = 0 || src = 8 then s else s.passOn i (s.fret i).voicing.passOut bs

/-- LOADB (R92, R93, R102): the idle bank starts to fill. -/
def execLoadb (f : Issue) (supply : Supply) (ue : Bool) (s : State) :
    Host.Outcome State Fault Refusal :=
  let i := fretIdx f.toFretId
  let fr := s.fret i
  .next (match s.nextIs i 1 with
    | none => s
    | some w =>
      let v := fr.voicing
      let src := bits w 55 52
      let off := fr.sramOff w (16 * bits w 51 38)
      if fr.idle.status = 1 || s.sourceBusy i src off then s
      else
        match s.takeTile i src v.capoB true v.fmtB (bits w 33 27) (bits w 37 34) off supply.line supply.block supply.bytes ue with
        | .notYet s => s
        | .failed s => s
        | .got s t =>
          let s := (s.updFret i fun f => (f.setIdle ⟨1, bits w 26 26 = 1, t⟩).advance).sramCe f.die.val f.ce
          (s.sourceWait i src supply.wait).passOperand i src t.bytes)

/-- LOADB_DONE (R92): the bank holds its tile; a SWAPB that waits takes effect. -/
def execLoadbDone (f : FretId) (s : State) : Host.Outcome State Fault Refusal :=
  let i := fretIdx f
  let fr := s.fret i
  .next (if fr.idle.status = 1 && !s.held f.die.val 0 then
      let fr := fr.setIdle { fr.idle with status := 2 }
      s.setFret i (if fr.stall = .swapb then { fr.swapBanks with stall := .none }.advance else fr)
    else s)

/-- SWAPB (R92, R104): waits for the LOADB before it. -/
def execSwapb (f : Issue) (s : State) : Host.Outcome State Fault Refusal :=
  let i := fretIdx f.toFretId
  let fr := s.fret i
  .next (match s.nextIs i 2 with
    | none => s
    | some _ => (s.setFret i (if fr.idle.status = 1 then { fr with stall := .swapb } else fr.swapBanks.advance)).sramCe
        f.die.val f.ce)

/-- Does the tile lie where the agreement watcher samples (R230)? -/
def State.sampled (s : State) (f : Fret) (r b : Nat) : Bool :=
  let v := f.voicing
  let key := Dice.tensorKey (BitVec.ofNat 64 (s.odNat (od 0x2100 0x0B))) (BitVec.ofNat 64 (s.frameOf f).1)
    (Dice.keyWord v.layer v.tensor (s.frameOf f).2 6 1 s.node)
  let word := (Dice.mix4 (BitVec.ofNat 64 ((r <<< 24) ||| (b <<< 3))) key).toNat
  decide (s.odNat (od 0x2100 7) ≤ s.modules) && v.laddered && v.pass = 0
    && word % max 1 (s.odNat (od 0x2100 8)) = 0
    && (List.range (slotsOf v.m v.n)).any fun k => !v.slot k

/-- One sample of the agreement watcher: D, Q, and whether it fails (R230). -/
def agreeTest (vn vw : List F32) (a : Nat) : F32 × F32 × Bool :=
  let D := (vn.zip vw).foldl (fun acc p => let e := Fp.sub p.1 p.2; Fp.add acc (Fp.mul e e)) 0#32
  let Q := vw.foldl (fun acc x => Fp.add acc (Fp.mul x x)) 0#32
  (D, Q, Fp.lt (Fp.mul Q (pow2F (-(a : Int)))) D)

/-- The slot that the voicing leaves free for the watcher (R230). -/
def Voicing.freeSlot (v : Voicing) : Nat :=
  ((List.range (slotsOf v.m v.n)).find? fun j => !v.slot j).getD 0

/-- The tile of a parameter's working copy at a place: lines are columns, blocks run along the rows (R272). -/
def State.workTile (s : State) (p : Param) (q : SampleAt) (lines blocks : Nat) : Tile :=
  let nb := ceilDiv p.rows 32
  let size := 4 * Fmt.width p.wfmt
  let at' := p.half (s.liveHalf q.entry) + (p.layout (s.ruleSet p.ruleSet)).work
  let first := fun l => (q.col + l) * nb + q.row / 32
  { fmt := p.wfmt, lines := lines, blocks := blocks
    plane := (List.range lines).flatMap fun l => s.readMem (at' + size * first l) (size * blocks)
    scales := (List.range lines).flatMap fun l => s.readMem (at' + size * (nb * p.cols) + first l) blocks
    zeros := [] }

/-- The weight tensor whose working copy is the stationary operand that streams (R230): the tile named lies in the tensor, and
the operand is that tile of the live half. -/
def State.weights (s : State) (v : Voicing) (B : Tile) (q : SampleAt) : Option Param :=
  match s.params[q.entry]? with
  | some p =>
    if p.layer = v.layer && p.wfmt = v.fmtB && q.row % 32 = 0 && q.row + 32 * B.blocks ≤ roundUp p.rows 32
      && q.col + B.lines ≤ p.cols && decide (s.workTile p q B.lines B.blocks = B) then some p else none
  | none => none

/-- Where row i of the tile lies in the master's BF16 plane (R47, R273). -/
def State.masterAt (s : State) (p : Param) (q : SampleAt) (i : Nat) : Nat :=
  p.half (s.liveHalf q.entry) + (p.layout (s.ruleSet p.ruleSet)).hi + 2 * ((q.row + i) * p.cols + q.col)

/-- The first row of the tile whose read from the master meets an error or poison. -/
def State.masterFails (s : State) (p : Param) (q : SampleAt) (B : Tile) : Option Nat :=
  ((List.range (min (32 * B.blocks) (p.rows - q.row))).map (s.masterAt p q)).find? fun a => s.readFails a (2 * B.lines)

/-- The same tile from the master's BF16 plane: rows past the tensor's last are zeros. -/
def State.masterTile (s : State) (p : Param) (q : SampleAt) (B : Tile) : Tile :=
  Tile.of 1 B.lines B.blocks ((List.range B.lines).flatMap fun l => (List.range (32 * B.blocks)).flatMap fun i =>
    if q.row + i < p.rows then s.readMem (s.masterAt p q i + 2 * l) 2 else zeroBytes 2)

/-- Compare a finished tile: the slot's values against those of the free slot, which the master's plane gave (R230). -/
def State.agree (s : State) (i k rows row tile : Nat) : State :=
  let f := s.fret i
  let v := f.voicing
  let T := s.odNat (od 0x2100 5)
  let n := rows * v.n
  let r := agreeTest (slotValues f v T k n) (slotValues f v T v.freeSlot n) (s.odNat (od 0x2100 0x10))
  let s := s.bump 6 Reg.numAgreeSampleCount 1
  let s := { s with num := { s.num with passes := s.num.passes.map fun p =>
    if p.layer = v.layer && !p.backward then
      { p with agreeD := r.1, agreeQ := r.2.1, agreeFails := cap32 (p.agreeFails + if r.2.2 then 1 else 0)
               step := s.curStep } else p } }
  if r.2.2 then
    ((s.flag 6 Reg.numStatus 7).bump 6 Reg.numAgreeFailCount 1).event 0x0107
      (u16 v.layer ++ u32 row ++ u32 tile ++ u32 r.1.toNat ++ u32 r.2.1.toNat)
  else s

/-- Count what a STREAM met (R42, R118, R119). -/
def State.countStream (s : State) (d : Nat) (c : StreamCount) : State :=
  let s := s.flagCount d Reg.accStatus 1 Reg.accSatCount c.sat
  let s := s.flagCount d Reg.accStatus 2 Reg.accIntSatCount c.intSat
  s.flagCount d Reg.convStatus 3 Reg.convN2RsvdCount c.n2

/-- The second stream of a sampled tile, into the free slot, against the master's plane; the test follows the tile's last
stationary load (R230). A read of the master that fails is a memory fault, and the second stream does not run. -/
def State.watchStream (s : State) (i w : Nat) (A B : Tile) (q : SampleAt) (p : Param) : State :=
  match s.masterFails p q B with
  | some a => s.failRead a (2 * B.lines)
  | none =>
    let f := s.fret i
    let v := f.voicing
    let r := streamSlot f v (s.odNat (od 0x2100 5)) v.freeSlot (bits w 26 26 = 1) A (s.masterTile p q B)
    let s := (s.setFret i r.1).countStream (i / 384) r.2
    let load := bits w 25 20 + (f.strides w).2
    if v.kb ≤ load * v.b + B.blocks then s.agree i (bits w 30 27) (bits w 37 31) q.rowTile q.colTile else s

/-- STREAM (R85 to R91, R104, R106, R118, R122, R133): a slot whose spill is due waits for it, and one that an undelivered
BRIDGE names waits for the delivery. -/
def execStream (f : FretId) (wait ce : Nat) (supply : Supply) (ue : Bool)
    (sample : Option SampleAt) (s : State) : Host.Outcome State Fault Refusal :=
  let i := fretIdx f
  let fr := s.fret i
  let d := f.die.val
  .next (match s.nextIs i 3 with
    | none => s
    | some w =>
      let v := fr.voicing
      let T := s.odNat (od 0x2100 5)
      let k := bits w 30 27
      let src := bits w 55 52
      let off := fr.sramOff w (16 * bits w 51 38)
      if spillDue fr v T k || s.slotBusy i k || s.sourceBusy i src off then s
      else
        let B := fr.current.tile
        match s.takeTile i src v.capoA false v.fmtA (bits w 37 31) B.blocks off supply.line supply.block supply.bytes ue with
        | .notYet s => s
        | .failed s => s
        | .got s A =>
          let s := ((s.aliasWait i wait).sourceWait i src supply.wait).sramCe d ce
          let r := streamSlot (s.fret i) v T k (bits w 26 26 = 1) A B
          let s := (s.setFret i r.1).countStream d r.2
          let s := match sample with
            | some q =>
              match if s.sampled fr q.rowTile q.colTile then s.weights v B q else none with
              | some p => s.watchStream i w A B q p
              | none => s
            | none => s
          (s.updFret i (·.advance)).passOperand i src A.bytes)

/-- SPILL (R122 to R124). -/
def execSpill (f : Issue) (slot : Fin 16) (s : State) : Host.Outcome State Fault Refusal :=
  let i := fretIdx f.toFretId
  let fr := s.fret i
  let d := f.die.val
  .next (if fr.active < 2 && !s.held d 1 && spillDue fr fr.voicing (s.odNat (od 0x2100 5)) slot.val then
      let r := spillSlot fr fr.voicing slot.val
      (((s.setFret i r.1).bump d Reg.accSpillCount 1).flagCount d Reg.accStatus 1 Reg.accSatCount r.2).sramCe d f.ce
    else s)

/-- SUM_BOUND_EXCEEDED (R128): once for the slot until it is armed again. -/
def execSumBoundExceeded (f : FretId) (slot : Fin 16) (s : State) : Host.Outcome State Fault Refusal :=
  let i := fretIdx f
  let fr := s.fret i
  let d := f.die.val
  .next (match (if fr.active < 2 && !s.held d 1 && !fr.bounded.contains slot.val then boundPassed fr fr.voicing slot.val else none) with
    | none => s
    | some kind =>
      let s := s.setFret i { fr with bounded := slot.val :: fr.bounded }
      let s := (s.flag d Reg.accStatus 3).bump d Reg.accBoundCount 1
      let s := s.setReg d Reg.accBoundLoc (0x80000000 + kind * 65536 + slot.val * 4096 + f.col.val * 256 + f.row.val)
      s.event 0x010A (u8 d ++ u8 f.col.val ++ u8 f.row.val ++ u8 slot.val ++ u8 kind))

/-- Does an EPU operation wait: a slot that it names is named by an undelivered BRIDGE (R133, R164)? -/
def State.epuBusy (s : State) (i : Nat) (o : EpuOp) : Bool :=
  s.slotBusy i o.s0 || (o.usesS1 && s.slotBusy i o.s1)

/-- EPU (R157 to R172). -/
def execEpu (f : Issue) (wait : Nat) (s : State) : Host.Outcome State Fault Refusal :=
  let i := fretIdx f.toFretId
  let fr := s.fret i
  let d := f.die.val
  .next (match s.nextIs i 4 with
    | none => s
    | some w =>
      let v := fr.voicing
      let o := EpuOp.of w
      if s.epuBusy i o then s
      else
        let op := { o with offA := fr.sramOff w o.offA, offB := fr.sramOff w o.offB }
        let s := (s.aliasWait i wait).sramCe d f.ce
        let r := epuRunOp fr.aimg v (s.odNat (od 0x2100 5)) op fr
        let s := s.setFret i r.f.advance
        let s := s.flagCount d Reg.epuStatus 0 Reg.epuCompactDropCount r.drops
        let s := if r.tableBad then s.flag d Reg.epuStatus 2 else s
        let s := if r.kindChange then s.flag d Reg.epuStatus 4 else s
        let s := s.flagCount d Reg.convStatus 4 Reg.convDecodeSatCount r.decodeSat
        s.flagCount d Reg.convStatus 3 Reg.convN2RsvdCount r.n2)

/-- CONV (R104, R133, R187, R188). -/
def execConv (f : Issue) (wait busWait line block : Nat) (s : State) : Host.Outcome State Fault Refusal :=
  let i := fretIdx f.toFretId
  let fr := s.fret i
  let d := f.die.val
  .next (match s.nextIs i 5 with
    | none => s
    | some w =>
      let v := fr.voicing
      let k := bits w 55 52
      let dst := bits w 51 48
      let rows := bits w 33 27
      if s.slotBusy i k then s
      else
        let s := (s.aliasWait i wait).sramCe d f.ce
        let s := s.updFret i (·.advance)
        if dst = 3 then
          let bl := bits w 35 34
          if bl = 3 then s.pushRecord i 3 rows 0 (s.rawWords i k rows) []
          else
            let a := if bl = 1 then ([], s) else s.convRow i k rows line block
            let b := if bl = 0 then ([], a.2) else a.2.convCol i k rows line block
            b.2.pushRecord i bl rows v.fmtOut a.1 b.1
        else
          let s := if dst = 2 then s.bump d Reg.fretBusWaitCount busWait else s
          let a := if v.role = 7 then (s.rawWords i k rows, s) else s.convRow i k rows line block
          a.2.deliver i dst (fr.sramOff w (16 * bits w 47 34)) a.1)

/-- SEND (R95, R104); destination 3 hands the bytes to the stack engine as PUSH does. -/
def execSend (f : Issue) (busWait : Nat) (s : State) : Host.Outcome State Fault Refusal :=
  let i := fretIdx f.toFretId
  let fr := s.fret i
  .next (match s.nextIs i 6 with
    | none => s
    | some w =>
      let v := fr.voicing
      let dst := bits w 55 52
      let bs := fr.sramBytes (fr.sramOff w (16 * bits w 51 38)) (bits w 37 18)
      let s := (s.updFret i (·.advance)).sramCe f.die.val f.ce
      let s := if dst = 2 then s.bump f.die.val Reg.fretBusWaitCount busWait else s
      if dst = 3 then
        s.pushRecord i 0 ((rowsOfBytes v.fmtOut v.n bs.length).getD 0) v.fmtOut bs []
      else s.deliver i dst 0 bs)

/-- Bytes for a RECV from its source; they are stored at the offset (R104, R191 to R193). -/
def State.recvBytes (s : State) (i src off n : Nat) (supply : Bytes) (ue : Bool) : Source :=
  let f := s.fret i
  if src = 7 then
    if supply.isEmpty then
      if ue then .failed (s.stagedError i) else s.drawRecord i f.voicing.capoA false 0 0 (some n)
    else match takeExact n supply with
      | none => .notYet s
      | some p => .got s { Tile.empty with plane := p.1 }
  else if src = 0 then .got s { Tile.empty with plane := f.sramBytes off n }
  else if src = 8 then .got s { Tile.empty with plane := (s.rawWords i (off / 16 % 16) f.voicing.m).take n }
  else match f.takeIn src supply n with
    | none => .notYet s
    | some p => .got (s.setFret i p.2) { Tile.empty with plane := p.1 }

/-- Complete a RECV that is in progress, when its bytes are there. -/
def State.finishRecv (s : State) (i ce : Nat) (supply : Supply) (ue : Bool) : State :=
  match (s.fret i).recv with
  | none => s
  | some r =>
    if s.held (i / 384) 0 || s.sourceBusy i r.1 r.2.1 then s
    else match (s.sourceWait i r.1 supply.wait).recvBytes i r.1 r.2.1 r.2.2 supply.bytes ue with
    | .notYet s => s
    | .failed s => s
    | .got s t => (s.updFret i fun f =>
        let f := { f.writeSram r.2.1 t.plane with recv := none }
        if f.stall = .wait 2 then { f with stall := .none }.advance else f).sramCe (i / 384) ce

/-- RECV (R104): issues; the bytes that are there already complete it. -/
def execRecv (f : Issue) (supply : Supply) (ue : Bool) (s : State) : Host.Outcome State Fault Refusal :=
  let i := fretIdx f.toFretId
  let fr := s.fret i
  .next (match s.nextIs i 7 with
    | none => s
    | some w =>
      if fr.recv.isSome then s
      else
        let s := (s.setFret i { fr.advance with
          recv := some (bits w 55 52, fr.sramOff w (16 * bits w 51 38), bits w 37 18), recvWait := true }).sramCe f.die.val f.ce
        if bits w 55 52 = 7 || !supply.bytes.isEmpty then s.finishRecv i 0 supply ue else s)

/-- RECV_DONE (R104): the bytes of an issued RECV have arrived. -/
def execRecvDone (f : Issue) (supply : Supply) (s : State) : Host.Outcome State Fault Refusal :=
  .next (s.finishRecv (fretIdx f.toFretId) f.ce supply false)

/-- LOOP (R104 to R106). -/
def execLoop (f : Issue) (s : State) : Host.Outcome State Fault Refusal :=
  let i := fretIdx f.toFretId
  let fr := s.fret i
  .next (match s.nextIs i 0x0B with
    | none => s
    | some w => (s.setFret i (fr.enterLoop w)).sramCe f.die.val f.ce)

/-- Does a WAIT's condition hold (R104)? -/
def State.waitHolds (s : State) (i cond : Nat) : Bool :=
  let f := s.fret i
  match cond with
  | 1 => f.bridgeIssued ≤ f.bridgeDone
  | 2 => f.recv.isNone || !f.recvWait
  | 3 => 1 ≤ (s.lane i).staged
  | _ => f.barIssued ≤ f.barDone

/-- WAIT (R104, R191, R194). -/
def execWait (f : Issue) (s : State) : Host.Outcome State Fault Refusal :=
  let i := fretIdx f.toFretId
  let fr := s.fret i
  .next (match s.nextIs i 0x0C with
    | none => s
    | some w =>
      let c := bits w 3 0
      let s := s.sramCe f.die.val f.ce
      if s.waitHolds i c then s.setFret i fr.advance
      else if c = 3 && (s.lane i).recs.isEmpty then s.stackFault i 0
      else
        let s := if c = 3 then s.setLane i { s.lane i with asked := true } else s
        s.setFret i { fr with stall := .wait c })

/-- WAIT_RELEASE (R104): the condition that stalls the fret holds. -/
def execWaitRelease (f : FretId) (s : State) : Host.Outcome State Fault Refusal :=
  let i := fretIdx f
  let fr := s.fret i
  .next (match fr.stall with
    | .wait c => if fr.run = 1 && !s.held f.die.val 0 && s.waitHolds i c then s.setFret i { fr with stall := .none }.advance else s
    | _ => s)

/-- SWITCH (R102, R116, R213): it waits until everything that the phase started has retired. -/
def execSwitch (f : Issue) (s : State) : Host.Outcome State Fault Refusal :=
  let i := fretIdx f.toFretId
  let fr := s.fret i
  .next (match s.nextIs i 0x0D with
    | none => s
    | some _ =>
      if s.unretired i then s
      else
        let s := s.sramCe f.die.val f.ce
        if s.gated fr then s.setFret i { fr with stall := .gate } else s.switchFret i false)

/-- SWITCH_WAIT_END (R102): the load that held the switch up has ended. -/
def execSwitchWaitEnd (f : FretId) (s : State) : Host.Outcome State Fault Refusal :=
  let i := fretIdx f
  let fr := s.fret i
  .next (if fr.run = 1 && !s.held f.die.val 0 && fr.stall = .switch && fr.st fr.shadow ≠ 1 then
      (s.setFret i { fr with stall := .none }).switchFret i false
    else s)

/-- HALT (R104, R110, R116): the fret stops when everything that the phase started has retired; an uncosted phase ends. -/
def execHalt (f : Issue) (s : State) : Host.Outcome State Fault Refusal :=
  let i := fretIdx f.toFretId
  let fr := s.fret i
  .next (match s.nextIs i 0x0E with
    | none => s
    | some _ =>
      if s.unretired i then s
      else
        let uncosted := match fr.phase with | some p => p.bound.isNone | none => true
        let s := (if uncosted then s.leavePhase i else s).sramCe f.die.val f.ce
        s.setFret i { fr.advance with run := 0, phase := if uncosted then none else fr.phase })

end Sys2Proof.Machine
end

