-- ==== Sys2Proof/Machine/Bridge.lean ====
section
/-! DEFINITION. The bridge: contributions, the fret, die and module levels, delivery, norm partials (R134 to R149,
R348). -/

namespace Sys2Proof.Machine

/-! ### Partial results -/

/-- One row of a partial: its entries (value, position, count) and its count (R140). -/
structure BRow where
  cells : List (F32 × Nat × Nat)
  count : Nat
  deriving DecidableEq, Repr

/-- Addition of the slots' kind, and whether it saturated (R118, R119). -/
def addKind (int : Bool) (a b : F32) : F32 × Bool := if int then Fp.addInt a b.toInt else Fp.addSat a b

/-- Combine two cells of a sum: one whose count is zero is passed over (R136). -/
def combineCell (int : Bool) (a b : F32 × Nat × Nat) : (F32 × Nat × Nat) × Nat :=
  if b.2.2 = 0 then (a, 0)
  else if a.2.2 = 0 then (b, 0)
  else
    let r := addKind int a.1 b.1
    ((r.1, 0, a.2.2 + b.2.2), if r.2 then 1 else 0)

/-- Does entry a stand before entry b (R141)? -/
def entryBefore (int : Bool) (a b : F32 × Nat × Nat) : Bool :=
  let ra := if int then a.1.toInt else Fp.rank141 a.1
  let rb := if int then b.1.toInt else Fp.rank141 b.1
  decide (rb < ra) || (decide (ra = rb) && decide (a.2.1 ≤ b.2.1))

/-- The first k entries in the order of R141. -/
def topEntries (int : Bool) (k : Nat) (es : List (F32 × Nat × Nat)) : List (F32 × Nat × Nat) :=
  (sortBy (entryBefore int) es).take k

/-- Combine two rows of an operation, lower position first, and count the saturations (R136, R141). -/
def BRow.combine (op : Nat) (int : Bool) (k : Nat) (a b : BRow) : BRow × Nat :=
  if op ≤ 2 then
    let cs := List.zipWith (combineCell int) a.cells b.cells
    (⟨cs.map (·.1), a.count + b.count⟩, (cs.map (·.2)).sum)
  else (⟨topEntries int k (a.cells ++ b.cells), a.count + b.count⟩, 0)

/-- A member's result before any level, as rows with a count of saturations. -/
abbrev BPart := List BRow × Nat

/-- Combine two partial results. -/
def combineParts (op : Nat) (int : Bool) (k : Nat) (a b : BPart) : BPart :=
  let rs := List.zipWith (BRow.combine op int k) a.1 b.1
  (rs.map (·.1), a.2 + b.2 + (rs.map (·.2)).sum)

/-- One level: neighbours combine, the last one without a partner passes (R136). -/
def pairUp {α : Type} (f : α → α → α) : List α → List α
  | a :: b :: t => f a b :: pairUp f t
  | l => l

/-- All levels, `fuel` at most. -/
def treeUp {α : Type} (f : α → α → α) : Nat → List α → Option α
  | _, [] => none
  | _, [a] => some a
  | 0, _ => none
  | fuel + 1, l => treeUp f fuel (pairUp f l)

/-- What a member contributes (R140): `lead` is (r × D + d) × g + p of R140. -/
def Contribution.part (c : Contribution) (lead : Nat) : BPart :=
  let rows := (List.range c.rows).map fun r =>
    let es := (List.range c.cols).filterMap fun col =>
      if c.mutes.getD (r * c.cols + col) false then none
      else some (c.vals.getD (r * c.cols + col) 0, lead * c.cols + col, 1)
    match c.op with
    | 1 => ((⟨(List.range c.cols).map fun col =>
        if c.mutes.getD (r * c.cols + col) false then (0, 0, 0) else (c.vals.getD (r * c.cols + col) 0, 0, 1),
        es.length⟩ : BRow), 0)
    | 2 =>
      let t := es.foldl (fun (a : (F32 × Nat × Nat) × Nat) e =>
        let r := combineCell c.int a.1 e
        (r.1, a.2 + r.2)) ((0, 0, 0), 0)
      (⟨[(t.1.1, 0, t.1.2.2)], es.length⟩, t.2)
    | _ => (⟨topEntries c.int c.k es, es.length⟩, 0)
  (rows.map (·.1), (rows.map (·.2)).sum)

/-- The fret level (R136). -/
def fretLevel (ms : List Contribution) (op : Nat) (int : Bool) (k : Nat) (lead : Contribution → Nat) : BPart :=
  (treeUp (combineParts op int k) 10 (ms.map fun c => c.part (lead c))).getD ([], 0)

/-! ### Norm partials (R148, R149) -/

/-- Hold a norm partial with its tag; more than 4,096 of a layer pass and kind are one too many, which the die of that
partial shows (DESIGN CHOICE, log 31: the manual does not name the die). The members of one NORM have one tag: they stay
in the order of their places in the group (log 31). -/
def State.addNorm (s : State) (c : Contribution) (kind die : Nat) (value : F32) : State :=
  let back := decide (c.pass ≠ 0)
  let mine := s.board.norms.filter fun p => p.layer = c.layer && p.backward = back && p.kind = kind
  let s := if 4096 ≤ mine.length then s.flag die Reg.bridgeStatus 3 else s
  if 4096 < mine.length then s
  else s.updBoard fun b =>
    { b with norms := b.norms ++ [NormPart.mk c.layer back kind die c.vid c.runNo c.base c.ordinal value] }

/-- The norm partial of a slot's values: the square of an INT32 element is rounded once (R148, log 16). -/
def normOf (int : Bool) (xs : List F32) : F32 :=
  if int then xs.foldl (fun a x => Fp.add a (Fp.ofInt (x.toInt * x.toInt))) 0#32 else sumSquares xs

/-! ### Delivery (R142 to R144) -/

/-- What rows of a result put into the named slot and the companion: value and mute bit of every column. -/
def BRow.slots (op : Nat) (int : Bool) (k n : Nat) (r : BRow) : List (F32 × Bool) × List (F32 × Bool) :=
  let low : F32 := if int then 0x80000000#32 else 0xFF800000#32
  let cnt : F32 × Bool := (BitVec.ofNat 32 (cap32 r.count), false)
  let fill := fun (l : List (F32 × Bool)) => (List.range n).map fun i => l.getD i (0, true)
  match op with
  | 1 => (fill (r.cells.map fun c => if c.2.2 = 0 then (0, true) else (c.1, false)), fill [cnt])
  | 2 => (fill [if r.count = 0 then (0, true) else ((r.cells.getD 0 (0, 0, 0)).1, false)], fill [cnt])
  | _ =>
    let es := (List.range k).map fun i => r.cells.getD i (low, 0xFFFFFFFF, 0)
    (fill (es.map fun e => (if !int && Fp.isNaN e.1 then Fp.qnan else e.1, decide (r.count = 0))),
     fill (cnt :: es.map fun e => (BitVec.ofNat 32 e.2.1, false)))

/-- Deliver a result to one member. -/
def State.deliverTo (s : State) (c : Contribution) (res : List BRow) : State :=
  let i := c.die * 384 + c.index
  let T := s.odNat (od 0x2100 5)
  let h := ceilDiv c.rows c.size
  let rows := if c.deliver = 2 then (res.drop (c.pos * h)).take h else res
  let pairs := rows.map fun r => r.slots c.op c.int c.k c.cols
  let m := (s.fret i).voicing.m
  let rest := if c.deliver = 2 then List.replicate ((m - rows.length) * c.cols) ((0 : F32), true) else []
  s.updFret i fun f =>
    let f := writeElems f f.voicing T c.slot 0 (pairs.flatMap (·.1) ++ rest)
    writeElems f f.voicing T (c.slot + 1) 0 (pairs.flatMap (·.2) ++ rest)

/-- The operation of a member has retired: its delivery is done (R104). Only operations issued in the active voicing's run
count for it. -/
def State.bridgeRetire (s : State) (c : Contribution) : State :=
  let i := c.die * 384 + c.index
  s.updFret i fun f =>
    if f.voicing.vid ≠ c.vid || SMap.get 0 s.board.runs (i * 65536 + c.vid) ≠ c.runNo + 1 then f
    else if c.op = 5 then { f with barDone := f.barDone + 1 } else { f with bridgeDone := f.bridgeDone + 1 }

/-- Complete an operation over its members with its result, by die (R142, R144, R148, R152). At die or job extent the
operation counts on both compute dies, whatever deliver says (DESIGN CHOICE, log 31). -/
def State.completeBridge (s : State) (ms : List Contribution) (res : List BRow) : State :=
  match ms with
  | [] => s
  | c :: _ =>
    let ext := decide (1 ≤ c.extent)
    let dies := if ext then [0, 1] else [c.die]
    let root := if ext then 0 else c.die
    let empties := (res.filter fun r => r.count = 0).length
    let reduces := 1 ≤ c.op && c.op ≤ 4
    let s := dies.foldl (fun s d => s.bump d Reg.bridgeOpCount 1) s
    let s := if reduces then dies.foldl (fun s d =>
      if c.deliver = 0 && d ≠ root then s else s.flagCount d Reg.bridgeStatus 0 Reg.bridgeEmptyCount empties) s else s
    let s := if reduces && c.norm && c.op ≤ 2 then
        s.addNorm c 1 root (normOf c.int
          (res.flatMap fun r => r.cells.filterMap fun x => if x.2.2 = 0 then none else some x.1))
      else s
    let s := if reduces then (ms.filter fun x => c.deliver ≠ 0 || (x.pos = 0 && x.die = root)).foldl
      (fun s x => s.deliverTo x res) s else s
    let s := if c.op = 6 then ms.foldl (fun s x => s.addNorm x x.deliver x.die (normOf x.int
        (x.vals.zip x.mutes |>.filterMap fun v => if v.2 then none else some v.1))) s else s
    let s := ms.foldl (fun s x => s.bridgeRetire x) s
    (s.updBoard fun b => { b with contribs := b.contribs.filter fun x => !ms.contains x }).serveWindows

/-! ### The module level (R138, R348) -/

/-- The operation number that the modules match, beside layer, tensor, pass and micro-batch (log 17). -/
def Contribution.opno (c : Contribution) : Nat := c.base + 384 * c.ordinal

/-- Words of one unit of a partial: a cell with its count, an entry with its position, a whole TOPK row. -/
def unitWords (op k : Nat) : Nat := match op with | 1 => 2 | 2 => 2 | 3 => 3 | _ => 2 * k + 1

/-- Words of a row. -/
def BRow.words (op k : Nat) (r : BRow) : List F32 :=
  if op ≤ 2 then r.cells.flatMap fun c => [c.1, BitVec.ofNat 32 c.2.2]
  else BitVec.ofNat 32 r.count :: ((List.range k).map fun i => r.cells.getD i (0, 0xFFFFFFFF, 0)).flatMap fun c =>
    [c.1, BitVec.ofNat 32 c.2.1]

/-- A row from its words. -/
def BRow.ofWords (op : Nat) (ws : List F32) : BRow :=
  let pairs := chunks 2
  if op ≤ 2 then
    let cs := (pairs ws).map fun p => (p.getD 0 0, 0, (p.getD 1 0).toNat)
    ⟨cs, (cs.map fun c => c.2.2).sum⟩
  else
    ⟨((pairs (ws.drop 1)).filterMap fun p =>
      if (p.getD 1 0).toNat = 0xFFFFFFFF then none else some (p.getD 0 0, (p.getD 1 0).toNat, 1)),
     (ws.getD 0 0).toNat⟩

/-- Packets of a unit: a TOPK row of more than 64 words takes several. -/
def unitPackets (op k : Nat) : Nat := max 1 (ceilDiv (unitWords op k) 64)

/-- The chunks of a partial, at most 64 words each: as many whole units as fit, or the pieces of one unit. -/
def bridgeChunks (op k : Nat) (rows : List BRow) : List (List F32) :=
  let u := unitWords op k
  if u ≤ 64 then chunks (u * (64 / u)) (rows.flatMap (·.words op k)) else rows.flatMap fun r => chunks 64 (r.words op k)

/-- The rows of all chunks. -/
def rowsOfChunks (op k n : Nat) (cs : List (List F32)) : List BRow :=
  let per := match op with | 1 => 2 * n | 2 => 2 | _ => unitWords op k
  (chunks per cs.flatten).map (BRow.ofWords op)

/-- k of the operation a tree entry belongs to, and the kind of its values: from the module's own contribution. -/
def State.treeMember (s : State) (t : TreeOp) : Option Contribution :=
  s.board.contribs.find? fun c => c.extent = 2 && t.is c.layer c.tensor c.pass c.mb c.opno

/-- The words of a child's contribution from a chunk on, where all `q` packets of the unit are there. -/
def TreeOp.unit (t : TreeOp) (level first q : Nat) : Option (List F32) :=
  let ps := (List.range q).filterMap fun j => (t.parts.find? fun p => p.1 = level && p.2.1 = first + j).map (·.2.2)
  if ps.length = q then some ps.flatten else none

/-- Combine a chunk when every contribution to it is there, and send it up, or down from rank 0 (R348). The module level
runs on X0, which has no ACC window: C0 counts its saturations (DESIGN CHOICE, log 31). -/
def State.chunkUp (s : State) (t : TreeOp) (chunk : Nat) : State :=
  let levels := childLevels s.modules s.rank
  match s.treeMember t with
  | none => s
  | some c =>
    let q := unitPackets c.op c.k
    let first := chunk / q * q
    let got := fun l => t.unit l first q
    if t.bad || !((0 :: levels).all fun l => (got l).isSome) then s
    else
      let u := unitWords c.op c.k
      let rows := fun l => (chunks u ((got l).getD [])).map (BRow.ofWords c.op)
      let r := levels.foldl (fun (a : BPart) l => combineParts c.op c.int c.k a (rows l, 0)) (rows 0, 0)
      let data := r.1.flatMap (·.words c.op c.k)
      let s := s.flagCount 0 Reg.accStatus (if c.int then 2 else 1) (if c.int then Reg.accIntSatCount else Reg.accSatCount) r.2
      (if q = 1 then [data] else chunks 64 data).zipIdx.foldl (fun s p =>
        if s.rank = 0 then
          let now := (s.fab.tree.find? fun x => x.is t.layer t.tensor t.pass t.mb t.opno).getD t
          s.chunkDown now (first + p.2) p.1
        else
          let up := parentOf s.rank
          s.sendChunk t up.2 (first + p.2) up.1 false p.1) s

/-! ### The commands -/

/-- The groups' members that match one operation, by position, on a die: the same place in the program of the same voicing
and group (R146; that the voicing and the group's shape agree too is DEDUCED, log 31). -/
def State.members (s : State) (c : Contribution) (die : Nat) : List Contribution :=
  (List.range c.size).filterMap fun p => s.board.contribs.find? fun x =>
    x.die = die && x.vid = c.vid && x.base = c.base && x.size = c.size && x.ordinal = c.ordinal && x.pos = p

/-- Do the members match (R146)? -/
def sameOp (c : Contribution) (ms : List Contribution) : Bool :=
  ms.all fun x => x.op = c.op && x.rows = c.rows && x.cols = c.cols

/-- BRIDGE (R133, R140, R145): the operation starts when its slot, and the companion of one that writes it, are free. -/
def execBridge (f : Issue) (wait : Nat) (s : State) : Host.Outcome State Fault Refusal :=
  let i := fretIdx f.toFretId
  let fr := s.fret i
  let d := f.die.val
  .next (match s.nextIs i 8 with
    | none => s
    | some w =>
      let v := fr.voicing
      let slot := bits w 55 52
      if s.slotBusy i slot || (v.op ≤ 4 && s.slotBusy i (slot + 1)) then s
      else
      let rows := bits w 51 45
      let idx := i % 384
      let vals := slotValues fr v (s.odNat (od 0x2100 5)) slot (rows * v.n)
      let mutes := slotMutes fr v slot (rows * v.n)
      let c : Contribution :=
        { die := d, index := idx, pos := v.position, base := idx - v.position, size := v.size
          ordinal := fr.bridgeIssued + fr.barIssued, runNo := SMap.get 0 s.board.runs (i * 65536 + v.vid) - 1, vid := v.vid, op := v.op, deliver := v.deliver
          extent := v.extent, norm := v.norm, k := v.k, rows := rows, cols := v.n, slot := slot, int := v.int
          layer := v.layer, tensor := v.tensor, pass := v.pass, mb := (s.frameOf fr).2
          vals := vals, mutes := mutes }
      let s := (s.aliasWait i wait).sramCe d f.ce
      let s := if (v.op = 3 || v.op = 4) && !v.int && ((vals.zip mutes).any fun x => !x.2 && Fp.isNaN x.1) then
        s.flag d Reg.bridgeStatus 1 else s
      let s := s.updFret i fun f =>
        let f := f.advance
        if v.op = 5 then { f with barIssued := f.barIssued + 1 } else { f with bridgeIssued := f.bridgeIssued + 1 }
      s.updBoard fun b => { b with contribs := b.contribs ++ [c] })

/-- The die-level result of an operation, with its saturations counted where they happened. -/
def State.dieResult (s : State) (c : Contribution) (ms0 ms1 : List Contribution) : List BRow × State :=
  let D := if 1 ≤ c.extent then 2 else 1
  let r := if c.extent = 2 then s.rank else 0
  let at' := fun die => fretLevel (if die = 0 then ms0 else ms1) c.op c.int c.k fun x =>
    (r * D + if 1 ≤ c.extent then die else 0) * c.size + x.pos
  let count := fun (s : State) d n =>
    s.flagCount d Reg.accStatus (if c.int then 2 else 1) (if c.int then Reg.accIntSatCount else Reg.accSatCount) n
  if 1 ≤ c.extent then
    let a := at' 0
    let b := at' 1
    let t := combineParts c.op c.int c.k (a.1, 0) (b.1, 0)
    (t.1, count (count s 0 (a.2 + t.2)) 1 b.2)
  else
    let a := at' c.die
    (a.1, count s c.die a.2)

/-- The entry of the parameter map whose reduced gradient a module-level sum delivers, with KEEP. -/
def State.keepEntry (s : State) (c : Contribution) : Option Param :=
  if c.extent = 2 && c.op = 1 && c.pass = 2 then s.params.find? fun p => p.keep && p.layer = c.layer && p.tensor = c.tensor
  else none

/-- In a replay X0 delivers the kept gradient of such a tensor and sends nothing (R296). -/
def State.keepsOp (s : State) (c : Contribution) : Bool := s.upd.rerun = 1 && (s.keepEntry c).isSome

/-- Does the read of that gradient wait for memory (R320)? -/
def State.keptWaits (s : State) (c : Contribution) : Bool :=
  match s.keepEntry c with
  | some p => s.spansWait [(s.keepAddr p, 4 * (p.rows * p.cols) + 4, false)]
  | none => false

/-- The operation's result from the kept gradient: the values from its place in the tensor, the counts as every module of the
job contributes them (R296, log 33); none where the kept gradient is not whole. -/
def State.keptResult (s : State) (c : Contribution) (own : List BRow) : Option (List BRow) :=
  match s.keepEntry c with
  | none => none
  | some p => (s.keptGrad p).map fun g =>
    let at' := Config.bridgePlace c.vid c.opno c.base
    own.zipIdx.map fun r => ⟨r.1.cells.zipIdx.map fun x =>
      (g.getD ((at'.1 + r.2) * p.cols + at'.2 + x.2) 0, 0, x.1.2.2 * s.modules), r.1.count * s.modules⟩

/-- BRIDGE_RESULT (R136 to R144, R146, R296, R348): the group's oldest operation completes, or its module level starts or
ends. -/
def execBridgeResult (die : Fin 2) (base : Fin 384) (s : State) : Host.Outcome State Fault Refusal :=
  .next (match s.board.contribs.find? fun c => c.die = die.val && c.base = base.val with
    | none => s
    | some c =>
      let ext := decide (1 ≤ c.extent)
      let ms0 := if ext || c.die = 0 then s.members c 0 else []
      let ms1 := if ext || c.die = 1 then s.members c 1 else []
      let ms := ms0 ++ ms1
      if s.held die.val 2 then s
      else if ms.length < c.size * (if ext then 2 else 1) then s
      else if !sameOp c ms then (if ext then [0, 1] else [c.die]).foldl (fun s d => s.flag d Reg.bridgeStatus 2) s
      else if s.keepsOp c then
        if s.keptWaits c then s else
        let r := s.dieResult c ms0 ms1
        match s.keptResult c r.1 with
        | some res => r.2.completeBridge ms res
        | none => match s.keepEntry c with
          | some p => s.failRead (s.keepAddr p) (4 * (p.rows * p.cols) + 4)
          | none => s
      else if c.extent = 2 && s.modules ≠ 1 then
        let t := (s.fab.tree.find? fun t => t.is c.layer c.tensor c.pass c.mb c.opno).getD
          ⟨c.layer, c.tensor, c.pass, c.mb, c.opno, c.op, c.rows, c.cols, [], [], false⟩
        let r := s.dieResult c ms0 ms1
        let cs := bridgeChunks c.op c.k r.1
        if t.bad || t.op ≠ c.op || t.rows ≠ c.rows || t.n ≠ c.cols then
          [0, 1].foldl (fun s d => s.flag d Reg.bridgeStatus 2) (s.setTree { t with bad := true })
        else if t.down.length = cs.length then
          let res := rowsOfChunks c.op c.k c.cols ((List.range cs.length).map fun k =>
            ((t.down.find? fun p => p.1 = k).map (·.2)).getD [])
          let s := s.completeBridge ms res
          { s with fab := { s.fab with tree := s.fab.tree.filter fun x => !x.is t.layer t.tensor t.pass t.mb t.opno } }
        else if t.parts.any fun p => p.1 = 0 then s
        else
          let t := { t with parts := t.parts ++ cs.zipIdx.map fun p => (0, p.2, p.1) }
          (List.range (ceilDiv cs.length (unitPackets c.op c.k))).foldl (fun s g =>
            match s.fab.tree.find? fun x => x.is t.layer t.tensor t.pass t.mb t.opno with
            | some x => s.chunkUp x (g * unitPackets c.op c.k)
            | none => s) (r.2.setTree t)
      else if c.op = 5 || c.op = 6 then s.completeBridge ms []
      else
        let r := s.dieResult c ms0 ms1
        r.2.completeBridge ms r.1)

/-- BRIDGE_PACKET (R146, R348). Operations that do not match at the module level show on both compute dies, which both take
part (DESIGN CHOICE, log 31). -/
def execBridgePacket (layer tensor pass mb opno chunk level op rows n : Nat) (data : List F32) (down : Bool)
    (s : State) : Host.Outcome State Fault Refusal :=
  let mine := fun (p : Packet) => p.op = 8 && leAt p.data 0 2 = layer && leAt p.data 2 1 = tensor && leAt p.data 6 4 = opno
    && leAt p.data 10 2 = chunk
  let s := match s.fab.inbox.find? mine with
    | some p => { s with fab := { s.fab with inbox := s.fab.inbox.erase p } }
    | none => s
  let t := (s.fab.tree.find? fun t => t.is layer tensor pass mb opno).getD
    ⟨layer, tensor, pass, mb, opno, op, rows, n, [], [], false⟩
  .next (if t.bad || t.op ≠ op || t.rows ≠ rows || t.n ≠ n then
      [0, 1].foldl (fun s d => s.flag d Reg.bridgeStatus 2) (s.setTree { t with bad := true })
    else if down then (if t.down.any fun p => p.1 = chunk then s else s.chunkDown t chunk data)
    else if t.parts.any fun p => p.1 = level && p.2.1 = chunk then s
    else
      let t := { t with parts := t.parts ++ [(level, chunk, data)] }
      if t.op = 7 then (s.setTree t).sumUp t chunk else (s.setTree t).chunkUp t chunk)

end Sys2Proof.Machine
end

