-- ==== Sys2Proof/Machine/Spares.lean ====
section
/-! DEFINITION. Substitution: the spare record, life-log entries of substitutions, and fret faults (R78 to R82, R111,
R461, R465). -/

namespace Sys2Proof.Machine

/-- The bypassed physical row of a column, when its spare is in use (R78, R114). -/
def State.bypassed (s : State) (die col : Nat) : Option Nat :=
  match SMap.get 0 s.life.spare.frets (die * 16 + col) with | 0 => none | r + 1 => some r
/-- Is the column's spare free: not in use and not failed itself (R81, R82)? -/
def State.spareFree (s : State) (die col : Nat) : Bool :=
  (s.bypassed die col).isNone && !s.life.spare.failed.contains (die, col, 24)
/-- The logical row of a physical fret, none when it holds no logical position (R78, R81). -/
def State.logicalRow (s : State) (die col phys : Nat) : Option Nat :=
  let b := (s.bypassed die col).getD 24
  if phys = b then none else some (if phys < b then phys else phys - 1)
/-- The physical row of a logical row. -/
def State.physicalRow (s : State) (die col row : Nat) : Nat :=
  if row < (s.bypassed die col).getD 24 then row else row + 1

/-- Record a physical fret as failed. -/
def State.markFailed (s : State) (die col phys : Nat) : State :=
  if s.life.spare.failed.contains (die, col, phys) then s
  else s.updSpare fun r => { r with failed := r.failed ++ [(die, col, phys)] }

/-- Bypass a physical fret: the column's spare is in use from now on (R78, R80). -/
def State.bypassFret (s : State) (die col phys : Nat) : State :=
  let s := s.updSpare fun r => { r with frets := SMap.set 0 r.frets (die * 16 + col) (phys + 1) }
  let s := s.markFailed die col phys
  let s := s.event 0x0801 (u8 die ++ u8 col ++ u8 phys)
  s.logSubst die 0 col phys

/-- The substitute of a fret: nothing of the old contents but what was loaded last (R81). -/
def Fret.substitute (f : Fret) : Fret :=
  { Fret.reset with
    run := 2, active := f.active, last0 := f.last0, last1 := f.last1
    reload := (if f.last0.isSome then [0] else []) ++ (if f.last1.isSome then [1] else [])
    st0 := if f.last0.isSome then 1 else 0, st1 := if f.last1.isSome then 1 else 0 }

/-- A load in progress writes the failed fret no more; its substitute takes what was loaded last (R81 step 5, R101; log 30). -/
def State.dropLoad (s : State) (i : Nat) : State :=
  let c := s.cdie (i / 384)
  s.setCDie (i / 384) { c with load := c.load.map fun l => { l with slots := l.slots.filter fun x => x.1 ≠ i } }

/-- A die leaves service (R82, R449, R461, R464). -/
def State.dieLeaves (s : State) (die : Nat) : State :=
  let s := if die < 2 then s.setCDie die { s.cdie die with out := true } else s
  s.leaveService die (dieBlock die) 0xFFFF

/-- Where a fret fault was (R114, R430). -/
def State.faultLoc (s : State) (die col phys cause : Nat) : State :=
  (s.flag die Reg.fretStatus 5).setReg die Reg.fretFaultLoc (0x10000 + cause * 4096 + col * 256 + phys)

/-- A fret fault (R81, R82); cause 1 SRAM, 2 self-check, 3 twice the bound. A fret without a logical position writes a
life-log entry of kind 1, as a substitution does (DESIGN CHOICE, log 31: R470 lists no kind for it). -/
def State.fretFault (s : State) (die col phys cause : Nat) : State :=
  let s := if cause = 1 then s.flag die Reg.fretStatus 3 else s
  let s := s.faultLoc die col phys cause
  match s.logicalRow die col phys with
  | none =>
    let s := s.logSubst die 0 col phys
    if phys = 24 && (s.bypassed die col).isNone then s.markFailed die col phys else s
  | some row =>
    let i := die * 384 + col * 24 + row
    let s := s.stopFrets [die]
    if s.spareFree die col then
      let s := s.jobFault 2 (some 4096)
      (((s.bypassFret die col phys).updFret i Fret.substitute).dropLoad i).sweepTables die
    else
      let s := (s.breakStep 2 none).setFault 2
      let s := s.flag die Reg.fretStatus 6
      let s := (s.markFailed die col phys).logSubst die 0 col phys
      s.dieLeaves die

end Sys2Proof.Machine
end

