-- ==== Sys2Proof/Machine/Phases.lean ====
section
/-! DEFINITION. Voicing loads, phases, fret faults and the fret window's commands (R24, R81 to R84, R100, R101, R110,
R111, R129 to R131, R212). -/

namespace Sys2Proof.Machine

/-! ### Loads (R100, R101) -/

/-- The frets of a load, by logical row and then column (R114). -/
def loadTargets (d v : Nat) : List Nat :=
  if bits v 1 1 = 1 then (List.range 24).flatMap fun j => (List.range 16).map fun c => d * 384 + c * 24 + j
  else [d * 384 + bits v 12 9 * 24 + bits v 8 4]

/-- A write of FRET.LOAD_CTRL that the guard lets through (R101, R114). -/
def State.loadCtrl (s : State) (d v : Nat) : State :=
  if s.held d 0 then s
  else if v % 2 = 1 && s.reg d Reg.fretLoadStatus % 2 = 1 then s.flag d Reg.fretLoadStatus 2
  else
    let s := s.setReg d Reg.fretLoadCtrl (v &&& 0x1FF2)
    let a := s.reg d Reg.fretLoadAddr
    let slots := (loadTargets d v).map fun i => (i, (s.fret i).shadow)
    let l : VLoad := ⟨a, bits v 1 1 = 1, bits v 12 9, bits v 8 4, s.time, s.imageAt a, slots⟩
    if v % 2 = 0 || (!l.broadcast && 24 ≤ l.row) then s
    else
      let s := s.flag d Reg.fretLoadStatus 0
      let s := s.setCDie d { s.cdie d with load := some l }
      (slots.foldl (fun s x => s.updFret x.1 Fret.startLoad) s).sweepTables d

/-- VOICING_LOAD (R101, R114, R425). -/
def execVoicingLoad (die : Fin 2) (value : BitVec 32) (priv : Bool) (s : State) :
    Host.Outcome State Fault Refusal :=
  .next (if s.guardWrite die.val 0 priv then s.loadCtrl die.val value.toNat else s.denied die.val 0)

/-- VOICING_LOAD_DONE (R100, R101, R114, R311): the image is read once. -/
def execVoicingLoadDone (die : Fin 2) (ue : Bool) (s : State) : Host.Outcome State Fault Refusal :=
  let d := die.val
  .next (match (s.cdie d).load with
    | none => s
    | some l =>
      if s.held d 0 || s.spansWait [(l.addr, 16384, false)] then s else
      let s := (s.setCDie d { s.cdie d with load := none }).meetPoison l.addr 16384
      let img := readImage l.start l.read (s.imageAt l.addr)
      let r := l.slots.foldl (fun (p : Option (Nat × Nat) × State) x =>
        let f := p.2.fret x.1
        if f.st x.2 ≠ 1 || f.reload.contains x.2 then p
        else
          let q := p.2.finishLoad x.1 x.2 l.addr img ue
          (if p.1.isSome || q.1 = 0 then p.1 else some (q.1, x.1), q.2)) (none, s)
      let s := r.2.sweepTables d
      let s := s.setField d Reg.fretLoadStatus 0 0 0
      let s := s.flag d Reg.fretLoadStatus 1
      match r.1 with
      | none => s.setField d Reg.fretLoadStatus 19 16 0
      | some e =>
        let s := s.setField d Reg.fretLoadStatus 19 16 e.1
        let s := s.setField d Reg.fretLoadStatus 11 8 (fretCol e.2)
        s.setField d Reg.fretLoadStatus 7 3 (fretRow e.2))

/-! ### Phases (R24, R110, R111) -/

/-- Is the fret running a voicing whose phase has no bound yet? -/
def Fret.awaitsBound (f : Fret) (vid : Nat) : Bool :=
  f.run = 1 && f.active < 2 && f.voicing.vid = vid && (match f.phase with | some p => p.bound.isNone | none => true)

/-- Does the shadow slot hold or receive the voicing? -/
def Fret.shadows (f : Fret) (vid : Nat) : Bool :=
  f.st f.shadow = 1 || (f.st f.shadow = 2 && (Voicing.of (f.img f.shadow)).vid = vid)

/-- Does the shadow slot hold another image of the voicing's ladder set, in whose place the supervisor can load it (R212)? -/
def State.shadowsSet (s : State) (i vid : Nat) : Bool :=
  let f := s.fret i
  let v := Voicing.of (f.img f.shadow)
  f.st f.shadow = 2 && v.laddered && v.vid ≠ vid && v.vid / 64 = vid / 64 && (s.imageOf i vid).isSome

/-- Was the frame that runs a phase accepted (R24): an EVENTS frame of the step and micro-batch that has its ACCEPT? -/
def State.frameAccepted (s : State) (frame : Option (Nat × Nat)) : Bool :=
  match frame with
  | none => true
  | some q => s.adm.frames.any fun h => h.isEvents && h.waiting = 0 && h.step = q.1 && h.mb = q.2

/-- Arm a fret for a phase; a bound written again for the same phase replaces the old one (R111). -/
def Fret.arm (f : Fret) (a : FretPhase × Option (Nat × Nat)) : Fret :=
  { f with armed := (f.armed.filter fun x => !(x.1.vid = a.1.vid && x.2 = a.2)) ++ [a] }

/-- One fret takes part in a phase: its bound and frame are written, no bound for a voicing that has no cost (R110), and a halted
fret switches into the voicing (R111). The shadow slot takes the image at the rungs in force first (R212). -/
def State.armFret (s : State) (i vid bound : Nat) (frame : Option (Nat × Nat)) : State :=
  let f := s.fret i
  if f.awaitsBound vid then
    s.setFret i { f with
      phase := some ⟨vid, if (Descr.of f.aimg).fixed = 0 then none else some bound, false,
        match f.phase with | some p => p.start | none => s.time⟩, frame := frame }
  else
    let s := if s.shadowsSet i vid then s.loadShadow i vid else s
    let s := s.updFret i (·.arm (⟨vid, some bound, false, s.time⟩, frame))
    if f.run = 0 then s.switchFret i true else s

/-- A phase of a die over frets (R133, R233): those that run the voicing already have begun it. -/
def State.openPhase (s : State) (d vid bound : Nat) (idx : List Nat) : State :=
  let began := idx.filter fun i => (s.fret i).awaitsBound vid
  let start := (began.filterMap fun i => (s.fret i).phase.map (·.start)).foldl min s.time
  s.updBoard fun b => { b with phases := b.phases ++ [DiePhase.mk d vid idx began 0 0 0 start bound false] }

/-- PHASE_START (R24, R111, R212): for an accepted frame or for none, the bound and the frame are written. -/
def execPhaseStart (die : Fin 2) (vid : BitVec 16) (bound first count : Nat) (frame : Option (Nat × Nat)) (s : State) :
    Host.Outcome State Fault Refusal :=
  let d := die.val
  let v := s.rungVid s.library vid.toNat
  let all := (List.range 384).filter fun k => first ≤ k && k < first + count
  let idx := (all.map fun k => d * 384 + k).filter fun i =>
    let f := s.fret i
    f.run ≠ 2 && (f.awaitsBound v || f.shadows v || s.shadowsSet i v)
  .next (if idx.isEmpty || s.dieOut d || s.held d 0 || !s.frameAccepted frame then s
    else idx.foldl (fun s i => s.armFret i v bound frame) (s.openPhase d v bound idx))

/-- Is a fault of a class other than OVERRUN in flight (R385): one of the step, a repeat, a channel or a port that retrains? -/
def State.faultInFlight (s : State) : Bool :=
  s.upd.fault.isSome || !s.num.repeating.isEmpty || s.adm.chanSince.isSome || s.adm.portSince.isSome
    || (!s.dram.window && !s.dram.training.isEmpty) || s.fab.ports.any fun p => p.state = 4

/-- OVERRUN (R111, R385): the phase runs on. -/
def execOverrun (f : FretId) (s : State) : Host.Outcome State Fault Refusal :=
  let i := fretIdx f
  let fr := s.fret i
  let d := f.die.val
  .next (match fr.phase with
    | none => s
    | some p =>
      if p.bound.isNone || p.overran then s
      else
        let told := s.board.phases.any fun q => q.runs i && q.told
        let s := s.updBoard fun b => { b with phases := b.phases.map fun q => if q.runs i then { q with told := true } else q }
        let s := s.setFret i { fr with phase := some { p with overran := true } }
        let s := (s.flag d Reg.fretStatus 2).bump d Reg.fretOverrunCount 1
        if told || s.faultInFlight || fr.frame.isNone then s
        else s.breakFrames 0x0D s.curStep ((s.adm.frames.filter fun h => h.inFlight && h.isEvents).map fun h =>
          (h.id, h.bound + Config.overrunRise p.vid s.curStep)))

/-- PHASE_AT_TWICE_BOUND (R81, R111). -/
def execPhaseAtTwiceBound (f : FretId) (s : State) : Host.Outcome State Fault Refusal :=
  .next (match (s.fret (fretIdx f)).phase with
    | some p => if p.bound.isSome then
        s.fretFault f.die.val f.col.val (s.physicalRow f.die.val f.col.val f.row.val) 3 else s
    | none => s)

/-- Does a physical fret run a phase that has a bound: the third case of R81 does not apply to another (R110)? -/
def State.bounded (s : State) (die col phys : Nat) : Bool :=
  match s.logicalRow die col phys with
  | some row => match (s.fret (die * 384 + col * 24 + row)).phase with | some p => p.bound.isSome | none => false
  | none => false

/-- FRET_FAULT (R81, R82, R84). -/
def execFretFault (die : Fin 2) (col : Fin 16) (physRow : Fin 25) (report : FretReport) (s : State) :
    Host.Outcome State Fault Refusal :=
  let fault := fun cause => (s.sramCe die.val report.ce).fretFault die.val col.val physRow.val cause
  .next (match report.cause with
    | .sram => fault 1
    | .selfCheck => fault 2
    | .twiceBound => if s.bounded die.val col.val physRow.val then fault 3 else s)

/-- SPARE_VOICING_RELOAD_DONE (R81 step 5): the slots of the column's substitute hold their images, but one that a later load
writes. -/
def execSpareVoicingReloadDone (die : Fin 2) (col : Fin 16) (s : State) : Host.Outcome State Fault Refusal :=
  let d := die.val
  .next (if s.held d 0 then s else ((List.range 24).foldl (fun s j =>
    let i := d * 384 + col.val * 24 + j
    let one := fun (s : State) slot (last : Option Nat) => match last with
      | some a =>
        if (s.fret i).reload.contains slot then ((s.meetPoison a 16384).finishLoad i slot a (s.imageAt a) false).2 else s
      | none => s
    let f := s.fret i
    if f.reload.isEmpty then s
    else (one (one s 0 f.last0) 1 f.last1).updFret i fun f => { f with reload := [] }) s).sweepTables d)

/-! ### The fret window (R83, R129 to R131) -/

/-- WINDOW_WRITE (R83, R84, R129, R131): a write to a slot that an operation in flight names waits (R130); one whose address names no fret
changes nothing. -/
def execWindowWrite (addr width : Nat) (data : WindowData) (s : State) : Host.Outcome State Fault Refusal :=
  .next (match (windowPlace addr).1 with
    | none => s
    | some i =>
      if inWindows addr && !s.held (i / 384) 0 then (s.windowWrite addr width data.value.toNat).sramCe (i / 384) data.ce else s)

/-- WINDOW_TIMEOUT (R130): a write is dropped, a read is answered with all ones. -/
def execWindowTimeout (f : FretId) (write0 : Bool) (s : State) : Host.Outcome State Fault Refusal :=
  .next (s.windowTimeout (fretIdx f) write0)

end Sys2Proof.Machine
end

