-- ==== Sys2Proof/Machine/Numerics.lean ====
section
/-! DEFINITION. Numerics supervision: pass records, the gate and the repeat, the step verdict, the cube, the chooser,
the step records (R65, R73, R74, R150, R210 to R231, R497). -/

namespace Sys2Proof.Machine

/-! ### Rungs (R211) -/

/-- A rung's rank in comparisons: rung 7 counts as one below the next wider format's. -/
def PassRec.rank (p : PassRec) (r : Nat) : Nat := if r = 7 then p.wider - 1 else r
/-- The rung of a rank: a rank below the next wider format's stands for rung 7. -/
def PassRec.rungOf (p : PassRec) (r : Nat) : Nat := if p.compiled = 7 && r < p.wider then 7 else r
/-- The next wider rung, none from BF16. -/
def PassRec.up (p : PassRec) (r : Nat) : Option Nat := if r = 7 then some p.wider else if 5 ≤ r then none else some (r + 1)
/-- The higher of two rungs. -/
def PassRec.higher (p : PassRec) (a b : Nat) : Nat := if p.rank a < p.rank b then b else a

/-- A pass's record number (R211). -/
def State.passNo (s : State) (layer : Nat) (backward : Bool) : Option Nat :=
  s.num.passes.findIdx? fun p => p.layer = layer && p.backward = backward
/-- Change a pass record. -/
def State.updPass (s : State) (q : Nat) (g : PassRec → PassRec) : State :=
  { s with num := { s.num with passes := s.num.passes.modify q g } }

/-! ### Statistics (R73, R74, R150) -/

/-- One die's statistics of a run, over its 384 bridge indices (R150). -/
def ConvRun.dieStat (c : ConvRun) (d : Nat) : ConvStat :=
  (treeUp ConvStat.join 10 ((List.range 384).map fun k =>
    ((c.parts.find? fun p => p.1 = d * 384 + k).map (·.2)).getD ConvStat.empty)).getD ConvStat.empty
/-- A run's statistics over both dies. -/
def ConvRun.stat (c : ConvRun) : ConvStat := (c.dieStat 0).join (c.dieStat 1)

/-- Is the run a laddered pass's conversion, of the pass (R210)? -/
def ConvRun.covers (c : ConvRun) (layer : Nat) (backward : Bool) : Bool :=
  c.layer = layer && c.pass ≤ 3 && (backward = decide (c.pass ≠ 0))

/-- The step record of runs of one layer, tensor and pass in ascending micro-batch (R74). -/
def stepRecord (runs : List ConvRun) : Bytes :=
  let rs := sortBy (fun (a b : ConvRun) => decide (a.mb ≤ b.mb)) runs
  match rs.getLast? with
  | none => []
  | some l =>
    let t := (rs.map ConvRun.stat).foldl ConvStat.join ConvStat.empty
    u16 l.layer ++ u8 l.tensor ++ u8 (l.pass % 16) ++ u8 l.format ++ u8 l.mode ++ u16 0 ++ u64 t.elements ++ u32 t.sats
      ++ u32 t.unders ++ u32 t.nonfin ++ u32 t.clamps ++ u32 t.sse.toNat ++ u32 t.ssi.toNat ++ u32 t.maxAbs.toNat
      ++ [match t.scMin with | some v => BitVec.ofNat 8 v | none => Config.noScaleMin]
      ++ [match t.scMax with | some v => BitVec.ofNat 8 v | none => Config.noScaleMax] ++ u16 0

/-- A run's place in the order of R497. -/
def ConvRun.key (c : ConvRun) : Nat := (c.layer * 256 + c.tensor) * 16 + c.pass % 16

/-- The step records, in ascending layer, tensor and pass (R497). -/
def State.stepRecords (s : State) : List Bytes :=
  let keys := sortBy (fun (a b : Nat) => decide (a ≤ b)) (s.board.convs.map ConvRun.key).eraseDups
  keys.map fun k => stepRecord (s.board.convs.filter fun c => c.key = k)

/-! ### Images of the ladder sets (R212, R215, R218) -/

/-- The repeat cost of a pass, from its current rung to the next (R218). -/
def State.repeatCost (s : State) (q : Nat) (p : PassRec) (new : Nat) : Nat :=
  let lib := s.library
  let own := lib.filter fun x =>
    let v := Voicing.of x.2
    v.layer = p.layer && v.backward = p.backward && v.laddered && x.1 % 8 = p.current && bits x.1 5 3 = s.inputRung v
  let used := lib.filterMap fun x =>
    let v := Voicing.of x.2
    if v.srcPass = q && bits x.1 5 3 = p.current && x.1 % 8 = s.rungOfPass v.layer v.backward then
      (libImage lib (vidIn x.1 new)).map fun i => ((Descr.of i).fixed, (Descr.of x.2).fixed)
    else none
  2048 + (own.map fun x => (Descr.of x.2).repeatCycles).sum + (used.map (·.1)).sum - (used.map (·.2)).sum

/-- The frets of a pass: those whose lane carries its mark (R215). -/
def State.passFrets (s : State) (layer : Nat) (backward : Bool) : List Nat :=
  s.slanes.filterMap fun p => match p.2.mark with
    | some m => if m.layer = layer && m.backward = backward then some p.1 else none
    | none => none

/-- A lane returns to its state at the start of the pass: pushes go, drawn records are drawable again (R215 step 2). -/
def State.rewindLane (s : State) (i : Nat) : State :=
  let l := s.lane i
  match l.mark with
  | none => s
  | some m =>
    let s := l.kept.foldl (fun s r => s.storeSoon (s.laneAddr i r.1) r.2) s
    s.setLane i { l with recs := m.recs, pushes := m.pushes, staged := 0, asked := false, kept := [] }

/-- A pass record with nothing seen. -/
def PassRec.blank (layer : Nat) (backward : Bool) (current pending : Nat) : PassRec :=
  { layer := layer, backward := backward, compiled := current, base := current, wider := 0, current := current
    pending := pending, next := pending, repeatsStep := 0, repeats := 0, survived := 0, zeroRun := 0, normW := 0, normG := 0
    normU := 0, ratio := 0, agreeD := 0, agreeQ := 0, agreeFails := 0, step := 0, overflowed := false, repeated := false
    survivedNow := false, topNow := 0, windowRep := false, zeroTold := false
    hist := List.replicate 64 0, jobHist := [] }

/-! ### The scale history (R234 to R236) -/

/-- Bytes of one pass in the scale history (log 19): 12, and 512 more for a gradient pass, which alone has a histogram. -/
def PassRec.historyBytes (p : PassRec) : Bytes :=
  u16 p.layer ++ u8 ((if p.backward then 1 else 0) + if p.zeroTold then 2 else 0) ++ u8 p.current ++ u8 p.pending ++ u8 0 ++ u16 0
    ++ u32 p.zeroRun ++ if p.backward then p.hist.flatMap fun h => u64 h else []
/-- A scale history in bytes (R234, log 19): 80 bytes, then its passes. -/
def History.bytes (h : History) : Bytes :=
  u64 h.step ++ padTo 56 h.key ++ u8 h.cube ++ u8 (h.carry % 256).toNat ++ u8 1 ++ u8 0 ++ u32 h.clean ++ u32 h.passes.length
    ++ u32 0 ++ h.passes.flatMap PassRec.historyBytes

/-- Read so many passes of a history. -/
def historyPasses : Nat → Bytes → List PassRec
  | 0, _ => []
  | k + 1, b =>
    let back := leAt b 2 1 % 2 = 1
    { PassRec.blank (leAt b 0 2) back (leAt b 3 1) (leAt b 4 1) with
      zeroTold := leAt b 2 1 / 2 % 2 = 1, zeroRun := leAt b 8 4
      hist := if back then (List.range 64).map fun i => leAt b (12 + 8 * i) 8 else List.replicate 64 0 }
      :: historyPasses k (b.drop (if back then 524 else 12))

/-- Read a scale history (log 19). -/
def History.of (b : Bytes) : History :=
  { step := leAt b 0 8, key := byteSlice b 8 56, cube := leAt b 64 1, carry := Fmt.signed 8 (leAt b 65 1), clean := leAt b 68 4
    passes := historyPasses (leAt b 72 4) (b.drop 80) }

/-- Where the half of the history region stands that a step's parity selects (R235). -/
def State.historyAt (s : State) (parity : Nat) : Nat := s.odNat (od 0x2100 0x12) + parity * 0x800000

/-- The history that stands there, where one was written. -/
def State.historyIn (s : State) (parity : Nat) : Option History :=
  let a := s.historyAt parity
  if leAt (s.readMem a 80) 66 1 = 1 && !s.poisoned a 0x12C000 then some (History.of (s.readMem a 0x12C000)) else none

/-! ### PASS_VERDICT (R213, R215, R216) -/

/-- The pass's gate opens for its micro-batches: the frets that wait switch, their lanes forget the pass's start. -/
def State.openGate (s : State) (layer : Nat) (backward : Bool) (mbs : List Nat) : State :=
  let s := { s with num := { s.num with gates := s.num.gates ++ mbs.map fun m => (layer, backward, m) } }
  let s := s.updBoard fun b => { b with convs := b.convs.map (fun c =>
    if c.covers layer backward then { c with final := true } else c) }
  (s.passFrets layer backward).foldl (fun s i =>
    let s := s.setLane i { s.lane i with mark := none, kept := [] }
    let f := s.fret i
    if f.run = 1 && f.stall = .gate && f.voicing.layer = layer && f.voicing.backward = backward then
      (s.setFret i { f with stall := .none }).switchFret i false
    else s) s

/-- A repeat that the step's repeat term does not cover: its cost is added to the promises of the step, and those whose bound
it then exceeds are broken (R218). -/
def State.lateRepeat (s : State) (cost : Nat) : State :=
  let steps := s.adm.steps.map fun (a : AdmStep) => if a.step = s.curStep then a.later cost else a
  let last' := ((steps.find? fun a => a.step = s.curStep).map (·.commit)).getD 0
  let hit := s.adm.frames.filter fun f => f.inFlight && f.isEvents && f.step = s.curStep && decide (f.tLast + f.bound < last')
  let s := s.breakFrames 6 s.curStep (hit.map fun f => (f.id, last' - f.tLast))
  { s with adm := { s.adm with steps := steps } }

/-- A repeat starts (R215 steps 1 and 2, R218). -/
def State.startRepeat (s : State) (q : Nat) (p : PassRec) (new mb : Nat) (t : ConvStat) : State :=
  let s := s.event 0x0101 (u16 p.layer ++ u8 (if p.backward then 1 else 0) ++ u8 mb ++ u8 p.current ++ u8 new
    ++ c32 t.sats ++ c32 t.nonfin)
  let s := (s.orReg 6 Reg.numStatus 3).bump 6 Reg.numRepeatCount 1
  let cost := nsOf (s.repeatCost q p new)
  let s := if s.odNat (od 0x2100 0x0C) ≤ s.num.stepRepeats then s.lateRepeat cost else s
  let s := (s.passFrets p.layer p.backward).foldl (fun s i => s.rewindLane i) s
  let s := s.updBoard fun b => { b with convs := b.convs.filter fun c => !(c.covers p.layer p.backward && !c.final) }
  let s := s.updPass q fun p => { p with
    current := new, repeatsStep := min 255 (p.repeatsStep + 1), repeats := cap32 (p.repeats + 1), repeated := true, step := s.curStep
    overflowed := true, topNow := p.topNow + if p.current = 5 then 1 else 0 }
  { s with num := { s.num with stepRepeats := s.num.stepRepeats + 1, repeating := s.num.repeating ++ [q] } }

/-- An overflow survives (R216). -/
def State.survive (s : State) (q : Nat) (p : PassRec) (mb : Nat) : State :=
  let s := (s.orReg 6 Reg.numStatus 5).bump 6 Reg.numSurviveCount 1
  let s := if p.current = 5 then
      (s.flag 6 Reg.numStatus 3).event 0x0102 (u16 p.layer ++ u8 (if p.backward then 1 else 0) ++ u8 mb)
    else s
  s.updPass q fun p => { p with
    pending := p.higher p.pending ((p.up p.current).getD 5), survived := cap32 (p.survived + 1), survivedNow := true, step := s.curStep
    overflowed := true, topNow := p.topNow + if p.current = 5 then 1 else 0 }

/-- The combined statistics of a pass's runs that no verdict has taken (R65). -/
def State.passStat (s : State) (layer : Nat) (backward : Bool) : List Nat × ConvStat :=
  let runs := s.board.convs.filter fun c => c.covers layer backward && !c.final
  ((runs.map (·.mb)).eraseDups, (runs.map ConvRun.stat).foldl ConvStat.join ConvStat.empty)

/-- The test of R65. -/
def State.overflows (s : State) (t : ConvStat) : Bool :=
  0 < t.nonfin || s.odNat (od 0x2100 0x0A) * t.elements < t.sats * 65536

/-- PASS_VERDICT (R213, R215, R216). -/
def execPassVerdict (layer : Nat) (backward : Bool) (s : State) : Host.Outcome State Fault Refusal :=
  let r := s.passStat layer backward
  .next (match s.passNo layer backward with
    | none => s
    | some q =>
      match s.num.passes[q]? with
      | none => s
      | some p =>
        if s.held 6 6 || r.1.isEmpty || s.num.repeating.contains q then s
        else if !s.overflows r.2 then s.openGate layer backward r.1
        else
          match (if p.repeatsStep < s.odNat (od 0x2100 4) then p.up p.current else none) with
          | some new => s.startRepeat q p new (r.1.headD 0) r.2
          | none => (s.survive q p (r.1.headD 0)).openGate layer backward r.1)

/-! ### REPEAT_IMAGES_LOADED (R215 steps 3 to 5) -/

/-- The bound of a voicing's phase in a repeat: the repeat_cycles of its image, or its fixed_cycles where it has no repeat rung
(R108, R215). -/
def repeatBound (lib : List (Nat × Img)) (vid : Nat) : Nat :=
  match libImage lib vid with
  | some i => let d := Descr.of i; if d.repeatRung = 0xFF then d.fixed else d.repeatCycles
  | none => 0

/-- The supervisor prepares one fret for its repeat, whose first voicing is `first`: the image of that voicing at the rungs in force, one
output rung up, loads into the shadow slot; the bounds of all the pass's voicings are written; the others are to follow into the shadow slot
one after the other, and then the image that stood there. -/
def State.repeatLoad (s : State) (i first : Nat) (rest : List Nat) : State :=
  let l := s.lane i
  let f := s.fret i
  let lib := s.library
  let v := Voicing.of (f.img f.shadow)
  let after := if f.st f.shadow ≠ 2 then [] else [if v.laddered then s.rungVid lib v.vid else v.vid]
  let arm := (first :: rest).map fun x =>
    ((⟨s.rungVid lib x, some (repeatBound lib x), false, s.time⟩ : FretPhase), f.frame)
  ((s.setLane i { l with mark := none }).loadShadow i (s.rungVid lib first)).updFret i fun f => { f with
    stall := .none, armed := arm ++ f.armed, follow := rest.map (s.rungVid lib) ++ after }

/-- One fret of the pass starts its repeat: it switches into the image of its first voicing. -/
def State.repeatFret (s : State) (i : Nat) : State :=
  match (s.lane i).mark.map (·.vids) with
  | some (first :: rest) => (s.repeatLoad i first rest).switchFret i false
  | _ => s

/-- The phases of a repeat on a die: one for each voicing of the pass, of all frets of the die that repeat it (R133, R233). -/
def State.repeatPhases (s : State) (die : Nat) (mine : List Nat) : State :=
  let lib := s.library
  let here := (mine.filter fun i => i / 384 = die).flatMap fun i =>
    (((s.lane i).mark.map (·.vids)).getD []).map fun x => (x, i)
  (here.map (·.1)).eraseDups.foldl (fun s x =>
    s.updBoard fun b => { b with phases := b.phases ++
      [DiePhase.mk die (s.rungVid lib x) ((here.filter fun q => q.1 = x).map (·.2)) [] 0 0 0 s.time (repeatBound lib x) false] }) s

/-- The repeat of pass q begins (R215 step 3): its phases open. -/
def State.beginRepeat (s : State) (q : Nat) (mine : List Nat) : State :=
  let s := { s with num := { s.num with repeating := s.num.repeating.filter (· ≠ q) } }
  (s.repeatPhases 0 mine).repeatPhases 1 mine

/-- The first voicing, at the rungs in force, of the passes that stream the output of pass q, of those that a fret has images
of (R212, R215 step 5). -/
def State.consumer (s : State) (i q : Nat) : Option Nat :=
  let lib := s.library
  let held := s.board.lib.filterMap fun e => if e.1 / 65536 = i && e.2 ≠ 0 then some (e.1 % 65536) else none
  (held.find? fun vid => match libImage lib vid with
    | some img => (Voicing.of img).srcPass = q && (Voicing.of img).laddered
    | none => false).map fun vid => s.rungVid lib vid

/-- Step 5 on one fret: a consuming image goes into a shadow slot that is empty, that holds one of its set, or that holds one of
the pass itself which the fret will not run again (log 31). -/
def State.loadConsumer (s : State) (i q : Nat) (p : PassRec) : State :=
  let f := s.fret i
  let v := Voicing.of (f.img f.shadow)
  let done := f.st f.shadow = 2 && v.pass ≤ 3 && v.layer = p.layer && v.backward = p.backward
    && !(f.armed.any fun a => v.answers a.1.vid)
  if f.st f.shadow = 0 || done then match s.consumer i q with
    | some vid => s.loadShadow i vid
    | none => s
  else s.followShadow i

/-- REPEAT_IMAGES_LOADED (R215): the frets of the pass switch; the images of every pass that streams its output load at the
new input rung. -/
def execRepeatImagesLoaded (layer : Nat) (backward : Bool) (s : State) : Host.Outcome State Fault Refusal :=
  .next (match s.passNo layer backward with
    | none => s
    | some q =>
      match s.num.passes[q]? with
      | none => s
      | some p =>
        if s.held 6 6 || !s.num.repeating.contains q then s
        else
          let mine := s.passFrets layer backward
          let s := mine.foldl (fun s i => s.repeatFret i) (s.beginRepeat q mine)
          (s.frets.map (·.1)).foldl (fun s i => s.loadConsumer i q p) s)

/-! ### The chooser (R225 to R227) -/

/-- The reach of a rung (R226). -/
def reach (r : Nat) : Nat := match r with | 2 => 2 | 3 => 7 | 4 => 30 | _ => 62

/-- Sum of bins from `lo` to 62, in ascending order. -/
def binSum (h : List F32) (lo : Nat) : F32 := ((h.take 63).drop lo).foldl Fp.add 0#32

/-- The chosen rung of a gradient pass (R227). -/
def chosen (p : PassRec) (thr : Nat) (h : List F32) : Nat :=
  let total := binSum h 0
  if Fp.isZero total then p.current
  else
    let ok := fun r => Fp.le (Fp.mul (binSum h (reach r + 1)) (pow2F 20)) (Fp.mul (Fp.ofNat thr) total)
    (([2, 3, 4, 5].filter fun r => p.rank p.compiled ≤ r).find? ok).getD 5

/-- The chooser's decision at the end of a window, after R220 (R227); `direct` for calibration (R237). -/
def choose (p : PassRec) (thr : Nat) (h : List F32) (direct : Bool) : PassRec :=
  if p.backward then
    let c := chosen p thr h
    if direct then { p with pending := c }
    else if p.rank p.current ≤ p.rank c then { p with pending := p.higher p.pending c }
    else if !p.windowRep then { p with pending := p.higher p.pending (p.rungOf (p.rank p.current - 1)) }
    else p
  else if p.rank p.compiled < p.rank p.pending && !p.windowRep then
    { p with pending := p.rungOf (p.rank p.pending - 1) }
  else p

/-! ### STEP_VERDICT (R219 to R223, R227, R231) -/

/-- Did the pass's laddered conversions convert something and emit only +0 (R231)? -/
def State.allZero (s : State) (p : PassRec) : Bool :=
  let runs := s.board.convs.filter fun c => c.covers p.layer p.backward && c.final
  (runs.any fun c => decide (0 < c.ladElems)) && !(runs.any (·.nonzero))

/-- The histogram of the window with this step's final runs (R219, R225). -/
def State.windowHist (s : State) (p : PassRec) : List Nat :=
  (s.board.convs.filter fun c => c.covers p.layer p.backward && c.final).foldl
    (fun h c => (List.range 64).map fun k => h.getD k 0 + c.hist.getD k 0) p.hist

/-- Is the step the last one of a chooser window (R227, R237)? -/
def State.windowEnds (s : State) : Bool :=
  let left := s.reg 6 Reg.numCalibLeft
  if left = 0 then (s.curStep + 1) % max 1 (s.odNat (od 0x2100 0x0F)) = 0 else left = 1

/-- This module's verdict vector (R219). The histogram columns come on the last step of a chooser window; they hold this
step's bins too, since no module knows yet whether the step is skipped (DEDUCED, log 33). -/
def State.verdictVector (s : State) : List F32 :=
  let ps := s.num.passes
  let n := fun (k : Nat) => Fp.ofNat k
  let one := fun (b : Bool) => if b then Fp.one else 0#32
  let head := [n 1, n (ps.filter fun p => !p.backward && p.survivedNow).length,
    n (ps.filter fun p => p.backward && p.survivedNow).length, n (ps.map (·.topNow)).sum,
    n (ps.filter fun p => p.backward && p.overflowed).length, n (ps.map (·.repeatsStep)).sum] ++ List.replicate 10 0
  head ++ (ps.flatMap fun p =>
    ((List.range 6).map fun r => one (r = p.rank p.pending)) ++ [one (s.allZero p), one (p.repeated || p.survivedNow)])
    ++ if s.windowEnds then ps.flatMap fun p =>
        if p.backward then (s.windowHist p).map n else List.replicate 64 0
      else []

/-- Halve the cube (R222); at −32 it stays and the floor flag is set. -/
def State.halveCube (s : State) : State :=
  let c := s.cube
  let floor := decide (c ≤ -32)
  let c' := if floor then c else c - 1
  let s := s.event 0x0103 (u8 (c % 256).toNat ++ u8 (c' % 256).toNat ++ u8 (s.odNat (od 0x2100 0x0D))
    ++ u8 (if floor then 1 else 0) ++ u64 s.curStep)
  let s := ((s.setCube c').flag 6 Reg.numStatus 4).setReg 6 Reg.numCleanSteps 0
  { s with num := { s.num with carry := s.num.carry + (c' - c) } }

/-- The step is skipped (R220, R222). -/
def State.skipStep (s : State) : State :=
  let s := s.bump 6 Reg.numSkipCount 1
  { s with num := { s.num with skip := true } }

/-- What the verdict says of every pass (R220, R227, R231). -/
def State.judgePasses (s : State) (sum : List F32) (skip : Bool) : State :=
  let P := s.num.passes.length
  let ends := s.windowEnds
  let direct := s.reg 6 Reg.numCalibLeft ≠ 0
  let thr := s.odNat (od 0x2100 0x0E)
  let limit := s.odNat (od 0x2100 6)
  s.num.passes.zipIdx.foldl (fun s pq =>
    let p := pq.1
    let q := pq.2
    let base := 16 + 8 * q
    let pend := (([5, 4, 3, 2, 1, 0].find? fun r => anyOf sum (base + r)).map p.rungOf).getD p.pending
    let p := { p with pending := pend, windowRep := p.windowRep || anyOf sum (base + 7), step := s.curStep }
    let hist := (List.range 64).map fun i => countOf sum (16 + 8 * P + 64 * q + i)
    let p := if ends then { choose p thr hist direct with
      jobHist := if p.backward then hist else p.jobHist, windowRep := false } else p
    let run := if skip || !p.backward then p.zeroRun
      else if countOf sum (base + 6) = Fp.ofNat s.modules then cap32 (p.zeroRun + 1) else 0
    let tell := limit ≠ 0 && limit ≤ run && !p.zeroTold && !skip && p.backward
    let p := { p with zeroRun := run, zeroTold := if run = 0 then false else p.zeroTold || tell }
    let s := s.updPass q fun _ => p
    if tell then (s.flag 6 Reg.numStatus 5).event 0x0105 (u16 p.layer ++ u32 run) else s) s

/-- The drop test of every table at the verdict point (R255). -/
def State.dropTest (s : State) : State :=
  s.tables.foldl (fun s t =>
    let n := fun k => SMap.get 0 s.emb.counts (countKey s.curStep t.table k)
    if s.odNat (od 0x2200 5) * n 2 < (n 0 + n 1) * 1048576 then
      [2, 3, 4, 5].foldl (fun s d => s.flag d Reg.embStatus 0)
        (s.event 0x0201 (u16 t.table ++ c32 (n 0) ++ c32 (n 1) ++ c32 (n 2)))
    else s) s

/-- What every module decides of the summed vector (R220 to R223, R255). -/
def State.decideStep (s : State) (sum : List F32) : State :=
  let s := { s with num := { s.num with
    decided := some s.curStep
    before := some ⟨s.num.passes, s.reg 6 Reg.numCube, s.reg 6 Reg.numCleanSteps, s.num.carry⟩ } }.dropTest
  let forward := anyOf sum 1
  let backward := anyOf sum 2
  let replay := !forward && backward && -32 < s.cube && s.odNat (od 0x2100 0x0D) = 0 && !s.num.halved
  let skip := forward || (backward && !replay)
  let s := s.judgePasses sum skip
  let s := { s with num := { s.num with clean := !skip && !anyOf sum 4, dirty := !skip && anyOf sum 4 } }
  let s := if !forward && backward then s.halveCube else s
  if replay then
    let s := s.bump 6 Reg.numReplayCount 1
    let s := { s with num := { s.num with halved := true } }
    s.rollback 7 1 0xFFFFFFFF
  else if skip then s.skipStep else s

/-- STEP_VERDICT (R219 to R223, R255): X0 contributes the module's vector to the SUM, once in a run of the step; when the
whole sum is here, the module decides. -/
def execStepVerdict (arrived : List (Nat × List F32)) (s : State) : Host.Outcome State Fault Refusal :=
  .next (if s.held 6 6 || s.num.decided = some s.curStep then s
    else
      let s := (s.contribute 0 s.verdictVector).sumArrives 0 arrived
      match s.sumHere 0 with
      | some sum => s.decideStep sum
      | none => s)

end Sys2Proof.Machine
end

