-- ==== Sys2Proof/Machine/Frames.lean ====
section
/-! DEFINITION. Host frames: header fields, the EVENTS layout and its positions (R243, R370, R371, R373, R374). -/

namespace Sys2Proof.Machine

/-! ### The header (R370) -/

def frType (f : Bytes) : Nat := leAt f 2 1
def frFlags (f : Bytes) : Nat := leAt f 3 1
def frLength (f : Bytes) : Nat := leAt f 4 4
def frId (f : Bytes) : Nat := leAt f 8 4
def frClass (f : Bytes) : Nat := leAt f 12 1
def frMb (f : Bytes) : Nat := leAt f 13 1
def frMbCount (f : Bytes) : Nat := leAt f 14 1
def frStep (f : Bytes) : Nat := leAt f 16 8
def frWord (f : Bytes) : Nat := leAt f 24 8

/-! ### The layout of events (R373, R374) -/

/-- Table numbers of the feature slots (R241). -/
def State.features (s : State) : List Nat := (chunks 2 (s.odBytes (od 0x2200 4))).map leNat
/-- dense_bytes of the frame layout. -/
def State.denseBytes (s : State) : Nat := leAt (s.odBytes (od 0x2600 0x10)) 0 2
/-- The slots' most items: 0 marks a single slot. -/
def State.slotMax (s : State) : List Nat := (chunks 2 ((s.odBytes (od 0x2600 0x10)).drop 2)).map leNat

/-- The index words of each slot of an event whose header stands at `o`, in slot order: `k` list slots came before. -/
def slotWords (f : Bytes) (o : Nat) : List Nat → Nat → List Nat
  | [], _ => []
  | m :: t, k => if m = 0 then 1 :: slotWords f o t k else leAt f (o + 12 + 2 * k) 2 :: slotWords f o t (k + 1)

/-- Bytes of the event record at `o`. -/
def eventBytes (dense : Nat) (slots : List Nat) (f : Bytes) (o : Nat) : Nat :=
  32 + 8 * (slotWords f o slots 0).sum + dense

/-- Where the event records start. -/
def eventOffsets (dense : Nat) (slots : List Nat) (f : Bytes) : Nat → Nat → List Nat
  | 0, _ => []
  | n + 1, o => o :: eventOffsets dense slots f n (o + eventBytes dense slots f o)

/-- One position of a frame, and its number in the frame's order (R68, R243). -/
structure Pos where
  event : Nat
  slot : Nat
  item : Nat
  word : Nat
  no : Nat
  deriving DecidableEq, Repr

/-- The positions of an event. -/
def eventPositions (slots : List Nat) (f : Bytes) (ev o : Nat) : List Pos :=
  ((slotWords f o slots 0).zipIdx.foldl (fun (acc : List Pos × Nat) w =>
    (acc.1 ++ (List.range w.1).map fun i => ⟨ev, w.2, i, leAt f (acc.2 + 8 * i) 8, 0⟩, acc.2 + 8 * w.1))
    ([], o + 32)).1

/-- The positions of an EVENTS frame, in order. -/
def State.positions (s : State) (f : Bytes) : List Pos :=
  let d := s.denseBytes
  let sl := s.slotMax
  ((eventOffsets d sl f (leAt f 32 2) 40).zipIdx.flatMap fun o => eventPositions sl f o.2 o.1).zipIdx.map fun p =>
    { p.1 with no := p.2 }

end Sys2Proof.Machine
end

