-- ==== Sys2Proof/Machine/Hotset.lean ====
section
/-! DEFINITION. Row storage, the hot set's placement, the popularity sketch, and the refresh at a commit (R244 to R246,
R252, R256 to R259, R264, R265, R287). -/

namespace Sys2Proof.Machine

/-! ### Row payloads (R245, R252) -/

/-- The format of a width class. -/
def classFmt (c : Nat) : Nat := match c with | 0 => 3 | 1 => 5 | 2 => 7 | _ => 8
/-- Payload bytes of a row. -/
def payloadBytes (fmt dim : Nat) : Nat := (4 * Fmt.width fmt + 1) * ceilDiv dim 32
/-- A row's read size. -/
def readSize (cls dim : Nat) : Nat := roundUp (payloadBytes (classFmt cls) dim) 32
/-- Bytes of a row slot. -/
def slotBytes (cls : Nat) (t : Table) : Nat := roundUp (payloadBytes (classFmt cls) t.dim + t.stateBytes) 32

/-- The values of a payload of blocks: element planes, then one scale byte per block. -/
def payloadValues (fmt dim : Nat) (bs : Bytes) : List F32 :=
  let plane := 4 * Fmt.width fmt * ceilDiv dim 32
  (List.range dim).map fun k =>
    (Fmt.decode fmt (Fmt.planeCode bs (Fmt.width fmt) k) (bs.getD (plane + k / 32) 0).toNat 0).1

/-- Blocks of values encoded with the BLOCK scale. -/
def rowBlocks (fmt mode : Nat) (rnd : Nat → Nat → Nat) (xs : List F32) : List Fmt.Block :=
  (chunks 32 xs).zipIdx.map fun g => Fmt.enc fmt mode none (rnd g.2) 0 g.1

/-- The payload of encoded blocks. -/
def payloadOf (fmt : Nat) (bs : List Fmt.Block) : Bytes :=
  bs.flatMap (fun b => Fmt.packCodes (Fmt.width fmt) b.codes) ++ bs.map fun b => BitVec.ofNat 8 b.scale

/-- Payload of a gradient in BF16 or a block format, its size, and its values (R260, R266). -/
def gradPayload (fmt : Nat) (bs : List (Fmt.Block × List F32)) : Bytes :=
  if fmt = 1 then bs.flatMap fun b => b.1.codes.flatMap fun c => natLE 2 c else payloadOf fmt (bs.map (·.1))
def gradBytes (fmt dim : Nat) : Nat := if fmt = 1 then 2 * dim else payloadBytes fmt dim
def gradValues (fmt dim : Nat) (bs : Bytes) : List F32 :=
  if fmt = 1 then (List.range dim).map fun k => Fp.ofBf16 (leAt bs (2 * k) 2) else payloadValues fmt dim bs

/-- A stored payload in the table's deliver format (R252). The conversion, which is exact and has no word w2, leaves no statistics
(DEDUCED, log 16). -/
def deliverPayload (t : Table) (cls : Nat) (bs : Bytes) : Bytes :=
  if classFmt cls = t.deliver then bs.take (payloadBytes t.deliver t.dim)
  else payloadOf t.deliver (rowBlocks t.deliver 0 (fun _ _ => 0) (payloadValues (classFmt cls) t.dim bs))

/-! ### The hot set (R256) -/

/-- Bytes of an owner's region on each die. -/
def State.hotQ (s : State) : Nat := 94371840 / (32 * max 1 s.modules) * 32

/-- The physical bank of a logical hot-set bank (R463). -/
def State.physBank (s : State) (die bank : Nat) : Nat :=
  match SMap.get 0 s.life.spare.banks (die * 64 + bank) with | 0 => bank | p + 1 => p

/-- The window address of a byte of a die's hot capacity (R302, R463). -/
def State.hotAddr (s : State) (die o : Nat) : Nat :=
  0x40100000000 + die * 0x8000000 + s.physBank die (o / 0x180000) * 0x180000 + o % 0x180000

/-- Bytes of a die's hot capacity. -/
def State.hotRead (s : State) (die o n : Nat) : Bytes := (List.range n).map fun k => s.byte (s.hotAddr die (o + k))
/-- Write them. -/
def State.hotWrite (s : State) (die o : Nat) (bs : Bytes) : State :=
  bs.zipIdx.foldl (fun s b => s.writeMem (s.hotAddr die (o + b.2)) [b.1]) s

/-- An owner's hot rows on a die, in ascending table and row. -/
def State.hotRows (s : State) (die owner : Nat) : List HotRow :=
  sortBy (fun (a b : HotRow) => decide (a.table < b.table) || (decide (a.table = b.table) && decide (a.row ≤ b.row)))
    (s.emb.hot.filter fun h => h.die = die && h.owner = owner)

/-- The rows with their places in the owner's region. -/
def State.hotPlaces (s : State) (die owner : Nat) : List (HotRow × Nat) :=
  ((s.hotRows die owner).foldl (fun (acc : List (HotRow × Nat) × Nat) h =>
    (acc.1 ++ [(h, acc.2)], acc.2 + readSize h.cls (((s.table h.table).map (·.dim)).getD 32))) ([], owner * s.hotQ)).1

/-- A hot member. -/
def State.hotFind (s : State) (table row : Nat) : Option HotRow :=
  s.emb.hot.find? fun h => h.table = table && h.row = row

/-- A hot row's payload at its read size. -/
def State.hotPayload (s : State) (h : HotRow) : Bytes :=
  match (s.hotPlaces h.die h.owner).find? fun p => p.1.table = h.table && p.1.row = h.row with
  | some p => s.hotRead h.die p.2 (readSize h.cls (((s.table h.table).map (·.dim)).getD 32))
  | none => []

/-- Has a die's hot set left service (R463)? -/
def State.hotOut (s : State) (die : Nat) : Bool := s.life.units.contains (2 + die, 8, 0xFFFF)

/-- Install or remove a row in an owner's region of its home die: the region is laid out again in order (R256). -/
def State.hotInstall (s : State) (owner table row cls : Nat) (removal : Bool) (payload : Bytes) : State :=
  let die := s.homeDie table row
  if s.hotOut die then s else
  let keep := ((s.hotPlaces die owner).filter fun p => !(p.1.table = table && p.1.row = row)).map fun p =>
    (p.1, s.hotPayload p.1)
  let all := if removal then keep else keep ++ [(HotRow.mk die owner table row cls payload, payload)]
  let hot := (s.emb.hot.filter fun h => !(h.die = die && h.owner = owner)) ++ all.map (·.1)
  let s := { s with emb := { s.emb with hot := hot } }
  (s.hotPlaces die owner).foldl (fun s p =>
    match all.find? fun a => a.1 = p.1 with
    | some a => s.hotWrite die p.2 a.2
    | none => s) s

/-- The step whose commit refreshed the rows that a read of step t sees, plus one; 0 when there is none (R259). -/
def State.refreshOf (s : State) (t : Nat) : Nat :=
  let I := max 1 (s.odNat (od 0x2200 3))
  t / I * I

/-- Is a die's hot set installed for reads of step t (R258, R259)? The refresh that they see is committed here, and its install is
complete; a hot set out of service has none (R463). -/
def State.hotReady (s : State) (die t : Nat) : Bool :=
  s.hotOut die || (decide (s.refreshOf t ≤ s.curStep) && s.emb.install.isNone)

/-! ### The directory and the pools -/

/-- Every valid entry of the directory with its address. -/
def State.directory (s : State) : List (Nat × DirEntry) :=
  let lo := s.odNat (od 0x2200 0x10)
  let hi := lo + s.odNat (od 0x2200 0x11)
  let at' := ((s.mem.filter fun p => lo ≤ p.1 && p.1 < hi).map fun p => p.1 / 16 * 16).eraseDups
  (at'.map fun a => (a, DirEntry.of (s.readMem a 16))).filter fun e => e.2.valid

/-- Write a directory entry. -/
def State.setDir (s : State) (a : Nat) (e : DirEntry) : State := s.writeMem a e.bytes

/-- The tier of a class of a table (R245). -/
def Table.bench (t : Table) (cls : Nat) : Bool := t.classes / 16 / pow2 cls % 2 = 1
/-- Is a class allowed? -/
def Table.allows (t : Table) (cls : Nat) : Bool := t.classes / pow2 cls % 2 = 1

/-- The first place at or after `a` whose unit falls on a channel of a tier (R309). -/
def onChannel (bench : Bool) (chan a : Nat) : Nat :=
  let c := if bench then 64 else 384
  let u := a / 256
  if u % c = chan then roundUp a 32 else (u + 1 + (chan + c - (u + 1) % c) % c) * 256

/-- The lowest free place for `n` bytes in a row pool, directly after a slot in use or from the base, whose first unit
falls on the channel that the row's hash `h` names (R309). -/
def State.poolPlace (s : State) (bench : Bool) (h n : Nat) : Option Nat :=
  let base := s.odNat (od 0x2200 (if bench then 0x16 else 0x14))
  let size := s.odNat (od 0x2200 (if bench then 0x17 else 0x15))
  let used := s.emb.pool.filter fun p => base ≤ p.1 && p.1 < base + size
  let fits := fun a => a + n ≤ base + size && used.all fun p => p.1 + p.2 ≤ a || a + n ≤ p.1
  ((base :: used.map fun p => p.1 + p.2).map (onChannel bench (h % if bench then 64 else 384))).find? fits

/-- Take a slot for a row. -/
def State.poolTake (s : State) (bench : Bool) (table row n : Nat) : Option (Nat × State) :=
  (s.poolPlace bench (s.rowS table row) n).map fun a => (a, { s with emb := { s.emb with pool := SMap.set 0 s.emb.pool a n } })

/-! ### The sketch (R265) -/

/-- A row's counters in the copy of a parity. -/
def State.sketchKeys (s : State) (parity table row : Nat) : List Nat :=
  (List.range 4).map fun j => parity * 65536 + j * 16384 + bits (s.rowS table row) (16 * j + 13) (16 * j)

/-- A row's estimate. -/
def State.estimate (s : State) (parity table row : Nat) : Nat :=
  (s.sketchKeys parity table row).foldl (fun a k => min a (SMap.get 0 s.emb.sketch k)) 0xFFFFFFFF

/-- The step's copy: the other parity's counters plus the reduced rows' counts (R258 step 1, R265). -/
def State.sketchCommit (s : State) (step : Nat) (skip : Bool) : State :=
  let p := step % 2
  let old := s.emb.sketch.filter fun k => k.1 / 65536 = 1 - p
  let new := old.map fun k => (k.1 % 65536 + p * 65536, k.2)
  let copy := if p = 0 then new ++ old else old ++ new
  let s := { s with emb := { s.emb with sketch := copy } }
  if skip then s
  else s.emb.reduced.foldl (fun s r =>
    let m := (s.sketchKeys p r.table r.row).foldl (fun m k => SMap.modify 0 m k fun v => cap32 (v + r.count)) s.emb.sketch
    { s with emb := { s.emb with sketch := m } }) s

/-! ### The refresh (R257, R258, R264) -/

/-- The class of an estimate, by the thresholds, allowed by the table (R264). -/
def State.classOf (s : State) (t : Table) (e : Nat) : Nat :=
  let c := if s.odNat (od 0x2200 6) ≤ e then 0 else if s.odNat (od 0x2200 7) ≤ e then 1
    else if s.odNat (od 0x2200 8) ≤ e then 2 else 3
  if t.allows c then c
  else (((List.range c).reverse ++ (List.range 4).drop c).find? fun k => t.allows k).getD c

/-- Journal a row's pre-image once in the step (R286, R287): none when the record does not fit. -/
def State.journalRow (s : State) (table row : Nat) (migrate : Bool) : Option State :=
  match s.dirFind table row, s.table table with
  | some d, some t =>
    let die := s.homeDie table row
    match s.upd.journal.find? fun j => j.table = table && j.row = row with
    | some j =>
      if !migrate then some s
      else
        let a := s.journalBase die + j.at'
        let r := s.readMem a (s.memNat (a + 4) 4)
        let r := r.take 2 ++ u8 1 ++ (r.drop 3).take 29 ++ d.2.bytes ++ r.drop 48
        some (s.store a (r.take 20 ++ u32 (journalCrc r) ++ r.drop 24))
    | none =>
      let n := slotBytes d.2.cls t
      let rec' := journalRecord (if migrate then 1 else 0) row table d.2.slot (if migrate then d.2.bytes else [])
        (s.readMem d.2.slot n)
      let used := s.reg (2 + die) Reg.updJournalBytes
      if s.odNat (od 0x2300 0x11) < used + rec'.length then none
      else
        let s := s.store (s.journalBase die + used) rec'
        let s := { s with upd := { s.upd with journal := s.upd.journal ++ [JRec.mk die table row used] } }
        let s := s.setReg (2 + die) Reg.updJournalBytes (used + rec'.length)
        some (s.setReg (2 + die) Reg.updJournalHigh (max (s.reg (2 + die) Reg.updJournalHigh) (used + rec'.length)))
  | _, _ => some s

/-! ### Migration (R264, R288) -/

/-- Keep the statistics of a conversion outside the frets (R74). R73 and R150 order the sums of frets only: memory-side
die d's sums stand at bridge index d of C0, each die adding its conversions in the order of the commands (DESIGN
CHOICE, log 31). -/
def State.keepStats (s : State) (layer tensor pass mb fmt mode die : Nat) (sts : List ConvStat) : State :=
  let run? := fun (c : ConvRun) => c.layer = layer && c.tensor = tensor && c.pass = pass && c.mb = mb
  let old := (s.board.convs.find? run?).getD
    ⟨layer, tensor, pass, mb, fmt, mode, [], List.replicate 64 0, false, 0, false, true⟩
  let st := sts.foldl ConvStat.join (((old.parts.find? fun p => p.1 = die).map (·.2)).getD ConvStat.empty)
  let new := { old with format := fmt, mode := mode, parts := (old.parts.filter fun p => p.1 ≠ die) ++ [(die, st)] }
  s.updBoard fun b => { b with convs := (b.convs.filter fun c => !run? c) ++ [new] }

/-- The journal has no room: the unit writes nothing further in the step, and the module votes a fault that a rollback
cannot clear (R288, R290). -/
def State.journalFull (s : State) (die : Nat) : State :=
  let s := s.flag (2 + die) Reg.updStatus 3
  ({ s with upd := { s.upd with full := s.upd.full ++ [die] } } : State).jobFault 0x0A none

/-- Migrate one row to a class (R264): exact when wider, SR when narrower; true when it moved. A pre-image that the journal has
no room for stops the unit (R288). The statistics of a narrower one are kept (R63, R73, R74). -/
def State.migrate (s : State) (t : Table) (a : Nat) (e : DirEntry) (cls : Nat) : Bool × State :=
  let die := s.homeDie e.table e.row
  let n := slotBytes e.cls t
  if s.readFails e.slot n then (false, s.failRead e.slot n)
  else match s.poolTake (t.bench cls) e.table e.row (slotBytes cls t) with
  | none => (false, (s.flag (2 + die) Reg.embStatus 2).bump (2 + die) Reg.embMigrateDeferCount 1)
  | some p =>
    match p.2.journalRow e.table e.row true with
    | none => (false, s.journalFull die)
    | some s =>
      let old := s.readMem e.slot n
      let vals := payloadValues (classFmt e.cls) t.dim old
      let key := Dice.tensorKey (BitVec.ofNat 64 (s.odNat (od 0x2100 0x0B))) (BitVec.ofNat 64 s.curStep)
        (Dice.keyWord e.table 0xFF 0 4 0 0)
      let mode := if cls < e.cls then 0 else 1
      let bs := rowBlocks (classFmt cls) mode (fun b k => Dice.dice16 key e.row b k) vals
      let s := if mode = 1 then s.keepStats e.table 0xFF 4 0 (classFmt cls) 1 die (bs.map (·.stat)) else s
      let state := (old.drop (payloadBytes (classFmt e.cls) t.dim)).take t.stateBytes
      let s := s.store p.1 (padTo (slotBytes cls t) (payloadOf (classFmt cls) bs ++ state))
      let s := (s.snapCopy (snapRow e.table e.row)).setDir a { e with cls := cls, bench := t.bench cls, slot := p.1 }
      let s := { s with emb := { s.emb with
        freeCommit := s.emb.freeCommit ++ [e.slot], freeRollback := s.emb.freeRollback ++ [p.1] } }
      (true, s.bump (2 + die) Reg.embMigrateCount 1)

/-- The hot set of one die: candidates in order while they fit (R257). -/
def takeHot (limit : Nat) : List (Nat × Nat) → Nat → Nat → List Nat
  | [], _, _ => []
  | c :: t, room, tags =>
    if c.2 ≤ room ∧ tags < limit then c.1 :: takeHot limit t (room - c.2) (tags + 1) else []

/-- A row's read size in a class. -/
def State.rowSize (s : State) (table cls : Nat) : Nat := readSize cls (((s.table table).map (·.dim)).getD 32)

/-- Candidates of a refresh: the module's own rows that are hot or touched, by entry address, with the class that step 2 chooses
(R257, R258, R264). -/
def State.candidates (s : State) (step : Nat) : List (Nat × DirEntry × Nat) :=
  (s.directory.filter fun e => s.owner e.2.table e.2.row = s.rank && (e.2.hot || e.2.touched)).map fun e =>
    (e.1, e.2, match s.table e.2.table with
      | some t => s.classOf t (s.estimate (step % 2) e.2.table e.2.row)
      | none => e.2.cls)

/-- The order of a refresh's candidates: estimate descending, then table and row ascending (R257). -/
def State.hotter (s : State) (step : Nat) (a b : DirEntry) : Bool :=
  let ea := s.estimate (step % 2) a.table a.row
  let eb := s.estimate (step % 2) b.table b.row
  decide (eb < ea) || (decide (ea = eb) && (decide (a.table < b.table)
    || (decide (a.table = b.table) && decide (a.row ≤ b.row))))

/-- The hot rows of one die among entries with classes, those that fit by the read sizes of the classes (R257). -/
def State.hotOf (s : State) (step die : Nat) (es : List (DirEntry × Nat)) : List (Nat × Nat) :=
  let cand := sortBy (fun (a b : DirEntry × Nat) => s.hotter step a.1 b.1) (es.filter fun e =>
    s.homeDie e.1.table e.1.row = die && s.odNat (od 0x2200 9) ≤ s.estimate (step % 2) e.1.table e.1.row)
  let n := (takeHot (1048576 / max 1 s.modules) (cand.zipIdx.map fun e => (e.2, s.rowSize e.1.1.table e.1.2)) s.hotQ 0).length
  (cand.take n).map fun e => (e.1.table, e.1.row)

/-- Halve the counters of a step's copy of the sketch (R258 step 5). -/
def State.halveSketch (s : State) (step : Nat) : State :=
  let p := step % 2
  { s with emb := { s.emb with sketch := s.emb.sketch.filterMap fun k =>
      if k.1 / 65536 ≠ p then some k else if k.2 / 2 = 0 then none else some (k.1, k.2 / 2) } }

/-- Does a refresh fall at the step's commit (R258)? -/
def State.refreshDue (s : State) (step : Nat) : Bool := (step + 1) % max 1 (s.odNat (od 0x2200 3)) = 0

/-- The refresh before the vote of a step (R258 steps 2 to 5): classes, hot set, migrations in ascending entry address, halved
counters. A unit that stopped writing migrates nothing. Where a migration was deferred, so that the hot rows in their real sizes
no longer fit, those that do fit in the same order are the hot set (log 34). -/
def State.refresh (s : State) (step : Nat) : State :=
  let cs := s.candidates step
  let chosen := [0, 1, 2, 3].flatMap fun d => s.hotOf step d (cs.map (·.2))
  let run := cs.foldl (fun (acc : List (Nat × Nat) × State) c =>
    match acc.2.table c.2.1.table with
    | none => acc
    | some t =>
      if c.2.2 = c.2.1.cls || acc.2.upd.full.contains (acc.2.homeDie c.2.1.table c.2.1.row) then acc
      else
        let m := acc.2.migrate t c.1 c.2.1 c.2.2
        (if m.1 then acc.1 ++ [(c.2.1.table, c.2.1.row)] else acc.1, m.2)) ([], s)
  let s := run.2
  let now := cs.filterMap fun c =>
    if chosen.contains (c.2.1.table, c.2.1.row) then
      let e := DirEntry.of (s.readMem c.1 16)
      some (e, e.cls)
    else none
  let rows := [0, 1, 2, 3].flatMap fun d => s.hotOf step d now
  let s := s.halveSketch step
  { s with emb := { s.emb with choice := some ⟨rows, run.1⟩ } }

/-- The refresh at the commit of its step (R258): the directory's marks follow the choice; new members, members whose value
changed since their last refresh and rows that left are to be pushed. Rows are copied first for a snapshot (R298). A chosen row
whose value cannot be read is a memory fault and no member (R312; DESIGN CHOICE, log 34). -/
def State.commitChoice (s : State) : State :=
  match s.emb.choice with
  | none => s
  | some ch =>
    let mine := s.directory.filter fun e => s.owner e.2.table e.2.row = s.rank && (e.2.hot || e.2.touched)
    let fails := fun (e : DirEntry) => ch.rows.contains (e.table, e.row) && s.readFails e.slot (s.rowSize e.table e.cls)
    let isIn := fun (e : DirEntry) => ch.rows.contains (e.table, e.row) && !fails e
    let push := mine.filterMap fun e =>
      let d := e.2
      let value := s.readMem d.slot (s.rowSize d.table d.cls)
      let changed := match s.hotFind d.table d.row with
        | some h => h.value ≠ value || h.cls ≠ d.cls
        | none => d.touched || !d.hot || ch.moved.contains (d.table, d.row)
      if isIn d then (if changed then some (d.table, d.row, d.cls, false, value) else none)
      else if d.hot then some (d.table, d.row, d.cls, true, [])
      else none
    let done := Refreshed.mk s.curStep (push.filter fun r => !r.2.2.2.1).length
      (mine.filter fun e => isIn e.2 && !e.2.hot).length (mine.filter fun e => e.2.hot && !isIn e.2).length ch.moved.length
    let s := mine.foldl (fun s e => if fails e.2 then s.failRead e.2.slot (s.rowSize e.2.table e.2.cls) else s) s
    let s := mine.foldl (fun s e =>
      (s.snapCopy (snapRow e.2.table e.2.row)).setDir e.1
        { e.2 with hot := isIn e.2, touched := false }) s
    { s with emb := { s.emb with push := push, choice := none, install := some done } }

/-- Message queues of the embedding engine on the fabric (log 17). -/
def queueExchange : Nat := 1
def queueEnd : Nat := 2
def queueHot : Nat := 3
def queueHotEnd : Nat := 5

/-- A MSG to a unit of another module (R340, log 17). -/
def State.sendMsg (s : State) (dst queue : Nat) (body : Bytes) : State :=
  s.send dst 0 7 (requestBytes 0 queue 1 0 0 0 |>.take 16 |> (· ++ body))

/-- The push after a refresh's commit (R258): the module's own rows are installed, the other modules get the records
and the end marker. -/
def State.startPush (s : State) : State :=
  let recs := s.emb.push
  let s := recs.foldl (fun s r => s.hotInstall s.rank r.1 r.2.1 r.2.2.1 r.2.2.2.1 r.2.2.2.2) s
  let s := (List.range s.modules).foldl (fun s k =>
    if k = s.rank then s
    else
      let s := recs.foldl (fun s r => s.sendMsg (s.nodeOfRank k) queueHot
        (u16 r.1 ++ u8 r.2.2.1 ++ u8 (if r.2.2.2.1 then 1 else 0) ++ u32 0 ++ u64 r.2.1 ++ r.2.2.2.2)) s
      s.sendMsg (s.nodeOfRank k) queueHotEnd []) s
  { s with emb := { s.emb with push := [] } }

end Sys2Proof.Machine
end

