-- ==== Sys2Proof/Machine/Embedding.lean ====
section
/-! DEFINITION. Resolution, gather, scatter, the exchange and the owner's reduction (R243, R247 to R254, R258, R260 to
R263, R266, R267). -/

namespace Sys2Proof.Machine

/-! ### Resolution (R243, R247 to R249) -/

/-- Where a position's row comes from. -/
inductive RowClass where
  | null
  | invalid
  | hot
  | hbm
  | bench
  | missing
  | remote
  deriving DecidableEq, Repr

/-- Classify an index word of a table. -/
def State.classify (s : State) (t : Table) (w : Nat) : RowClass :=
  if w = 0xFFFFFFFFFFFFFFFF then .null
  else if t.rows ≤ w then .invalid
  else if (s.hotFind t.table w).isSome then .hot
  else if s.owner t.table w = s.rank then
    match s.dirFind t.table w with
    | some e => if e.2.bench then .bench else .hbm
    | none => .missing
  else .remote

/-- The table of a position. -/
def State.tableOf (s : State) (p : Pos) : Option Table :=
  match s.features[p.slot]? with
  | some n => if n = 0xFFFF then none else s.table n
  | none => none

/-- Add to a count of the step. -/
def State.count (s : State) (step table kind n : Nat) : State :=
  { s with emb := { s.emb with counts := SMap.modify 0 s.emb.counts (countKey step table kind) fun v => cap32 (v + n) } }

/-- Is it the row list's entry of a row of a step? -/
def ListedRow.is (r : ListedRow) (step table row : Nat) : Bool := r.step = step && r.table = table && r.row = row

/-- Add an occurrence of a row, in a micro-batch at a position, to the step's row list; a frame's positions come in ascending
order (R249). -/
def addListed (rows : List ListedRow) (step mb table row no : Nat) : List ListedRow :=
  if rows.any fun r => r.is step table row then
    rows.map fun r => if r.is step table row then
      { r with count := r.count + 1, lasts := (r.lasts.filter fun l => l.1 ≠ mb) ++ [(mb, no)] } else r
  else rows ++ [⟨step, table, row, 1, 0, [(mb, no)]⟩]

/-- Occurrences of a row in a micro-batch are dropped: they carry no gradient (R254). -/
def dropListed (rows : List ListedRow) (step mb table row n : Nat) : List ListedRow :=
  rows.filterMap fun r =>
    if !r.is step table row then some r
    else if r.count ≤ n then none
    else some { r with count := r.count - n, lasts := r.lasts.filter fun l => l.1 ≠ mb }

/-- Resolve a micro-batch's frame: its rows enter the row list, its positions the counts (R248, R249). -/
def State.resolve (s : State) (step mb : Nat) (ps : List Pos) : State :=
  ps.foldl (fun s p =>
    match s.tableOf p with
    | none => s
    | some t =>
      match s.classify t p.word with
      | .null => s
      | .invalid => s.count step t.table 2 1
      | _ =>
        let s := s.count step t.table 2 1
        { s with emb := { s.emb with rows := addListed s.emb.rows step mb t.table p.word p.no } }) s

/-- What a tally holds of the CLASSIFIED tables that a frame's positions name (R248). -/
def State.tallyTables (s : State) (step : Nat) (ps : List Pos) : List TableTally :=
  s.tables.filterMap fun t =>
    if !t.classified then none
    else
      let ws := ps.filterMap fun p => if (s.tableOf p).map (·.table) = some t.table then some p.word else none
      let cls := ws.map fun w => s.classify t w
      let new := (ws.filter fun w => decide (w < t.rows) && !(s.emb.rows.any fun r => r.is step t.table w)).eraseDups
      let own := (new.filter fun w => s.owner t.table w = s.rank).length
      some ⟨t.table, cls.count .hot, cls.count .hbm, cls.count .bench, cls.count .remote, cls.count .invalid, own, new.length - own⟩

/-! ### Delivery (R252, R254) -/

/-- A held frame of events. -/
def State.eventsFrame (s : State) (frame : Nat) : Option HeldFrame := s.adm.frames.find? fun f => f.id = frame && f.isEvents
/-- Its positions. -/
def State.heldPositions (s : State) (frame : Nat) : List Pos :=
  match s.eventsFrame frame with
  | some f => s.positions f.bytes
  | none => []

/-- Deliver a position. -/
def State.deliverPos (s : State) (frame step : Nat) (p : Pos) (valid : Bool) (bytes : Bytes) : State :=
  { s with emb := { s.emb with out := s.emb.out ++ [Delivery.mk frame step p.slot p.event p.item valid bytes false] } }

/-- A row and its validity bit in a fret's operand SRAM. -/
def Fret.takeRow (f : Fret) (row bit : Nat) (d : Delivery) : Fret :=
  let old := leNat (f.sramBytes (bit / 8) 1)
  let low := old % pow2 (bit % 8)
  let high := old / pow2 (bit % 8 + 1) * pow2 (bit % 8 + 1)
  (f.writeSram row d.bytes).writeSram (bit / 8) (u8 (low + high + if d.valid then pow2 (bit % 8) else 0))

/-- A delivery reaches the frets that the frame's program names (R252). -/
def State.toFrets (s : State) (program : Nat) (d : Delivery) : State :=
  { s with
    frets := (Config.rowPlaces program d.slot d.event d.item).foldl
      (fun m p => SMap.modify Fret.reset m p.1 fun f => f.takeRow p.2.1 p.2.2 d) s.frets
    emb := { s.emb with out := s.emb.out.map fun x => if x = d then { x with sent := true } else x } }

/-- A feature slot's rows leave in ascending event and item order: up to the first that is not here yet (R252). -/
def State.releaseSlot (s : State) (h : HeldFrame) (ps : List Pos) : State :=
  (ps.foldl (fun (acc : State × Bool) p =>
    match acc.1.emb.out.find? fun d => d.frame = h.id && d.slot = p.slot && d.event = p.event && d.item = p.item with
    | none => (acc.1, false)
    | some d => (if acc.2 && !d.sent then acc.1.toFrets h.program d else acc.1, acc.2)) (s, true)).1

/-- The rows of a frame that may leave do. -/
def State.release (s : State) (frame : Nat) : State :=
  match s.eventsFrame frame with
  | none => s
  | some h =>
    let ps := s.positions h.bytes
    ((ps.map (·.slot)).eraseDups).foldl (fun s k => s.releaseSlot h (ps.filter fun p => p.slot = k)) s

/-- A zero row in a table's deliver format. -/
def zeroRow (t : Table) : Bytes := zeroBytes (payloadBytes t.deliver t.dim)

/-- Deliver a row, or its absence, to every position of a frame that names it; an absent row counts as missing, and its
positions carry no gradient (R251, R252, R254). -/
def State.deliverRow (s : State) (frame step : Nat) (t : Table) (row : Nat) (ps : List Pos) (bytes : Option Bytes) :
    State :=
  let mine := ps.filter fun p => p.word = row && (s.tableOf p).map (·.table) = some t.table
  match bytes with
  | some b => mine.foldl (fun s p => s.deliverPos frame step p true b) s
  | none =>
    let s := (s.count step t.table 1 mine.length).bump (2 + s.homeDie t.table row) Reg.embDropMissingCount mine.length
    let mb := ((s.eventsFrame frame).map (·.mb)).getD 0
    let s := { s with emb := { s.emb with rows := dropListed s.emb.rows step mb t.table row mine.length } }
    mine.foldl (fun s p => s.deliverPos frame step p false (zeroRow t)) s

/-! ### Gather (R250, R251, R253) -/

/-- The first poisoned bucket that a search for a row examines (R246, R311). -/
def State.dirBad (s : State) (table row : Nat) : Option Nat :=
  let buckets := ((s.dirPlaces table row).map fun a => a / 64 * 64).eraseDups
  let examined := match s.dirFind table row with
    | some e => (buckets.takeWhile fun b => b ≠ e.1 / 64 * 64) ++ [e.1 / 64 * 64]
    | none => buckets
  examined.find? fun b => s.readFails b 64

/-- What reading an own row touches: the buckets of its search, and its slot. -/
def State.rowSpans (s : State) (t : Table) (row : Nat) : List (Nat × Nat × Bool) :=
  (((s.dirPlaces t.table row).map fun a => a / 64 * 64).eraseDups.map fun b => (b, 64, false))
    ++ match s.dirFind t.table row with
      | some e => [(e.2.slot, slotBytes e.2.cls t, false)]
      | none => []

/-- Does a read of an own row wait for memory (R306, R320)? -/
def State.rowWaits (s : State) (table row : Nat) : Bool :=
  match s.table table with
  | some t => s.spansWait (s.rowSpans t row)
  | none => false

/-- What a search and a read of an own row give: a failed read's address and bytes, or the row's class and payload, none where
it is missing (R250, R302, R311). -/
def State.readRow (s : State) (t : Table) (row : Nat) : (Nat × Nat) ⊕ Option (Nat × Bytes) :=
  match s.dirBad t.table row with
  | some b => .inl (b, 64)
  | none => match s.dirFind t.table row with
    | none => .inr none
    | some e =>
      let n := readSize e.2.cls t.dim
      if s.readFails e.2.slot n then .inl (e.2.slot, n) else .inr (some (e.2.cls, s.readMem e.2.slot n))

/-- An own row is read and delivered; a read that fails is a memory fault (R312). -/
def State.localRow (s : State) (frame step : Nat) (t : Table) (row : Nat) (ps : List Pos) : State :=
  match s.readRow t row with
  | .inl a => s.failRead a.1 a.2
  | .inr r => s.deliverRow frame step t row ps (r.map fun x => deliverPayload t x.1 x.2)

/-- A remote row's reply is delivered: its info field has the missing flag in bit 0 and the class in bits [2:1] (R250, log 17). -/
def State.deliverReply (s : State) (frame step : Nat) (t : Table) (row : Nat) (ps : List Pos) (info : Nat) (bs : Bytes) :
    State :=
  s.deliverRow frame step t row ps (if info % 2 = 1 then none else some (deliverPayload t (info / 2 % 4) bs))

/-- A row's entry in its die's window. -/
def State.windowRow (s : State) (step table row : Nat) : Option WindowRow :=
  s.emb.window.find? fun w => w.step = step && w.table = table && w.row = row

/-- The row enters its die's window of 8,192 distinct rows; was it there (R251)? A row read again keeps its place in the order of
first reads (DEDUCED, log 15). -/
def State.combine (s : State) (die step table row : Nat) : Bool × State :=
  if (s.windowRow step table row).isSome then (true, s)
  else
    let w := s.emb.window
    let mine := WindowRow.mk die step table row none :: w.filter fun x => x.die = die
    (false, { s with emb := { s.emb with window := mine.take 8192 ++ w.filter fun x => x.die ≠ die } })

/-- Hold a gather's read of a row whose source is not settled yet (R253, R258). -/
def State.holdRow (s : State) (frame step table row : Nat) : State :=
  { s with emb := { s.emb with held := s.emb.held ++ [HeldRead.mk s.node frame table row step] } }

/-- Ask a remote row's owner, or wait for the answer to an earlier read of the row that is in the window. -/
def State.askRow (s : State) (frame step table row : Nat) (combined : Bool) : State :=
  match (if combined then s.emb.asks.find? fun a => a.table = table && a.row = row && a.step = step else none) with
  | some a => { s with emb := { s.emb with asks := s.emb.asks ++ [RowAsk.mk a.id frame table row step] } }
  | none =>
    let id := s.fab.nextId
    let s := s.request (s.nodeOfRank (s.owner table row)) 1 1 0 row table step [] true .row
    { s with emb := { s.emb with asks := s.emb.asks ++ [RowAsk.mk id frame table row step] } }

/-- Fetch a row of a frame from the source that resolution gives it, for the positions that name it. Before the install of the
refresh that the step sees is complete, another module's row may still enter or leave the hot set: its read waits (R258, R259). -/
def State.fetchRow (s : State) (frame step : Nat) (ps : List Pos) (t : Table) (row : Nat) (combined : Bool) : State :=
  match s.classify t row with
  | .hot =>
    if s.hotReady (s.homeDie t.table row) step then
      match s.hotFind t.table row with
      | some h => s.deliverRow frame step t row ps (some (deliverPayload t h.cls (s.hotPayload h)))
      | none => s
    else s.holdRow frame step t.table row
  | .remote =>
    if !s.hotReady (s.homeDie t.table row) step then s.holdRow frame step t.table row
    else match (s.windowRow step t.table row).bind (·.reply) with
    | some r => s.deliverReply frame step t row ps r.1 r.2
    | none => s.askRow frame step t.table row combined
  | _ => if step ≤ s.curStep && !s.rowWaits t.table row then s.localRow frame step t row ps else s.holdRow frame step t.table row

/-- Gather one distinct row of a frame, counting the reads that combine. -/
def State.gatherRow (s : State) (frame step : Nat) (ps : List Pos) (t : Table) (row : Nat) : State :=
  let die := s.homeDie t.table row
  let n := (ps.filter fun p => p.word = row && (s.tableOf p).map (·.table) = some t.table).length
  let c := s.combine die step t.table row
  (c.2.bump (2 + die) Reg.embCombinedCount (if c.1 then n else n - 1)).fetchRow frame step ps t row c.1

/-- Gather a frame's rows. -/
def State.gather (s : State) (frame step : Nat) (ps : List Pos) : State :=
  let s := ps.foldl (fun s p =>
    match s.tableOf p with
    | none => s
    | some t => match s.classify t p.word with
      | .null => s.deliverPos frame step p false (zeroRow t)
      | .invalid =>
        let s := (s.count step t.table 0 1).bump (2 + s.homeDie t.table p.word) Reg.embDropInvalidCount 1
        s.deliverPos frame step p false (zeroRow t)
      | _ => s) s
  let rows := (ps.filterMap fun p => match s.tableOf p with
    | some t => if p.word < t.rows then some (t.table, p.word) else none
    | none => none).eraseDups
  (rows.foldl (fun s r => match s.table r.1 with
    | some t => s.gatherRow frame step ps t r.2
    | none => s) s).release frame

/-- A remote row's reply reached the module: the window keeps it, and every frame that waits for it takes it (R250, R251,
R254). -/
def State.rowReply (s : State) (id status : Nat) (data : ReplyData) : State :=
  let mine := s.emb.asks.filter fun a => a.id = id
  let s := { s with emb := { s.emb with asks := s.emb.asks.filter fun a => a.id ≠ id } }
  if status ≠ stOk then s
  else
    let asked := fun (w : WindowRow) => mine.any fun a => a.step = w.step && a.table = w.table && a.row = w.row
    let s := { s with emb := { s.emb with window := s.emb.window.map fun w =>
      (if asked w then { w with reply := some (data.info, data.bytes) } else w) } }
    mine.foldl (fun s a =>
      match s.table a.table with
      | none => s
      | some t => (s.deliverReply a.frame a.step t a.row (s.heldPositions a.frame) data.info data.bytes).release a.frame) s

/-- The request id of the packet that asked for an operation. -/
def State.inboxId (s : State) (src op : Nat) : Nat :=
  match s.fab.inbox.find? fun p => p.src = src && p.op = op with
  | some p => leAt p.data 0 4
  | none => 0

/-- Serve a row read at the owner (R250): a 16-byte header, and after it the payload of a row that is there; a read that fails is
answered with POISON (R342). -/
def State.serveRow (s : State) (src id table row : Nat) : State :=
  let answer := fun (s : State) (status info : Nat) (bs : Bytes) =>
    s.sendFlags src 0 0 (if status = stPoison then 2 else 0) (replyBytes id status info ++ bs)
  match s.table table with
  | none => answer s stOk 1 []
  | some t => match s.readRow t row with
    | .inl a => answer (s.meetPoison a.1 a.2) (if s.mappedRange a.1 a.2 then stPoison else stAddr) 0 []
    | .inr none => answer s stOk 1 []
    | .inr (some r) => answer s stOk (2 * r.1) r.2

/-- REMOTE_ROW_READ (R250, R253, R320): a read of a step whose predecessor has not committed here is held, and one whose channel
trains. -/
def execRemoteRowRead (source table row step : Nat) (s : State) : Host.Outcome State Fault Refusal :=
  let id := s.inboxId source 1
  let t := s.takeInbox source 1
  .next (if s.engineHeld 8 || !s.turnOf source 1 then s else let s := t; if step ≤ s.curStep && !s.rowWaits table row then s.serveRow source id table row
    else { s with emb := { s.emb with held := s.emb.held ++ [HeldRead.mk source id table row step] } })

/-- May a held read be served? One of the module's own of a hot row or of another owner's row waits for the install (R258),
any other for its channel (R320). -/
def State.heldDue (s : State) (h : HeldRead) : Bool :=
  if h.src = s.node && ((s.hotFind h.table h.row).isSome || s.owner h.table h.row ≠ s.rank) then
    s.hotReady (s.homeDie h.table h.row) h.step
  else h.step ≤ s.curStep && !s.rowWaits h.table h.row

/-- HELD_READ_RELEASE (R253, R259): every held read that is due is served, in order; one of the module's own from the source that the
row has now. -/
def execHeldReadRelease (s : State) : Host.Outcome State Fault Refusal :=
  let due := if s.engineHeld 8 then [] else s.emb.held.filter fun h => s.heldDue h
  let s := { s with emb := { s.emb with held := s.emb.held.filter fun h => !due.contains h } }
  .next (due.foldl (fun s h =>
    if h.src ≠ s.node then s.serveRow h.src h.id h.table h.row
    else match s.table h.table with
      | none => s
      | some t => (s.fetchRow h.id h.step (s.heldPositions h.id) t h.row true).release h.id) s)

/-! ### Scatter (R260 to R262) -/

/-- Entries a row takes in the coalescer. -/
def entriesOf (dim : Nat) : Nat := ceilDiv dim 128

/-- Element-wise FP32 sum (R261). -/
def addVec (a b : List F32) : List F32 := List.zipWith Fp.add a b

/-- Exchange payload of a row (R266). -/
def State.exchangeBlocks (s : State) (t : Table) (row : Nat) (sum : List F32) : List (Fmt.Block × List F32) :=
  let key := Dice.tensorKey (BitVec.ofNat 64 (s.odNat (od 0x2100 0x0B))) (BitVec.ofNat 64 s.curStep)
    (Dice.keyWord t.table 0 0 3 1 s.node)
  convLines t.exchange 1 none key row 0 [sum]

/-- Keep the statistics of an exchange conversion: pass 3 under its own mark (R74, R266). -/
def State.exchangeStats (s : State) (t : Table) (die : Nat) (bs : List (Fmt.Block × List F32)) : State :=
  s.keepStats t.table 0 19 0 t.exchange 1 die (bs.map fun b => b.1.stat)

/-- A closed row becomes one record to its owner (R266). -/
def State.closeRow (s : State) (r : RowSum) : State :=
  match s.table r.table with
  | none => s
  | some t =>
    let bs := s.exchangeBlocks t r.row r.sum
    let bad := if t.exchange = 1 then r.sum.any fun x => !Fp.isFinite x else bs.any fun b => b.1.scale = 0xFF
    let s := s.exchangeStats t r.die bs
    let s := if bad then (s.flag (2 + r.die) Reg.embStatus 3).bump (2 + r.die) Reg.embExchNonfiniteCount 1 else s
    let payload := gradPayload t.exchange bs
    let dst := s.owner r.table r.row
    if dst = s.rank then
      { s with emb := { s.emb with
        records := s.emb.records ++ [ExRecord.mk s.rank r.table r.row r.count (gradValues t.exchange t.dim payload)] } }
    else s.sendMsg (s.nodeOfRank dst) queueExchange (u16 r.table ++ u16 0 ++ c32 r.count ++ u64 r.row ++ payload)

/-- Is the row list of the step whole: all its frames are here and resolved, and no read of the step is still out? -/
def State.listWhole (s : State) : Bool :=
  let fs := s.adm.frames.filter fun f => f.isEvents && f.step = s.curStep && f.waiting = 0
  (match fs with | [] => false | f :: _ => decide (f.mbCount ≤ fs.length))
    && !(s.emb.asks.any fun a => a.step = s.curStep) && !(s.emb.held.any fun h => h.src = s.node && h.step = s.curStep)

/-- Have all the step's terms passed and every row closed (R266)? A die that no row of the list belongs to has none. -/
def State.scatterDone (s : State) : Bool :=
  s.listWhole && s.emb.queue.isEmpty && s.emb.open'.isEmpty && s.emb.merge.isEmpty && [0, 1, 2, 3].all fun d =>
    s.emb.ended.contains d || !(s.emb.rows.any fun r => r.step = s.curStep && s.homeDie r.table r.row = d)

/-- The end marker goes to every owner of the job, once (R266). -/
def State.endMarkers (s : State) : State :=
  if s.emb.markers.contains s.rank || !s.scatterDone then s
  else
    let s := { s with emb := { s.emb with markers := s.emb.markers ++ [s.rank] } }
    (List.range s.modules).foldl (fun s k =>
      if k = s.rank then s else s.sendMsg (s.nodeOfRank k) queueEnd []) s

/-- Coalescer entries in use on a die. -/
def State.entriesUsed (s : State) (die : Nat) : Nat :=
  ((s.emb.open'.filter fun r => r.die = die).map fun r => entriesOf (((s.table r.table).map (·.dim)).getD 0)).sum

/-- Write bytes at the next free place of the work region, in whole sectors (log 34). -/
def State.toWork (s : State) (bs : Bytes) : Nat × State :=
  let a := s.odNat (od 0x2200 0x12) + s.emb.work
  (a, { s.storeSoon a bs with emb := { s.emb with work := s.emb.work + roundUp bs.length 64 } })

/-- A term in its laddered format: its blocks, under SR with the dice of its position (R260). -/
def State.termBlocks (s : State) (t : Table) (x : ScatterTerm) : List (Fmt.Block × List F32) :=
  let key := Dice.tensorKey (BitVec.ofNat 64 (s.odNat (od 0x2100 0x0B))) (BitVec.ofNat 64 s.curStep)
    (Dice.keyWord t.table 2 x.mb 3 1 s.node)
  convLines x.fmt 1 none key x.pos 0 [x.values]

/-- A term takes the sort-merge path: its tag and payload go to the work region (R262, log 17). -/
def State.toMerge (s : State) (die : Nat) (t : Table) (row fmt : Nat) (payload : Bytes) : State :=
  let w := s.toWork (u16 t.table ++ u16 fmt ++ u32 0 ++ u64 row ++ payload)
  ({ w.2 with emb := { w.2.emb with merge := w.2.emb.merge ++ [⟨die, t.table, row, fmt, w.1⟩] } } : State).bump (2 + die)
    Reg.embSortmergeTerms 1

/-- Meet one term of a row, as received (R261, R262). -/
def State.meetTerm (s : State) (die : Nat) (t : Table) (row fmt : Nat) (payload : Bytes) (more : Bool) : State :=
  let here := fun (r : RowSum) => r.table = t.table && r.row = row
  if s.emb.merge.any fun r => r.table = t.table && r.row = row then s.toMerge die t row fmt payload
  else
    let entry := s.emb.open'.find? here
    if entry.isNone && 4096 < s.entriesUsed die + entriesOf t.dim then
      let s := s.flag (2 + die) Reg.embStatus 1
      let over' := if s.emb.overflow.contains die then s.emb.overflow else s.emb.overflow ++ [die]
      ({ s with emb := { s.emb with overflow := over' } } : State).toMerge die t row fmt payload
    else
      let old := entry.getD ⟨die, t.table, row, 0, List.replicate t.dim 0⟩
      let new := { old with count := cap32 (old.count + 1), sum := addVec old.sum (gradValues fmt t.dim payload) }
      let rest := s.emb.open'.filter fun r => !here r
      let s := { s with emb := { s.emb with open' := rest ++ [new] } }
      let s := s.setReg (2 + die) Reg.embCoalesceHigh (max (s.reg (2 + die) Reg.embCoalesceHigh) (s.entriesUsed die))
      if more then s
      else ({ s with emb := { s.emb with open' := rest } }).closeRow new

/-- A term passes in scatter order: one of a dropped position, or of a row that the step does not list, is discarded (R254); the
row's last occurrence closes it (R261). The statistics of its conversion stand as tensor 2, under the exchange's mark of pass 3 (R74, R260). -/
def State.passTerm (s : State) (q : QueuedTerm) : State :=
  match s.table q.table, s.emb.rows.find? fun r => r.is s.curStep q.table q.row with
  | some t, some r =>
    if r.count ≤ r.met || !(r.lasts.any fun l => l.1 = q.term.mb) then s
    else
      let s := { s with emb := { s.emb with rows := s.emb.rows.map fun (x : ListedRow) =>
        (if x.is s.curStep q.table q.row then { x with met := x.met + 1 } else x) } }
      let bs := s.termBlocks t q.term
      let s := s.keepStats t.table 2 19 q.term.mb q.term.fmt 1 q.die (bs.map fun b => b.1.stat)
      s.meetTerm q.die t q.row q.term.fmt (gradPayload q.term.fmt bs) (decide (r.met + 1 < r.count))
  | _, _ => s

/-- The next term of a die in scatter order, when every source that has not ended has one waiting (R260). -/
def State.nextTerm (s : State) (die sources : Nat) : Option QueuedTerm :=
  let heads := (List.range sources).map fun k => (k, s.emb.queue.find? fun q => q.die = die && q.term.source = k)
  if heads.any fun h => h.2.isNone && !s.emb.closed.contains (die, h.1) then none
  else (sortBy (fun (a b : QueuedTerm) => decide (a.term.turn < b.term.turn)
    || (decide (a.term.turn = b.term.turn) && decide (a.term.pos ≤ b.term.pos))) (heads.filterMap (·.2))).head?

/-- The terms of a die that may pass do, `n` at most. -/
def State.passTerms (die sources : Nat) : Nat → State → State
  | 0, s => s
  | n + 1, s => match s.nextTerm die sources with
    | none => s
    | some q => State.passTerms die sources n
        (({ s with emb := { s.emb with queue := s.emb.queue.erase q } } : State).passTerm q)

/-- The die has met its last term when every source has ended and none of their terms waits. -/
def State.endDie (s : State) (die sources : Nat) : State :=
  if (List.range sources).all (fun k => s.emb.closed.contains (die, k)) && !(s.emb.queue.any fun q => q.die = die)
      && !s.emb.ended.contains die then { s with emb := { s.emb with ended := s.emb.ended ++ [die] } }
  else s

/-- SCATTER_TERM (R260 to R262, R266): a source's next term reaches the row's home die. -/
def execScatterTerm (die : Fin 4) (table row : Nat) (term : ScatterTerm) (last : Bool) (s : State) :
    Host.Outcome State Fault Refusal :=
  let d := die.val
  .next (if s.held (2 + d) 8 || s.homeDie table row ≠ d || term.sources ≤ term.source || s.emb.closed.contains (d, term.source) then s
    else
      let s := { s with emb := { s.emb with
        queue := s.emb.queue ++ [⟨d, table, row, term⟩]
        closed := if last then s.emb.closed ++ [(d, term.source)] else s.emb.closed } }
      ((State.passTerms d term.sources s.emb.queue.length s).endDie d term.sources).endMarkers)

/-- The terms of a row on the sort-merge path are read back and summed in sorted order, starting from +0; a read that fails is a
memory fault (R262, R312). -/
def State.mergeRow (s : State) (die : Nat) (t : Table) (row : Nat) (ts : List MergeTerm) : State :=
  match ts.find? fun x => s.readFails x.at' (16 + gradBytes x.fmt t.dim) with
  | some x => s.failRead x.at' (16 + gradBytes x.fmt t.dim)
  | none =>
    s.closeRow ⟨die, t.table, row, cap32 ts.length, ts.foldl (fun a x =>
      addVec a (gradValues x.fmt t.dim (s.readMem (x.at' + 16) (gradBytes x.fmt t.dim)))) (List.replicate t.dim 0)⟩

/-- Payload bytes of a term on the sort-merge path. -/
def State.mergeBytes (s : State) (x : MergeTerm) : Nat :=
  match s.table x.table with | some t => gradBytes x.fmt t.dim | none => 0

/-- SORT_MERGE (R262): when the die's last term has arrived, and its reads do not wait (R320). -/
def execSortMerge (die : Fin 4) (s : State) : Host.Outcome State Fault Refusal :=
  let d := die.val
  let mine := s.emb.merge.filter fun r => r.die = d
  let keys := (mine.map fun r => (r.table, r.row)).eraseDups
  let keys := sortBy (fun (a b : Nat × Nat) => decide (a.1 < b.1) || (decide (a.1 = b.1) && decide (a.2 ≤ b.2))) keys
  .next (if s.held (2 + d) 8 || !s.emb.ended.contains d || s.spansWait (mine.map fun x => (x.at', 16 + s.mergeBytes x, false)) then s
    else
      let s := { s with emb := { s.emb with merge := s.emb.merge.filter fun r => r.die ≠ d } }
      let s := if keys.isEmpty then s else s.event 0x0203 (u8 (2 + d) ++ c32 keys.length)
      let s := keys.foldl (fun s k => match s.table k.1 with
        | none => s
        | some t => s.mergeRow d t k.2 (mine.filter fun r => r.table = k.1 && r.row = k.2)) s
      s.endMarkers)

/-! ### The owner (R266, R267) -/

/-- EXCHANGE_RECORD (R266). -/
def execExchangeRecord (src : Nat) (record : Bytes) (s : State) : Host.Outcome State Fault Refusal :=
  let t := s.takeInbox (s.nodeOfRank src) 7
  .next (if s.engineHeld 8 || !s.turnOfMsg (s.nodeOfRank src) queueExchange then s else let s := t; match s.table (leAt record 0 2) with
    | none => s
    | some t => { s with emb := { s.emb with records := s.emb.records ++
        [ExRecord.mk src t.table (leAt record 8 8) (leAt record 4 4) (gradValues t.exchange t.dim (record.drop 16))] } })

/-- EXCHANGE_END_MARKER (R266). -/
def execExchangeEndMarker (src : Nat) (s : State) : Host.Outcome State Fault Refusal :=
  let t := s.takeInbox (s.nodeOfRank src) 7
  .next (if s.engineHeld 8 || !s.turnOfMsg (s.nodeOfRank src) queueEnd then s else let s := t; if s.emb.markers.contains src then s
    else { s with emb := { s.emb with markers := s.emb.markers ++ [src] } })

/-- OWNER_REDUCTION (R267): with every module's marker, the sources add in ascending rank; each row's sum stands in its gradient
slot in the work region. -/
def execOwnerReduction (s : State) : Host.Outcome State Fault Refusal :=
  let s := if s.engineHeld 8 then s else s.endMarkers
  .next (if s.engineHeld 8 || s.emb.done || !((List.range s.modules).all fun k => s.emb.markers.contains k) then s
    else
      let recs := sortBy (fun (a b : ExRecord) => decide (a.src ≤ b.src)) s.emb.records
      let rows := recs.foldl (fun (acc : List RowSum) r =>
        match acc.find? fun x => x.table = r.table && x.row = r.row with
        | some x => acc.map fun y => if y = x then
            { y with count := cap32 (y.count + r.count), sum := addVec y.sum r.vals } else y
        | none => acc ++ [⟨s.homeDie r.table r.row, r.table, r.row, cap32 r.count,
            addVec (List.replicate r.vals.length 0) r.vals⟩]) []
      let s := rows.foldl (fun (s : State) r =>
        let w := s.toWork (f32Bytes r.sum)
        { w.2 with emb := { w.2.emb with reduced := w.2.emb.reduced ++ [⟨r.die, r.table, r.row, r.count, w.1⟩] } }) s
      { s with emb := { s.emb with records := [], done := true } })

/-! ### Pushed hot rows (R258) -/

/-- HOTSET_PUSH_ROW. -/
def execHotsetPushRow (owner table row cls : Nat) (removal : Bool) (payload : Bytes) (s : State) :
    Host.Outcome State Fault Refusal :=
  .next (if s.engineHeld 8 || !s.turnOfMsg (s.nodeOfRank owner) queueHot then s else (s.takeInbox (s.nodeOfRank owner) 7).hotInstall owner table row cls removal payload)

/-- A rank's end marker of a push: its next packet that waits, behind no push, or a message taken in (R258, R341, log 17). -/
def State.hotEndPacket (s : State) (k : Nat) : Option Packet :=
  (s.fab.inbox.find? fun p => p.src = s.nodeOfRank k && p.op ≠ 8).filter fun p => p.op = 7 && leAt p.data 5 1 = queueHotEnd
def State.hotEndMsg (s : State) (k : Nat) : Option (Nat × Nat × Bytes) :=
  s.fab.msgs.find? fun m => m.1 = queueHotEnd && m.2.1 = s.nodeOfRank k

/-- Has every other owner's end marker arrived? -/
def State.hotEnded (s : State) : Bool :=
  (List.range s.modules).all fun k => k = s.rank || (s.hotEndPacket k).isSome || (s.hotEndMsg k).isSome

/-- Take a rank's end marker. -/
def State.takeHotEnd (s : State) (k : Nat) : State :=
  match s.hotEndPacket k with
  | some p => { s with fab := { s.fab with inbox := s.fab.inbox.erase p } }
  | none => match s.hotEndMsg k with
    | some m => { s with fab := { s.fab with msgs := s.fab.msgs.erase m } }
    | none => s

/-- HOTSET_INSTALL_COMPLETE (R258): every owner's end marker of the refresh committed here has arrived. Its numbers are those of the
refresh, of the module's own rows (DEDUCED, log 34); at other numbers, and with no refresh to install, it happens not (log 5). -/
def execHotsetInstallComplete (step pushed entered left migrations : Nat) (s : State) :
    Host.Outcome State Fault Refusal :=
  .next (if s.emb.install ≠ some ⟨step, pushed, entered, left, migrations⟩ || !s.emb.push.isEmpty || !s.hotEnded then s
    else
      let s := (List.range s.modules).foldl (fun (s : State) k => if k = s.rank then s else s.takeHotEnd k) s
      let s := [2, 3, 4, 5].foldl (fun s d => s.setReg d Reg.embRefreshStep step) s
      ({ s with emb := { s.emb with install := none } } : State).event 0x0202
        (u64 step ++ c32 pushed ++ c32 entered ++ c32 left ++ c32 migrations))

end Sys2Proof.Machine
end

