-- ==== Sys2Proof/Machine/Update.lean ====
section
/-! DEFINITION. The update units: norm checks, the update of a dense tensor and of a row, and the applied module
(R229, R271, R274, R279 to R289, R294, R298). -/

namespace Sys2Proof.Machine

/-! ### Norms (R148, R149, R221, R282, R283) -/

/-- Tag order of norm partials (R149). -/
def NormPart.before (a b : NormPart) : Bool :=
  let key := fun (p : NormPart) => ((((p.die * 65536 + p.vid) * 65536 + p.runNo) * 1024 + p.base) * 65536) + p.opno
  decide (key a ≤ key b)

/-- The norm of a layer's backward pass: kind 0 W, 1 G, 2 U. -/
def State.normSum (s : State) (layer kind : Nat) : F32 :=
  let ps := sortBy NormPart.before
    (s.board.norms.filter fun p => p.layer = layer && p.backward && p.kind = kind)
  if 4096 < ps.length then Fp.qnan else (ps.map (·.value)).foldl Fp.add 0#32

/-- The G norm, unscaled. -/
def State.gNorm (s : State) (layer : Nat) : F32 := scaleRne (-2 * s.cube) (s.normSum layer 1)

/-- The norm check (R283). -/
def State.normPasses (s : State) (accepted : Nat) (navg n : F32) : Bool :=
  Fp.isFinite n && (decide (accepted < s.odNat (od 0x2300 0x0A))
    || Fp.le n (Fp.mul (BitVec.ofNat 32 (s.odNat (od 0x2300 8))) navg))

/-- The running average after a pass. -/
def State.newAvg (s : State) (accepted : Nat) (navg n : F32) : F32 :=
  if accepted = 0 then n
  else Fp.add navg (Fp.mul (Fp.sub n navg) (BitVec.ofNat 32 (s.odNat (od 0x2300 9))))

/-- A check failed: kind 0 layer, 1 table. -/
def State.rejectNorm (s : State) (kind which die : Nat) (n navg : F32) : State :=
  let s := s.event 0x0108 (u8 kind ++ u16 which ++ u32 n.toNat ++ u32 navg.toNat ++ u64 s.curStep)
  let s := s.flagCount (2 + die) Reg.updStatus 0 Reg.updNormRejectCount 1
  { s with upd := { s.upd with checksFailed := s.upd.checksFailed + 1 } }

/-- Add a rejection to a count of OD 0x2300.20: entries first, then tables from 4,096 up. -/
def State.countReject (s : State) (k : Nat) : State :=
  { s with upd := { s.upd with rejects := SMap.modify 0 s.upd.rejects k fun n => cap32 (n + 1) } }

/-! ### The kept gradient (R294, R296) -/

/-- Write the gradient that arrives. -/
def State.keep (s : State) (p : Param) (entry : Nat) (grad : List F32) : State :=
  let b := f32Bytes grad
  let s := s.store (s.keepAddr p) (b ++ u32 (crc32 b).toNat)
  { s with upd := { s.upd with kept := s.upd.kept.filter (· ≠ entry) ++ [entry] } }

/-! ### LAYER_UPDATE (R279 to R284) -/

/-- Count non-finite cases (R279). -/
def State.countNonfinite (s : State) (die n : Nat) : State :=
  s.flagCount (2 + die) Reg.updStatus 2 Reg.updNonfiniteCount n

/-- Write a tensor's other half from its live half and the gradient (R271, R273, R274, R279, R280). The working copy's conversion
has no word w2 and leaves no statistics (DEDUCED, log 16). -/
def State.updateTensor (s : State) (entry : Nat) (p : Param) (grad : List F32) (accepted : Nat) (navg : F32) : State :=
  let q := s.ruleSet p.ruleSet
  let l := p.layout q
  let R := p.rows
  let C := p.cols
  let step := s.curStep
  let old := p.half (s.liveHalf entry)
  let new := p.half (1 - s.liveHalf entry)
  let h := HalfHead.of (s.readMem old 64)
  let w := masterRows C (s.readMem (old + l.hi) (2 * (R * C))) (s.readMem (old + l.ext) (R * C))
  let m := if q.hasM then transpose R (blockCols Fmt.e3m2 R C (s.readMem (old + l.m) p.momentBytes)) else []
  let r := if q.hasR R then f32s (s.readMem (old + l.r) (4 * R)) else []
  let c := if q.hasC R then f32s (s.readMem (old + l.c) (4 * C)) else []
  let g := (chunks C grad).map fun row => row.map (scaleRne (-s.cube))
  let res := q.dense (s.rate q step) R C w g ⟨m, r, c, h.p1, h.p2⟩
  let seed := BitVec.ofNat 64 (s.odNat (od 0x2100 0x0B))
  let key := fun tensor pass => Dice.tensorKey seed (BitVec.ofNat 64 step) (Dice.keyWord p.layer tensor 0 pass 0 0)
  -- the master, then the working copy from the master just written
  let mb := convLines Fmt.s24 1 none (key p.tensor 4) 0 0 (transpose C res.1)
  let codes := masterCols R C mb
  let rowsOf := (List.range R).map fun i => codes.map fun col => col.getD i 0
  let bad := (res.1.flatten.filter fun x => !Fp.isFinite x).length
  let work := convLines p.wfmt 0 none 0 0 0 (codes.map fun col => col.map (Fmt.plain Fmt.s24))
  let mo := if q.hasM then convLines Fmt.e3m2 1 none (key (p.tensor ^^^ 0x40) 5) 0 0 (transpose C res.2.m) else []
  let badM := (mo.filter fun b => b.1.scale = 0xFF).length
  let head : HalfHead := ⟨min 0xFFFFFFFF (h.t + 1), accepted, res.2.p1, res.2.p2, navg⟩
  let s := s.snapCopy (snapHalf entry (1 - s.liveHalf entry))
  let s := s.store new (head.bytes step)
  let s := s.store (new + l.hi) (rowsOf.flatten.flatMap fun x => natLE 2 (x / 256))
  let s := s.store (new + l.ext) (rowsOf.flatten.flatMap fun x => natLE 1 (x % 256))
  let s := s.store (new + l.work) (payloadOf p.wfmt (work.map (·.1)))
  let s := if q.hasM then s.store (new + l.m) (payloadOf Fmt.e3m2 (mo.map (·.1))) else s
  let s := if q.hasR R then s.store (new + l.r) (f32Bytes res.2.r) else s
  let s := if q.hasC R then s.store (new + l.c) (f32Bytes res.2.c) else s
  let s := s.keepStats p.layer p.tensor 4 0 Fmt.s24 1 p.die (mb.map fun b => b.1.stat)
  let s := if q.hasM then s.keepStats p.layer (p.tensor ^^^ 0x40) 5 0 Fmt.e3m2 1 p.die (mo.map fun b => b.1.stat) else s
  let s := s.countNonfinite p.die (bad + badM)
  { s with upd := { s.upd with wrote := s.upd.wrote ++ [entry], handled := s.upd.handled ++ [entry] } }

/-- The due entries of a layer. -/
def State.dueOf (s : State) (layer : Nat) : List Nat :=
  (s.params.zipIdx.filter fun p => p.1.layer = layer && p.1.due s.curStep).map (·.2)

/-- A job below the limit watches U / W after each update of a layer (R228, R229). -/
def State.watchBand (s : State) (layer : Nat) (q : F32) : State :=
  let lo := f32At (s.odBytes (od 0x2100 9)) 0
  let hi := f32At (s.odBytes (od 0x2100 9)) 4
  let inside := Fp.le (Fp.mul lo lo) q && Fp.le q (Fp.mul hi hi) && Fp.isFinite q
  let was := s.num.outside.contains layer
  let rest := s.num.outside.filter (· ≠ layer)
  let s := { s with num := { s.num with outside := if inside then rest else rest ++ [layer] } }
  if inside || was then s else (s.flag 6 Reg.numStatus 6).event 0x0106 (u16 layer ++ u32 q.toNat ++ u64 s.curStep)

/-- After a layer's update its backward pass record, where it has one, keeps the norms, and the watcher tests the ratio (R228,
R229, R232). -/
def State.watchRatio (s : State) (layer : Nat) : State :=
  let w := s.normSum layer 0
  let u := s.normSum layer 2
  let g := s.gNorm layer
  let watch := decide (s.modules < s.odNat (od 0x2100 7))
  let q := Fp.div u w
  let s := match s.passNo layer true with
    | some n => s.updPass n fun p =>
        { p with normW := w, normG := g, normU := u, ratio := if watch then q else p.ratio, step := s.curStep }
    | none => s
  if watch then s.watchBand layer q else s

/-- Does a voicing add to its layer's G norm (R148)? -/
def Voicing.givesNorm (v : Voicing) (layer : Nat) : Bool :=
  v.layer = layer && v.backward && (v.norm || (v.op = 6 && v.deliver = 1))

/-- Is the layer's G norm complete (R284): every partial is in, as far as the module can tell? None is on its way over the
bridge, no fret runs a voicing that forms one, and where some voicing forms one, one is there (log 33). -/
def State.normReady (s : State) (layer : Nat) : Bool :=
  !(s.board.contribs.any fun c => c.layer = layer && c.pass ≠ 0 && (c.norm || (c.op = 6 && c.deliver = 1)))
    && !(s.frets.any fun f => f.2.run = 1 && f.2.active < 2 && f.2.voicing.givesNorm layer)
    && (!(s.library.any fun x => (Voicing.of x.2).givesNorm layer)
      || s.board.norms.any fun p => p.layer = layer && p.backward && p.kind = 1)

/-- The layer's check, made once in a step: whether it passes. -/
def State.checkLayer (s : State) (p : Param) (h : HalfHead) : Bool × State :=
  if s.upd.passed.contains p.layer then (true, s)
  else if s.upd.failed.contains p.layer then (false, s)
  else
    let n := Fp.sqrt (s.gNorm p.layer)
    if s.normPasses h.accepted h.navg n then
      (true, { s with upd := { s.upd with passed := s.upd.passed ++ [p.layer] } })
    else
      (false, ({ s with upd := { s.upd with failed := s.upd.failed ++ [p.layer] } } : State).rejectNorm 0 p.layer p.die n h.navg)

/-- Handle an entry without an update. -/
def State.handled (s : State) (entry : Nat) : State :=
  { s with upd := { s.upd with handled := s.upd.handled ++ [entry] } }

/-- The update or the rejection of a due tensor. -/
def State.applyTensor (s : State) (entry : Nat) (p : Param) (grad : List F32) : State :=
  let old := p.half (s.liveHalf entry)
  if s.readFails old p.halfBytes then s.failRead old p.halfBytes
  else
    let h := HalfHead.of (s.readMem old 64)
    let c := s.checkLayer p h
    if c.1 then
      let n := Fp.sqrt (s.gNorm p.layer)
      let s := c.2.updateTensor entry p grad (cap32 (h.accepted + 1)) (s.newAvg h.accepted h.navg n)
      if (s.dueOf p.layer).all fun e => s.upd.handled.contains e then s.watchRatio p.layer else s
    else (c.2.countReject entry).handled entry

/-- What the update of a tensor touches: its halves and its kept gradient. -/
def State.layerSpans (s : State) (p : Param) : List (Nat × Nat × Bool) :=
  (p.half 0, p.halfBytes, true) :: (p.half 1, p.halfBytes, true)
    :: if p.keep then [(s.keepAddr p, 4 * (p.rows * p.cols) + 4, true)] else []

/-- LAYER_UPDATE (R280, R284, R288, R320): after the step's verdict and the layer's G norm, on a unit that still writes; once per
entry. -/
def execLayerUpdate (entry : Nat) (grad : List F32) (s : State) : Host.Outcome State Fault Refusal :=
  .next (match s.params[entry]? with
    | none => s
    | some p =>
      if s.num.decided ≠ some s.curStep || s.upd.handled.contains entry || s.upd.full.contains p.die
          || (!s.num.skip && p.due s.curStep && !s.normReady p.layer) || s.held (2 + p.die) 9 || s.spansWait (s.layerSpans p) then s
      else
        let kept := if p.keep && s.upd.rerun = 1 then s.keptGrad p else some grad
        match kept with
        | none => s.failRead (s.keepAddr p) (4 * (p.rows * p.cols) + 4)
        | some g =>
          let s := if p.keep then s.keep p entry g else s
          if s.num.skip || !p.due s.curStep then s.handled entry else s.applyTensor entry p g)

/-! ### ROW_UPDATE (R281, R282, R285 to R288) -/

/-- Bytes of a table's gradient slot. -/
def Table.gradSlot (t : Table) : Nat := 4 * t.dim
/-- A row's gradient: the reduced sum in its slot without the cube. -/
def State.rowGrad (s : State) (r : GradSlot) : List F32 :=
  (f32s (s.readMem r.at' (((s.table r.table).map Table.gradSlot).getD 0))).map (scaleRne (-s.cube))

/-- The norm of a table shard (R282). -/
def State.shardNorm (s : State) (table : Nat) : F32 :=
  let rows := sortBy (fun (a b : GradSlot) => decide (a.row ≤ b.row)) (s.emb.reduced.filter fun r => r.table = table)
  let die := fun d => sumSquares ((rows.filter fun r => r.die = d).flatMap fun r => s.rowGrad r)
  Fp.sqrt (Fp.add (Fp.add (Fp.add (die 0) (die 1)) (die 2)) (die 3))

/-- A shard record of the committed parity. -/
def State.shardRec (s : State) (table : Nat) : Nat × F32 :=
  SMap.get (0, 0#32) s.emb.shard ((s.curStep + 1) % 2 * 1024 + table % 1024)

/-- The shard's check, made once in a step; a pass writes the step's shard record. -/
def State.checkShard (s : State) (t : Table) (die : Nat) : Bool × State :=
  match s.upd.shards.find? fun x => x.1 = t.table with
  | some x => (x.2, s)
  | none =>
    let rec' := s.shardRec t.table
    let n := s.shardNorm t.table
    let ok := s.normPasses rec'.1 rec'.2 n
    let s := { s with upd := { s.upd with shards := s.upd.shards ++ [(t.table, ok)] } }
    if ok then
      let s := s.snapCopy (snapSketch (s.curStep % 2))
      let new := (cap32 (rec'.1 + 1), s.newAvg rec'.1 rec'.2 n)
      let m := SMap.set (0, 0#32) s.emb.shard (s.curStep % 2 * 1024 + t.table % 1024) new
      (true, { s with emb := { s.emb with shard := m } })
    else
      let k := (s.tables.findIdx? fun x => x.table = t.table).getD 0
      (false, (s.rejectNorm 1 t.table die n rec'.2).countReject (4096 + k))

/-- A row's new slot content, with the conversions' statistics and the moment's non-finite blocks (R275, R279, R281). -/
def State.newRow (s : State) (t : Table) (cls row : Nat) (slot : Bytes) (g : List F32) : Bytes × State × Nat :=
  let q := s.ruleSet t.optSet
  let step := s.curStep
  let seed := BitVec.ofNat 64 (s.odNat (od 0x2100 0x0B))
  let key := fun tensor pass => Dice.tensorKey seed (BitVec.ofNat 64 step) (Dice.keyWord t.table tensor 0 pass 0 0)
  let fmt := classFmt cls
  let n := payloadBytes fmt t.dim
  let mBytes := payloadBytes Fmt.e3m2 t.dim
  let w := payloadValues fmt t.dim slot
  let m := if q.hasM then payloadValues Fmt.e3m2 t.dim ((slot.drop n).take mBytes) else List.replicate t.dim 0#32
  let at' := n + if q.hasM then mBytes else 0
  let l8 := q.rule = 2 || q.rule = 3 || q.rule = 5
  let a := Fmt.l8Decode (slot.getD at' 0).toNat
  let res := q.embRow (s.rate q step) t.dim w g m a
  let wb := convLines fmt 1 none (key 0 4) row 0 [res.1]
  let mb := if q.hasM then convLines Fmt.e3m2 1 none (key 1 5) row 0 [res.2.1] else []
  let ab := if l8 then [Fmt.encGroup Fmt.l8 0 (fun _ => 0) [res.2.2]] else []
  let die := s.homeDie t.table row
  let s := s.keepStats t.table 0 4 0 fmt 1 die (wb.map fun b => b.1.stat)
  let s := if q.hasM then s.keepStats t.table 1 5 0 Fmt.e3m2 1 die (mb.map fun b => b.1.stat) else s
  let s := if l8 then
      s.keepStats t.table 1 5 0 (if q.hasM then Fmt.e3m2 else Fmt.l8) (if q.hasM then 1 else 0) die (ab.map (·.stat))
    else s
  (payloadOf fmt (wb.map (·.1)) ++ (if q.hasM then payloadOf Fmt.e3m2 (mb.map (·.1)) else [])
    ++ ab.flatMap fun b => b.codes.map fun c => BitVec.ofNat 8 c,
   s, (mb.filter fun b => b.1.scale = 0xFF).length)

/-- A gradient reached the row: its entry is marked (R246). A rollback, whose journal holds slots and migrated entries only, leaves the
mark as it is (DESIGN CHOICE, log 34). -/
def State.touchRow (s : State) (d : Nat × DirEntry) : State :=
  (s.snapCopy (snapRow d.2.table d.2.row)).setDir d.1 { d.2 with touched := true }

/-- Update one row in place. -/
def State.updateRow (s : State) (t : Table) (r : GradSlot) (d : Nat × DirEntry) : State :=
  let n := slotBytes d.2.cls t
  if s.readFails d.2.slot n then s.failRead d.2.slot n
  else
    match s.journalRow t.table r.row false with
    | none => s.journalFull r.die
    | some s =>
      let new := s.newRow t d.2.cls r.row (s.readMem d.2.slot n) (s.rowGrad r)
      let s := (new.2.1.touchRow d).store d.2.slot new.1
      let s := (s.countNonfinite r.die new.2.2).bump (2 + r.die) Reg.updRowsUpdated 1
      { s with upd := { s.upd with rowsUpdated := s.upd.rowsUpdated + 1 } }

/-- A row's gradient reaches its owner: the shard's check, and the row's update or its rejection (R246, R254, R282, R285). A row
that is not in the directory changes nothing. -/
def State.applyRow (s : State) (t : Table) (r : GradSlot) : State :=
  match s.dirFind t.table r.row with
  | none => (s.checkShard t r.die).2
  | some d =>
    let c := s.checkShard t r.die
    if c.1 then c.2.updateRow t r d else c.2.touchRow d

/-- A read that the update of a row makes and that fails: a bucket of its search, or a gradient slot of its shard (R302, R311). -/
def State.rowReadFails (s : State) (t : Table) (row : Nat) : Option (Nat × Nat) :=
  match s.dirBad t.table row with
  | some b => some (b, 64)
  | none => (s.emb.reduced.find? fun r => r.table = t.table && s.readFails r.at' t.gradSlot).map fun r => (r.at', t.gradSlot)

/-- What the update of a row touches: its entry and slot, its die's journal, and the gradient slots of its shard. -/
def State.rowUpdateSpans (s : State) (t : Table) (r : GradSlot) : List (Nat × Nat × Bool) :=
  ((s.rowSpans t r.row).map fun x => (x.1, x.2.1, true)) ++ [(s.journalBase r.die, s.odNat (od 0x2300 0x11), true)].filter (·.2.1 ≠ 0)
    ++ (s.emb.reduced.filter fun x => x.table = t.table).map fun x => (x.at', t.gradSlot, false)

/-- ROW_UPDATE (R281, R320): after the verdict and the owner's reduction, once per row. -/
def execRowUpdate (table row : Nat) (s : State) : Host.Outcome State Fault Refusal :=
  .next (match s.table table, s.emb.reduced.find? fun r => r.table = table && r.row = row with
    | some t, some r =>
      if s.num.decided ≠ some s.curStep || !s.emb.done || s.upd.rowsDone.contains (table, row) || s.upd.full.contains r.die
          || s.held (2 + r.die) 9 || s.spansWait (s.rowUpdateSpans t r) then s
      else
        let s := { s with upd := { s.upd with rowsDone := s.upd.rowsDone ++ [(table, row)] } }
        if s.num.skip then s
        else match s.rowReadFails t row with
          | some a => s.failRead a.1 a.2
          | none => s.applyRow t r
    | _, _ => s)

/-! ### MODULE_APPLIED (R289) -/

/-- Is everything of the step written (R289)? -/
def State.isApplied (s : State) : Bool :=
  decide (s.num.decided = some s.curStep) && s.upd.fault.isNone && (s.emb.done || s.tables.isEmpty)
  && (s.params.zipIdx.all fun p => !p.1.due s.curStep || s.num.skip || s.upd.handled.contains p.2)
  && (s.params.zipIdx.all fun p => !p.1.keep || s.upd.kept.contains p.2)
  && (s.num.skip || s.emb.reduced.all fun r => s.upd.rowsDone.contains (r.table, r.row))
  && !(s.dram.queue.any fun r => r.work = .own && r.writes)

/-- The owner's work at the end of a step: the step's counts enter its copy of the sketch, and a refresh that falls at the step's
commit chooses and migrates (R258, R265). -/
def State.ownerStep (s : State) (step : Nat) : State :=
  let s := (s.snapCopy (snapSketch (step % 2))).sketchCommit step s.num.skip
  if s.refreshDue step then s.refresh step else s

/-- MODULE_APPLIED (R258, R289, R320): with every write of the step done, the carries of the step are written, the owner's work is done, the step sync object is set, the
vote is cast; a fault of the owner's work has cast it. -/
def execModuleApplied (s : State) : Host.Outcome State Fault Refusal :=
  .next (if !s.isApplied || s.upd.voted || s.stepWaits then s
    else
      let step := s.curStep
      let s := if s.num.skip then s else s.saveCarries step
      let s := s.ownerStep step
      if s.upd.fault.isSome then s
      else
        let s := s.syncOp 1 0 step 0
        ({ s with upd := { s.upd with applied := true } } : State).castVote)

end Sys2Proof.Machine
end

