-- ==== Sys2Proof/Machine/Commit.lean ====
section
/-! DEFINITION. The commit: its effects, the vote, the time limit, the rerun, the snapshot's stream and the checkpoint
(R183, R223, R224, R235, R258, R265, R286, R290 to R299, R391). -/

namespace Sys2Proof.Machine

/-! ### Snapshots (R297, R298, R391) -/

/-- Pieces of an item's data, at most 8 MiB each, with their offsets; the item's home die and places. -/
def snapPieces (kind index key die : Nat) (places : List (Nat × Nat)) (data : Bytes) : List SnapItem :=
  (chunks 0x800000 data).zipIdx.map fun c => ⟨kind, index, 0x800000 * c.2, key, c.1, die, places⟩

/-- The sketch of a parity and its shard records, in table-map order (log 19). -/
def State.sketchBytes (s : State) (parity : Nat) : Bytes :=
  ((List.range 65536).flatMap fun k => u32 (SMap.get 0 s.emb.sketch (parity * 65536 + k)))
    ++ s.tables.flatMap fun t =>
      let r := SMap.get (0, 0#32) s.emb.shard (parity * 1024 + t.table % 1024)
      u32 r.1 ++ u32 r.2.toNat

/-- The rows of a table that the module owns, in ascending row number: entry and slot. -/
def State.ownRows (s : State) (t : Table) : List (Nat × DirEntry) :=
  sortBy (fun (a b : Nat × DirEntry) => decide (a.2.row ≤ b.2.row))
    (s.directory.filter fun e => e.2.table = t.table && s.owner e.2.table e.2.row = s.rank)

/-- The items of a table: each row's directory entry and slot. -/
def State.tableItems (s : State) (t : Table) : List SnapItem :=
  ((s.ownRows t).foldl (fun (acc : List SnapItem × Nat) e =>
    let n := slotBytes e.2.cls t
    let data := e.2.bytes ++ s.readMem e.2.slot n
    (acc.1 ++ [SnapItem.mk 6 t.table acc.2 (snapRow t.table e.2.row) data (s.homeDie t.table e.2.row) [(e.1, 16), (e.2.slot, n)]],
     acc.2 + data.length)) ([], 0)).1

/-- The stream's items at the commit of a step, in the order of R297. -/
def State.snapItems (s : State) (step : Nat) (h : History) : List SnapItem :=
  let carry := s.carryAt (step % 2) 0 0
  [SnapItem.mk 1 0 0 0 (u64 step ++ padTo 56 s.jobKey ++ u16 s.node ++ zeroBytes 6) 0 []]
  ++ snapPieces 2 0 0 0 [] h.bytes
  ++ (s.params.zipIdx.flatMap fun p =>
      let half := p.1.half (s.liveHalf p.2)
      let places := (p.1.stateParts (s.ruleSet p.1.ruleSet)).map fun x => (half + x.1, x.2)
      snapPieces 3 p.2 (snapHalf p.2 (s.liveHalf p.2)) p.1.die places (places.flatMap fun x => s.readMem x.1 x.2))
  ++ snapPieces 4 0 (snapSketch (step % 2)) 0 [] (s.sketchBytes (step % 2))
  ++ snapPieces 5 0 (snapCarry (step % 2)) 0 [(carry, 0x4800000)] (s.readMem carry 0x4800000)
  ++ s.tables.flatMap fun t => s.tableItems t

/-- A snapshot that waits begins at the commit of a step. Poison in its items counts as read then, and their bytes are streamed as they
stand (R311; DESIGN CHOICE, log 19). -/
def State.snapBegin (s : State) (step : Nat) (h : History) : State :=
  match s.upd.snap with
  | some n =>
    if n.step.isSome then s
    else
      let s := [2, 3, 4, 5].foldl (fun s d => s.flag d Reg.updStatus 1) s
      let items := s.snapItems step h
      let s := ((items.flatMap (·.places)).eraseDups).foldl (fun s p => s.meetPoison p.1 p.2) s
      { s with upd := { s.upd with snap := some { n with step := some step, history := some h, items := items } } }
  | none => s

/-- A chunk (R391). -/
def chunkBytes (kind index off : Nat) (data : Bytes) : Bytes :=
  u8 kind ++ u8 0 ++ u16 index ++ u32 data.length ++ u64 off ++ padTo (roundUp data.length 8) data

/-- When a host frame's work is due. -/
def State.dueOfFrame (s : State) (id : Nat) : Nat :=
  match s.adm.frames.find? fun f => f.id = id with | some f => f.tLast + f.bound | none => 0

/-- Does the reading of an item wait for a channel that trains (R320)? -/
def SnapItem.waits (i : SnapItem) (s : State) : Bool := i.places.any fun p => s.chanBusy p.1 p.2

/-- The next piece of the snapshot leaves in a SNAPSHOT frame; buffer space of an item that the stream passed is freed. -/
def State.snapNext (s : State) : State :=
  match s.upd.snap with
  | some n =>
    match n.items with
    | i :: rest =>
      if i.waits s then s else
      let copied := if rest.any fun x => x.key = i.key then n.copied else n.copied.filter fun c => c.1 ≠ i.key
      let s := s.sendFrame 2 (s.dueOfFrame n.frame) 0x83 0 n.frame (n.step.getD 0) (chunkBytes i.kind i.index i.off i.data)
      { s with upd := { s.upd with snap := some { n with items := rest, copied := copied, total := n.total + i.data.length } } }
    | [] => s
  | none => s

/-- The frame's work is complete: its promise is kept (R384). -/
def State.dropFrame (s : State) (id : Nat) : State :=
  { s with adm := { s.adm with frames := s.adm.frames.filter fun f => f.id ≠ id } }

/-- CHECKPOINT (R235, R320, R391): the rest of the stream and its end chunk leave; the history goes to the NV store. -/
def execCheckpoint (s : State) : Host.Outcome State Fault Refusal :=
  .next (match s.upd.snap with
    | none => s
    | some n =>
      if n.step.isNone || n.items.any fun i => i.waits s then s
      else
        let s := (List.range n.items.length).foldl (fun s _ => s.snapNext) s
        let total := match s.upd.snap with | some m => m.total | none => 0
        let s := s.sendFrame 2 (s.dueOfFrame n.frame) 0x83 4 n.frame (n.step.getD 0) (chunkBytes 0xFF 0 total [])
        let s := [2, 3, 4, 5].foldl (fun s d => s.clearReg d Reg.updStatus 2) s
        ({ s with upd := { s.upd with snap := none }, num := { s.num with nv := n.history } } : State).nvPulse 0x20001 (match n.history with | some h => h.bytes.length | none => 0))

/-! ### The commit's effects (R291) -/

/-- The commit record's newer copy (R291 step 1). -/
def State.writeRecord (s : State) (step : Nat) : State :=
  let bits := s.upd.wrote.foldl (fun m e => SMap.modify 0 m e fun h => 1 - h) s.upd.live.bits
  { s with upd := { s.upd with recs := s.upd.recs.set (step % 2) ⟨some step, bits⟩ } }

/-- The sketch and shard copies of the step's parity become the committed ones: a shard that passed no check keeps its record (R265,
R283, R291 step 2). -/
def State.flipCopies (s : State) (step : Nat) : State :=
  let s := s.snapCopy (snapSketch (step % 2))
  let p := step % 2
  let shard := (List.range 1024).foldl (fun m t =>
    if s.upd.shards.contains (t, true) && !s.num.skip then m
    else SMap.set (0, 0#32) m (p * 1024 + t) (SMap.get (0, 0#32) m ((1 - p) * 1024 + t))) s.emb.shard
  { s with emb := { s.emb with shard := shard } }

/-- Records still in a lane are discarded and counted (R183, R291 step 4). -/
def State.discardLanes (s : State) : State :=
  (s.slanes.foldl (fun s l =>
    s.flagCount (laneDie l.1) Reg.stackStatus 3 Reg.stackLeftoverCount l.2.recs.length) s).emptyLanes

/-- The embedding engines after a commit (R249, R254, R287). -/
def Emb.committed (e : Emb) (step : Nat) : Emb :=
  { e with rows := e.rows.filter fun r => r.step ≠ step
           queue := [], closed := [], open' := [], merge := [], work := 0, overflow := [], ended := [], records := []
           markers := [], reduced := [], done := false, tallies := e.tallies.filter fun t => t.step ≠ step
           lastCounts := (e.counts.filter fun c => c.1 / 4096 = step % 2).map fun c => (c.1 % 4096, c.2)
           counts := SMap.eraseRange e.counts (countKey step 0 0) 4096
           out := e.out.filter (fun d => d.step ≠ step), asks := e.asks.filter (fun a => a.step ≠ step)
           window := e.window.filter (fun w => w.step ≠ step)
           pool := e.freeCommit.foldl (fun p a => SMap.set 0 p a 0) e.pool, freeRollback := [], freeCommit := [] }

/-- The pass records after a commit: the verdict of the step before the latest comes into force (R220). -/
def State.advancePasses (s : State) : List PassRec :=
  let ends := s.windowEnds
  s.num.passes.map fun p =>
    { p with
      base := p.next, current := p.next, next := p.pending, repeatsStep := 0, overflowed := false, repeated := false
      survivedNow := false, topNow := 0
      hist := if ends then List.replicate 64 0 else if s.num.skip then p.hist else s.windowHist p }

/-- The clean-step count, and the raise that it brings at the next step (R223, R224). -/
def State.countClean (s : State) (step : Nat) : State :=
  let limit := s.odNat (od 0x2100 2)
  let n := s.reg 6 Reg.numCleanSteps
  if s.num.dirty then s.setReg 6 Reg.numCleanSteps 0
  else if !s.num.clean then s
  else if limit = 0 || n + 1 < limit || s.reg 6 Reg.numCalibLeft ≠ 0 then s.bump 6 Reg.numCleanSteps 1
  else
    let s := s.setReg 6 Reg.numCleanSteps 0
    let c := s.cube
    if 63 ≤ c then s
    else
      let s := (s.setCube (c + 1)).flag 6 Reg.numStatus 4
      let s := s.event 0x0104 (u8 (c % 256).toNat ++ u8 ((c + 1) % 256).toNat ++ u64 step)
      ({ s with num := { s.num with carry := 1 } } : State).rescalePins 1

/-- The scale history as a step's commit leaves it (R234). -/
def State.historyNow (s : State) (step : Nat) : History :=
  ⟨s.reg 6 Reg.numCube, s.reg 6 Reg.numCleanSteps, s.num.carry, s.num.passes, step, s.jobKey⟩

/-- The supervisor after a commit (R220, R223, R234, R235, R237). -/
def State.commitNum (s : State) (step : Nat) : State :=
  let passes := s.advancePasses
  let s := { s with num := { s.num with passes := passes, carry := 0 } }
  let s := s.countClean step
  let left := s.reg 6 Reg.numCalibLeft
  let s := s.setReg 6 Reg.numCalibLeft (left - 1)
  let s := if left = 1 then s.clearReg 6 Reg.numStatus 0x200 else s
  { s with num := { s.num with
    decided := none, skip := false, halved := false, clean := false, dirty := false
    before := none, stepRepeats := 0, repeating := [], gates := [], sinceRollback := false } }

/-- Frames and bounds after a commit: the step's promises are kept, its frames leave the store (R378, R379, R384). A frame whose decision
waits for its tally is answered when that is complete (R372). -/
def State.commitFrames (s : State) (step : Nat) (skipped : Bool) : State :=
  let frames := s.adm.frames.filter fun f => !(f.isEvents && f.step ≤ step) || f.waiting = 1
  let steps := (s.adm.steps.filter fun a => step ≤ a.step).map fun a => if a.step = step then { a with commit := s.time } else a
  ({ s with adm := { s.adm with frames := frames, steps := steps } } : State).sendStatus
    [(1, 0, if skipped then 1 else 0, 0, step, 0)]

/-- The update units after a commit. A fault that came after the vote was cast stays pending (log 32). -/
def Upd.committed (u : Upd) : Upd :=
  { u with wrote := [], handled := [], passed := [], failed := [], shards := [], rowsUpdated := 0, checksFailed := 0
           rowsDone := [], full := [], applied := false, voted := false, kept := [], rolls := 0, rerun := 0
           lost := none }

/-- The tensors and the hot-set choice of the step take effect; a skipped step's carried gradients are restored and saved again
(R291). -/
def State.commitData (s : State) (step : Nat) : State :=
  let s := (s.flipCopies step).commitChoice
  if s.num.skip then ((s.restoreCarries step s.num.carry).metCarries step).saveCarries step else s

/-- The numerics state, the commit record, the journals and the lanes, the rows and the statistics of the step (R291). -/
def State.commitRecords (s : State) (step : Nat) : State :=
  let records := s.stepRecords
  let s := ((s.commitNum step).writeRecord step).emptyJournals.discardLanes
  ({ s with emb := s.emb.committed step } : State).updBoard fun b => { b with records := records, convs := [], norms := [] }

/-- The event of a commit, and the step's counts start again (R291). -/
def State.commitEvent (s : State) (step tensors : Nat) (skipped : Bool) : State :=
  let s := s.event 0x0601 (u64 step ++ u8 (if skipped then 1 else 0) ++ c32 tensors ++ c32 s.upd.rowsUpdated
    ++ c32 s.upd.checksFailed)
  { s with upd := s.upd.committed, fab := { s.fab with tree := [] } }

/-- The history in its region, the event, the promises and the snapshot (R235, R291, R298). -/
def State.commitNews (s : State) (step tensors : Nat) (skipped : Bool) : State :=
  let h := s.historyNow step
  let s := (s.storeSoon (s.historyAt (step % 2)) h.bytes).commitEvent step tensors skipped
  (s.commitFrames step skipped).snapBegin step h

/-- After a commit: the push of a refreshed hot set starts, and a fault that came late votes in the next step (R258, R290; log 32). -/
def State.afterCommit (s : State) (step : Nat) : State :=
  let s := if s.refreshDue step then s.startPush else s
  let s : State := if s.upd.late = some s.curStep then
      { s with upd := { s.upd with late := none, fault := some (s.upd.fault.getD 0x0B) } } else s
  if s.upd.fault.isSome then s.castVote else s

/-- The module commits the step in progress (R291). -/
def State.commit (s : State) : State :=
  let step := s.curStep
  let skipped := s.num.skip
  let tensors := if skipped then 0 else s.upd.wrote.length
  (((s.commitData step).commitRecords step).commitNews step tensors skipped).afterCommit step

/-! ### COMMIT_VOTE (R290, R291) -/

/-- Roll back with the cause that this module sees. -/
def State.rollBackTo (s : State) (decision lowest : Nat) : State :=
  (s.rollback (s.upd.fault.getD 9) decision lowest).metCarries s.curStep

/-- COMMIT_VOTE (R290 to R292): when the whole sum is here, the module commits or rolls back; a module that has not voted, or
that waits for the host, takes none. One that has rolled back for a stop passes the sum on (R405).
It waits for the memory that it reads and writes (R320, log 12). -/
def execCommitVote (arrival : VoteArrival) (s : State) : Host.Outcome State Fault Refusal :=
  .next (if !(s.sumTree 1).cast || s.upd.lost.isSome || s.stepWaits then s
    else
      let own := if s.upd.fault.isSome then s.rank else 0xFFFFFFFF
      let lowest := min own (arrival.lowest.getD 0xFFFFFFFF)
      let s := s.sumArrives 1 arrival.arrived
      match if s.upd.voted then s.sumHere 1 else none with
      | none => s
      | some sum =>
        if countOf sum 1 = Fp.ofNat s.modules then s.commit
        else s.rollBackTo (if anyOf sum 3 then 2 else if countOf sum 2 = Fp.ofNat s.modules then 0 else 1) lowest)

/-! ### VOTE_TIME_LIMIT (R292) -/

/-- Take an outcome of the step: 1 commit, else roll back (log 20). -/
def State.takeOutcome (s : State) (outcome : Nat) : State :=
  let own := if s.upd.fault.isSome then s.rank else 0xFFFFFFFF
  let s := { s with upd := { s.upd with lost := none } }
  let s := if outcome = 1 then s.commit else s.rollBackTo (if s.canRerun && !s.fab.zoneFault then 1 else 2) own
  if s.fab.zoneFault then s.stopTraining else s

/-- Rank 0 cannot be reached: the module takes no decision (R292). -/
def State.arbiterLost (s : State) : State :=
  let s := [2, 3, 4, 5].foldl (fun s d => s.flag d Reg.updStatus 6) s
  let s := { s with upd := { s.upd with lost := some s.curStep } }
  s.sendStatus [(5, 0, 0, 0, s.curStep, 0)]

/-- VOTE_TIME_LIMIT (R292): where rank 0 has recorded nothing, the module asks it to record a rollback and follows what its
reply says (R347). -/
def execVoteTimeLimit (answer : Option (BitVec 64)) (s : State) : Host.Outcome State Fault Refusal :=
  let step := s.curStep
  let here := if s.rank = 0 then some (s.syncObj 1) else answer.map BitVec.toNat
  .next (if s.upd.lost.isSome || s.stepWaits then s
    else match here with
      | none => s.arbiterLost
      | some v =>
        if v / 4 = step && v % 4 ≠ 0 then s.takeOutcome (v % 4)
        else if s.rank = 0 then (s.recordOutcome 2).takeOutcome 2
        else s.request (s.nodeOfRank 0) 6 5 0 1 (step * 4 + 2) 0 [] false (.record step))

/-! ### STEP_RERUN (R296) -/

/-- STEP_RERUN (R296): the step runs again from its frames, which resolve and gather again; the frets may start; rank 0's
commit object can take the run's outcome (log 21). -/
def execStepRerun (s : State) : Host.Outcome State Fault Refusal :=
  let kind := s.upd.rerun
  .next (if kind < 3 || s.fnState 0 ≠ 1 then s
    else
      let s : State := s.mapFrets (fun _ f => f.run = 2) fun _ f => { f with run := 0 }
      let s : State := [2, 3, 4, 5].foldl (fun s d => s.flag d Reg.updStatus (if kind = 3 then 4 else 5)) s
      let s : State := { s with upd := { s.upd with
        rerun := kind - 2, replays := if kind = 3 then cap32 (s.upd.replays + 1) else s.upd.replays
        recomputes := if kind = 4 then cap32 (s.upd.recomputes + 1) else s.upd.recomputes } }
      let step := s.curStep
      let s : State := if decide (s.rank = 0) then s.syncOp 1 1 (step * 4) 0 else s
      let fs := s.adm.frames.filter fun f => f.isEvents && f.step = step && f.waiting = 0
      let s := fs.foldl (fun s f => s.resolve step f.mb (s.positions f.bytes)) s.placeSeed
      fs.foldl (fun s f => s.gather f.id step (s.positions f.bytes)) s)

end Sys2Proof.Machine
end

