-- ==== Sys2Proof/Machine/Dram.lean ====
section
/-! DEFINITION. HBM and the bench tier: addresses, errors and poison, remaps, scrub, maintenance windows, retrains
(R302 to R322, R327, R328). -/

namespace Sys2Proof.Machine

/-! ### MEMORY_REQUEST (R129, R302, R305, R306, R310 to R312, R320) -/

/-- Does a range lie in a hot-set window (R302)? -/
def inHotWindow (a n : Nat) : Bool :=
  0x40100000000 ≤ a && decide (a + n ≤ 0x40120000000) && decide ((a - 0x40100000000) % 0x8000000 + n ≤ 0x6000000)

/-- A request to the fret windows: a corrected error counts on the fret's die (R84, R129). -/
def State.windowRequest (s : State) (r : MemReq) : State :=
  let s := match (windowPlace r.addr).1 with
    | some i => if r.corrected then s.sramCe (i / 384) 1 else s
    | none => s
  match r.write with
  | some b => s.windowWrite r.addr b.length (leNat b)
  | none => s.windowFetch r.cls r.addr r.len

/-- A request to a hot-set window: an uncorrectable error in a bank is a memory fault of a phase that reads it (R302, R312). -/
def State.hotRequest (s : State) (r : MemReq) : State :=
  match r.write with
  | some b => s.store r.addr b
  | none =>
    if r.uncorrectable then (s.answer r.cls r.addr [] true).memoryFault r.phase
    else s.answer r.cls r.addr (s.readMem r.addr r.len) false

/-- A request to either tier. -/
def State.tierRequest (s : State) (r : MemReq) : State :=
  match r.write with
  | some b => s.put r.addr b
  | none =>
    let s := if r.corrected then s.correctedError (placeOf r.addr) else s
    let s' := if s.poisoned r.addr r.len then s.meetPoison r.addr r.len else s.uncorrectableError (r.addr / 64)
    if s.poisoned r.addr r.len || r.uncorrectable then (s'.answer r.cls r.addr [] true).memoryFault r.phase
    else s.answer r.cls r.addr (s.readMem r.addr r.len) false

/-- Serve a unit's request: an offset that nothing is mapped at ends in an address error (R302). -/
def State.serveOwn (s : State) (r : MemReq) : State :=
  if inWindows r.addr then s.windowRequest r
  else if inHotWindow r.addr r.size then s.hotRequest r
  else if s.mappedRange r.addr r.size then s.tierRequest r
  else (s.answer r.cls r.addr [] true).memoryFault r.phase

/-! ### Operations of other nodes (R332, R340, R342) -/

/-- May a remote operation touch n bytes at an offset (R302, R332)? -/
def State.remoteRange (s : State) (a n align : Nat) : Bool := a % align = 0 && n ≠ 0 && s.mappedRange a n

/-- An access meets poisoned data: its counts move, its requester is told (R311, R342). -/
def State.remotePoison (s : State) (src id a n : Nat) (data : Bytes) : State :=
  (s.meetPoison a n).reply src id stPoison data false

/-- READ (R340, R342). -/
def State.remoteRead (s : State) (src id addr len : Nat) : State :=
  if !(s.remoteRange addr len 32 && len % 32 = 0 && len ≤ 256) then s.reply src id stAddr [] false
  else if s.poisoned addr len then s.remotePoison src id addr len (s.readMem addr len)
  else s.reply src id stOk (s.readMem addr len) false

/-- WRITE (R340, R342). -/
def State.remoteWrite (s : State) (src id addr : Nat) (data : Bytes) : State :=
  if !(s.remoteRange addr data.length 32 && data.length % 32 = 0 && data.length ≤ 256) then s.reply src id stAddr [] false
  else (s.put addr data).reply src id stOk [] false

/-- A copy's job number. -/
def copyJobNo (src id : Nat) : Nat := src * 0x100000000 + id

/-- The WRITEs of a copy: at most 256 bytes each (R340). -/
def State.sendCopy (s : State) (job node off : Nat) (data : Bytes) : State :=
  ((chunks 256 data).foldl (fun (p : State × Nat) c =>
    (p.1.request node 2 0 2 p.2 0 0 c false (.copy job), p.2 + c.length)) (s, off)).1

/-- COPY (R332, R340 to R342): a destination on this node is written at once. -/
def State.remoteCopy (s : State) (src id addr dst len : Nat) : State :=
  let node := bits dst 59 45
  let off := dst % 0x200000000000
  let here := node = s.node
  let badDst := bits dst 63 60 ≠ 0 || off % 32 ≠ 0 || (!here && !s.inZone node) || (here && !s.mappedRange off len)
  if !(s.remoteRange addr len 32 && len % 32 = 0 && len ≤ 0x1000000) || badDst then s.reply src id stAddr [] false
  else if s.poisoned addr len then s.remotePoison src id addr len []
  else
    let data := s.readMem addr len
    let job := fun (s : State) left => { s with fab := { s.fab with copies := s.fab.copies ++ [CopyJob.mk src id left 0] } }
    if here then job (s.put off data) 0
    else (job s (ceilDiv len 256)).sendCopy (copyJobNo src id) node off data

/-- An addition in place: its width, the new value from the old; the old value is returned (R340). -/
def State.remoteAdd (s : State) (src id addr width : Nat) (f : Nat → Nat) : State :=
  if !s.remoteRange addr width width then s.reply src id stAddr (u64 0) false
  else
    let old := s.memNat addr width
    if s.poisoned addr width then s.remotePoison src id addr width (u64 old)
    else (s.put addr (natLE width (f old))).reply src id stOk (u64 old) false

/-- Serve a request for whoever made it. -/
def State.serveRequest (s : State) (r : MemReq) : State :=
  match r.work with
  | .own => s.serveOwn r
  | .read src id => s.remoteRead src id r.addr r.len
  | .write src id => s.remoteWrite src id r.addr (r.write.getD [])
  | .copy src id dst _ => s.remoteCopy src id r.addr dst r.len
  | .addI64 src id b => s.remoteAdd src id r.addr 8 fun old => (old + b) % pow2 64
  | .addF32 src id b => s.remoteAdd src id r.addr 4 fun old => (Fp.addSat (BitVec.ofNat 32 old) (BitVec.ofNat 32 b)).1.toNat

/-- The earliest request before `r` that must be served before it, and so on. -/
def MemReq.first : Nat → List MemReq → MemReq → MemReq
  | 0, _, r => r
  | n + 1, q, r => match (q.takeWhile fun x => x ≠ r).find? fun x => x.meets r with
    | some x => MemReq.first n q x
    | none => r

/-- The request of one controller's queue that is served next: the lowest class first, in arrival order within a class; class 3 after
`since` transfers of 32 bytes without one where the next would pass 63 (R306). -/
def nextRequest (q : List MemReq) (since : Nat) : Option MemReq :=
  let best := ([0, 1, 2, 3].filterMap fun c => q.find? fun r => r.cls = c).head?
  let late := q.find? fun r => r.cls = 3
  (match best, late with
  | some b, some l => some (if 63 < since + ceilDiv b.size 32 then l else b)
  | b, _ => b).map (MemReq.first q.length q)

/-- The controller whose queue a request waits in: that of its first unit's channel (R306). -/
def MemReq.controller (r : MemReq) : Nat := let p := placeOf r.addr; p.tier * 512 + p.chan

/-- Serve the requests whose channels do not train, `n` at most; `since` holds each controller's transfers since its last of
class 3. -/
def State.serveQueue : Nat → SMap Nat → State → State
  | 0, _, s => s
  | n + 1, since, s =>
    let free := s.dram.queue.filter fun r => !(r.spans.any fun x => s.chanBusy x.1 x.2.1)
    match (free.map MemReq.controller).head? with
    | none => s
    | some c =>
      match nextRequest (free.filter fun r => r.controller = c) (SMap.get 0 since c) with
      | none => s
      | some r =>
        let first := MemReq.first free.length free r
        let after := if first.cls = 3 then 0 else SMap.get 0 since c + ceilDiv first.size 32
        State.serveQueue n (SMap.set 0 since c after)
          (({ s with dram := { s.dram with queue := s.dram.queue.erase first } } : State).serveRequest first)

/-- Channels have resumed. -/
def State.resumeMemory (s : State) : State := State.serveQueue s.dram.queue.length [] s

/-- A request to this node's memory waits while a channel of its ranges trains, or while an earlier one that it must not pass
waits. -/
def State.nodeRequest (s : State) (r : MemReq) : State :=
  if s.spansWait r.spans then { s with dram := { s.dram with queue := s.dram.queue ++ [r] } }
  else s.serveRequest r

/-- A request to a sync object of this node: 8 bytes, read or written as one operation; an object's offset beyond the last sets
OUT_OF_RANGE (R332, R345, R362). -/
def State.syncAccess (s : State) (r : MemReq) (off : Nat) : State :=
  if 0x10000 ≤ off then ((s.flag 6 Reg.syncStatus 2).answer r.cls r.addr [] true).memoryFault r.phase
  else if off % 8 ≠ 0 || r.size ≠ 8 then (s.answer r.cls r.addr [] true).memoryFault r.phase
  else match r.write with
    | some b => s.syncOp 1 (off / 8) (leNat b) 0
    | none => (s.syncOp 0 (off / 8) 0 0).answer r.cls r.addr (u64 (s.syncObj (off / 8))) false

/-- A request to a sync object of another node of the zone goes over the fabric as GET or SET (R332, R345). -/
def State.remoteSync (s : State) (r : MemReq) (node off : Nat) : State :=
  if !s.inZone node || 0x10000 ≤ off || off % 8 ≠ 0 || r.size ≠ 8 then (s.answer r.cls r.addr [] true).memoryFault r.phase
  else match r.write with
    | some b => s.request node 6 1 r.cls (off / 8) (leNat b) 0 [] r.phase .other
    | none => s.request node 6 0 r.cls (off / 8) 0 0 [] r.phase .other

/-- A request to another node's memory goes over the fabric: HBM and bench-tier offsets only, in 32-byte units (R332, R340). -/
def State.remoteAccess (s : State) (r : MemReq) (node off : Nat) : State :=
  let ok := s.inZone node && off % 32 = 0 && r.size % 32 = 0 && 32 ≤ r.size && r.size ≤ 256
    && (decide (off + r.size ≤ 0x6C00000000) || (0x10000000000 ≤ off && decide (off + r.size ≤ 0x20000000000)))
  if !ok then (s.answer r.cls r.addr [] true).memoryFault r.phase
  else match r.write with
    | some b => s.request node 2 0 r.cls off 0 0 b r.phase .other
    | none => s.request node 1 0 r.cls off r.size 0 [] r.phase .other

/-- A request to a global address (R332): space tag, node, offset. -/
def State.globalRequest (s : State) (r : MemReq) : State :=
  let tag := r.addr / 0x1000000000000000
  let node := bits r.addr 59 45
  let off := r.addr % 0x200000000000
  if tag = 0 then if node = s.node then s.nodeRequest { r with addr := off } else s.remoteAccess r node off
  else if tag = 1 then if node = s.node then s.syncAccess r off else s.remoteSync r node off
  else (s.answer r.cls r.addr [] true).memoryFault r.phase

/-- MEMORY_REQUEST: to the module's own local map, or to a global address (R302, R332). -/
def execMemoryRequest (cls : Nat) (addr : MemAddr) (write : Option Bytes) (len : Nat)
    (corrected uncorrectable phase : Bool) (s : State) : Host.Outcome State Fault Refusal :=
  .next (match addr with
    | .own off => s.nodeRequest ⟨cls, off, write, len, corrected, uncorrectable, phase, .own⟩
    | .global a => s.globalRequest ⟨cls, a, write, len, corrected, uncorrectable, phase, .own⟩)

/-- REMAP_COPY_DONE (R315): the row is served from its spare. -/
def execRemapCopyDone (tier : Fin 2) (chan bank row : Nat) (s : State) : Host.Outcome State Fault Refusal :=
  let p : Place := ⟨tier.val, chan, bank, row, 0⟩
  .next { s with dram := { s.dram with remaps := s.dram.remaps.map fun r =>
      (if r.isRow p then { r with copying := false } else r) } }

/-- What a scrub pass over a tier meets: the poisoned sectors that are mapped, in ascending local order (R313). Corrected errors
that it meets are requests of class 3. -/
def State.scrubPass (s : State) (tier : Nat) : State :=
  let mine := s.dram.poison.filter fun q => (placeOf (64 * q)).tier = tier && s.mapped (64 * q)
  (sortBy (fun (a b : Nat) => decide (a ≤ b)) mine).foldl State.uncorrectableError s

/-- SCRUB_PERIOD (R313, R314): a pass has read every mapped sector, or is late; a new period counts from zero. -/
def execScrubPeriod (tier : Fin 2) (lastPassDone : Bool) (s : State) : Host.Outcome State Fault Refusal :=
  let s := if lastPassDone then s.scrubPass tier.val else [2, 3, 4, 5].foldl (fun s d => s.flag d Reg.hbmcStatus 8) s
  .next { s with dram := { s.dram with
    rowErrs := s.dram.rowErrs.filter fun e => e.1 / 0x100000 / 64 / 512 ≠ tier.val } }

/-! ### Channels that fail (R319, R322) -/

/-- What a tier held is lost with it (R322, log 12). -/
def State.tierLost (s : State) (tier : Nat) : State :=
  let s := if tier = 0 then s.zeroMem 0 0x6C00000000 else s.zeroMem 0x10000000000 0x10000000000
  { s with dram := { s.dram with poison := s.dram.poison.filter fun q => (placeOf (64 * q)).tier ≠ tier } }

/-- A bench package is marked for replacement at the next bring-up. -/
def State.markPackage (s : State) (die unit : Nat) : State :=
  ({ s with dram := { s.dram with subst := if s.dram.subst.contains unit then s.dram.subst else s.dram.subst ++ [unit] } } : State).flag
    (2 + die) Reg.benchStatus 8

/-- A channel that does not train takes its tier out of service (R322). -/
def State.chanOut (s : State) (tier chan : Nat) : State :=
  let die := trainDie tier chan
  let unit := if tier = 0 then chan / 16 else chan % 16
  let s := s.flag (2 + die) (tierStatus tier) 7
  let s := { s with dram := { s.dram with failed := s.dram.failed ++ [(tier, chan)] } }
  let s := if tier = 0 then s else s.markPackage die unit
  (s.leaveService (2 + die) (if tier = 0 then 0x0A else 0x0B) unit).tierLost tier

/-- In service the job cannot run on: its promises are broken for good, and the module, whose tier is out of service, votes a fault
that no rollback can clear (R290, R322). -/
def State.chanFails (s : State) (tier chan : Nat) : State :=
  if s.rst.phase < 7 then s.chanOut tier chan
  else
    let s := s.breakFrames 4 s.curStep ((s.adm.frames.filter fun f => f.inFlight).map fun f => (f.id, never))
    (s.chanOut tier chan).setFault 4

/-- Is a spare left for a lane: two DQ lanes of each HBM pseudo-channel, one command/address lane of each HBM channel (R319)? Lanes
below 32 are the first pseudo-channel's, below 64 the second's, 255 the command/address lane (log 26). -/
def State.laneFree (s : State) (l : Nat × Nat × Nat × Nat) : Bool :=
  let used := s.dram.lanes.filter fun x => x.1 = l.1 && x.2.1 = l.2.1 * 16 + l.2.2.1 && x.2.2 / 32 = l.2.2.2 / 32
  l.1 = 0 && decide (used.length < if l.2.2.2 = 255 then 1 else 2)

/-- Training found a bad lane: a spare takes its place, or the channel fails. -/
def State.switchLane (s : State) (l : Nat × Nat × Nat × Nat) : State :=
  let chan := if l.1 = 0 then l.2.1 * 16 + l.2.2.1 else l.2.2.1 * 16 + l.2.1
  if s.laneFree l then s.laneSpare l
  else if s.dram.failed.contains (l.1, chan) then s
  else s.chanFails l.1 chan

/-! ### Windows and retrains (R320 to R322) -/

/-- MAINTENANCE_WINDOW_START (R320): every channel retrains; deferred retrains are among them. -/
def execMaintenanceWindowStart (lanes : List (Nat × Nat × Nat × Nat)) (s : State) : Host.Outcome State Fault Refusal :=
  let s := { s with dram := { s.dram with window := true, deferred := [] } }
  .next (lanes.foldl State.switchLane s).showTraining

/-- MAINTENANCE_WINDOW_END (R320): every channel has retrained, 48 of HBM and 16 of the bench tier on each die; accesses that waited
are served. -/
def execMaintenanceWindowEnd (s : State) : Host.Outcome State Fault Refusal :=
  .next (if !s.dram.window then s
    else
      let s := [2, 3, 4, 5].foldl (fun s d => (s.bump d Reg.hbmcRetrainCount 48).bump d Reg.benchRetrainCount 16) s
      (({ s with dram := { s.dram with window := false } } : State).showTraining).resumeMemory)

/-- DRIFT_CHECK (R321): a drift beyond the limit is a trigger. -/
def execDriftCheck (tier : Fin 2) (chan : Nat) (beyond : Bool) (s : State) : Host.Outcome State Fault Refusal :=
  .next (if beyond then s.retrainTrigger tier.val chan true else s)

/-- CHANNEL_RETRAIN_TRIGGER (R321, R322): the errors of one lane or of the interface in 1 ms exceed the limit. -/
def execChannelRetrainTrigger (tier : Fin 2) (chan errors : Nat) (s : State) : Host.Outcome State Fault Refusal :=
  .next (if s.odNat (od 0x2400 0x0B) < errors then s.retrainTrigger tier.val chan true else s)

/-- A channel leaves the retrain; acceptance resumes with the last one. -/
def State.endTraining (s : State) (tier chan : Nat) : State :=
  let rest := s.dram.training.filter fun t => !(t.1 = tier && t.2.1 = chan)
  let s := { s with dram := { s.dram with training := rest } }
  let s := if rest.isEmpty then { s with adm := { s.adm with chanSince := none } } else s
  s.showTraining.showSuspended.resumeMemory

/-- CHANNEL_RETRAIN (R319, R321): the channel resumes, unless a lane that failed finds no spare. -/
def execChannelRetrain (tier : Fin 2) (chan duration : Nat) (lanes : List Nat) (s : State) :
    Host.Outcome State Fault Refusal :=
  let t := tier.val
  let place := fun l => if t = 0 then (t, chan / 16, chan % 16, l) else (t, chan % 16, chan / 16, l)
  .next (if !(s.dram.training.any fun x => x.1 = t && x.2.1 = chan) then s
    else
      let s := (lanes.map place).foldl State.switchLane s
      if s.dram.failed.contains (t, chan) then s.endTraining t chan
      else
        let s := s.event 0x0305 (u8 t ++ u16 (chanField (trainDie t chan) (trainNo t chan)) ++ c32 duration ++ u8 lanes.length)
        let s := s.bump (2 + trainDie t chan) (if t = 0 then Reg.hbmcRetrainCount else Reg.benchRetrainCount) 1
        s.endTraining t chan)

/-- RETRAIN_FAIL (R322): a channel that trains, in a window or outside, does not within 20 µs. -/
def execRetrainFail (tier : Fin 2) (chan : Nat) (s : State) : Host.Outcome State Fault Refusal :=
  let t := tier.val
  .next (if !s.dram.window && !(s.dram.training.any fun x => x.1 = t && x.2.1 = chan) then s
    else (s.chanFails t chan).endTraining t chan)

end Sys2Proof.Machine
end

