-- ==== Sys2Proof/Machine/Ports.lean ====
section
/-! DEFINITION. The six fabric ports: rings, joining, packets, replay, injection, retrains, port faults, hall time
(R329 to R339, R350 to R359). -/

namespace Sys2Proof.Machine

/-! ### Rings (R329, R331, R350 to R352) -/

/-- The ports of a ring, and their dies. -/
def ringPorts (ring : Nat) : List Nat := [ring, ring + 3]
/-- The die of a port. -/
def portDie (p : Nat) : Nat := if p < 3 then 6 else 7

/-- May a ring be used: coordinates assigned, an extent above 1, its dies in service and not held (R329, R351, R449, R467)? -/
def State.ringUsed (s : State) (ring : Nat) : Bool :=
  s.node ≠ 0xFFFF && decide (1 < s.hall ring) && (ringPorts ring).all fun p => !s.dieOut (portDie p) && !s.held (portDie p) 12

/-- The neighbour in a port's direction. -/
def State.neighbour (s : State) (p : Nat) : Nat :=
  let d := p % 3
  let h := max 1 (s.hall d)
  let c := fun k => if k = d then (nodeCoord s.node k + if p < 3 then 1 else h - 1) % h else nodeCoord s.node k
  nodeOf (c 0) (c 1) (c 2)

/-- Does a node lie on the port's ring? -/
def State.onRing (s : State) (p node : Nat) : Bool :=
  node ≠ s.node && [0, 1, 2].all fun k =>
    if k = p % 3 then decide (nodeCoord node k < s.hall k) else nodeCoord node k = nodeCoord s.node k

/-- Hall extent, zone entries and identifier as the exchange carries them (R331). -/
def State.zoneWord (s : State) : Nat :=
  leNat (padTo 3 (s.odBytes (od 0x2500 2)) ++ padTo 6 (s.odBytes (od 0x2500 3)) ++ u32 (s.odNat (od 0x2500 4)))

/-- The ring's lines change (R350, R351): raised 1, low 0. -/
def State.setLines (s : State) (ring : Nat) (high : Bool) : State :=
  let s := (ringPorts ring).foldl (fun s p => s.updPort p fun x => { x with line := high }) s
  (s.flag 6 Reg.zfStatus 2).event 0x0402 (u8 ring ++ u8 (if high then 1 else 0))

/-- Acceptance resumes when no port retrains. -/
def State.endPortRetrain (s : State) : State :=
  if s.fab.ports.any (fun p => p.state = 4) then s
  else ({ s with adm := { s.adm with portSince := none } } : State).showSuspended

/-- A ring's ports go down; a failed one stays failed. -/
def State.closePorts (s : State) (ring : Nat) : State :=
  ((ringPorts ring).foldl (fun s p => s.updPort p fun x =>
    { x with state := if x.state = 5 then 5 else 0, partner := 0, boundary := false }) s).endPortRetrain

/-- A ring that is no longer used, without coordinates or with an extent of 1, keeps its lines low: it closes (R329, R350, R351). -/
def State.closeUnused (s : State) : State :=
  [0, 1, 2].foldl (fun s r =>
    if s.ringUsed r then s
    else (if (ringPorts r).any fun p => (s.port p).line then s.setLines r false else s).closePorts r) s

/-- A port's link is down, with its cause (R331, R351, R352, R354). -/
def State.linkDown (s : State) (port cause : Nat) : State :=
  (s.flag 6 Reg.zfStatus 1).event 0x0401 (u8 port ++ u8 cause)

/-- The lane that carries an active lane of a port's direction: the latest spare in its place, or itself (R334). -/
def laneAt (m : List (Nat × Nat × Nat)) (key lane : Nat) : Nat :=
  ((m.find? fun e => e.1 = key && e.2.1 = lane).map (·.2.2)).getD lane

/-- One active lane after training: where the lane that carried it did not train, the lowest free spare that did takes its place; a spare
in use stays (R334, R460). The maps stand newest first. -/
def carryLane (key : Nat) (ok : BitVec 24) (p : List (Nat × Nat × Nat) × Bool) (lane : Nat) : List (Nat × Nat × Nat) × Bool :=
  if ok.getLsbD (laneAt p.1 key lane) then p
  else match [20, 21, 22, 23].find? fun x => ok.getLsbD x && !(p.1.any fun e => e.1 = key && e.2.2 = x) with
    | some x => ((key, lane, x) :: p.1, p.2)
    | none => (p.1, false)

/-- The maps of a port after training, both directions, and whether 20 lanes carry each (R333, R334). -/
def State.carryLanes (s : State) (port : Nat) (t : LaneTest) : List (Nat × Nat × Nat) × Bool :=
  let one := fun key ok p => (List.range 20).foldl (carryLane key ok) p
  one (port * 2 + 1) t.rx (one (port * 2) t.tx (s.life.spare.ports, true))

/-- Training switches the spare lanes in: each substitution is logged, with the port × 24 + lane as its unit (R334, R460, R465). -/
def State.trainLanes (s : State) (port : Nat) (t : LaneTest) : State :=
  let m := (s.carryLanes port t).1
  let old := s.life.spare.ports
  if m.length = old.length then s
  else
    let s := s.updSpare fun r => { r with ports := m }
    (m.take (m.length - old.length)).reverse.foldl (fun s e =>
      (s.flag 6 Reg.zfStatus 8).logSubst (portDie port) 0x0C (port * 24 + e.2.1) (e.1 % 2 * 256 + laneAt old e.1 e.2.1)) s

/-- Spare lanes of a port in use, in the direction that uses more of them (log 26). -/
def State.portSpares (s : State) (port : Nat) : Nat :=
  let n := fun key => (s.life.spare.ports.filter fun e => e.1 = key).length
  max (n (port * 2)) (n (port * 2 + 1))

/-- JOIN_TIME_LIMIT (R351 step 4). -/
def execJoinTimeLimit (ring : Fin 3) (s : State) : Host.Outcome State Fault Refusal :=
  let r := ring.val
  let late := (ringPorts r).filter fun p => (s.port p).state = 2
  .next (if late.isEmpty then s
    else
      let s := s.setLines r false
      let s := late.foldl (fun s p => s.linkDown p 5) s
      s.closePorts r)

/-- RING_RETRY (R351): the ring starts again from loopback; before phase 5 the ports are dark (R494). -/
def execRingRetry (ring : Fin 3) (s : State) : Host.Outcome State Fault Refusal :=
  let r := ring.val
  .next (if !s.ringUsed r || s.rst.phase < 5 || !((ringPorts r).all fun p => (s.port p).state = 0) then s
    else (ringPorts r).foldl (fun s p => s.updPort p fun x => { x with state := 1, looped := false }) s)

/-- LINK_LOSS (R352): of a joined port, or of one that retrains. -/
def execLinkLoss (port : Fin 6) (s : State) : Host.Outcome State Fault Refusal :=
  let p := port.val
  .next (if (s.port p).state ≠ 3 && (s.port p).state ≠ 4 then s
    else
      let s := (s.linkDown p 3).updPort p fun x => { x with state := 2, partner := 0, boundary := false, skip := true }
      ({ s with fab := { s.fab with released := s.fab.released.set (p % 3) s.time } } : State).endPortRetrain)

/-! ### Packets (R335, R339, R359) -/

/-- Bytes leave on a port; held-back ones whose turn has come follow (R359). -/
def Port.emit (p : Port) (bs : Option Bytes) : Port :=
  let held := p.holdBack.map fun h => (h.1 - 1, h.2)
  let due := (held.filter fun h => h.1 = 0).map (·.2)
  let out := (match bs with | some b => [b] | none => []) ++ due
  { p with wire := (out.reverse ++ p.wire).take 256, holdBack := held.filter fun h => h.1 ≠ 0 }

/-- Flip one bit of a byte string. -/
def flipBit (bs : Bytes) (k : Nat) : Bytes := bs.modify (k / 8) fun b => b ^^^ BitVec.ofNat 8 (pow2 (k % 8))

/-- The injection word of the n-th packet or flit on a port (R359). -/
def State.injectWord (s : State) (n port : Nat) : Nat :=
  (Dice.mix4 (BitVec.ofNat 64 n) (Dice.mix4 (BitVec.ofNat 64 (s.odNat (od 0x2580 6) ^^^ port)) Dice.k0)).toNat

/-- Which fault an injection word decides: 0 none, 1 drop, 2 corrupt, 3 reorder (R359). -/
def State.injectKind (s : State) (w : Nat) : Nat :=
  let nd := s.odNat (od 0x2580 3)
  let nc := s.odNat (od 0x2580 4)
  let nr := s.odNat (od 0x2580 5)
  if nd ≠ 0 && w % nd = 0 then 1
  else if nc ≠ 0 && (w >>> 20) % nc = 0 then 2
  else if nr ≠ 0 && (w >>> 32) % nr = 0 then 3 else 0

/-- Is injection in effect on a port, or on the link (6)? -/
def State.injects (s : State) (port : Nat) : Bool := s.injecting && s.odNat (od 0x2580 2) / pow2 port % 2 = 1

/-- Will the port's next packet meet an injected fault? -/
def State.willHurt (s : State) (port : Nat) : Bool :=
  s.injects port && s.injectKind (s.injectWord (s.port port).inj port) ≠ 0

/-- The TEST flag of an envelope, while injection is in effect and only then (R358). -/
def State.tagged (s : State) (pk : Packet) : Packet :=
  { pk with flags := pk.flags / 2 * 2 + if s.injecting then 1 else 0 }

/-- A packet of the replay buffer as it leaves again. -/
def State.sentAgain (s : State) (r : SentPacket) : Bytes :=
  let o := openEnvelope r.bytes
  envelope (s.tagged o.1) o.2.1

/-- Send an envelope's bytes on a port, with the faults that are injected (R359); `head` bytes of it are not the packet's. -/
def State.putWire (s : State) (port : Nat) (bs : Bytes) : State :=
  if !s.injects port then s.updPort port fun p => p.emit (some bs)
  else
    let w := s.injectWord (s.port port).inj port
    let kind := s.injectKind w
    let s := s.updPort port fun p => { p with inj := p.inj + 1 }
    let s := if kind = 0 then s else s.bump 6 Reg.zfInjectCount 1
    let len := bs.length - 14
    match kind with
    | 0 => s.updPort port fun p => p.emit (some bs)
    | 1 => s.updPort port fun p => p.emit none
    | 2 => s.updPort port fun p =>
        p.emit (some (bs.take 14 ++ flipBit (bs.drop 14) ((w >>> 40) % max 1 (8 * len))))
    | _ => s.updPort port fun p =>
        let q := p.emit none
        { q with holdBack := q.holdBack ++ [(s.odNat (od 0x2580 7) - 1, bs)] }

/-- The replay buffer holds 128 KiB: the latest packets that fit (R335). -/
def trimReplay : Nat → List SentPacket → List SentPacket
  | _, [] => []
  | room, x :: t => if x.bytes.length ≤ room then x :: trimReplay (room - x.bytes.length) t else []

/-- Is a slot of the round reserved for the bridge (R339)? -/
def reservedSlot (k slot : Nat) : Bool := (slot + 1) * k / 64 ≠ slot * k / 64

/-- The packet that a slot goes to: link control, then the classes in the slot's order (R339); a boundary link carries no packet
(R331). -/
def State.nextPacket (s : State) (port : Nat) : Option Packet :=
  let p := s.port port
  let order := if reservedSlot (s.odNat (od 0x2500 5)) p.slot then [3, 2, 1, 0] else [3, 1, 0, 2]
  order.findSome? fun c => p.queue.find? fun q => q.cls = c && (!p.boundary || q.cls = 3)

/-- PACKET_TRANSMIT (R335, R339, R359): a replay request that is owed goes first. -/
def execPacketTransmit (port : Fin 6) (s : State) : Host.Outcome State Fault Refusal :=
  let k := port.val
  let p := s.port k
  .next (if p.state ≠ 3 then s
    else
      let s := s.updPort k fun p => { p with slot := (p.slot + 1) % 64 }
      match p.ask with
      | some q =>
        let pk := s.tagged ⟨p.partner, s.node, 3, 0, 0, 0, 0, u16 q⟩
        (s.updPort k fun p => { p with ask := none }).putWire k (envelope pk p.txSeq)
      | none =>
        match s.nextPacket k with
        | none => s
        | some pk =>
          let bs := envelope (s.tagged pk) p.txSeq
          let hurt := s.willHurt k
          let s := s.updPort k fun p => { p with
            queue := p.queue.erase pk, txSeq := (p.txSeq + 1) % 4096
            replay := (trimReplay 131072 (⟨p.txSeq, bs, 0, hurt⟩ :: p.replay.reverse)).reverse }
          s.putWire k bs)

/-- A SYNC request with one of the sub-operations 9 to 15 (R345). -/
def badSync (pk : Packet) : Bool := pk.op = 6 && decide (9 ≤ leAt pk.data 5 1) && decide (leAt pk.data 5 1 ≤ 15)

/-- PACKET_RECEIVE (R333, R335, R336, R345): accepted in sequence, delivered here or sent on; a sync request that has no meaning is
answered with ADDR; a request for replay is not counted in the sequence (log 17). -/
def execPacketReceive (port : Fin 6) (packet : Bytes) (corrected uncorrectable : Bool) (s : State) :
    Host.Outcome State Fault Refusal :=
  let k := port.val
  let s := if corrected then s.updPort k fun p => { p with fecCorr := cap32 (p.fecCorr + 1) } else s
  let s := if uncorrectable then s.updPort k fun p => { p with fecUncorr := cap32 (p.fecUncorr + 1) } else s
  let p := s.port k
  let o := openEnvelope packet
  .next (if p.state ≠ 3 then s
    else if uncorrectable || !o.2.2 then s.updPort k fun p => { p with ask := some p.rxSeq }
    else if o.1.cls = 3 then s
    else if o.2.1 ≠ p.rxSeq then s.updPort k fun p => { p with ask := some p.rxSeq }
    else
      let s := s.updPort k fun p => { p with rxSeq := (p.rxSeq + 1) % 4096 }
      if p.boundary then s
      else if o.1.dst = s.node && badSync o.1 then s.reply o.1.src (leAt o.1.data 0 4) stAddr (u64 0) true
      else s.enqueue o.1 (some (k % 3)))

/-! ### Retrains and failures (R334, R342, R353, R354) -/

/-- A port retrain starts (R353). -/
def State.startPortRetrain (s : State) (k : Nat) : State :=
  let zone := !(s.port k).boundary
  let s := s.updPort k fun p => { p with state := 4, since := s.time, replay := p.replay.map fun (r : SentPacket) => { r with times := 0 } }
  let s := { s with adm := { s.adm with portSince := some s.time }, fab := { s.fab with trouble := some s.time } }
  let s := s.showSuspended
  if zone && decide (1 < s.modules) then s.post true s.curStep 41000 5 .delay else s

/-- The buffered packets from the latest one of a sequence number on: the buffer can hold more than 4,096 packets (R335). -/
def replayFrom (seq : Nat) (ps : List SentPacket) : List SentPacket :=
  match ps.reverse.findIdx? fun r => r.seq = seq with
  | some k => ps.drop (ps.length - 1 - k)
  | none => []

/-- A packet is sent again; it counts towards the replay limit unless an injected fault brought the resend about (R335, R359). -/
def State.resend (s : State) (k : Nat) (counts : Bool) (r : SentPacket) : State :=
  let hurt := s.willHurt k
  let s := s.putWire k (s.sentAgain r)
  s.updPort k fun p => { p with replay := p.replay ++ [{ r with times := if counts then r.times + 1 else r.times, hurt := hurt }] }

/-- REPLAY_REQUEST (R335): every packet from the named one onward is sent again, those before it have arrived; a packet that is
resent too often in a row retrains the port. A resend that an injected fault on the named packet brought about does not count (R359).
A boundary link has none to send (R331). -/
def execReplayRequest (port : Fin 6) (seq : Nat) (s : State) : Host.Outcome State Fault Refusal :=
  let k := port.val
  let p := s.port k
  let again := replayFrom seq p.replay
  .next (match again with
    | [] => s
    | first :: _ =>
      if p.state ≠ 3 || p.boundary then s
      else
        let s := s.updPort k fun p => { p with replay := [] }
        let s := again.foldl (fun s r => s.resend k (!first.hurt) r) s
        let s := s.updPort k fun p => { p with replays := cap32 (p.replays + again.length) }
        let s := (s.flag 6 Reg.zfStatus 0)
        let s := { s with fab := { s.fab with trouble := some s.time } }
        if (s.port k).replay.any (fun r => s.odNat (od 0x2500 0x0B) ≤ r.times) then s.startPortRetrain k else s)

/-- PORT_RETRAIN (R334, R353): a lane lost its signal, or its errors passed the limit. -/
def execPortRetrain (port : PortTrouble) (s : State) : Host.Outcome State Fault Refusal :=
  let k := port.port.val
  .next (if (s.port k).state = 3 && (port.lost || decide (s.odNat (od 0x2500 0x0A) < port.errors)) then s.startPortRetrain k
    else s)

/-- Queue of zone-fault messages (log 17). -/
def queueFault : Nat := 4

/-- Send a packet of this node out of a port, whatever the route (R354). -/
def State.sendPort (s : State) (k cls op : Nat) (data : Bytes) : State :=
  let dst := (s.port k).partner
  let n := SMap.get 0 s.fab.pseq dst
  let s := { s with fab := { s.fab with pseq := SMap.set 0 s.fab.pseq dst ((n + 1) % 65536) } }
  s.updPort k fun p => { p with queue := p.queue ++ [Packet.mk dst s.node cls 0 op n 0 data] }

/-- The module holds a zone fault: it is sent out of every joined port, promises break, the step is settled through rank 0's commit
object, where a rollback is recorded if nothing was (R292, R347, R354 steps 2 and 3). -/
def State.holdZoneFault (s : State) (node port : Nat) : State :=
  if s.fab.zoneFault then s
  else
    let s := { s with fab := { s.fab with zoneFault := true } }
    let s := (List.range 6).foldl (fun s k =>
      let p := s.port k
      if p.state = 3 && !p.boundary then
        s.sendPort k 1 7 ((requestBytes 0 queueFault 1 0 0 0).take 16 ++ u16 node ++ u8 port)
      else s) s
    let s := s.flag 6 Reg.zfStatus 7
    let s := s.breakFrames 5 s.curStep ((s.adm.frames.filter fun f => f.inFlight).map fun f => (f.id, never))
    if s.fnState 0 = 0 then s
    else
      let s := s.setFault 5
      if s.rank = 0 then
        let v := s.syncObj 1
        if v / 4 = s.curStep && v % 4 ≠ 0 then s.takeOutcome (v % 4) else (s.recordOutcome 2).takeOutcome 2
      else s.request (s.nodeOfRank 0) 6 5 0 1 (s.curStep * 4 + 2) 0 [] false (.record s.curStep)

/-- A port has failed (R354): it leaves service, and every module of the zone hears of it. -/
def State.portFails (s : State) (k : Nat) : State :=
  let r := k % 3
  if (s.port k).state = 5 then s
  else
    let s := (ringPorts r).foldl (fun s p => s.updPort p fun x =>
      { x with state := if p = k then 5 else if x.state = 5 then 5 else 0, partner := 0, boundary := false }) s
    let s := (s.linkDown k 4).setLines r false
    let s := (s.leaveService (portDie k) 0x0C k).endPortRetrain
    s.holdZoneFault s.node k

/-- PORT_FAILED (R354). -/
def execPortFailed (port : Fin 6) (s : State) : Host.Outcome State Fault Refusal := .next (s.portFails port.val)

/-- PORT_RETRAIN_DONE (R353 step 4). -/
def execPortRetrainDone (port : Fin 6) (lanes : LaneTest) (s : State) : Host.Outcome State Fault Refusal :=
  let k := port.val
  .next (if (s.port k).state ≠ 4 then s
    else if !(s.carryLanes k lanes).2 then s.portFails k
    else (((s.trainLanes k lanes).updPort k fun p => { p with state := 3 }).flag 6 Reg.zfStatus 3).endPortRetrain)

/-- LOOPBACK_PASS (R334, R351 steps 1 and 2): spare lanes are switched in; a port that too few lanes of train has failed. -/
def execLoopbackPass (ring : LoopTest) (s : State) : Host.Outcome State Fault Refusal :=
  let r := ring.ring.val
  .next (if !s.ringUsed r || !((ringPorts r).all fun p => (s.port p).state = 1) then s
    else if !(s.carryLanes r ring.plus).2 || !(s.carryLanes (r + 3) ring.minus).2 then
      let t := if (s.carryLanes r ring.plus).2 then s else s.portFails r
      if (s.carryLanes (r + 3) ring.minus).2 then t else t.portFails (r + 3)
    else
      let s := (s.trainLanes r ring.plus).trainLanes (r + 3) ring.minus
      let s := (ringPorts r).foldl (fun s p => s.updPort p fun x => { x with state := 2, looped := true, skip := false }) s
      (({ s with fab := { s.fab with released := s.fab.released.set r s.time } } : State)).setLines r true)

/-- A port joins: the link's sequence and its replay buffer start afresh on both sides (DESIGN CHOICE, log 17). -/
def Port.fresh (p : Port) : Port := { p with state := 3, txSeq := 0, rxSeq := 0, replay := [], ask := none, holdBack := [] }

/-- PORT_JOIN (R331, R351 step 3): the exchange decides. -/
def execPortJoin (port : Fin 6) (coord zone : Nat) (lanes : LaneTest) (s : State) : Host.Outcome State Fault Refusal :=
  let p := port.val
  let there := coord = s.neighbour p || ((s.port p).skip && s.onRing p coord)
  .next (if (s.port p).state ≠ 2 then s
    else if !(s.carryLanes p lanes).2 then s.portFails p
    else if !there || zone % 0x1000000 ≠ s.zoneWord % 0x1000000 then s.linkDown p 1
    else if s.inZone coord then
      if zone = s.zoneWord then
        (s.trainLanes p lanes).updPort p fun x => { x.fresh with partner := coord, boundary := false }
      else s.linkDown p 2
    else (s.trainLanes p lanes).updPort p fun x => { x.fresh with partner := coord, boundary := true })

/-- ZONE_FAULT_MESSAGE (R354). -/
def execZoneFaultMessage (node port : Nat) (s : State) : Host.Outcome State Fault Refusal :=
  let pk := s.fab.inbox.find? fun p => p.op = 7 && leAt p.data 5 1 = queueFault
  .next (match pk with
    | some p =>
      if !s.turnOfMsg p.src queueFault then s
      else ({ s with fab := { s.fab with inbox := s.fab.inbox.erase p } } : State).holdZoneFault node port
    | none => s.holdZoneFault node port)

/-! ### Hall time (R356, R357) -/

/-- Lock state and parent port: 7 the master, 6 none (R361). -/
def State.setTimeStatus (s : State) (locked : Bool) (parent : Nat) : State :=
  (s.setField 6 Reg.zfTimeStatus 63 63 (if locked then 1 else 0)).setField 6 Reg.zfTimeStatus 62 60 parent
def State.timeLocked (s : State) : Bool := bits (s.reg 6 Reg.zfTimeStatus) 63 63 = 1
def State.timeParent (s : State) : Nat := bits (s.reg 6 Reg.zfTimeStatus) 62 60

/-- Is this module the hall's time master (R356)? -/
def State.isMaster (s : State) : Bool := s.node ≠ 0xFFFF && s.node = s.odNat (od 0x2500 0x10)

/-- The master is locked and is its own parent; another module that has locked to none has none (R356, R361). -/
def State.showMaster (s : State) : State :=
  if s.isMaster then s.setTimeStatus true 7 else if s.timeParent = 7 then s.setTimeStatus false 6 else s

/-- TIME_EXCHANGE (R356, R357): the delay is kept; towards its parent the module slews by at most 100 ppm of the 2 µs. -/
def execTimeExchange (port : Fin 6) (delay : Nat) (partnerLocked : Bool) (offset : Int) (s : State) :
    Host.Outcome State Fault Refusal :=
  let k := port.val
  .next (if (s.port k).state ≠ 3 then s
    else
      let s := s.updPort k fun p => { p with delay := some delay }
      if !(s.timeLocked && s.timeParent = k && partnerLocked) then s
      else
        let c := max (-3) (min 3 (-offset))
        let s := s.setField 6 Reg.zfTimeStatus 31 0 (c % 0x100000000).toNat
        { s with fab := { s.fab with slew := s.fab.slew + c } })

/-- Ports from which the module may take time, in the order of choice: for each dimension of the route to the time master, in ring
direction over the whole hall, the port along the route and then the other one (R356, R357). None on the master. -/
def State.timePorts (s : State) : List Nat :=
  let m := s.odNat (od 0x2500 0x10)
  [0, 1, 2].flatMap fun d =>
    let h := max 1 (s.hall d)
    let δ := (nodeCoord m d + h - nodeCoord s.node d) % h
    if δ = 0 then [] else if δ ≤ h - δ then [d, d + 3] else [d + 3, d]

/-- The parent port: the first of them that is joined. -/
def State.timePort (s : State) : Option Nat := s.timePorts.find? fun p => (s.port p).state = 3

/-- TIME_LOCK (R356, R357): the module locks to its parent port, and the first lock steps module time. -/
def execTimeLock (port : Fin 6) (value : Nat) (s : State) : Host.Outcome State Fault Refusal :=
  let k := port.val
  .next (if s.timePort ≠ some k then s
    else
      let s := s.setTimeStatus true k
      let s := if s.fab.stepped then s else { s with time := value }
      { s with fab := { s.fab with stepped := true, lostAt := none } })

/-- The port that takes the place of a lost parent: the other one of its dimension, or failing that one of the next dimensions down the
route, where it is joined (R357). -/
def State.nextParent (s : State) (k : Nat) : Option Nat :=
  let ports := s.timePorts
  ((ports.filter fun p => p ≠ k && p % 3 = k % 3) ++ ports.filter fun p => decide (k % 3 < p % 3)).find? fun p => (s.port p).state = 3

/-- PARENT_LOST (R357): time is held, and the module locks to the next port in the order where one is joined; the command names that
one. -/
def execParentLost (other : Option (Fin 6)) (s : State) : Host.Outcome State Fault Refusal :=
  let k := s.timeParent
  .next (if 6 ≤ k || other.map (·.val) ≠ s.nextParent k then s
    else match other with
      | some p => s.setTimeStatus s.timeLocked p.val
      | none =>
        let s := s.setTimeStatus s.timeLocked 6
        { s with fab := { s.fab with lostAt := some (s.time, k) } })

/-- TIME_UNLOCK (R357): while the fabric function runs, the loss is a failed port. -/
def execTimeUnlock (s : State) : Host.Outcome State Fault Refusal :=
  .next (match s.fab.lostAt with
    | none => s
    | some l =>
      let s := (s.setTimeStatus false 6).flag 6 Reg.zfStatus 6
      let s := { s with fab := { s.fab with lostAt := none } }
      if s.fnState 2 ≠ 1 then s else s.portFails l.2)

end Sys2Proof.Machine
end

