-- ==== Sys2Proof/Machine/Vilny.lean ====
section
/-! DEFINITION. The Vilny link: flits, replay, injection, training, and the order in which frames leave
(R364 to R369, R383, R390, R391). -/

namespace Sys2Proof.Machine

/-! ### Flits (R365) -/

/-- A flit: 248 data bytes and the control word. -/
def flitOf (data : Bytes) (seq ack credit : Nat) (nak idle : Bool) : Bytes :=
  let b := fun (x : Bool) k => (if x then 1 else 0) <<< k
  let n := seq % 4096 + ((ack % 4096) <<< 12) + ((credit % 64) <<< 24) + b nak 30 + b idle 31
  let body := padTo 248 data ++ u32 n
  body ++ u32 (crc32 body).toNat

/-- Credit the module grants: 512 flits, in units of 32 (R366). -/
def vilnyGrant : Nat := 16

/-- Held-back flits after one more flit has passed: those whose turn has come, and the rest (R359). -/
def passHeld (held : List (Nat × Bytes)) : List Bytes × List (Nat × Bytes) :=
  let h := held.map fun x => (x.1 - 1, x.2)
  ((h.filter fun x => x.1 = 0).map (·.2), h.filter fun x => x.1 ≠ 0)

/-- Flits leave the module. -/
def State.emitFlits (s : State) (fs : List Bytes) : State :=
  { s with vlk := { s.vlk with wire := (fs.reverse ++ s.vlk.wire).take 2048 } }

/-- A data flit leaves, with the faults that are injected (R369). -/
def State.putFlit (s : State) (flit : Bytes) : State :=
  let p := passHeld s.vlk.holdTx
  if !s.injects 6 then ({ s with vlk := { s.vlk with holdTx := p.2 } } : State).emitFlits (flit :: p.1)
  else
    let w := s.injectWord s.vlk.injTx 6
    let kind := s.injectKind w
    let s := { s with vlk := { s.vlk with injTx := s.vlk.injTx + 1, holdTx := p.2 } }
    let s := if kind = 0 then s else s.bump 6 Reg.zfInjectCount 1
    match kind with
    | 0 => s.emitFlits (flit :: p.1)
    | 1 => s.emitFlits p.1
    | 2 => s.emitFlits (flipBit flit ((w >>> 40) % 1984) :: p.1)
    | _ =>
      let s := s.emitFlits p.1
      { s with vlk := { s.vlk with holdTx := s.vlk.holdTx ++ [(s.odNat (od 0x2580 7) - 1, flit)] } }

/-- An idle flit, with the ack and the credit as they stand; a nak leaves at once in one (R365, R366). -/
def State.sendIdle (s : State) (nak : Bool) : State :=
  s.emitFlits [flitOf [] (s.vlk.txSeq + 4095) s.vlk.rxSeq vilnyGrant nak true]

/-- Will the next data flit meet an injected fault (R369)? -/
def State.flitHurt (s : State) : Bool := s.injects 6 && s.injectKind (s.injectWord s.vlk.injTx 6) ≠ 0

/-! ### Sending (R366, R383) -/

/-- The frame that leaves next: ACCEPT and REFUSE, then STATUS, then data by due, READBACK first when dues are equal. -/
def nextOut (out : List OutFrame) : Option OutFrame :=
  let rank := fun (o : OutFrame) => (o.prio * 2 ^ 65 + o.due * 2 + if frType o.bytes = 0x83 then 1 else 0 : Nat)
  (sortBy (fun (a b : OutFrame) => decide (rank a ≤ rank b)) out).head?

/-- Bytes of a data frame's body, at most. -/
def streamPiece : Nat := 0x800000

/-- A byte of a stream's piece of `n` bytes from `lo` up. Data that reads as an uncorrectable error, or that no range holds, is a
free value (R302, R311); so is a word of the accumulator or spill region that the piece does not hold whole (R129). -/
def State.localByte (s : State) (lo n a : Nat) : Byte :=
  if inWindows a then
    match windowPlace a with
    | (some i, w) =>
      let first := a - w % 4
      if windowWords w && (first < lo || lo + n < first + 4) then Config.unreadable a
      else (s.windowRead i (w / 4 * 4)).getD (w % 4) 0
    | (none, _) => 0
  else if inHotWindow a 1 then s.byte a
  else if s.mapped a && !s.poisoned a 1 then s.byte a
  else Config.unreadable a

/-- Does a stream's next piece wait: for a channel that trains, or for a slot that an operation in flight names (R130, R320)? -/
def State.pieceWaits (s : State) (a n : Nat) : Bool :=
  s.chanBusy a n || (inWindows a && (List.range (n / 4)).any fun k =>
    match windowPlace (a + 4 * k) with
    | (some i, w) => s.windowBusy i (w / 4 * 4) 4
    | (none, _) => false)

/-- The READBACK stream with the earliest due (R383). -/
def State.nextStream (s : State) : Option Stream :=
  (sortBy (fun (a b : Stream) => decide (a.due ≤ b.due)) s.adm.streams).head?

/-- The next frame of a READBACK stream, read in class 3 (R390). Poison that it reads is counted (R311). -/
def State.streamNext (s : State) (x : Stream) : State :=
  let n := min streamPiece x.left
  if s.pieceWaits x.addr n then s
  else
  let last := decide (x.left ≤ streamPiece)
  let step := ((s.adm.frames.find? fun f => f.id = x.id).map (·.step)).getD 0
  let data := (List.range n).map fun i => s.localByte x.addr n (x.addr + i)
  let s := s.meetPoison x.addr n
  let s := s.sendFrame 2 x.due 0x84 (if last then 4 else 0) x.id step data
  if last then { s with adm := { s.adm with streams := s.adm.streams.erase x } }
  else { s with adm := { s.adm with streams := s.adm.streams.map fun y =>
    (if y = x then { y with addr := y.addr + n, left := y.left - n } else y) } }

/-- When no frame waits, the data streams supply one: the earlier due first, READBACK first when they are equal. -/
def State.supplyFrame (s : State) : State :=
  let snap := match s.upd.snap with
    | some n => if n.step.isSome && !n.items.isEmpty then some (s.dueOfFrame n.frame) else none
    | none => none
  match s.nextStream, snap with
  | some x, some d => if x.due ≤ d then s.streamNext x else s.snapNext
  | some x, none => s.streamNext x
  | none, some _ => s.snapNext
  | none, none => s

/-- The host frame whose work is complete once a module frame has left: the last data frame's (R384). -/
def endsWith (bs : Bytes) : Option Nat :=
  if (frType bs = 0x83 || frType bs = 0x84) && bits (frFlags bs) 2 2 = 1 then some (frId bs) else none

/-- Take the next frame into the transmitter, padded to whole flits (R365). -/
def State.loadTx (s : State) : State :=
  if !s.vlk.tx.isEmpty then s
  else
    let s := if s.vlk.out.isEmpty then s.supplyFrame else s
    match nextOut s.vlk.out with
    | none => s
    | some o => { s with vlk := { s.vlk with
        out := s.vlk.out.erase o, tx := padTo (roundUp o.bytes.length 248) o.bytes, ends := endsWith o.bytes } }

/-- When the last flit of a frame has left, the work that it completes is done: the promise is kept (R368, R384). -/
def State.frameLeft (s : State) : State :=
  match s.vlk.tx, s.vlk.ends with
  | [], some id => ({ s with vlk := { s.vlk with ends := none } } : State).dropFrame id
  | _, _ => s

/-- Flits beyond ack that may be outstanding: the grant, and the replay buffer's 2,048. -/
def Vilny.room (v : Vilny) : Nat := min 2048 v.credit

/-- The link's transmitter, where the link is up: its next data flit, or an idle one when none waits or the grant allows none (R365, R366). -/
def State.sendFlit (s : State) : State :=
  if s.vlk.state ≠ 2 then s
  else if s.vlk.room ≤ (s.vlk.txSeq + 4096 - s.vlk.acked) % 4096 then s.sendIdle false
  else
    let s := s.loadTx
    if s.vlk.tx.isEmpty then s.sendIdle false
    else
      let v := s.vlk
      let d := v.tx.take 248
      let s := { s with vlk := { v with
        tx := v.tx.drop 248, txSeq := (v.txSeq + 1) % 4096, replay := v.replay ++ [SentPacket.mk v.txSeq d 0 s.flitHurt] } }
      (s.putFlit (flitOf d v.txSeq v.rxSeq vilnyGrant false false)).frameLeft

/-! ### Training (R367) -/

/-- The link stops passing flits to train. -/
def State.startVilnyRetrain (s : State) : State :=
  let s := { s with vlk := { s.vlk with state := 3, replay := s.vlk.replay.map fun (r : SentPacket) => { r with times := 0 } } }
  (s.bump 6 Reg.vlkRetrainCount 1).clearReg 6 Reg.vlkStatus 1

/-- VILNY_RETRAIN (R367). -/
def execVilnyRetrain (s : State) : Host.Outcome State Fault Refusal :=
  .next (if s.vlk.state = 2 then s.startVilnyRetrain else s)

/-- The active lanes that the spares replace after training, in transmit and in receive: a spare in use stays (R367, R460); 15 none. -/
def State.vilnySpare (s : State) (spareFor : Option (Fin 8) × Option (Fin 8)) : Nat × Nat :=
  let one := fun (old : Nat) (new : Option (Fin 8)) => if old = 15 then (match new with | some l => l.val | none => 15) else old
  (one s.life.spare.vilny.1 spareFor.1, one s.life.spare.vilny.2 spareFor.2)

/-- Have the eight lanes in use of each direction trained, when the spares replace lanes of a pair (R364, R367)? -/
def vilnyLanesOk (lanes : VilnyLanes) (sp : Nat × Nat) : Bool :=
  let one := fun (ok : BitVec 9) (p : Nat) => ((List.range 8).all fun k => k = p || ok.getLsbD k) && (p = 15 || ok.getLsbD 8)
  one lanes.tx sp.1 && one lanes.rx sp.2

/-- A Vilny spare is switched in for a lane of a direction, 0 transmit and 1 receive (R367, R465). -/
def State.vilnySubst (s : State) (dir lane : Nat) : State :=
  ((s.flag 6 Reg.vlkStatus 3).updSpare fun r =>
    { r with vilny := if dir = 0 then (lane, r.vilny.2) else (r.vilny.1, lane) }).logSubst 6 0x0E lane (dir * 256 + lane)

/-- The link is trained, with its lanes and the active lanes that the spares replace (R367, R395). LANE_OK shows lanes that trained in both
directions, SPARE_FOR the receive spare's lane where that spare is in use (log 26). -/
def State.vilnyTrained (s : State) (lanes : VilnyLanes) (sp : Nat × Nat) : State :=
  let was := s.life.spare.vilny
  let s := s.setReg 6 Reg.vlkLaneState ((if sp.2 = 15 then sp.1 else sp.2) * 512 + (lanes.tx &&& lanes.rx).toNat)
  let s := if sp.1 = was.1 then s else s.vilnySubst 0 sp.1
  let s := if sp.2 = was.2 then s else s.vilnySubst 1 sp.2
  let s := if s.vlk.state = 3 then s.flag 6 Reg.vlkStatus 1 else s
  ({ s with vlk := { s.vlk with state := 2 } } : State).flag 6 Reg.vlkStatus 0

/-- VILNY_TRAIN_DONE (R367): without eight lanes the link has not trained. -/
def execVilnyTrainDone (lanes : VilnyLanes) (spareFor : Option (Fin 8) × Option (Fin 8)) (s : State) :
    Host.Outcome State Fault Refusal :=
  let sp := s.vilnySpare spareFor
  .next (if (s.vlk.state = 1 || s.vlk.state = 3) && vilnyLanesOk lanes sp then s.vilnyTrained lanes sp else s)

/-- The link is down (R367). -/
def State.vilnyDown (s : State) : State :=
  let s := { s with vlk := { s.vlk with state := 0 } }
  let s := (s.flag 6 Reg.vlkStatus 2).clearReg 6 Reg.vlkStatus 1
  let s := s.setReg 6 Reg.vlkLaneState (s.reg 6 Reg.vlkLaneState / 512 * 512)
  s.event 0x0401 (u8 6 ++ u8 6)

/-- VILNY_LINK_DOWN (R367): it did not train in time; accepted work goes on (R368). -/
def execVilnyLinkDown (s : State) : Host.Outcome State Fault Refusal :=
  .next (if s.vlk.state = 1 || s.vlk.state = 3 then s.vilnyDown else s)

/-- VILNY_TRAIN_RETRY (R367): before phase 5 the transmitters give no signal (R494). -/
def execVilnyTrainRetry (s : State) : Host.Outcome State Fault Refusal :=
  .next (if s.vlk.state = 0 && !s.vilnyOut && !s.held 6 14 && decide (5 ≤ s.rst.phase) then { s with vlk := { s.vlk with state := 1 } } else s)

/-! ### Receiving (R366, R369, R370) -/

/-- An ack field frees what it passes and grants credit. -/
def State.takeAck (s : State) (ack credit : Nat) : State :=
  let v := s.vlk
  let k := (ack + 4096 - v.acked) % 4096
  if (v.txSeq + 4096 - v.acked) % 4096 < k then s
  else { s with vlk := { v with
    acked := ack, credit := 32 * credit, replay := v.replay.drop k } }

/-- A data flit is sent again; it counts towards the replay limit unless an injected fault brought the resend about (R359, R366). -/
def State.resendFlit (s : State) (counts : Bool) (r : SentPacket) : State :=
  let again := { r with times := if counts then r.times + 1 else r.times, hurt := s.flitHurt }
  let s := s.putFlit (flitOf r.bytes r.seq s.vlk.rxSeq vilnyGrant false false)
  { s with vlk := { s.vlk with replay := s.vlk.replay ++ [again] } }

/-- A nak resends everything from ack onward; a flit resent 16 times in a row retrains the link (R366, R367). A resend that an
injected fault on the first of them brought about does not count (R359). -/
def State.resendAll (s : State) : State :=
  match s.vlk.replay with
  | [] => s
  | first :: rest =>
    let s := (first :: rest).foldl (fun s r => s.resendFlit (!first.hurt) r) { s with vlk := { s.vlk with replay := [] } }
    let s := s.bump 6 Reg.vlkReplayCount (rest.length + 1)
    if s.vlk.replay.any (fun r => 16 ≤ r.times) then s.startVilnyRetrain else s

/-- Frame data that was accepted: a frame whose last byte is here has arrived. A length that R370 excludes marks no end: the
flit is then taken as a frame of its own, which is malformed (log 24). -/
def State.takeData (s : State) (d : Bytes) : State :=
  let rx := s.vlk.rx ++ d
  let n := leAt rx 4 4
  let n := if n < 48 || 0x1000000 < n then 248 else n
  { s with vlk := if n ≤ rx.length then { s.vlk with rx := [], arrived := s.vlk.arrived ++ [rx.take n] }
                  else { s.vlk with rx := rx } }

/-- One flit at the check of R366. -/
def State.takeFlit (s : State) (flit : Bytes) : State :=
  let body := byteSlice flit 0 252
  let c := leAt flit 248 4
  if leAt flit 252 4 ≠ (crc32 body).toNat then (s.bump 6 Reg.vlkCrcErrCount 1).sendIdle true
  else
    let idle := bits c 31 31 = 1
    let ok := idle || bits c 11 0 = s.vlk.rxSeq
    let s := s.takeAck (bits c 23 12) (bits c 29 24)
    let s := if idle then s
      else if ok then ({ s with vlk := { s.vlk with rxSeq := (s.vlk.rxSeq + 1) % 4096 } } : State).takeData (byteSlice flit 0 248)
      else s.sendIdle true
    if bits c 30 30 = 1 then s.resendAll else s

/-- Received data flits after the faults that are injected (R369). -/
def State.injectRx (s : State) (flit : Bytes) : List Bytes × State :=
  let p := passHeld s.vlk.holdRx
  if !s.injects 6 || leAt flit 248 4 / 2147483648 % 2 = 1 then
    if leAt flit 248 4 / 2147483648 % 2 = 1 then ([flit], s)
    else (flit :: p.1, { s with vlk := { s.vlk with holdRx := p.2 } })
  else
    let w := s.injectWord s.vlk.injRx 7
    let kind := s.injectKind w
    let s := { s with vlk := { s.vlk with injRx := s.vlk.injRx + 1, holdRx := p.2 } }
    let s := if kind = 0 then s else s.bump 6 Reg.zfInjectCount 1
    match kind with
    | 0 => (flit :: p.1, s)
    | 1 => (p.1, s)
    | 2 => (flipBit flit ((w >>> 40) % 1984) :: p.1, s)
    | _ => (p.1, { s with vlk := { s.vlk with holdRx := s.vlk.holdRx ++ [(s.odNat (od 0x2580 7) - 1, flit)] } })

/-- FLIT_RECEIVE (R366, R369). -/
def execFlitReceive (flit : Bytes) (s : State) : Host.Outcome State Fault Refusal :=
  .next (if s.vlk.state ≠ 2 then s
    else
      let p := s.injectRx flit
      p.1.foldl State.takeFlit p.2)

end Sys2Proof.Machine
end

