-- ==== Sys2Proof/Machine/Cost.lean ====
section
/-! DEFINITION. What a step costs: step programs, the phases they name, the memory, gather and scatter terms, W(s), the
extension, lane occupancy, E(s) and C(s) (R109, R204 to R206, R212, R218, R224, R263, R308, R309, R376 to R380; log 22). -/

namespace Sys2Proof.Machine

/-! ### Step programs (R376) -/

/-- A phase entry. -/
structure ProgPhase where
  vid : Nat
  slot : Nat
  per : Nat
  runs : Nat
  deriving DecidableEq, Repr

/-- A step program. -/
structure Prog where
  ingest : Nat
  commit : Nat
  rate : Nat
  route : Nat
  phases : List ProgPhase
  deriving DecidableEq, Repr

/-- Read the programs; at most `k`. -/
def progsOf : Nat → Bytes → List Prog
  | 0, _ => []
  | k + 1, b =>
    if b.length < 32 then []
    else
      let n := leAt b 16 2
      let ph := (List.range n).map fun i =>
        let o := 32 + 8 * i
        ProgPhase.mk (leAt b o 2) (leAt b (o + 2) 1) (leAt b (o + 3) 1) (leAt b (o + 4) 4)
      ⟨leAt b 0 4, leAt b 4 4, leAt b 8 4, leAt b 12 4, ph⟩ :: progsOf k (b.drop (32 + 8 * n))

/-- The step programs. -/
def State.progs (s : State) : List Prog := progsOf 16 (s.odBytes (od 0x2600 0x20))

/-- A phase with its image's descriptor and the frets that hold the image. -/
structure Costed where
  slot : Nat
  per : Nat
  runs : Nat
  backward : Bool
  d : Descr
  frets : List Nat
  deriving DecidableEq, Repr

/-- The frets whose image of a voicing loaded (log 10). -/
def State.fretsOf (s : State) (vid : Nat) : List Nat :=
  s.board.lib.filterMap fun e => if e.1 % 65536 = vid && e.2 ≠ 0 then some (e.1 / 65536) else none

/-- The phases of a program; none where a voicing is not loaded or has no cost (R110, R376). -/
def State.costed (s : State) (p : Prog) : Option (List Costed) :=
  let lib := s.library
  p.phases.foldr (fun ph acc =>
    let vid := s.rungVid lib ph.vid
    match acc, libImage lib vid with
    | some l, some i =>
      let d := Descr.of i
      if d.fixed = 0 then none
      else some (⟨ph.slot, ph.per, ph.runs, (Voicing.of i).backward, d, s.fretsOf vid⟩ :: l)
    | _, _ => none) (some [])

/-! ### Items (R204) -/

/-- Item counts of list slot k over a frame's events. -/
def State.itemCounts (s : State) (f : Bytes) (k : Nat) : List Nat :=
  (eventOffsets s.denseBytes s.slotMax f (leAt f 32 2) 40).map fun o => leAt f (o + 12 + 2 * k) 2

/-- e of a phase for a frame. -/
def State.itemsFor (s : State) (c : Costed) (f : Bytes) : Nat :=
  if c.d.varlen && decide (c.slot < 10) then ceilDiv (s.itemCounts f c.slot).sum (max 1 (leAt f 32 2)) else c.d.baseItems

/-! ### One run of a phase (R109, R308, R377) -/

/-- An access counts as whole 32-byte units. -/
def acc32 (n : Nat) : Nat := roundUp n 32

/-- The bytes of a run over the frets that run it: class 0 and all of HBM's, reads and all of the bench tier's. -/
def Costed.bytes (c : Costed) (e : Nat) : Nat × Nat × Nat × Nat :=
  let n := c.frets.length
  let h0 := n * (acc32 c.d.hbm0 + acc32 c.d.pop)
  let h := h0 + n * (acc32 c.d.hbm1 + acc32 c.d.hbm2 + acc32 c.d.push + acc32 ((e - c.d.baseItems) * c.d.itemBytes))
  let b := n * acc32 c.d.benchRead
  (h0, h, b, b + n * acc32 c.d.benchWrite)

/-- The memory terms of R308 for bytes in class 0 and in all, behind W0 bytes of class 0. -/
def hbmTerm (h0 h w0 : Nat) : Nat :=
  (if h0 = 0 then 0 else 315 + ceilDiv w0 8400) + if h = 0 then 0 else 315 + ceilDiv h 8400
def benchTerm (b0 b w0 : Nat) : Nat :=
  (if b0 = 0 then 0 else 490 + ceilDiv w0 623) + if b = 0 then 0 else 490 + ceilDiv b 623

/-- The fabric term: a round trip and the bytes at the zone's rate. -/
def Prog.fabricTerm (p : Prog) (bytes : Nat) : Nat :=
  if bytes = 0 then 0 else p.route + ceilDiv (bytes * 1000) (max 1 p.rate)

/-- Cycles of one run. -/
def Costed.run (c : Costed) (p : Prog) (e : Nat) (w0 : Nat × Nat) : Nat :=
  let b := c.bytes e
  let n := c.frets.length
  c.d.bound e + hbmTerm b.1 b.2.1 w0.1 + benchTerm b.2.2.1 b.2.2.2 w0.2 + ceilDiv (n * c.d.ring * 7) 4000
    + p.fabricTerm (n * c.d.fabric)

/-! ### Gather and scatter of a frame (R247, R248, R250, R263, R309) -/

/-- The largest read size of a table's classes in a tier, or over all of them. -/
def Table.readLargest (t : Table) (bench : Option Bool) : Nat :=
  ((List.range 4).filterMap fun c =>
    if t.allows c && (bench = none || bench = some (t.bench c)) then some (readSize c t.dim) else none).foldl max 0

/-- Is the table's costliest tier the bench tier? -/
def Table.onBench (t : Table) : Bool := (List.range 4).any fun c => t.allows c && t.bench c

/-- The format of a table's gradient terms: that of the rung in force of the table's backward pass, or what the library's image for
the terms emits; the exchange format where neither tells (R260, R263, log 34). -/
def State.termFmt (s : State) (t : Table) : Nat :=
  let image := s.library.findSome? fun x =>
    let v := Voicing.of x.2
    if v.layer = t.table && v.backward && v.tensor = 2 then some v.fmtOut else none
  match (s.passNo t.table true).bind (s.num.passes[·]?) with
  | some p => if p.current < 6 then Fmt.ofRung p.current else image.getD t.exchange
  | none => image.getD t.exchange

/-- Sort-merge bytes of one term (R263). -/
def State.sortBytes (s : State) (t : Table) : Nat := 2 * (16 + gradBytes (s.termFmt t) t.dim) + 128

/-- The channel share that admission assumes for n row reads (R309). -/
def assumedShare (n chans : Nat) : Nat := if n = 0 then 0 else ceilDiv (5 * n) (4 * chans) + 8

/-- `n` positions of a table at its costliest tier, `reads` of them local row reads (R248, R309). -/
def State.worst (s : State) (t : Table) (n reads : Nat) : Tally :=
  let sz := t.readLargest (some t.onBench)
  if t.onBench then ⟨0, 0, [], n * sz, assumedShare reads 64 * sz, [], 0, n, n * s.sortBytes t⟩
  else ⟨n * sz, assumedShare reads 384 * sz, [], 0, 0, [], 0, n, n * s.sortBytes t⟩

/-- The total of each channel over reads by channel; the greatest. -/
def busiest (xs : List (Nat × Nat)) : Nat :=
  (xs.map fun x => (xs.filterMap fun y => if y.1 = x.1 then some y.2 else none).sum).foldl max 0

/-- A row read's bytes by channel: each 256-byte unit lies on a channel of its own (R303, R304, R309). -/
def readParts (a n : Nat) : List (Nat × Nat) :=
  (List.range ((a + n - 1) / 256 + 1 - a / 256)).map fun k =>
    let u := a / 256 + k
    ((placeOf (u * 256)).chan, min (a + n) ((u + 1) * 256) - max a (u * 256))

/-- The local reads of a frame's positions of a table, by tier: channel and bytes. -/
def State.localReads (s : State) (t : Table) (ws : List Nat) : List (Nat × Nat) × List (Nat × Nat) :=
  let at' := ws.filterMap fun w => match s.classify t w with
    | .hbm => s.dirFind t.table w
    | .bench => s.dirFind t.table w
    | _ => none
  let part := fun b => (at'.filter fun e => e.2.bench = b).flatMap fun e => readParts e.2.slot (readSize e.2.cls t.dim)
  (part false, part true)

/-- How many positions read a row of the tier. -/
def State.localCount (s : State) (t : Table) (ws : List Nat) : Nat :=
  (ws.filter fun w => match s.classify t w with | .hbm => true | .bench => true | _ => false).length

/-- The tally of a CLASSIFIED table's positions. -/
def State.tallyOf (s : State) (t : Table) (ws : List Nat) : Tally :=
  let cls := ws.map fun w => s.classify t w
  let l := s.localReads t ws
  let remote := cls.count .remote
  let terms := (cls.filter fun c => c ≠ .null && c ≠ .invalid && c ≠ .missing).length
  ⟨(l.1.map (·.2)).sum, 0, l.1, (l.2.map (·.2)).sum, 0, l.2, remote * (48 + t.readLargest none), terms, terms * s.sortBytes t⟩

/-- Sum of two tallies, channel by channel. -/
def Tally.add (a b : Tally) : Tally :=
  ⟨a.hbm + b.hbm, a.hbmEven + b.hbmEven, a.hbmChan ++ b.hbmChan, a.bench + b.bench, a.benchEven + b.benchEven
   , a.benchChan ++ b.benchChan, a.fabric + b.fabric, a.terms + b.terms, a.sortBytes + b.sortBytes⟩
def Tally.zero : Tally := ⟨0, 0, [], 0, 0, [], 0, 0, 0⟩

/-- Bytes on the busiest channel of a tier (R309). -/
def Tally.hbmBusy (t : Tally) : Nat := t.hbmEven + busiest t.hbmChan
def Tally.benchBusy (t : Tally) : Nat := t.benchEven + busiest t.benchChan

/-- The tables that feature slots name, each once. -/
def State.namedTables (s : State) : List Table :=
  ((s.features.filter (· ≠ 0xFFFF)).eraseDups).filterMap s.table

/-- The index words of a frame for a table, null ones left out. -/
def State.wordsOf (s : State) (ps : List Pos) (t : Table) : List Nat :=
  ps.filterMap fun p => if (s.tableOf p).map (·.table) = some t.table && p.word ≠ 0xFFFFFFFFFFFFFFFF then some p.word else none

/-- What a frame's positions cost: those of a CLASSIFIED table by their classes, every other one at the table's costliest tier
(R248, R309). -/
def State.tallyNow (s : State) (f : Bytes) : Tally :=
  let ps := s.positions f
  s.namedTables.foldl (fun acc t =>
    let ws := s.wordsOf ps t
    acc.add (if t.classified then s.tallyOf t ws else s.worst t ws.length (s.localCount t ws))) Tally.zero

/-- The tally of a frame that is there: the one that was made of it, where one was. -/
def State.frameTally (s : State) (f : Bytes) : Tally :=
  match s.emb.tallies.find? fun t => t.frame = frId f && t.step = frStep f with
  | some t => t.cost
  | none => s.tallyNow f

/-- The items of each feature slot of a frame that has not arrived, one for a single slot, base_items for a list slot (R377). -/
def State.missingItems (s : State) (cs : List Costed) : List (Nat × Nat) :=
  ((s.features.zip s.slotMax).foldl (fun (acc : List (Nat × Nat) × Nat) x =>
    let mine := cs.filter fun c => c.d.varlen && c.slot = acc.2
    let items := if x.2 = 0 then 1 else if mine.isEmpty then x.2 else (mine.map (·.d.baseItems)).foldl max 0
    (acc.1 ++ [(x.1, items)], acc.2 + if x.2 = 0 then 0 else 1)) ([], 0)).1

/-- The tally of a frame that has not arrived: the events of the one at hand, at every table's costliest tier (R377). -/
def State.missingTally (s : State) (cs : List Costed) (events : Nat) : Tally :=
  let items := s.missingItems cs
  s.namedTables.foldl (fun acc t =>
    let n := events * (items.filterMap fun x => if x.1 = t.table then some x.2 else none).sum
    acc.add (s.worst t n n)) Tally.zero

/-- A tally's memory terms: the greater of the spread term and the busiest channel's (R309). -/
def Tally.memory (t : Tally) (w0 : Nat × Nat) : Nat :=
  let h := if t.hbm = 0 then 0 else 630 + ceilDiv w0.1 8400 + max (ceilDiv t.hbm 8400) (ceilDiv (35 * t.hbmBusy) 768)
  let b := if t.bench = 0 then 0
    else 980 + ceilDiv w0.2 623 + max (ceilDiv t.bench 623) (ceilDiv (175 * t.benchBusy) 1707)
  h + b

/-- A tally's scatter term (R263). -/
def Tally.scatter (t : Tally) : Nat := ceilDiv (175 * t.terms) 10240 + ceilDiv t.sortBytes 8400

/-! ### W(s) (R377) -/

/-- A frame in costing: program, bytes, and whether every e is held at base_items (R206). -/
structure InFrame where
  prog : Nat
  capped : Bool
  bytes : Bytes
  deriving DecidableEq, Repr

/-- The module's power state: that of its shallowest die (R452). -/
def State.powerState (s : State) : Nat := s.rst.dieState.foldl min 3

/-- Exit latency of a power state in cycles (R450). -/
def exitCycles (st : Nat) : Nat := match st with | 1 => 3500 | 2 => 315000 | 3 => 43750000 | _ => 0

/-- The repeat term (R218): the costliest repeats, each pass at most OD 0x2100.04 times. -/
def State.repeatTerm (s : State) : Nat :=
  let costs := s.num.passes.zipIdx.flatMap fun p => match p.1.up p.1.current with
    | none => []
    | some r => List.replicate (s.odNat (od 0x2100 4)) (s.repeatCost p.2 p.1 r)
  ((sortBy (fun (a b : Nat) => decide (b ≤ a)) costs).take (s.odNat (od 0x2100 0x0C))).sum

/-- The rescale term where a raise can take effect at the step's start (R224). -/
def State.rescaleTerm (s : State) (step : Nat) : Nat :=
  let every := s.odNat (od 0x2100 2)
  let near := every ≠ 0 && s.reg 6 Reg.numCleanSteps + 1 = every
  if near || (step = s.curStep && s.num.carry = 1) then Config.rescaleCost step else 0

/-- e of a phase for a frame in costing. -/
def State.itemsIn (s : State) (c : Costed) (f : InFrame) : Nat :=
  let e := s.itemsFor c f.bytes
  if f.capped then min e c.d.baseItems else e

/-- What a step costs before the refresh allowance: cycles, and class-0 bytes of HBM and the bench tier. -/
def State.stepSum (s : State) (step mbCount : Nat) (fs : List InFrame) (w0 : Nat × Nat) : Option (Nat × Nat × Nat) :=
  match fs with
  | [] => some (0, 0, 0)
  | f0 :: _ =>
    let progs := s.progs
    match progs[f0.prog]? with
    | none => none
    | some p0 =>
      let cost := fun (p : Prog) (per : Nat) (e : Costed → Nat) => (s.costed p).map fun cs =>
        (cs.filter fun c => decide (c.per = per)).foldl (fun (acc : Nat × Nat × Nat) c =>
          let n := e c
          let b := c.bytes n
          (acc.1 + c.runs * c.run p n w0, acc.2.1 + c.runs * b.1, acc.2.2 + c.runs * b.2.2.1)) (0, 0, 0)
      let add := fun (a : Option (Nat × Nat × Nat)) (b : Option (Nat × Nat × Nat)) => match a, b with
        | some x, some y => some (x.1 + y.1, x.2.1 + y.2.1, x.2.2 + y.2.2)
        | _, _ => none
      let data := fun (p : Prog) (t : Tally) => some (p.ingest + t.memory w0 + t.scatter + p.fabricTerm t.fabric, t.hbm, t.bench)
      let here := fs.foldl (fun acc f => match progs[f.prog]? with
        | none => none
        | some p => add acc (add (data p (s.frameTally f.bytes)) (cost p 0 fun c => s.itemsIn c f))) (some (0, 0, 0))
      let est := add (data p0 (s.missingTally ((s.costed p0).getD []) (leAt f0.bytes 32 2))) (cost p0 0 fun c => c.d.baseItems)
      let all := (List.range (mbCount - fs.length)).foldl (fun acc _ => add acc est) here
      let once := cost p0 1 fun c => (fs.map fun f => s.itemsIn c f).foldl max 0
      add (add all once)
        (some (s.repeatTerm + s.rescaleTerm step + p0.commit + exitCycles s.powerState, 0, 0))

/-- W(s) in cycles with the refresh allowance, 385 cycles for each started 3.9 µs (R308, R377). -/
def State.stepCost (s : State) (step mbCount : Nat) (fs : List InFrame) (w0 : Nat × Nat) : Option (Nat × Nat × Nat) :=
  (s.stepSum step mbCount fs w0).map fun c => (c.1 + 385 * ceilDiv c.1 6825, c.2)

/-- Class-0 bytes of the other admitted steps that have not committed (R308). -/
def State.queued0 (s : State) (step : Nat) : Nat × Nat :=
  let o := s.adm.steps.filter fun a => a.step ≠ step && decide (s.curStep ≤ a.step)
  ((o.map (·.hbm0)).sum, (o.map (·.bench0)).sum)

/-! ### Lanes (R205) -/

/-- What the forward phases of a program that run so often push, at e items each: fret and bytes. A descriptor gives no count of
records: a run's whole contribution is rounded once under R185 (DEDUCED, log 22). -/
def State.pushesOf (s : State) (prog per : Nat) (e : Costed → Nat) : List (Nat × Nat) :=
  match s.progs[prog]? with
  | none => []
  | some p => (((s.costed p).getD []).filter fun c => !c.backward && c.per = per).flatMap fun c =>
      let n := c.runs * roundUp (c.d.push + (e c - c.d.baseItems) * c.d.itemBytes) 256
      c.frets.map fun i => (i, n)

/-- Do the forward phases of a step push more on some lane than its two shares hold: the phases of each frame, and once
those that run once a step? -/
def State.lanesFull (s : State) (fs : List InFrame) : Bool :=
  let pushes := (fs.flatMap fun f => s.pushesOf f.prog 0 fun c => s.itemsFor c f.bytes)
    ++ match fs with
      | [] => []
      | f0 :: _ => s.pushesOf f0.prog 1 fun c => (fs.map fun f => s.itemsFor c f.bytes).foldl max 0
  let lanes := (pushes.map (·.1)).eraseDups
  lanes.any fun i =>
    let used := (pushes.filterMap fun p => if p.1 = i then some p.2 else none).sum
    let sh := s.laneShares i
    decide (sh.2.1 + sh.2.2.2 < used)

/-! ### E(s) and C(s) (R378, R380) -/

/-- C(s − 1). -/
def State.commitBefore (s : State) (step : Nat) : Nat :=
  ((s.adm.steps.find? fun a => a.step + 1 = step).map (·.commit)).getD 0

/-- E(s) over arrivals: time and micro-batch of each frame; in a larger job step_start + OD 0x2600.07 at least. -/
def State.expected (s : State) (mbCount : Nat) (arrivals : List (Nat × Nat)) (start : Nat) : Nat :=
  let gap := s.odNat (od 0x2600 6)
  let e := (arrivals.map fun a => a.1 + (mbCount - 1 - a.2) * gap).foldl max 0
  if s.modules ≤ 1 then e else max e (start + s.odNat (od 0x2600 7))

/-- The end of the latest admitted step's queue (AU.QUEUE_END, R396). -/
def State.queueEnd (s : State) : Nat :=
  ((s.adm.steps.filter fun a => decide (s.curStep ≤ a.step)).getLast?.map (·.commit)).getD 0

end Sys2Proof.Machine
end

