-- ==== Sys2Proof/Machine/Admit.lean ====
section
/-! DEFINITION. The admission unit: well-formed frames, refusals, promises, the decision on an EVENTS frame, late frames,
extensions (R204 to R207, R248, R299, R309, R320, R321, R353, R370 to R383, R387). -/

namespace Sys2Proof.Machine

/-! ### Well-formed frames (R370, R372, R374) -/

/-- The smallest offset that a test marks. -/
def firstBad (cs : List (Nat × Bool)) : Option Nat := ((cs.filter (·.2)).map (·.1)).min?

/-- Faults of an event record at `o`: its zero word, its item counts. -/
def eventFaults (slots : List Nat) (f : Bytes) (o : Nat) : List (Nat × Bool) :=
  let lists := slots.filter (· ≠ 0)
  (o + 8, decide (leAt f (o + 8) 4 ≠ 0)) :: (List.range 10).map fun k =>
    (o + 12 + 2 * k, decide (lists.getD k 0 < leAt f (o + 12 + 2 * k) 2))

/-- The event records that the events field announces, with their faults; the last one must end at the trailer. -/
def State.bodyFaults (s : State) (f : Bytes) : List (Nat × Bool) :=
  let n := leAt f 32 2
  let d := s.denseBytes
  let sl := s.slotMax
  if n = 0 || 4096 < n then []
  else
    let os := eventOffsets d sl f n 40
    let last := os.getLast?.getD 40
    (os.flatMap fun o => if o < f.length then eventFaults sl f o else [])
      ++ [(4, decide (last + eventBytes d sl f last + 8 ≠ f.length))]

/-- The EVENTS frames of a step that the module holds, but for one whose tally is not complete. -/
def State.stepFrames (s : State) (step : Nat) : List HeldFrame :=
  s.adm.frames.filter fun f => f.isEvents && f.step = step && f.waiting ≠ 1

/-- Faults of an EVENTS frame beyond the common header (R374). -/
def State.eventsFaults (s : State) (f : Bytes) : List (Nat × Bool) :=
  let mine := s.stepFrames (frStep f)
  [(13, decide (frMbCount f ≤ frMb f) || mine.any fun h => h.mb = frMb f),
   (14, decide (frMbCount f = 0) || mine.any fun h => h.mbCount ≠ frMbCount f),
   (32, decide (leAt f 32 2 = 0) || decide (4096 < leAt f 32 2)), (34, decide (15 < leAt f 34 2)), (36, decide (leAt f 36 4 ≠ 0))]
  ++ s.bodyFaults f

/-- Offset of the first faulty byte of a frame that should be of a type (R372). -/
def State.badFrame (s : State) (f : Bytes) (type : Nat) : Option Nat :=
  let n := f.length
  firstBad ([(0, decide (leAt f 0 2 ≠ 0x4C56)), (2, decide (frType f ≠ type)), (3, decide (frFlags f / 8 ≠ 0)),
    (4, decide (frLength f ≠ n) || decide (n % 8 ≠ 0) || decide (n < 48) || decide (0x1000000 < n)),
    (8, s.adm.frames.any fun h => h.id = frId f), (12, decide (frClass f / 4 ≠ 0)), (15, decide (leAt f 15 1 ≠ 0)),
    (n - 8, decide (leAt f (n - 8) 4 ≠ (crc32 (f.take (n - 8))).toNat)), (n - 4, decide (leAt f (n - 4) 4 ≠ 0))]
    ++ if type = 1 then s.eventsFaults f
       else [(13, decide (frMb f ≠ 0)), (14, decide (frMbCount f ≠ 0)), (24, decide (frWord f ≠ 0))])

/-! ### Answers (R381, R382) -/

/-- A refusal: cause, detail, retry. -/
structure Turn where
  cause : Nat
  detail : Nat
  retry : Nat
  deriving DecidableEq, Repr

/-- Causes of R381. -/
def cFormat : Nat := 1
def cStep : Nat := 2
def cState : Nat := 3
def cUncosted : Nat := 4
def cLength : Nat := 5
def cDeadline : Nat := 6
def cStore : Nat := 7
def cMaintenance : Nat := 8
def cRetrain : Nat := 9
def cLink : Nat := 0x0A
def cSnapshot : Nat := 0x0B

/-- REFUSE a frame of an id, type and step. -/
def State.refuseId (s : State) (id type step : Nat) (r : Turn) : State :=
  let s := s.event 0x0502 (u8 r.cause ++ u8 type ++ u32 id ++ u64 step)
  let s := (s.bump 6 Reg.auRefuseCount 1).flag 6 Reg.auStatus 0
  let s := s.setReg 6 Reg.auLastRefuse ((r.cause <<< 56) + (1 <<< 32) + id)
  let s := { s with adm := { s.adm with counts := s.adm.counts.modify r.cause fun c => cap32 (c + 1) } }
  s.sendFrame 0 0 0x82 0 id step (u8 r.cause ++ u8 type ++ u16 0 ++ c32 r.detail ++ u64 r.retry ++ u64 step)

/-- REFUSE a frame. -/
def State.refuse (s : State) (f : Bytes) (r : Turn) : State := s.refuseId (frId f) (frType f) (frStep f) r

/-- ACCEPT a frame with a bound in ns from t_last. -/
def State.acceptId (s : State) (id step tLast bound : Nat) (extended : Bool) : State :=
  let s := s.bump 6 Reg.auAcceptCount 1
  let s := { s with adm := { s.adm with
    counts := s.adm.counts.modify 0 (fun c => cap32 (c + 1)), highId := max s.adm.highId id } }
  s.sendFrame 0 0 0x81 0 id step (c32 bound
    ++ u32 ((if s.injecting then 1 else 0) + if extended then 2 else 0) ++ u64 tLast ++ u64 (tLast + bound))

/-- The frame is stored until its work is done (R379). -/
def heldOf (f : Bytes) (tLast bound waiting : Nat) (extended : Bool) : HeldFrame :=
  { id := frId f, type := frType f, step := frStep f, mb := frMb f, mbCount := frMbCount f, dclass := frClass f
    extendable := frFlags f % 2 = 1, tLast := tLast, bound := bound, extended := extended, ext := 0, waiting := waiting, until' := none
    program := leAt f 34 2, done := false, bytes := f }

/-- Hold a frame. -/
def State.hold (s : State) (h : HeldFrame) : State := { s with adm := { s.adm with frames := s.adm.frames ++ [h] } }

/-! ### Causes that any host frame can meet -/

/-- FORMAT, then STORE, then STATE: during a reset that is pending or asserted (R437), and while the host-link function
does not run (R405). -/
def State.generalTurn (s : State) (f : Bytes) (type : Nat) : Option Turn :=
  match s.badFrame f type with
  | some o => some ⟨cFormat, o, 0⟩
  | none =>
    if s.odNat (od 0x2600 0x12) < (s.adm.frames.map fun h => h.bytes.length).sum + f.length then some ⟨cStore, 0, 0⟩
    else if s.rst.pinWait || s.rst.asserted || s.fnState 3 ≠ 1 then some ⟨cState, 0, 0⟩
    else none

/-- Length of a maintenance window, and the end of the one that is open. -/
def State.windowLength (s : State) : Nat := s.odNat (od 0x2400 9) * 1000
def State.windowOpenEnd (s : State) : Nat := s.nextWindow - s.odNat (od 0x2400 7) * 1000 + s.windowLength

/-- Acceptance is suspended: a maintenance window, a channel retrain, a port retrain (R320, R321, R353). -/
def State.suspendTurn (s : State) : Option Turn :=
  if s.dram.window then some ⟨cMaintenance, 0, s.windowOpenEnd⟩
  else match s.adm.chanSince, s.adm.portSince with
    | some t, _ => some ⟨cRetrain, 0, t + 21000⟩
    | none, some t => some ⟨cLink, 0, t + 41000⟩
    | none, none => none

/-- The class limit and the next window: a bound in ns from t; `work` is what alone would exceed the limit (R320, R383). -/
def State.boundTurn (s : State) (cls t bound work : Nat) : Option Turn :=
  let limit := s.odNat (od 0x2600 (1 + cls % 4))
  if limit ≠ 0 && decide (limit < bound) then
    some ⟨cDeadline, cap32 bound, if limit < work then 0 else t + bound - limit⟩
  else if s.nextWindow < t + bound then some ⟨cMaintenance, 0, s.nextWindow + s.windowLength⟩
  else none

/-! ### The quotation of an EVENTS frame (R204 to R206, R377, R378, R380) -/

/-- What admission computes: the frame's extension and the step's, the bound, the step with the frame, the lateness that a
larger job posts, and the work that needs no wait. -/
structure Quote where
  ext : Nat
  post : Nat
  base : Nat
  bound : Nat
  step : AdmStep
  late : Nat
  deriving DecidableEq, Repr

/-- The step as it stands. -/
def State.admStep (s : State) (step : Nat) : Option AdmStep := s.adm.steps.find? fun a => a.step = step

/-- A frame in costing. -/
def inFrame (f : Bytes) (capped : Bool) : InFrame := ⟨leAt f 34 2, capped, f⟩

/-- Quote an EVENTS frame; none where a voicing of its program has no cost (R376). -/
def State.quote (s : State) (f : Bytes) (t : Nat) : Option Quote :=
  let step := frStep f
  let n := frMbCount f
  let held := s.stepFrames step
  let w0 := s.queued0 step
  let cost := fun old new => s.stepCost step n ((held.map fun h => inFrame h.bytes old) ++ [inFrame f new]) w0
  match cost false false, cost false true, cost true true with
  | some a, some c, some b =>
    let multi := decide (1 < s.modules)
    let work := if multi then s.odNat (od 0x2600 9) else nsOf a.1
    let old := s.admStep step
    let seen := if multi && decide (s.fab.seen.1 = step % 0x10000000000) then s.fab.seen.2.1 + s.fab.seen.2.2 else 0
    let raised := match old with | some o => o.raised | none => seen
    let arrive := s.expected n ((t, frMb f) :: held.map fun h => (h.tLast, h.mb)) (frWord f)
    let commit := max arrive (s.commitBefore step) + work + raised
    let post := nsOf a.1 - nsOf b.1
    some {
      ext := nsOf a.1 - nsOf c.1, post := post, base := nsOf b.1, bound := commit - t
      step := ⟨step, n, work, if multi then 0 else a.1, arrive, commit, raised, a.2.1, a.2.2⟩
      late := if multi then t + (n - 1 - frMb f) * s.odNat (od 0x2600 6) - (frWord f + s.odNat (od 0x2600 7)) else 0 }
  | _, _, _ => none

/-- Is the frame an extended one (R206)? -/
def State.isExtended (s : State) (q : Quote) : Bool := decide (s.odNat (od 0x2600 8) < q.ext)

/-- Does any event carry more items than a VARLEN voicing of the program takes (R204)? -/
def State.tooManyItems (s : State) (f : Bytes) : Bool :=
  match s.progs[leAt f 34 2]? with
  | none => false
  | some p => ((s.costed p).getD []).any fun c =>
      c.d.varlen && decide (c.slot < 10) && (s.itemCounts f c.slot).any fun k => decide (c.d.maxItems < k)

/-- Does a voicing of the program need more reserved slots than the ports hold (R349)? -/
def State.slotsShort (s : State) (f : Bytes) : Bool :=
  match s.progs[leAt f 34 2]? with
  | none => false
  | some p => ((s.costed p).getD []).any fun c => decide (s.odNat (od 0x2500 5) < c.d.bridgeSlots)

/-- LENGTH (R204 to R207): too many items, a full lane, an extension that the flag does not allow, that would raise a frame
which is never raised, or that cannot be posted in time. -/
def State.lengthTurn (s : State) (f : Bytes) (t : Nat) (q : Quote) : Bool :=
  let held := s.stepFrames (frStep f)
  let ext := s.isExtended q
  let route := ((s.progs[leAt f 34 2]?).map fun p => nsOf p.route).getD 0
  s.tooManyItems f || s.lanesFull ((held.map fun h => inFrame h.bytes false) ++ [inFrame f false])
  || (ext && frFlags f % 2 = 0)
  || (ext && held.any fun h => !h.extendable)
  || (ext && decide (1 < s.modules) && (decide (0x1000000 ≤ q.post)
      || held.any fun h => decide (h.tLast + h.bound < t + route)))

/-- SNAPSHOT (R299): while one is in progress every EVENTS frame reserves its step's update bytes. -/
def State.snapshotTurn (s : State) (step : Nat) : Bool :=
  match s.upd.snap with
  | none => false
  | some n =>
    let held := (s.adm.frames.filter fun f => f.isEvents && f.waiting ≠ 1).map fun f => Config.updateBytes f.step
    decide (s.odNat (od 0x2300 0x15) < (n.copied.map (·.2.2)).sum + held.sum + Config.updateBytes step)

/-- The frets that a frame's program uses. -/
def State.programFrets (s : State) (prog : Nat) : List Nat :=
  let lib := s.library
  match s.progs[prog]? with
  | none => []
  | some p => p.phases.flatMap fun ph => s.fretsOf (s.rungVid lib ph.vid)

/-- STATE for an EVENTS frame (R82, R110, R381, R467): its program uses a unit that is out of service. -/
def State.eventsState (s : State) (f : Bytes) : Bool :=
  s.fnState 0 ≠ 1 || (s.life.units.any fun u => Config.programUses (leAt f 34 2) u.1 u.2.1 u.2.2) || (s.programFrets (leAt f 34 2)).any fun i =>
    let fr := s.fret i
    (s.cdie (i / 384)).out || s.dieOut (i / 384)
      || fr.uncosted

/-- Why an EVENTS frame that is well formed is refused, or its quotation. -/
def State.judge (s : State) (f : Bytes) (t : Nat) : Turn ⊕ Quote :=
  let step := frStep f
  if !(step = s.curStep || step = s.curStep + 1) then .inl ⟨cStep, 0, 0⟩
  else if s.eventsState f then .inl ⟨cState, 0, 0⟩
  else match s.quote f t with
    | none => .inl ⟨cUncosted, 0, 0⟩
    | some q =>
      if s.slotsShort f then .inl ⟨cLink, 0, 0⟩
      else match s.suspendTurn with
        | some r => .inl r
        | none =>
          let more := if s.isExtended q && decide (1 < s.modules) then q.post else 0
          if s.lengthTurn f t q then .inl ⟨cLength, cap32 q.ext, 0⟩
          else if 1 < s.modules && s.odNat (od 0x2600 9) < q.base then .inl ⟨cDeadline, cap32 (q.bound + more), 0⟩
          else match s.boundTurn (frClass f) t (q.bound + more) (q.step.work + more) with
            | some r => .inl r
            | none => if s.snapshotTurn step then .inl ⟨cSnapshot, 0, 0⟩ else .inr q

/-! ### Accepting an EVENTS frame (R207, R378, R380, R387) -/

/-- Put a step among the admitted ones, in ascending order. -/
def putStep (l : List AdmStep) (a : AdmStep) : List AdmStep :=
  insertBy (fun x y => decide (x.step ≤ y.step)) a (l.filter fun x => x.step ≠ a.step)

/-- C of the steps that follow from `step` up (R378). -/
def rechain (l : List AdmStep) (step : Nat) : List AdmStep :=
  (l.foldl (fun (p : Nat × List AdmStep) a =>
    let c := if step < a.step then max a.arrival p.1 + a.work + a.raised else a.commit
    (c, p.2 ++ [{ a with commit := c }])) (0, [])).2

/-- Bounds that a new C exceeds: the frames in flight that `which` picks, with their new bounds; a frame waits no less than it
did. -/
def State.newBounds (s : State) (steps : List AdmStep) (which : HeldFrame → Bool) (all : Bool) : List (Nat × Nat) :=
  (s.adm.frames.filter fun h => h.inFlight && h.isEvents && which h).filterMap fun h =>
    match steps.find? fun a => a.step = h.step with
    | none => none
    | some a =>
      if h.bound < a.commit - h.tLast then some (h.id, a.commit - h.tLast)
      else if all then some (h.id, h.bound) else none

/-- The step takes the frame's quotation: earlier frames are broken where the frame is late; where the step's work grew, those
that are marked extendable are raised, the others never (R207, R387). A later step's frames that its new C passes are broken with class HOST: only the step's own are raised
(DEDUCED, log 22). -/
def State.takeQuote (s : State) (q : Quote) : State :=
  let step := q.step.step
  let late := match s.admStep step with | some o => decide (o.arrival < q.step.arrival) | none => false
  let late := late || decide (q.late ≠ 0)
  let s := if late then s.flag 6 Reg.auStatus 2 else s
  let steps := rechain (putStep s.adm.steps q.step) step
  let own := s.newBounds steps (fun h => h.step = step && (late || h.extendable)) late
  let next := s.newBounds steps (fun h => decide (step < h.step)) false
  let put := fun (s : State) => { s with adm := { s.adm with steps := steps } }
  if 1 < s.modules then put s
  else if late then put (s.breakFrames 0x0B step (own ++ next))
  else put ((s.raiseFrames own).breakFrames 0x0B (step + 1) next)

/-- Does some channel hold more of a table's reads than admission assumed (R309)? -/
def State.shareBroken (s : State) (t : Table) (ws : List Nat) : Bool :=
  let n := s.localCount t ws
  let l := s.localReads t ws
  let most := fun (xs : List (Nat × Nat)) => busiest (xs.map fun y => (y.1, 1))
  decide (assumedShare n 384 < most l.1) || decide (assumedShare n 64 < most l.2)

/-- The rise of a frame's bound where a channel holds more than admission assumed: the term of the busiest channel, counted over all the
frame's reads, takes the place of the assumed one (R309). -/
def State.loadRise (s : State) (f : Bytes) : Option Nat :=
  let ps := s.positions f
  let all := s.namedTables.map fun t => (t, s.wordsOf ps t)
  if all.any fun x => !x.1.classified && s.shareBroken x.1 x.2 then
    let real := all.foldl (fun acc x => acc.add (s.tallyOf x.1 x.2)) Tally.zero
    some (nsOf (real.memory (0, 0) - (s.tallyNow f).memory (0, 0)))
  else none

/-- After ACCEPT a frame's rows are resolved and gathered, and the assumption on its channels is checked (R248, R309). -/
def State.startFrame (s : State) (h : HeldFrame) : State :=
  let ps := s.positions h.bytes
  let s := s.resolve h.step h.mb ps
  let load := s.loadRise h.bytes
  let s := s.gather h.id h.step ps
  match load with
  | none => s
  | some ns =>
    let s := s.breakFrames 8 h.step [(h.id, h.bound + ns)]
    { s with adm := { s.adm with steps := s.adm.steps.map fun (a : AdmStep) => (if a.step = h.step then a.later ns else a) } }

/-- Accept an EVENTS frame; in a larger job an extension is posted first, and lateness is posted. -/
def State.admitFrame (s : State) (f : Bytes) (t : Nat) (q : Quote) : State :=
  let ext := s.isExtended q
  let s := s.takeQuote q
  let wait := ext && decide (1 < s.modules)
  let before := ((s.stepFrames (frStep f)).filter fun h => h.waiting = 0).map fun h => h.tLast + h.bound
  let h := { heldOf f t q.bound (if wait then 2 else 0) ext with ext := q.ext, until' := if wait then before.min? else none }
  let s := s.hold h
  let s := if wait then s.post false h.step q.post 5 (.extension h.id)
    else (s.acceptId h.id h.step t q.bound ext).startFrame h
  if q.late = 0 then s else s.post true h.step q.late 0x0B .delay

/-- Decide an EVENTS frame that is well formed and, where it names a CLASSIFIED table, tallied. -/
def State.decideTallied (s : State) (f : Bytes) (t : Nat) : State :=
  match s.judge f t with
  | .inl r => s.refuse f r
  | .inr q => s.admitFrame f t q

/-- Does the frame layout name a CLASSIFIED table (R248)? -/
def State.anyClassified (s : State) : Bool :=
  s.features.any fun n => n ≠ 0xFFFF && match s.table n with | some t => t.classified | none => false

/-- An EVENTS frame: its tally is awaited where one is made. -/
def State.decideEvents (s : State) (f : Bytes) (t : Nat) : State :=
  match s.generalTurn f 1 with
  | some r => s.refuse f r
  | none => if s.anyClassified then s.hold (heldOf f t 0 1 false) else s.decideTallied f t

/-- Take a frame out of the store without an answer. -/
def State.unhold (s : State) (id : Nat) : State :=
  { s with adm := { s.adm with frames := s.adm.frames.filter fun f => f.id ≠ id } }

/-! ### Posts of a held frame (R207, R346) -/

/-- Has every update of a post been acknowledged, as far as this module can tell? -/
def State.postDone (s : State) (id : Nat) : Bool :=
  !(s.fab.reqs.any fun r => r.purpose = .extension id || (s.rank = 0 && r.purpose = .ack))

/-- A step's figures without a frame that was refused after all: those of the frames that it still has (R378). -/
def State.requote (s : State) (step : Nat) : State :=
  let put := fun (steps : List AdmStep) => { s with adm := { s.adm with steps := rechain steps step } }
  match (s.stepFrames step).getLast? with
  | none => put (s.adm.steps.filter fun a => a.step ≠ step)
  | some h => match (s.unhold h.id).quote h.bytes h.tLast with
    | some q => put (putStep s.adm.steps q.step)
    | none => s

/-- An extension could not be posted: the frame is refused with LENGTH and the extension (R207, R381). -/
def State.refusePosted (s : State) (frame : Nat) : State :=
  match s.adm.frames.find? fun f => f.id = frame && f.waiting = 2 with
  | none => s
  | some h => ((s.unhold frame).requote h.step).refuse h.bytes ⟨cLength, cap32 h.ext, 0⟩

/-- EXTENSION_POSTED (R207, R381): the ACCEPT leaves with the raised bound. At rank 0 a module that turned the update away makes
the frame's refusal; another module hears of it by its post's reply. A post that took until a bound accepted before it had expired
came too late (R207). -/
def execExtensionPosted (frame : Nat) (s : State) : Host.Outcome State Fault Refusal :=
  .next (match s.adm.frames.find? fun f => f.id = frame && f.waiting = 2 with
    | none => s
    | some h =>
      if !s.postDone frame then s
      else if s.rank = 0 && s.fab.away = some (h.step % 0x10000000000) then s.refusePosted frame
      else if (match h.until' with | some t => decide (t < s.time) | none => false) then s.refusePosted frame
      else
        let bound := match s.admStep h.step with | some a => a.commit - h.tLast | none => h.bound
        let h' := { h with waiting := 0, bound := bound }
        let s := { s with adm := { s.adm with frames := s.adm.frames.map fun (f : HeldFrame) => (if f.id = frame then h' else f) } }
        (s.acceptId h.id h.step h.tLast bound true).startFrame h')

end Sys2Proof.Machine
end

