-- ==== Sys2Proof/Machine/Remote.lean ====
section
/-! DEFINITION. Remote operations at their target and at their requester, sync objects, waits, step updates
(R332, R340 to R347). -/

namespace Sys2Proof.Machine

/-! ### Memory of the node (R332, R340, R342) -/

/-- The class that a source's request names; without its packet, 1 (R305, log 17). -/
def State.requestClass (s : State) (src op : Nat) : Nat :=
  match s.fab.inbox.find? fun p => p.src = src && p.op = op with
  | some p => leAt p.data 6 1 % 4
  | none => 1

/-- READ (R340, R342). -/
def execRead (src id addr len : Nat) (s : State) : Host.Outcome State Fault Refusal :=
  .next (if !s.turnOf src 1 then s else (s.takeInbox src 1).nodeRequest ⟨s.requestClass src 1, addr, none, len, false, false, false, .read src id⟩)

/-- WRITE (R340, R342). -/
def execWrite (src id addr : Nat) (data : Bytes) (s : State) : Host.Outcome State Fault Refusal :=
  .next (if !s.turnOf src 2 then s else (s.takeInbox src 2).nodeRequest ⟨s.requestClass src 2, addr, some data, 0, false, false, false, .write src id⟩)

/-- COPY (R332, R340 to R342). -/
def execCopy (src id addr dst len : Nat) (s : State) : Host.Outcome State Fault Refusal :=
  .next (if !s.turnOf src 3 then s else (s.takeInbox src 3).nodeRequest ⟨s.requestClass src 3, addr, none, len, false, false, false,
    .copy src id dst (decide (bits dst 59 45 = s.node))⟩)

/-- COPY_DONE (R340): every WRITE has completed; the requester hears the worst outcome. -/
def execCopyDone (id status : Nat) (s : State) : Host.Outcome State Fault Refusal :=
  .next (match s.fab.copies.find? fun j => j.id = id && j.left = 0 with
    | none => s
    | some j =>
      let s := { s with fab := { s.fab with copies := s.fab.copies.erase j } }
      s.reply j.src id (if j.status = 0 then status else j.status) [] false)

/-- ADD_I64 (R340). -/
def execAddI64 (src id addr : Nat) (operand : BitVec 64) (s : State) : Host.Outcome State Fault Refusal :=
  .next (if !s.turnOf src 4 then s else (s.takeInbox src 4).nodeRequest ⟨s.requestClass src 4, addr, none, 8, false, false, false, .addI64 src id operand.toNat⟩)

/-- ADD_F32 (R118, R340). -/
def execAddF32 (src id addr : Nat) (operand : BitVec 32) (s : State) : Host.Outcome State Fault Refusal :=
  .next (if !s.turnOf src 5 then s else (s.takeInbox src 5).nodeRequest ⟨s.requestClass src 5, addr, none, 4, false, false, false, .addF32 src id operand.toNat⟩)

/-- MSG (R340): no reply. -/
def execMsg (src _id queue : Nat) (body : Bytes) (s : State) : Host.Outcome State Fault Refusal :=
  .next (if !s.turnOfMsg src queue then s else
    let s := s.takeInbox src 7
    { s with fab := { s.fab with msgs := s.fab.msgs ++ [(queue, src, body)] } })

/-! ### Sync operations (R343 to R347) -/

/-- The cause that a post names (R346, log 17): the request's second operand. -/
def State.postCause (s : State) (src : Nat) : Nat :=
  match s.fab.inbox.find? fun p => p.src = src && p.op = 6 with
  | some p => if leAt p.data 24 8 = 0 then 5 else leAt p.data 24 8
  | none => 5

/-- Rank 0's object 2 or 3 changed: the update goes out; a poster waits for every acknowledgement (R346). -/
def State.stepObjChanged (s : State) (src id sub obj old cause : Nat) : State :=
  let s' := s.fanOut cause
  if s'.fab.reqs.any (fun r => r.purpose = .ack) && (sub = 6 || sub = 7) then
    { s' with fab := { s'.fab with posts := s'.fab.posts ++ [(obj, BitVec.ofNat 64 old, src, id)] } }
  else s'.reply src id s'.fab.ackStatus (u64 old) true

/-- A reply that a sub-operation's request gets when it changed nothing that others must hear of. -/
def State.syncAnswer (s : State) (src id obj sub old a : Nat) : State :=
  s.reply src id (if s.rank = 0 && sub = 6 then s.standing obj (a / 0x1000000) else stOk) (u64 old) true

/-- A sync operation (R345): the object's value before it is returned. -/
def State.syncRequest (s : State) (src id obj sub : Nat) (remote : Bool) (a b : Nat) : State :=
  if s.held 6 13 || (remote && !s.turnOf src 6) then s else
  let cause := if remote then s.postCause src else 5
  let s := if remote then s.takeInbox src 6 else s
  if 8192 ≤ obj then (s.flag 6 Reg.syncStatus 2).reply src id stAddr (u64 0) true
  else
    let old := s.syncObj obj
    let s := s.syncOp sub obj a b
    if s.rank = 0 && (obj = 2 || obj = 3) && s.syncObj obj ≠ old then s.stepObjChanged src id sub obj old cause
    else s.syncAnswer src id obj sub old a

/-- SYNC_GET. -/
def execSyncGet (src id obj : Nat) (remote : Bool) (s : State) : Host.Outcome State Fault Refusal :=
  .next (s.syncRequest src id obj 0 remote 0 0)
/-- SYNC_SET. -/
def execSyncSet (src id obj : Nat) (remote : Bool) (value : BitVec 64) (s : State) : Host.Outcome State Fault Refusal :=
  .next (s.syncRequest src id obj 1 remote value.toNat 0)
/-- SYNC_ADD. -/
def execSyncAdd (src id obj : Nat) (remote : Bool) (value : BitVec 64) (s : State) : Host.Outcome State Fault Refusal :=
  .next (s.syncRequest src id obj 2 remote value.toNat 0)
/-- SYNC_MAX. -/
def execSyncMax (src id obj : Nat) (remote : Bool) (value : BitVec 64) (s : State) : Host.Outcome State Fault Refusal :=
  .next (s.syncRequest src id obj 3 remote value.toNat 0)
/-- SYNC_CAS. -/
def execSyncCas (src id obj : Nat) (remote : Bool) (expected value : BitVec 64) (s : State) :
    Host.Outcome State Fault Refusal :=
  .next (s.syncRequest src id obj 4 remote value.toNat expected.toNat)
/-- SYNC_RECORD (R347). -/
def execSyncRecord (src id obj : Nat) (remote : Bool) (value : BitVec 64) (s : State) : Host.Outcome State Fault Refusal :=
  .next (s.syncRequest src id obj 5 remote value.toNat 0)
/-- SYNC_STEP_MAX. -/
def execSyncStepMax (src id obj : Nat) (remote : Bool) (value : BitVec 64) (s : State) : Host.Outcome State Fault Refusal :=
  .next (s.syncRequest src id obj 6 remote value.toNat 0)
/-- SYNC_STEP_ADD. -/
def execSyncStepAdd (src id obj : Nat) (remote : Bool) (value : BitVec 64) (s : State) : Host.Outcome State Fault Refusal :=
  .next (s.syncRequest src id obj 7 remote value.toNat 0)

/-- SYNC_WAIT (R345): answered when the object has the value, held, or turned away. -/
def execSyncWait (src id obj : Nat) (remote : Bool) (value : BitVec 64) (limit : Nat) (s : State) :
    Host.Outcome State Fault Refusal :=
  let t := if remote then s.takeInbox src 6 else s
  .next (if s.held 6 13 || (remote && !s.turnOf src 6) then s else let s := t; if 8192 ≤ obj then (s.flag 6 Reg.syncStatus 2).reply src id stAddr (u64 0) true
    else
      let old := s.syncObj obj
      let full := decide (old < value.toNat) && decide (256 ≤ s.fab.waits.length)
      let s := if full then s else s.bump 6 Reg.syncOpCount 1
      if value.toNat ≤ old then s.reply src id stOk (u64 old) true
      else if full then (s.flag 6 Reg.syncStatus 1).reply src id stBusy (u64 old) true
      else { s with fab := { s.fab with waits := s.fab.waits ++ [Waiter.mk src id obj value (s.time + limit) remote] } })

/-- A wait ends. -/
def State.endWait (s : State) (w : Waiter) : State :=
  let s := { s with fab := { s.fab with waits := s.fab.waits.erase w } }
  s.reply w.src w.id stOk (u64 (s.syncObj w.obj)) true

/-- SYNC_WAIT_SATISFIED (R345). -/
def execSyncWaitSatisfied (place : Nat) (s : State) : Host.Outcome State Fault Refusal :=
  .next (match s.fab.waits[place]? with
    | none => s
    | some w => if w.value.toNat ≤ s.syncObj w.obj then s.endWait w else s)

/-- SYNC_WAIT_TIMEOUT (R345). -/
def execSyncWaitTimeout (place : Nat) (s : State) : Host.Outcome State Fault Refusal :=
  .next (match s.fab.waits[place]? with
    | none => s
    | some w => (s.endWait w).flag 6 Reg.syncStatus 0)

/-! ### Step updates (R346) -/

/-- STEP_SYNC_UPDATE (R346): bounds rise, the update goes on to the children; without children it is acknowledged. -/
def execStepSyncUpdate (delay : Bool) (value : BitVec 64) (s : State) : Host.Outcome State Fault Refusal :=
  let pk := s.fab.inbox.find? fun p => p.op = 6 && leAt p.data 5 1 = subUpdate
  let v := value.toNat
  let v2 := match pk with | some p => leAt p.data 16 8 | none => if delay then 0 else v
  let v3 := match pk with | some p => leAt p.data 24 8 | none => if delay then v else 0
  let cls := match pk with | some p => leAt p.data 32 1 | none => 5
  let step := max (v2 / 0x1000000) (v3 / 0x1000000)
  let low := fun x => if x / 0x1000000 = step then x % 0x1000000 else 0
  let s := match pk with | some p => { s with fab := { s.fab with inbox := s.fab.inbox.erase p } } | none => s
  let s := ((s.answerUpdate step (low v2)).applyStepSync step (low v2) (low v3) cls).passUpdate v2 v3 cls
  .next (match pk with
    | none => s
    | some p =>
      let id := leAt p.data 0 4
      if (childLevels s.modules s.rank).isEmpty then s.reply p.src id s.fab.ackStatus (u64 0) true
      else { s with fab := { s.fab with acks := s.fab.acks ++ [(p.src, id)] } })

/-- STEP_SYNC_ACK (R346 step 3): the posters of an object hear that every acknowledgement is in. -/
def execStepSyncAck (delay : Bool) (_value : BitVec 64) (s : State) : Host.Outcome State Fault Refusal :=
  let o := if delay then 3 else 2
  let mine := s.fab.posts.filter fun p => p.1 = o
  .next (if s.fab.reqs.any (fun r => r.purpose = .ack) then s
    else
      let s := { s with fab := { s.fab with posts := s.fab.posts.filter fun p => p.1 ≠ o } }
      mine.foldl (fun s p => s.reply p.2.2.1 p.2.2.2 s.fab.ackStatus (u64 p.2.1.toNat) true) s)

/-! ### Replies and time limits at the requester (R342) -/

/-- A WRITE of a copy ended. -/
def State.copyPart (s : State) (job status : Nat) : State :=
  { s with fab := { s.fab with copies := s.fab.copies.map fun j =>
      (if copyJobNo j.src j.id = job then { j with left := j.left - 1, status := max j.status status } else j) } }

/-- The outcome that rank 0's commit object held before the operation, if it was recorded for the step (R347). -/
def recorded (step v : Nat) : Option Nat := if v / 4 = step && v % 4 ≠ 0 then some (v % 4) else none

/-- What a reply means to the unit that asked. One about a step that is over changes nothing (R347). -/
def State.takePurpose (s : State) (r : Request) (status : Nat) (data : ReplyData) : State :=
  match r.purpose with
  | .row => s.rowReply r.id status data
  | .record step => if step = s.curStep then s.takeOutcome ((recorded step (leAt data.bytes 0 8)).getD 2) else s
  | .extension frame => if status = stOk then s else s.refusePosted frame
  | .copy job => s.copyPart job status
  | .ack =>
    let s : State := { s with fab := { s.fab with
      ackStatus := max s.fab.ackStatus status
      away := if status = stOk then s.fab.away else some (s.syncObj 2 / 0x1000000) } }
    if s.fab.reqs.any (fun q => q.purpose = .ack) then s
    else
      let owed := s.fab.acks
      let s := { s with fab := { s.fab with acks := [] } }
      owed.foldl (fun s a => s.reply a.1 a.2 s.fab.ackStatus (u64 0) true) s
  | .delay => s
  | .other => s

/-- What a reply does: an address error or poison is an uncorrectable memory error at the source, for an admitted phase a memory
fault (R302, R312, R342). BUSY stands in the answer as the sync-object error, of which the manual gives no further effect. -/
def State.takeReply (s : State) (r : Request) (status : Nat) (data : ReplyData) : State :=
  (s.takePurpose r status data).memoryFault (r.phase && (status = stAddr || status = stPoison))

/-- REMOTE_REPLY (R341, R342). -/
def execRemoteReply (id status : Nat) (data : ReplyData) (s : State) : Host.Outcome State Fault Refusal :=
  .next (match s.fab.reqs.find? fun r => r.id = id with
    | none => s
    | some r =>
      if !s.turnOf r.dst 0 then s
      else
      let s := s.takeInbox r.dst 0
      let s := { s with fab := { s.fab with reqs := s.fab.reqs.erase r, answers := (id, status, data.bytes) :: s.fab.answers } }
      s.takeReply r status data)

/-- What a missing reply means to the unit that asked. Without every acknowledgement neither the poster nor the parent is answered
(R207, R346). -/
def State.noReply (s : State) (r : Request) : State :=
  match r.purpose with
  | .row => { s with emb := { s.emb with asks := s.emb.asks.filter fun a => a.id ≠ r.id } }
  | .record step => if step = s.curStep then s.arbiterLost else s
  | .copy job => s.copyPart job stTimeout
  | .extension frame => s.refusePosted frame
  | .ack => { s with fab := { s.fab with posts := [], acks := [], away := some (s.syncObj 2 / 0x1000000) } }
  | .delay => s
  | .other => s

/-- REMOTE_TIMEOUT (R342): of an admitted phase, promises break with LINK and the job rolls back. -/
def execRemoteTimeout (id : Nat) (s : State) : Host.Outcome State Fault Refusal :=
  .next (match s.fab.reqs.find? fun r => r.id = id with
    | none => s
    | some r =>
      let s := { s with fab := { s.fab with
        reqs := s.fab.reqs.erase r, answers := (id, stTimeout, []) :: s.fab.answers, trouble := some s.time } }
      let s := (s.flag 6 Reg.zfStatus 4).bump 6 Reg.zfTimeoutCount 1
      let s := s.noReply r
      if r.phase then s.jobFault 5 (some 0) else s)

end Sys2Proof.Machine
end

