-- ==== Sys2Proof/Machine/Host.lean ====
section
/-! DEFINITION. Host frames other than EVENTS, the order of decisions, restores, and what time does to held frames
(R246, R297 to R299, R355, R368, R372, R379, R387 to R392). -/

namespace Sys2Proof.Machine

/-! ### CONTROL frames (R388) -/

/-- The operation of a CONTROL frame; its body starts at offset 36. -/
def frOp (f : Bytes) : Nat := leAt f 32 1

/-- FORMAT of a CONTROL frame: its operation, the three zero bytes, and further tests. -/
def controlBad (f : Bytes) (op : Nat) (more : List (Nat × Bool)) : Option Turn :=
  (firstBad ([(32, decide (frOp f ≠ op)), (33, decide (leAt f 33 3 ≠ 0))] ++ more)).map fun o => ⟨cFormat, o, 0⟩

/-- The largest ingest term of the step programs (log 22). -/
def State.ingestTerm (s : State) : Nat := (s.progs.map (·.ingest)).foldl max 0

/-- The bound in ns of a load of HBM and bench bytes (R308, R388). -/
def State.loadBound (s : State) (hbm bench : Nat) : Nat :=
  nsOf (s.ingestTerm + ceilDiv hbm 8400 + ceilDiv bench 623 + 3500)

/-- What any host frame that is not EVENTS meets before its own work, in order: FORMAT, STORE and STATE of R372; its own
FORMAT; its own STATE; the suspensions; the class limit and the next window. `work` is the part of the bound that is no wait for other
work (R383). -/
def State.controlTurn (s : State) (f : Bytes) (type t : Nat) (bad : Option Turn) (state : Bool) (bound work : Nat) :
    Option Turn :=
  match s.generalTurn f type with
  | some r => some r
  | none => match bad with
    | some r => some r
    | none =>
      if state then some ⟨cState, 0, 0⟩
      else match s.suspendTurn with
        | some r => some r
        | none => s.boundTurn (frClass f) t bound work

/-- Accept a frame whose work ends with its command. -/
def State.acceptDone (s : State) (f : Bytes) (t bound : Nat) : State := s.acceptId (frId f) (frStep f) t bound false

/-! #### PUT -/

/-- Is a range of the local map one that a PUT may write: memory in service, a hot-set window, or the fret windows (R302)? -/
def State.putRange (s : State) (a n : Nat) : Bool :=
  (0x40000000000 ≤ a && decide (a + n ≤ 0x40040000000)) || inHotWindow a n
  || ((decide (a + n ≤ 0x6C00000000) || decide (0x10000000000 ≤ a)) && s.mappedRange a n)

/-- Write bytes of a PUT: the fret windows take 4 bytes at a time. -/
def State.putBytes (s : State) (a : Nat) (bs : Bytes) : State :=
  if inWindows a then
    (chunks 4 bs).zipIdx.foldl (fun s c => s.windowWrite (a + 4 * c.2) c.1.length (leNat c.1)) s
  else s.put a bs

/-- PUT: local address, then bytes; a range that nothing is mapped at ends in an address error (R302). -/
def State.decidePut (s : State) (f : Bytes) (t : Nat) : State :=
  let a := leAt f 36 8
  let bs := (f.take (f.length - 8)).drop 44
  let n := (a + bs.length + 31) / 32 * 32 - a / 32 * 32
  let bench := decide (0x10000000000 ≤ a) && decide (a < 0x20000000000)
  let bound := if bench then s.loadBound 0 n else s.loadBound n 0
  match s.controlTurn f 2 t (controlBad f 1 [(4, decide (f.length < 56))]) (s.fnState 0 ≠ 0) bound bound with
  | some r => s.refuse f r
  | none =>
    let s := s.acceptDone f t bound
    if s.putRange a bs.length then s.putBytes a bs else s.answer 2 a [] true

/-! #### ROWS -/

/-- A row of a ROWS frame: row, class, slot. -/
structure InRow where
  row : Nat
  cls : Nat
  slot : Bytes
  deriving DecidableEq, Repr

/-- Read the rows from offset `o`, with the offset of the first fault; `stop` is the trailer's offset. -/
def rowsOf (t : Table) (f : Bytes) (stop : Nat) : Nat → Nat → List InRow × Option Nat
  | 0, _ => ([], none)
  | k + 1, o =>
    let cls := leAt f (o + 8) 1
    let n := slotBytes cls t
    if stop < o + 16 + n then ([], some 40)
    else if t.rows ≤ leAt f o 8 then ([], some o)
    else if 4 ≤ cls || !t.allows cls then ([], some (o + 8))
    else if leAt f (o + 9) 7 ≠ 0 then ([], some (o + 9))
    else
      let p := rowsOf t f stop k (o + 16 + n)
      (⟨leAt f o 8, cls, byteSlice f (o + 16) n⟩ :: p.1, p.2)

/-- A directory insert finds no free entry (R246, R270). -/
def State.dirFull (s : State) (table row : Nat) : State := s.flag (2 + s.homeDie table row) Reg.embStatus 4

/-- Bytes of a frame go to memory; a range that nothing is mapped at ends in an address error (R302). -/
def State.load (s : State) (a : Nat) (bs : Bytes) : State :=
  if s.mappedRange a bs.length then s.put a bs else s.answer 2 a [] true

/-- Insert a row: a slot of the pool of its tier, and an entry; a row that is there gives up its slot. With no slot free the insert is
refused as one that finds no entry, and a row that is there stays as it was (DESIGN CHOICE, log 34). -/
def State.insertRow (s : State) (t : Table) (r : InRow) : State :=
  let old := s.dirFind t.table r.row
  match (match old with | some o => some o.1 | none => s.dirFree t.table r.row) with
  | none => s.dirFull t.table r.row
  | some a =>
    let given : State := match old with
      | some o => { s with emb := { s.emb with pool := SMap.set 0 s.emb.pool o.2.slot 0 } }
      | none => s
    match given.poolTake (t.bench r.cls) t.table r.row (slotBytes r.cls t) with
    | none => s.dirFull t.table r.row
    | some p =>
      let s := (if old.isSome then p.2.snapCopy (snapRow t.table r.row) else p.2).load p.1 r.slot
      s.setDir a ⟨r.row, t.table, r.cls, t.bench r.cls, false, false, true, p.1⟩

/-- ROWS: rows that this module does not own are dropped and counted. -/
def State.decideRows (s : State) (f : Bytes) (t : Nat) : State :=
  let tab := s.table (leAt f 36 2)
  let p := match tab with | some x => rowsOf x f (f.length - 8) (min (leAt f 40 4) f.length) 44 | none => ([], some 36)
  let sum := fun b => (p.1.map fun r => if (match tab with | some x => x.bench r.cls | none => false) = b then r.slot.length else 0).sum
  let bound := s.loadBound (sum false) (sum true)
  let bad := controlBad f 2 ((4, decide (f.length < 56)) :: (38, decide (leAt f 38 2 ≠ 0)) :: match p.2 with | some o => [(o, true)] | none => [])
  match s.controlTurn f 2 t bad (s.fnState 1 ≠ 0) bound bound with
  | some r => s.refuse f r
  | none =>
    let s := s.acceptDone f t bound
    match tab with
    | none => s
    | some x => p.1.foldl (fun s r =>
        if s.owner x.table r.row = s.rank then s.insertRow x r
        else { s with adm := { s.adm with counts := s.adm.counts.modify 25 fun c => cap32 (c + 1) } }) s

/-! #### RESTORE (R392) -/

/-- A chunk of a snapshot. -/
structure Chunk where
  kind : Nat
  index : Nat
  offset : Nat
  data : Bytes
  deriving DecidableEq, Repr

/-- Read the chunks of a body, at most `k` of them, with the offset of the first fault. -/
def chunksOf : Nat → Nat → Bytes → List Chunk × Option Nat
  | 0, _, _ => ([], none)
  | k + 1, o, b =>
    if b.length < 16 then ([], none)
    else
      let n := leAt b 4 4
      let kind := leAt b 0 1
      if !(kind = 0xFF || (1 ≤ kind && kind ≤ 6)) then ([], some o)
      else if leAt b 1 1 ≠ 0 then ([], some (o + 1))
      else if b.length < 16 + n then ([], some (o + 4))
      else
        let c : Chunk := ⟨kind, leAt b 2 2, leAt b 8 8, byteSlice b 16 n⟩
        let p := chunksOf k (o + 16 + roundUp n 8) (b.drop (16 + roundUp n 8))
        (c :: p.1, p.2)

/-- The pieces of a tensor item's bytes from an offset, with their places in a half: the stored parts follow one another. -/
def partPieces : List (Nat × Nat) → Nat → Bytes → List (Nat × Bytes)
  | [], _, _ => []
  | p :: t, off, bs =>
    if p.2 ≤ off then partPieces t (off - p.2) bs
    else (p.1 + off, bs.take (p.2 - off)) :: partPieces t 0 (bs.drop (p.2 - off))

/-- Bytes of a tensor item go to half 0. -/
def State.restoreTensor (s : State) (entry off : Nat) (bs : Bytes) : State :=
  match s.params[entry]? with
  | none => s
  | some p => ((partPieces (p.stateParts (s.ruleSet p.ruleSet)) off bs).filter fun x => !x.2.isEmpty).foldl
      (fun s x => s.load (p.half 0 + x.1) x.2) s

/-- Whole rows of a table's bytes, and what is left. -/
def rowItems (t : Table) : Nat → Bytes → List (DirEntry × Bytes) × Bytes
  | 0, b => ([], b)
  | k + 1, b =>
    let e := DirEntry.of b
    let n := 16 + slotBytes e.cls t
    if b.length < n then ([], b)
    else
      let p := rowItems t k (b.drop n)
      ((e, byteSlice b 16 (n - 16)) :: p.1, p.2)

/-- One chunk of a restore. -/
def State.restoreChunk (s : State) (c : Chunk) : State :=
  match s.upd.restore with
  | none => s
  | some r =>
    let put := fun (s : State) r => { s with upd := { s.upd with restore := some r } }
    match c.kind with
    | 2 => put s { r with history := r.history ++ c.data }
    | 3 => s.restoreTensor c.index c.offset c.data
    | 4 => put s { r with sketch := r.sketch ++ c.data }
    | 5 =>
      let half := r.step % 2
      let s := s.load (s.carryAt half 0 0 + c.offset) c.data
      let new := s.carriedIn half c.offset c.data.length
      { s with upd := { s.upd with carried := (s.upd.carried.filter fun x => !new.contains x) ++ new } }
    | 6 =>
      match s.table c.index with
      | none => s
      | some t =>
        let p := rowItems t c.data.length ((if r.table = c.index then r.rest else []) ++ c.data)
        let s := p.1.foldl (fun s e => s.load e.1.slot e.2) s
        put s { r with table := c.index, rest := p.2, rows := r.rows ++ p.1.map fun e => e.1.bytes }
    | _ => s

/-- A half's working copy from its master (R274). -/
def State.rederive (s : State) (p : Param) (h : Nat) : State :=
  let l := p.layout (s.ruleSet p.ruleSet)
  let a := p.half h
  let n := p.rows * p.cols
  let codes := List.zipWith (fun (x : Bytes) (e : Byte) => leNat x * 256 + e.toNat)
    (chunks 2 (s.readMem (a + l.hi) (2 * n))) (s.readMem (a + l.ext) n)
  let cols := (List.range p.cols).map fun j => (chunks p.cols codes).map fun row => row.getD j 0
  let work := convLines p.wfmt 0 none 0 0 0 (cols.map fun col => col.map (Fmt.plain Fmt.s24))
  s.store (a + l.work) (payloadOf p.wfmt (work.map (·.1)))

/-- The directory holds the restored rows and no others; the pools hold their slots; the hot set is empty. -/
def State.rebuildDirectory (s : State) (rows : List Bytes) : State :=
  let s := s.zeroStore (s.odNat (od 0x2200 0x10)) (s.odNat (od 0x2200 0x11))
  let s := { s with emb := { s.emb with pool := [], hot := [], install := none, freeCommit := [], freeRollback := [] } }
  rows.foldl (fun s b =>
    let e := DirEntry.of b
    match s.dirFree e.table e.row, s.table e.table with
    | some a, some t =>
      let s := { s with emb := { s.emb with pool := SMap.set 0 s.emb.pool e.slot (slotBytes e.cls t) } }
      s.setDir a { e with hot := false, valid := true }
    | _, _ => s.dirFull e.table e.row) s

/-- The sketch and the shard records of a parity from their bytes (log 19). -/
def State.restoreSketch (s : State) (parity : Nat) (b : Bytes) : State :=
  let words := chunks 4 (b.take 262144)
  let sk := SMap.setMany 0 s.emb.sketch (parity * 65536) (words.map leNat)
  let recs := s.tables.zip (chunks 8 (b.drop 262144))
  let sh := recs.foldl (fun m x => SMap.set (0, 0#32) m (parity * 1024 + x.1.table % 1024) (leAt x.2 0 4, f32At x.2 4)) s.emb.shard
  { s with emb := { s.emb with sketch := sk, shard := sh } }

/-- The end chunk (R392). -/
def State.restoreEnd (s : State) (r : Restore) : State :=
  let recs := (List.replicate 2 (⟨none, []⟩ : CommitRec)).set (r.step % 2) ⟨some r.step, []⟩
  let s := { s with upd := { s.upd with recs := recs, restore := none } }
  let s := s.params.foldl (fun s p => s.rederive p 0) s
  let s := (s.restoreSketch (r.step % 2) r.sketch).rebuildDirectory r.rows
  { s with num := { s.num with loaded := some (History.of r.history) } }

/-- Bytes of a restore frame by tier: a tensor's and a table's stand where their maps put them. -/
def State.chunkTier (s : State) (c : Chunk) : Bool :=
  if c.kind = 3 then match s.params[c.index]? with | some p => p.bench | none => false
  else c.kind = 6 && match s.table c.index with | some t => t.onBench | none => false

/-- RESTORE: a frame whose first chunk is a header starts a restore; a frame without one continues it. -/
def State.decideRestore (s : State) (f : Bytes) (t : Nat) : State :=
  let p := chunksOf f.length 36 ((f.take (f.length - 8)).drop 36)
  let sum := fun b => (p.1.map fun c => if s.chunkTier c = b then c.data.length else 0).sum
  let bound := s.loadBound (sum false) (sum true)
  let head := match p.1 with | c :: _ => if c.kind = 1 then some c.data else none | [] => none
  let bad := controlBad f 3 ((match p.2 with | some o => [(o, true)] | none => [])
    ++ [(36, head.isNone && s.upd.restore.isNone)])
  let other := match head with
    | some b => decide (byteSlice b 8 56 ≠ s.jobKey) || decide (leAt b 64 2 ≠ s.node)
    | none => false
  match s.controlTurn f 2 t bad (s.fnState 0 ≠ 0 || other) bound bound with
  | some r => s.refuse f r
  | none =>
    let s := s.acceptDone f t bound
    let s := match head with
      | some b => { s with upd := { s.upd with restore := some ⟨leAt b 0 8, [], [], 0x10000, [], []⟩ } }
      | none => s
    let s := p.1.foldl State.restoreChunk s
    match s.upd.restore with
    | some r => if p.1.any fun c => c.kind = 0xFF then s.restoreEnd r else s
    | none => s

/-! #### SETTLE (R292, R388) -/

/-- SETTLE: the named outcome is taken as rank 0's recorded one. -/
def State.decideSettle (s : State) (f : Bytes) (t : Nat) : State :=
  let o := leAt f 36 1
  let bad := controlBad f 4 [(4, decide (f.length < 64)), (36, !(o = 1 || o = 2)), (37, decide (leAt f 37 7 ≠ 0))]
  let told := [2, 3, 4, 5].any fun d => bits (s.reg d Reg.updStatus) 6 6 = 1
  match s.controlTurn f 2 t bad (!told || s.upd.lost ≠ some (leAt f 44 8)) 1000000 1000000 with
  | some r => s.refuse f r
  | none => (s.acceptDone f t 1000000).takeOutcome o

/-! ### READBACK, STATUS, SNAPSHOT_REQ (R297, R299, R390, R391) -/

/-- READBACK: the wait for earlier streams, the bytes at 100 GB/s or at the bench tier's share, and 10 µs. -/
def State.decideReadback (s : State) (f : Bytes) (t : Nat) : State :=
  let a := leAt f 32 8
  let n := leAt f 40 4
  let bench := decide (0x10000000000 ≤ a) && decide (a < 0x20000000000)
  let work := ceilDiv n (if bench then 17 else 100) + 10000
  let start := ((s.adm.frames.filter fun h => !h.isEvents).map fun h => h.tLast + h.bound).foldl max t
  let bound := start - t + work
  let bad := (firstBad [(4, decide (f.length < 56)), (40, decide (n < 32) || decide (0x40000000 < n)), (44, decide (leAt f 44 4 ≠ 0))]).map fun o => Turn.mk cFormat o 0
  match s.controlTurn f 4 t bad false bound work with
  | some r => s.refuse f r
  | none =>
    let s := (s.hold (heldOf f t bound 0 false)).acceptDone f t bound
    { s with adm := { s.adm with streams := s.adm.streams ++ [⟨0x84, frId f, t + bound, a, n⟩] } }

/-- The committed step of a record: all ones when there is none. -/
def State.committedWord (s : State) : Nat := s.committed.getD never

/-- STATUS: a summary and one record for each accepted frame not yet complete. -/
def State.decideStatus (s : State) (f : Bytes) (t : Nat) : State :=
  let bound := Config.statusBound (frId f)
  match s.controlTurn f 5 t none false bound bound with
  | some r => s.refuse f r
  | none =>
    let s := s.acceptDone f t bound
    s.sendStatusFor (frId f) ((7, 0, 0, 0, s.committedWord, s.committedWord) ::
      (s.adm.frames.filter HeldFrame.inFlight).map fun h => (8, 0, 0, h.id, h.step, h.bound))

/-- Data bytes of a snapshot as it would be now, in HBM and in the bench tier (R391). -/
def State.snapSize (s : State) : Nat × Nat :=
  let add := fun (a b : Nat × Nat) => (a.1 + b.1, a.2 + b.2)
  let by' := fun (bench : Bool) n => if bench then (0, n) else (n, 0)
  let ps := s.params.map fun p => by' p.bench ((p.stateParts (s.ruleSet p.ruleSet)).map (·.2)).sum
  let rows := s.tables.flatMap fun t => (s.ownRows t).map fun e => by' e.2.bench (16 + slotBytes e.2.cls t)
  let fixed := 72 + (s.historyNow 0).bytes.length + 262144 + 8 * s.tables.length + 0x4800000
  (ps ++ rows).foldl add (fixed, 0)

/-- SNAPSHOT_REQ: the stream of the first step that commits from now on. -/
def State.decideSnapshot (s : State) (f : Bytes) (t : Nat) : State :=
  let open' := s.adm.steps.find? fun a => decide (s.curStep ≤ a.step)
  let c := match open' with | some a => a.commit | none => t + Config.snapshotWait (frId f)
  let n := s.snapSize
  let work := ceilDiv n.1 100 + ceilDiv n.2 17 + 10000
  let bound := c + work - t
  match s.controlTurn f 3 t none (s.fnState 4 ≠ 1) bound work with
  | some r => s.refuse f r
  | none =>
    if s.upd.snap.isSome || s.odNat (od 0x2300 0x15) = 0 then s.refuse f ⟨cSnapshot, 0, 0⟩
    else
      let s := (s.hold (heldOf f t bound 0 false)).acceptDone f t bound
      { s with upd := { s.upd with snap := some ⟨frId f, none, none, [], [], 0⟩ } }

/-! ### What time does to held frames (R355, R368, R387) -/

/-- BOUND_EXPIRY: a frame not complete at its bound. LINK where the fabric had trouble while it was in flight; else a data stream that did
not leave in time: HOST. The new bound has no stated value (log 23). -/
def execBoundExpiry (frame : Nat) (s : State) : Host.Outcome State Fault Refusal :=
  .next (match s.adm.frames.find? fun f => f.id = frame && f.inFlight with
    | none => s
    | some h =>
      let trouble := match s.fab.trouble with | some t => decide (h.tLast ≤ t) | none => false
      let new := s.time - h.tLast + Config.lateRise h.id s.time
      if trouble then s.breakFrames 5 h.step [(h.id, new)]
      else if h.isEvents then s
      else s.breakFrames 0x0B h.step [(h.id, new)])

/-- The accepted frames of a step leave the store; one whose extension is not posted yet is refused. A frame whose decision waits for its
tally stays (R372). -/
def State.discardFrames (s : State) (step : Nat) : State :=
  let mine := s.adm.frames.filter fun f => f.isEvents && f.step = step && f.waiting ≠ 1
  let s := (mine.filter fun f => f.waiting ≠ 0).foldl (fun s f => s.refuse f.bytes ⟨cLength, cap32 f.ext, 0⟩) s
  { s with adm := { s.adm with
      frames := s.adm.frames.filter fun f => !(f.isEvents && f.step = step && f.waiting ≠ 1)
      steps := s.adm.steps.filter fun a => a.step ≠ step } }

/-- A step that is accepted but not in progress yet is rolled back (R293, R387): what runs for its frames stops, what the embedding engines
hold of it goes; a larger job hears of the fault when the step's vote is due. -/
def State.rollAhead (s : State) (step : Nat) : State :=
  let s : State := { s with emb := s.emb.forget step }
  if 1 < s.modules then { s with upd := { s.upd with late := some step } }
  else
    let mine := fun (f : Fret) => f.run = 1 && match f.frame with | some x => x.1 = step | none => false
    let s := s.mapFrets (fun _ f => mine f) fun _ f =>
      { f with run := 0, stall := .none, recv := none, phase := none, armed := [], follow := [] }
    let s : State := { s with upd := { s.upd with rollbacks := cap32 (s.upd.rollbacks + 1) } }
    s.event 0x0602 (u64 step ++ u8 0x0B ++ u8 1 ++ u32 0)

/-- FRAME_WAIT_LIMIT (R387): promises broken, a fault voted, the step rolled back, its frames discarded. -/
def execFrameWaitLimit (step : Nat) (s : State) : Host.Outcome State Fault Refusal :=
  let mine := s.stepFrames step
  let want := (mine.map (·.mbCount)).foldl max 0
  .next (if mine.isEmpty || want ≤ mine.length then s
    else
      let s := s.breakFrames 0x0B step (mine.map fun f => (f.id, never))
      let s := s.discardFrames step
      if step ≠ s.curStep then s.rollAhead step
      else
        let s := s.setFault 0x0B
        if 1 < s.modules then s
        else
          let s := (s.rollback 0x0B 1 0).metCarries s.curStep
          let s : State := s.mapFrets (fun _ f => f.run = 2) fun _ f => { f with run := 0 }
          { s with upd := { s.upd with rerun := 0 } })

end Sys2Proof.Machine
end

