-- ==== Sys2Proof/Machine/Regs.lean ====
section
/-! DEFINITION. Registers: what each one reads, generic writes, slow windows, the dice test port, restarts of frets, block
resets, the wear counters' flush (R76, R419 to R433, R445, R459, R469, R481). -/

namespace Sys2Proof.Machine

/-! ### Views: registers that show state held elsewhere -/

/-- One byte of a spare map (R114). -/
def State.spareByte (s : State) (die col : Nat) : Nat :=
  match s.bypassed die col with
  | some r => 128 + r
  | none => 0

/-- FRET.SPARE_MAP_LO and _HI: 0 from a reset until phase 3 of bring-up has written them (R80, R114). -/
def State.spareMap (s : State) (die first : Nat) : Nat :=
  if s.rst.phase ≤ 3 then 0 else leNat ((List.range 8).map fun k => BitVec.ofNat 8 (s.spareByte die (first + k)))

/-- EPU.TABLE_CRC (R179). -/
def State.tableView (s : State) (die : Nat) : Nat :=
  match SMap.get 0 (s.cdie die).tables (s.reg die Reg.epuTableSel) with
  | 0 => 0
  | c + 1 => 0x100000000 + c

/-- STACK.LANE_TOP and LANE_HIGH of the selected lane (R208). -/
def State.laneTop (s : State) (die : Nat) : Nat :=
  let l := s.reg die Reg.stackLaneSel
  if 192 ≤ l then 0
  else match (s.lane ((die - 2) * 192 + l)).recs with
    | [] => 0x100000000
    | r :: _ => r.1 / 256
def State.laneHigh (s : State) (die : Nat) : Nat :=
  let l := s.reg die Reg.stackLaneSel
  if 192 ≤ l then 0 else (s.lane ((die - 2) * 192 + l)).high / 256

/-- NUM.PASS_RUNG (R240). -/
def State.passRung (s : State) : Nat :=
  match s.num.passes[s.reg 6 Reg.numPassSel]? with
  | none => 0
  | some p => (min p.zeroRun 0xFFFF <<< 16) + (if p.repeated || p.survivedNow then 512 else 0) + p.compiled % 8 * 64
      + p.pending % 8 * 8 + p.current % 8

/-- HBMC.PC_INFO (R327): its reset value until phase 4 of bring-up has applied the remaps; lanes below 32 are the first pseudo-channel's, below 64 the second's (log 26). -/
def State.pcInfo (s : State) (die : Nat) : Nat :=
  let p := s.reg die Reg.hbmcPcSel
  if 96 ≤ p then 0
  else if s.rst.phase ≤ 4 then 1024
  else
    let stack := (die - 2) * 3 + p / 32
    let j := p % 32
    let mine := s.dram.lanes.filter fun l => l.1 = 0 && l.2.1 = stack * 16 + j / 2
    let used := (s.dram.remaps.filter fun r => r.tier = 0 && r.chan = stack + 12 * j && r.inSpare).length
    let dq := (mine.filter fun l => decide (l.2.2 / 32 = j % 2)).length
    ((s.dram.retired.filter fun b => b.tier = 0).length <<< 24) + (if mine.any fun l => l.2.2 = 255 then 0x40000 else 0)
      + (min dq 2 <<< 16) + (1024 - used)

/-- The port that ZF.PORT_SEL names, and ZF.PORT_STATE (R361). -/
def State.selPort (s : State) : Port := s.port (s.reg 6 Reg.zfPortSel)
def State.portState (s : State) : Nat :=
  let p := s.selPort
  (p.partner % 0x8000 <<< 32) + (s.portSpares (s.reg 6 Reg.zfPortSel) % 16 <<< 16) + (if p.boundary then 256 else 0) + (if p.line then 128 else 0) + p.state % 8

/-- CTRL.CORE_MAP (R431): kept over a pin reset; after a power-on reset its reset value until phase 3 of bring-up has substituted cores. -/
def State.coreMap (s : State) (die : Nat) : Nat :=
  match if s.rst.power && s.rst.phase ≤ 3 then 0 else SMap.get 0 s.life.spare.cores die with
  | 0 => 0xF
  | c + 1 => 0x80 + c

/-- C of the latest admitted step (R396). -/
def State.queueEndView (s : State) : Nat := match s.adm.steps.getLast? with | some a => a.commit | none => 0

/-- Is a block of a die idle (R445)? Fret-side blocks: every fret of the die has halted; the others: the owning function is
Stopped; blocks that no function owns have no stated condition (log 26). -/
def State.blockIdle (s : State) (die block : Nat) : Bool :=
  carries die block && !s.held die block && s.rst.phase = 7
    && (if block ≤ 5 then s.frets.all fun p => p.1 / 384 ≠ die || p.2.run = 0
      else match block with
        | 6 => s.fnState 0 = 0 | 7 => s.fnState 0 = 0 | 9 => s.fnState 0 = 0 | 10 => s.fnState 0 = 0 | 11 => s.fnState 0 = 0
        | 8 => s.fnState 1 = 0
        | 12 => s.fnState 2 = 0 | 13 => s.fnState 2 = 0
        | 14 => s.fnState 3 = 0 | 15 => s.fnState 3 = 0
        | _ => Config.unitIdle die block s.time)

/-- RST.BLOCK_IDLE. -/
def State.idleBits (s : State) (die : Nat) : Nat :=
  ((List.range 23).map fun b => if s.blockIdle die b then pow2 b else 0).sum

/-- The owner slot in force (R476): 0 none. -/
def State.ownerSlot (s : State) : Nat :=
  if (s.sec.owners.getD 1 []) ≠ [] then 2 else if (s.sec.owners.getD 0 []) ≠ [] then 1 else 0

/-- A wear counter in FRAM (R469). Counters of time count BACKUP cycles until they are added into FRAM in seconds. -/
def State.framCount (s : State) (k : Nat) : Nat := SMap.get 0 s.life.fram k

/-- What a register holds now, ID and GUARD included. -/
def State.view (s : State) (die n : Nat) : Nat :=
  let block := n / 0x10000
  let r := s.reg die n
  if n % 0x10000 = 0 then
    let epoch := match block with
      | 17 => (s.slow.getD 0 ⟨0, [], []⟩).epoch
      | 22 => (s.slow.getD 1 ⟨0, [], []⟩).epoch
      | 18 => if die = 6 then (s.slow.getD 2 ⟨0, [], []⟩).epoch else 0
      | _ => 0
    (epoch % 16 <<< 32) + (decodedBit block <<< 24) + 0x10000 + die * 256 + block
  else if n % 0x10000 = 8 then (if s.guardMode die block = 0 then r / 2 * 2 else r)
  else if n = Reg.fretSpareMapLo then s.spareMap die 0
  else if n = Reg.fretSpareMapHi then s.spareMap die 8
  else if n = Reg.convDiceCtrl then r % 2 + (if (s.cdie die).dice.isSome then 2 else 0)
  else if n = Reg.epuTableCrc then s.tableView die
  else if n = Reg.stackLaneTop then s.laneTop die
  else if n = Reg.stackLaneHigh then s.laneHigh die
  else if n = Reg.numPassRung then s.passRung
  else if n = Reg.hbmcPcInfo then s.pcInfo die
  else if n = Reg.zfPortState then s.portState
  else if n = Reg.zfFecCorrCount then cap32 s.selPort.fecCorr
  else if n = Reg.zfFecUncorrCount then cap32 s.selPort.fecUncorr
  else if n = Reg.zfReplayCount then cap32 s.selPort.replays
  else if n = Reg.syncObjValue then s.syncObj (s.reg 6 Reg.syncObjSel)
  else if n = Reg.syncWaitPending then s.fab.waits.length
  else if n = Reg.auQueueEnd then s.queueEndView
  else if n = Reg.ctrlCoreMap then s.coreMap die
  else if n = Reg.rstPhaseTime then cap32 (s.rst.times.getD (s.reg die Reg.rstPhaseSel) 0)
  else if n = Reg.rstBlockIdle then s.idleBits die
  else if n = Reg.rstDelay then cap32 s.rst.delay
  else if n = Reg.pwrState then (s.rst.dieTarget.getD die 0 % 8) * 16 + s.rst.dieState.getD die 0 % 8
  else if n = Reg.pwrDie then if s.rst.phase ≤ 1 then 0 else (Config.dieTemp die s.time).toNat * 0x1000000 + (Config.diePower die s.time).toNat
  else if n = Reg.pwrInput then if s.rst.phase ≤ 1 then 0 else (Config.inputPower s.time).toNat * 0x10000 + s.rst.vinMv % 0x10000
  else if n = Reg.secStatus then (r &&& 0xD) + (if s.sec.mismatch then 2 else 0) + (if s.sec.recovery then 16 else 0)
  else if n = Reg.secBoot then if s.rst.phase ≤ 2 then 3 else (s.ownerSlot <<< 24) + (s.sec.counter % 256 <<< 16) + (s.sec.runningSvn % 256 <<< 8) + s.sec.running % 4
  else if n = Reg.lifeStatus then (r &&& 6) + (if s.rst.calValid then 0 else 1)
  else if n = Reg.lifeCalendar then s.calendarNs
  else if n = Reg.lifePowerOnSec then s.framCount 0 + SMap.get 0 s.life.bk 0 / 32768
  else if n = Reg.lifeLogSeq then s.life.seq - 1
  else r

/-! ### Slow windows (R427, R428) -/

/-- The slow window that holds a register: 0 MGMT, 1 LIFE, 2 the backup-domain counters of X0's RST window. -/
def slowOf (die n : Nat) : Option Nat :=
  let block := n / 0x10000
  if n % 0x10000 = 0 then none
  else if block = 17 then some 0
  else if block = 22 then some 1
  else if die = 6 && block = 18 && 0x50 ≤ n % 0x10000 then some 2
  else none

/-- A slow window. -/
def State.slowWin (s : State) (w : Nat) : SlowWin := s.slow.getD w ⟨0, [], []⟩
/-- Change a slow window. -/
def State.updSlow (s : State) (w : Nat) (g : SlowWin → SlowWin) : State := { s with slow := s.slow.modify w g }

/-- Queue a write: at most 8 are in the queue proper, later ones stall the writing core until a place frees. -/
def State.slowQueue (s : State) (w : Nat) (n mask data : Nat) : State :=
  s.updSlow w fun x => { x with queue := x.queue ++ [SlowWrite.mk n (BitVec.ofNat 64 mask) (BitVec.ofNat 64 data) 0] }

/-- The registers of a slow window. -/
def slowRegs (w : Nat) : List RegName :=
  match w with
  | 0 => 0x110008 :: regRowsMgmt.map fun r => 0x110000 + r.off
  | 1 => 0x160008 :: regRowsLife.map fun r => 0x160000 + r.off
  | _ => [Reg.rstPorCount, Reg.rstPinCount, Reg.rstGlitchCount]

/-- The registers of a slow window as copies. -/
def State.slowCopies (s : State) (w : Nat) : SMap W64 :=
  (slowRegs w).foldl (fun m n => SMap.set 0 m (n % 0x10000) (BitVec.ofNat 64 (s.view 6 n))) []

/-- Every copy of a window is refreshed together and EPOCH advances; queued writes have seen one more edge. -/
def State.slowRefresh (s : State) (w : Nat) : State :=
  s.updSlow w fun x =>
    { epoch := (x.epoch + 1) % 16, copies := s.slowCopies w
      queue := x.queue.zipIdx.map fun q => if q.2 < 8 then { q.1 with edges := q.1.edges + 1 } else q.1 }

/-! ### Reads (R420 to R425) -/

/-- The dice test port's result (R67, R76). -/
def State.diceDone (s : State) (die : Nat) : State :=
  match (s.cdie die).dice with
  | none => s
  | some c => (s.setCDie die { s.cdie die with dice := none }).setReg die Reg.convDiceOut (Dice.mix4 c.1 c.2).toNat

/-- A register as an access reads it: slow registers show their copies, and a read of DICE_OUT waits for its result. -/
def State.regValue (s : State) (die n : Nat) : Nat × State :=
  match slowOf die n with
  | some w => ((SMap.get 0 (s.slowWin w).copies (n % 0x10000)).toNat, s)
  | none =>
    let s := if n = Reg.convDiceOut then s.diceDone die else s
    (s.view die n, s)

/-- Read the register space; none is an address error. -/
def State.regRead (s : State) (off width : Nat) (priv : Bool) : Option (Nat × State) :=
  match regAccess off width with
  | none => none
  | some (die, block, o) =>
    let n := block * 0x10000 + o
    if guarded n && !s.guardRead die block priv then some (0, s.denied die block)
    else
      let p := s.regValue die n
      some (if width = 8 then p.1 else if off % 8 = 4 then p.1 / 0x100000000 else p.1 % 0x100000000, p.2)

/-! ### Actions -/

/-- A write of CONV.DICE_CTR: the computation starts, an earlier one is abandoned (R76). -/
def State.diceStart (s : State) (die ctr : Nat) : State :=
  let s := s.setReg die Reg.convDiceCtr ctr
  let key := if s.reg die Reg.convDiceCtrl % 2 = 1 then Dice.k0 else BitVec.ofNat 64 (s.reg die Reg.convDiceKey)
  s.setCDie die { s.cdie die with dice := some (BitVec.ofNat 64 ctr, key) }

/-- One fret of a restart (R432). -/
def State.restartFret (s : State) (i : Nat) (switch : Bool) : State :=
  let f := s.fret i
  let skip := fun (s : State) => (s.bump (i / 384) Reg.ctrlRestartSkipCount 1).flag (i / 384) Reg.ctrlStatus 0
  if f.run ≠ 0 then skip s
  else if switch then s.switchFret i true
  else if 2 ≤ f.active then skip s
  else s.setFret i { f with run := 1 }

/-- The phases that one write to CTRL.RESTART starts on a die: the runs of each voicing_id that no PHASE_START waits for
and no halt left open (R133). -/
def State.restartPhases (s : State) (die : Nat) (idx : List Nat) (switch : Bool) : State :=
  let go := idx.filterMap fun i =>
    let f := s.fret i
    let new := Voicing.of (f.img f.shadow)
    if f.run ≠ 0 then none
    else if switch then
      if f.st f.shadow = 2 && !(s.board.phases.any fun p => p.awaits i new) then some (i, new.vid) else none
    else if f.active < 2 && !(s.board.phases.any fun p => p.runs i) then some (i, f.voicing.vid) else none
  (go.map (·.2)).eraseDups.foldl (fun s v =>
    let mine := (go.filter fun g => g.2 = v).map (·.1)
    s.updBoard fun b => { b with phases := b.phases ++ [DiePhase.mk die v mine (if switch then [] else mine) 0 0 0 s.time 0 false] }) s

/-- A write of CTRL.RESTART that the guard lets through (R133, R431, R432). -/
def State.restartCtrl (s : State) (die v : Nat) : State :=
  if 2 ≤ die || s.held die 0 then s
  else if 383 < bits v 8 0 + bits v 17 9 then s.flag die Reg.ctrlStatus 1
  else
    let s := s.setReg die Reg.ctrlRestart (v &&& 0x7FFFF)
    if bits v 19 19 = 0 then s
    else
      let idx := (List.range (bits v 17 9 + 1)).map fun k => die * 384 + bits v 8 0 + k
      idx.foldl (fun s i => s.restartFret i (bits v 18 18 = 1)) (s.restartPhases die idx (bits v 18 18 = 1))

/-- What a reset leaves of a register: BENCH.SUBST_PENDING is kept, and so are the backup domain's registers (R16). -/
def resetValue (old : Nat) (r : RegRow) : Nat :=
  if r.block = 11 && r.off = 0x10 then old &&& 0x100
  else if r.block = 18 && 0x50 ≤ r.off then old
  else if r.block = 22 && r.off = 0x10 then old
  else r.reset

/-- A block's registers take their reset values; GUARD is apart. -/
def State.resetBlockRegs (s : State) (die block : Nat) : State :=
  (dieRows die block).foldl (fun s r => s.setReg die (block * 0x10000 + r.off) (resetValue (s.reg die (block * 0x10000 + r.off)) r)) s

/-- A fret after a reset of FRET: its SRAM, accumulator file, spill buffer and voicing slots stay, a slot that was being loaded is empty; what
the EPU holds is the EPU's. -/
def Fret.fretReset (f : Fret) : Fret :=
  let slot := fun st => if st = 1 then 0 else st
  { Fret.reset with
    img0 := f.img0, img1 := f.img1, st0 := slot f.st0, st1 := slot f.st1, sram := f.sram, acc := f.acc, spill := f.spill, mute := f.mute
    terms := f.terms, spills := f.spills, bounded := f.bounded, lanes := f.lanes, epuBuf := f.epuBuf, sums := f.sums
    delivered := f.delivered, quantum := f.quantum, bridgeIssued := f.bridgeIssued, bridgeDone := f.bridgeDone, last0 := f.last0
    last1 := f.last1 }
/-- A fret after a reset of BRIDGE, and of the EPU. -/
def Fret.bridgeReset (f : Fret) : Fret := { f with bridgeIssued := 0, bridgeDone := 0 }
def Fret.epuReset (f : Fret) : Fret :=
  { f with lanes := Fret.reset.lanes, epuBuf := none, sums := Fret.reset.sums, delivered := 0, quantum := Fret.reset.quantum }

/-- Change every fret of a die that is not as after reset. -/
def State.eachFret (s : State) (die : Nat) (g : Fret → Fret) : State :=
  s.frets.foldl (fun s p => if p.1 / 384 = die then s.updFret p.1 g else s) s
/-- Change every stack lane that a memory-side die serves. -/
def State.eachLane (s : State) (die : Nat) (g : SLane → SLane) : State :=
  s.slanes.foldl (fun s p => if stackDie p.1 + 2 = die then s.setLane p.1 (g (s.lane p.1)) else s) s

/-- An embedding engine after its reset: what is on its way through it is gone. -/
def Emb.engineReset (e : Emb) (die : Nat) : Emb :=
  { e with
    queue := e.queue.filter fun q => q.die ≠ die, closed := e.closed.filter fun c => c.1 ≠ die, open' := e.open'.filter fun r => r.die ≠ die
    merge := e.merge.filter fun r => r.die ≠ die, overflow := e.overflow.filter fun d => d ≠ die, ended := e.ended.filter fun d => d ≠ die
    window := e.window.filter fun w => w.die ≠ die }

/-- A controller of a tier after its reset (R445): it trains no channel, its corrected errors count from zero. -/
def State.controllerReset (s : State) (tier die : Nat) : State :=
  ({ s with dram := { s.dram with
    training := s.dram.training.filter fun t => !(t.1 = tier && trainDie tier t.2.1 = die)
    deferred := s.dram.deferred.filter fun t => !(t.1 = tier && trainDie tier t.2 = die)
    rowErrs := s.dram.rowErrs.filter fun e =>
      let chan := e.1 / 0x100000 / 64
      !(chan / 512 = tier && chanDie tier (chan % 512) = die) } } : State).showTraining

/-- The state machines of a block after a reset of it (R445; which state is whose: DEDUCED log 26). Of CAPO and AU the model holds no
state but their registers and what the reset keeps. -/
def State.resetBlockState (s : State) (die block : Nat) : State :=
  match block with
  | 0 => (s.setCDie die { s.cdie die with load := none }).eachFret die Fret.fretReset
  | 1 => s.eachFret die fun f => { f with bounded := [] }
  | 2 => ((s.updBoard fun b => { b with contribs := b.contribs.filter fun c => c.die ≠ die }).eachFret die Fret.bridgeReset).serveWindows
  | 3 => s.eachFret die Fret.epuReset
  | 5 => s.setCDie die { s.cdie die with dice := none }
  | 6 => { s with num := { Num.reset with
      nv := s.num.nv, loaded := s.num.loaded, times := s.num.times, cubeWritten := s.num.cubeWritten } }
  | 7 => s.eachLane die fun l => { l with high := 0, staged := 0, asked := false }
  | 8 => { s with emb := s.emb.engineReset (die - 2) }
  | 9 => { s with upd := { s.upd with full := s.upd.full.filter fun d => d ≠ die - 2 } }
  | 10 => s.controllerReset 0 (die - 2)
  | 11 => s.controllerReset 1 (die - 2)
  | 12 => { s with fab := { s.fab with ports := Fab.reset.ports } }
  | 13 => { s with fab := { s.fab with waits := [] } }
  | 14 => { s with vlk := Vilny.reset }
  | _ => s

/-- A write of RST.BLOCK_RESET that the guard lets through (R445). -/
def State.blockResetCtrl (s : State) (die v : Nat) : State :=
  if s.held die 18 then s else
  let s := s.setReg die Reg.rstBlockReset (v % 256)
  let b := v % 256
  if bits v 8 8 = 0 then s
  else if 16 ≤ b || !s.blockIdle die b then (s.bump die Reg.rstBlockRefuseCount 1).flag die Reg.rstStatus 0
  else
    let s := (s.resetBlockRegs die b).resetBlockState die b
    { s with rst := { s.rst with blockReset := s.rst.blockReset ++ [die * 32 + b] } }

/-- Is a wear counter a time, kept in BACKUP cycles until it reaches FRAM (R469)? Key 0 power-on, 1000 frets, 2000 lasers. -/
def isTimeKey (k : Nat) : Bool := k = 0 || (1000 ≤ k && k < 3000)
/-- A wear counter's largest value. -/
def wearMax (k : Nat) : Nat := if k = 0 then 0xFFFFFFFFFFFFFFFF else 0xFFFFFFFF

/-- The backup-domain counters are added into FRAM (R469). -/
def State.flushCounters (s : State) : State :=
  (s.life.bk.foldl (fun (s : State) p =>
    let n := if isTimeKey p.1 then p.2 / 32768 else p.2
    let rest := if isTimeKey p.1 then p.2 % 32768 else 0
    { s with life := { s.life with
        fram := SMap.modify 0 s.life.fram p.1 fun v => min (wearMax p.1) (v + n)
        bk := SMap.set 0 s.life.bk p.1 rest } }) s).framWrite

/-! ### Writes (R14, R420 to R430) -/

/-- All the bits of a 4-byte or 8-byte access. -/
def accessMask (off width : Nat) : Nat := if width = 8 then 0xFFFFFFFFFFFFFFFF else if off % 8 = 4 then 0xFFFFFFFF00000000 else 0xFFFFFFFF

/-- Software bits of a register: writable and cleared by 1. -/
def softBits (block o : Nat) : Nat × Nat :=
  match (regRows block).find? fun r => r.off = o with
  | some r => (r.rw, r.w1c)
  | none => (0, 0)

/-- GUARD: LOCK is set by 1 but in mode 0; DENIED is cleared by 1 (R421). -/
def State.writeGuard (s : State) (die block data : Nat) : State :=
  let n := guardReg block
  let s := if data % 2 = 1 && s.guardMode die block ≠ 0 then s.flag die n 0 else s
  if bits data 1 1 = 1 then s.clearReg die n 2 else s

/-- A write takes effect in the register: `data` is zero outside `mask`. -/
def State.regEffect (s : State) (die n mask data : Nat) : State :=
  let block := n / 0x10000
  let o := n % 0x10000
  let merged := (s.reg die n &&& (0xFFFFFFFFFFFFFFFF ^^^ mask)) ||| data
  if o = 0 then s
  else if o = 8 then s.writeGuard die block data
  else if n = Reg.fretLoadCtrl then s.loadCtrl die merged
  else if n = Reg.convDiceCtr then s.diceStart die merged
  else if n = Reg.ctrlRestart then s.restartCtrl die merged
  else if n = Reg.rstBlockReset then s.blockResetCtrl die merged
  else if n = Reg.lifeCtrl then (if data % 2 = 1 then s.flushCounters else s)
  else
    let b := softBits block o
    let old := s.reg die n
    s.setReg die n (((old &&& (0xFFFFFFFFFFFFFFFF ^^^ (b.1 &&& mask))) ||| (data &&& b.1))
      &&& (0xFFFFFFFFFFFFFFFF ^^^ (b.2 &&& data)))

/-- A write that the guard lets through waits while the block is held; a slow register's is queued, unless nothing in it can be
written. -/
def State.regPut (s : State) (die n mask data : Nat) : State :=
  if s.held die (n / 0x10000) then s
  else match slowOf die n with
  | none => s.regEffect die n mask data
  | some w =>
    let b := softBits (n / 0x10000) (n % 0x10000)
    if n % 0x10000 = 8 || n = Reg.lifeCtrl || (b.1 ||| b.2) ≠ 0 then s.slowQueue w n mask data else s

/-- Write the register space; none is an address error. -/
def State.regWrite (s : State) (off width data : Nat) (priv : Bool) : Option State :=
  match regAccess off width with
  | none => none
  | some (die, block, o) =>
    let n := block * 0x10000 + o
    if guarded n && !s.guardWrite die block priv then some (s.denied die block)
    else
      let mask := accessMask off width
      some (s.regPut die n mask (if off % 8 = 4 then data % 0x100000000 <<< 32 else data &&& mask))

/-! ### The commands -/

/-- REGISTER_WRITE (R419 to R429): an address error writes nothing. -/
def execRegisterWrite (addr width : Nat) (data : BitVec 64) (priv : Bool) (s : State) : Host.Outcome State Fault Refusal :=
  .next (if addr < 0x7F000000000 then s else (s.regWrite (addr - 0x7F000000000) width data.toNat priv).getD s)

/-- DICE_TEST_START (R76). -/
def execDiceTestStart (die : Fin 2) (ctr : BitVec 64) (s : State) : Host.Outcome State Fault Refusal :=
  .next (s.diceStart die.val ctr.toNat)

/-- DICE_TEST_DONE (R76). -/
def execDiceTestDone (die : Fin 2) (s : State) : Host.Outcome State Fault Refusal := .next (s.diceDone die.val)

/-- RESTART (R425, R432). -/
def execRestart (die : Fin 2) (value : BitVec 32) (priv : Bool) (s : State) : Host.Outcome State Fault Refusal :=
  .next (if s.guardWrite die.val 16 priv then s.restartCtrl die.val value.toNat else s.denied die.val 16)

/-- BLOCK_RESET (R425, R445). -/
def execBlockReset (die : Fin 8) (value : BitVec 32) (priv : Bool) (s : State) : Host.Outcome State Fault Refusal :=
  .next (if s.guardWrite die.val 18 priv then s.blockResetCtrl die.val value.toNat else s.denied die.val 18)

/-- BLOCK_RESET_DONE (R445): after 64 cycles every block that is in reset on the die is released. -/
def execBlockResetDone (die : Fin 8) (s : State) : Host.Outcome State Fault Refusal :=
  .next (if !(s.rst.blockReset.any fun k => k / 32 = die.val) then s
    else
      let s := { s with rst := { s.rst with blockReset := s.rst.blockReset.filter fun k => k / 32 ≠ die.val } }
      (s.flag die.val Reg.rstStatus 1).resumeMemory)

/-- FLUSH (R425, R481). -/
def execFlush (priv : Bool) (s : State) : Host.Outcome State Fault Refusal :=
  .next (if s.guardWrite 6 22 priv then s.flushCounters else s.denied 6 22)

/-- COUNTER_FLUSH (R469). -/
def execCounterFlush (s : State) : Host.Outcome State Fault Refusal := .next s.flushCounters

/-- Wear counters of time: one more BACKUP cycle (R469, log 26). -/
def State.wearCycle (s : State) : State :=
  if !s.rst.vin || s.rst.off then s
  else
    let s := s.wear 0 1
    let s := (List.range 800).foldl (fun (s : State) k =>
      let die := k / 400
      let row := k % 25
      let here := s.logicalRow die (k % 400 / 25) row
      let run := s.rst.dieState.getD die 0 = 0 && 2 ≤ s.rst.phase && !s.domainHeld die 0 && !s.dieOut die
      if run && here.isSome then s.wear (1000 + k) 1 else s) s
    s.fab.ports.zipIdx.foldl (fun s p =>
      if p.1.state = 0 || p.1.state = 5 then s
      else (List.range 24).foldl (fun s l => s.wear (2000 + p.2 * 24 + l) 1) s) s

/-- SLOW_CLOCK_EDGE (R427, R469, R472): copies refresh; a BACKUP cycle also counts in the calendar and in the times. -/
def execSlowClockEdge (mgmt : Bool) (s : State) : Host.Outcome State Fault Refusal :=
  .next (if mgmt then s.slowRefresh 0
    else
      let s := (s.slowRefresh 1).slowRefresh 2
      ({ s with rst := { s.rst with calendar := s.rst.calendar + 1 } } : State).wearCycle)

/-- SLOW_WRITE_APPLY (R428): the oldest queued write, once it has seen two edges. -/
def execSlowWriteApply (window : Fin 3) (s : State) : Host.Outcome State Fault Refusal :=
  .next (match (s.slowWin window.val).queue with
    | [] => s
    | q :: rest =>
      if q.edges < 2 then s
      else
        let s := s.updSlow window.val fun x => { x with queue := rest }
        if q.reg = Reg.lifeCalendar then
          { s with rst := { s.rst with calendar := q.data.toNat, calValid := true } }
        else s.regEffect 6 q.reg q.mask.toNat q.data.toNat)

end Sys2Proof.Machine
end

