-- ==== Sys2Proof/Machine/OdValue.lean ====
section
/-! DEFINITION. What the entries of the object dictionary read as (R398, R401, R407, R417, R442, R469 to R473, R478, R480 and
the entry tables of every chapter). -/

namespace Sys2Proof.Machine

/-- Identity entries (R473, R474, R490). -/
def State.odIdentity (s : State) (index sub : Nat) : Option Bytes :=
  if index = 0x1000 then
    match sub with
    | 1 => some Config.serial
    | 3 => some Config.macAddress
    | 4 => some Config.certificate
    | 5 => some Config.publicKey
    | 6 => some (u8 (if s.sec.mismatch then 1 else 0))
    | 7 => some (u8 (s.rst.slotId % 64))
    | _ => none
  else if index ≤ 0x1008 then
    let d := index - 0x1001
    match sub with
    | 1 => some (Config.lot d)
    | 2 => some [Config.wafer d]
    | 3 => some [Config.dieX d]
    | 4 => some [Config.dieY d]
    | _ => none
  else if index = 0x1010 then (if sub = 0 || s.rst.phase ≤ 4 then none else some (Config.stackSerial (sub - 1)))
  else none

/-- An owner slot's hash, zero when blank. -/
def State.ownerHash (s : State) (slot : Nat) : Bytes := padTo 48 (s.sec.owners.getD slot [])

/-- Firmware, keys and attestation (R475 to R480). -/
def State.odSecurity (s : State) (index sub : Nat) : Option Bytes :=
  if index = 0x1030 then
    match sub with
    | 2 => some (u8 s.sec.running)
    | 3 => some (u8 s.sec.runningSvn)
    | 4 => some (s.sec.images.flatMap fun i => if i.present then padTo 48 i.hash else zeroBytes 48)
    | 5 => some (u8 s.sec.counter)
    | 6 => some (s.ownerHash 0 ++ s.ownerHash 1)
    | _ => none
  else if index = 0x1050 then (if sub = 2 then some (s.sec.report.getD []) else none)
  else none

/-- FRAM counters from a key up, as U32 values. -/
def State.framList (s : State) (key n : Nat) : Bytes := (List.range n).flatMap fun k => u32 (s.framCount (key + k))

/-- Sequence number of a life-log entry (R470). -/
def lifeSeq (e : Bytes) : Nat := leAt e 24 4

/-- Spares provided and in use, per kind of R460 (log 27). -/
def State.spareInventory (s : State) : Bytes :=
  let r := s.life.spare
  let rows := fun (t : Nat) => (s.dram.remaps.filter fun m => m.tier = t && m.kind ≠ .failed).length
  let lanes := fun (key : Nat) => (r.ports.filter fun e => e.1 = key).length
  let kinds : List (Nat × Nat) :=
    [(32, r.frets.length), (6, r.cores.length), (0, 0), ((Config.rowSpares 0).toNat, rows 0), (960, r.lanes.length),
     ((Config.rowSpares 1).toNat, rows 1), (1, s.dram.swapped.length), (16, r.banks.length),
     (48, ((List.range 12).map lanes).sum), (2, (if r.vilny.1 = 15 then 0 else 1) + if r.vilny.2 = 15 then 0 else 1),
     (16, (s.life.shed.map fun n => min n 2).sum), (1, if s.sec.fallback then 1 else 0)]
  kinds.flatMap fun k => u16 (min k.1 0xFFFF) ++ u16 (min k.2 0xFFFF)

/-- Life and reset counters (R469 to R472). -/
def State.odLife (s : State) (index sub : Nat) : Option Bytes :=
  match index, sub with
  | 0x1100, 1 => some (u32 (s.reg 6 Reg.rstPorCount))
  | 0x1100, 2 => some (u32 (s.reg 6 Reg.rstPinCount))
  | 0x1100, 3 => some (u32 (s.reg 6 Reg.rstGlitchCount))
  | 0x1100, 4 => some s.rst.records.flatten
  | 0x1101, 1 => some (u64 s.calendarNs)
  | 0x1101, 2 => some (u8 (if s.rst.calValid then 1 else 0))
  | 0x1110, 1 => some (u64 (s.framCount 0))
  | 0x1110, 2 => some (s.framList 1 8)
  | 0x1110, 3 => some (s.framList 1000 800)
  | 0x1110, 4 => some (s.framList 2000 144)
  | 0x1110, 5 => some (s.framList 3000 256)
  | 0x1110, 6 => some (u32 (s.framCount 9))
  | 0x1111, 2 =>
    let from' := s.odNat (od 0x1111 1)
    some (((s.life.log.filter fun e => decide (from' ≤ lifeSeq e)).reverse.take 256).flatten)
  | 0x1120, 1 => some s.spareInventory
  | _, _ => none

/-- Power and service (R442, R454, R468). -/
def State.odPower (s : State) (index sub : Nat) : Option Bytes :=
  match index, sub with
  | 0x1200, 2 => some (u8 s.powerState)
  | 0x1200, 4 => some (u32 s.rst.vinMv)
  | 0x1200, 5 => some (u32 (Config.inputPower s.time).toNat)
  | 0x1200, 0x10 => some (s.rst.times.flatMap c32)
  | 0x1202, 0 => some (u8 (if s.rst.keep then 1 else 0))
  | 0x1210, 1 => some (u8 s.life.level)
  | 0x1210, 2 => some (s.life.units.flatMap fun u => u8 u.1 ++ u8 u.2.1 ++ u16 u.2.2)
  | _, _ => none

/-- Bytes of a tier that retired bands leave (R317). -/
def State.usable (s : State) (tier size band : Nat) : Nat :=
  size - (s.dram.retired.filter fun b => b.tier = tier && b.out).length * band

/-- A pass record's 64-byte entry (R232). -/
def PassRec.entry (p : PassRec) : Bytes :=
  let f := fun (x : F32) => u32 (if p.backward then x.toNat else 0)
  u16 p.layer ++ u8 (if p.backward then 1 else 0) ++ u8 p.compiled ++ u8 p.current ++ u8 p.pending ++ u8 p.repeatsStep ++ u8 0
    ++ c32 p.repeats ++ c32 p.survived ++ c32 p.zeroRun ++ f p.normW ++ f p.normG ++ f p.normU ++ f p.ratio
    ++ u32 p.agreeD.toNat ++ u32 p.agreeQ.toNat ++ c32 p.agreeFails ++ u64 p.step ++ zeroBytes 8

/-- A phase-time record (R233, log 27). -/
def PhaseTime.entry (p : PhaseTime) : Bytes :=
  u16 p.die ++ u16 p.vid ++ c32 p.runs ++ c32 p.least ++ c32 p.most ++ c32 p.latest ++ u64 p.sum ++ c32 p.bound

/-- Training, embedding, memory, fabric, admission, statistics (R254, R300, R326, R360, R394, R497). -/
def State.odJob (s : State) (index sub : Nat) : Option Bytes :=
  match index, sub with
  | 0x2100, 1 => if s.num.cubeWritten then none else some (u8 (s.reg 6 Reg.numCube))
  | 0x2200, 0x20 => some (s.tables.flatMap fun t => (List.range 3).flatMap fun k => c32 (SMap.get 0 s.emb.lastCounts (t.table * 4 + k)))
  | 0x2300, 0x20 =>
    some (((List.range s.params.length).flatMap fun k => c32 (SMap.get 0 s.upd.rejects k))
      ++ (List.range s.tables.length).flatMap fun k => c32 (SMap.get 0 s.upd.rejects (4096 + k)))
  | 0x2300, 0x30 => some (u64 s.committedWord)
  | 0x2300, 0x31 => some (c32 s.upd.rollbacks)
  | 0x2300, 0x32 => some (c32 s.upd.replays)
  | 0x2300, 0x33 => some (c32 s.upd.recomputes)
  | 0x2400, 2 => some (u64 (s.usable 0 0x6C00000000 0x240000000))
  | 0x2400, 3 => some (s.dram.retired.flatMap fun b => u8 b.tier ++ u8 b.band ++ u16 0 ++ u32 0 ++ u64 b.time)
  | 0x2400, 4 => some (u64 (s.usable 1 0x10000000000 0x800000000))
  | 0x2400, 0x0C => some (u64 s.nextWindow)
  | 0x2400, 0x0D => some (u8 s.rst.keepOutcome)
  | 0x2500, 0x20 => some (s.fab.ports.flatMap fun p => match p.delay with
      | some d => if p.state = 3 then u32 d else u32 0xFFFFFFFF
      | none => u32 0xFFFFFFFF)
  | 0x2600, 0x30 => some (s.adm.counts.flatMap c32)
  | 0x2700, 1 => some s.board.records.flatten
  | 0x2700, 0x10 => some (s.num.passes.flatMap PassRec.entry)
  | 0x2700, 0x11 => some (s.num.passes.flatMap fun p => (List.range 64).flatMap fun k => u32 (p.jobHist.getD k 0).toNat)
  | 0x2700, 0x12 => some (s.num.times.flatMap PhaseTime.entry)
  | _, _ => none

/-- The log's records from the read position up, or from the oldest, at most 256 (R417). -/
def State.logRead (s : State) : Bytes :=
  let oldest := s.dict.logNext - s.dict.log.length
  let from' := max oldest (s.odNat (od 0x3000 4))
  ((s.dict.log.reverse.drop (from' - oldest)).take 256).flatten

/-- Functions, hash, event log (R401, R407, R417). -/
def State.odModule (s : State) (index sub : Nat) : Option Bytes :=
  match index, sub with
  | 0x2001, 1 => some s.dict.hash
  | 0x2001, 2 => some (u64 s.dict.hashTime)
  | 0x3000, 1 => some (u32 (if s.dict.log.isEmpty then 0xFFFFFFFF else s.dict.logNext - 1))
  | 0x3000, 2 => some (u32 (if s.dict.log.isEmpty then 0xFFFFFFFF else s.dict.logNext - s.dict.log.length))
  | 0x3000, 3 => some (u32 s.dict.overwritten)
  | 0x3000, 5 => some s.logRead
  | 0x2000, _ =>
    if 1 ≤ sub && sub ≤ 5 then some (u8 (s.fnState (sub - 1)))
    else if 0x11 ≤ sub && sub ≤ 0x15 then some (u32 (s.dict.refusal.getD (sub - 0x11) 0))
    else none
  | _, _ => none

/-- An entry's value as a GET finds it. -/
def State.odRead (s : State) (k : Nat) : Bytes :=
  let i := k / 256
  let b := k % 256
  let v := if i < 0x1030 then s.odIdentity i b
    else if i < 0x1100 then s.odSecurity i b
    else if i < 0x1200 then s.odLife i b
    else if i < 0x2000 then s.odPower i b
    else if 0x2100 ≤ i && i < 0x2900 then s.odJob i b
    else s.odModule i b
  v.getD (s.odWritten k)

/-- The index holds several entries, and its subindex 0 gives the highest (R398). -/
def isCountEntry (k : Nat) : Bool :=
  k % 256 = 0 && (odRow k).isNone && (odHighest (k / 256)).isSome

/-! ### The configuration hash (R407) -/

/-- One entry's contribution. -/
def State.hashItem (s : State) (r : OdRow) : Bytes :=
  let v := s.odWritten r.key
  u16 (r.key / 256) ++ u8 (r.key % 256) ++ u8 r.type ++ u32 v.length ++ v

/-- SHA-384 over every RWS entry. -/
def State.configHash (s : State) : Bytes :=
  Sha384.hash ((odRows.filter fun r => r.acc = .rws).flatMap s.hashItem)

/-- The hash is computed at every start of a function. -/
def State.rehash (s : State) : State := { s with dict := { s.dict with hash := s.configHash, hashTime := s.time } }

end Sys2Proof.Machine
end

