-- ==== Sys2Proof/Machine/Security.lean ====
section
/-! DEFINITION. Firmware images, keys, OTP, attestation, the calendar and the master's time (R356, R437, R469, R472, R475 to
R481). -/

namespace Sys2Proof.Machine

/-- Status codes of R411. -/
def sOk : Nat := 0
def sNoEntry : Nat := 1
def sAccess : Nat := 2
def sPrivilege : Nat := 3
def sType : Nat := 4
def sRange : Nat := 5
def sBusy : Nat := 6
def sSession : Nat := 7
def sAuth : Nat := 8
def sVersion : Nat := 9

/-! ### Firmware images (R475 to R478) -/

/-- Fields of an image's header. -/
def imageMagic (b : Bytes) : Nat := leAt b 0 2
def imageSvn (b : Bytes) : Nat := leAt b 4 1

def imageBodyLength (b : Bytes) : Nat := leAt b 5 4

/-- Bytes of a header's fields, and of a signature with the key that travels with it (DESIGN CHOICE, log 27). -/
def imageFields : Nat := 9
def signatureBytes : Nat := 193

/-- SHA-384 of the vendor public key in OTP (R475). -/
def vendorKeyHash : Bytes := Sha384.hash Config.vendorKey

/-- Does the signature at `o` verify with a key of a hash, over what precedes it and the body (R475)? -/
def signedAt (image body : Bytes) (o : Nat) (hash : Bytes) : Bool :=
  let key := byteSlice image o 97
  Sha384.hash key = hash && P384.verify key (byteSlice image (o + 97) 96) (Sha384.hash (image.take o ++ body))

/-- The check of R476: the header, the vendor's signature, and that of the owner slot in force; the body ends the image. -/
def State.imageAccepted (s : State) (image : Bytes) : Bool :=
  let n := imageBodyLength image
  let body := image.drop (image.length - n)
  let first := imageFields + signatureBytes
  let one := decide (image.length = first + n)
  let two := decide (image.length = first + signatureBytes + n)
  imageFields ≤ image.length && image.length ≤ 0x1000000 && imageMagic image = 0x4657 && s.sec.counter ≤ imageSvn image
    && (one || two) && signedAt image body imageFields vendorKeyHash
    && (s.ownerSlot = 0 || (two && signedAt image body first (s.sec.owners.getD (s.ownerSlot - 1) [])))

/-- The image that is not running; in recovery, the one that the next boot tries first (log 27). -/
def State.otherImage (s : State) : Nat :=
  if s.sec.running = 0 then 1 else if s.sec.running = 1 then 0 else s.odNat (od 0x1030 1)

/-- A staged image is whole: checked, then written to the image that is not running. -/
def State.uploadImage (s : State) (image : Bytes) : Nat × State :=
  if !s.imageAccepted image then (sRange, s)
  else
    let i := s.otherImage
    let s := { s with sec := { s.sec with images := s.sec.images.set i ⟨true, imageSvn image, Sha384.hash image⟩ } }
    (sOk, (s.nvPulse (0x10300 + i) image.length).lifeLog 8 0xFF 0 (imageSvn image))

/-- IMAGE_UPLOAD (R478). -/
def execImageUpload (image : Bytes) (s : State) : Host.Outcome State Fault Refusal := .next (s.uploadImage image).2

/-! ### OTP (R475, R478, R481) -/

/-- The secure core arms itself to program a word (log 27). -/
def State.startOtp (s : State) (w : OtpWord) : State :=
  ({ s with sec := { s.sec with otp := some w } } : State).flag 6 Reg.secOtpCtrl 0

/-- The counter advances to the running image's SVN; a lower value is refused, and so is one while a word is being programmed. -/
def State.advanceCounter (s : State) (v : Nat) : Nat × State :=
  if v < s.sec.counter then (sRange, s)
  else if s.sec.otp.isSome then (sBusy, s)
  else if s.sec.runningSvn ≤ s.sec.counter then (sOk, s)
  else (sOk, s.startOtp .fuse)

/-- ANTI_ROLLBACK_ADVANCE (R478). -/
def execAntiRollbackAdvance (value : BitVec 8) (s : State) : Host.Outcome State Fault Refusal :=
  .next (s.advanceCounter value.toNat).2

/-- An owner key burns the first blank slot; with no blank slot, or no key of 97 bytes, it is out of range (log 27). -/
def State.enrolOwner (s : State) (key : Bytes) : Nat × State :=
  if !(s.sec.owners.contains []) || key.length ≠ 97 then (sRange, s)
  else if s.sec.otp.isSome then (sBusy, s)
  else (sOk, s.startOtp (.owner (Sha384.hash key)))

/-- OWNER_KEY_ENROLMENT (R478). -/
def execOwnerKeyEnrolment (key : Bytes) (s : State) : Host.Outcome State Fault Refusal := .next (s.enrolOwner key).2

/-- What a program burns: an owner's hash into the first blank slot, or the fuses up to the running image's SVN (R475, R478). -/
def Sec.burn (x : Sec) (w : OtpWord) : Sec :=
  match w with
  | .owner h => { x with otp := none, owners := (match x.owners.findIdx? fun o => o = [] with | some i => x.owners.set i h | none => x.owners) }
  | .fuse => { x with otp := none, counter := max x.counter x.runningSvn }

/-- OTP_PROGRAM_DONE (R470, R481): only with ARM set is the word programmed; then ARM is cleared, OTP_WRITE set, and the program enters
the life log. -/
def execOtpProgramDone (s : State) : Host.Outcome State Fault Refusal :=
  .next (match s.sec.otp with
    | none => s
    | some w =>
      if s.reg 6 Reg.secOtpCtrl % 2 = 0 then s
      else
        let s := { s with sec := s.sec.burn w }
        ((s.clearReg 6 Reg.secOtpCtrl 1).flag 6 Reg.secStatus 3).lifeLog 9 0xFF 0 0)

/-! ### Enrolled keys (R479) -/

/-- Entries of OD 0x1040.01. -/
def keyEntries (b : Bytes) : List Bytes := chunks 98 b
/-- An entry's level. -/
def keyLevel (e : Bytes) : Nat := leAt e 97 1

/-- Does a write add or change an entry whose level is not below the session's? -/
def raisesKeys (level : Nat) (old new : List Bytes) : Bool :=
  new.zipIdx.any fun e => match old[e.2]? with
    | some o => o ≠ e.1 && (decide (level ≤ keyLevel e.1) || decide (level ≤ keyLevel o))
    | none => decide (level ≤ keyLevel e.1)

/-- Is the value a list of keys? -/
def keysOk (b : Bytes) : Bool :=
  b.length % 98 = 0 && b.length ≤ 16 * 98 && (keyEntries b).all fun e => keyLevel e = 1 || keyLevel e = 2

/-- A write of the enrolled keys by a session of a level. -/
def State.setKeys (s : State) (level : Nat) (b : Bytes) : Nat × State :=
  let k := od 0x1040 1
  if raisesKeys level (keyEntries (s.odBytes k)) (keyEntries b) then (sPrivilege, s)
  else if !keysOk b then (sRange, s)
  else
    let s := s.setOd k b
    (sOk, ({ s with dict := { s.dict with nv := SMap.set none s.dict.nv k (some b) } } : State).nvPulse k b.length)

/-- ENROLLED_KEYS (R13, R479): a write needs Maintainer. -/
def execEnrolledKeys (level : Fin 4) (entries : Bytes) (s : State) : Host.Outcome State Fault Refusal :=
  .next (if level.val < 2 then s else (s.setKeys level.val entries).2)

/-! ### Attestation (R480) -/

/-- A nonce replaces the report. -/
def State.setNonce (s : State) (nonce : Bytes) : Nat × State :=
  if nonce.length ≠ 48 then (sRange, s) else (sOk, { s with sec := { s.sec with nonce := some nonce, report := none } })

/-- ATTESTATION_NONCE (R480). -/
def execAttestationNonce (nonce : Bytes) (s : State) : Host.Outcome State Fault Refusal := .next (s.setNonce nonce).2

/-- Bytes 0 to 383 of a report. -/
def State.reportBody (s : State) (nonce : Bytes) : Bytes :=
  let flags := (if s.ownerSlot ≠ 0 then 1 else 0) + (if s.sec.mismatch then 2 else 0) + (if s.sec.fallback then 4 else 0)
    + (if s.odNat (od 0x2580 1) = 1 then 8 else 0) + (if s.rst.foundLost then 16 else 0)
  let image := match s.sec.images[s.sec.running]? with | some i => padTo 48 i.hash | none => zeroBytes 48
  let serials := (List.range 12).flatMap fun k => padTo 32 (Config.stackSerial k)
  u16 1 ++ u16 flags ++ u8 s.sec.runningSvn ++ u8 s.sec.counter ++ u8 s.life.level ++ u8 0 ++ nonce ++ image
    ++ padTo 48 Config.romHash ++ s.dict.hash ++ Sha384.hash Config.certificate
    ++ (if s.ownerSlot = 0 then zeroBytes 48 else s.ownerHash (s.ownerSlot - 1)) ++ Sha384.hash serials
    ++ u64 s.time ++ u64 s.calendarNs ++ u64 s.committedWord ++ zeroBytes 16

/-- ATTESTATION_REPORT_READY (R462, R480): signed while management core 1 serves. -/
def execAttestationReportReady (s : State) : Host.Outcome State Fault Refusal :=
  .next (match s.sec.nonce with
    | none => s
    | some n =>
      if s.life.mgmtFailed.contains 1 || s.sec.report.isSome then s
      else
        let body := s.reportBody n
        let s := { s with sec := { s.sec with report := some (body ++ Config.sign (Sha384.hash body)) } }
        s.bump 6 Reg.secAttestCount 1)

/-! ### The calendar and the master's time (R356, R472) -/

/-- A write of the calendar: the nearest cycle, under R428, and a life-log entry. -/
def State.setCalendar (s : State) (ns : Nat) : State :=
  (s.slowQueue 1 Reg.lifeCalendar 0xFFFFFFFFFFFFFFFF ((ns * 65536 + 1000000000) / 2000000000)).lifeLog 11 0xFF 0 0

/-- CALENDAR_SET (R472). -/
def execCalendarSet (ns : BitVec 64) (s : State) : Host.Outcome State Fault Refusal := .next (s.setCalendar ns.toNat)

/-- May the master's time be set: on the master, while the fabric function is Stopped? -/
def State.timeSettable (s : State) : Bool := s.node = s.odNat (od 0x2500 0x10) && s.fnState 2 = 0

/-- MASTER_TIME_SET (R356). -/
def execMasterTimeSet (ns : BitVec 64) (s : State) : Host.Outcome State Fault Refusal :=
  .next (if s.timeSettable then { s with time := ns.toNat } else s)

end Sys2Proof.Machine
end

