-- ==== Sys2Proof/Machine/Start.lean ====
section
/-! DEFINITION. Starting and stopping the functions (R117, R180, R181, R211, R212, R236, R237, R242, R276, R277, R299, R300, R343,
R358, R373, R376, R394, R401 to R405). -/

namespace Sys2Proof.Machine

/-! ### Regions (R180, R300, R317, R394) -/

/-- A configured region: the entry that names it, its base and its size. -/
structure Region where
  key : Nat
  base : Nat
  size : Nat
  bench : Bool
  deriving DecidableEq, Repr

/-- The Rest region (R453): 512 MiB of HBM. -/
def State.restRegion (s : State) : Region := ⟨od 0x1200 3, s.odNat (od 0x1200 3), 0x20000000, false⟩

/-- The regions that the entries of the job configure; the Rest region is one more (R180, R300, R453). -/
def State.regions (s : State) : List Region :=
  let n := fun k => s.odNat k
  let halves := s.params.map fun p => Region.mk (od 0x2300 1) p.base (2 * p.halfBytes) p.bench
  [Region.mk (od 0x2100 0x12) (n (od 0x2100 0x12)) 0x1000000 false,
   Region.mk (od 0x2200 0x10) (n (od 0x2200 0x10)) (n (od 0x2200 0x11)) false,
   Region.mk (od 0x2200 0x12) (n (od 0x2200 0x12)) (n (od 0x2200 0x13)) false,
   Region.mk (od 0x2200 0x14) (n (od 0x2200 0x14)) (n (od 0x2200 0x15)) false,
   Region.mk (od 0x2200 0x16) (n (od 0x2200 0x16)) (n (od 0x2200 0x17)) true] ++ halves ++
  [Region.mk (od 0x2300 0x10) (n (od 0x2300 0x10)) (4 * n (od 0x2300 0x11)) false,
   Region.mk (od 0x2300 0x12) (n (od 0x2300 0x12)) 0x9000000 false,
   Region.mk (od 0x2300 0x13) (n (od 0x2300 0x13)) (n (od 0x2300 0x17)) false,
   Region.mk (od 0x2300 0x14) (n (od 0x2300 0x14)) (n (od 0x2300 0x15)) false,
   Region.mk (od 0x2400 0x11) (n (od 0x2400 0x11)) (n (od 0x2400 0x10)) false,
   Region.mk (od 0x2400 0x12) (n (od 0x2400 0x12)) (n (od 0x2400 0x13)) true,
   Region.mk (od 0x2600 0x11) (n (od 0x2600 0x11)) (n (od 0x2600 0x12)) false]

/-- Do two byte ranges share a byte? -/
def rangesMeet (a n b m : Nat) : Bool := 0 < n && 0 < m && decide (a < b + m) && decide (b < a + n)

/-- Does a region lie inside its tier, clear of the retired bands? -/
def State.regionOk (s : State) (r : Region) : Bool :=
  let first := if r.bench then 0x10000000000 else 0
  let last := if r.bench then 0x20000000000 else 0x6C00000000
  let band := if r.bench then 0x800000000 else 0x240000000
  r.size = 0 || (first ≤ r.base && decide (r.base + r.size ≤ last) && !(s.dram.retired.any fun b =>
    b.out && b.tier = (if r.bench then 1 else 0) && rangesMeet r.base r.size (first + b.band * band) band))

/-- Pairs of regions that overlap: the later entry, and the earlier. -/
def overlaps : List Region → List (Nat × Nat)
  | [] => []
  | r :: rest =>
    ((rest.filter fun x => rangesMeet r.base r.size x.base x.size).map fun x => (x.key, r.key)) ++ overlaps rest

/-! ### Entries wrong on their own (R242, R272, R276, R278, R373, R376) -/

/-- Are the listed bytes of an entry zero? -/
def zerosAt (b : Bytes) (o n : Nat) : Bool := leAt b o n = 0

/-- May an allowed class be delivered in a format (R242)? -/
def deliverOk (deliver classes : Nat) : Bool :=
  match deliver with
  | 3 => true
  | 5 => bits classes 0 0 = 0
  | 7 => bits classes 1 0 = 0
  | 8 => bits classes 2 0 = 0
  | _ => false

/-- An entry of the table map in its own limits (R241, R242). -/
def tableEntryOk (b : Bytes) : Bool :=
  let t := Table.of b
  t.table ≤ 1023 && leAt b 2 2 ≤ 1 && t.dim % 32 = 0 && 32 ≤ t.dim && t.dim ≤ 512 && (t.exchange = 1 || t.exchange = 4)
    && deliverOk t.deliver t.classes && t.optSet ≤ 15 && zerosAt b 19 13

/-- No value twice. -/
def distinct : List Nat → Bool
  | [] => true
  | x :: l => !l.contains x && distinct l

/-- The table map (R242). -/
def tableMapOk (b : Bytes) : Bool :=
  b.length % 32 = 0 && (chunks 32 b).all tableEntryOk && distinct ((chunks 32 b).map fun e => leAt e 0 2)

/-- An entry of the parameter map in its own limits (R272). -/
def paramEntryOk (b : Bytes) : Bool :=
  let p := Param.of b
  p.ruleSet ≤ 15 && 7 ≤ p.wfmt && p.wfmt ≤ 9 && leAt b 5 1 ≤ 3 && p.die ≤ 3 && zerosAt b 7 1 && 1 ≤ p.rows && p.rows ≤ 0x1000000
    && 1 ≤ p.cols && p.cols ≤ 0x1000000 && p.base % 4096 = 0 && 1 ≤ p.every && p.every ≤ 4096 && p.phase < p.every
    && zerosAt b 44 20

/-- An FP32 field that is finite and at least +0. -/
def atLeastZero (x : F32) : Bool := x.toNat < 0x7F800000
/-- ... and below 1. -/
def belowOne (x : F32) : Bool := x.toNat < 0x3F800000

/-- Fields of a rule set that its rule uses, in the order lr, wd, b1, b2, eps, l1, l2, alpha, beta (R276, R280, R281). -/
def ruleUses (rule : Nat) : List Bool :=
  match rule with
  | 0 => [true, true, false, false, false, false, false, false, false]
  | 1 => [true, true, true, false, false, false, false, false, false]
  | 2 => [true, true, false, false, true, false, false, false, false]
  | 3 => [true, true, true, true, true, false, false, false, false]
  | 4 => [true, true, true, true, false, false, false, false, false]
  | 5 => [false, false, false, false, false, true, true, true, true]
  | _ => List.replicate 9 false

/-- A rule set (R276). -/
def ruleEntryOk (b : Bytes) : Bool :=
  let rule := leAt b 0 1
  let fs : List F32 := (List.range 9).map fun k => f32At b (4 + 4 * k)
  let f := fun k => fs.getD k 0#32
  (rule ≤ 5 || rule = 0xFF) && zerosAt b 1 3 && zerosAt b 40 24
    && ((fs.zip (ruleUses rule)).all fun x => if x.2 then atLeastZero x.1 else decide (x.1 = 0#32))
    && (if rule = 3 || rule = 4 then belowOne (f 2) && belowOne (f 3) else true)
    && (if rule = 5 then decide (f 7 ≠ 0#32) else true)

/-- Strictly ascending. -/
def ascending : List Nat → Bool
  | a :: b :: l => decide (a < b) && ascending (b :: l)
  | _ => true

/-- The learning-rate schedule (R278): its steps ascend, its zero fields are zero. -/
def scheduleOk (b : Bytes) : Bool :=
  b.length % 16 = 0 && ascending ((chunks 16 b).map fun p => leAt p 0 8) && (chunks 16 b).all fun p => zerosAt p 12 4

/-- The frame layout on its own (R373). -/
def layoutOk (b : Bytes) : Bool :=
  b.length % 2 = 0 && leAt b 0 2 % 8 = 0 && ((chunks 2 (b.drop 2)).filter fun x => leNat x ≠ 0).length ≤ 10

/-- The step programs (R376): whole, with zero fields zero; at most `k`. -/
def programsOk : Nat → Bytes → Bool
  | 0, b => b.isEmpty
  | k + 1, b =>
    if b.isEmpty then true
    else
      let n := 32 + 8 * leAt b 16 2
      decide (32 ≤ b.length) && decide (n ≤ b.length) && zerosAt b 18 14
        && ((chunks 8 ((b.take n).drop 32)).all fun p => leAt p 3 1 ≤ 1 && (leAt p 2 1 < 10 || leAt p 2 1 = 0xFF))
        && programsOk k (b.drop n)

/-- The hall extent, and the zone, in their own limits (R329, R330). -/
def hallOk (b : Bytes) : Bool :=
  b.length = 3 && (List.range 3).all fun d => 1 ≤ leAt b d 1 && leAt b d 1 ≤ (if d = 2 then 24 else 32)
def zoneOk (b : Bytes) : Bool :=
  b.length = 6 && (List.range 3).all fun d =>
    let top := if d = 2 then 24 else 32
    decide (leAt b d 1 < top) && 1 ≤ leAt b (3 + d) 1 && leAt b (3 + d) 1 ≤ top

/-- Entries that are wrong on their own. -/
def State.wrongEntries (s : State) : List Nat :=
  let b := fun k => s.odBytes k
  let maps : List (Nat × Bool) :=
    [(od 0x2200 1, tableMapOk (b (od 0x2200 1))), (od 0x2200 4, (b (od 0x2200 4)).length % 2 = 0),
     (od 0x2300 1, (b (od 0x2300 1)).length % 64 = 0 && (chunks 64 (b (od 0x2300 1))).all paramEntryOk),
     (od 0x2300 2, (chunks 64 (b (od 0x2300 2))).all ruleEntryOk), (od 0x2300 4, scheduleOk (b (od 0x2300 4))),
     (od 0x2500 2, hallOk (b (od 0x2500 2))), (od 0x2500 3, zoneOk (b (od 0x2500 3))),
     (od 0x2600 0x10, layoutOk (b (od 0x2600 0x10))), (od 0x2600 0x20, programsOk 16 (b (od 0x2600 0x20)))]
  ((maps.filter fun m => !m.2).map (·.1)) ++ ((s.regions.filter fun r => !s.regionOk r).map (·.key))

/-! ### Entries that disagree -/

/-- Units of the lane map: HBM, bench (R181). -/
def laneUnits (b : Bytes) : Nat × Nat :=
  (chunks 8 b).foldl (fun a e => (a.1 + leAt e 0 4, a.2 + leAt e 4 4)) (0, 0)

/-- Does a table's optimiser state fit its rule set (R277)? -/
def State.tableSetOk (s : State) (t : Table) : Bool :=
  let q := s.ruleSet t.optSet
  q.rule ≤ 5 && t.stateBytes = q.rowState t.dim

/-- Does a half hold its parts (R273)? -/
def State.halfOk (s : State) (p : Param) : Bool :=
  let q := s.ruleSet p.ruleSet
  q.rule ≤ 5 && ((p.layout q).work + p.workBytes ≤ p.halfBytes)
    && (p.stateParts q).all fun x => decide (x.1 + x.2 ≤ p.halfBytes)

/-- Pairs of entries that disagree: the later one, and the earlier (R404). -/
def State.conflicts (s : State) : List (Nat × Nat) :=
  let n := fun k => s.odNat k
  let lane := laneUnits (s.odBytes (od 0x2400 0x14))
  let coords := (List.range 3).any fun d => decide (s.hall d ≤ nodeCoord s.node d)
  let zone := (List.range 3).any fun d => decide (s.hall d ≤ s.zoneOrigin d) || decide (s.hall d < s.zoneExtent d)
  let layout := s.odBytes (od 0x2600 0x10)
  let pairs : List (Nat × Nat × Bool) :=
    [(od 0x2200 4, od 0x2200 1, s.features.any fun t => t ≠ 0xFFFF && (s.table t).isNone),
     (od 0x2200 7, od 0x2200 6, decide (n (od 0x2200 6) < n (od 0x2200 7))),
     (od 0x2200 8, od 0x2200 7, decide (n (od 0x2200 7) < n (od 0x2200 8))),
     (od 0x2300 2, od 0x2200 1, s.tables.any fun t => !s.tableSetOk t),
     (od 0x2300 2, od 0x2300 1, s.params.any fun p => !s.halfOk p),
     (od 0x2300 0x17, od 0x2300 1, s.params.any fun p =>
       p.keep && decide (n (od 0x2300 0x17) < p.keepAt + 4 * (p.rows * p.cols) + 4)),
     (od 0x2400 8, od 0x2400 7, decide (n (od 0x2400 7) ≤ n (od 0x2400 8))),
     (od 0x2400 0x14, od 0x2400 0x10, decide (n (od 0x2400 0x10) < lane.1 * 0x10000)),
     (od 0x2400 0x14, od 0x2400 0x13, decide (n (od 0x2400 0x13) < lane.2 * 0x10000)),
     (od 0x2500 2, od 0x2500 1, s.node ≠ 0xFFFF && coords), (od 0x2500 3, od 0x2500 2, zone),
     (od 0x2600 9, od 0x2500 3, decide (1 < s.modules) && n (od 0x2600 9) = 0),
     (od 0x2600 0x10, od 0x2200 4, decide ((layout.length - 2) / 2 ≠ s.features.length))]
  ((pairs.filter (·.2.2)).map fun p => (p.1, p.2.1)) ++ overlaps (s.restRegion :: s.regions)

/-! ### The checks of a start (R404) -/

/-- The function that owns an entry (R402). -/
def ownerOf (key : Nat) : Nat :=
  let i := key / 256
  if i = 0x2200 then 1 else if i = 0x2500 || i = 0x2580 then 2 else if i = 0x2600 then 3 else 0

/-- A start-refusal value. -/
def refusalWord (key reason : Nat) : Nat := key * 256 + reason

/-- The first entry that stops a start: training reads every chapter's checks, another function those of its entries. -/
def State.entryRefusal (s : State) (fn : Nat) : Option Nat :=
  let mine := fun k => fn = 0 || ownerOf k = fn
  let own := (s.wrongEntries.filter mine).map fun k => refusalWord k 1
  let two := (s.conflicts.filter fun p => mine p.1 || mine p.2).map fun p => refusalWord p.1 2
  (own ++ two).min?

/-- Does the service level give the units that the function needs (R466, R467; log 28)? -/
def State.levelServes (s : State) (fn : Nat) : Bool :=
  let port := (List.range 6).any fun p => !(s.dieOut (6 + p / 3)) && !(s.life.units.contains (6 + p / 3, 0x0C, p))
  2 ≤ s.life.level && match fn with
    | 0 => s.dram.failed.isEmpty
    | 1 => !(s.dram.failed.any fun f => f.1 = 0)
    | 2 => port
    | _ => !s.vilnyOut

/-- The functions that must be Running, in ascending subindex (R403). -/
def State.needed (s : State) (fn : Nat) : List Nat :=
  match fn with
  | 0 => if 1 < s.modules then [1, 2, 3] else [1, 3]
  | 4 => [0]
  | _ => []

/-- Output rungs of a pass (R212). -/
def PassRec.outputs (p : PassRec) : List Nat :=
  if p.compiled = 7 then (List.range 6).filter (p.wider ≤ ·) ++ [7] else (List.range 6).filter (p.compiled ≤ ·)

/-- The pass records of the job, from the images of its ladder sets, at their rungs of step 0 (R211). -/
def State.foundPasses (s : State) : List PassRec :=
  let imgs := (s.library.map fun x => (x.1, Voicing.of x.2)).filter fun x => x.2.laddered
  let keys := sortBy (fun (a b : Nat) => decide (a ≤ b)) (imgs.map fun x => x.2.layer * 2 + if x.2.backward then 1 else 0).eraseDups
  keys.map fun k =>
    let back := decide (k % 2 = 1)
    let mine := imgs.filter fun x => x.2.layer = k / 2 && x.2.backward = back
    let off := mine.find? fun x => x.1 % 8 = 7
    let wider := match off with
      | some x => if x.2.fmtOut = Fmt.ua4 then 3 else if x.2.fmtOut = Fmt.e2m3 then 4 else 5
      | none => 0
    let compiled := if off.isSome then 7 else ((mine.map fun x => x.1 % 8).min?).getD 5
    let p := { PassRec.blank (k / 2) back compiled compiled with wider := wider }
    let cur := if back then p.higher compiled (s.odNat (od 0x2100 3)) else compiled
    { p with current := cur, pending := cur, next := cur, base := cur }

/-- The first voicing_id of a ladder set that is missing on some fret that holds an image of the set (R212). -/
def State.missingImage (s : State) : Option Nat :=
  let lib := s.library
  let passes := s.foundPasses
  let held := s.board.lib.filter fun e => e.2 ≠ 0
  (lib.flatMap fun x =>
    let v := Voicing.of x.2
    if !v.laddered then []
    else
      let outs := ((passes.find? fun p => p.layer = v.layer && p.backward = v.backward).map PassRec.outputs).getD []
      let ins := if v.srcPass = 0xFFF then [7] else ((passes[v.srcPass]?).map PassRec.outputs).getD []
      let frets := (held.filter fun e => e.1 % 65536 / 64 = x.1 / 64).map (·.1 / 65536)
      (ins.flatMap fun i => outs.map fun o => x.1 / 64 * 64 + i * 8 + o).filter fun vid =>
        frets.any fun f => (s.imageOf f vid).isNone).min?

/-- Why a start is refused, as its start-refusal entry shows it; none where it passes (R404). -/
def State.startRefusal (s : State) (fn : Nat) : Option Nat :=
  if !s.levelServes fn then some (refusalWord (od 0x1210 1) 7)
  else match (s.needed fn).find? fun k => s.fnState k ≠ 1 with
    | some k => some (refusalWord (od 0x2000 (k + 1)) 4)
    | none =>
      if fn = 2 && s.node = 0xFFFF then some (refusalWord (od 0x2500 1) 6)
      else if fn = 2 && decide (1 < s.modules) && bits (s.reg 6 Reg.zfTimeStatus) 63 63 = 0 then some (refusalWord (od 0x2500 0x10) 6)
      else if fn = 0 && s.upd.restore.isSome then some (refusalWord 0 5)
      else match s.entryRefusal fn with
        | some w => some w
        | none => if fn = 0 then s.missingImage.map fun v => v * 0x10000 + 3 else none

/-! ### Entering Running -/

/-- The loaded voicings are checked against the spill interval again; one that fails is marked empty (R117). -/
def State.recheckSlots (s : State) : State :=
  let T := s.odNat (od 0x2100 5)
  let s : State := s.mapFrets (fun _ f => f.st0 = 2 || f.st1 = 2) fun i f =>
    [0, 1].foldl (fun f k =>
      if f.st k = 2 && !checkSlots (Voicing.of (f.img k)) (f.img k) T (i % 384) then f.emptySlot k else f) f
  (s.sweepTables 0).sweepTables 1

/-- The scale history of the loaded state, in the order of the sources (R236). -/
def State.findHistory (s : State) : Option History :=
  let fits := fun (h : Option History) => match h with
    | some x => if x.key = s.jobKey && s.committed = some x.step then some x else none
    | none => none
  ([s.historyIn 0, s.historyIn 1, s.num.nv, s.num.loaded].filterMap fits).head?

/-- A pass record with the rungs, the run count and the histogram of a history. -/
def PassRec.from' (p : PassRec) (h : History) : PassRec :=
  match h.passes.find? fun x => x.layer = p.layer && x.backward = p.backward with
  | some x => { p with
      current := x.current, base := x.current, pending := x.pending, next := x.pending, zeroRun := x.zeroRun
      zeroTold := x.zeroTold, hist := x.hist }
  | none => p

/-- The carried sums of the step before, from the carry region, at the cube in force: 2^scale times what was written, which a
rollback of the step restores too (R224, R295). -/
def State.takeCarries (s : State) (scale : Int) : State :=
  ({ s with num := { s.num with carry := scale } } : State).restoreCarries s.curStep scale

/-- The supervisor at the start of training (R211, R224, R236, R237, R311). -/
def State.startNum (s : State) : State :=
  let s := (s.meetPoison (s.historyAt 0) 0x12C000).meetPoison (s.historyAt 1) 0x12C000
  let fresh := s.foundPasses
  let pending := s.num.carry
  let s := { s with num := { Num.reset with
    nv := s.num.nv, loaded := s.num.loaded, times := s.num.times, cubeWritten := s.num.cubeWritten } }
  let od1 := Fmt.signed 8 (leNat (s.odBytes (od 0x2100 1)))
  let s := if s.curStep = 0 then
      ({ s with num := { s.num with passes := fresh } } : State).setCube od1
    else match s.findHistory with
      | some h =>
        let s := { s with num := { s.num with passes := fresh.map fun p => PassRec.from' p h } }
        let s := s.setReg 6 Reg.numCleanSteps h.clean
        let s := if s.num.cubeWritten then s.setCube od1 else s.setCube (Fmt.signed 8 h.cube)
        s.takeCarries (h.carry + (s.cube - Fmt.signed 8 h.cube))
      | none =>
        let lost := fresh.map fun p => if p.backward then { p with current := 5, base := 5, pending := 5, next := 5 } else p
        let s := ({ s with num := { s.num with passes := lost } } : State).takeCarries (pending + (15 - s.cube)) |>.setCube 15
        let s := (s.setReg 6 Reg.numCleanSteps 0).setReg 6 Reg.numCalibLeft 64
        (s.orReg 6 Reg.numStatus 0x300).event 0x0109 (u64 s.curStep ++ u8 7)
  { s with num := { s.num with cubeWritten := false } }

/-- Training enters Running (R117, R283, R300, R343). -/
def State.startTraining (s : State) : State :=
  let s := (s.recheckSlots).startNum
  let s := { s with upd := { s.upd with
    rejects := [], rollbacks := 0, replays := 0, recomputes := 0, fault := none, voted := false, applied := false, lost := none
    rolls := 0, rerun := 0, late := none } }
  let s : State := { s with fab := { s.fab with zoneFault := false, seen := (0, 0, 0), tree := [] } }
  let s := s.metCarries s.curStep
  (((s.syncOp 1 0 s.committedWord 0).syncOp 1 1 0 0).syncOp 1 2 0 0).syncOp 1 3 0 0

/-- The fabric enters Running: injection that is armed takes effect (R358, R359). -/
def State.startFabric (s : State) : State :=
  let s : State := { s with fab := { s.fab with zoneFault := false, trouble := none } }
  if s.odNat (od 0x2580 1) = 0 then s
  else
    let m := s.odNat (od 0x2580 2)
    let n := fun k => u32 (s.odNat (od 0x2580 k))
    let s := { s with
      fab := { s.fab with ports := s.fab.ports.map fun (p : Port) => ({ p with inj := 0 } : Port) }
      vlk := { s.vlk with injTx := 0, injRx := 0 } }
    let s := (s.flag 6 Reg.zfStatus 5).event 0x0403 (u8 m ++ n 3 ++ n 4 ++ n 5)
    if bits m 6 6 = 1 then s.flag 6 Reg.vlkStatus 4 else s

/-- A function's written values come into use (R406). -/
def State.useWritten (s : State) (fn : Nat) : State :=
  { s with dict := { s.dict with before := s.dict.before.filter fun e => ownerOf e.1 ≠ fn } }

/-- A write of 1 (R401, R404): a function that is Stopped is Starting. -/
def State.startWrite (s : State) (fn : Nat) : Nat × State :=
  if s.fnState fn = 1 || s.fnState fn = 2 then (sOk, s)
  else if s.fnState fn = 3 then (sBusy, s)
  else (sOk, s.setFn fn 2)

/-- The end of a start (R404, R406, R407): the entries are validated as they were written, and the function enters Running with them, or
is Stopped again with the refusal. -/
def State.finishStart (s : State) (fn : Nat) : State :=
  if s.fnState fn ≠ 2 then s
  else
    let refused := ({ s with dict := { s.dict with before := [] } } : State).startRefusal fn
    let s := ({ s with dict := { s.dict with refusal := s.dict.refusal.set fn (refused.getD 0) } } : State).rehash
    if refused.isSome then s.setFn fn 0
    else
      let s := (s.useWritten fn).setFn fn 1
      match fn with
      | 0 => s.startTraining
      | 2 => s.startFabric
      | 3 => { s with adm := { s.adm with counts := List.replicate 26 0 } }
      | _ => s

/-- Starts that are under way end, in the order in which the functions need each other (R403; DEDUCED, log 28). -/
def State.finishStarts (s : State) : State :=
  if s.dict.fn.all (· ≠ 2) then s else [2, 3, 1, 0, 4].foldl (fun s fn => s.finishStart fn) s

/-- FUNCTION_START (R404): a write of 1, and the validation that follows it. -/
def execFunctionStart (fn : Fin 5) (s : State) : Host.Outcome State Fault Refusal :=
  .next ((s.startWrite fn.val).2.finishStart fn.val)

/-! ### Stopping (R403, R405) -/

/-- Held EVENTS frames of a step or of later ones are reported broken with HOST, will not complete, and leave the store. -/
def State.dropFrom (s : State) (step : Nat) : State :=
  let mine := s.adm.frames.filter fun f => f.isEvents && decide (step ≤ f.step)
  let s := s.breakFrames 0x0B step ((mine.filter HeldFrame.inFlight).map fun f => (f.id, never))
  ((mine.map (·.step)).eraseDups).foldl (fun s k => s.discardFrames k) s

/-- Have all frames of the step in progress been accepted? -/
def State.stepWhole (s : State) : Bool :=
  let mine := s.stepFrames s.curStep
  !mine.isEmpty && (mine.map (·.mbCount)).foldl max 0 ≤ mine.length

/-- Training moves to Stopping (R405): the step that lacks frames rolls back at once, later frames are discarded. In a larger job the
module's vote is on its way, and what passes through it of the vote's sum still does. -/
def State.beginStopping (s : State) : State :=
  let s := s.setFn 0 3
  let step := s.curStep
  if s.stepWhole then s.dropFrom (step + 1)
  else if (s.stepFrames step).isEmpty then (s.dropFrom step).stopTraining
  else
    let s := (s.dropFrom step).setFault 0x0B
    let tree := s.fab.tree
    let s := (s.rollback 0x0B 1 s.rank).metCarries step
    let s : State := s.mapFrets (fun _ f => f.run = 2) fun _ f => { f with run := 0 }
    ({ s with upd := { s.upd with rerun := 0 }, fab := { s.fab with tree := if 1 < s.modules then tree else [] } } : State).stopTraining

/-- Nothing of the step runs any more: Stopping ends once it committed or rolled back (R405). -/
def State.stoppingDone (s : State) : Bool := (s.stepFrames s.curStep).isEmpty || 3 ≤ s.upd.rerun

/-- STOPPING_COMPLETE (R405). -/
def execStoppingComplete (s : State) : Host.Outcome State Fault Refusal :=
  .next (if s.fnState 0 = 3 && s.stoppingDone && s.upd.lost.isNone && !s.upd.voted then
      let s := (s.dropFrom s.curStep).stopTraining
      let s : State := s.mapFrets (fun _ f => f.run = 2 && decide (3 ≤ s.upd.rerun)) fun _ f => { f with run := 0 }
      { s with upd := { s.upd with rerun := 0 } }
    else s)

/-- The work of the other functions ends at once. -/
def State.stopOther (s : State) (fn : Nat) : State :=
  let s := s.setFn fn 0
  match fn with
  | 2 =>
    let s : State := { s with fab := { s.fab with
      reqs := [], copies := [], inbox := [], tree := if s.modules ≤ 1 then s.fab.tree else [], waits := s.fab.waits.filter fun w => !w.remote } }
    (s.clearReg 6 Reg.zfStatus 0x20).clearReg 6 Reg.vlkStatus 0x10
  | 3 => s.breakFrames 0x0B s.curStep ((s.adm.frames.filter HeldFrame.inFlight).map fun f => (f.id, never))
  | 4 => s.abandonSnap
  | _ => s

/-- The functions that depend on one (R403). -/
def State.dependants (s : State) (fn : Nat) : List Nat := (List.range 5).filter fun k => (s.needed k).contains fn

/-- A stop (R401, R403, R405). -/
def State.functionStop (s : State) (fn : Nat) : Nat × State :=
  if s.fnState fn = 0 || s.fnState fn = 3 then (sOk, s)
  else if (s.dependants fn).any fun k => s.fnState k ≠ 0 then (sAccess, s)
  else if s.fnState fn = 2 then (sBusy, s)
  else (sOk, if fn = 0 then s.beginStopping else s.stopOther fn)

/-- FUNCTION_STOP (R405). -/
def execFunctionStop (fn : Fin 5) (s : State) : Host.Outcome State Fault Refusal := .next (s.functionStop fn.val).2

end Sys2Proof.Machine
end

