-- ==== Sys2Proof/Machine/Sdp.lean ====
section
/-! DEFINITION. SDP: the message, the checks in their order, GET, SET with its segments, sessions and proofs, on both transports
(R12, R13, R399, R400, R408 to R415, R426, R443, R462, R477, R479). -/

namespace Sys2Proof.Machine

/-! ### The message (R409) -/

/-- A request as it was read. -/
structure Sdp where
  op : Nat
  session : Nat
  seq : Nat
  index : Nat
  sub : Nat
  type : Nat
  offset : Nat
  length : Nat
  first : Bool
  last : Bool
  value : Bytes
  deriving DecidableEq, Repr

/-- Read a request. -/
def Sdp.of (m : Bytes) : Sdp :=
  { op := leAt m 1 1, session := leAt m 4 2, seq := leAt m 6 2, index := leAt m 8 2, sub := leAt m 10 1, type := leAt m 11 1
    offset := leAt m 12 4, length := leAt m 16 4, first := bits (leAt m 3 1) 1 1 = 1, last := bits (leAt m 3 1) 2 2 = 1
    value := (m.drop 24).take (leAt m 16 4) }

/-- The key of the entry that it names. -/
def Sdp.key (r : Sdp) : Nat := od r.index r.sub

/-- Value bytes of one reply (R410). -/
def replyBytesMax (bus : Bool) : Nat := if bus then 1208 else 0x100000 - 24

/-- Is the header malformed (VERSION)? -/
def sdpMalformed (bus : Bool) (m : Bytes) : Bool :=
  let r := Sdp.of m
  let n := if r.op = 1 then 0 else r.length
  let part := (r.op = 1 || r.op = 2) && (r.type = 9 || r.type = 10)
  m.length < 24 || leAt m 0 1 ≠ 1 || r.op = 0 || 5 < r.op || leAt m 2 1 ≠ 0 || leAt m 3 1 % 2 = 1 || 8 ≤ leAt m 3 1
    || leAt m 20 4 ≠ 0 || (r.op = 3 && r.session ≠ 0) || (!part && r.offset ≠ 0) || m.length < 24 + n
    || (if bus then 24 + n < m.length || 1232 < m.length else 24 + n + 8 ≤ m.length)

/-- What an operation answers: status, flags beside REPLY, session, value. -/
structure Answer where
  status : Nat
  flags : Nat
  session : Nat
  value : Bytes
  deriving DecidableEq, Repr

/-- A status alone. -/
def Answer.bare (r : Sdp) (status : Nat) : Answer := ⟨status, 0, r.session, []⟩

/-- The reply's bytes. -/
def Sdp.reply (r : Sdp) (a : Answer) : Bytes :=
  sdpHeader r.op a.status (1 + a.flags) a.session r.seq r.index r.sub r.type r.offset a.value.length ++ a.value

/-! ### The register data entry (R426) -/

/-- The offset in the register space that OD 0x2960.01 names. -/
def State.regOffset (s : State) : Option Nat :=
  let a := s.odNat (od 0x2960 1)
  if a < 0x7F000000000 then none else some (a - 0x7F000000000)

/-- A read through OD 0x2960.02 by a session of a level: its value, which the entry keeps; none is an address error. -/
def State.registerGet (s : State) (level : Nat) : Option (Nat × State) :=
  match s.regOffset with
  | none => none
  | some o => (s.regRead o (s.odNat (od 0x2960 3)) (level = 3)).map fun p => (p.1, p.2.setOd (od 0x2960 2) (natLE 8 p.1))

/-- A write through OD 0x2960.02. -/
def State.registerSet (s : State) (level v : Nat) : Nat × State :=
  match s.regOffset with
  | none => (sRange, s)
  | some o => match s.regWrite o (s.odNat (od 0x2960 3)) v (level = 3) with
    | none => (sRange, s)
    | some s => (sOk, s.setOd (od 0x2960 2) (natLE 8 v))

/-! ### Entries -/

/-- Entries that the boot ROM serves in recovery (R477). -/
def recoveryIndex (i : Nat) : Bool :=
  (0x1000 ≤ i && i ≤ 0x1008) || [0x1010, 0x1030, 0x1040, 0x1050, 0x1100, 0x1101, 0x1110, 0x1111, 0x1120, 0x1210].contains i

/-- An entry's row; subindex 0 of an index of several entries is a U8 constant (R398). -/
def State.entryRow (s : State) (k : Nat) : Option OdRow :=
  if s.sec.recovery && !recoveryIndex (k / 256) then none
  else match odRow k with
    | some r => some r
    | none => if isCountEntry k then some ⟨k, 2, .const, 1, natLE 1 ((odHighest (k / 256)).getD 0), 0, 255, 1⟩ else none

/-! ### GET (R410) -/

/-- The part of a value that one reply holds. -/
def Sdp.part (r : Sdp) (bus : Bool) (v : Bytes) : Answer :=
  if v.length < r.offset then .bare r sRange
  else
    let want := if r.length = 0 then replyBytesMax bus else min r.length (replyBytesMax bus)
    let p := (v.drop r.offset).take want
    ⟨sOk, if r.offset + p.length = v.length then 4 else 0, r.session, p⟩

/-- GET of an entry by a session of a level. -/
def State.sdpGet (s : State) (r : Sdp) (bus : Bool) (level : Nat) : Answer × State :=
  match s.entryRow r.key with
  | none => (.bare r sNoEntry, s)
  | some row =>
    let size := odSize row.type
    if row.type ≠ r.type || (size ≠ 0 && r.length ≠ 0 && r.length ≠ size) then (.bare r sType, s)
    else if row.acc = .wo then (.bare r sAccess, s)
    else if r.key = od 0x2960 2 then
      match s.registerGet level with
      | none => (.bare r sRange, s)
      | some p => (⟨sOk, 4, r.session, natLE 8 p.1⟩, p.2)
    else
      let v := if isCountEntry r.key then row.dflt else s.odRead r.key
      if r.key = od 0x1050 2 && r.offset ≤ v.length && (s.sec.report.isNone || s.life.mgmtFailed.contains 1) then
        (.bare r sBusy, s)
      else if size ≠ 0 then (⟨sOk, 4, r.session, padTo size v⟩, s)
      else (r.part bus v, s)

/-! ### SET: what a value may be (R399 and the entry tables) -/

/-- 0, or from a least to a greatest value. -/
def zeroOr (lo hi v : Nat) : Bool := v = 0 || (lo ≤ v && v ≤ hi)

/-- An integer's value. -/
def odInt (type : Nat) (b : Bytes) : Int :=
  if type = 6 || type = 7 then Fmt.signed (8 * b.length) (leNat b) else leNat b

/-- A DOMAIN's size and limits. -/
def domainOk (key : Nat) (b : Bytes) : Bool :=
  let n := b.length
  let f := fun o => f32At b o
  if key = od 0x2100 9 then n = 8 && atLeastZero (f 0) && atLeastZero (f 4) && decide ((f 0).toNat ≤ (f 4).toNat)
  else if key = od 0x2200 1 then n % 32 = 0 && n ≤ 32768
  else if key = od 0x2200 4 then n % 2 = 0 && n ≤ 256
  else if key = od 0x2300 1 then n % 64 = 0 && n ≤ 262144
  else if key = od 0x2300 2 then n = 1024
  else if key = od 0x2300 4 then n % 16 = 0 && n ≤ 256
  else if key = od 0x2400 0x14 then n = 0 || n = 6144
  else if key = od 0x2600 0x10 then n % 2 = 0 && n ≤ 258
  else if key = od 0x2500 2 then hallOk b
  else if key = od 0x2500 3 then zoneOk b
  else if key = od 0x2900 3 then n = 0 || n = 16
  else if key = od 0x1050 1 then n = 48
  else if key = od 0x1030 7 then n = 97
  else n ≤ 0x1000000

/-- Is a value within its entry's range? -/
def valueOk (r : OdRow) (b : Bytes) : Bool :=
  let v := leNat b
  let k := r.key
  if r.type = 10 then domainOk k b
  else if r.type = 8 then
    if k = od 0x2300 8 then decide (0x3F800000 ≤ v) && decide (v ≤ 0x49800000)
    else decide (0 < v) && decide (v ≤ 0x3F800000)
  else if od 0x2000 1 ≤ k && k ≤ od 0x2000 5 then v ≤ 1
  else if k = od 0x2500 1 || k = od 0x2500 0x10 then v < 0x8000 || v = 0xFFFF
  else if k = od 0x2580 3 then zeroOr 2 0xFFFFFFFF v
  else if k = od 0x2580 4 then zeroOr 2 0xFFFFF v
  else if k = od 0x2580 5 then zeroOr 2 0xFFFF v
  else if (od 0x2600 1 ≤ k && k ≤ od 0x2600 4) || k = od 0x2600 9 then zeroOr 1000 4000000000 v
  else if k = od 0x2960 3 then v = 4 || v = 8
  else if k = od 0x2100 8 then v ≤ 65536 && (List.range 17).any fun j => v = pow2 j
  else
    let i := odInt r.type b
    decide (r.lo ≤ i) && decide (i ≤ r.hi) && decide (i % (max 1 r.step : Nat) = 0)

/-! ### SET: access -/

/-- Does the access code forbid the write (R12, R358, R403)? -/
def State.setDenied (s : State) (r : OdRow) (value : Bytes) : Bool :=
  let k := r.key
  r.acc = .ro || r.acc = .const || (r.acc = .rws && s.fnState (ownerOf k) ≠ 0)
    || (od 0x2000 1 ≤ k && k ≤ od 0x2000 5 && value = [0]
        && (let fn := k - od 0x2000 1
            (s.fnState fn = 1 || s.fnState fn = 2) && (s.dependants fn).any fun j => s.fnState j ≠ 0))
    || (k = od 0x2580 2 && bits (leNat value) 6 6 = 1 && s.fnState 3 ≠ 0)
    || (k = od 0x2500 0x11 && !s.timeSettable)

/-! ### SET: the effect -/

/-- Is the entry written through to the NV store (R443)? -/
def kept (r : OdRow) : Bool :=
  2 ≤ r.level && (r.acc = .rw || r.acc = .rws)
    && !([0x2000, 0x2580, 0x2960].contains (r.key / 256) || r.key = od 0x1101 1 || r.key = od 0x1030 5)

/-- Entries that ring bring-up and module time need before the fabric can start: they are used as they stand (DEDUCED, log 28). -/
def usedAtOnce (k : Nat) : Bool := k = od 0x2500 1 || k = od 0x2500 2 || k = od 0x2500 0x10

/-- The value in force of an entry stays in use until its function starts (R406). -/
def State.keepBefore (s : State) (k : Nat) : State :=
  match SMap.get none s.dict.before k with
  | some _ => s
  | none => { s with dict := { s.dict with before := SMap.set none s.dict.before k (some (s.odWritten k)) } }

/-- Store a value. -/
def State.putValue (s : State) (r : OdRow) (b : Bytes) : State :=
  let s := (if r.acc = .rws && !usedAtOnce r.key then s.keepBefore r.key else s).setOd r.key b
  if !kept r then s
  else ({ s with dict := { s.dict with nv := SMap.set none s.dict.nv r.key (some b) } } : State).nvPulse r.key b.length

/-- Carry out a write that passed its checks. -/
def State.applySet (s : State) (r : OdRow) (level : Nat) (b : Bytes) : Nat × State :=
  let k := r.key
  let v := leNat b
  if od 0x2000 1 ≤ k && k ≤ od 0x2000 5 then
    (if v = 1 then s.startWrite (k - od 0x2000 1) else s.functionStop (k - od 0x2000 1))
  else if k = od 0x2960 2 then s.registerSet level v
  else if k = od 0x1030 0x10 then s.uploadImage b
  else if k = od 0x1030 5 then s.advanceCounter v
  else if k = od 0x1030 7 then s.enrolOwner b
  else if k = od 0x1040 1 then s.setKeys level b
  else if k = od 0x1050 1 then s.setNonce b
  else if k = od 0x1101 1 then (sOk, s.setCalendar v)
  else if k = od 0x2500 0x11 then (sOk, { s with time := v })
  else if k = od 0x1202 0 then (sOk, { s with rst := { s.rst with keep := v = 1 } })
  else if k = od 0x2100 1 then
    let s := s.putValue r b
    (sOk, { s with num := { s.num with cubeWritten := true } })
  else if k = od 0x2500 1 || k = od 0x2500 2 then
    let s := s.putValue r b
    (sOk, s.closeUnused.showMaster)
  else if k = od 0x2500 0x10 then (sOk, (s.putValue r b).showMaster)
  else (sOk, s.putValue r b)

/-! ### SET: segments (R414) -/

/-- Discard an entry's staging. -/
def State.dropStaging (s : State) (entry : Nat) : State :=
  { s with dict := { s.dict with staging := s.dict.staging.filter fun g => g.key ≠ entry } }

/-- A whole value: its range, then its effect. -/
def State.setWhole (s : State) (row : OdRow) (level : Nat) (b : Bytes) : Nat × State :=
  if row.key = od 0x1040 1 && raisesKeys level (keyEntries (s.odBytes row.key)) (keyEntries b) then (sPrivilege, s)
  else if !valueOk row b then (sRange, s)
  else s.applySet row level b

/-- A segment of a DOMAIN: whole where it carries neither FIRST nor LAST and nothing is staged. -/
def State.setDomain (s : State) (r : Sdp) (row : OdRow) (level : Nat) : Nat × State :=
  let k := row.key
  let staged := s.dict.staging.find? fun g => g.key = k
  let other : Bool := match staged with | some g => g.session ≠ r.session | none => false
  let held := match staged with | some g => if g.session = r.session then some g.bytes else none | none => none
  if !r.first && !r.last && held.isNone && r.offset = 0 then
    if other then (sBusy, s) else s.setWhole row level r.value
  else
    let base := if r.first then some [] else held
    match base with
    | none => (sRange, s)
    | some b =>
      let all := b ++ r.value
      if r.offset ≠ b.length || 0x1000000 < all.length then (sRange, if held.isSome then s.dropStaging k else s)
      else if other then (sBusy, s)
      else
        let s := s.dropStaging k
        if r.last then s.setWhole row level all
        else (sOk, { s with dict := { s.dict with staging := s.dict.staging ++ [⟨k, r.session, all⟩] } })

/-- SET by a session of a level: the checks in the order of R411. -/
def State.sdpSet (s : State) (r : Sdp) (level : Nat) : Nat × State :=
  match s.entryRow r.key with
  | none => (sNoEntry, s)
  | some row =>
    let size := odSize row.type
    if row.type ≠ r.type || (if row.type = 9 then decide (255 < r.length) else if size = 0 then decide (0x1000000 < r.length) else decide (r.length ≠ size)) then (sType, s)
    else if s.setDenied row r.value then
      (sAccess, if s.dict.staging.any (fun g => g.key = row.key && g.session = r.session) then s.dropStaging row.key else s)
    else if level < row.level then (sPrivilege, s)
    else if row.type = 10 then s.setDomain r row level
    else if row.type = 9 && (r.offset ≠ 0 || r.first || r.last) then (sRange, s)
    else s.setWhole row level r.value

/-! ### Sessions (R412, R413, R462, R479) -/

/-- A session ends, and what it was staging with it. -/
def State.closeSession (s : State) (num : Nat) : State :=
  { s with dict := { s.dict with
      sessions := s.dict.sessions.filter fun x => x.num ≠ num, staging := s.dict.staging.filter fun g => g.session ≠ num } }

/-- A requester's nonce: over the Vilny link, the link is the requester. -/
def Nonce.of (n : Nonce) (bus : Bool) (req : Nat) : Bool := n.bus = bus && (n.req = req || !bus)

/-- Spend or replace it. -/
def State.spendNonce (s : State) (bus : Bool) (req : Nat) : State :=
  { s with dict := { s.dict with nonces := s.dict.nonces.filter fun n => !n.of bus req } }

/-- AUTH, with a fresh nonce; the oldest of more than eight is discarded. -/
def State.askProof (s : State) (bus : Bool) (req : Nat) : Answer × State :=
  let s := s.spendNonce bus req
  let d := s.drawBytes 48
  let all := d.2.dict.nonces ++ [Nonce.mk bus req d.1]
  (⟨sAuth, 0, 0, d.1⟩, { d.2 with dict := { d.2.dict with nonces := all.drop (all.length - 8) } })

/-- The highest level held by a key that made a proof. -/
def State.provenLevel (s : State) (nonce sig : Bytes) : Option Nat :=
  let digest := Sha384.hash (nonce ++ Sha384.hash Config.certificate)
  let keys := ((keyEntries (s.odBytes (od 0x1040 1))).map fun e => (e.take 97, keyLevel e)) ++ [(Config.vendorKey, 3)]
  ((keys.filter fun k => P384.verify k.1 sig digest).map (·.2)).max?

/-- A failed proof is counted; the fifth within 60 s locks OPENs above Observer out. -/
def State.failProof (s : State) : State :=
  let times := (s.sec.failTimes.filter fun t => s.time < t + 60000000000) ++ [s.time]
  let s := (s.flag 6 Reg.secStatus 2).bump 6 Reg.secAuthFailCount 1
  { s with sec := { s.sec with failTimes := times, locked := s.sec.locked || decide (5 ≤ times.length) } }

/-- A session number that is not in use. -/
def freshNumber (used : List Nat) (start : Nat) : Nat :=
  ((List.range 9).map fun k => (start + k) % 0xFFFF + 1).find? (fun n => !used.contains n) |>.getD 1

/-- Open a session. -/
def State.openSession (s : State) (bus : Bool) (req level : Nat) : Nat × State :=
  let d := s.draw
  let n := freshNumber (s.dict.sessions.map (·.num)) d.1.toNat
  let x : Session := { num := n, level := level, bus := bus, req := req, seq := 0, reply := [], notify := false }
  (n, { d.2 with dict := { d.2.dict with sessions := d.2.dict.sessions ++ [x] } })

/-- OPEN. -/
def State.sdpOpen (s : State) (r : Sdp) (bus : Bool) (req : Nat) : Answer × State :=
  let level := leAt r.value 0 1
  let proof := decide (r.value.length = 97)
  if r.value.length ≠ 1 && !proof then (.bare r sType, s)
  else if level ≠ 0 && s.life.mgmtFailed.contains 1 then (.bare r sAccess, s)
  else
    let nonce := s.dict.nonces.find? fun n => n.of bus req
    let shown := match nonce with | some n => if proof then s.provenLevel n.value (r.value.drop 1) else none | none => none
    let s := if proof then s.spendNonce bus req else s
    if level ≠ 0 && (match shown with | some l => decide (l < level) | none => false) then (.bare r sPrivilege, s)
    else if 3 < level then (.bare r sRange, s)
    else if 8 ≤ s.dict.sessions.length || (level ≠ 0 && s.sec.locked) then (.bare r sBusy, s)
    else if level ≠ 0 && shown.isNone then
      (if proof && nonce.isSome then s.failProof else s).askProof bus req
    else
      let p := s.openSession bus req level
      (⟨sOk, 0, p.1, []⟩, p.2)

/-- SUBSCRIBE. -/
def State.sdpSubscribe (s : State) (r : Sdp) (bus : Bool) : Nat × State :=
  if r.value.length ≠ 1 then (sType, s)
  else if !bus then (sAccess, s)
  else if 1 < leNat r.value then (sRange, s)
  else (sOk, { s with dict := { s.dict with sessions := s.dict.sessions.map fun x =>
    if x.num = r.session then { x with notify := leNat r.value = 1 } else x } })

/-- A request within a session. -/
def State.inSession (s : State) (r : Sdp) (bus : Bool) (level : Nat) : Answer × State :=
  match r.op with
  | 1 => s.sdpGet r bus level
  | 2 => let p := s.sdpSet r level; (.bare r p.1, p.2)
  | 4 => if r.length ≠ 0 then (.bare r sType, s) else (.bare r sOk, s.closeSession r.session)
  | _ => let p := s.sdpSubscribe r bus; (.bare r p.1, p.2)

/-! ### Serving a request (R400, R411, R433) -/

/-- Does management core 0 serve requests: bring-up has ended, no reset, the level is not Dark (R441, R462, R466)? -/
def State.serves (s : State) : Bool := s.rst.phase = 7 && !s.rst.asserted && 1 ≤ s.life.level

/-- Serve one request: the reply, and the state after it. -/
def State.serve (s : State) (bus : Bool) (req : Nat) (m : Bytes) : Bytes × State :=
  let r := Sdp.of m
  let s := s.bump 6 Reg.mgmtSdpRxCount 1
  let count := fun (status : Nat) (s : State) =>
    if status = sOk then s else (s.flag 6 Reg.mgmtStatus 1).bump 6 Reg.mgmtSdpErrCount 1
  if sdpMalformed bus m then (r.reply (.bare r sVersion), count sVersion s)
  else if r.op = 3 then
    let p := s.sdpOpen r bus req
    (r.reply p.1, count p.1.status p.2)
  else match s.dict.sessions.find? fun x => x.num = r.session && x.bus = bus && (x.req = req || !bus) with
    | none => (r.reply (.bare r sSession), count sSession s)
    | some x =>
      if r.seq = x.seq && !x.reply.isEmpty then (x.reply, count (leAt x.reply 2 1) s)
      else if r.seq ≠ (x.seq + 1) % 65536 then (r.reply (.bare r sSession), count sSession s)
      else
        let p := s.inSession r bus x.level
        let out := r.reply p.1
        let s := count p.1.status p.2
        (out, { s with dict := { s.dict with sessions := s.dict.sessions.map fun y =>
          if y.num = x.num then { y with seq := r.seq, reply := out } else y } })

/-- A requester's number: its address and port (R412). -/
def requesterKey (r : Requester) : Nat := r.addr.toNat * 0x10000 + r.port.toNat

/-- The link-local address, from the MAC address as RFC 2464 forms it (R408). -/
def linkLocal : BitVec 128 :=
  let m := Config.macAddress
  BitVec.ofNat 128 (Sha384.beNat ([0xFE#8, 0x80#8] ++ zeroBytes 6 ++ [m.getD 0 0 ^^^ 2#8, m.getD 1 0, m.getD 2 0, 0xFF#8, 0xFE#8,
    m.getD 3 0, m.getD 4 0, m.getD 5 0]))

/-- Does a datagram come to the module's SDP port: at its global address, where it has one, or at its link-local address (R408)? -/
def State.addressed (s : State) (r : Requester) : Bool :=
  let g := s.odBytes (od 0x2900 3)
  r.dstPort.toNat = 47709 && ((g.length = 16 && r.dst = BitVec.ofNat 128 (Sha384.beNat g)) || r.dst = linkLocal)

/-- A request on the management bus, with its reply. -/
def State.serveBus (s : State) (req : Nat) (m : Bytes) : State :=
  if !s.serves then s
  else
    let p := s.serve true req m
    { p.2 with dict := { p.2.dict with bus := (req, p.1) :: p.2.dict.bus } }

/-- A request over the Vilny link: the reply travels in a READBACK frame that names the CONTROL frame (R415). -/
def State.answerVilny (s : State) (frame : Nat) (m : Bytes) : State :=
  if !s.serves then s
  else
    let p := s.serve false 0 m
    p.2.sendFrame 2 0 0x84 4 frame p.2.curStep p.1

/-- The decision on a CONTROL frame with op SDP (R388): it needs nothing, the host-link function included (R405). -/
def State.decideSdp (s : State) (f : Bytes) (t : Nat) : State :=
  let bad := match s.badFrame f 2 with
    | some o => some (⟨cFormat, o, 0⟩ : Turn)
    | none => controlBad f 5 []
  let turn := match bad with
    | some r => some r
    | none =>
      if s.odNat (od 0x2600 0x12) < (s.adm.frames.map fun h => h.bytes.length).sum + f.length then some ⟨cStore, 0, 0⟩
      else if s.rst.pinWait || s.rst.asserted then some ⟨cState, 0, 0⟩
      else match s.suspendTurn with
        | some r => some r
        | none => s.boundTurn (frClass f) t 1000000 1000000
  match turn with
  | some r => s.refuse f r
  | none => (s.acceptDone f t 1000000).answerVilny (frId f) ((f.take (f.length - 8)).drop 36)

end Sys2Proof.Machine
end

