-- ==== Sys2Proof/Machine/Arrive.lean ====
section
/-! DEFINITION. Host frames in the order of their arrival, and the SDP requests of both transports (R248, R372, R409 to R417). -/

namespace Sys2Proof.Machine

/-! ### One decision at a time (R372) -/

/-- Decide a frame by its type and operation. -/
def State.decideAny (s : State) (f : Bytes) (t : Nat) : State :=
  match frType f with
  | 2 => match frOp f with
    | 1 => s.decidePut f t
    | 2 => s.decideRows f t
    | 3 => s.decideRestore f t
    | 4 => s.decideSettle f t
    | _ => s.decideSdp f t
  | 3 => s.decideSnapshot f t
  | 4 => s.decideReadback f t
  | 5 => s.decideStatus f t
  | _ => s.decideEvents f t

/-- Does the decision on an earlier frame wait for its tally? -/
def State.tallying (s : State) : Bool := s.adm.frames.any fun f => f.waiting = 1

/-- A host frame's last word is here: it is decided, or waits for the frame before it, or for its units where they are held. -/
def State.arrive (s : State) (f : Bytes) (decide' : State → Bytes → Nat → State) : State :=
  if s.held 6 14 || s.held 6 15 then s else
  let s := { s with vlk := { s.vlk with arrived := s.vlk.arrived.erase f } }
  if s.tallying then { s with adm := { s.adm with behind := s.adm.behind ++ [(s.time, f)] } } else decide' s f s.time

/-- Frames that waited are decided in arrival order, up to the next tally. -/
def State.drainBehind : Nat → State → State
  | 0, s => s
  | k + 1, s =>
    if s.tallying then s
    else match s.adm.behind with
      | [] => s
      | x :: rest => State.drainBehind k (({ s with adm := { s.adm with behind := rest } } : State).decideAny x.2 x.1)

/-- EVENTS (R373 to R383). -/
def execEvents (frame : Bytes) (s : State) : Host.Outcome State Fault Refusal := .next (s.arrive frame State.decideEvents)
/-- PUT (R388). -/
def execPut (frame : Bytes) (s : State) : Host.Outcome State Fault Refusal := .next (s.arrive frame State.decidePut)
/-- ROWS (R388). -/
def execRows (frame : Bytes) (s : State) : Host.Outcome State Fault Refusal := .next (s.arrive frame State.decideRows)
/-- RESTORE (R388, R392). -/
def execRestore (frame : Bytes) (s : State) : Host.Outcome State Fault Refusal := .next (s.arrive frame State.decideRestore)
/-- SETTLE (R292, R388). -/
def execSettle (frame : Bytes) (s : State) : Host.Outcome State Fault Refusal := .next (s.arrive frame State.decideSettle)
/-- SNAPSHOT_REQ (R297, R391). -/
def execSnapshotReq (frame : Bytes) (s : State) : Host.Outcome State Fault Refusal :=
  .next (s.arrive frame State.decideSnapshot)
/-- READBACK (R390). -/
def execReadback (frame : Bytes) (s : State) : Host.Outcome State Fault Refusal := .next (s.arrive frame State.decideReadback)
/-- STATUS (R390). -/
def execStatus (frame : Bytes) (s : State) : Host.Outcome State Fault Refusal := .next (s.arrive frame State.decideStatus)

/-- A held frame's tally is complete (R248). -/
def State.takeTally (s : State) (h : HeldFrame) : State :=
  let t : FrameTally := ⟨h.id, h.step, s.tallyTables h.step (s.positions h.bytes), s.tallyNow h.bytes⟩
  { s with emb := { s.emb with tallies := (s.emb.tallies.filter fun x => x.frame ≠ h.id) ++ [t] } }

/-- A frame that was not accepted leaves no tally. -/
def State.dropTally (s : State) (id : Nat) : State :=
  if (s.eventsFrame id).isSome then s
  else { s with emb := { s.emb with tallies := s.emb.tallies.filter fun x => x.frame ≠ id } }

/-- TALLY_COMPLETE (R248): the frame's bound is formed; the frames behind it follow. -/
def execTallyComplete (frame : Nat) (s : State) : Host.Outcome State Fault Refusal :=
  .next (match s.adm.frames.find? fun f => f.id = frame && f.waiting = 1 with
    | none => s
    | some h =>
      let s := (((s.takeTally h).unhold frame).decideTallied h.bytes h.tLast).dropTally frame
      s.drainBehind s.adm.behind.length)

/-! ### SDP requests (R410) -/

/-- An SDP request of an operation, or with an operation that does not exist. On the management bus it needs the PHY's link
and comes to the module's address and port (R408);
over the Vilny link the CONTROL frame that carries it is decided in its turn. -/
def State.sdpRequest (s : State) (op : Nat) (bus : Bool) (req : Requester) (frame : Nat) (message : Bytes) : State :=
  let o := leAt message 1 1
  if o ≠ op && 1 ≤ o && o ≤ 5 then s
  else if bus then (if s.reg 6 Reg.mgmtStatus % 2 = 1 && s.addressed req then s.serveBus (requesterKey req) message else s)
  else match s.vlk.arrived.find? fun f => frId f = frame && frType f = 2 && frOp f = 5 with
    | some f => s.arrive f State.decideSdp
    | none => s.answerVilny frame message

/-- GET (R410, R426). -/
def execSdpGet (bus : Bool) (req : Requester) (frame : Nat) (message : Bytes) (s : State) : Host.Outcome State Fault Refusal :=
  .next (s.sdpRequest 1 bus req frame message)
/-- SET (R12, R13, R414). -/
def execSdpSet (bus : Bool) (req : Requester) (frame : Nat) (message : Bytes) (s : State) : Host.Outcome State Fault Refusal :=
  .next (s.sdpRequest 2 bus req frame message)
/-- OPEN (R412, R479). -/
def execSdpOpen (bus : Bool) (req : Requester) (frame : Nat) (message : Bytes) (s : State) : Host.Outcome State Fault Refusal :=
  .next (s.sdpRequest 3 bus req frame message)
/-- CLOSE (R410). -/
def execSdpClose (bus : Bool) (req : Requester) (frame : Nat) (message : Bytes) (s : State) : Host.Outcome State Fault Refusal :=
  .next (s.sdpRequest 4 bus req frame message)
/-- SUBSCRIBE (R415). -/
def execSdpSubscribe (bus : Bool) (req : Requester) (frame : Nat) (message : Bytes) (s : State) : Host.Outcome State Fault Refusal :=
  .next (s.sdpRequest 5 bus req frame message)

/-! ### What time does to SDP (R412, R414, R479) -/

/-- NONCE_EXPIRY. -/
def execNonceExpiry (bus : Bool) (req : Requester) (s : State) : Host.Outcome State Fault Refusal :=
  .next { s with dict := { s.dict with nonces := s.dict.nonces.filter fun n => !(n.bus = bus && (n.req = requesterKey req || !bus)) } }

/-- SESSION_IDLE. -/
def execSessionIdle (session : Nat) (s : State) : Host.Outcome State Fault Refusal := .next (s.closeSession session)

/-- STAGING_IDLE. -/
def execStagingIdle (entry : Nat) (s : State) : Host.Outcome State Fault Refusal := .next (s.dropStaging entry)

/-- AUTH_LOCKOUT_END. -/
def execAuthLockoutEnd (s : State) : Host.Outcome State Fault Refusal :=
  .next { s with sec := { s.sec with locked := false, failTimes := [] } }

/-! ### OD 0x2960 (R426) -/

/-- REGISTER_DATA_GET by a session of a level. -/
def execRegisterDataGet (level : Fin 4) (s : State) : Host.Outcome State Fault Refusal :=
  .next (match s.registerGet level.val with | some p => p.2 | none => s)

/-- REGISTER_DATA_SET by a session of a level: Maintainer at least. -/
def execRegisterDataSet (level : Fin 4) (value : BitVec 64) (s : State) : Host.Outcome State Fault Refusal :=
  .next (if level.val < 2 then s else (s.registerSet level.val value.toNat).2)

end Sys2Proof.Machine
end

