-- ==== Sys2Proof/Machine/Life.lean ====
section
/-! DEFINITION. Faults of cores, hot-set banks and regulator phases, the spare record's rewrite, thermal cycles, the management
PHY (R408, R433, R461 to R465, R469). -/

namespace Sys2Proof.Machine

/-! ### Dies that leave service (R449, R461, R464, R467) -/

/-- A memory-side die serves no channel: both tiers, which interleave over it, are out of service (R322). -/
def State.memoryGone (s : State) (die : Nat) : State :=
  let s := { s with dram := { s.dram with failed := s.dram.failed ++ [(0, 48 * die), (1, 4 * die)] } }
  (s.tierLost 0).tierLost 1

/-- A die leaves service with what it carries: a compute die's frets stop, a memory-side die's tiers are lost, an I/O die's rings keep their
lines low, and X0 takes the Vilny link with it (R322, R367, R464, R467). -/
def State.dieGone (s : State) (die : Nat) : State :=
  if s.dieOut die then s
  else
    let s := s.dieLeaves die
    if die < 2 then s.stopFrets [die]
    else if die < 6 then s.memoryGone (die - 2)
    else
      let s := s.closeUnused
      if die = 6 && s.vlk.state ≠ 0 then s.vilnyDown else s

/-- A die is held in reset: its blocks take their pin-reset values (R464). -/
def State.dieReset (s : State) (die : Nat) : State :=
  let s := ((List.range 23).filter fun b => carries die b).foldl (fun s b => (s.resetBlockRegs die b).resetBlockState die b) s
  if die < 2 then { s with frets := s.frets.filter fun p => p.1 / 384 ≠ die } else s

/-! ### Cores (R461, R462) -/

/-- Physical number of a die's spare core. -/
def spareCore (die : Nat) : Nat := if die < 2 then 8 else 4

/-- Is a die's spare core free: it serves for none and has not failed itself (R460, R461)? -/
def State.coreFree (s : State) (die : Nat) : Bool :=
  SMap.get 0 s.life.spare.cores die = 0 && !s.life.spare.badCores.contains die

/-- A control core fails: the die's spare takes its logical number, or the die leaves service. -/
def State.coreFails (s : State) (die core : Nat) : State :=
  let s := s.flag die Reg.ctrlStatus 2
  if s.coreFree die then
    (s.updSpare fun r => { r with cores := SMap.set 0 r.cores die (core + 1) }).logSubst die 16 core core
  else s.dieGone die

/-- The frets that a logical core serves, all at fault: FAULT_LOC holds the last (R81, R174, R430). -/
def State.coreFaultLoc (s : State) (die core : Nat) : State :=
  let col := 2 * core + 1
  s.faultLoc die col (s.physicalRow die col 23) (Config.coreFaultCause die core).toNat

/-- CORE_FAULT (R461): on a compute die a fret fault of every fret that the core serves, on a memory-side die a memory fault; the
spare core loads its firmware in 2 ms, 3,500,000 cycles. -/
def execCoreFault (die : Fin 6) (core : Fin 8) (s : State) : Host.Outcome State Fault Refusal :=
  let d := die.val
  .next (if spareCore d ≤ core.val then s
    else
      let spare := s.coreFree d
      let s := if d < 2 then (s.coreFaultLoc d core.val).stopFrets [d] else s
      let cls := if d < 2 then 2 else 4
      let s := if spare then s.jobFault cls (some 3500000) else (s.breakStep cls none).setFault cls
      s.coreFails d core.val)

/-- A management core fails (R462, R466). -/
def State.mgmtCoreFails (s : State) (core : Nat) : State :=
  if s.life.mgmtFailed.contains core then s
  else ({ s with life := { s.life with mgmtFailed := s.life.mgmtFailed ++ [core] } } : State).relevel 6 16

/-- MANAGEMENT_CORE_FAULT (R462). -/
def execManagementCoreFault (core : Fin 2) (s : State) : Host.Outcome State Fault Refusal := .next (s.mgmtCoreFails core.val)

/-! ### Hot-set banks (R463) -/

/-- The first spare bank of a die that stands in for none and has not failed (R460, R463). -/
def State.freeBank (s : State) (die : Nat) : Option Nat :=
  [60, 61, 62, 63].find? fun p => ((List.range 60).all fun b => s.physBank die b ≠ p) && !s.life.spare.badBanks.contains (die, p)

/-- A logical bank is mapped to a free spare bank, whose contents are lost; without one the die's hot set leaves service. -/
def State.bankFails (s : State) (die bank : Nat) : State :=
  match s.freeBank die with
  | some p =>
    let old := s.physBank die bank
    let s := s.updSpare fun r => { r with
      banks := SMap.set 0 r.banks (die * 64 + bank) (p + 1), badBanks := if 60 ≤ old then r.badBanks ++ [(die, old)] else r.badBanks }
    (s.zeroMem (0x40100000000 + die * 0x8000000 + p * 0x180000) 0x180000).logSubst (2 + die) 8 bank old
  | none =>
    let s := { s with emb := { s.emb with hot := s.emb.hot.filter fun h => h.die ≠ die } }
    s.leaveService (2 + die) 8 0xFFFF

/-- Every owner pushes again the hot rows that a bank held, with the values that its last refresh pushed (R259, R463); the pushes
of the other owners, which bring the same values, are taken with the substitution (log 34). -/
def State.pushAgain (s : State) (die bank : Nat) : State :=
  ((List.range s.modules).flatMap fun k => s.hotPlaces die k).foldl (fun s p =>
    let n := s.rowSize p.1.table p.1.cls
    if p.2 / 0x180000 = bank || (p.2 + n - 1) / 0x180000 = bank then s.hotWrite die p.2 p.1.value else s) s

/-- HOTSET_BANK_FAULT (R312, R463): the new bounds hold the push, whose cost is open (log 23). -/
def execHotsetBankFault (die : Fin 4) (bank : Fin 60) (s : State) : Host.Outcome State Fault Refusal :=
  .next (((s.jobFault 4 (some (Config.bankPush die.val bank.val s.time))).bankFails die.val bank.val).pushAgain die.val bank.val)

/-! ### Regulator phases (R464) -/

/-- REGULATOR_PHASE_FAIL: shed at once; a rail short of more than its two spares takes its die out. -/
def execRegulatorPhaseFail (die : Fin 8) (s : State) : Host.Outcome State Fault Refusal :=
  let d := die.val
  let n := s.life.shed.getD d 0 + 1
  let s := ({ s with life := { s.life with shed := s.life.shed.set d n } } : State).lifeLog 10 d 0 0
  .next (if n ≤ 2 then s
    else
      let s := if d < 2 then ((s.stopFrets [d]).breakStep 2 none).setFault 2
        else if d < 6 then (s.breakStep 4 none).setFault 4 else s
      (s.dieReset d).dieGone d)

/-! ### The spare record, thermal cycles, the management PHY -/

/-- The NV store takes the live maps, the bench substitution and the remap history (R465). -/
def State.rewriteSpares (s : State) : State :=
  ({ s with life := { s.life with nvSpare := ⟨s.life.spare, s.dram.swapped, s.dram.remaps⟩, rewrite := false } } : State).nvPulse 0x20000 0

/-- SPARE_RECORD_REWRITE (R465): the NV store takes the live maps. -/
def execSpareRecordRewrite (s : State) : Host.Outcome State Fault Refusal :=
  .next (if !s.life.rewrite then s
    else s.rewriteSpares)

/-- THERMAL_CYCLE (R469). -/
def execThermalCycle (die : Fin 8) (s : State) : Host.Outcome State Fault Refusal := .next (s.wear (1 + die.val) 1)

/-- MGMT_PHY_LINK (R408, R433): PLCA can be active where it is enabled. -/
def execMgmtPhyLink (up active : Bool) (s : State) : Host.Outcome State Fault Refusal :=
  let plca := up && active && decide (s.reg 6 Reg.mgmtPlca % 256 ≠ 0xFF)
  .next (if s.held 6 17 then s
    else (s.setField 6 Reg.mgmtStatus 0 0 (if up then 1 else 0)).setField 6 Reg.mgmtPlca 16 16 (if plca then 1 else 0))

end Sys2Proof.Machine
end

