-- ==== Sys2Proof/Machine/Reset.lean ====
section
/-! DEFINITION. The two reset sources, what a reset leaves, loss of supply, fault shutdowns, bring-up (R78 to R82, R317, R318,
R322, R324, R325, R351, R367, R424, R434 to R445, R455, R458, R460 to R465, R468 to R470, R474, R476, R477, R490). -/

namespace Sys2Proof.Machine

/-! ### What a reset leaves -/

/-- Registers that a reset keeps: the backup domain's, and after a pin reset the "(kept)" fields (R16, R439). -/
def State.keptRegs (s : State) (power : Bool) : List (Nat × Nat) :=
  [(6, Reg.rstPorCount), (6, Reg.rstPinCount), (6, Reg.rstGlitchCount), (6, Reg.lifeStatus)].map (fun k => (regKey k.1 k.2, s.reg k.1 k.2))
    ++ if power then [] else [2, 3, 4, 5].map fun d => (regKey d Reg.benchStatus, s.reg d Reg.benchStatus &&& 0x100)

/-- An entry as the NV store holds it, or its default (R443). -/
def State.nvNat (s : State) (k : Nat) : Nat :=
  leNat ((SMap.get none s.dict.nv k).getD (((odRow k).map (·.dflt)).getD []))

/-- Every register after a reset: its reset value, the guard mode latched from OD 0x2950.01, MGMT.PLCA as OD 0x2900 sets it
(R16, R408, R424). -/
def State.regsAfter (s : State) (power : Bool) : SMap W64 :=
  let mode := s.nvNat (od 0x2950 1)
  let base := (resetRegs.map fun r => if r.1 % 0x10000 = 8 then (r.1, BitVec.ofNat 64 (4 * mode)) else r).filter fun r => r.2 ≠ 0
  let plca := (regKey 6 Reg.mgmtPlca, s.nvNat (od 0x2900 2) * 256 + s.nvNat (od 0x2900 1))
  (plca :: s.keptRegs power).foldl (fun m r => SMap.set 0 m r.1 (BitVec.ofNat 64 r.2)) base

/-- The embedding engines with no step in progress. -/
def Emb.settled (e : Emb) (step : Nat) : Emb := { (e.discard step).revertShards step with hot := [], push := [], install := none, rows := [], out := [] }

/-- A write that the controllers have accepted is done (R324): its unit's, a node's, or an addition's. -/
def State.doneWrite (s : State) (r : MemReq) : State :=
  let add := fun width (f : Nat → Nat) => if s.poisoned r.addr width then s else s.store r.addr (natLE width (f (s.memNat r.addr width)))
  if !s.mappedRange r.addr r.size then s
  else match r.work, r.write with
    | .addI64 _ _ b, _ => add 8 fun old => (old + b) % pow2 64
    | .addF32 _ _ b, _ => add 4 fun old => (Fp.addSat (BitVec.ofNat 32 old) (BitVec.ofNat 32 b)).1.toNat
    | .copy _ _ dst true, _ =>
      if s.poisoned r.addr r.len || !s.mappedRange (dst % 0x200000000000) r.len then s
      else s.store (dst % 0x200000000000) (s.readMem r.addr r.len)
    | _, some b => s.store r.addr b
    | _, none => s

/-- The controllers complete every write they have accepted, in order (R306, R324). -/
def State.completeWrites (s : State) : State :=
  let s : State := s.dram.queue.foldl State.doneWrite s
  { s with dram := { s.dram with queue := [] } }

/-- What a reset leaves: the state of `State.reset` but for the backup domain, the NV store, OTP, the life records, the
memories and what stands for them; the dictionary's entries have their defaults until bring-up restores the settings (R439, R443). -/
def State.cleared (s : State) (power : Bool) : State :=
  let t : State := { State.reset with
    pending := s.pending, time := s.time, free := s.free, regs := s.regsAfter power
    mem := SMap.eraseRange s.mem 0x40100000000 0x20000000
    num := { Num.reset with nv := s.num.nv }
    emb := s.emb.settled s.curStep
    upd := { Upd.reset with recs := s.upd.recs, journal := s.upd.journal, carried := s.upd.carried }
    dram := { s.dram with rowErrs := [], training := [], latest := 0, deferred := [], window := false, replies := [], queue := [] }
    adm := { Adm.reset with
      highId := s.adm.highId
      abandoned := match s.upd.snap with
        | some n => some (n.frame, n.step.getD s.curStep)
        | none => s.adm.abandoned }
    dict := { Dict.reset with nv := s.dict.nv }
    rst := { s.rst with
      pinWait := false, asserted := true, phase := 0, times := State.reset.rst.times, dieState := State.reset.rst.dieState
      dieTarget := State.reset.rst.dieTarget, waking := false, restSaved := false, blockReset := [], clockLost := [] }
    life := { s.life with change := none, units := [], mgmtFailed := [] }
    sec := { s.sec with
      otp := none, running := 3, runningSvn := 0, mismatch := false, recovery := false, fallback := false, failTimes := []
      locked := false, nonce := none, report := none } }
  { t with slow := ⟨0, [], t.slowCopies 0⟩ ::
      if power then [⟨0, [], t.slowCopies 1⟩, ⟨0, [], t.slowCopies 2⟩] else [1, 2].map fun w => { s.slowWin w with epoch := 0, copies := t.slowCopies w } }

/-! ### Reset records (R440) -/

/-- The phase that a reset abandons. -/
def State.abandons (s : State) : Nat := if s.rst.phase < 7 then s.rst.phase else 0xFF

/-- Write a reset record and its life-log entry. -/
def State.resetRecord (s : State) (cause delay phase : Nat) : State :=
  let b := fun (x : Bool) k => if x then pow2 k else 0
  let flags := b s.rst.keep 0 + b (0 < delay) 1 + b (phase ≠ 0xFF) 2 + b s.rst.lost 3
  let r := u8 cause ++ u8 flags ++ u8 phase ++ u8 0 ++ c32 delay ++ u64 s.calendarNs ++ u64 s.committedWord ++ u32 s.adm.highId ++ u32 0
  let s := { s with rst := { s.rst with records := (r :: s.rst.records).take 64 } }
  s.lifeLog (if cause ≤ 2 then 5 else 7) 0xFF 0 (if cause ≤ 2 then cause + 256 * flags else 0)

/-- What a power-on reset writes in phase 0: a lost backup domain is zeroed, the reset is counted and its record written (R439, R440). -/
def State.powerRecord (s : State) : State :=
  if !s.rst.power then s
  else
    let s := if !s.rst.lost then s
      else
        let s := [Reg.rstPorCount, Reg.rstPinCount, Reg.rstGlitchCount].foldl (fun s r => s.setReg 6 r 0) s
        let s : State := { s with
          upd := { s.upd with recs := Upd.reset.recs }, adm := { s.adm with highId := 0, abandoned := none }, life := { s.life with bk := [] }
          rst := { s.rst with records := [], keep := false, calendar := 0, calValid := false } }
        let s := s.clearReg 6 Reg.lifeStatus 6
        { s with slow := [s.slowWin 0, ⟨0, [], s.slowCopies 1⟩, ⟨0, [], s.slowCopies 2⟩] }
    let s := ((s.bump 6 Reg.rstPorCount 1).wear 9 1).resetRecord 1 0 s.rst.abandoned
    { s with
      adm := { s.adm with highId := 0 }
      rst := { s.rst with lost := false, foundLost := s.rst.foundLost || s.rst.lost } }

/-- Phase 0 (R439, R441): a power-on reset's record, and BACKUP_LOST where the domain was found lost. -/
def State.phase0 (s : State) : State :=
  let s := s.powerRecord
  if s.rst.foundLost then s.flag 6 Reg.rstStatus 4 else s

/-! ### Pin resets (R435 to R437, R444) -/

/-- Does a pin reset keep memory (R444)? -/
def State.keeps (s : State) : Bool := s.rst.keep && s.rst.memValid.all (· = true)

/-- The keep steps of phase 4 (R324, R444): the journal's pre-images go back and the journal is emptied; a record that fails its check voids
the keep. -/
def State.keepSteps (s : State) : State :=
  let r := s.rewind
  let o := if !r.2 then 3 else if s.upd.journal.isEmpty then 1 else 2
  let s := if r.2 then r.1.emptyJournals else s
  { s with rst := { s.rst with keepOutcome := o } }

/-- The internal reset asserts, after a wait in µs (R437, R440). A power-on reset whose phase 0 has not ended is recorded first; that its
bring-up found the backup domain lost is told in the next phase 0. PWR_OK is low until phase 1 (R494). -/
def State.internalReset (s : State) (delay : Nat) : State :=
  let phase := s.abandons
  let s := if phase = 0 then s.powerRecord else { s with rst := { s.rst with foundLost := false } }
  let s := (s.tellLevel.resetRecord 2 delay phase).completeWrites
  let s := ((s.bump 6 Reg.rstPinCount 1).wear 9 1).flushCounters
  let s := s.cleared false
  { s with
    adm := { s.adm with highId := 0 }
    rst := { s.rst with
      asserted := !s.rst.resetN, power := false, delay := delay, delayed := decide (0 < delay), abandoned := phase, pwrOk := false } }

/-- Sub-pulses of an erase take 2 ms each. -/
def subPulseNs : Nat := 2000000

/-- The sub-pulses that an erase has done at a time; `started` counts the one in progress too, and none beyond those it needs. -/
def NvErase.doneAt (e : NvErase) (t : Nat) (started : Bool) : Nat :=
  match e.since with
  | none => e.done
  | some a => min (Config.nvSubPulses e.block) (e.done + (t - a) / subPulseNs + if started then 1 else 0)

/-- Is a sub-pulse of an erase in progress? -/
def NvErase.running (e : NvErase) (t : Nat) : Bool := e.since.isSome && decide (e.doneAt t false < Config.nvSubPulses e.block)

/-- Erases are suspended after the sub-pulses that count as done at a time (R437, R438). -/
def State.suspendErases (s : State) (t : Nat) (started : Bool) : State :=
  let now := s.rst.erases.map fun e => ({ e with done := e.doneAt t started, since := none } : NvErase)
  { s with rst := { s.rst with erases := now.filter fun e => decide (e.done < Config.nvSubPulses e.block) } }

/-- They are resumed in phase 6. -/
def State.resumeErases (s : State) : State :=
  { s with rst := { s.rst with erases := s.rst.erases.map fun e => { e with since := some s.time } } }

/-- Is a pulse of the NV store in progress: a program pulse of at most 2.1 ms, or a sub-pulse of an erase (R437)? -/
def State.pulsing (s : State) : Bool :=
  (match s.rst.pulse with | some t => decide (s.time < t + 2100000) | none => false) || s.rst.erases.any fun e => e.running s.time

/-- A pin reset starts: a reset waits for the pulse in progress, and the erases are suspended after it. -/
def State.pinStart (s : State) : State :=
  if !s.rst.vin || s.rst.off || s.rst.asserted || s.rst.pinWait then s
  else
    let s := s.stopFrets [0, 1]
    let t := s.suspendErases s.time true
    if s.pulsing then { t with rst := { t.rst with pinWait := true } } else t.internalReset 0

/-- PIN_RESET: RESET_N has been low for 2 µs. -/
def execPinReset (s : State) : Host.Outcome State Fault Refusal :=
  .next (({ s with rst := { s.rst with resetN := false } } : State).pinStart)

/-- INTERNAL_RESET: the NV store's pulse has ended. -/
def execInternalReset (waited : Nat) (s : State) : Host.Outcome State Fault Refusal :=
  .next (if s.rst.pinWait then s.internalReset waited else s)

/-- RESET_N returns high: phase 0 starts. -/
def State.pinRelease (s : State) : State :=
  { s with rst := { s.rst with resetN := true, asserted := s.rst.asserted && (!s.rst.vin || s.rst.off) } }

/-- A low time below 2 µs. -/
def State.glitch (s : State) (low : Nat) : State :=
  let s := (s.bump 6 Reg.rstGlitchCount 1).flag 6 Reg.rstStatus 2
  if s.rst.phase = 7 then s.event 0x0702 (u32 (low / 40 * 40)) else s

/-- RESET_N_RELEASE (R435, R436): a low time within 40 ns of 2 µs may be taken either way. -/
def execResetNRelease (low : Nat) (asReset : Bool) (s : State) : Host.Outcome State Fault Refusal :=
  .next (if !s.rst.resetN then s.pinRelease
    else if !s.rst.vin || s.rst.off then s
    else if low + 40 ≤ 2000 || (low < 2040 && !asReset) then s.glitch low
    else (({ s with rst := { s.rst with resetN := false } } : State).pinStart).pinRelease)

/-! ### Supplies (R438, R439, R455, R458) -/

/-- What only VIN_42 feeds is lost; every register takes its reset value. -/
def State.unpowered (s : State) : State :=
  let s := s.cleared true
  { s with
    time := 0, mem := [], upd := { s.upd with journal := [], carried := [] }, emb := Emb.reset
    dram := { s.dram with poison := [] }
    rst := { s.rst with
      pulse := none, pwrOk := false, power := true, delay := 0, delayed := false, memValid := State.reset.rst.memValid, keepOutcome := 0 } }

/-- The rails fall. Within the hold-up of 3 ms the counters reach FRAM and the NV store's pulses end; the sub-pulse of an erase that it cuts
short is repeated (R438, R469). -/
def State.railsFall (s : State) : State :=
  let phase := s.abandons
  let s := ((s.tellLevel.flushCounters).suspendErases (s.time + 3000000) false).unpowered
  { s with rst := { s.rst with abandoned := phase } }

/-- VIN_LOSS: the module is Off. With VBAK absent too, the backup domain is lost. -/
def execVinLoss (s : State) : Host.Outcome State Fault Refusal :=
  .next (if !s.rst.vin then s
    else
      let s := if s.rst.off then s else s.railsFall
      { s with rst := { s.rst with vin := false, off := false, lost := s.rst.lost || !s.rst.vbak, vinMv := 0 } })

/-- VBAK_LOSS. -/
def execVbakLoss (s : State) : Host.Outcome State Fault Refusal :=
  .next { s with rst := { s.rst with vbak := false, lost := s.rst.lost || !s.rst.vin } }

/-- POWER_ON_RESET (R434, R455): every register has its reset value, and bring-up begins at phase 0; VBAK counts as present again
(log 29). -/
def execPowerOnReset (s : State) : Host.Outcome State Fault Refusal :=
  .next (if s.rst.vin then s
    else
      let t := s.unpowered
      { t with rst := { t.rst with
        vin := true, vbak := true, off := false, asserted := !s.rst.resetN, phase := 0, power := true, vinMv := 42000
        foundLost := s.rst.foundLost && s.rst.abandoned = 0 } })

/-- FAULT_SHUTDOWN (R440, R458): its record is written before the rails fall, after that of a power-on reset still in phase 0. -/
def execFaultShutdown (thermal : Bool) (s : State) : Host.Outcome State Fault Refusal :=
  .next (if !s.rst.vin || s.rst.off then s
    else
      let phase := s.abandons
      let t := if phase = 0 then s.powerRecord else s
      let t := (t.resetRecord (if thermal then 4 else 3) 0 phase).railsFall
      { t with rst := { t.rst with off := true } })

/-! ### Bring-up (R441) -/

/-- Domains that REFCLK feeds (R446). -/
def refFed (domain : Nat) : Bool := domain ≤ 6

/-- Clock domains of a die (R446). -/
def domainsOf (die : Nat) : List Nat :=
  if die < 2 then [0, 6, 9] else if die < 6 then [1, 2, 3, 6, 9] else if die = 6 then [4, 5, 6, 7, 8, 9] else [4, 6, 9]

/-- Phase 1: a domain that is good is in CLK.GOOD; one that is not is held, with what a bad REFCLK feeds (R448, R487). PWR_OK is
high. -/
def State.phase1 (s : State) (found : PhaseFindings) : State :=
  let isBad := fun (d k : Nat) => found.badClocks.any fun b => b.1.val = d && b.2.val = k
  let s := (List.range 8).foldl (fun s d =>
    let bad := (domainsOf d).filter fun k => isBad d k || (refFed k && isBad d 9)
    (s.setReg d Reg.clkGood (((domainsOf d).filter fun k => !bad.contains k).map pow2).sum).setReg d Reg.clkHeld (bad.map pow2).sum) s
  { s with rst := { s.rst with pwrOk := true } }

/-- Does the module match its certificate (R474)? -/
def identityHolds (c : IdentityCheck) : Bool := c.key = c.certKey && c.parts = c.certParts

/-- Do an image's signatures do in a boot: the vendor's, and the owner's where a slot is enrolled (R476)? -/
def State.bootOk (s : State) (c : ImageCheck) : Bool :=
  c.vendor && match s.ownerSlot with
    | 0 => true
    | 1 => c.slot1
    | _ => c.slot2

/-- Phase 2: identity, then the image that OD 0x1030.01 selects, the other image, or the boot ROM (R474, R476, R477). -/
def State.phase2 (s : State) (found : PhaseFindings) : State :=
  let s := if identityHolds found.identity then s
    else ({ s with sec := { s.sec with mismatch := true } } : State).lifeLog Config.mismatchKind.toNat 0xFF 0 0
  let ok := fun i => match s.sec.images[i]? with
    | some m => m.present && s.bootOk (if i = 0 then found.images.1 else found.images.2) && decide (s.sec.counter ≤ m.svn)
    | none => false
  let svn := fun i => ((s.sec.images[i]?).map (·.svn)).getD 0
  let run := fun (s : State) i => { s with sec := { s.sec with running := i, runningSvn := svn i } }
  let i := s.nvNat (od 0x1030 1)
  if ok i then run s i
  else if ok (1 - i) then
    let s := run s (1 - i)
    (({ s with sec := { s.sec with fallback := true } } : State).flag 6 Reg.secStatus 0).lifeLog 8 0xFF 0 (svn (1 - i))
  else { s with sec := { s.sec with recovery := true } }

/-- A physical fret that its self-test or the spare record names as failed (R80, R82). -/
def State.testFret (s : State) (die col phys : Nat) : State :=
  match s.logicalRow die col phys with
  | none => if phys = 24 && (s.bypassed die col).isNone then s.markFailed die col phys else s
  | some _ => if s.spareFree die col then s.bypassFret die col phys else (s.markFailed die col phys).dieGone die

/-- A physical core that its check names as failed: a management core, a core that serves its own logical number, the spare that serves
another's, or a spare that serves none and is no longer free (R460, R461). -/
def State.testCore (s : State) (die core : Nat) : State :=
  let sub := SMap.get 0 s.life.spare.cores die
  if die = 6 then (if core < 2 then s.mgmtCoreFails core else s)
  else if 6 ≤ die then s
  else if core = spareCore die then
    (if sub = 0 then
      let s := s.flag die Reg.ctrlStatus 2
      if s.life.spare.badCores.contains die then s
      else (s.updSpare fun r => { r with badCores := r.badCores ++ [die] }).logSubst die 16 core core
    else s.coreFails die (sub - 1))
  else if spareCore die < core || sub = core + 1 then s
  else s.coreFails die core

/-- A physical hot-set bank that its test names as failed: one in use is mapped out, a spare is no longer free (R460, R463). -/
def State.testBank (s : State) (die bank : Nat) : State :=
  match (List.range 60).find? fun b => s.physBank die b = bank with
  | some b => s.bankFails die b
  | none =>
    if bank < 60 || s.life.spare.badBanks.contains (die, bank) then s
    else (s.updSpare fun r => { r with badBanks := r.badBanks ++ [(die, bank)] }).logSubst (2 + die) 8 bank bank

/-- Phase 3: self-test and substitution. Where memory is not kept, zero fill starts next (R444). -/
def State.phase3 (s : State) (found : PhaseFindings) : State :=
  let s := s.life.spare.failed.foldl (fun s f => s.testFret f.1 f.2.1 f.2.2) s
  let s := found.badFrets.foldl (fun s f => s.testFret f.1.val f.2.1.val f.2.2.val) s
  let s := found.badCores.foldl (fun s c => s.testCore c.1 c.2) s
  let s := found.badBanks.foldl (fun s b => s.testBank b.1.val b.2.val) s
  let s := ((List.range 8).filter fun d => decide (2 < s.life.shed.getD d 0)).foldl (fun s d => s.dieGone d) s
  if s.keeps then s
  else { s with rst := { s.rst with memValid := State.reset.rst.memValid } }

/-- The spare bench package stands in for the first package that is marked (R322). -/
def State.benchSubst (s : State) : State :=
  match s.dram.subst, s.dram.swapped with
  | k :: rest, [] =>
    let s := { s with dram := { s.dram with subst := rest, swapped := [k] } }
    let s := [2, 3, 4, 5].foldl (fun s d => s.clearReg d Reg.benchStatus 0x100) s
    let s := rest.foldl (fun s k => s.flag (2 + k / 4) Reg.benchStatus 8) s
    ({ s with life := { s.life with rewrite := true } } : State).logSubst (2 + k / 4) 11 k k
  | _, _ => s

/-- Zero fill of both tiers (R325). -/
def State.zeroFill (s : State) : State :=
  { s with
    mem := [], emb := Emb.reset, upd := { s.upd with journal := [], carried := [] }
    dram := { s.dram with poison := [] } }

/-- Make one remap permanent in the first way still available to its bank: hard repair, on HBM soft repair, else a controller spare;
the resources that are left (R318). -/
def State.repairOne (acc : State × List (Nat × Nat × Nat × Nat × Nat)) (r : Remap) :
    State × List (Nat × Nat × Nat × Nat × Nat) :=
  let s := acc.1
  let mine := fun (x : Nat × Nat × Nat × Nat × Nat) => x.1 = r.tier && x.2.1 = r.chan && x.2.2.1 = r.bank
  let left := ((acc.2.find? mine).map (·.2.2.2)).getD (0, 0)
  let rest := fun (l : Nat × Nat) => acc.2.map fun x => if mine x then (r.tier, r.chan, r.bank, l) else x
  let put := fun (r : Remap) => { s with dram := { s.dram with remaps := s.dram.remaps ++ [r] } }
  if 0 < left.1 then (put { r with kind := .hard, copying := false }, rest (left.1 - 1, left.2))
  else if r.tier = 0 && 0 < left.2 then (put { r with kind := .soft, copying := false }, rest (left.1, left.2 - 1))
  else
    let n := if r.kind = .soft then (s.freeSpare ⟨r.tier, r.chan, r.bank, r.row, 0⟩).getD r.spare else r.spare
    (put { r with kind := .spare, copying := false, spare := n }, acc.2)

/-- Apply the remap history (R318): hard repairs and failed spares stay as they are; of the others those that controller spares hold
come first, which keep their spares. -/
def State.repairAll (s : State) (left : List (Nat × Nat × Nat × Nat × Nat)) : State :=
  let old := s.dram.remaps
  (((old.filter fun r => r.kind = .spare) ++ old.filter fun r => r.kind = .soft).foldl State.repairOne
    ({ s with dram := { s.dram with remaps := old.filter fun r => r.kind = .hard || r.kind = .failed } }, left)).1

/-- The settings that training, the keep steps and the rings need before the dictionary is loaded, OD 0x2200 to 0x25FF, are read from the NV
store as phase 4 starts (DESIGN CHOICE, log 29). -/
def State.readSettings (s : State) : State :=
  { s with dict := { s.dict with od := s.dict.nv.filter fun e => decide (od 0x2200 0 ≤ e.1) && decide (e.1 < od 0x2600 0) } }

/-- Phase 4: training with spare lanes, repair, the retired bands, then zero fill or the keep steps. Phase 5 starts with every
used ring's ports in loopback (R351). -/
def State.phase4 (s : State) (found : PhaseFindings) : State :=
  let s := s.readSettings.benchSubst
  let s := { s with dram := { s.dram with failed := [], retired := s.dram.retired.map fun (b : Band) => { b with out := true } } }
  let s := found.laneSpares.foldl State.switchLane s
  let s := (found.badChannels.filter fun c => !s.dram.failed.contains c).foldl (fun s c => s.chanFails c.1 c.2) s
  let s := s.repairAll found.repairs
  let s := [2, 3, 4, 5].foldl (fun s d => if s.dieOut d then s.memoryGone (d - 2) else s) s
  let s := if s.keeps then s.keepSteps else { s with rst := { s.rst with keepOutcome := 0 } }
  let s := if s.rst.keepOutcome = 1 || s.rst.keepOutcome = 2 then s else s.zeroFill
  let s := { s with rst := { s.rst with memValid := [true, true, true, true] } }
  [0, 1, 2].foldl (fun s r => if !s.ringUsed r then s
    else (ringPorts r).foldl (fun s p => if s.dieOut (portDie p) then s else s.updPort p fun x => { x with state := 1 }) s) s

/-- Phase 5: the Vilny link, with the spare in place of a lane that did not train (R367). -/
def State.phase5 (s : State) (found : PhaseFindings) : State :=
  let one := fun (ok : BitVec 9) => (List.finRange 8).find? fun k => !ok.getLsbD k.val
  let sp := s.vilnySpare (one found.vilnyLanes.tx, one found.vilnyLanes.rx)
  if s.vilnyOut then s
  else if found.vilnyUp && vilnyLanesOk found.vilnyLanes sp then s.vilnyTrained found.vilnyLanes sp else s.vilnyDown

/-- RST.CAUSE, from the newest record. -/
def State.causeWord (s : State) : Nat :=
  let r := s.rst.records.headD []
  let flags := leAt r 1 1
  (bits flags 1 1 <<< 17) + (bits flags 0 0 <<< 16) + leAt r 2 1 * 256 + leAt r 0 1

/-- Guard locks at the end of bring-up (R424); LOCK reads zero in mode 0. -/
def State.lockGuards (s : State) : State :=
  let m := s.odNat (od 0x2950 2)
  (List.range 8).foldl (fun s d => (List.range 23).foldl (fun s b =>
    if carries d b && bits m b b = 1 && s.guardMode d b ≠ 0 then s.flag d (guardReg b) 0 else s) s) s

/-- The dictionary is loaded: the stored settings are restored (R443). -/
def State.loadSettings (s : State) : State := { s with dict := { s.dict with od := s.dict.nv } }

/-- The unit that stands as the cause of the level at the end of bring-up: the lowest die's (R468), or SEC in recovery. -/
def State.causeUnit (s : State) : Nat × Nat :=
  let die := (s.life.units.map (·.1)).min?
  match die.bind fun d => s.life.units.find? fun u => u.1 = d with
  | some u => (u.1, u.2.1)
  | none => if s.sec.recovery then (6, 21) else (0, 0)

/-- The module time that service begins with, and the events of a delayed reset (R437, R441). -/
def State.startService (s : State) : State :=
  let s := (if s.isMaster then { s with time := s.calendarNs } else s : State).showMaster
  if s.rst.delayed then s.event 0x0701 (c32 s.rst.delay) else s

/-- The registers that phase 6 sets: the cause word and the slot (R440, R494). -/
def State.showCause (s : State) : State :=
  let cause := s.causeWord
  let s := (List.range 8).foldl (fun s d => s.setReg d Reg.rstCause cause) s
  { s with rst := { s.rst with slotId := (Config.slotStraps s.time).toNat } }

/-- The module is in service (R441). -/
def State.enterService (s : State) : State := { s with rst := { s.rst with delayed := false, phase := 7 } }

/-- Phase 6: the dictionary, guard locks, RST.CAUSE on every die, the event log, the straps, the master's time, the spare record, NV erases,
the service level (R356, R424, R437, R443, R465, R468, R490). -/
def State.phase6 (s : State) : State :=
  let s := (s.loadSettings.lockGuards.showCause).startService
  let s := (if s.life.rewrite then s.rewriteSpares else s).resumeErases
  let u := s.causeUnit
  s.enterService.relevel u.1 u.2

/-- The work of a phase. -/
def State.phaseWork (s : State) (found : PhaseFindings) : State :=
  match s.rst.phase with
  | 0 => s.phase0
  | 1 => s.phase1 found
  | 2 => s.phase2 found
  | 3 => s.phase3 found
  | 4 => s.phase4 found
  | 5 => s.phase5 found
  | _ => s.phase6

/-- Is a bring-up phase running? -/
def State.bringing (s : State) : Bool := s.rst.vin && !s.rst.off && !s.rst.asserted && decide (s.rst.phase < 7)

/-- BRINGUP_PHASE_DONE (R441, R442). -/
def execBringupPhaseDone (found : PhaseFindings) (s : State) : Host.Outcome State Fault Refusal :=
  .next (if !s.bringing then s
    else
      let k := s.rst.phase
      let s := s.phaseWork found
      { s with rst := { s.rst with times := s.rst.times.set k found.micros, phase := k + 1 } })

/-- PHASE_OVER (R442): the unit that held the phase up leaves service. -/
def execPhaseOver (die : Fin 8) (block unit : Nat) (s : State) : Host.Outcome State Fault Refusal :=
  .next (if !s.bringing then s
    else
      let s := s.flag 6 Reg.rstStatus 3
      if block = dieBlock die.val && unit = 0xFFFF then s.dieGone die.val else s.leaveService die.val block unit)

end Sys2Proof.Machine
end

