-- ==== Sys2Proof/Machine/Power.lean ====
section
/-! DEFINITION. Clock supervision, power states, input and temperature flags (R81, R312, R354, R367, R446, R448 to R457). -/

namespace Sys2Proof.Machine

/-! ### Clocks (R448, R449) -/

/-- Blocks of a die that a domain clocks; RST, CLK, PWR and SEC supervise the clocks and are not held (log 29). -/
def domainBlocks (die domain : Nat) : List Nat :=
  (List.range 23).filter fun b => carries die b && blockDomain b = domain && !(18 ≤ b && b ≤ 21)

/-- A domain's bit moves between CLK.GOOD and CLK.HELD. -/
def State.holdDomain (s : State) (die domain : Nat) : State :=
  (s.clearReg die Reg.clkGood (pow2 domain)).flag die Reg.clkHeld domain

/-- The state of a domain's blocks is lost: they take their reset values (R445, R449). The units that the spec names for each die
lose what they hold. -/
def State.loseDomain (s : State) (die domain : Nat) : State :=
  let s := (domainBlocks die domain).foldl (fun s b => (s.resetBlockRegs die b).resetBlockState die b) s
  if domain = 0 then
    let s := { s with frets := s.frets.filter fun p => p.1 / 384 ≠ die }
    (s.setCDie die { CDie.reset with failed := (s.cdie die).failed, out := (s.cdie die).out }).updBoard fun b =>
      { b with phases := b.phases.filter fun p => p.die ≠ die }
  else if domain = 1 then { s with slanes := s.slanes.filter fun p => stackDie p.1 + 2 ≠ die }
  else if domain = 6 && die = 6 then
    { s with
      fab := { s.fab with sync := [] }
      adm := { s.adm with frames := [], steps := [], streams := [], behind := [] } }
  else s

/-- A fabric port's transmit clock, or its die's, is gone: a port that is up fails (R354). -/
def State.portGone (s : State) (k : Nat) : State := if (s.port k).state = 0 then s else s.portFails k

/-- What the loss of a domain does to the job (R449). -/
def State.domainEffect (s : State) (die domain : Nat) : State :=
  if (domain = 0 || domain = 6) && die < 2 then (s.stopFrets [die]).jobFault 2 (some 0)
  else if (1 ≤ domain && domain ≤ 3) || (domain = 6 && die < 6) then s.jobFault 4 (some 0)
  else if domain = 4 || domain = 6 then
    (if die = 6 then [0, 1, 2] else [3, 4, 5]).foldl (fun s k => s.portGone k) s
  else if domain = 5 then (if s.vlk.state = 0 then s else s.vilnyDown)
  else if domain = 7 then s.clearReg 6 Reg.mgmtStatus 1
  else s

/-- A domain of a die stops being good after release. -/
def State.loseClock (s : State) (die domain : Nat) : State :=
  let s := ((s.domainEffect die domain).loseDomain die domain).holdDomain die domain
  { s with rst := { s.rst with
    clockLost := if s.rst.clockLost.contains (die * 16 + domain) then s.rst.clockLost else s.rst.clockLost ++ [die * 16 + domain] } }

/-- Is a domain of a die good? -/
def State.clockIsGood (s : State) (die domain : Nat) : Bool := bits (s.reg die Reg.clkGood) domain domain = 1

/-- CLOCK_UNSTABLE (R449): with REFCLK, every domain that it feeds on the die is held, and module time is unlocked. -/
def execClockUnstable (die : Fin 8) (domain : Fin 10) (s : State) : Host.Outcome State Fault Refusal :=
  let d := die.val
  let k := domain.val
  .next (if !(domainsOf d).contains k || !s.clockIsGood d k then s
    else
      let fed := if k = 9 then (domainsOf d).filter fun x => refFed x && s.clockIsGood d x else []
      let s := (k :: fed).foldl (fun s x => s.loseClock d x) s
      let s := if k = 9 then (s.flag d Reg.clkStatus 1).setTimeStatus false 6 else s
      let s := ((s.flag d Reg.clkStatus 0).bump d Reg.clkUnstableCount 1).setReg d Reg.clkLastFail (0x80000000 + k)
      s.event 0x0703 (u8 d ++ u8 k))

/-- CLOCK_GOOD (R448): the domain's blocks are released again. -/
def execClockGood (die : Fin 8) (domain : Fin 10) (s : State) : Host.Outcome State Fault Refusal :=
  let d := die.val
  let k := domain.val
  .next (if !(domainsOf d).contains k then s
    else
      let s := ((s.flag d Reg.clkGood k).clearReg d Reg.clkHeld (pow2 k)).resumeMemory
      { s with rst := { s.rst with clockLost := s.rst.clockLost.filter fun x => x ≠ d * 16 + k } })

/-- CLOCK_RECOVERY_LIMIT (R449): not good again within 10 ms, the domain leaves its die out of service. -/
def execClockRecoveryLimit (die : Fin 8) (domain : Fin 10) (s : State) : Host.Outcome State Fault Refusal :=
  .next (if s.rst.clockLost.contains (die.val * 16 + domain.val) then s.dieGone die.val else s)

/-! ### Power states (R450 to R454) -/

/-- Exit latency in ns. -/
def exitNs (st : Nat) : Nat := match st with | 1 => 2000 | 2 => 180000 | 3 => 25000000 | _ => 0

/-- Is the module idle (R451)? -/
def State.moduleIdle (s : State) : Bool :=
  s.adm.frames.isEmpty && s.adm.behind.isEmpty && s.adm.streams.isEmpty && s.upd.snap.isNone && !s.rst.waking

/-- Does the Rest region conflict (R453): with a configured region or a retired band, or outside HBM? -/
def State.restConflict (s : State) : Bool :=
  let r := s.restRegion
  !s.regionOk r || s.regions.any fun x => rangesMeet r.base r.size x.base x.size

/-- May the module enter a state (R451 to R453)? -/
def State.permits (s : State) (st : Nat) : Bool :=
  exitNs st ≤ s.odNat (od 0x1200 1) && (st ≤ 2 || !(decide (1 < s.modules) && s.fnState 2 = 1)) && (st ≤ 2 || !s.restConflict)

/-- A die that is held in Run (R452). -/
def State.heldRun (s : State) (die : Nat) : Bool := s.reg die Reg.pwrCtrl % 2 = 1

/-- The state that a die enters next (R451, R452): the next deeper one that is permitted, or Run where it is held there. -/
def State.deeper (s : State) (die : Nat) : Nat :=
  let t := s.rst.dieTarget.getD die 0
  if s.heldRun die then 0 else if t < 3 && s.permits (t + 1) then t + 1 else t

/-- POWER_STATE_ENTRY (R451): the next deeper state begins on every die. -/
def execPowerStateEntry (s : State) : Host.Outcome State Fault Refusal :=
  .next (if s.rst.phase ≠ 7 || s.rst.asserted || s.rst.pinWait || !s.moduleIdle then s
    else
      let s := if s.rst.dieTarget.contains 2 && s.restConflict && exitNs 3 ≤ s.odNat (od 0x1200 1) then
          (List.range 8).foldl (fun s d => s.flag d Reg.pwrStatus 1) s else s
      { s with rst := { s.rst with dieTarget := (List.range 8).map s.deeper } })

/-! ### The Rest region (R453): a fret's contents at fret index × 0xA0000, in the order SRAM, accumulator file, spill buffer, slots
(DESIGN CHOICE, log 29) -/

/-- Bytes of a fret in the region. -/
def restBytes : Nat := 0xA0000

/-- Place cells from an address up; words as 4 bytes each. -/
def placeCells (m : SMap Byte) (a : Nat) (cells : SMap Byte) : SMap Byte := cells.foldl (fun m c => SMap.set 0 m (a + c.1) c.2) m
def placeWords (m : SMap Byte) (a : Nat) (cells : SMap F32) : SMap Byte :=
  cells.foldl (fun m c => SMap.setMany 0 m (a + 4 * c.1) (natLE 4 c.2.toNat)) m
/-- Take the cells of a range; the words of a range. -/
def takeCells (m : SMap Byte) (a n : Nat) : SMap Byte :=
  (m.filter fun c => decide (a ≤ c.1) && decide (c.1 < a + n)).map fun c => (c.1 - a, c.2)
def takeWords (m : SMap Byte) (a n : Nat) : SMap F32 :=
  (takeCells m a n).foldl (fun w c => SMap.modify 0 w (c.1 / 4) fun v => v + BitVec.ofNat 32 (c.2.toNat * pow2 (8 * (c.1 % 4)))) []

/-- Save one fret of a die that is switched off. -/
def State.saveFret (s : State) (i : Nat) : State :=
  let a := s.restRegion.base + i * restBytes
  let f := s.fret i
  let m := placeCells (placeCells (placeCells s.mem a f.sram) (a + 0x98000) f.img0) (a + 0x9C000) f.img1
  let s := { s with mem := placeWords (placeWords m (a + 0x40000) f.acc) (a + 0x88000) f.spill }
  s.setFret i { f with sram := [], img0 := [], img1 := [], acc := [], spill := [] }

/-- Restore one fret. -/
def State.restoreFret (s : State) (i : Nat) : State :=
  let a := s.restRegion.base + i * restBytes
  s.updFret i fun f => { f with
    sram := takeCells s.mem a 0x40000, acc := takeWords s.mem (a + 0x40000) 0x48000, spill := takeWords s.mem (a + 0x88000) 0x10000
    img0 := takeCells s.mem (a + 0x98000) 0x4000, img1 := takeCells s.mem (a + 0x9C000) 0x4000 }

/-- A compute die's contents go to the region, or come back from it. -/
def State.saveDie (s : State) (die : Nat) : State :=
  let n := 384 * restBytes
  let t := s.zeroStore (s.restRegion.base + die * n) n
  (t.frets.filter fun p => p.1 / 384 = die).foldl (fun s p => s.saveFret p.1) t
def State.restoreDie (s : State) (die : Nat) : State :=
  (List.range 384).foldl (fun s k => s.restoreFret (die * 384 + k)) s

/-- The dies whose state differs from a list of states take it; each change sets STATE_CHANGE. -/
def State.takeStates (s : State) (new : List Nat) : State :=
  let s := (List.range 8).foldl (fun s d =>
    if s.rst.dieState.getD d 0 = new.getD d 0 then s else s.flag d Reg.pwrStatus 0) s
  { s with rst := { s.rst with dieState := new, dieTarget := new } }

/-- Is a compute die in Rest? -/
def State.resting (s : State) (die : Nat) : Bool := s.rst.dieState.getD die 0 = 3

/-- POWER_STATE_SETTLED: the entry is complete; Rest has saved what the compute dies held (R453). -/
def execPowerStateSettled (s : State) : Host.Outcome State Fault Refusal :=
  .next (if s.rst.waking || s.rst.dieTarget = s.rst.dieState then s
    else
      let s := ([0, 1].filter fun d => !s.resting d && s.rst.dieTarget.getD d 0 = 3).foldl State.saveDie s
      let s := s.takeStates s.rst.dieTarget
      { s with rst := { s.rst with restSaved := s.rst.dieState.any fun x => decide (x = 3) } })

/-- WAKE (R454): the module leaves the state that it is in, or was entering. -/
def execWake (s : State) : Host.Outcome State Fault Refusal :=
  .next (if s.rst.waking || s.rst.dieTarget.all (· = 0) then s
    else
      let s := ([0, 1].filter fun d => !s.resting d && s.rst.dieTarget.getD d 0 = 3).foldl State.saveDie s
      { s with rst := { s.rst with dieState := s.rst.dieTarget, dieTarget := List.replicate 8 0, waking := true } })

/-- WAKE_COMPLETE: every die runs; what Rest saved is restored. -/
def execWakeComplete (s : State) : Host.Outcome State Fault Refusal :=
  .next (if !s.rst.waking then s
    else
      let s := ([0, 1].filter s.resting).foldl State.restoreDie s
      let s := (s.takeStates (List.replicate 8 0)).resumeMemory
      { s with rst := { s.rst with waking := false, restSaved := false } })

/-! ### Input and temperature (R455, R457) -/

/-- VIN_LOW: from 36 V to 38 V the module runs on. -/
def execVinLow (mv : Nat) (s : State) : Host.Outcome State Fault Refusal :=
  .next (if !s.rst.vin || s.rst.off then s
    else
      let s := { s with rst := { s.rst with vinMv := mv % 0x100000000 } }
      if 36000 ≤ mv && mv < 38000 then s.flag 6 Reg.pwrStatus 2 else s)

/-- HOT: above 100 °C on a die. -/
def execHot (die : Fin 8) (temp : Nat) (s : State) : Host.Outcome State Fault Refusal :=
  .next (if 100 < temp then s.flag die.val Reg.pwrStatus 3 else s)

end Sys2Proof.Machine
end

