-- ==== Sys2Proof/Machine/Stack.lean ====
section
/-! DEFINITION. The stack's push and staging, and the summary records (R172 to R174, R186, R189 to R194). -/

namespace Sys2Proof.Machine

/-- PUSH (R186): a ROW record from a tile in SRAM. -/
def execPush (f : Issue) (s : State) : Host.Outcome State Fault Refusal :=
  let i := fretIdx f.toFretId
  let fr := s.fret i
  .next (match s.nextIs i 9 with
    | none => s
    | some w =>
      let v := fr.voicing
      let bs := fr.sramBytes (fr.sramOff w (16 * bits w 51 38)) (bits w 37 18)
      let rows := (rowsOfBytes v.fmtOut v.n bs.length).getD 0
      ((s.updFret i (·.advance)).sramCe f.die.val f.ce).pushRecord i 0 rows v.fmtOut bs [])

/-- STAGE_READY (R191, R194, R320): the record that was asked for is staged, or staging met an uncorrectable error. -/
def execStageReady (f : FretId) (ue : Bool) (s : State) : Host.Outcome State Fault Refusal :=
  let i := fretIdx f
  let l := s.lane i
  .next (match l.recs.drop l.staged with
    | [] => s
    | r :: _ =>
      if !l.asked || s.held (2 + stackDie i) 7 || s.spansWait [(s.laneAddr i r.1, r.2, false)] then s
      else if ue || s.readFails (s.laneAddr i r.1) r.2 then s.laneError i r
      else s.setLane i { l with staged := l.staged + 1, asked := false })

/-- The mailbox of a fret: the control core that serves its column (R174). -/
def mailCore (i : Nat) : Nat := fretCol i / 2

/-- Is the core's mailbox full, records on their way counted? -/
def CDie.mailFull (c : CDie) (core : Nat) : Bool :=
  decide (64 ≤ (c.mail.filter fun m => m.1 = core).length + (c.flight.filter fun m => m.1 = core).length)

/-- Firmware takes the oldest records of a core's mailbox. -/
def CDie.takeMail (c : CDie) (core n : Nat) : CDie :=
  let mine := (c.mail.filter fun x => x.1 = core).take n
  { c with mail := mine.foldl List.erase c.mail, taken := c.taken ++ mine }

/-- Combine two lane partials by the accumulator's kind (R172, R173). -/
def sumCombine (kind : Nat) (a b : F32) : F32 :=
  if kind = 3 then BitVec.ofNat 32 (cap32 (a.toNat + b.toNat)) else sumStep kind a b

/-- The 32-byte record of a SUMMARY (R173). -/
def State.summaryRecord (s : State) (i w : Nat) : Bytes :=
  let f := s.fret i
  let mask := bits w 55 52
  let acc := fun k =>
    if (mask >>> k) % 2 = 0 then u32 0
    else u32 ((treeUp (sumCombine (f.sum k).kind) 6 (f.sum k).parts).getD 0).toNat
  u16 f.voicing.vid ++ u8 (bits w 51 44) ++ u8 ((List.range 4).map fun k => (f.sum k).kind <<< (2 * k)).sum
    ++ u16 (i % 384) ++ u8 (i / 384) ++ u8 mask ++ (List.range 4).flatMap acc ++ u64 s.time

/-- Return the accumulators of a mask to their identities. -/
def Fret.resetSums (f : Fret) (mask : Nat) : Fret :=
  (List.range 4).foldl (fun f k =>
    if (mask >>> k) % 2 = 0 then f
    else f.setSum k ⟨(f.sum k).kind, List.replicate 64 (sumIdentity (f.sum k).kind)⟩) f

/-- Issue a SUMMARY whose mailbox has a place. -/
def State.sendSummary (s : State) (i w : Nat) : State :=
  let d := i / 384
  let c := s.cdie d
  let s := s.setCDie d { c with flight := c.flight ++ [(mailCore i, s.summaryRecord i w)] }
  s.updFret i fun f =>
    let f := if w % 2 = 1 then f.resetSums (bits w 55 52) else f
    { f with stall := .none }.advance

/-- SUMMARY (R173, R174). -/
def execSummary (f : Issue) (s : State) : Host.Outcome State Fault Refusal :=
  let i := fretIdx f.toFretId
  let fr := s.fret i
  let d := f.die.val
  .next (match s.nextIs i 0x0A with
    | none => s
    | some w =>
      let s := s.sramCe d f.ce
      if (s.cdie d).mailFull (mailCore i) then
        ((s.setFret i { fr with stall := .summary }).bump d Reg.epuSummaryWaitCount 1).flag d Reg.epuStatus 3
      else s.sendSummary i w)

/-- SUMMARY_WAIT_END (R174): a place is free; the SUMMARY goes. -/
def execSummaryWaitEnd (f : FretId) (s : State) : Host.Outcome State Fault Refusal :=
  let i := fretIdx f
  let fr := s.fret i
  .next (if fr.run = 1 && !s.held f.die.val 3 && fr.stall = .summary && !(s.cdie f.die.val).mailFull (mailCore i) then
      s.sendSummary i (seqWord fr.aimg fr.pc)
    else s)

/-- SUMMARY_MAILBOX_ARRIVAL (R174): the oldest record on its way arrives; firmware takes the first `take` records of the
mailbox, with or without a new one. -/
def execSummaryMailboxArrival (die : Fin 2) (core : Fin 8) (take : Nat) (s : State) :
    Host.Outcome State Fault Refusal :=
  let d := die.val
  let c := s.cdie d
  let c := match c.flight.find? fun m => m.1 = core.val with
    | none => c
    | some m => { c with flight := c.flight.erase m, mail := c.mail ++ [m] }
  .next (s.setCDie d (c.takeMail core.val take))

end Sys2Proof.Machine
end

