-- ==== Sys2Proof/Machine/Dispatch.lean ====
section
/-! DEFINITION. One arm per command: a direct call of the command's meaning. -/

namespace Sys2Proof.Machine

/-- The effect of a command on everything but the queue. -/
def exec (i : Instr) (s : State) : Host.Outcome State Fault Refusal :=
  match i with
  | .nop f => Sys2Proof.Machine.execNop f s
  | .loadb f supply ue => Sys2Proof.Machine.execLoadb f supply ue s
  | .loadbDone f => Sys2Proof.Machine.execLoadbDone f s
  | .swapb f => Sys2Proof.Machine.execSwapb f s
  | .stream f wait ce supply ue sample => Sys2Proof.Machine.execStream f wait ce supply ue sample s
  | .spill f slot => Sys2Proof.Machine.execSpill f slot s
  | .sumBoundExceeded f slot => Sys2Proof.Machine.execSumBoundExceeded f slot s
  | .epu f wait => Sys2Proof.Machine.execEpu f wait s
  | .conv f wait busWait line block => Sys2Proof.Machine.execConv f wait busWait line block s
  | .send f busWait => Sys2Proof.Machine.execSend f busWait s
  | .recv f supply ue => Sys2Proof.Machine.execRecv f supply ue s
  | .recvDone f supply => Sys2Proof.Machine.execRecvDone f supply s
  | .bridge f wait => Sys2Proof.Machine.execBridge f wait s
  | .bridgeResult die base => Sys2Proof.Machine.execBridgeResult die base s
  | .push f => Sys2Proof.Machine.execPush f s
  | .stageReady f ue => Sys2Proof.Machine.execStageReady f ue s
  | .summary f => Sys2Proof.Machine.execSummary f s
  | .summaryWaitEnd f => Sys2Proof.Machine.execSummaryWaitEnd f s
  | .summaryMailboxArrival die core take => Sys2Proof.Machine.execSummaryMailboxArrival die core take s
  | .loop f => Sys2Proof.Machine.execLoop f s
  | .wait f => Sys2Proof.Machine.execWait f s
  | .waitRelease f => Sys2Proof.Machine.execWaitRelease f s
  | .switch f => Sys2Proof.Machine.execSwitch f s
  | .switchWaitEnd f => Sys2Proof.Machine.execSwitchWaitEnd f s
  | .halt f => Sys2Proof.Machine.execHalt f s
  | .voicingLoad die value priv => Sys2Proof.Machine.execVoicingLoad die value priv s
  | .voicingLoadDone die ue => Sys2Proof.Machine.execVoicingLoadDone die ue s
  | .phaseStart die vid bound first count frame => Sys2Proof.Machine.execPhaseStart die vid bound first count frame s
  | .overrun f => Sys2Proof.Machine.execOverrun f s
  | .phaseAtTwiceBound f => Sys2Proof.Machine.execPhaseAtTwiceBound f s
  | .fretFault die col physRow report => Sys2Proof.Machine.execFretFault die col physRow report s
  | .spareVoicingReloadDone die col => Sys2Proof.Machine.execSpareVoicingReloadDone die col s
  | .windowWrite addr width data => Sys2Proof.Machine.execWindowWrite addr width data s
  | .windowTimeout f write0 => Sys2Proof.Machine.execWindowTimeout f write0 s
  | .passVerdict layer backward => Sys2Proof.Machine.execPassVerdict layer backward s
  | .repeatImagesLoaded layer backward => Sys2Proof.Machine.execRepeatImagesLoaded layer backward s
  | .stepVerdict others => Sys2Proof.Machine.execStepVerdict others s
  | .tallyComplete frame => Sys2Proof.Machine.execTallyComplete frame s
  | .remoteRowRead source table row step => Sys2Proof.Machine.execRemoteRowRead source table row step s
  | .heldReadRelease => Sys2Proof.Machine.execHeldReadRelease s
  | .scatterTerm die table row term last => Sys2Proof.Machine.execScatterTerm die table row term last s
  | .sortMerge die => Sys2Proof.Machine.execSortMerge die s
  | .exchangeRecord src record => Sys2Proof.Machine.execExchangeRecord src record s
  | .exchangeEndMarker src => Sys2Proof.Machine.execExchangeEndMarker src s
  | .ownerReduction => Sys2Proof.Machine.execOwnerReduction s
  | .hotsetPushRow owner table row cls removal payload => Sys2Proof.Machine.execHotsetPushRow owner table row cls removal payload s
  | .hotsetInstallComplete step pushed entered left migrations => Sys2Proof.Machine.execHotsetInstallComplete step pushed entered left migrations s
  | .layerUpdate entry grad => Sys2Proof.Machine.execLayerUpdate entry grad s
  | .rowUpdate table row => Sys2Proof.Machine.execRowUpdate table row s
  | .moduleApplied => Sys2Proof.Machine.execModuleApplied s
  | .commitVote others => Sys2Proof.Machine.execCommitVote others s
  | .stepRerun => Sys2Proof.Machine.execStepRerun s
  | .voteTimeLimit answer => Sys2Proof.Machine.execVoteTimeLimit answer s
  | .checkpoint => Sys2Proof.Machine.execCheckpoint s
  | .memoryRequest cls addr write0 len corrected uncorrectable phase => Sys2Proof.Machine.execMemoryRequest cls addr write0 len corrected uncorrectable phase s
  | .remapCopyDone tier chan bank row => Sys2Proof.Machine.execRemapCopyDone tier chan bank row s
  | .scrubPeriod tier lastPassDone => Sys2Proof.Machine.execScrubPeriod tier lastPassDone s
  | .maintenanceWindowStart lanes => Sys2Proof.Machine.execMaintenanceWindowStart lanes s
  | .maintenanceWindowEnd => Sys2Proof.Machine.execMaintenanceWindowEnd s
  | .driftCheck tier chan beyond => Sys2Proof.Machine.execDriftCheck tier chan beyond s
  | .channelRetrainTrigger tier chan deferrable => Sys2Proof.Machine.execChannelRetrainTrigger tier chan deferrable s
  | .channelRetrain tier chan duration lanes => Sys2Proof.Machine.execChannelRetrain tier chan duration lanes s
  | .retrainFail tier chan => Sys2Proof.Machine.execRetrainFail tier chan s
  | .loopbackPass ring => Sys2Proof.Machine.execLoopbackPass ring s
  | .portJoin port coord zone lanes => Sys2Proof.Machine.execPortJoin port coord zone lanes s
  | .joinTimeLimit ring => Sys2Proof.Machine.execJoinTimeLimit ring s
  | .ringRetry ring => Sys2Proof.Machine.execRingRetry ring s
  | .linkLoss port => Sys2Proof.Machine.execLinkLoss port s
  | .packetTransmit port => Sys2Proof.Machine.execPacketTransmit port s
  | .packetReceive port packet corrected uncorrectable => Sys2Proof.Machine.execPacketReceive port packet corrected uncorrectable s
  | .replayRequest port seq => Sys2Proof.Machine.execReplayRequest port seq s
  | .portRetrain port => Sys2Proof.Machine.execPortRetrain port s
  | .portRetrainDone port lanes => Sys2Proof.Machine.execPortRetrainDone port lanes s
  | .portFailed port => Sys2Proof.Machine.execPortFailed port s
  | .zoneFaultMessage node port => Sys2Proof.Machine.execZoneFaultMessage node port s
  | .read src id addr len => Sys2Proof.Machine.execRead src id addr len s
  | .write src id addr data => Sys2Proof.Machine.execWrite src id addr data s
  | .copy src id addr dst len => Sys2Proof.Machine.execCopy src id addr dst len s
  | .copyDone id status => Sys2Proof.Machine.execCopyDone id status s
  | .addI64 src id addr operand => Sys2Proof.Machine.execAddI64 src id addr operand s
  | .addF32 src id addr operand => Sys2Proof.Machine.execAddF32 src id addr operand s
  | .msg src id queue body => Sys2Proof.Machine.execMsg src id queue body s
  | .syncGet src id obj remote => Sys2Proof.Machine.execSyncGet src id obj remote s
  | .syncSet src id obj remote value => Sys2Proof.Machine.execSyncSet src id obj remote value s
  | .syncAdd src id obj remote value => Sys2Proof.Machine.execSyncAdd src id obj remote value s
  | .syncMax src id obj remote value => Sys2Proof.Machine.execSyncMax src id obj remote value s
  | .syncCas src id obj remote expected value => Sys2Proof.Machine.execSyncCas src id obj remote expected value s
  | .syncRecord src id obj remote value => Sys2Proof.Machine.execSyncRecord src id obj remote value s
  | .syncStepMax src id obj remote value => Sys2Proof.Machine.execSyncStepMax src id obj remote value s
  | .syncStepAdd src id obj remote value => Sys2Proof.Machine.execSyncStepAdd src id obj remote value s
  | .syncWait src id obj remote value limit => Sys2Proof.Machine.execSyncWait src id obj remote value limit s
  | .syncWaitSatisfied place => Sys2Proof.Machine.execSyncWaitSatisfied place s
  | .syncWaitTimeout place => Sys2Proof.Machine.execSyncWaitTimeout place s
  | .remoteReply id status data => Sys2Proof.Machine.execRemoteReply id status data s
  | .remoteTimeout id => Sys2Proof.Machine.execRemoteTimeout id s
  | .bridgePacket layer tensor pass mb opno chunk level op rows n data down => Sys2Proof.Machine.execBridgePacket layer tensor pass mb opno chunk level op rows n data down s
  | .stepSyncUpdate delay value => Sys2Proof.Machine.execStepSyncUpdate delay value s
  | .stepSyncAck delay value => Sys2Proof.Machine.execStepSyncAck delay value s
  | .extensionPosted frame => Sys2Proof.Machine.execExtensionPosted frame s
  | .timeExchange port delay partnerLocked offset => Sys2Proof.Machine.execTimeExchange port delay partnerLocked offset s
  | .timeLock port value => Sys2Proof.Machine.execTimeLock port value s
  | .parentLost other => Sys2Proof.Machine.execParentLost other s
  | .timeUnlock => Sys2Proof.Machine.execTimeUnlock s
  | .flitReceive flit => Sys2Proof.Machine.execFlitReceive flit s
  | .vilnyRetrain => Sys2Proof.Machine.execVilnyRetrain s
  | .vilnyTrainDone lanes spareFor => Sys2Proof.Machine.execVilnyTrainDone lanes spareFor s
  | .vilnyLinkDown => Sys2Proof.Machine.execVilnyLinkDown s
  | .vilnyTrainRetry => Sys2Proof.Machine.execVilnyTrainRetry s
  | .events frame => Sys2Proof.Machine.execEvents frame s
  | .put frame => Sys2Proof.Machine.execPut frame s
  | .rows frame => Sys2Proof.Machine.execRows frame s
  | .restore frame => Sys2Proof.Machine.execRestore frame s
  | .settle frame => Sys2Proof.Machine.execSettle frame s
  | .snapshotReq frame => Sys2Proof.Machine.execSnapshotReq frame s
  | .readback frame => Sys2Proof.Machine.execReadback frame s
  | .status frame => Sys2Proof.Machine.execStatus frame s
  | .frameWaitLimit step => Sys2Proof.Machine.execFrameWaitLimit step s
  | .boundExpiry frame => Sys2Proof.Machine.execBoundExpiry frame s
  | .sdpGet bus req frame message => Sys2Proof.Machine.execSdpGet bus req frame message s
  | .sdpSet bus req frame message => Sys2Proof.Machine.execSdpSet bus req frame message s
  | .sdpOpen bus req frame message => Sys2Proof.Machine.execSdpOpen bus req frame message s
  | .sdpClose bus req frame message => Sys2Proof.Machine.execSdpClose bus req frame message s
  | .sdpSubscribe bus req frame message => Sys2Proof.Machine.execSdpSubscribe bus req frame message s
  | .nonceExpiry bus req => Sys2Proof.Machine.execNonceExpiry bus req s
  | .sessionIdle session => Sys2Proof.Machine.execSessionIdle session s
  | .stagingIdle entry => Sys2Proof.Machine.execStagingIdle entry s
  | .authLockoutEnd => Sys2Proof.Machine.execAuthLockoutEnd s
  | .functionStart fn => Sys2Proof.Machine.execFunctionStart fn s
  | .functionStop fn => Sys2Proof.Machine.execFunctionStop fn s
  | .stoppingComplete => Sys2Proof.Machine.execStoppingComplete s
  | .registerDataGet level => Sys2Proof.Machine.execRegisterDataGet level s
  | .registerDataSet level value => Sys2Proof.Machine.execRegisterDataSet level value s
  | .imageUpload image => Sys2Proof.Machine.execImageUpload image s
  | .antiRollbackAdvance value => Sys2Proof.Machine.execAntiRollbackAdvance value s
  | .ownerKeyEnrolment key => Sys2Proof.Machine.execOwnerKeyEnrolment key s
  | .enrolledKeys level entries => Sys2Proof.Machine.execEnrolledKeys level entries s
  | .attestationNonce nonce => Sys2Proof.Machine.execAttestationNonce nonce s
  | .attestationReportReady => Sys2Proof.Machine.execAttestationReportReady s
  | .calendarSet ns => Sys2Proof.Machine.execCalendarSet ns s
  | .masterTimeSet ns => Sys2Proof.Machine.execMasterTimeSet ns s
  | .diceTestStart die ctr => Sys2Proof.Machine.execDiceTestStart die ctr s
  | .diceTestDone die => Sys2Proof.Machine.execDiceTestDone die s
  | .restart die value priv => Sys2Proof.Machine.execRestart die value priv s
  | .blockReset die value priv => Sys2Proof.Machine.execBlockReset die value priv s
  | .blockResetDone die => Sys2Proof.Machine.execBlockResetDone die s
  | .flush priv => Sys2Proof.Machine.execFlush priv s
  | .otpProgramDone => Sys2Proof.Machine.execOtpProgramDone s
  | .slowWriteApply window => Sys2Proof.Machine.execSlowWriteApply window s
  | .registerWrite addr width data priv => Sys2Proof.Machine.execRegisterWrite addr width data priv s
  | .slowClockEdge mgmt => Sys2Proof.Machine.execSlowClockEdge mgmt s
  | .pinReset => Sys2Proof.Machine.execPinReset s
  | .resetNRelease low asReset => Sys2Proof.Machine.execResetNRelease low asReset s
  | .internalReset waited => Sys2Proof.Machine.execInternalReset waited s
  | .powerOnReset => Sys2Proof.Machine.execPowerOnReset s
  | .vinLoss => Sys2Proof.Machine.execVinLoss s
  | .vbakLoss => Sys2Proof.Machine.execVbakLoss s
  | .bringupPhaseDone found => Sys2Proof.Machine.execBringupPhaseDone found s
  | .phaseOver die block unit => Sys2Proof.Machine.execPhaseOver die block unit s
  | .clockGood die domain => Sys2Proof.Machine.execClockGood die domain s
  | .clockUnstable die domain => Sys2Proof.Machine.execClockUnstable die domain s
  | .clockRecoveryLimit die domain => Sys2Proof.Machine.execClockRecoveryLimit die domain s
  | .powerStateEntry => Sys2Proof.Machine.execPowerStateEntry s
  | .powerStateSettled => Sys2Proof.Machine.execPowerStateSettled s
  | .wake => Sys2Proof.Machine.execWake s
  | .wakeComplete => Sys2Proof.Machine.execWakeComplete s
  | .vinLow mv => Sys2Proof.Machine.execVinLow mv s
  | .hot die temp => Sys2Proof.Machine.execHot die temp s
  | .faultShutdown thermal => Sys2Proof.Machine.execFaultShutdown thermal s
  | .coreFault die core => Sys2Proof.Machine.execCoreFault die core s
  | .managementCoreFault core => Sys2Proof.Machine.execManagementCoreFault core s
  | .hotsetBankFault die bank => Sys2Proof.Machine.execHotsetBankFault die bank s
  | .regulatorPhaseFail die => Sys2Proof.Machine.execRegulatorPhaseFail die s
  | .spareRecordRewrite => Sys2Proof.Machine.execSpareRecordRewrite s
  | .counterFlush => Sys2Proof.Machine.execCounterFlush s
  | .thermalCycle die => Sys2Proof.Machine.execThermalCycle die s
  | .mgmtPhyLink up active => Sys2Proof.Machine.execMgmtPhyLink up active s

end Sys2Proof.Machine
end

