-- ==== Sys2Proof/Machine/Idle.lean ====
section
/-! DEFINITION. The idle tick: what passes while no command waits (log 1). -/

namespace Sys2Proof.Machine

/-- Module time passes: one nanosecond, less or more by what is still to be slewed (R357). -/
def State.tickTime (s : State) : State :=
  if 16 ≤ s.fab.slew then { s with time := s.time + 2, fab := { s.fab with slew := s.fab.slew - 16 } }
  else if s.fab.slew ≤ -16 then { s with fab := { s.fab with slew := s.fab.slew + 16 } }
  else { s with time := s.time + 1 }

/-- The MGMT cycle of a level's change has ended (R468). -/
def State.endCycle (s : State) : State :=
  match s.life.change with
  | some c => if c.cycle = s.time / 40 then s else s.tellLevel
  | none => s

/-- A tick: time passes, starts that are under way end (R404), and the Vilny link sends its next flit (R365, R366, R383). -/
def State.idle (s : State) : State := s.tickTime.endCycle.finishStarts.sendFlit

end Sys2Proof.Machine
end

