-- ==== Sys2Proof/Safety.lean ====
section
/-! DEFINITION. The terms in which statements say what a command may change, and what a sound state is. -/

namespace Sys2Proof.Machine

/-- The parts of the module's state, one for each field of `State`. -/
inductive Part where
  | pending | time | free | mem | regs | frets | slanes | board | num | emb | upd | dram | fab | vlk | adm | dict | slow
  | rst | life | sec
  deriving DecidableEq, Repr

/-- A part is the same in both states. Where the memory is the same, every byte reads the same (`State.byte`); where the
registers are, every register does (`State.reg`); where the frets are, every fret does (`State.fret`). -/
def State.agrees (s t : State) (p : Part) : Prop :=
  match p with
  | .pending => t.pending = s.pending
  | .time => t.time = s.time
  | .free => t.free = s.free
  | .mem => t.mem = s.mem
  | .regs => t.regs = s.regs
  | .frets => t.frets = s.frets
  | .slanes => t.slanes = s.slanes
  | .board => t.board = s.board
  | .num => t.num = s.num
  | .emb => t.emb = s.emb
  | .upd => t.upd = s.upd
  | .dram => t.dram = s.dram
  | .fab => t.fab = s.fab
  | .vlk => t.vlk = s.vlk
  | .adm => t.adm = s.adm
  | .dict => t.dict = s.dict
  | .slow => t.slow = s.slow
  | .rst => t.rst = s.rst
  | .life => t.life = s.life
  | .sec => t.sec = s.sec

/-- Nothing but the listed parts differs. -/
def State.onlyChanges (s t : State) (ps : List Part) : Prop := ∀ p, ps.contains p = false → s.agrees t p

/-- What holds of a part in every state a run reaches: memory, registers, frets and lanes are in their canonical form; the event log
is a ring of 8,192 records (R417), the life log one of 65,536 entries (R470), the reset records one of 64 (R440); bring-up stands at
one of its phases or has ended (R441); there are five functions (R401), six ports (R333), two copies of the commit record
(R291), eight dies (R10), three slow windows (R428), 26 counts in OD 0x2600.30. -/
def State.soundAt (s : State) (p : Part) : Prop :=
  match p with
  | .pending => True
  | .time => True
  | .free => True
  | .mem => Memory.wf s.mem = true
  | .regs => SMap.wf 0 s.regs = true
  | .frets => SMap.wf Fret.reset s.frets = true
  | .slanes => SMap.wf SLane.reset s.slanes = true
  | .board => True
  | .num => True
  | .emb => True
  | .upd => s.upd.recs.length = 2
  | .dram => True
  | .fab => s.fab.ports.length = 6
  | .vlk => True
  | .adm => s.adm.counts.length = 26
  | .dict => s.dict.log.length ≤ 8192 ∧ s.dict.fn.length = 5
  | .slow => s.slow.length = 3
  | .rst => s.rst.records.length ≤ 64 ∧ s.rst.phase ≤ 7 ∧ s.rst.dieState.length = 8 ∧ s.rst.dieTarget.length = 8
  | .life => s.life.log.length ≤ 65536
  | .sec => True

/-- Every part is sound. -/
def State.sound (s : State) : Prop := ∀ p, s.soundAt p

/-! ### What statements say of a command -/


/-- The command answers a next state that differs in the listed parts only and of which `Q` holds. -/
def State.runs (s : State) (c : Instr) (ps : List Part) (Q : State → Prop) : Prop :=
  ∃ t, exec c s = .next t ∧ s.onlyChanges t ps ∧ Q t

/-- The command leaves the whole state as it is. -/
def State.stays (s : State) (c : Instr) : Prop := exec c s = .next s

/-- The fret's sequencer issues next an operation of opcode `op`, whose word is `w` (R103, R104). -/
abbrev State.issues (s : State) (f : FretId) (op w : Nat) : Prop := s.nextIs (fretIdx f) op = some w

/-- Every fret but fret `i` is the same. -/
def State.onlyFret (s t : State) (i : Nat) : Prop := ∀ j, j ≠ i → t.fret j = s.fret j
/-- Every stack lane but lane `i` is the same. -/
def State.onlyLane (s t : State) (i : Nat) : Prop := ∀ j, j ≠ i → t.lane j = s.lane j
/-- Every register but the listed ones is the same. -/
def State.onlyRegs (s t : State) (ks : List Nat) : Prop := ∀ k, ks.contains k = false → SMap.get 0 t.regs k = SMap.get 0 s.regs k
/-- Every byte outside the `n` bytes from `a` up is the same. -/
def State.onlyBytes (s t : State) (a n : Nat) : Prop := ∀ b, b < a ∨ a + n ≤ b → t.byte b = s.byte b

/-- A byte of the snapshot's buffer, while a snapshot is in progress (R298). -/
def State.snapBuffer (s : State) (b : Nat) : Prop :=
  s.upd.snap ≠ none ∧ s.odNat (od 0x2300 0x14) ≤ b ∧ b < s.odNat (od 0x2300 0x14) + s.odNat (od 0x2300 0x15)

/-- Corrected errors that an operation met in a fret's memories of die `d`: they are flagged and counted (R84), and no register but
theirs and the listed ones differs. -/
def State.metErrors (s t : State) (d ce : Nat) (ks : List Nat) : Prop :=
  s.onlyRegs t (regKey d Reg.fretStatus :: regKey d Reg.fretSramCeCount :: ks)
  ∧ t.reg d Reg.fretSramCeCount = (if ce = 0 then s.reg d Reg.fretSramCeCount else cap32 (s.reg d Reg.fretSramCeCount + ce))
  ∧ (ce ≠ 0 → (t.reg d Reg.fretStatus).testBit 4)

/-- The records of an event: as many as its parameters need, all but the last with CONT, numbered on from the log's next number
(R416, R496). -/
def State.records (s : State) (code : Nat) (params : Bytes) : List Bytes :=
  let parts := if params.isEmpty then [[]] else chunks 16 params
  parts.zipIdx.map fun p =>
    eventRecord code ((if s.injecting then 1 else 0) + (if p.2 + 1 < parts.length then 2 else 0)) (s.dict.logNext + p.2) s.time p.1
/-- The event log is the log before with the event's records added, newest first, in its ring of 8,192 (R417). -/
def State.logged (s t : State) (code : Nat) (params : Bytes) : Prop :=
  t.dict.log = ((s.records code params).reverse ++ s.dict.log).take 8192

/-- What a refusal leaves (R381, R382, R398): its counts, and a REFUSE frame that waits to leave first. -/
def State.refused (s t : State) (id type step : Nat) (r : Turn) : Prop :=
  t.reg 6 Reg.auRefuseCount = cap32 (s.reg 6 Reg.auRefuseCount + 1) ∧ (t.reg 6 Reg.auStatus).testBit 0
  ∧ t.reg 6 Reg.auLastRefuse = ((r.cause <<< 56) + (1 <<< 32) + id) % pow2 64
  ∧ t.adm = { s.adm with counts := s.adm.counts.modify r.cause fun c => cap32 (c + 1) }
  ∧ t.vlk.out = s.vlk.out ++ [⟨0, 0, moduleFrame 0x82 (if s.injecting then 2 else 0) id step s.time
      (u8 r.cause ++ u8 type ++ u16 0 ++ c32 r.detail ++ u64 r.retry ++ u64 step)⟩]
/-- The ACCEPT frame of a frame (R380). -/
def State.acceptFrame (s : State) (id step tLast bound : Nat) (extended : Bool) : OutFrame :=
  ⟨0, 0, moduleFrame 0x81 (if s.injecting then 2 else 0) id step s.time (c32 bound
    ++ u32 ((if s.injecting then 1 else 0) + if extended then 2 else 0) ++ u64 tLast ++ u64 (tLast + bound))⟩

/-- What R102 says a switch leaves as it is: operand SRAM, the accumulator file, the spill buffer, the EPU's data. -/
def Fret.sameData (f g : Fret) : Prop :=
  g.sram = f.sram ∧ g.acc = f.acc ∧ g.spill = f.spill ∧ g.mute = f.mute ∧ g.lanes = f.lanes ∧ g.sums = f.sums
    ∧ g.delivered = f.delivered ∧ g.img0 = f.img0 ∧ g.img1 = f.img1

/-- The command of an SDP operation (R410). -/
def sdpCommand (op : Nat) (bus : Bool) (req : Requester) (frame : Nat) (m : Bytes) : Instr :=
  match op with
  | 1 => .sdpGet bus req frame m
  | 2 => .sdpSet bus req frame m
  | 3 => .sdpOpen bus req frame m
  | 4 => .sdpClose bus req frame m
  | _ => .sdpSubscribe bus req frame m
/-- What serving a request on the management bus leaves (R411, R433): its reply, and the counts of requests and of errors. -/
def State.replied (s t : State) (req : Nat) (r : Sdp) (a : Answer) : Prop :=
  t.dict.bus = (req, r.reply a) :: s.dict.bus
  ∧ t.reg 6 Reg.mgmtSdpRxCount = cap32 (s.reg 6 Reg.mgmtSdpRxCount + 1)
  ∧ (a.status = sOk → t.reg 6 Reg.mgmtSdpErrCount = s.reg 6 Reg.mgmtSdpErrCount)
  ∧ (a.status ≠ sOk → t.reg 6 Reg.mgmtSdpErrCount = cap32 (s.reg 6 Reg.mgmtSdpErrCount + 1)
      ∧ (t.reg 6 Reg.mgmtStatus).testBit 1)
/-- The sessions with a request's number and its reply remembered (R409). -/
def State.seqKept (s : State) (num seq : Nat) (reply : Bytes) : List Session :=
  s.dict.sessions.map fun y => if y.num = num then { y with seq := seq, reply := reply } else y

/-- What a reset leaves (R16, R183, R401, R412, R417, R439, R443, R475; "What each reset clears"): every function Stopped, nothing
loaded or queued, the dictionary at its defaults until bring-up restores the settings from the NV store; OTP, images, commit records and
the queue of commands are kept. -/
def State.wasReset (s t : State) : Prop :=
  t.dict.fn = [0, 0, 0, 0, 0] ∧ t.dict.od = [] ∧ t.dict.before = [] ∧ t.dict.nv = s.dict.nv ∧ t.dict.sessions = [] ∧ t.dict.staging = []
  ∧ t.dict.log = [] ∧ t.frets = [] ∧ t.slanes = [] ∧ t.board = Board.reset ∧ t.fab = Fab.reset ∧ t.vlk = Vilny.reset
  ∧ t.adm.frames = [] ∧ t.adm.steps = [] ∧ t.emb.hot = [] ∧ t.upd.recs = s.upd.recs ∧ t.upd.voted = false ∧ t.rst.phase = 0
  ∧ t.rst.calendar = s.rst.calendar ∧ t.rst.keep = s.rst.keep ∧ t.sec.owners = s.sec.owners ∧ t.sec.counter = s.sec.counter
  ∧ t.sec.images = s.sec.images ∧ t.life.spare = s.life.spare
  ∧ (∀ d b, d < 8 → carries d b = true → t.reg d (guardReg b) = 4 * s.nvNat (od 0x2950 1) % pow2 64)
/-- A reset record (R440). -/
def State.recordedReset (s t : State) (cause delay phase : Nat) : Prop :=
  ∃ r : Bytes, t.rst.records = (r :: s.rst.records).take 64 ∧ r.length = 32 ∧ leAt r 0 1 = cause ∧ leAt r 2 1 = phase ∧ leAt r 4 4 = cap32 delay
    ∧ leAt r 16 8 = s.committedWord % pow2 64 ∧ leAt r 24 4 = s.adm.highId % pow2 32

end Sys2Proof.Machine
end

