-- ==== Sys2Proof/Certificates/Slice0/Obligations.lean ====
section
/-! DEFINITION. The statements for the provers. Each docstring names the rules of the spec that its statement rests on, and the
log entries of the model's own choices that it rests on besides. -/

open Sys2Proof Sys2Proof.Machine

/-- R104 to R106: NOP and LOOP; R84: the corrected errors they meet. -/
def Obligations.NopAndLoop : Prop := ∀ (s : State) (f : Issue) (w : Nat),
  let i := fretIdx f.toFretId
  let fr := s.fret i
  (s.issues f.toFretId 0 w → s.runs (.nop f) [.regs, .frets] fun t =>
      s.onlyFret t i ∧ t.fret i = fr.advance ∧ s.metErrors t f.die.val f.ce [])
  ∧ (s.issues f.toFretId 0x0B w → s.runs (.loop f) [.regs, .frets] fun t =>
      s.onlyFret t i ∧ s.metErrors t f.die.val f.ce [] ∧
      let len := bits w 39 32
      let count := if bits w 31 0 = 0xFFFFFFFF then ceilDiv fr.delivered fr.quantum else bits w 31 0
      (count = 0 → t.fret i = fr.goto (fr.pc + 1 + len))
      ∧ (count ≠ 0 → t.fret i =
          { fr with pc := fr.pc + 1, loops := ⟨fr.pc + 1, len, count, 0, bits w 55 48, bits w 47 40⟩ :: fr.loops }))

/-- R92, R102 to R104, R84. -/
def Obligations.StationaryBank : Prop := ∀ (s : State) (f : Issue) (w : Nat) (supply : Supply) (ue : Bool),
  let i := fretIdx f.toFretId
  let fr := s.fret i
  let v := fr.voicing
  let src := bits w 55 52
  let off := fr.sramOff w (16 * bits w 51 38)
  let tile := s.takeTile i src v.capoB true v.fmtB (bits w 33 27) (bits w 37 34) off supply.line supply.block supply.bytes ue
  (s.issues f.toFretId 1 w → fr.idle.status ≠ 1 → s.sourceBusy i src off = false →
    (src = 0 → s.runs (.loadb f supply ue) [.regs, .frets] fun t => s.onlyFret t i ∧ s.metErrors t f.die.val f.ce [] ∧
      t.fret i = (fr.setIdle ⟨1, bits w 26 26 = 1, Tile.of v.fmtB (bits w 33 27) (bits w 37 34)
        (fr.sramBytes off (tileBytes v.fmtB (bits w 33 27) (bits w 37 34)))⟩).advance)
    ∧ (∀ s1 b, tile = .got s1 b →
      s.runs (.loadb f supply ue) [.regs, .frets, .slanes, .board, .upd, .dram, .fab, .vlk, .adm, .dict, .life] fun t =>
        (t.fret i).idle = ⟨1, bits w 26 26 = 1, b⟩ ∧ (t.fret i).current = (s1.fret i).current)
    ∧ (∀ s1, tile = .notYet s1 ∨ tile = .failed s1 → exec (.loadb f supply ue) s = .next s1))
  ∧ (s.issues f.toFretId 1 w → fr.idle.status = 1 ∨ s.sourceBusy i src off = true → s.stays (.loadb f supply ue))
  ∧ (fr.idle.status ≠ 1 ∨ s.held f.die.val 0 = true → s.stays (.loadbDone f.toFretId))
  ∧ (fr.idle.status = 1 → s.held f.die.val 0 = false → fr.stall ≠ .swapb → s.runs (.loadbDone f.toFretId) [.frets] fun t => s.onlyFret t i ∧
      t.fret i = fr.setIdle { fr.idle with status := 2 })
  ∧ (fr.idle.status = 1 → s.held f.die.val 0 = false → fr.stall = .swapb → s.runs (.loadbDone f.toFretId) [.frets] fun t => s.onlyFret t i ∧
      (t.fret i).stall = .none ∧ (t.fret i).current = { fr.idle with status := 2, next := false }
        ∧ (t.fret i).idle = fr.current)
  ∧ (s.issues f.toFretId 2 w → fr.idle.status ≠ 1 → s.runs (.swapb f) [.regs, .frets] fun t => s.onlyFret t i
      ∧ s.metErrors t f.die.val f.ce [] ∧ (t.fret i).current = { fr.idle with next := false } ∧ (t.fret i).idle = fr.current)
  ∧ (s.issues f.toFretId 2 w → fr.idle.status = 1 → s.runs (.swapb f) [.regs, .frets] fun t => s.onlyFret t i
      ∧ s.metErrors t f.die.val f.ce [] ∧ t.fret i = { fr with stall := .swapb })

/-- R85 to R91, R118, R119, R122 to R124, R133: STREAM waits while its slot's spill is due or an undelivered BRIDGE names the slot
or source 0x8's slot; else it runs, with a second stream into the free slot where the watcher samples the tile of a working copy,
against the same tile of the master's BF16 plane (R230). -/
def Obligations.StreamAddsTerms : Prop := ∀ (s : State) (f : FretId) (w wait ce : Nat) (supply : Supply) (ue : Bool)
    (sample : Option SampleAt),
  let i := fretIdx f
  let d := f.die.val
  let fr := s.fret i
  let v := fr.voicing
  let T := s.odNat (od 0x2100 5)
  let B := fr.current.tile
  let slot := bits w 30 27
  let src := bits w 55 52
  let off := fr.sramOff w (16 * bits w 51 38)
  let busy := spillDue fr v T slot || s.slotBusy i slot || s.sourceBusy i src off
  let tile := s.takeTile i src v.capoA false v.fmtA (bits w 37 31) B.blocks off supply.line supply.block supply.bytes ue
  let c := Instr.stream f wait ce supply ue sample
  s.issues f 3 w →
    (busy = true → s.stays c)
    ∧ (busy = false → ∀ s1, tile = .notYet s1 ∨ tile = .failed s1 → exec c s = .next s1)
    ∧ (busy = false → ∀ s1 A, tile = .got s1 A →
      s.runs c [.regs, .frets, .slanes, .board, .num, .upd, .dram, .fab, .vlk, .adm, .dict, .life] fun t =>
        sample = none → t.fret i = (streamSlot (s1.fret i) v T slot (bits w 26 26 = 1) A B).1.advance)
    ∧ (busy = false → src = 0 →
      let A := Tile.of v.fmtA (bits w 37 31) B.blocks (fr.sramBytes off (tileBytes v.fmtA (bits w 37 31) B.blocks))
      let r := streamSlot fr v T slot (bits w 26 26 = 1) A B
      let counts := [regKey d Reg.accStatus, regKey d Reg.accAliasWaitCount, regKey d Reg.accAliasWaitCycles,
            regKey d Reg.fretStatus, regKey d Reg.fretSramCeCount, regKey d Reg.accSatCount, regKey d Reg.accIntSatCount,
            regKey d Reg.convStatus, regKey d Reg.convN2RsvdCount]
      let watched := fun (q : SampleAt) => if s.sampled fr q.rowTile q.colTile then s.weights v B q else none
      (sample = none ∨ (∃ q, sample = some q ∧ watched q = none) → ∃ t, exec c s = .next t ∧ s.onlyChanges t [.regs, .frets, .board] ∧
        s.onlyFret t i ∧ t.fret i = r.1.advance ∧ s.onlyRegs t counts
        ∧ t.reg d Reg.accSatCount = (if r.2.sat = 0 then s.reg d Reg.accSatCount else cap32 (s.reg d Reg.accSatCount + r.2.sat)))
      ∧ (∀ q p, sample = some q → watched q = some p → s.masterFails p q B = none → ∃ t, exec c s = .next t ∧ s.onlyChanges t [.regs, .frets, .board, .num, .dict] ∧
        s.onlyFret t i
        ∧ t.fret i = (streamSlot r.1 r.1.voicing T r.1.voicing.freeSlot (bits w 26 26 = 1) A (s.masterTile p q B)).1.advance
        ∧ s.onlyRegs t (counts ++ [regKey 6 Reg.numAgreeSampleCount, regKey 6 Reg.numStatus, regKey 6 Reg.numAgreeFailCount,
            regKey 6 Reg.mgmtStatus])))

/-- R122 to R124, R128, R84: SPILL and SUM_BOUND_EXCEEDED. -/
def Obligations.SpillAndBound : Prop := ∀ (s : State) (f : Issue) (slot : Fin 16),
  let i := fretIdx f.toFretId
  let d := f.die.val
  let fr := s.fret i
  let v := fr.voicing
  let T := s.odNat (od 0x2100 5)
  let at' := fun e => slotBase v slot.val + e
  let hiAt := fun e => pairWord v slot.val e
  (fr.active < 2 → s.held d 1 = false → spillDue fr v T slot.val = true →
    s.runs (.spill f slot) [.regs, .frets] fun t => s.onlyFret t i
      ∧ s.metErrors t f.die.val f.ce [regKey d Reg.accSpillCount, regKey d Reg.accStatus, regKey d Reg.accSatCount]
      ∧ t.reg d Reg.accSpillCount = cap32 (s.reg d Reg.accSpillCount + 1)
      ∧ (∀ e, e < v.m * v.n →
        let a := SMap.get 0 fr.acc (at' e)
        let hi := SMap.get 0 fr.spill (hiAt e)
        let lo := SMap.get 0 fr.spill (hiAt e + 1)
        let sum := Fp.addSat hi a
        let bb := Fp.sub sum.1 hi
        let err := Fp.add (Fp.sub hi (Fp.sub sum.1 bb)) (Fp.sub a bb)
        SMap.get 0 (t.fret i).acc (at' e) = 0 ∧ SMap.get 0 (t.fret i).terms (at' e) = 0
          ∧ SMap.get 0 (t.fret i).spills (at' e) = SMap.get 0 fr.spills (at' e) + 1
          ∧ SMap.get 0 (t.fret i).spill (hiAt e) = sum.1
          ∧ SMap.get 0 (t.fret i).spill (hiAt e + 1) =
            (if Fp.isFinite hi && Fp.isFinite a && !sum.2 then Fp.add lo err else 0))
      ∧ (∀ x, x < at' 0 ∨ at' 0 + v.m * v.n ≤ x → SMap.get 0 (t.fret i).acc x = SMap.get 0 fr.acc x))
  ∧ (spillDue fr v T slot.val = false ∨ s.held d 1 = true → s.stays (.spill f slot))
  ∧ (∀ kind, fr.active < 2 → s.held d 1 = false → fr.bounded.contains slot.val = false → boundPassed fr v slot.val = some kind →
    s.runs (.sumBoundExceeded f.toFretId slot) [.regs, .frets, .dict] fun t => s.onlyFret t i
      ∧ t.fret i = { fr with bounded := slot.val :: fr.bounded }
      ∧ t.reg d Reg.accBoundCount = cap32 (s.reg d Reg.accBoundCount + 1)
      ∧ (t.reg d Reg.accStatus).testBit 3
      ∧ t.reg d Reg.accBoundLoc = 0x80000000 + kind * 65536 + slot.val * 4096 + f.col.val * 256 + f.row.val
      ∧ s.logged t 0x010A (u8 d ++ u8 f.col.val ++ u8 f.row.val ++ u8 slot.val ++ u8 kind))
  ∧ (fr.bounded.contains slot.val = true → s.stays (.sumBoundExceeded f.toFretId slot))

/-- R133, R157 to R164, R171: an EPU operation waits while an undelivered BRIDGE names one of its slots; else it runs. -/
def Obligations.EpuOperation : Prop :=
  (∀ (s : State) (f : Issue) (w wait : Nat),
  let i := fretIdx f.toFretId
  let d := f.die.val
  let fr := s.fret i
  let v := fr.voicing
  let o := EpuOp.of w
  let op := { o with offA := fr.sramOff w o.offA, offB := fr.sramOff w o.offB }
  let r := epuRunOp fr.aimg v (s.odNat (od 0x2100 5)) op fr
  (s.issues f.toFretId 4 w → s.epuBusy i o = true → s.stays (.epu f wait))
  ∧ (s.issues f.toFretId 4 w → s.epuBusy i o = false → s.runs (.epu f wait) [.regs, .frets, .board] fun t => s.onlyFret t i
    ∧ t.fret i = r.f.advance ∧ (t.fret i).lanes = r.lanes ∧ (t.fret i).epuBuf = some (v.vid, o.start)
    ∧ s.metErrors t f.die.val f.ce [regKey d Reg.accStatus, regKey d Reg.accAliasWaitCount, regKey d Reg.accAliasWaitCycles,
        regKey d Reg.epuStatus, regKey d Reg.epuCompactDropCount, regKey d Reg.convStatus,
        regKey d Reg.convDecodeSatCount, regKey d Reg.convN2RsvdCount]
    ∧ t.reg d Reg.accAliasWaitCycles = (if wait = 0 then s.reg d Reg.accAliasWaitCycles
        else cap32 (s.reg d Reg.accAliasWaitCycles + wait))))
  ∧ (∀ (c : EpuCtx) (vec w l : Nat) (r : EpuRun),
  bits w 63 57 ≠ 0x41 → 4 ≤ bits w 39 37 →
  ((r.lanes.getD l Lane64.zero).pred (bits w 39 37 - 4) == decide (bits w 36 36 = 1)) = true →
  (epuStep c vec w r).lanes[l]? = r.lanes[l]?
  ∧ (bits w 63 57 = 0x48 → bits w 34 32 = (r.f.sum (bits w 55 52 % 4)).kind → l < 64 →
    (((epuStep c vec w r).f.sum (bits w 55 52 % 4)).parts)[l]? = ((r.f.sum (bits w 55 52 % 4)).parts)[l]?))

/-- R104, R93 to R95, R133: CONV and SEND to SRAM, a bus or the neighbours. -/
def Obligations.ConvertAndSend : Prop := ∀ (s : State) (f : Issue) (w wait busWait line block : Nat),
  let i := fretIdx f.toFretId
  let d := f.die.val
  let fr := s.fret i
  let v := fr.voicing
  let slot := bits w 55 52
  let rows := bits w 33 27
  let bs := if v.role = 7 then s.rawWords i slot rows else (s.convRow i slot rows line block).1
  let sent := fr.sramBytes (fr.sramOff w (16 * bits w 51 38)) (bits w 37 18)
  let conv := Instr.conv f wait busWait line block
  (s.issues f.toFretId 5 w → s.slotBusy i slot = true → s.stays conv)
  ∧ (s.issues f.toFretId 5 w → s.slotBusy i slot = false →
      (bits w 51 48 = 0 → s.runs conv [.regs, .frets, .board] fun t =>
        s.onlyFret t i ∧ t.fret i = fr.advance.writeSram (fr.sramOff w (16 * bits w 47 34)) bs)
      ∧ (bits w 51 48 = 1 → s.runs conv [.regs, .frets, .board] fun t =>
        t.fret i = fr.advance ∧ ∀ j, j / 384 = d → j % 384 < 384 → j ≠ i → fretRow j = f.row.val →
          t.fret j = (s.fret j).arrive 5 bs)
      ∧ (bits w 51 48 = 2 → s.runs conv [.regs, .frets, .board] fun t =>
        t.fret i = fr.advance ∧ ∀ j, j / 384 = d → j ≠ i → fretCol j = f.col.val →
          t.fret j = (s.fret j).arrive 6 bs))
  ∧ (s.issues f.toFretId 6 w → bits w 55 52 = 1 → s.runs (.send f busWait) [.regs, .frets] fun t =>
      s.metErrors t f.die.val f.ce [] ∧ t.fret i = fr.advance
      ∧ ∀ j, j / 384 = d → j ≠ i → fretRow j = f.row.val → t.fret j = (s.fret j).arrive 5 sent)
  ∧ (s.issues f.toFretId 6 w → bits w 55 52 = 2 → s.runs (.send f busWait) [.regs, .frets] fun t =>
      s.metErrors t f.die.val f.ce [regKey d Reg.fretBusWaitCount]
      ∧ t.reg d Reg.fretBusWaitCount = cap32 (s.reg d Reg.fretBusWaitCount + busWait)
      ∧ t.fret i = fr.advance ∧ ∀ j, j / 384 = d → j ≠ i → fretCol j = f.col.val → t.fret j = (s.fret j).arrive 6 sent)

/-- R182 to R190, R306, R311: PUSH onto the fret's lane, in HBM and then on the bench, at once where no channel trains under it; a
record that does not fit is a stack fault. -/
def Obligations.StackPush : Prop := ∀ (s : State) (f : Issue) (w : Nat),
  let i := fretIdx f.toFretId
  let fr := s.fret i
  let l := s.lane i
  let sh := s.laneShares i
  let bs := fr.sramBytes (fr.sramOff w (16 * bits w 51 38)) (bits w 37 18)
  let size := roundUp (64 + bs.length) 256
  let top := match l.recs with | [] => 0 | r :: _ => r.1 + r.2
  let o := if top < sh.2.1 ∧ sh.2.1 < top + size then sh.2.1 else top
  let d := 2 + stackDie i
  let a := s.laneAddr i o
  (s.issues f.toFretId 9 w → o + size ≤ sh.2.1 + sh.2.2.2 → s.spansWait [(a, size, true)] = false →
    s.runs (.push f) [.mem, .regs, .frets, .slanes, .dram] fun t => s.onlyFret t i ∧ t.fret i = fr.advance
      ∧ s.onlyLane t i
      ∧ t.lane i = { l with recs := (o, size) :: l.recs, pushes := l.pushes + 1, staged := 0, high := max l.high (o + size) }
      ∧ s.onlyBytes t a size
      ∧ (∀ k, k < bs.length → t.byte (a + 64 + k) = bs.getD k 0)
      ∧ t.memNat a 2 = 0x5354 ∧ t.memNat (a + 4) 2 = fr.voicing.vid
      ∧ t.dram = { s.dram with poison := s.dram.poison.filter fun q => !(a ≤ q * 64 && q * 64 + 64 ≤ a + size) }
      ∧ s.metErrors t f.die.val f.ce [regKey d Reg.stackPushBytes, regKey d Reg.stackStatus, regKey d Reg.stackSpillBytes])
  ∧ (s.issues f.toFretId 9 w → sh.2.1 + sh.2.2.2 < o + size →
    s.runs (.push f) [.regs, .frets, .upd, .fab, .vlk, .adm, .dict] fun t =>
      (t.reg d Reg.stackStatus).testBit 0 ∧ (t.reg d Reg.stackStatus).testBit 2 ∧ t.upd.voted = true
      ∧ t.reg d Reg.stackFaultCount = cap32 (s.reg d Reg.stackFaultCount + 1))

/-- R104, R84, R103, R106, R191, R194: RECV, RECV_DONE, WAIT, WAIT_RELEASE. -/
def Obligations.ReceiveAndWait : Prop := ∀ (s : State) (f : Issue) (w : Nat) (supply : Supply),
  let i := fretIdx f.toFretId
  let fr := s.fret i
  let cond := bits w 3 0
  let off := fr.sramOff w (16 * bits w 51 38)
  let issued := { fr.advance with recv := some (bits w 55 52, off, bits w 37 18), recvWait := true }
  (s.issues f.toFretId 7 w → fr.recv = none → bits w 55 52 ≠ 7 → supply.bytes = [] → s.runs (.recv f supply false) [.regs, .frets] fun t => s.onlyFret t i
      ∧ s.metErrors t f.die.val f.ce [] ∧ t.fret i = issued)
  ∧ (s.issues f.toFretId 7 w → fr.recv ≠ none → s.stays (.recv f supply false))
  ∧ (∀ src o n data rest, fr.recv = some (src, o, n) → 1 ≤ src → src ≤ 6 →
      s.held f.die.val 0 = false → fr.takeIn src supply.bytes n = some (data, rest) → s.runs (.recvDone f supply) [.regs, .frets] fun t => s.onlyFret t i
        ∧ s.metErrors t f.die.val f.ce [] ∧ (t.fret i).recv = none ∧ (t.fret i).sram = (fr.writeSram o data).sram
        ∧ (fr.stall = .wait 2 → (t.fret i).stall = .none) ∧ (fr.stall ≠ .wait 2 → (t.fret i).pc = fr.pc))
  ∧ (∀ src o n, fr.recv = some (src, o, n) → 1 ≤ src → src ≤ 6 → fr.takeIn src supply.bytes n = none →
      s.stays (.recvDone f supply))
  ∧ (s.issues f.toFretId 0x0C w → s.waitHolds i cond = true → s.runs (.wait f) [.regs, .frets] fun t => s.onlyFret t i
      ∧ s.metErrors t f.die.val f.ce [] ∧ t.fret i = fr.advance)
  ∧ (s.issues f.toFretId 0x0C w → s.waitHolds i cond = false → cond ≠ 3 → s.runs (.wait f) [.regs, .frets] fun t => s.onlyFret t i
      ∧ s.metErrors t f.die.val f.ce [] ∧ t.fret i = { fr with stall := .wait cond })
  ∧ (s.issues f.toFretId 0x0C w → s.waitHolds i cond = false → cond = 3 → (s.lane i).recs ≠ [] →
      s.runs (.wait f) [.regs, .frets, .slanes] fun t => s.onlyFret t i ∧ s.onlyLane t i ∧ s.metErrors t f.die.val f.ce []
        ∧ t.fret i = { fr with stall := .wait 3 } ∧ t.lane i = { s.lane i with asked := true })
  ∧ (s.issues f.toFretId 0x0C w → s.waitHolds i cond = false → cond = 3 → (s.lane i).recs = [] →
      s.runs (.wait f) [.regs, .frets, .upd, .fab, .vlk, .adm, .dict] fun t =>
        (t.reg (2 + stackDie i) Reg.stackStatus).testBit 0 ∧ t.upd.voted = true)
  ∧ (∀ c, fr.run = 1 → s.held f.die.val 0 = false → fr.stall = .wait c → s.waitHolds i c = true → s.runs (.waitRelease f.toFretId) [.frets] fun t => s.onlyFret t i
      ∧ t.fret i = { fr with stall := .none }.advance)
  ∧ (∀ c, fr.stall = .wait c → s.waitHolds i c = false → s.stays (.waitRelease f.toFretId))
  ∧ (s.waitHolds i 1 = decide (fr.bridgeIssued ≤ fr.bridgeDone)) ∧ (s.waitHolds i 4 = decide (fr.barIssued ≤ fr.barDone))
  ∧ (s.waitHolds i 2 = (fr.recv.isNone || !fr.recvWait)) ∧ (s.waitHolds i 3 = decide (1 ≤ (s.lane i).staged))

/-- R102, R104, R110, R116, R213: SWITCH, SWITCH_WAIT_END and HALT. A fret with an addition, a spill or a bridge delivery still
to retire issues neither SWITCH nor HALT. -/
def Obligations.SwitchAndHalt : Prop := ∀ (s : State) (f : Issue) (w : Nat),
  let i := fretIdx f.toFretId
  let d := f.die.val
  let fr := s.fret i
  let ready := s.unretired i = false
  (s.issues f.toFretId 0x0D w → s.unretired i = true → s.stays (.switch f))
  ∧ (s.issues f.toFretId 0x0D w → ready → s.gated fr = true → s.runs (.switch f) [.regs, .frets] fun t => s.onlyFret t i
      ∧ s.metErrors t d f.ce [] ∧ t.fret i = { fr with stall := .gate })
  ∧ (s.issues f.toFretId 0x0D w → ready → s.gated fr = false → fr.st fr.shadow = 2 → fr.follow = [] →
      let g := ((s.sramCe d f.ce).followShadow i).fret i
      s.runs (.switch f) [.regs, .frets, .slanes, .board, .num, .dram, .fab, .vlk, .adm, .dict, .life] fun t => s.onlyFret t i
        ∧ (s.shadowCurrent i = true → g = fr)
        ∧ (g.st g.shadow = 2 → (t.fret i).active = g.shadow ∧ (t.fret i).run = 1 ∧ g.sameData (t.fret i)
          ∧ ((opcode (seqWord (g.img g.shadow) 0) ≠ 2 ∨ g.idle.next = false) →
              (t.fret i).pc = 0 ∧ (t.fret i).bankA = fr.bankA ∧ (t.fret i).bankB = fr.bankB))
        ∧ (g.st g.shadow = 0 → (t.fret i).run = 2 ∧ (t.reg d Reg.fretStatus).testBit 1))
  ∧ (s.issues f.toFretId 0x0D w → ready → s.gated fr = false → fr.st fr.shadow = 1 → s.runs (.switch f) [.regs, .frets] fun t =>
      s.onlyFret t i ∧ t.fret i = { fr with stall := .switch }
      ∧ s.metErrors t d f.ce [regKey d Reg.fretSwitchWaitCount]
      ∧ t.reg d Reg.fretSwitchWaitCount = cap32 (s.reg d Reg.fretSwitchWaitCount + 1))
  ∧ (s.issues f.toFretId 0x0D w → ready → s.gated fr = false → fr.st fr.shadow = 0 → s.runs (.switch f) [.regs, .frets] fun t =>
      s.onlyFret t i ∧ t.fret i = { fr with run := 2 } ∧ s.metErrors t d f.ce [] ∧ (t.reg d Reg.fretStatus).testBit 1)
  ∧ (fr.run = 1 → s.held d 0 = false → fr.stall = .switch → fr.st fr.shadow = 2 → fr.follow = [] → s.shadowCurrent i = true →
      s.runs (.switchWaitEnd f.toFretId) [.regs, .frets, .slanes, .board, .num, .dram, .fab, .vlk, .adm, .dict, .life] fun t =>
        s.onlyFret t i ∧ (t.fret i).active = fr.shadow ∧ (t.fret i).run = 1 ∧ fr.sameData (t.fret i))
  ∧ (fr.st fr.shadow = 1 ∨ s.held d 0 = true → s.stays (.switchWaitEnd f.toFretId))
  ∧ (s.issues f.toFretId 0x0E w → s.unretired i = true → s.stays (.halt f))
  ∧ (s.issues f.toFretId 0x0E w → ready → (∃ p, fr.phase = some p ∧ p.bound ≠ none) →
      s.runs (.halt f) [.regs, .frets] fun t => s.onlyFret t i ∧ s.metErrors t d f.ce [] ∧ t.fret i = { fr.advance with run := 0 })
  ∧ (s.issues f.toFretId 0x0E w → ready → (∀ p, fr.phase = some p → p.bound = none) →
      s.runs (.halt f) [.regs, .frets, .board, .num, .dict] fun t => s.onlyFret t i
        ∧ t.fret i = { fr.advance with run := 0, phase := none })

/-- R84, R172 to R174, R191, R194, R302, R311: the summary records and staging. -/
def Obligations.SummariesAndStaging : Prop := ∀ (s : State) (f : Issue) (w : Nat),
  let i := fretIdx f.toFretId
  let d := f.die.val
  let fr := s.fret i
  let core := f.col.val / 2
  let record := s.summaryRecord i w
  let l := s.lane i
  (s.issues f.toFretId 0x0A w → (s.cdie d).mailFull core = false → s.runs (.summary f) [.regs, .frets, .board] fun t => s.onlyFret t i
      ∧ s.metErrors t d f.ce []
      ∧ (t.cdie d).flight = (s.cdie d).flight ++ [(core, record)] ∧ t.cdie (1 - d) = s.cdie (1 - d)
      ∧ (w % 2 = 0 → (t.fret i).sums = fr.sums)
      ∧ (∀ k, k < 4 → w % 2 = 1 → (bits w 55 52 >>> k) % 2 = 1 → (t.fret i).sum k =
          ⟨(fr.sum k).kind, List.replicate 64 (sumIdentity (fr.sum k).kind)⟩))
  ∧ (s.issues f.toFretId 0x0A w → (s.cdie d).mailFull core = true → s.runs (.summary f) [.regs, .frets] fun t => s.onlyFret t i
      ∧ t.fret i = { fr with stall := .summary }
      ∧ s.metErrors t d f.ce [regKey d Reg.epuSummaryWaitCount, regKey d Reg.epuStatus]
      ∧ t.reg d Reg.epuSummaryWaitCount = cap32 (s.reg d Reg.epuSummaryWaitCount + 1)
      ∧ (t.reg d Reg.epuStatus).testBit 3)
  ∧ (fr.run = 1 → s.held d 3 = false → fr.stall = .summary → (s.cdie d).mailFull core = false →
      s.runs (.summaryWaitEnd f.toFretId) [.frets, .board] fun t => s.onlyFret t i ∧ (t.fret i).stall = .none
        ∧ (t.cdie d).flight = (s.cdie d).flight ++ [(core, s.summaryRecord i (seqWord fr.aimg fr.pc))])
  ∧ ((s.cdie d).mailFull core = true ∨ s.held d 3 = true → s.stays (.summaryWaitEnd f.toFretId))
  ∧ (leAt record 0 2 = fr.voicing.vid % 65536 ∧ leAt record 2 1 = bits w 51 44 ∧ leAt record 4 2 = i % 384 ∧ leAt record 6 1 = d
      ∧ leAt record 7 1 = bits w 55 52 ∧ leAt record 24 8 = s.time % pow2 64)
  ∧ (∀ (core : Fin 8) take, s.runs (.summaryMailboxArrival f.die core take) [.board] fun t =>
        let came := (s.cdie d).flight.find? fun x => x.1 = core.val
        let mail := (s.cdie d).mail ++ came.toList
        let mine := (mail.filter fun x => x.1 = core.val).take take
        (t.cdie d).mail = mine.foldl List.erase mail ∧ (t.cdie d).taken = (s.cdie d).taken ++ mine
        ∧ (t.cdie d).flight = (match came with | some m => (s.cdie d).flight.erase m | none => (s.cdie d).flight)
        ∧ t.cdie (1 - d) = s.cdie (1 - d))
  ∧ (∀ r rest ue, l.recs.drop l.staged = r :: rest → (s.held (2 + stackDie i) 7 = true
        ∨ s.spansWait [(s.laneAddr i r.1, r.2, false)] = true) → s.stays (.stageReady f.toFretId ue))
  ∧ (∀ r rest, l.recs.drop l.staged = r :: rest → l.asked = true → s.held (2 + stackDie i) 7 = false →
      s.spansWait [(s.laneAddr i r.1, r.2, false)] = false → s.readFails (s.laneAddr i r.1) r.2 = false →
      s.runs (.stageReady f.toFretId false) [.slanes] fun t => s.onlyLane t i
        ∧ t.lane i = { l with staged := l.staged + 1, asked := false })
  ∧ (∀ r rest ue, l.recs.drop l.staged = r :: rest → l.asked = true → s.held (2 + stackDie i) 7 = false →
      s.spansWait [(s.laneAddr i r.1, r.2, false)] = false → (ue || s.readFails (s.laneAddr i r.1) r.2) = true →
      s.runs (.stageReady f.toFretId ue) [.regs, .frets, .upd, .dram, .fab, .vlk, .adm, .dict, .life] fun t =>
        (t.reg (2 + stackDie i) Reg.stackStatus).testBit 1
        ∧ t.reg (2 + stackDie i) Reg.stackFaultCount = cap32 (s.reg (2 + stackDie i) Reg.stackFaultCount + 1)
        ∧ t.upd.voted = true)

/-- R84, R133, R140, R145: BRIDGE hands the slot's values to the bridge once the slot, and the companion of an operation that writes
it, are free. -/
def Obligations.BridgeContributes : Prop := ∀ (s : State) (f : Issue) (w wait : Nat),
  let i := fretIdx f.toFretId
  let d := f.die.val
  let fr := s.fret i
  let v := fr.voicing
  let slot := bits w 55 52
  let busy := s.slotBusy i slot || (v.op ≤ 4 && s.slotBusy i (slot + 1))
  (s.issues f.toFretId 8 w → busy = true → s.stays (.bridge f wait))
  ∧ (s.issues f.toFretId 8 w → busy = false → s.runs (.bridge f wait) [.regs, .frets, .board] fun t => s.onlyFret t i
    ∧ (∃ c, t.board.contribs = s.board.contribs ++ [c] ∧ c.die = d ∧ c.index = i % 384 ∧ c.pos = v.position
        ∧ c.base = i % 384 - v.position ∧ c.size = v.size ∧ c.op = v.op ∧ c.rows = bits w 51 45 ∧ c.cols = v.n ∧ c.vid = v.vid
        ∧ c.vals = slotValues fr v (s.odNat (od 0x2100 5)) (bits w 55 52) (bits w 51 45 * v.n)
        ∧ c.mutes = slotMutes fr v (bits w 55 52) (bits w 51 45 * v.n))
    ∧ (v.op = 5 → t.fret i = { fr.advance with barIssued := fr.barIssued + 1 })
    ∧ (v.op ≠ 5 → t.fret i = { fr.advance with bridgeIssued := fr.bridgeIssued + 1 })
    ∧ s.metErrors t d f.ce [regKey d Reg.accStatus, regKey d Reg.accAliasWaitCount, regKey d Reg.accAliasWaitCycles,
        regKey d Reg.bridgeStatus])

/-- R136, R142 to R146: BRIDGE_RESULT of an operation that ends within the die (extent 0); window accesses that waited for
its slots follow (R130). -/
def Obligations.BridgeCompletes : Prop := ∀ (s : State) (die : Fin 2) (base : Fin 384) (c : Contribution),
  (s.board.contribs.find? fun x => x.die = die.val && x.base = base.val) = some c → c.extent = 0 →
  let ms := s.members c die.val
  (ms.length < c.size ∨ s.held die.val 2 = true → s.stays (.bridgeResult die base))
  ∧ (c.size ≤ ms.length → s.held die.val 2 = false → sameOp c ms = false → s.runs (.bridgeResult die base) [.regs] fun t =>
      s.onlyRegs t [regKey die.val Reg.bridgeStatus] ∧ (t.reg die.val Reg.bridgeStatus).testBit 2)
  ∧ (c.size ≤ ms.length → 1 ≤ c.size → s.held die.val 2 = false → sameOp c ms = true →
      s.runs (.bridgeResult die base) [.regs, .frets, .board, .dram] fun t =>
        t.reg die.val Reg.bridgeOpCount = cap32 (s.reg die.val Reg.bridgeOpCount + 1)
        ∧ t.board.contribs = s.board.contribs.filter (fun x => !ms.contains x)
        ∧ (∀ j, (∀ x ∈ ms, x.die * 384 + x.index ≠ j) → (∀ x ∈ s.board.waits, x.fret ≠ j) → t.fret j = s.fret j)
        ∧ ((ms.map fun x => x.die * 384 + x.index).Nodup → ∀ x ∈ ms, let j := x.die * 384 + x.index
          (s.fret j).voicing.vid = x.vid → SMap.get 0 s.board.runs (j * 65536 + x.vid) = x.runNo + 1 →
          (c.op = 5 → (t.fret j).barDone = (s.fret j).barDone + 1)
          ∧ (c.op ≠ 5 → (t.fret j).bridgeDone = (s.fret j).bridgeDone + 1)))

/-- R136: the pairing of a level, and of all levels: neighbours combine, an odd last one passes. -/
def Obligations.PairwiseCombine : Prop := ∀ (α : Type) (f : α → α → α) (a : α) (l : List α) (n : Nat),
  treeUp f n [a] = some a
  ∧ (l.length ≤ pow2 n → l ≠ [] → (treeUp f n l).isSome = true)
  ∧ (∀ k, k < (l.length + 1) / 2 → (pairUp f l)[k]? =
      match l[2 * k]?, l[2 * k + 1]? with
      | some x, some y => some (f x y)
      | x, _ => x)

/-- R101, R114, R425: VOICING_LOAD. -/
def Obligations.VoicingLoad : Prop :=
  (∀ (s : State) (die : Fin 2) (value : BitVec 32) (priv : Bool),
  let d := die.val
  let v := value.toNat
  let a := s.reg d Reg.fretLoadAddr
  let l : VLoad := ⟨a, bits v 1 1 = 1, bits v 12 9, bits v 8 4, s.time, s.imageAt a,
    (loadTargets d v).map fun i => (i, (s.fret i).shadow)⟩
  let ok := s.guardWrite d 0 priv
  let busy := s.reg d Reg.fretLoadStatus % 2 = 1
  (ok = false → s.runs (.voicingLoad die value priv) [.regs] fun t => s.onlyRegs t [regKey d (guardReg 0)]
      ∧ (t.reg d (guardReg 0)).testBit 1)
  ∧ (ok = true → s.held d 0 = true → s.stays (.voicingLoad die value priv))
  ∧ (ok = true → s.held d 0 = false → v % 2 = 1 → busy → s.runs (.voicingLoad die value priv) [.regs] fun t =>
      s.onlyRegs t [regKey d Reg.fretLoadStatus] ∧ (t.reg d Reg.fretLoadStatus).testBit 2)
  ∧ (ok = true → s.held d 0 = false → (v % 2 = 0 ∨ (¬ busy ∧ l.broadcast = false ∧ 24 ≤ l.row)) →
      s.runs (.voicingLoad die value priv) [.regs] fun t =>
        s.onlyRegs t [regKey d Reg.fretLoadCtrl] ∧ t.reg d Reg.fretLoadCtrl = v &&& 0x1FF2)
  ∧ (ok = true → s.held d 0 = false → v % 2 = 1 → ¬ busy → (l.broadcast = true ∨ l.row < 24) →
      s.runs (.voicingLoad die value priv) [.regs, .frets, .board] fun t =>
        (t.cdie d).load = some l ∧ t.cdie (1 - d) = s.cdie (1 - d)
        ∧ s.onlyRegs t [regKey d Reg.fretLoadCtrl, regKey d Reg.fretLoadStatus]
        ∧ t.reg d Reg.fretLoadCtrl = v &&& 0x1FF2 ∧ (t.reg d Reg.fretLoadStatus).testBit 0
        ∧ ∀ i, (i ∉ loadTargets d v → t.fret i = s.fret i)
          ∧ (i ∈ loadTargets d v → (t.fret i).st (t.fret i).shadow = 1 ∧ (t.fret i).active = (s.fret i).active
              ∧ (t.fret i).img (1 - (t.fret i).shadow) = (s.fret i).img (1 - (s.fret i).shadow))))
  ∧ (∀ (s : State) (die : Fin 2) (ue : Bool),
  let d := die.val
  ((s.cdie d).load = none → s.stays (.voicingLoadDone die ue))
  ∧ ∀ l, (s.cdie d).load = some l →
    ((s.held d 0 = true ∨ s.spansWait [(l.addr, 16384, false)] = true) → s.stays (.voicingLoadDone die ue))
    ∧ ∀ i k, l.slots = [(i, k)] → i / 384 = d → k < 2 → s.held d 0 = false → s.spansWait [(l.addr, 16384, false)] = false →
    let fr := s.fret i
    let img := readImage l.start l.read (s.imageAt l.addr)
    let bad := loadCheck img (s.odNat (od 0x2100 5)) (fretCol i) (fretRow i)
      (ue || s.poisoned l.addr 16384 || !s.mappedRange l.addr 16384)
    let set := (Voicing.of img).tableSet
    let clash := set ≠ 0 ∧ SMap.get 0 (s.cdie d).tables set ≠ 0 ∧ SMap.get 0 (s.cdie d).tables set ≠ tableCrc img + 1
    fr.st k = 1 → fr.reload.contains k = false →
      s.runs (.voicingLoadDone die ue) [.regs, .frets, .board, .upd, .dram, .fab, .vlk, .adm, .dict, .life] fun t =>
        s.onlyFret t i ∧ (t.cdie d).load = none
        ∧ t.reg d Reg.fretLoadStatus % 2 = 0 ∧ (t.reg d Reg.fretLoadStatus).testBit 1
        ∧ bits (t.reg d Reg.fretLoadStatus) 19 16 = bad % 16
        ∧ (bad ≠ 0 → (t.fret i).st k = 0 ∧ (t.reg d Reg.fretStatus).testBit 0
            ∧ bits (t.reg d Reg.fretLoadStatus) 11 8 = fretCol i ∧ bits (t.reg d Reg.fretLoadStatus) 7 3 = fretRow i)
        ∧ (bad = 0 → clash → (t.fret i).st k = 0 ∧ (t.reg d Reg.epuStatus).testBit 1
            ∧ t.reg d Reg.epuTableMismatchCount = cap32 (s.reg d Reg.epuTableMismatchCount + 1))
        ∧ (bad = 0 → ¬ clash → (t.fret i).st k = 2 ∧ (t.fret i).img k = img)
        ∧ (t.fret i).active = fr.active ∧ (t.fret i).sram = fr.sram ∧ (t.fret i).acc = fr.acc)

/-- R24, R110, R111, R212: PHASE_START, whose frame must be accepted and whose voicing is the image at the rungs in force; OVERRUN. -/
def Obligations.PhaseStartAndOverrun : Prop := ∀ (s : State),
  (∀ (die : Fin 2) (vid : BitVec 16) (bound first count : Nat) (frame : Option (Nat × Nat)), let d := die.val
    let v := s.rungVid s.library vid.toNat
    let c := Instr.phaseStart die vid bound first count frame
    let plain := s.rungVid s.library v = v ∧ ∀ j, s.shadowsSet j v = false ∧ (s.fret j).follow = []
    let boundOf := fun (img : Img) => if (Descr.of img).fixed = 0 then none else some bound
    ((s.dieOut d = true ∨ s.held d 0 = true ∨ s.frameAccepted frame = false) → s.stays c)
    ∧ (s.dieOut d = false → s.held d 0 = false → s.frameAccepted frame = true →
      s.runs c [.regs, .frets, .slanes, .board, .num, .dram, .fab, .vlk, .adm, .dict, .life] fun t =>
      ∀ k, k < 384 → let i := d * 384 + k
        let fr := s.fret i
        let mine := first ≤ k ∧ k < first + count
        (¬ mine → t.fret i = fr)
        ∧ (mine → fr.run = 1 → fr.awaitsBound v = true →
            t.fret i = { fr with
              phase := some ⟨v, boundOf fr.aimg, false, match fr.phase with | some p => p.start | none => s.time⟩, frame := frame })
        ∧ (mine → plain → fr.run = 0 → fr.armed = [] → fr.st fr.shadow = 2 → (Voicing.of (fr.img fr.shadow)).vid = v →
            (t.fret i).active = fr.shadow ∧ (t.fret i).run = 1 ∧ fr.sameData (t.fret i)
            ∧ (t.fret i).phase = some ⟨v, boundOf (fr.img fr.shadow), false, s.time⟩ ∧ (t.fret i).frame = frame)
        ∧ (mine → fr.run = 1 → fr.awaitsBound v = false → fr.shadows v = true →
            t.fret i = fr.arm (⟨v, some bound, false, s.time⟩, frame))
        ∧ (mine → fr.run = 1 → fr.awaitsBound v = false → s.shadowsSet i v = true →
            (t.fret i).armed = (fr.arm (⟨v, some bound, false, s.time⟩, frame)).armed ∧ (t.fret i).active = fr.active)
        ∧ ((fr.run = 2 ∨ (fr.awaitsBound v = false ∧ fr.shadows v = false ∧ s.shadowsSet i v = false)) → t.fret i = fr)))
  ∧ ∀ (f : FretId), let i := fretIdx f
    let fr := s.fret i
    (∀ p, fr.phase = some p → p.bound ≠ none → p.overran = false → fr.frame = none →
      s.runs (.overrun f) [.regs, .frets, .board] fun t => s.onlyFret t i
        ∧ t.fret i = { fr with phase := some { p with overran := true } }
        ∧ s.onlyRegs t [regKey f.die.val Reg.fretStatus, regKey f.die.val Reg.fretOverrunCount]
        ∧ (t.reg f.die.val Reg.fretStatus).testBit 2
        ∧ t.reg f.die.val Reg.fretOverrunCount = cap32 (s.reg f.die.val Reg.fretOverrunCount + 1))
    ∧ (∀ p, fr.phase = some p → p.bound ≠ none → p.overran = false → fr.frame ≠ none →
      s.runs (.overrun f) [.regs, .frets, .board, .vlk, .adm, .dict] fun t => s.onlyFret t i
        ∧ t.fret i = { fr with phase := some { p with overran := true } }
        ∧ (t.reg f.die.val Reg.fretStatus).testBit 2
        ∧ t.reg f.die.val Reg.fretOverrunCount = cap32 (s.reg f.die.val Reg.fretOverrunCount + 1))
    ∧ ((∀ p, fr.phase = some p → p.bound = none ∨ p.overran = true) → s.stays (.overrun f))

/-- R81, R82, R114: FRET_FAULT, PHASE_AT_TWICE_BOUND, SPARE_VOICING_RELOAD_DONE. -/
def Obligations.FretFaults : Prop := ∀ (s : State),
  (∀ (die : Fin 2) (col : Fin 16) (phys : Fin 25) (report : FretReport), let d := die.val
    let code := match report.cause with | .sram => 1 | .selfCheck => 2 | .twiceBound => 3
    (report.cause = .twiceBound → s.bounded d col.val phys.val = false → s.stays (.fretFault die col phys report)) ∧
    ((report.cause = .twiceBound → s.bounded d col.val phys.val = true) → s.runs (.fretFault die col phys report) [.regs, .frets, .board, .upd, .fab, .vlk, .adm, .dict, .life] fun t =>
      t.reg d Reg.fretFaultLoc = 0x10000 + code * 4096 + col.val * 256 + phys.val
      ∧ (t.reg d Reg.fretStatus).testBit 5
      ∧ (s.logicalRow d col.val phys.val = none → t.frets = s.frets ∧ t.upd = s.upd ∧ t.adm = s.adm ∧ t.vlk = s.vlk
          ∧ (phys.val = 24 → s.bypassed d col.val = none → t.spareFree d col.val = false))
      ∧ (∀ row, s.logicalRow d col.val phys.val = some row → s.spareFree d col.val = true →
          let sub := t.fret (d * 384 + col.val * 24 + row)
          t.upd.voted = true ∧ t.bypassed d col.val = some phys.val ∧ t.spareFree d col.val = false
          ∧ sub.run = 2 ∧ sub.sram = [] ∧ sub.acc = [] ∧ sub.spill = [])
      ∧ (∀ row, s.logicalRow d col.val phys.val = some row → s.spareFree d col.val = false →
          t.upd.voted = true ∧ t.dieOut d = true ∧ (t.reg d Reg.fretStatus).testBit 6
          ∧ t.life.spare.failed.contains (d, col.val, phys.val))))
  ∧ (∀ (f : FretId), let fr := s.fret (fretIdx f)
    let phys : Nat := s.physicalRow f.die.val f.col.val f.row.val
    (∀ p, fr.phase = some p → p.bound ≠ none →
      s.runs (.phaseAtTwiceBound f) [.regs, .frets, .board, .upd, .fab, .vlk, .adm, .dict, .life] fun t =>
        t.reg f.die.val Reg.fretFaultLoc = 0x10000 + 3 * 4096 + f.col.val * 256 + phys
        ∧ (t.reg f.die.val Reg.fretStatus).testBit 5 ∧ t.upd.voted = true)
    ∧ ((∀ p, fr.phase = some p → p.bound = none) → s.stays (.phaseAtTwiceBound f)))
  ∧ (∀ (die : Fin 2) (col : Fin 16), (s.held die.val 0 = true → s.stays (.spareVoicingReloadDone die col)) ∧ (s.held die.val 0 = false →
    s.runs (.spareVoicingReloadDone die col) [.regs, .frets, .board, .dram, .fab, .vlk, .adm, .dict, .life] fun t =>
      ∀ i, (i / 384 ≠ die.val ∨ fretCol i ≠ col.val ∨ (s.fret i).reload = [] → t.fret i = s.fret i)
        ∧ (i / 384 = die.val → fretCol i = col.val → (s.fret i).reload ≠ [] → (t.fret i).reload = []
            ∧ ∀ k, k < 2 → ((s.fret i).reload.contains k = false →
                (t.fret i).st k = (s.fret i).st k ∧ (t.fret i).img k = (s.fret i).img k)
              ∧ ((s.fret i).reload.contains k = true → ∀ a, (if k = 0 then (s.fret i).last0 else (s.fret i).last1) = some a →
                ((t.fret i).st k = 0 ∨ (t.fret i).st k = 2) ∧ ((t.fret i).st k = 2 → (t.fret i).img k = s.imageAt a)))))

/-- R83, R84, R129 to R131: the fret window: writes of its regions, accesses that wait for a slot in flight, refused accesses, and
the timeout. -/
def Obligations.FretWindow : Prop := ∀ (s : State) (addr width i o : Nat) (data : WindowData),
  let fr := s.fret i
  let v := fr.voicing
  let x := data.value.toNat
  let E := v.m * v.n
  let T := s.odNat (od 0x2100 5)
  let k := (o - 0x40000) / 4
  let c := Instr.windowWrite addr width data
  (inWindows addr = false ∨ (windowPlace addr).1 = none → s.stays c)
  ∧ (windowPlace addr = (some i, o) → s.held (i / 384) 0 = true → s.stays c)
  ∧ (inWindows addr = true → windowPlace addr = (some i, o) → s.held (i / 384) 0 = false →
    (o < 0x40000 → s.runs c [.regs, .frets] fun t => s.onlyFret t i ∧ s.metErrors t (i / 384) data.ce []
      ∧ t.fret i = { fr with sram := SMap.setMany 0 fr.sram o (natLE (min width (0x40000 - o)) x) })
    ∧ (windowOk o width = false → s.runs c [.regs, .dram] fun t => s.metErrors t (i / 384) data.ce []
      ∧ t.dram = { s.dram with replies := (2, addr, [], true) :: s.dram.replies })
    ∧ (windowOk o width = true → s.windowBusy i o width = true → s.runs c [.regs, .board] fun t =>
      s.metErrors t (i / 384) data.ce []
      ∧ t.board = { s.board with waits := s.board.waits ++ [⟨i, o, width, some x, 2, addr⟩] })
    ∧ (0x88000 ≤ o → windowOk o width = true → s.runs c [.regs] fun t => s.metErrors t (i / 384) data.ce [])
    ∧ (0x40000 ≤ o → o < 0x88000 → windowOk o width = true → s.windowBusy i o width = false →
      s.runs c [.regs, .frets] fun t => s.onlyFret t i ∧ s.metErrors t (i / 384) data.ce []
      ∧ SMap.get 0 (t.fret i).acc k = BitVec.ofNat 32 x
      ∧ (width = 8 → SMap.get 0 (t.fret i).acc (k + 1) = BitVec.ofNat 32 (x / 0x100000000))
      ∧ (∀ y, y ≠ k → (width = 8 → y ≠ k + 1) → SMap.get 0 (t.fret i).acc y = SMap.get 0 fr.acc y)
      ∧ (width = 4 → fr.active < 2 → k < slotsOf v.m v.n * E →
          SMap.get 0 (t.fret i).terms k = 0 ∧ SMap.get false (t.fret i).mute k = false
          ∧ (t.fret i).spills = fr.spills ∧ (t.fret i).bounded = fr.bounded.filter (· ≠ k / E)
          ∧ (ownsPairs v T (k / E) = true → SMap.get 0 (t.fret i).spill (pairWord v (k / E) (k % E)) = 0
              ∧ SMap.get 0 (t.fret i).spill (pairWord v (k / E) (k % E) + 1) = 0))))
  ∧ (∀ (f : FretId) o, o < 0x100000 →
      windowPlace (0x40000000000 + (f.die.val * 512 + f.col.val * 32 + f.row.val) * 0x100000 + o) = (some (fretIdx f), o))
  ∧ (∀ (f : FretId) write0, (s.board.waits.find? fun x => x.fret = fretIdx f && x.data.isSome = write0) = none →
      s.stays (.windowTimeout f write0))
  ∧ (∀ (f : FretId) write0 y, (s.board.waits.find? fun x => x.fret = fretIdx f && x.data.isSome = write0) = some y →
      s.runs (.windowTimeout f write0) [.regs, .board, .dram] fun t =>
        s.onlyRegs t [regKey f.die.val Reg.accStatus] ∧ (t.reg f.die.val Reg.accStatus).testBit 4
        ∧ t.board = { s.board with waits := s.board.waits.erase y }
        ∧ (write0 = true → t.dram = s.dram)
        ∧ (write0 = false → t.dram =
            { s.dram with replies := (y.cls, y.addr, List.replicate y.width 0xFF, false) :: s.dram.replies }))

/-- R65, R213, R215, R216, R218: PASS_VERDICT and REPEAT_IMAGES_LOADED. -/
def Obligations.PassVerdict : Prop := ∀ (s : State) (layer : Nat) (backward : Bool),
  let r := s.passStat layer backward
  let none' := s.passNo layer backward = none
  (none' ∨ r.1 = [] ∨ s.held 6 6 = true → s.stays (.passVerdict layer backward))
  ∧ ∀ q p, s.passNo layer backward = some q → s.num.passes[q]? = some p →
    (s.num.repeating.contains q = true → s.stays (.passVerdict layer backward))
    ∧ (r.1 ≠ [] → s.held 6 6 = false → s.num.repeating.contains q = false →
      let next := if p.repeatsStep < s.odNat (od 0x2100 4) then p.up p.current else none
      (s.overflows r.2 = false → s.runs (.passVerdict layer backward)
          [.regs, .frets, .slanes, .board, .num, .dram, .fab, .vlk, .adm, .dict, .life] fun t =>
          t.num.gates = s.num.gates ++ r.1.map (fun m => (layer, backward, m)) ∧ t.num.passes = s.num.passes
          ∧ t.num.repeating = s.num.repeating)
      ∧ (∀ new, s.overflows r.2 = true → next = some new →
          s.runs (.passVerdict layer backward) [.mem, .regs, .slanes, .board, .num, .dram, .vlk, .adm, .dict] fun t =>
            t.num.gates = s.num.gates ∧ t.num.repeating = s.num.repeating ++ [q] ∧ t.num.stepRepeats = s.num.stepRepeats + 1
            ∧ t.num.passes = s.num.passes.set q { p with
                current := new, repeatsStep := min 255 (p.repeatsStep + 1), repeats := cap32 (p.repeats + 1)
                step := s.curStep, repeated := true, overflowed := true, topNow := p.topNow + if p.current = 5 then 1 else 0 }
            ∧ t.reg 6 Reg.numRepeatCount = cap32 (s.reg 6 Reg.numRepeatCount + 1)
            ∧ (t.reg 6 Reg.numStatus).testBit 0 ∧ (t.reg 6 Reg.numStatus).testBit 1)
      ∧ (s.overflows r.2 = true → next = none →
          s.runs (.passVerdict layer backward) [.regs, .frets, .slanes, .board, .num, .dram, .fab, .vlk, .adm, .dict, .life] fun t =>
            t.num.gates = s.num.gates ++ r.1.map (fun m => (layer, backward, m))
            ∧ t.num.passes = s.num.passes.set q { p with
                pending := p.higher p.pending ((p.up p.current).getD 5), survived := cap32 (p.survived + 1), step := s.curStep
                survivedNow := true, overflowed := true, topNow := p.topNow + if p.current = 5 then 1 else 0 }
            ∧ t.reg 6 Reg.numSurviveCount = cap32 (s.reg 6 Reg.numSurviveCount + 1)))

/-- R212, R215: REPEAT_IMAGES_LOADED of a pass that one fret runs: its bounds are written again and it switches into the first of its
voicings, loaded at the rungs in force. -/
def Obligations.RepeatImages : Prop :=
  (∀ (s : State) (layer : Nat) (backward : Bool),
  (s.passNo layer backward = none ∨ s.held 6 6 = true → s.stays (.repeatImagesLoaded layer backward))
  ∧ ∀ q p, s.passNo layer backward = some q → s.num.passes[q]? = some p →
    (s.num.repeating.contains q = false → s.stays (.repeatImagesLoaded layer backward))
    ∧ (s.num.repeating.contains q = true → s.held 6 6 = false →
      s.runs (.repeatImagesLoaded layer backward) [.regs, .frets, .slanes, .board, .num, .dram, .fab, .vlk, .adm, .dict, .life] fun t =>
        t.num.repeating = s.num.repeating.filter (· ≠ q) ∧ t.num.passes = s.num.passes ∧ t.num.gates = s.num.gates
        ∧ ∀ i m first rest, s.passFrets layer backward = [i] → (s.lane i).mark = some m → m.vids = first :: rest →
            let fr := s.fret i
            let vid := s.rungVid s.library first
            let u := (s.beginRepeat q [i]).repeatLoad i first rest
            ((u.fret i).armed = ((first :: rest).map fun x =>
                ((⟨s.rungVid s.library x, some (repeatBound s.library x), false, s.time⟩ : FretPhase), fr.frame)) ++ fr.armed)
            ∧ (∀ a, s.imageOf i vid = some a → (Voicing.of (s.imageAt a)).tableSet = 0 →
              loadCheck (s.imageAt a) (s.odNat (od 0x2100 5)) (fretCol i) (fretRow i)
                (s.poisoned a 16384 || !s.mappedRange a 16384) = 0 →
              (u.fret i).st fr.shadow = 2 ∧ (u.fret i).img fr.shadow = s.imageAt a)
            ∧ ((u.fret i).st fr.shadow = 2 → u.shadowCurrent i = true →
              (t.fret i).active = fr.shadow ∧ (t.fret i).aimg = (u.fret i).img fr.shadow ∧ (t.fret i).run = 1
                ∧ (t.fret i).sram = fr.sram ∧ (t.fret i).acc = fr.acc)))
  ∧ (∀ (s : State) (t : ConvStat),
  s.overflows t = true ↔ 0 < t.nonfin ∨ s.odNat (od 0x2100 0x0A) * t.elements < t.sats * 65536)

/-- R219 to R223: STEP_VERDICT. The module contributes its vector to the SUM of X0 (R138); until the whole sum is here nothing is
decided, and then the summed vector decides. -/
def Obligations.StepVerdict : Prop := ∀ (s : State) (arrived : List (Nat × List F32)),
  let s1 := (s.contribute 0 s.verdictVector).sumArrives 0 arrived
  let c := Instr.stepVerdict arrived
  (s.num.decided = some s.curStep ∨ s.held 6 6 = true → s.stays c)
  ∧ (s.num.decided ≠ some s.curStep → s.held 6 6 = false → s1.sumHere 0 = none → exec c s = .next s1 ∧ s.onlyChanges s1 [.regs, .fab])
  ∧ (∀ sum, s.num.decided ≠ some s.curStep → s.held 6 6 = false → s1.sumHere 0 = some sum →
    let replay := anyOf sum 1 = false ∧ anyOf sum 2 = true ∧ -32 < s.cube ∧ s.odNat (od 0x2100 0x0D) = 0 ∧ s.num.halved = false
    let skipped := cap32 (s.reg 6 Reg.numSkipCount + 1)
    (anyOf sum 1 = false → anyOf sum 2 = false → s.runs c [.regs, .num, .fab, .dict] fun t =>
        t.num.decided = some s.curStep ∧ t.num.skip = s.num.skip
        ∧ t.num.before = some ⟨s.num.passes, s.reg 6 Reg.numCube, s.reg 6 Reg.numCleanSteps, s.num.carry⟩
        ∧ t.num.passes.length = s.num.passes.length ∧ t.num.clean = (!anyOf sum 4) ∧ t.num.dirty = anyOf sum 4
        ∧ t.reg 6 Reg.numCube = s.reg 6 Reg.numCube ∧ t.reg 6 Reg.numSkipCount = s.reg 6 Reg.numSkipCount)
    ∧ (anyOf sum 1 = true → s.runs c [.regs, .num, .fab, .dict] fun t => t.num.decided = some s.curStep ∧ t.num.skip = true
        ∧ t.num.clean = false ∧ t.num.dirty = false
        ∧ t.reg 6 Reg.numCube = s.reg 6 Reg.numCube ∧ t.reg 6 Reg.numSkipCount = skipped)
    ∧ (anyOf sum 1 = false → anyOf sum 2 = true → ¬ replay → s.runs c [.regs, .frets, .num, .fab, .dict] fun t => t.num.skip = true
        ∧ t.reg 6 Reg.numSkipCount = skipped ∧ t.reg 6 Reg.numCleanSteps = 0 ∧ (t.reg 6 Reg.numStatus).testBit 4
        ∧ (-32 < s.cube → t.cube = s.cube - 1) ∧ (s.cube ≤ -32 → t.cube = s.cube))
    ∧ (replay → s.runs c [.mem, .regs, .frets, .slanes, .board, .num, .emb, .upd, .dram, .fab, .vlk, .adm, .dict] fun t =>
        t.num.halved = true ∧ t.num.decided = none ∧ t.num.skip = false ∧ t.cube = s.cube - 1
        ∧ t.reg 6 Reg.numReplayCount = cap32 (s.reg 6 Reg.numReplayCount + 1)
        ∧ t.upd.rolls = s.upd.rolls + 1 ∧ t.upd.rerun = 4 ∧ t.upd.voted = false ∧ t.board.convs = [] ∧ t.board.contribs = []
        ∧ ∀ i, (t.lane i).recs = []))

/-- R250, R253, R302, R311, R342: REMOTE_ROW_READ and HELD_READ_RELEASE. `s1` is the state with the packet taken in. -/
def Obligations.RowReads : Prop := ∀ (s : State) (source table row step : Nat),
  let id := s.inboxId source 1
  let s1 := s.takeInbox source 1
  let c := Instr.remoteRowRead source table row step
  let all : List Part := [.regs, .frets, .emb, .upd, .dram, .fab, .vlk, .adm, .dict, .life]
  let here := s.engineHeld 8 = false ∧ s.turnOf source 1 = true
  let now := here ∧ step ≤ s.curStep ∧ s.rowWaits table row = false
  (¬ here → s.stays c)
  ∧ (now → ∀ t0 r, s.table table = some t0 → s.readRow t0 row = .inr (some r) →
    s.runs c [.fab] fun t => t.fab = (s1.sendFlags source 0 0 0 (replyBytes id stOk (2 * r.1) ++ r.2)).fab)
  ∧ (now → (∀ t0, s.table table = some t0 → s.readRow t0 row = .inr none) →
    s.runs c [.fab] fun t => t.fab = (s1.sendFlags source 0 0 0 (replyBytes id stOk 1)).fab)
  ∧ (now → ∀ t0 a, s.table table = some t0 → s.readRow t0 row = .inl a →
    s.runs c [.regs, .dram, .fab, .vlk, .adm, .dict, .life] fun t =>
      let status := if s.mappedRange a.1 a.2 then stPoison else stAddr
      t.fab = ((s1.meetPoison a.1 a.2).sendFlags source 0 0 (if status = stPoison then 2 else 0) (replyBytes id status 0)).fab)
  ∧ (here → (s.curStep < step ∨ s.rowWaits table row = true) → s.runs c [.emb, .fab] fun t =>
      t.fab = s1.fab ∧ t.emb = { s.emb with held := s.emb.held ++ [⟨source, id, table, row, step⟩] })
  ∧ (s.engineHeld 8 = false → s.runs .heldReadRelease all fun t => (∀ h ∈ s.emb.held, s.heldDue h = true → h.src ≠ s.node) →
      t.emb.held = s.emb.held.filter fun h => !s.heldDue h)
  ∧ ((s.engineHeld 8 = true ∨ ∀ h ∈ s.emb.held, s.heldDue h = false) → s.stays .heldReadRelease)
  ∧ (∀ h t0 r, s.engineHeld 8 = false → s.emb.held.filter (fun h => s.heldDue h) = [h] → h.src ≠ s.node → s.table h.table = some t0 →
      s.readRow t0 h.row = .inr (some r) → s.runs .heldReadRelease [.emb, .fab] fun t =>
        t.fab = (s.sendFlags h.src 0 0 0 (replyBytes h.id stOk (2 * r.1) ++ r.2)).fab)

/-- R254, R260 to R262, R312: SCATTER_TERM of the one source of a die, or of one that another source holds up; SORT_MERGE. -/
def Obligations.ScatterTerms : Prop := ∀ (s : State) (die : Fin 4) (table row : Nat) (term : ScatterTerm) (last : Bool),
  let d := die.val
  let c := Instr.scatterTerm die table row term last
  let q : QueuedTerm := ⟨d, table, row, term⟩
  let closed := if last then s.emb.closed ++ [(d, term.source)] else s.emb.closed
  let taken := s.held (2 + d) 8 = false ∧ s.homeDie table row = d ∧ term.source < term.sources ∧ s.emb.closed.contains (d, term.source) = false
  (¬ taken → s.stays c)
  ∧ (∀ k, taken → k < term.sources → k ≠ term.source → s.emb.closed.contains (d, k) = false →
      (s.emb.queue.any fun x => x.die = d && x.term.source = k) = false →
      s.runs c [.emb] fun t => t.emb = { s.emb with queue := s.emb.queue ++ [q], closed := closed })
  ∧ (∀ t0, taken → term.sources = 1 → (s.emb.queue.any fun x => x.die = d) = false → s.table table = some t0 → t0.table = table →
    let listed := s.emb.rows.find? fun r => r.is s.curStep table row
    let here := fun (r : RowSum) => r.table = table && r.row = row
    let merged := s.emb.merge.any fun x => x.table = table && x.row = row
    let payload := gradPayload term.fmt (s.termBlocks t0 term)
    let old := (s.emb.open'.find? here).getD ⟨d, table, row, 0, List.replicate t0.dim 0⟩
    let new : RowSum := { old with count := cap32 (old.count + 1), sum := addVec old.sum (gradValues term.fmt t0.dim payload) }
    let full := 4096 < s.entriesUsed d + entriesOf t0.dim
    let at' := s.odNat (od 0x2200 0x12) + s.emb.work
    ((listed = none ∨ ∃ r, listed = some r ∧ (r.count ≤ r.met ∨ (r.lasts.any fun l => l.1 = term.mb) = false)) →
      s.runs c [.emb, .fab] fun t => t.emb.open' = s.emb.open' ∧ t.emb.merge = s.emb.merge)
    ∧ (∀ r, listed = some r → (r.lasts.any fun l => l.1 = term.mb) = true →
      (r.met + 1 < r.count → merged = false → (s.emb.open'.find? here ≠ none ∨ ¬ full) →
        s.runs c [.regs, .board, .emb, .fab] fun t => t.emb.open' = s.emb.open'.filter (fun x => !here x) ++ [new]
          ∧ t.emb.merge = s.emb.merge ∧ s.onlyRegs t [regKey (2 + d) Reg.embCoalesceHigh])
      ∧ (r.met + 1 = r.count → merged = false → (s.emb.open'.find? here ≠ none ∨ ¬ full) →
        s.runs c [.regs, .board, .emb, .fab] fun t => t.emb.open' = s.emb.open'.filter (fun x => !here x)
          ∧ t.emb.merge = s.emb.merge
          ∧ (s.owner table row = s.rank → new.table = table → new.row = row → ∃ x, t.emb.records = s.emb.records ++ [x]
              ∧ x.src = s.rank ∧ x.table = table ∧ x.row = row ∧ x.count = new.count))
      ∧ (r.met < r.count → (merged = true ∨ (s.emb.open'.find? here = none ∧ full)) →
        s.spansWait [(at', 16 + payload.length, true)] = false →
        s.runs c [.mem, .regs, .board, .emb, .dram, .fab] fun t => t.emb.open' = s.emb.open'
          ∧ t.emb.merge = s.emb.merge ++ [⟨d, table, row, term.fmt, at'⟩]
          ∧ s.onlyBytes t at' (16 + payload.length) ∧ (∀ k, k < payload.length → t.byte (at' + 16 + k) = payload.getD k 0)
          ∧ t.reg (2 + d) Reg.embSortmergeTerms = cap32 (s.reg (2 + d) Reg.embSortmergeTerms + 1)
          ∧ (merged = false → (t.reg (2 + d) Reg.embStatus).testBit 1))))
  ∧ (let waits := s.spansWait ((s.emb.merge.filter fun r => r.die = d).map fun x => (x.at', 16 + s.mergeBytes x, false))
  ((s.emb.ended.contains d = false ∨ s.held (2 + d) 8 = true ∨ waits = true) → s.stays (.sortMerge die))
  ∧ (s.emb.ended.contains d = true → s.held (2 + d) 8 = false → waits = false →
      s.runs (.sortMerge die) [.regs, .board, .emb, .upd, .dram, .fab, .vlk, .adm, .dict, .life] fun t =>
        t.emb.merge = s.emb.merge.filter (fun r => r.die ≠ d) ∧ t.emb.open' = s.emb.open'))

/-- R266, R267: the owner's part of the exchange. -/
def Obligations.OwnerReduces : Prop := ∀ (s : State) (src : Nat) (record : Bytes),
  let turn := fun queue => s.engineHeld 8 = false ∧ s.turnOfMsg (s.nodeOfRank src) queue = true
  (¬ turn queueExchange → s.stays (.exchangeRecord src record)) ∧ (¬ turn queueEnd → s.stays (.exchangeEndMarker src))
  ∧ (∀ t0, turn queueExchange → s.table (leAt record 0 2) = some t0 → s.runs (.exchangeRecord src record) [.emb, .fab] fun t =>
      t.emb = { s.emb with records := s.emb.records ++
        [⟨src, t0.table, leAt record 8 8, leAt record 4 4, gradValues t0.exchange t0.dim (record.drop 16)⟩] })
  ∧ (turn queueExchange → s.table (leAt record 0 2) = none → s.runs (.exchangeRecord src record) [.fab] fun _ => True)
  ∧ (turn queueEnd → s.runs (.exchangeEndMarker src) [.emb, .fab] fun t =>
      t.emb = { s.emb with markers := if s.emb.markers.contains src then s.emb.markers else s.emb.markers ++ [src] })
  ∧ (∀ a b : ExRecord, s.engineHeld 8 = false → s.emb.done = false → s.emb.markers.contains s.rank = true →
      ((List.range s.modules).all fun k => s.emb.markers.contains k) = true → a.src < b.src → a.table = b.table → a.row = b.row →
      (s.emb.records = [a, b] ∨ s.emb.records = [b, a]) →
      let sum := addVec (addVec (List.replicate a.vals.length 0) a.vals) b.vals
      let at' := s.odNat (od 0x2200 0x12) + s.emb.work
      s.spansWait [(at', (f32Bytes sum).length, true)] = false →
      s.runs .ownerReduction [.mem, .emb, .dram] fun t =>
        t.emb.done = true ∧ t.emb.records = []
        ∧ t.emb.reduced = s.emb.reduced ++ [⟨s.homeDie a.table a.row, a.table, a.row, cap32 (cap32 a.count + b.count), at'⟩]
        ∧ s.onlyBytes t at' (f32Bytes sum).length ∧ ∀ k, k < (f32Bytes sum).length → t.byte (at' + k) = (f32Bytes sum).getD k 0)
  ∧ (s.engineHeld 8 = false → s.emb.done = false → s.emb.markers.contains s.rank = true →
      ((List.range s.modules).all fun k => s.emb.markers.contains k) = true →
      s.runs .ownerReduction [.mem, .emb, .dram] fun t => t.emb.done = true ∧ t.emb.records = []
        ∧ (s.emb.records = [] → t.emb.reduced = s.emb.reduced))
  ∧ (s.emb.markers.contains s.rank = true → ((List.range s.modules).all fun k => s.emb.markers.contains k) = false →
      s.stays .ownerReduction)
  ∧ (s.engineHeld 8 = true → s.stays .ownerReduction)

/-- R256, R258, R341, R463: HOTSET_PUSH_ROW and HOTSET_INSTALL_COMPLETE. Every pushed row is taken in its packet's turn; the install of
the refresh in progress is complete when the module's own push has left and every other owner's end marker is here. -/
def Obligations.HotSetInstalls : Prop := ∀ (s : State) (owner table row cls : Nat) (removal : Bool) (payload : Bytes),
  let die := s.homeDie table row
  let c := Instr.hotsetPushRow owner table row cls removal payload
  let member : HotRow := ⟨die, owner, table, row, cls, payload⟩
  let turn := s.engineHeld 8 = false ∧ s.turnOfMsg (s.nodeOfRank owner) queueHot = true
  (¬ turn → s.stays c)
  ∧ (turn → s.hotOut die = true → ∃ t, exec c s = .next t ∧ s.onlyChanges t [.fab])
  ∧ (turn → s.hotOut die = false → ∃ t, exec c s = .next t ∧ s.onlyChanges t [.mem, .emb, .fab]
      ∧ (∀ h : HotRow, (h.die ≠ die ∨ h.owner ≠ owner) → (h ∈ t.emb.hot ↔ h ∈ s.emb.hot))
      ∧ (removal = false → member ∈ t.emb.hot)
      ∧ (∀ h ∈ t.emb.hot, h.die = die → h.owner = owner → h.table = table → h.row = row → removal = false ∧ h = member)
      ∧ (∀ x, (∀ o, x ≠ s.hotAddr die o) → t.byte x = s.byte x)
      ∧ (removal = false → s.life.spare.banks = [] → (∀ h ∈ s.emb.hot, h.die = die → h.owner ≠ owner) →
          ∀ k, k < payload.length → t.byte (s.hotAddr die (owner * s.hotQ + k)) = payload.getD k 0))
  ∧ (∀ step pushed entered left migrations, let c := Instr.hotsetInstallComplete step pushed entered left migrations
    let ready := s.emb.install = some ⟨step, pushed, entered, left, migrations⟩ ∧ s.emb.push = [] ∧ s.hotEnded = true
    (¬ ready → exec c s = .next s)
    ∧ (ready → ∃ t, exec c s = .next t ∧ s.onlyChanges t [.regs, .emb, .fab, .dict] ∧ t.emb = { s.emb with install := none }
      ∧ (∀ d, 2 ≤ d → d ≤ 5 → t.reg d Reg.embRefreshStep = step % pow2 64)
      ∧ s.logged t 0x0202 (u64 step ++ c32 pushed ++ c32 entered ++ c32 left ++ c32 migrations)))

/-- R271 to R273, R279, R280, R283, R284, R288, R294, R296, R302, R311, R312: LAYER_UPDATE. `s1` is the state with an arriving
kept gradient written. When the layer's G norm is complete is the model's reading (log 33). -/
def Obligations.LayerUpdate : Prop :=
  (∀ (s : State) (entry : Nat) (grad : List F32),
  (s.params[entry]? = none → s.stays (.layerUpdate entry grad))
  ∧ ∀ p, s.params[entry]? = some p →
    let ready := s.num.decided = some s.curStep ∧ s.upd.handled.contains entry = false ∧ s.upd.full.contains p.die = false
      ∧ (s.num.skip = true ∨ p.due s.curStep = false ∨ s.normReady p.layer = true)
      ∧ s.held (2 + p.die) 9 = false ∧ s.spansWait (s.layerSpans p) = false
    let faulty := { s.upd with fault := some (s.upd.fault.getD 4), voted := true }
    (¬ ready → s.stays (.layerUpdate entry grad)) ∧ (ready →
    let kept := if p.keep && s.upd.rerun = 1 then s.keptGrad p else some grad
    (kept = none → s.runs (.layerUpdate entry grad) [.regs, .upd, .dram, .fab, .vlk, .adm, .dict, .life] fun t =>
        t.upd = faulty)
    ∧ ∀ g, kept = some g →
      let s1 := if p.keep then s.keep p entry g else s
      let old := p.half (s.liveHalf entry)
      let new := p.half (1 - s.liveHalf entry)
      let h := HalfHead.of (s1.readMem old 64)
      let n := Fp.sqrt (s.gNorm p.layer)
      let passes := s.upd.passed.contains p.layer = true
        ∨ (s.upd.failed.contains p.layer = false ∧ s.normPasses h.accepted h.navg n = true)
      (p.keep = true → s1.upd.kept.contains entry = true ∧ s1.readMem (s.keepAddr p) (4 * g.length) = f32Bytes g
        ∧ s1.memNat (s.keepAddr p + 4 * g.length) 4 = (crc32 (f32Bytes g)).toNat
        ∧ s.onlyBytes s1 (s.keepAddr p) (4 * g.length + 4))
      ∧ ((s.num.skip = true ∨ p.due s.curStep = false) →
        s.runs (.layerUpdate entry grad) [.mem, .upd, .dram] fun t => t.mem = s1.mem ∧ t.dram = s1.dram
          ∧ t.upd = { s1.upd with handled := s.upd.handled ++ [entry] })
      ∧ (s.num.skip = false → p.due s.curStep = true → s1.readFails old p.halfBytes = true →
        s.runs (.layerUpdate entry grad) [.mem, .regs, .upd, .dram, .fab, .vlk, .adm, .dict, .life] fun t =>
          t.upd = { faulty with kept := s1.upd.kept } ∧ t.mem = s1.mem)
      ∧ (s.num.skip = false → p.due s.curStep = true → s1.readFails old p.halfBytes = false → ¬ passes →
        s.runs (.layerUpdate entry grad) [.mem, .regs, .upd, .dram, .dict] fun t => t.upd.handled = s.upd.handled ++ [entry]
          ∧ t.upd.wrote = s.upd.wrote ∧ t.upd.failed.contains p.layer = true ∧ t.mem = s1.mem
          ∧ SMap.get 0 t.upd.rejects entry = cap32 (SMap.get 0 s.upd.rejects entry + 1)
          ∧ (s.upd.failed.contains p.layer = false → t.upd.checksFailed = s.upd.checksFailed + 1
              ∧ (t.reg (2 + p.die) Reg.updStatus).testBit 0
              ∧ t.reg (2 + p.die) Reg.updNormRejectCount = cap32 (s.reg (2 + p.die) Reg.updNormRejectCount + 1)
              ∧ s.logged t 0x0108 (u8 0 ++ u16 p.layer ++ u32 n.toNat ++ u32 h.navg.toNat ++ u64 s.curStep))
          ∧ (s.upd.failed.contains p.layer = true → t.regs = s.regs ∧ t.dict = s.dict))
      ∧ (s.num.skip = false → p.due s.curStep = true → s1.readFails old p.halfBytes = false → passes →
        s.runs (.layerUpdate entry grad) [.mem, .regs, .board, .num, .upd, .dram, .dict] fun t =>
          t.upd.wrote = s.upd.wrote ++ [entry] ∧ t.upd.handled = s.upd.handled ++ [entry]
          ∧ t.upd.passed.contains p.layer = true ∧ t.upd.failed = s.upd.failed
          ∧ t.memNat new 4 = min 0xFFFFFFFF (h.t + 1) ∧ t.memNat (new + 4) 4 = cap32 (h.accepted + 1)
          ∧ t.memNat (new + 16) 4 = (s.newAvg h.accepted h.navg n).toNat ∧ t.memNat (new + 24) 8 = s.curStep % pow2 64
          ∧ (∀ a, a < new → ¬ s.snapBuffer a → t.byte a = s1.byte a))))
  ∧ (∀ (s t : State) (entry : Nat) (grad : List F32) (p : Param),
  s.params[entry]? = some p → exec (.layerUpdate entry grad) s = .next t →
  ∀ b, b < p.half (1 - s.liveHalf entry) ∨ p.half (1 - s.liveHalf entry) + (p.layout (s.ruleSet p.ruleSet)).size ≤ b →
    t.byte b = s.byte b ∨ s.snapBuffer b ∨ (p.keep = true ∧ ∃ g, (if s.upd.rerun = 1 then s.keptGrad p else some grad) = some g
      ∧ s.keepAddr p ≤ b ∧ b < s.keepAddr p + (4 * g.length + 4)))

/-- R246, R281 to R283, R285, R286, R288, R302, R311: ROW_UPDATE. `c` is the shard's check. -/
def Obligations.RowUpdate : Prop :=
  (∀ (s : State) (table row : Nat),
  let sum := s.emb.reduced.find? fun r => r.table = table && r.row = row
  let done := s.upd.rowsDone ++ [(table, row)]
  let s0 : State := { s with upd := { s.upd with rowsDone := done } }
  ((s.table table = none ∨ sum = none) → s.stays (.rowUpdate table row))
  ∧ ∀ t0 r, s.table table = some t0 → sum = some r →
    let ready := s.num.decided = some s.curStep ∧ s.emb.done = true ∧ s.upd.rowsDone.contains (table, row) = false
      ∧ s.upd.full.contains r.die = false ∧ s.held (2 + r.die) 9 = false ∧ s.spansWait (s.rowUpdateSpans t0 r) = false
    let known := s.upd.shards.find? fun x => x.1 = t0.table
    let shard := s.shardRec t0.table
    let norm := s.shardNorm t0.table
    let ok := s.normPasses shard.1 shard.2 norm
    let c := s0.checkShard t0 r.die
    (¬ ready → s.stays (.rowUpdate table row))
    ∧ (∀ x, known = some x → c = (x.2, s0))
    ∧ (known = none → c.1 = ok ∧ c.2.upd.shards = s.upd.shards ++ [(t0.table, ok)]
      ∧ (ok = false → c.2.upd.checksFailed = s.upd.checksFailed + 1 ∧ c.2.mem = s.mem
        ∧ c.2.reg (2 + r.die) Reg.updNormRejectCount = cap32 (s.reg (2 + r.die) Reg.updNormRejectCount + 1)
        ∧ (c.2.reg (2 + r.die) Reg.updStatus).testBit 0
        ∧ s.logged c.2 0x0108 (u8 1 ++ u16 t0.table ++ u32 norm.toNat ++ u32 shard.2.toNat ++ u64 s.curStep)))
    ∧ (ready → s.num.skip = true → s.runs (.rowUpdate table row) [.upd] fun t => t = s0)
    ∧ (ready → s.num.skip = false → (s.rowReadFails t0 row).isSome = true →
      s.runs (.rowUpdate table row) [.regs, .upd, .dram, .fab, .vlk, .adm, .dict, .life] fun t =>
        t.upd = { s0.upd with fault := some (s.upd.fault.getD 4), voted := true })
    ∧ (ready → s.num.skip = false → s.rowReadFails t0 row = none →
      (s.dirFind t0.table r.row = none → exec (.rowUpdate table row) s = .next c.2)
      ∧ ∀ d, s.dirFind t0.table r.row = some d →
        let bytes := slotBytes d.2.cls t0
        let parts := [Part.mem, .regs, .emb, .upd, .dram, .fab, .vlk, .adm, .dict, .life]
        (c.1 = false → s.runs (.rowUpdate table row) [.mem, .regs, .emb, .upd, .dram, .dict] fun t =>
          t = c.2.touchRow d ∧ t.upd.rowsUpdated = s.upd.rowsUpdated
            ∧ t.readMem d.1 16 = ({ d.2 with touched := true } : DirEntry).bytes)
        ∧ (c.1 = true → c.2.readFails d.2.slot bytes = true → s.runs (.rowUpdate table row) parts fun t =>
          t.upd.rowsDone = done ∧ t.upd.voted = true ∧ t.upd.fault = some (s.upd.fault.getD 4)
            ∧ t.upd.rowsUpdated = s.upd.rowsUpdated)
        ∧ (c.1 = true → c.2.readFails d.2.slot bytes = false → c.2.journalRow t0.table r.row false = none →
          s.runs (.rowUpdate table row) parts fun t => t.upd.rowsDone = done ∧ t.upd.voted = true
            ∧ t.upd.fault = some (s.upd.fault.getD 0x0A) ∧ t.upd.full = s.upd.full ++ [r.die]
            ∧ (t.reg (2 + r.die) Reg.updStatus).testBit 3 ∧ t.upd.rowsUpdated = s.upd.rowsUpdated)
        ∧ ∀ j, c.1 = true → c.2.readFails d.2.slot bytes = false → c.2.journalRow t0.table r.row false = some j →
          let new := (j.newRow t0 d.2.cls r.row (j.readMem d.2.slot bytes) (j.rowGrad r)).1
          s.runs (.rowUpdate table row) [.mem, .regs, .board, .emb, .upd, .dram, .dict] fun t => t.upd.rowsDone = done
            ∧ t.mem = ((j.touchRow d).store d.2.slot new).mem ∧ t.readMem d.2.slot new.length = new
            ∧ t.upd.journal = j.upd.journal ∧ t.upd.rowsUpdated = s.upd.rowsUpdated + 1
            ∧ t.reg (2 + r.die) Reg.updRowsUpdated = cap32 (s.reg (2 + r.die) Reg.updRowsUpdated + 1)))
  ∧ (∀ (s : State) (table row : Nat),
  ∀ d t0, s.dirFind table row = some d → s.table table = some t0 →
    let die := s.homeDie table row
    let here := s.upd.journal.find? fun j => j.table = table && j.row = row
    let rec' := journalRecord 0 row table d.2.slot [] (s.readMem d.2.slot (slotBytes d.2.cls t0))
    let used := s.reg (2 + die) Reg.updJournalBytes
    (∀ x, here = some x → s.journalRow table row false = some s)
    ∧ (here = none → s.odNat (od 0x2300 0x11) < used + rec'.length → s.journalRow table row false = none)
    ∧ (here = none → used + rec'.length ≤ s.odNat (od 0x2300 0x11) → used + rec'.length < pow2 64 →
      ∃ j, s.journalRow table row false = some j ∧ s.onlyChanges j [.mem, .regs, .upd, .dram]
        ∧ j.mem = (s.writeMem (s.journalBase die + used) rec').mem ∧ j.upd.journal = s.upd.journal ++ [⟨die, table, row, used⟩]
        ∧ j.reg (2 + die) Reg.updJournalBytes = used + rec'.length
        ∧ j.readMem (s.journalBase die + used + 64) (slotBytes d.2.cls t0) = s.readMem d.2.slot (slotBytes d.2.cls t0)))

/-- R258, R265, R289, R290, R295: MODULE_APPLIED. `u` is the state after the carries and the owner's work, which comes before the
vote (log 34). -/
def Obligations.ModuleApplied : Prop := ∀ (s : State),
  let step := s.curStep
  let k := if s.num.skip then s else s.saveCarries step
  let u := k.ownerStep step
  let sketched := k.snapCopy (snapSketch (step % 2))
  ((s.isApplied = false ∨ s.upd.voted = true ∨ s.stepWaits = true) → s.stays .moduleApplied)
  ∧ (s.isApplied = true → s.upd.voted = false → s.stepWaits = false → u.upd.fault ≠ none → exec .moduleApplied s = .next u)
  ∧ (s.isApplied = true → s.upd.voted = false → s.stepWaits = false → u.upd.fault = none →
    s.runs .moduleApplied [.mem, .regs, .board, .emb, .upd, .dram, .fab, .vlk, .adm, .dict, .life] fun t =>
      t.upd = { u.upd with applied := true, voted := true } ∧ t.upd.recs = s.upd.recs ∧ t.mem = u.mem ∧ t.emb = u.emb
      ∧ t.syncObj 0 = step % pow2 64 ∧ (∀ o, 2 ≤ o → t.syncObj o = u.syncObj o)
      ∧ (s.rank ≠ 0 → t.syncObj 1 = u.syncObj 1 ∧ t.reg 6 Reg.syncOpCount = cap32 (u.reg 6 Reg.syncOpCount + 1)))
  ∧ (s.refreshDue step = false → u.upd.fault = s.upd.fault ∧ u.mem = sketched.mem ∧ u.fab = s.fab ∧ u.adm = s.adm
      ∧ (s.upd.snap = none → u.regs = s.regs) ∧ u.emb.choice = s.emb.choice)
  ∧ (s.isApplied = true ↔ s.num.decided = some step ∧ s.upd.fault = none ∧ (s.emb.done = true ∨ s.tables = [])
      ∧ (∀ e p, s.params[e]? = some p → (p.due step = true → s.num.skip = true ∨ s.upd.handled.contains e = true)
          ∧ (p.keep = true → s.upd.kept.contains e = true))
      ∧ (s.num.skip = true ∨ ∀ r ∈ s.emb.reduced, s.upd.rowsDone.contains (r.table, r.row) = true)
      ∧ ∀ r ∈ s.dram.queue, r.work = .own → r.writes = false)

/-- R290, R291, R293, R220, R296, R183, R268: COMMIT_VOTE. The module takes what arrives of the summed vote; when the whole sum is
here, it commits the step or rolls it back. A fault that came after the vote was cast stays pending, and one of the next step that came
early then votes (log 32). -/
def Obligations.CommitVote : Prop := ∀ (s : State) (arrival : VoteArrival), s.sound →
  let s1 := s.sumArrives 1 arrival.arrived
  let c := Instr.commitVote arrival
  let parts := [Part.mem, .regs, .frets, .slanes, .board, .num, .emb, .upd, .dram, .fab, .vlk, .adm, .dict, .life]
  let ready := (s.sumTree 1).cast = true ∧ s.upd.lost = none ∧ s.stepWaits = false
  (¬ ready → s.stays c)
  ∧ s.onlyChanges s1 [.fab] ∧ (s.rank = 0 → s1 = s)
  ∧ (ready → (s.upd.voted = false ∨ s1.sumHere 1 = none) → exec c s = .next s1)
  ∧ ∀ sum, ready → s.upd.voted = true → s1.sumHere 1 = some sum →
    (countOf sum 1 = Fp.ofNat s.modules → s.runs c parts fun t =>
      t.committed = some s.curStep ∧ t.curStep = s.curStep + 1
      ∧ (s.upd.wrote.Nodup → ∀ e, t.liveHalf e = if s.upd.wrote.contains e then 1 - s.liveHalf e else s.liveHalf e)
      ∧ t.upd.voted = t.upd.fault.isSome
      ∧ (s.num.skip = false → s.emb.choice = none → s.upd.snap = none → s.upd.late ≠ some (s.curStep + 1) → t.upd.fault = s.upd.fault)
      ∧ (s.upd.late = some (s.curStep + 1) → t.upd.fault ≠ none ∧ t.upd.late = none)
      ∧ t.upd.applied = false ∧ t.upd.wrote = []
      ∧ t.upd.rowsDone = [] ∧ t.upd.full = [] ∧ t.upd.journal = [] ∧ (∀ i, (t.lane i).recs = []) ∧ t.emb.reduced = []
      ∧ t.emb.done = false ∧ t.num.decided = none ∧ t.num.skip = false ∧ t.num.passes.length = s.num.passes.length
      ∧ (∀ (q : Nat) (p : PassRec), s.num.passes[q]? = some p → ∃ p' : PassRec, t.num.passes[q]? = some p' ∧ p'.base = p.next
          ∧ p'.current = p.next ∧ p'.next = p.pending ∧ p'.repeatsStep = 0)
      ∧ (∀ f ∈ t.adm.frames, ¬ (f.isEvents = true ∧ f.step ≤ s.curStep ∧ f.waiting ≠ 1)))
    ∧ (countOf sum 1 ≠ Fp.ofNat s.modules → s.runs c parts fun t =>
      t.committed = s.committed ∧ (∀ e, t.liveHalf e = s.liveHalf e)
      ∧ t.upd.rolls = s.upd.rolls + 1 ∧ t.upd.rollbacks = cap32 (s.upd.rollbacks + 1)
      ∧ t.upd.rerun = (if anyOf sum 3 = false ∧ countOf sum 2 = Fp.ofNat s.modules then 3 else 4)
      ∧ (s.dram.poison = [] → t.upd.voted = false ∧ t.upd.fault = none)
      ∧ t.upd.applied = false ∧ t.upd.wrote = [] ∧ t.upd.rowsDone = []
      ∧ t.upd.full = [] ∧ t.upd.journal = [] ∧ (∀ i, (t.lane i).recs = []) ∧ t.num.decided = none ∧ t.num.skip = false
      ∧ t.board.phases = [] ∧ t.board.contribs = [] ∧ (anyOf sum 3 = true → t.fnState 0 = 0)
      ∧ (∀ i, i < 768 → (t.fret i).run ≠ 1) ∧ (s.upd.journal = [] → t.mem = s.mem))

/-- R292, R347: VOTE_TIME_LIMIT. -/
def Obligations.VoteTimeLimit : Prop := ∀ (s : State) (answer : Option (BitVec 64)), s.sound →
  let parts := [Part.mem, .regs, .frets, .slanes, .board, .num, .emb, .upd, .dram, .fab, .vlk, .adm, .dict, .life]
  let recorded := if s.rank = 0 then some (s.syncObj 1) else answer.map BitVec.toNat
  let ready := s.upd.lost = none ∧ s.stepWaits = false
  (¬ ready → s.stays (.voteTimeLimit answer))
  ∧ (ready → recorded = none → s.runs (.voteTimeLimit answer) [.regs, .upd, .vlk, .adm] fun t =>
      t.upd = { s.upd with lost := some s.curStep } ∧ ∀ d, 2 ≤ d → d ≤ 5 → (t.reg d Reg.updStatus).testBit 6)
  ∧ ∀ v, ready → recorded = some v →
    (v / 4 = s.curStep → v % 4 = 1 → s.runs (.voteTimeLimit answer) parts fun t => t.committed = some s.curStep
        ∧ t.upd.voted = t.upd.fault.isSome ∧ (∀ i, (t.lane i).recs = []) ∧ t.upd.journal = [])
    ∧ ((v / 4 = s.curStep ∧ 1 < v % 4) ∨ (s.rank = 0 ∧ ¬ (v / 4 = s.curStep ∧ v % 4 ≠ 0)) →
      s.runs (.voteTimeLimit answer) parts fun t => t.committed = s.committed ∧ t.upd.rolls = s.upd.rolls + 1
        ∧ t.upd.rerun = 4 ∧ (s.dram.poison = [] → t.upd.voted = false) ∧ (∀ i, (t.lane i).recs = []) ∧ t.upd.journal = [])
    ∧ (s.rank ≠ 0 → ¬ (v / 4 = s.curStep ∧ v % 4 ≠ 0) → s.runs (.voteTimeLimit answer) [.fab] fun t =>
        t.fab.reqs = s.fab.reqs ++ [⟨s.fab.nextId, s.nodeOfRank 0, 6, s.time, false, .record s.curStep⟩]
        ∧ t.fab.nextId = s.fab.nextId + 1 ∧ t.fab.sync = s.fab.sync)

/-- R235, R296, R391: STEP_RERUN and CHECKPOINT. -/
def Obligations.RerunAndCheckpoint : Prop := ∀ (s : State), s.sound →
  ((s.upd.rerun < 3 ∨ s.fnState 0 ≠ 1) → s.stays .stepRerun)
  ∧ (∀ k, (k = 3 ∨ k = 4) → s.upd.rerun = k → s.fnState 0 = 1 →
    s.runs .stepRerun [.regs, .frets, .emb, .upd, .dram, .fab, .vlk, .adm, .dict, .life] fun t =>
      { t.upd with fault := s.upd.fault, voted := s.upd.voted } = { s.upd with
        rerun := k - 2, replays := if k = 3 then cap32 (s.upd.replays + 1) else s.upd.replays
        recomputes := if k = 4 then cap32 (s.upd.recomputes + 1) else s.upd.recomputes }
      ∧ (∀ d, 2 ≤ d → d ≤ 5 → (t.reg d Reg.updStatus).testBit (k + 1))
      ∧ (∀ i, (t.fret i).run = if (s.fret i).run = 2 then 0 else (s.fret i).run)
      ∧ (s.rank = 0 → t.upd.voted = false → t.syncObj 1 = s.curStep * 4 % pow2 64) ∧ (s.rank ≠ 0 → t.fab.sync = s.fab.sync)
      ∧ ((s.adm.frames.all fun f => !(f.isEvents && f.step = s.curStep)) = true → t.upd.fault = s.upd.fault ∧ t.upd.voted = s.upd.voted
          ∧ t.emb = s.emb))
  ∧ ((s.upd.snap = none ∨ ∃ n, s.upd.snap = some n ∧ (n.step = none ∨ ∃ i ∈ n.items, i.waits s = true)) → s.stays .checkpoint)
  ∧ (∀ n, s.upd.snap = some n → n.step ≠ none → (∀ i ∈ n.items, i.waits s = false) →
      s.runs .checkpoint [.regs, .num, .upd, .vlk, .rst, .life] fun t =>
      t.upd = { s.upd with snap := none } ∧ t.num = { s.num with nv := n.history }
      ∧ (∃ o fr, t.vlk.out = s.vlk.out ++ o ++ [fr] ∧ o.length = n.items.length)
      ∧ ∀ d, 2 ≤ d → d ≤ 5 → (t.reg d Reg.updStatus).testBit 1 = false)

/-- R129, R302, R305, R306, R310 to R312, R314 to R317, R320, R332, R345: MEMORY_REQUEST. `here` says that the address is one of this
node's: an offset of the module's own map, or a global address that names its node. -/
def Obligations.MemoryRequest : Prop :=
  (∀ (s : State) (cls : Nat) (addr : MemAddr) (write : Option Bytes) (len : Nat) (c u phase : Bool),
  let full := match addr with | .own o => o | .global a => a
  let tag := full / 0x1000000000000000
  let node := bits full 59 45
  let off := match addr with | .own o => o | .global a => a % 0x200000000000
  let here := match addr with | .own _ => True | .global _ => tag = 0 ∧ node = s.node
  let zone := match addr with | .own _ => False | .global _ => True
  let r : MemReq := ⟨cls, off, write, len, c, u, phase, .own⟩
  let n := r.size
  let waits := s.spansWait r.spans
  let p := placeOf off
  let die := 2 + chanDie p.tier p.chan
  let cmd := Instr.memoryRequest cls addr write len c u phase
  let failed := fun a => { s.dram with replies := (cls, a, [], true) :: s.dram.replies }
  let got := fun bs => { s.dram with replies := (cls, off, bs, false) :: s.dram.replies }
  let faulty := { s.upd with fault := some (s.upd.fault.getD 4), voted := true }
  let ends := fun (a : Nat) => (phase = false → s.runs cmd [.dram] fun t => t.dram = failed a)
    ∧ (phase = true → s.runs cmd [.regs, .upd, .dram, .fab, .vlk, .adm, .dict] fun t => t.dram = failed a ∧ t.upd = faulty)
  let plain := here ∧ waits = false ∧ inWindows off = false ∧ inHotWindow off n = false ∧ s.mappedRange off n = true
  let ceCount := if p.tier = 0 then Reg.hbmcCeCount else Reg.benchCeCount
  let ueCount := if p.tier = 0 then Reg.hbmcUeCount else Reg.benchUeCount
  let poisonCount := if p.tier = 0 then Reg.hbmcPoisonCount else Reg.benchPoisonCount
  let errs := SMap.get 0 s.dram.rowErrs p.rowKey
  (here → waits = true → s.runs cmd [.dram] fun t => t.dram = { s.dram with queue := s.dram.queue ++ [r] })
  ∧ (here → waits = false → inWindows off = false → inHotWindow off n = false → s.mappedRange off n = false → ends off)
  ∧ (∀ i o, here → waits = false → inWindows off = true → windowPlace off = (some i, o) → c = false → write = none →
      (windowOk o len = false → s.runs cmd [.dram] fun t => t.dram = failed off)
      ∧ (windowOk o len = true → s.windowBusy i o len = true → s.runs cmd [.board] fun t =>
        t.board = { s.board with waits := s.board.waits ++ [⟨i, o, len, none, cls, off⟩] })
      ∧ (windowOk o len = true → s.windowBusy i o len = false → s.runs cmd [.dram] fun t => t.dram = got (s.windowBytes i o len)))
  ∧ (here → waits = false → inWindows off = false → inHotWindow off n = true → write = none →
      (u = true → ends off) ∧ (u = false → s.runs cmd [.dram] fun t => t.dram = got (s.readMem off len)))
  ∧ (∀ b, here → waits = false → inWindows off = false → inHotWindow off n = false → s.mappedRange off n = true → write = some b →
      s.runs cmd [.mem, .regs, .upd, .dram] fun t => t.readMem off b.length = b
        ∧ ∀ x, (x < off ∨ off + b.length ≤ x) → ¬ s.snapBuffer x → t.byte x = s.byte x)
  ∧ (∀ b, here → waits = false → inWindows off = false →
      (inHotWindow off n = true ∨ (s.upd.snap = none ∧ s.mappedRange off n = true)) → write = some b →
      s.runs cmd [.mem, .dram] fun t => t.readMem off b.length = b ∧ s.onlyBytes t off b.length
      ∧ t.dram = { s.dram with poison := s.dram.poison.filter fun q => !(off ≤ q * 64 && q * 64 + 64 ≤ off + b.length) })
  ∧ (plain → write = none → c = false → u = false → s.poisoned off n = false →
      s.runs cmd [.dram] fun t => t.dram = got (s.readMem off n))
  ∧ (plain → write = none → c = true → u = false → s.poisoned off n = false → errs + 1 < s.odNat (od 0x2400 5) →
      s.runs cmd [.regs, .dram] fun t =>
        t.dram = { got (s.readMem off n) with rowErrs := SMap.set 0 s.dram.rowErrs p.rowKey (errs + 1) }
        ∧ (t.reg die (tierStatus p.tier)).testBit 0
        ∧ t.reg die ceCount = cap32 (s.reg die ceCount + 1))
  ∧ (∀ k, plain → write = none → c = true → u = false → s.poisoned off n = false →
      s.odNat (od 0x2400 5) ≤ errs + 1 → s.dram.remaps.any (fun r => r.isRow p) = false → s.freeSpare p = some k →
      s.runs cmd [.regs, .dram, .dict, .life] fun t =>
        t.dram.remaps = s.dram.remaps ++ [⟨p.tier, p.chan, p.bank, p.row, k, true, .spare⟩] ∧ t.dram.repeats = s.dram.repeats
        ∧ SMap.get 0 t.dram.rowErrs p.rowKey = 0
        ∧ t.dram.replies = (cls, off, s.readMem off n, false) :: s.dram.replies
        ∧ s.logged t 0x0301 (u8 p.tier ++ u16 (chanField (chanDie p.tier p.chan) (chanNo p.tier p.chan)) ++ u8 p.bank ++ u32 p.row))
  ∧ (plain → write = none → c = true → u = false → s.poisoned off n = false →
      s.odNat (od 0x2400 5) ≤ errs + 1 → (s.dram.remaps.any (fun r => r.isRow p) = true ∨ s.freeSpare p = none) →
      s.runs cmd [.regs, .dram, .dict, .life] fun t =>
        let r := SMap.get 0 s.dram.repeats p.bankKey + 1
        SMap.get 0 t.dram.repeats p.bankKey = r ∧ (r ≠ 3 → t.dram.retired = s.dram.retired)
        ∧ (r = 3 → t.dram.retired.any (fun b => b.tier = p.tier && b.band = p.bank) = true))
  ∧ (plain → write = none → (s.poisoned off n || u) = true →
      s.runs cmd [.regs, .upd, .dram, .fab, .vlk, .adm, .dict, .life] fun t =>
        t.dram.replies = (cls, off, [], true) :: s.dram.replies
        ∧ t.dram.poison = s.dram.poison ++
          (if s.poisoned off n || s.dram.poison.contains (off / 64) then [] else [off / 64])
        ∧ (s.poisoned off n = false → t.reg die ueCount = cap32 (s.reg die ueCount + 1)
          ∧ t.reg die poisonCount = cap32 (s.reg die poisonCount + 1))
        ∧ t.upd = (if phase then faulty else s.upd))
  ∧ (zone → tag = 0 → node ≠ s.node →
      let ok := s.inZone node = true ∧ off % 32 = 0 ∧ n % 32 = 0 ∧ 32 ≤ n ∧ n ≤ 256 ∧
        (off + n ≤ 0x6C00000000 ∨ (0x10000000000 ≤ off ∧ off + n ≤ 0x20000000000))
      (¬ ok → ends full) ∧ (ok → s.runs cmd [.fab] fun t => t.fab.nextId = s.fab.nextId + 1
        ∧ t.fab.reqs = s.fab.reqs ++ [⟨s.fab.nextId, node, if write = none then 1 else 2, s.time, phase, .other⟩]))
  ∧ (zone → 1 < tag → ends full)
  ∧ (zone → tag = 1 → node ≠ s.node →
      let ok := s.inZone node = true ∧ off < 0x10000 ∧ off % 8 = 0 ∧ n = 8
      (¬ ok → ends full) ∧ (ok → s.runs cmd [.fab] fun t => t.fab.nextId = s.fab.nextId + 1
        ∧ t.fab.reqs = s.fab.reqs ++ [⟨s.fab.nextId, node, 6, s.time, phase, .other⟩]))
  ∧ (zone → tag = 1 → node = s.node → (off < 0x10000 ∧ off % 8 = 0 ∧ n = 8) → s.runs cmd [.regs, .dram, .fab] fun t =>
      t.reg 6 Reg.syncOpCount = cap32 (s.reg 6 Reg.syncOpCount + 1)
      ∧ (∀ o, o ≠ off / 8 → t.syncObj o = s.syncObj o)
      ∧ (∀ b, write = some b → t.syncObj (off / 8) = leNat b % pow2 64 ∧ t.dram = s.dram)
      ∧ (write = none → t.syncObj (off / 8) = s.syncObj (off / 8)
        ∧ t.dram = { s.dram with replies := (cls, full, u64 (s.syncObj (off / 8)), false) :: s.dram.replies }))
  ∧ (zone → tag = 1 → node = s.node → off < 0x10000 → ¬ (off % 8 = 0 ∧ n = 8) → ends full)
  ∧ (zone → tag = 1 → node = s.node → 0x10000 ≤ off → phase = false → s.runs cmd [.regs, .dram] fun t => t.dram = failed full
      ∧ s.onlyRegs t [regKey 6 Reg.syncStatus] ∧ (t.reg 6 Reg.syncStatus).testBit 2))
  ∧ (∀ (q : List MemReq) (since : Nat) (r : MemReq), (∀ x ∈ q, x.cls ≤ 3 ∧ ∀ y ∈ q, x ≠ y → x.meets y = false) →
      nextRequest q since = some r → r ∈ q ∧ ((∀ x ∈ q, r.cls ≤ x.cls) ∨ (r.cls = 3 ∧ ∃ x ∈ q, 63 < since + ceilDiv x.size 32)))

/-- R313 to R315, R319 to R322: remaps, scrubbing, windows and retrains. That a tier's memory reads 0 after it is lost is the
model's choice (log 12). -/
def Obligations.MemoryUpkeep : Prop := ∀ (s : State) (tier : Fin 2),
  let x := tier.val
  let busy := fun (t : State) (d : Nat) => t.dram.window || t.dram.training.any (fun q => q.1 = x && trainDie x q.2.1 = d)
  let shown := fun (t : State) => ∀ d, d < 4 → (t.reg (2 + d) (tierStatus x)).testBit 6 = busy t d
  let some' := [Part.mem, .regs, .frets, .board, .upd, .dram, .fab, .vlk, .adm, .dict, .life]
  (∀ chan bank row, s.runs (.remapCopyDone tier chan bank row) [.dram] fun t =>
      t.dram = { s.dram with remaps := s.dram.remaps.map fun r =>
        (if r.tier = x ∧ r.chan = chan ∧ r.bank = bank ∧ r.row = row ∧ r.kind = .spare then { r with copying := false } else r) })
  ∧ (s.runs (.scrubPeriod tier true) [.regs, .dram, .fab, .vlk, .adm, .dict, .life] fun t => t.dram.poison = s.dram.poison
      ∧ (∀ p : Place, p.tier = x → p.chan < 512 → p.bank < 64 → p.row < 0x100000 → SMap.get 0 t.dram.rowErrs p.rowKey = 0))
  ∧ ((s.dram.poison.any fun q => (placeOf (64 * q)).tier = x && s.mapped (64 * q)) = false →
      s.runs (.scrubPeriod tier true) [.dram] fun t => t.dram = { s.dram with rowErrs := t.dram.rowErrs }
      ∧ (∀ p : Place, p.tier ≠ x → p.chan < 512 → p.bank < 64 → p.row < 0x100000 →
          SMap.get 0 t.dram.rowErrs p.rowKey = SMap.get 0 s.dram.rowErrs p.rowKey))
  ∧ (s.runs (.scrubPeriod tier false) [.regs, .dram] fun t =>
      s.onlyRegs t [regKey 2 Reg.hbmcStatus, regKey 3 Reg.hbmcStatus, regKey 4 Reg.hbmcStatus, regKey 5 Reg.hbmcStatus]
      ∧ ∀ d, d < 4 → (t.reg (2 + d) Reg.hbmcStatus).testBit 8)
  ∧ (∀ lanes, s.runs (.maintenanceWindowStart lanes) [.mem, .regs, .upd, .dram, .fab, .vlk, .adm, .dict, .life] fun t =>
      t.dram.window = true ∧ t.dram.deferred = [] ∧ shown t ∧ t.dram.training = s.dram.training)
  ∧ (s.runs (.maintenanceWindowStart []) [.regs, .dram] fun t => t.dram = { s.dram with window := true, deferred := [] })
  ∧ (∀ l, s.laneFree l = true → s.runs (.maintenanceWindowStart [l]) [.regs, .dram, .dict, .life] fun t =>
      t.dram.lanes = s.dram.lanes ++ [(l.1, l.2.1 * 16 + l.2.2.1, l.2.2.2)] ∧ t.dram.failed = s.dram.failed
      ∧ s.logged t 0x0304 (u8 l.1 ++ u8 l.2.1 ++ u8 l.2.2.1 ++ u8 l.2.2.2))
  ∧ (∀ l, let chan := if l.1 = 0 then l.2.1 * 16 + l.2.2.1 else l.2.2.1 * 16 + l.2.1
      s.laneFree l = false → s.dram.failed.contains (l.1, chan) = false →
      s.runs (.maintenanceWindowStart [l]) [.mem, .regs, .upd, .dram, .fab, .vlk, .adm, .dict, .life] fun t =>
        t.dram.lanes = s.dram.lanes ∧ t.dram.failed = s.dram.failed ++ [(l.1, chan)])
  ∧ (s.dram.window = false → s.stays .maintenanceWindowEnd)
  ∧ (s.dram.window = true → s.dram.queue = [] → s.runs .maintenanceWindowEnd [.regs, .dram] fun t =>
      t.dram = { s.dram with window := false } ∧ shown t
      ∧ ∀ d, 2 ≤ d → d ≤ 5 → t.reg d Reg.hbmcRetrainCount = cap32 (s.reg d Reg.hbmcRetrainCount + 48)
        ∧ t.reg d Reg.benchRetrainCount = cap32 (s.reg d Reg.benchRetrainCount + 16))
  ∧ (∀ r, s.dram.window = true → s.dram.queue = [r] → r.cls ≤ 3 → s.dram.training = [] → s.anyMemHeld = false → ∃ u, s.onlyChanges u [.regs, .dram]
      ∧ u.dram = { s.dram with window := false, queue := [] } ∧ exec .maintenanceWindowEnd s = .next (u.serveRequest r))
  ∧ ∀ (chan : Nat),
    let trains := s.dram.training.any fun q => q.1 = x && q.2.1 = chan
    let near := s.nextWindow - s.time ≤ s.odNat (od 0x2400 0x0A) * 1000 ∧ s.odNat (od 0x2400 0x0A) ≠ 0
    let limit := s.odNat (od 0x2400 0x0B)
    (∀ e, e ≤ limit ∨ (s.dram.window || trains) = true → s.stays (.channelRetrainTrigger tier chan e))
    ∧ (∀ e, limit < e → (s.dram.window || trains) = false → near → s.runs (.channelRetrainTrigger tier chan e) [.dram] fun t =>
        t.dram = { s.dram with deferred :=
          if s.dram.deferred.contains (x, chan) then s.dram.deferred else s.dram.deferred ++ [(x, chan)] })
    ∧ (∀ e, limit < e → (s.dram.window || trains) = false → ¬ near →
        s.runs (.channelRetrainTrigger tier chan e) [.regs, .dram, .fab, .vlk, .adm, .dict] fun t =>
          t.dram = { s.dram with
            training := s.dram.training ++ [(x, chan, s.time)], latest := s.time
            deferred := s.dram.deferred.filter fun d => d ≠ (x, chan) }
          ∧ shown t ∧ (s.dram.training = [] → t.adm.chanSince = some s.time ∧ (t.reg 6 Reg.auStatus).testBit 3))
    ∧ (s.stays (.driftCheck tier chan false))
    ∧ (∀ e, limit < e → exec (.driftCheck tier chan true) s = exec (.channelRetrainTrigger tier chan e) s)
    ∧ (trains = false → ∀ n lanes, s.stays (.channelRetrain tier chan n lanes))
    ∧ (trains = true → ∀ n lanes, s.runs (.channelRetrain tier chan n lanes) some' fun t => s.dram.queue = [] → shown t
        ∧ t.dram.training = s.dram.training.filter (fun q => !(q.1 = x && q.2.1 = chan)))
    ∧ (trains = true → s.dram.queue = [] → s.dram.failed.contains (x, chan) = false →
        ∀ n, s.runs (.channelRetrain tier chan n []) [.regs, .dram, .adm, .dict] fun t =>
        let count := if x = 0 then Reg.hbmcRetrainCount else Reg.benchRetrainCount
        t.reg (2 + trainDie x chan) count = cap32 (s.reg (2 + trainDie x chan) count + 1)
        ∧ (t.dram.training = [] → t.adm.chanSince = none)
        ∧ s.logged t 0x0305 (u8 x ++ u16 (chanField (trainDie x chan) (trainNo x chan)) ++ c32 n ++ u8 0))
    ∧ (s.dram.window = false → trains = false → s.stays (.retrainFail tier chan))
    ∧ ((s.dram.window || trains) = true → s.dram.queue = [] →
        s.runs (.retrainFail tier chan) [.mem, .regs, .upd, .dram, .fab, .vlk, .adm, .dict, .life] fun t =>
        t.dram.failed = s.dram.failed ++ [(x, chan)] ∧ (t.reg (2 + trainDie x chan) (tierStatus x)).testBit 7
        ∧ (7 ≤ s.rst.phase → t.upd.voted = true ∧ t.upd.fault = some (s.upd.fault.getD 4))
        ∧ t.life.units.contains (2 + trainDie x chan, (if x = 0 then 0x0A else 0x0B), (if x = 0 then chan / 16 else chan % 16))
        ∧ (x = 1 → t.dram.subst.contains (chan % 16) = true)
        ∧ t.dram.training = s.dram.training.filter (fun q => !(q.1 = x && q.2.1 = chan))
        ∧ ∀ b, t.byte b = if (x = 0 ∧ b < 0x6C00000000) ∨ (x = 1 ∧ 0x10000000000 ≤ b ∧ b < 0x20000000000) then 0 else s.byte b)

/-- R331, R334, R335, R350 to R353: the rings. A lane map that 20 lanes do not carry in each direction fails the port (R354). -/
def Obligations.RingJoining : Prop := ∀ (s : State), s.sound →
  let carries := fun k l => (s.carryLanes k l).2
  (∀ (ring : Fin 3), let r := ring.val
    let up := r + 3
    let others := fun (t : State) => ∀ k, k ≠ r → k ≠ up → t.port k = s.port k
    (∀ l : LoopTest, l.ring = ring →
      let tested := s.ringUsed r = true ∧ (s.port r).state = 1 ∧ (s.port up).state = 1
      let looped := fun k => { s.port k with state := 2, looped := true, skip := false, line := true }
      (¬ tested → s.stays (.loopbackPass l))
      ∧ (tested → carries r l.plus = true → carries up l.minus = true → s.runs (.loopbackPass l) [.regs, .fab, .dict, .life] fun t =>
        t.port r = looped r ∧ t.port up = looped up ∧ others t ∧ t.fab.released = s.fab.released.set r s.time
        ∧ t.life.spare.ports = ((s.trainLanes r l.plus).carryLanes up l.minus).1
        ∧ (t.reg 6 Reg.zfStatus).testBit 2 ∧ s.logged t 0x0402 (u8 r ++ u8 1))
      ∧ (∀ port : Fin 6, tested →
          ((carries r l.plus = false ∧ carries up l.minus = true ∧ port.val = r) ∨
            (carries r l.plus = true ∧ carries up l.minus = false ∧ port.val = up)) →
          exec (.loopbackPass l) s = exec (.portFailed port) s)
      ∧ (∀ (one other : Fin 6) (u : State), tested → carries r l.plus = false → carries up l.minus = false →
          one.val = r → other.val = up → exec (.portFailed one) s = .next u →
          exec (.loopbackPass l) s = exec (.portFailed other) u))
    ∧ ((s.port r).state ≠ 2 → (s.port up).state ≠ 2 → s.stays (.joinTimeLimit ring))
    ∧ (((s.port r).state = 2 ∨ (s.port up).state = 2) → s.runs (.joinTimeLimit ring) [.regs, .fab, .adm, .dict] fun t =>
        (∀ k, k = r ∨ k = up → t.port k = { s.port k with
            state := if (s.port k).state = 5 then 5 else 0, partner := 0, boundary := false, line := false })
        ∧ others t ∧ (t.reg 6 Reg.zfStatus).testBit 1 ∧ (t.reg 6 Reg.zfStatus).testBit 2
        ∧ ((∀ k, k < 6 → (s.port k).state = 4 → k = r ∨ k = up) → t.adm.portSince = none)
        ∧ ((∃ k, k < 6 ∧ k ≠ r ∧ k ≠ up ∧ (s.port k).state = 4) → t.adm.portSince = s.adm.portSince))
    ∧ ((s.ringUsed r = false ∨ s.rst.phase < 5 ∨ (s.port r).state ≠ 0 ∨ (s.port up).state ≠ 0) → s.stays (.ringRetry ring))
    ∧ (s.ringUsed r = true → 5 ≤ s.rst.phase → (s.port r).state = 0 → (s.port up).state = 0 → s.runs (.ringRetry ring) [.fab] fun t =>
        (∀ k, k = r ∨ k = up → t.port k = { s.port k with state := 1, looped := false }) ∧ others t))
  ∧ (∀ (port : Fin 6) (coord zone : Nat) (lanes : LaneTest), let p := port.val
    let others := fun (t : State) => ∀ k, k ≠ p → t.port k = s.port k
    let near := coord = s.neighbour p ∨ ((s.port p).skip = true ∧ s.onRing p coord = true)
    let joined := { s.port p with state := 3, partner := coord, txSeq := 0, rxSeq := 0, replay := [], ask := none, holdBack := [] }
    let cmd := Instr.portJoin port coord zone lanes
    let spared := fun (t : State) => t.life.spare.ports = (s.carryLanes p lanes).1
    ((s.port p).state ≠ 2 → s.stays cmd)
    ∧ ((s.port p).state = 2 → carries p lanes = false → exec cmd s = exec (.portFailed port) s)
    ∧ ((s.port p).state = 2 → carries p lanes = true → (¬ near ∨ zone % 0x1000000 ≠ s.zoneWord % 0x1000000) →
      s.runs cmd [.regs, .dict] fun t => (t.reg 6 Reg.zfStatus).testBit 1 ∧ s.logged t 0x0401 (u8 p ++ u8 1))
    ∧ ((s.port p).state = 2 → carries p lanes = true → near → zone % 0x1000000 = s.zoneWord % 0x1000000 → s.inZone coord = true →
        zone = s.zoneWord → s.runs cmd [.regs, .fab, .dict, .life] fun t =>
          t.port p = { joined with boundary := false } ∧ others t ∧ spared t)
    ∧ ((s.port p).state = 2 → carries p lanes = true → near → zone % 0x1000000 = s.zoneWord % 0x1000000 → s.inZone coord = true →
        zone ≠ s.zoneWord → s.runs cmd [.regs, .dict] fun t =>
          (t.reg 6 Reg.zfStatus).testBit 1 ∧ s.logged t 0x0401 (u8 p ++ u8 2))
    ∧ ((s.port p).state = 2 → carries p lanes = true → near → zone % 0x1000000 = s.zoneWord % 0x1000000 → s.inZone coord = false →
        s.runs cmd [.regs, .fab, .dict, .life] fun t => t.port p = { joined with boundary := true } ∧ others t ∧ spared t))
  ∧ (∀ (port : Fin 6), let p := port.val
    let up := (s.port p).state = 3 ∨ (s.port p).state = 4
    (¬ up → s.stays (.linkLoss port))
    ∧ (up → s.runs (.linkLoss port) [.regs, .fab, .adm, .dict] fun t =>
        t.port p = { s.port p with state := 2, partner := 0, boundary := false, skip := true }
        ∧ t.fab.released = s.fab.released.set (p % 3) s.time
        ∧ ((∀ k, k < 6 → k ≠ p → (s.port k).state ≠ 4) → t.adm.portSince = none)
        ∧ (∀ k, k ≠ p → t.port k = s.port k) ∧ (t.reg 6 Reg.zfStatus).testBit 1 ∧ s.logged t 0x0401 (u8 p ++ u8 3)))

/-- R334, R353, R354: retrains of a port, its failure, and the zone fault. -/
def Obligations.PortFaults : Prop := ∀ (s : State) (port : Fin 6), s.sound →
  let k := port.val
  let p := s.port k
  (∀ x : PortTrouble, x.port = port → (p.state ≠ 3 ∨ (x.lost = false ∧ x.errors ≤ s.odNat (od 0x2500 0x0A))) →
    s.stays (.portRetrain x))
  ∧ (∀ x : PortTrouble, x.port = port → p.state = 3 → (x.lost = true ∨ s.odNat (od 0x2500 0x0A) < x.errors) →
    s.runs (.portRetrain x) [.regs, .fab, .vlk, .adm, .dict] fun t =>
      (t.port k).state = 4 ∧ (t.port k).since = s.time ∧ t.adm.portSince = some s.time ∧ (t.reg 6 Reg.auStatus).testBit 3
      ∧ ∀ j, j ≠ k → (t.port j).state = (s.port j).state)
  ∧ (∀ lanes, p.state ≠ 4 → s.stays (.portRetrainDone port lanes))
  ∧ (∀ lanes, p.state = 4 → (s.carryLanes k lanes).2 = false → exec (.portRetrainDone port lanes) s = exec (.portFailed port) s)
  ∧ (∀ lanes, p.state = 4 → (s.carryLanes k lanes).2 = true → s.runs (.portRetrainDone port lanes) [.regs, .fab, .adm, .dict, .life] fun t =>
      t.port k = { p with state := 3 } ∧ t.life.spare.ports = (s.carryLanes k lanes).1 ∧ (∀ j, j ≠ k → t.port j = s.port j)
      ∧ (t.reg 6 Reg.zfStatus).testBit 3
      ∧ ((∀ j, j < 6 → j ≠ k → (s.port j).state ≠ 4) → t.adm.portSince = none)
      ∧ ((∃ j, j < 6 ∧ j ≠ k ∧ (s.port j).state = 4) → t.adm.portSince = s.adm.portSince))
  ∧ (p.state = 5 → s.stays (.portFailed port))
  ∧ (p.state ≠ 5 →
      s.runs (.portFailed port)
        [.mem, .regs, .frets, .slanes, .board, .num, .emb, .upd, .dram, .fab, .vlk, .adm, .dict, .life] fun t =>
        (t.port k).state = 5 ∧ (t.port k).boundary = false ∧ t.fab.zoneFault = true ∧ t.life.units.contains (portDie k, 0x0C, k)
        ∧ (∀ j, j < 6 → j ≠ k → j % 3 = k % 3 → (t.port j).state = if (s.port j).state = 5 then 5 else 0)
        ∧ (∀ j, j < 6 → j % 3 ≠ k % 3 → (t.port j).state = (s.port j).state)
        ∧ (t.reg 6 Reg.zfStatus).testBit 1 ∧ (t.reg 6 Reg.zfStatus).testBit 2)
  ∧ (∀ (node n : Nat), let c := Instr.zoneFaultMessage node n
    let mine := s.fab.inbox.find? fun q => q.op = 7 && leAt q.data 5 1 = queueFault
    let turn := ∀ q, mine = some q → s.turnOfMsg q.src queueFault = true
    let left := match mine with | some q => s.fab.inbox.erase q | none => s.fab.inbox
    let told := fun (t : State) => ∀ j, j < 6 → (s.port j).state = 3 → (s.port j).boundary = false →
      ∃ pk more, (t.port j).queue = (s.port j).queue ++ pk :: more ∧ pk.dst = (s.port j).partner ∧ pk.op = 7
        ∧ pk.data.drop 16 = u16 node ++ u8 n
    (∀ q, mine = some q → s.turnOfMsg q.src queueFault = false → s.stays c)
    ∧ (turn → s.fab.zoneFault = true → s.runs c [.fab] fun t => t.fab = { s.fab with inbox := left })
    ∧ (turn → s.fab.zoneFault = false → s.fnState 0 = 0 →
      s.runs c [.regs, .fab, .vlk, .adm, .dict] fun t => t.fab.zoneFault = true ∧ told t ∧ t.fab.inbox = left
        ∧ (t.reg 6 Reg.zfStatus).testBit 7)
    ∧ (turn → s.fab.zoneFault = false → s.fnState 0 ≠ 0 → s.rank ≠ 0 →
      s.runs c [.regs, .upd, .fab, .vlk, .adm, .dict] fun t => t.fab.zoneFault = true ∧ told t
        ∧ (t.reg 6 Reg.zfStatus).testBit 7 ∧ t.upd.voted = true ∧ t.upd.fault = some (s.upd.fault.getD 5)
        ∧ ∃ r, t.fab.reqs = s.fab.reqs ++ [r] ∧ r.dst = s.nodeOfRank 0 ∧ r.op = 6 ∧ r.purpose = .record s.curStep)
    ∧ (turn → s.fab.zoneFault = false → s.fnState 0 ≠ 0 → s.rank = 0 →
      s.runs c [.mem, .regs, .frets, .slanes, .board, .num, .emb, .upd, .dram, .fab, .vlk, .adm, .dict, .life]
        fun t => t.fab.zoneFault = true ∧ t.fnState 0 = 0
        ∧ (t.committed = some s.curStep ∨ (t.committed = s.committed ∧ t.upd.rolls = s.upd.rolls + 1))
        ∧ ((s.modules = 1 ∨ (s.sumTree 1).cast = true) → ¬ (s.syncObj 1 / 4 = s.curStep ∧ s.syncObj 1 % 4 = 1) →
            t.committed = s.committed ∧ t.upd.rolls = s.upd.rolls + 1)))

/-- R331, R335 to R337, R339, R341, R345, R358, R359: packets on a port's link. What comes first from a source starts its order, as
log 17 chooses. -/
def Obligations.LinkPackets : Prop := ∀ (s : State) (port : Fin 6), s.sound →
  let k := port.val
  let p := s.port k
  let s1 := s.updPort k fun p => { p with slot := (p.slot + 1) % 64 }
  let others := fun (t : State) => ∀ j, j ≠ k → t.port j = s.port j
  let bytes := fun (pk : Packet) => envelope { pk with flags := pk.flags / 2 * 2 + if s.injecting then 1 else 0 } p.txSeq
  (p.state ≠ 3 → s.stays (.packetTransmit port))
  ∧ (p.state = 3 → p.ask = none → s1.nextPacket k = none → s.runs (.packetTransmit port) [.fab] fun t =>
      t.port k = { p with slot := (p.slot + 1) % 64 } ∧ others t)
  ∧ (∀ pk, p.state = 3 → p.ask = none → s1.nextPacket k = some pk → s.injects k = false →
      s.runs (.packetTransmit port) [.fab] fun t => others t
        ∧ (t.port k).queue = p.queue.erase pk ∧ (t.port k).txSeq = (p.txSeq + 1) % 4096 ∧ (t.port k).slot = (p.slot + 1) % 64
        ∧ (p.holdBack = [] → (t.port k).wire = (bytes pk :: p.wire).take 256)
        ∧ ((bytes pk).length ≤ 131072 → (t.port k).replay.getLast? = some ⟨p.txSeq, bytes pk, 0, false⟩))
  ∧ (∀ pk, p.state = 3 → p.ask = none → s1.nextPacket k = some pk → s.injects k = true →
      s.runs (.packetTransmit port) [.regs, .fab] fun t => others t
        ∧ (t.port k).queue = p.queue.erase pk ∧ (t.port k).txSeq = (p.txSeq + 1) % 4096 ∧ (t.port k).inj = p.inj + 1
        ∧ (let kind := s.injectKind (s.injectWord p.inj k)
          t.reg 6 Reg.zfInjectCount = (if kind = 0 then s.reg 6 Reg.zfInjectCount else cap32 (s.reg 6 Reg.zfInjectCount + 1))
          ∧ (kind = 1 → p.holdBack = [] → (t.port k).wire = p.wire.take 256)
          ∧ ((bytes pk).length ≤ 131072 → (t.port k).replay.getLast? = some ⟨p.txSeq, bytes pk, 0, decide (kind ≠ 0)⟩)
          ∧ (kind = 3 → p.holdBack = [] → (t.port k).holdBack = [(s.odNat (od 0x2580 7) - 1, bytes pk)])))
  ∧ (∀ q, p.state = 3 → p.ask = some q → s.injects k = false → s.runs (.packetTransmit port) [.fab] fun t => others t
      ∧ (t.port k).ask = none ∧ (t.port k).queue = p.queue ∧ (t.port k).txSeq = p.txSeq
      ∧ (p.holdBack = [] → (t.port k).wire =
          (bytes ⟨p.partner, s.node, 3, 0, 0, 0, 0, u16 q⟩ :: p.wire).take 256))
  ∧ (∀ (bs : Bytes), let o := openEnvelope bs
    (p.state ≠ 3 → s.stays (.packetReceive port bs false false))
    ∧ (p.state = 3 → (o.2.2 = false ∨ (o.1.cls ≠ 3 ∧ o.2.1 ≠ p.rxSeq)) → s.runs (.packetReceive port bs false false) [.fab] fun t =>
        t.port k = { p with ask := some p.rxSeq } ∧ others t ∧ t.fab.inbox = s.fab.inbox)
    ∧ (p.state = 3 → ∀ c, s.runs (.packetReceive port bs c true) [.fab] fun t =>
        (t.port k).ask = some p.rxSeq ∧ (t.port k).fecUncorr = cap32 (p.fecUncorr + 1) ∧ others t ∧ t.fab.inbox = s.fab.inbox)
    ∧ (p.state = 3 → o.2.2 = true → o.1.cls = 3 → s.stays (.packetReceive port bs false false))
    ∧ (p.state = 3 → o.2.2 = true → o.1.cls ≠ 3 → o.2.1 = p.rxSeq → p.boundary = true →
      s.runs (.packetReceive port bs false false) [.fab] fun t => t.port k = { p with rxSeq := (p.rxSeq + 1) % 4096 } ∧ others t
        ∧ t.fab.inbox = s.fab.inbox)
    ∧ (p.state = 3 → o.2.2 = true → o.1.cls ≠ 3 → o.2.1 = p.rxSeq → p.boundary = false → badSync o.1 = false →
      s.routePort s.node o.1.dst = none → s.runs (.packetReceive port bs false false) [.fab] fun t =>
        t.port k = { p with rxSeq := (p.rxSeq + 1) % 4096 } ∧ others t
        ∧ (let next := SMap.get 0 s.fab.heard o.1.src
          let ahead := next ≠ 0 ∧ o.1.pseq ≠ next - 1 ∧ (o.1.pseq + 65536 - (next - 1)) % 65536 < 32768
          let isNext := fun (q : Packet) => q.src = o.1.src ∧ q.pseq = (o.1.pseq + 1) % 65536
          (o.1.op = 8 → t.fab.inbox = s.fab.inbox ++ [o.1] ∧ t.fab.early = s.fab.early ∧ t.fab.heard = s.fab.heard)
          ∧ (o.1.op ≠ 8 → ahead → t.fab.inbox = s.fab.inbox ∧ t.fab.early = s.fab.early ++ [o.1])
          ∧ (o.1.op ≠ 8 → ¬ ahead → (∀ q ∈ s.fab.early, ¬ isNext q) → t.fab.inbox = s.fab.inbox ++ [o.1]
            ∧ t.fab.early = s.fab.early ∧ SMap.get 0 t.fab.heard o.1.src = (o.1.pseq + 1) % 65536 + 1)
          ∧ (o.1.op ≠ 8 → ¬ ahead → (∃ q ∈ s.fab.early, isNext q) → ∃ q more, isNext q ∧ q ∈ s.fab.early
            ∧ t.fab.inbox = s.fab.inbox ++ o.1 :: q :: more)))
    ∧ (p.state = 3 → o.2.2 = true → o.1.cls ≠ 3 → o.2.1 = p.rxSeq → p.boundary = false → o.1.dst = s.node → badSync o.1 = true →
      s.runs (.packetReceive port bs false false) [.fab] fun t => (t.port k).rxSeq = (p.rxSeq + 1) % 4096
        ∧ (o.1.src = s.node → t.fab.answers = (leAt o.1.data 0 4, stAddr, u64 0) :: s.fab.answers)
        ∧ (∀ r x, o.1.src ≠ s.node → s.routePort s.node o.1.src = some (r, x) → r < 6 →
            ∃ pk : Packet, (t.port r).queue = (s.port r).queue ++ [pk] ∧ pk.dst = o.1.src
              ∧ pk.data = replyBytes (leAt o.1.data 0 4) stAddr 0 ++ u64 0))
    ∧ (∀ d r, p.state = 3 → o.2.2 = true → o.1.cls ≠ 3 → o.2.1 = p.rxSeq → p.boundary = false →
      s.routePort s.node o.1.dst = some (r, d) → s.runs (.packetReceive port bs false false) [.fab] fun t =>
        (t.port k).rxSeq = (p.rxSeq + 1) % 4096 ∧ t.fab.inbox = s.fab.inbox
        ∧ (r < 6 → (t.port r).queue = (s.port r).queue ++
            [{ o.1 with vc := if s.isRing d.1 && s.wraps d.1 d.2 then 1 else if d.1 = k % 3 then o.1.vc else 0 }])))
  ∧ (∀ (seq : Nat), let again := replayFrom seq p.replay
    let injected := (again.head?.map (·.hurt)).getD false
    let times := fun (r : SentPacket) => if injected then r.times else r.times + 1
    let often := again.any fun r => decide (s.odNat (od 0x2500 0x0B) ≤ times r)
    let joined := p.state = 3 ∧ p.boundary = false
    ((¬ joined ∨ again = []) → s.stays (.replayRequest port seq))
    ∧ (joined → again ≠ [] → often = false → s.runs (.replayRequest port seq) [.regs, .fab] fun t => others t
        ∧ (t.port k).replays = cap32 (p.replays + again.length) ∧ (t.port k).state = 3
        ∧ (t.port k).replay.map (fun r => (r.seq, r.bytes, r.times)) = again.map (fun r => (r.seq, r.bytes, times r))
        ∧ (s.injects k = false → ∀ r ∈ (t.port k).replay, r.hurt = false)
        ∧ (t.reg 6 Reg.zfStatus).testBit 0 ∧ t.fab.trouble = some s.time
        ∧ (s.injects k = false → p.holdBack = [] →
            (t.port k).wire.take again.length = (again.reverse.map s.sentAgain).take 256))
    ∧ (joined → again ≠ [] → often = true →
      s.runs (.replayRequest port seq) [.regs, .fab, .vlk, .adm, .dict] fun t => (t.port k).state = 4
        ∧ t.adm.portSince = some s.time ∧ (t.reg 6 Reg.zfStatus).testBit 0)
    ∧ (∀ r ∈ again, r ∈ p.replay) ∧ (∀ r, again.head? = some r → r.seq = seq)
    ∧ (∀ (a b : List SentPacket) (r : SentPacket), p.replay = a ++ r :: b → r.seq = seq → (∀ q ∈ b, q.seq ≠ seq) → again = r :: b))

/-- R356, R357: hall time. -/
def Obligations.HallTime : Prop := ∀ (s : State), s.sound →
  let others := fun (t : State) (k : Nat) => ∀ j, j ≠ k → t.port j = s.port j
  (∀ (port : Fin 6) (delay : Nat) (locked : Bool) (offset : Int), let k := port.val
    let follows := s.timeLocked = true ∧ s.timeParent = k ∧ locked = true
    ((s.port k).state ≠ 3 → s.stays (.timeExchange port delay locked offset))
    ∧ ((s.port k).state = 3 → ¬ follows → s.runs (.timeExchange port delay locked offset) [.fab] fun t =>
        t.port k = { s.port k with delay := some delay } ∧ others t k ∧ t.fab.slew = s.fab.slew)
    ∧ ((s.port k).state = 3 → follows → s.runs (.timeExchange port delay locked offset) [.regs, .fab] fun t =>
        t.port k = { s.port k with delay := some delay } ∧ others t k
        ∧ t.fab.slew = s.fab.slew + max (-3) (min 3 (-offset)) ∧ s.onlyRegs t [regKey 6 Reg.zfTimeStatus]
        ∧ t.timeLocked = true ∧ t.timeParent = k))
  ∧ (∀ (port : Fin 6) (value : Nat), let k := port.val
    (s.timePort ≠ some k → s.stays (.timeLock port value))
    ∧ (s.timePort = some k → s.runs (.timeLock port value) [.time, .regs, .fab] fun t =>
        t.timeLocked = true ∧ t.timeParent = k ∧ t.time = (if s.fab.stepped then s.time else value)
        ∧ t.fab = { s.fab with stepped := true, lostAt := none } ∧ s.onlyRegs t [regKey 6 Reg.zfTimeStatus]))
  ∧ (∀ (other : Option (Fin 6)),
    ((6 ≤ s.timeParent ∨ other.map (·.val) ≠ s.nextParent s.timeParent) → s.stays (.parentLost other))
    ∧ (∀ p, s.nextParent s.timeParent = some p → p ∈ s.timePorts ∧ p ≠ s.timeParent ∧ (s.port p).state = 3
        ∧ s.timeParent % 3 ≤ p % 3)
    ∧ (∀ p, p ∈ s.timePorts → p ≠ s.timeParent → p % 3 = s.timeParent % 3 → (s.port p).state = 3 → s.timeParent < 6 →
        ∃ q, s.nextParent s.timeParent = some q ∧ q % 3 = s.timeParent % 3)
    ∧ (s.timeParent < 6 → ∀ p : Fin 6, other = some p → s.nextParent s.timeParent = some p.val →
      s.runs (.parentLost other) [.regs] fun t =>
        t.timeParent = p.val ∧ t.timeLocked = s.timeLocked ∧ s.onlyRegs t [regKey 6 Reg.zfTimeStatus])
    ∧ (s.timeParent < 6 → other = none → s.nextParent s.timeParent = none → s.runs (.parentLost other) [.regs, .fab] fun t => t.timeParent = 6
        ∧ t.timeLocked = s.timeLocked ∧ t.fab = { s.fab with lostAt := some (s.time, s.timeParent) }))
  ∧ (s.node = s.odNat (od 0x2500 0x10) → s.timePorts = [])
  ∧ (∀ p ∈ s.timePorts, nodeCoord s.node (p % 3) ≠ nodeCoord (s.odNat (od 0x2500 0x10)) (p % 3))
  ∧ (∀ p, s.timePort = some p → p ∈ s.timePorts ∧ (s.port p).state = 3)
  ∧ (s.fab.lostAt = none → s.stays .timeUnlock)
  ∧ (∀ l, s.fab.lostAt = some l → s.fnState 2 ≠ 1 → s.runs .timeUnlock [.regs, .fab] fun t => t.timeLocked = false
      ∧ t.timeParent = 6 ∧ (t.reg 6 Reg.zfStatus).testBit 6 ∧ t.fab = { s.fab with lostAt := none })
  ∧ (∀ l, s.fab.lostAt = some l → s.fnState 2 = 1 → l.2 < 6 → (s.port l.2).state ≠ 5 →
      s.runs .timeUnlock [.mem, .regs, .frets, .slanes, .board, .num, .emb, .upd, .dram, .fab, .vlk, .adm, .dict, .life] fun t =>
        t.timeLocked = false ∧ t.timeParent = 6 ∧ (t.reg 6 Reg.zfStatus).testBit 6 ∧ t.fab.zoneFault = true
        ∧ ∀ j, j < 6 → (t.port j).state =
          if j = l.2 then 5 else if j % 3 = l.2 % 3 ∧ (s.port j).state ≠ 5 then 0 else (s.port j).state)

/-- R302, R305, R306, R311, R320, R332, R340 to R342: READ, WRITE, COPY, COPY_DONE, ADD_I64, ADD_F32, MSG, and replies. An operation
that earlier ones of its source must come before changes nothing; one whose channels train, or that must not pass another, waits. -/
def Obligations.RemoteOperations : Prop := ∀ (s : State) (src id addr : Nat),
  let replied := fun (op status : Nat) (data : Bytes) (t : State) =>
    t.fab = ((s.takeInbox src op).reply src id status data false).fab
  let poison := fun (op n : Nat) (data : Bytes) => ((s.takeInbox src op).meetPoison addr n).reply src id 2 data false
  let wrote := fun (a n : Nat) (t : State) =>
    (∀ x, (x < a ∨ a + n ≤ x) → ¬ s.snapBuffer x → t.byte x = s.byte x)
    ∧ (s.upd.snap = none → s.onlyBytes t a n ∧ s.onlyChanges t [.mem, .dram, .fab])
  let free := fun (op : Nat) (spans : List (Nat × Nat × Bool)) => s.turnOf src op = true ∧ s.spansWait spans = false
  (∀ (status : Nat) (data : Bytes), (src = s.node → (s.reply src id status data false).fab =
        { s.fab with answers := (id, status, data) :: s.fab.answers })
      ∧ (∀ k x, src ≠ s.node → s.routePort s.node src = some (k, x) → k < s.fab.ports.length →
          ∃ pk : Packet, ((s.reply src id status data false).port k).queue = (s.port k).queue ++ [pk] ∧ pk.dst = src
            ∧ pk.src = s.node ∧ pk.op = 0 ∧ pk.data = replyBytes id status 0 ++ data))
  ∧ (∀ (len dst : Nat) (data : Bytes) (b : BitVec 64) (c : BitVec 32),
    let req := fun (op : Nat) (w : Option Bytes) (n : Nat) (work : MemWork) =>
      (⟨s.requestClass src op, addr, w, n, false, false, false, work⟩ : MemReq)
    let cmds : List (Instr × Nat × MemReq) :=
      [(.read src id addr len, 1, req 1 none len (.read src id)), (.write src id addr data, 2, req 2 (some data) 0 (.write src id)),
       (.copy src id addr dst len, 3, req 3 none len (.copy src id dst (decide (bits dst 59 45 = s.node)))),
       (.addI64 src id addr b, 4, req 4 none 8 (.addI64 src id b.toNat)), (.addF32 src id addr c, 5, req 5 none 4 (.addF32 src id c.toNat))]
    ∀ x ∈ cmds, (s.turnOf src x.2.1 = false → s.stays x.1)
      ∧ (s.turnOf src x.2.1 = true → s.spansWait x.2.2.spans = true → s.runs x.1 [.dram, .fab] fun t =>
          t.dram = { s.dram with queue := s.dram.queue ++ [x.2.2] } ∧ t.fab = (s.takeInbox src x.2.1).fab))
  ∧ (∀ len, let ok := s.remoteRange addr len 32 = true ∧ len % 32 = 0 ∧ len ≤ 256
    free 1 [(addr, len, false)] →
    (¬ ok → s.runs (.read src id addr len) [.fab] (replied 1 1 []))
    ∧ (ok → s.poisoned addr len = false → s.runs (.read src id addr len) [.fab] (replied 1 0 (s.readMem addr len)))
    ∧ (ok → s.poisoned addr len = true → exec (.read src id addr len) s = .next (poison 1 len (s.readMem addr len))))
  ∧ (∀ data : Bytes, let ok := s.remoteRange addr data.length 32 = true ∧ data.length % 32 = 0 ∧ data.length ≤ 256
    free 2 [(addr, data.length, true)] →
    (¬ ok → s.runs (.write src id addr data) [.fab] (replied 2 1 []))
    ∧ (ok → s.runs (.write src id addr data) [.mem, .regs, .upd, .dram, .fab] fun t => replied 2 0 [] t
        ∧ t.readMem addr data.length = data ∧ wrote addr data.length t))
  ∧ (∀ dst len, let node := bits dst 59 45
    let off := dst % 0x200000000000
    let ok := s.remoteRange addr len 32 = true ∧ len % 32 = 0 ∧ len ≤ 0x1000000 ∧ bits dst 63 60 = 0 ∧ off % 32 = 0
      ∧ (node = s.node → s.mappedRange off len = true) ∧ (node ≠ s.node → s.inZone node = true)
    free 3 ((addr, len, false) :: if node = s.node then [(off, len, true)] else []) →
    (¬ ok → s.runs (.copy src id addr dst len) [.fab] (replied 3 1 []))
    ∧ (ok → s.poisoned addr len = true → exec (.copy src id addr dst len) s = .next (poison 3 len []))
    ∧ (ok → s.poisoned addr len = false → node = s.node → s.runs (.copy src id addr dst len) [.mem, .regs, .upd, .dram, .fab] fun t =>
        t.readMem off len = s.readMem addr len ∧ wrote off len t ∧ t.fab.copies = s.fab.copies ++ [⟨src, id, 0, 0⟩])
    ∧ (ok → s.poisoned addr len = false → node ≠ s.node → s.runs (.copy src id addr dst len) [.fab] fun t =>
        t.fab.copies = s.fab.copies ++ [⟨src, id, ceilDiv len 256, 0⟩]
        ∧ t.fab.reqs.length = s.fab.reqs.length + ceilDiv len 256
        ∧ t.fab.reqs.take s.fab.reqs.length = s.fab.reqs
        ∧ ∀ r ∈ t.fab.reqs.drop s.fab.reqs.length, r.dst = node ∧ r.op = 2 ∧ r.purpose = .copy (copyJobNo src id)))
  ∧ (∀ status, (s.fab.copies.find? fun j => j.id = id && j.left = 0) = none → s.stays (.copyDone id status))
  ∧ (∀ status j, (s.fab.copies.find? fun j => j.id = id && j.left = 0) = some j → s.runs (.copyDone id status) [.fab] fun t =>
      t.fab = (({ s with fab := { s.fab with copies := s.fab.copies.erase j } } : State).reply j.src id
        (if j.status = 0 then status else j.status) [] false).fab)
  ∧ (∀ operand : BitVec 64, let old := s.memNat addr 8
    free 4 [(addr, 8, true)] →
    (s.remoteRange addr 8 8 = false → s.runs (.addI64 src id addr operand) [.fab] (replied 4 1 (u64 0)))
    ∧ (s.remoteRange addr 8 8 = true → s.poisoned addr 8 = true →
        exec (.addI64 src id addr operand) s = .next (poison 4 8 (u64 old)))
    ∧ (s.remoteRange addr 8 8 = true → s.poisoned addr 8 = false →
        s.runs (.addI64 src id addr operand) [.mem, .regs, .upd, .dram, .fab] fun t =>
          replied 4 0 (u64 old) t ∧ t.memNat addr 8 = (old + operand.toNat) % pow2 64 ∧ wrote addr 8 t))
  ∧ (∀ operand : BitVec 32, let old := s.memNat addr 4
    free 5 [(addr, 4, true)] →
    (s.remoteRange addr 4 4 = false → s.runs (.addF32 src id addr operand) [.fab] (replied 5 1 (u64 0)))
    ∧ (s.remoteRange addr 4 4 = true → s.poisoned addr 4 = true →
        exec (.addF32 src id addr operand) s = .next (poison 5 4 (u64 old)))
    ∧ (s.remoteRange addr 4 4 = true → s.poisoned addr 4 = false →
        s.runs (.addF32 src id addr operand) [.mem, .regs, .upd, .dram, .fab] fun t =>
          replied 5 0 (u64 old) t ∧ t.memNat addr 4 = (Fp.addSat (BitVec.ofNat 32 old) operand).1.toNat ∧ wrote addr 4 t))
  ∧ (∀ n q, s.poisonIn addr n = [q] → let m := s.meetPoison addr n
      let p := placeOf (64 * q)
      let ueCount := if p.tier = 0 then Reg.hbmcUeCount else Reg.benchUeCount
      s.onlyChanges m [.regs, .dram, .fab, .vlk, .adm, .dict, .life] ∧ m.dram.poison = s.dram.poison
      ∧ m.reg (2 + chanDie p.tier p.chan) ueCount = cap32 (s.reg (2 + chanDie p.tier p.chan) ueCount + 1))
  ∧ (∀ queue body, (s.turnOfMsg src queue = false → s.stays (.msg src id queue body))
    ∧ (s.turnOfMsg src queue = true → s.runs (.msg src id queue body) [.fab] fun t =>
        t.fab = { (s.takeInbox src 7).fab with msgs := s.fab.msgs ++ [(queue, src, body)] }))
  ∧ (∀ op pk, (s.fab.inbox.find? fun p => p.src = src && p.op ≠ 8) = some pk → (s.turnOf src op = true ↔ pk.op = op))
  ∧ (∀ op, (∀ p ∈ s.fab.inbox, p.src = src → p.op = 8) → s.turnOf src op = true)

/-- R343 to R345, R347: the sub-operations on a sync object, and waits. -/
def Obligations.SyncObjects : Prop := ∀ (s : State) (src id obj : Nat) (remote : Bool) (value expected : BitVec 64),
  let s1 := if remote then s.takeInbox src 6 else s
  let old := s.syncObj obj
  let v := value.toNat
  let hi := fun (x : Nat) => x / 0x1000000
  let lo := fun (x : Nat) => x % 0x1000000
  let cmds : List (Instr × Nat) :=
    [(.syncGet src id obj remote, old), (.syncSet src id obj remote value, v),
     (.syncAdd src id obj remote value, (old + v) % pow2 64), (.syncMax src id obj remote value, max old v),
     (.syncCas src id obj remote expected value, if old = expected.toNat then v else old),
     (.syncRecord src id obj remote value, if old / 4 < v / 4 ∨ (old / 4 = v / 4 ∧ old % 4 = 0) then v else old),
     (.syncStepMax src id obj remote value, if hi old < hi v then v
       else if hi old = hi v then hi old * 0x1000000 + max (lo old) (lo v) else old),
     (.syncStepAdd src id obj remote value, if hi old < hi v then v
       else if hi old = hi v then hi old * 0x1000000 + min 0xFFFFFF (lo old + lo v) else old)]
  let waits := s.held 6 13 = true ∨ (remote = true ∧ s.turnOf src 6 = false)
  (∀ x ∈ cmds, (waits → s.stays x.1) ∧ (¬ waits →
    (8192 ≤ obj → s.runs x.1 [.regs, .fab] fun t => t.fab = (s1.reply src id 1 (u64 0) true).fab
        ∧ s.onlyRegs t [regKey 6 Reg.syncStatus] ∧ (t.reg 6 Reg.syncStatus).testBit 2)
    ∧ (obj < 8192 → (s.rank ≠ 0 ∨ (obj ≠ 2 ∧ obj ≠ 3) ∨ x.2 = old) → s.runs x.1 [.regs, .fab] fun t =>
        (let refused := (s.rank = 0 ∧ obj = 2 ∧ x.1 = .syncStepMax src id obj remote value ∧ s.fab.away = some (hi v % 0x10000000000))
         t.fab = ((s1.setSync obj x.2).reply src id (if refused then 3 else 0) (u64 old) true).fab) ∧ t.syncObj obj = x.2
        ∧ s.onlyRegs t [regKey 6 Reg.syncOpCount] ∧ t.reg 6 Reg.syncOpCount = cap32 (s.reg 6 Reg.syncOpCount + 1))
    ∧ (s.rank = 0 → (obj = 2 ∨ obj = 3) → s.runs x.1 [.regs, .fab, .vlk, .adm, .dict] fun t =>
        t.syncObj obj = x.2 ∧ (∀ o, o ≠ obj → t.syncObj o = s.syncObj o)
        ∧ t.reg 6 Reg.syncOpCount = cap32 (s.reg 6 Reg.syncOpCount + 1))))
  ∧ (∀ limit, let cmd := Instr.syncWait src id obj remote value limit
    (waits → s.stays cmd) ∧ (¬ waits →
    (8192 ≤ obj → s.runs cmd [.regs, .fab] fun t => t.fab = (s1.reply src id 1 (u64 0) true).fab
        ∧ (t.reg 6 Reg.syncStatus).testBit 2)
    ∧ (obj < 8192 → v ≤ old → s.runs cmd [.regs, .fab] fun t => t.fab = (s1.reply src id 0 (u64 old) true).fab
        ∧ t.reg 6 Reg.syncOpCount = cap32 (s.reg 6 Reg.syncOpCount + 1))
    ∧ (obj < 8192 → old < v → 256 ≤ s.fab.waits.length → s.runs cmd [.regs, .fab] fun t =>
        t.fab = (s1.reply src id 3 (u64 old) true).fab ∧ (t.reg 6 Reg.syncStatus).testBit 1
        ∧ s.onlyRegs t [regKey 6 Reg.syncStatus])
    ∧ (obj < 8192 → old < v → s.fab.waits.length < 256 → s.runs cmd [.regs, .fab] fun t =>
        t.fab = { s1.fab with waits := s.fab.waits ++ [⟨src, id, obj, value, s.time + limit, remote⟩] }
        ∧ t.reg 6 Reg.syncOpCount = cap32 (s.reg 6 Reg.syncOpCount + 1))))
  ∧ (∀ place, s.fab.waits[place]? = none → s.stays (.syncWaitSatisfied place) ∧ s.stays (.syncWaitTimeout place))
  ∧ (∀ place w, s.fab.waits[place]? = some w →
      let ended := (({ s with fab := { s.fab with waits := s.fab.waits.erase w } } : State).reply w.src w.id 0
        (u64 (s.syncObj w.obj)) true).fab
      (w.value.toNat ≤ s.syncObj w.obj → s.runs (.syncWaitSatisfied place) [.fab] fun t => t.fab = ended)
      ∧ (s.syncObj w.obj < w.value.toNat → s.stays (.syncWaitSatisfied place))
      ∧ (s.runs (.syncWaitTimeout place) [.regs, .fab] fun t => t.fab = ended ∧ (t.reg 6 Reg.syncStatus).testBit 0))

/-- R207, R250, R342, R346, R347: step updates, acknowledgements, replies and time limits at the requester. -/
def Obligations.StepUpdatesAndReplies : Prop := ∀ (s : State),
  (∀ (delay : Bool) (value : BitVec 64),
    (s.fab.inbox.find? fun p => p.op = 6 && leAt p.data 5 1 = 16) = none → childLevels s.modules s.rank = [] →
      let step := value.toNat / 0x1000000
      let old := if s.fab.seen.1 = step then s.fab.seen else (step, 0, 0)
      let ext := max (if delay then 0 else value.toNat % 0x1000000) old.2.1
      let dly := max (if delay then value.toNat % 0x1000000 else 0) old.2.2
      let up := (ext + dly) - (old.2.1 + old.2.2)
      s.runs (.stepSyncUpdate delay value) [.regs, .fab, .vlk, .adm, .dict] fun t =>
        (let away := s.turnsAway step (if delay then 0 else value.toNat % 0x1000000)
          let own := if away then 3 else 0
          t.fab = { s.fab with
            seen := (step, ext, dly)
            ackStatus := if s.fab.reqs.any (fun r => r.purpose = .ack) then max s.fab.ackStatus own else own
            away := if away then some step else s.fab.away })
        ∧ (let raised := s.adm.steps.map (fun a => if a.step % 0x10000000000 = step then a.later up else a)
          (∀ a ∈ t.adm.steps, a ∈ raised) ∧ (dly = old.2.2 → t.adm.steps = raised))
        ∧ (up = 0 → t.adm = s.adm ∧ t.vlk = s.vlk ∧ t.regs = s.regs))
  ∧ (∀ (delay : Bool) (value : BitVec 64) pk, (s.fab.inbox.find? fun p => p.op = 6 && leAt p.data 5 1 = 16) = some pk →
      s.runs (.stepSyncUpdate delay value) [.regs, .fab, .vlk, .adm, .dict] fun t =>
        (childLevels s.modules s.rank ≠ [] → t.fab.acks = s.fab.acks ++ [(pk.src, leAt pk.data 0 4)]
          ∧ t.fab.reqs.length = s.fab.reqs.length + (childLevels s.modules s.rank).length)
        ∧ (childLevels s.modules s.rank = [] → t.fab.acks = s.fab.acks ∧ t.fab.reqs = s.fab.reqs
          ∧ (pk.src = s.node → t.fab.answers = (leAt pk.data 0 4, t.fab.ackStatus, u64 0) :: s.fab.answers)))
  ∧ (∀ (delay : Bool) (value : BitVec 64), let o := if delay then 3 else 2
    (s.fab.reqs.any (fun r => r.purpose = .ack) = true → s.stays (.stepSyncAck delay value))
    ∧ (s.fab.reqs.any (fun r => r.purpose = .ack) = false → s.runs (.stepSyncAck delay value) [.fab] fun t =>
        t.fab.posts = s.fab.posts.filter (fun p => p.1 ≠ o) ∧ t.fab.sync = s.fab.sync ∧ t.fab.reqs = s.fab.reqs))
  ∧ (∀ id status data, (s.fab.reqs.find? fun r => r.id = id) = none → s.stays (.remoteReply id status data)
      ∧ s.stays (.remoteTimeout id))
  ∧ (∀ id r, (s.fab.reqs.find? fun r => r.id = id) = some r →
      let got := fun (status : Nat) (data : ReplyData) => { (s.takeInbox r.dst 0).fab with
        reqs := s.fab.reqs.erase r, answers := (id, status, data.bytes) :: s.fab.answers }
      (∀ status data, s.turnOf r.dst 0 = false → s.stays (.remoteReply id status data))
      ∧ (s.turnOf r.dst 0 = true →
      (∀ (status : Nat) (data : ReplyData), let failed := r.phase = true ∧ (status = 1 ∨ status = 2)
        let c := Instr.remoteReply id status data
        (failed → (∀ n, r.purpose ≠ .record n) → s.runs c [.regs, .frets, .emb, .upd, .fab, .vlk, .adm, .dict] fun t =>
            t.upd.voted = true ∧ t.upd.fault = some (s.upd.fault.getD 4))
        ∧ (¬ failed → (r.purpose = .delay ∨ r.purpose = .other ∨ (∃ n, r.purpose = .record n ∧ n ≠ s.curStep)
              ∨ (status = 0 ∧ ∃ f, r.purpose = .extension f)) →
            s.runs c [.fab] fun t => t.fab = got status data)
        ∧ (¬ failed → ∀ f, status ≠ 0 → r.purpose = .extension f → s.runs c [.regs, .vlk, .adm, .dict, .fab] fun t =>
            t.fab = got status data
            ∧ ∀ h, (s.adm.frames.find? fun y => y.id = f && y.waiting = 2) = some h →
              ((s.unhold f).requote h.step).refused t (frId h.bytes) (frType h.bytes) (frStep h.bytes) ⟨cLength, cap32 h.ext, 0⟩)
        ∧ (¬ failed → ∀ job, r.purpose = .copy job → s.runs c [.fab] fun t =>
            t.fab = { got status data with copies := s.fab.copies.map fun j =>
              (if copyJobNo j.src j.id = job then { j with left := j.left - 1, status := max j.status status } else j) })
        ∧ (¬ failed → r.purpose = .row → s.runs c [.regs, .frets, .emb, .fab] fun t => t.fab = got status data
            ∧ t.emb.asks = s.emb.asks.filter (fun a => a.id ≠ id))
        ∧ (s.sound → r.purpose = .record s.curStep →
            s.runs c [.mem, .regs, .frets, .slanes, .board, .num, .emb, .upd, .dram, .fab, .vlk, .adm, .dict, .life] fun t =>
              (leAt data.bytes 0 8 / 4 = s.curStep → leAt data.bytes 0 8 % 4 = 1 → t.committed = some s.curStep)
              ∧ (¬ (leAt data.bytes 0 8 / 4 = s.curStep ∧ leAt data.bytes 0 8 % 4 = 1) → t.committed = s.committed
                ∧ t.upd.rolls = s.upd.rolls + 1))
        ∧ (¬ failed → r.purpose = .ack → s.runs c [.fab] fun t =>
            t.fab.reqs = s.fab.reqs.erase r ∧ t.fab.ackStatus = max s.fab.ackStatus status
            ∧ t.fab.away = (if status = 0 then s.fab.away else some (s.syncObj 2 / 0x1000000))
            ∧ (((s.fab.reqs.erase r).any fun q => q.purpose = .ack) = true → t.fab.acks = s.fab.acks)
            ∧ (((s.fab.reqs.erase r).any fun q => q.purpose = .ack) = false → t.fab.acks = []))))
      ∧ (s.runs (.remoteTimeout id) [.regs, .emb, .upd, .fab, .vlk, .adm, .dict] fun t =>
          t.fab.reqs = s.fab.reqs.erase r ∧ t.fab.answers = (id, 4, []) :: s.fab.answers ∧ t.fab.trouble = some s.time
          ∧ (t.reg 6 Reg.zfStatus).testBit 4 ∧ t.reg 6 Reg.zfTimeoutCount = cap32 (s.reg 6 Reg.zfTimeoutCount + 1)
          ∧ (r.phase = true → t.upd.voted = true)
          ∧ (r.purpose = .ack → r.phase = false → t.fab.posts = [] ∧ t.fab.acks = []
              ∧ t.fab.away = some (s.syncObj 2 / 0x1000000))
          ∧ (r.phase = false → r.purpose = .record s.curStep → t.upd = { s.upd with lost := some s.curStep })
          ∧ (r.phase = false → (∀ n, r.purpose = .record n → n ≠ s.curStep) → t.upd = s.upd)))

/-- R138, R146, R219, R290 to R292, R347, R348: BRIDGE_PACKET. Operation 7 is a sum of X0: of verdicts, or of commit votes where the
micro-batch field is 1 (log 17); that both dies show a mismatch is the model's choice (log 31). -/
def Obligations.BridgePackets : Prop := ∀ (s : State) (layer tensor pass mb opno chunk level op rows n : Nat)
    (data : List F32) (down : Bool),
  let mine := fun (p : Packet) => p.op = 8 && leAt p.data 0 2 = layer && leAt p.data 2 1 = tensor && leAt p.data 6 4 = opno
    && leAt p.data 10 2 = chunk
  let key := fun (t : TreeOp) => t.is layer tensor pass mb opno
  let known := (s.fab.tree.find? key).getD ⟨layer, tensor, pass, mb, opno, op, rows, n, [], [], false⟩
  let differs := known.bad = true ∨ known.op ≠ op ∨ known.rows ≠ rows ∨ known.n ≠ n
  let inbox := match s.fab.inbox.find? mine with | some p => s.fab.inbox.erase p | none => s.fab.inbox
  let others := s.fab.tree.filter fun x => !key x
  let cmd := Instr.bridgePacket layer tensor pass mb opno chunk level op rows n data down
  (differs → s.runs cmd [.regs, .fab] fun t => t.fab = { s.fab with inbox := inbox, tree := others ++ [{ known with bad := true }] }
      ∧ s.onlyRegs t [regKey 0 Reg.bridgeStatus, regKey 1 Reg.bridgeStatus]
      ∧ (t.reg 0 Reg.bridgeStatus).testBit 2 ∧ (t.reg 1 Reg.bridgeStatus).testBit 2)
  ∧ (¬ differs → down = true → known.down.any (fun p => p.1 = chunk) = true → s.runs cmd [.fab] fun t =>
      t.fab = { s.fab with inbox := inbox })
  ∧ (¬ differs → down = true → known.down.any (fun p => p.1 = chunk) = false → s.runs cmd [.fab] fun t =>
      t.fab.tree = others ++ [{ known with down := known.down ++ [(chunk, data)] }] ∧ t.fab.reqs = s.fab.reqs)
  ∧ (¬ differs → down = false → known.parts.any (fun p => p.1 = level && p.2.1 = chunk) = true → s.runs cmd [.fab] fun t =>
      t.fab = { s.fab with inbox := inbox })
  ∧ (¬ differs → down = false → known.parts.any (fun p => p.1 = level && p.2.1 = chunk) = false →
      let now := { known with parts := known.parts ++ [(level, chunk, data)] }
      let q := if op = 7 then 1 else match s.treeMember now with | some c => unitPackets c.op c.k | none => 1
      let first := chunk / q * q
      let whole := ((0 :: childLevels s.modules s.rank).all fun l => (List.range q).all fun j =>
            now.parts.any fun p => p.1 = l && p.2.1 = first + j) = true
        ∧ if op = 7 then now.down.any (fun d => d.1 = chunk) = false else s.treeMember now ≠ none
      let rolled := op = 7 ∧ mb = 1 ∧ s.syncObj 1 = s.curStep * 4 + 2
      s.runs cmd [.regs, .fab] fun t =>
        (¬ whole → t.fab = { s.fab with inbox := inbox, tree := others ++ [now] } ∧ t.regs = s.regs)
        ∧ (whole → s.rank ≠ 0 → t.fab.tree = others ++ [now] ∧ t.fab.sync = s.fab.sync)
        ∧ (whole → s.rank = 0 → rolled → t.fab.tree = others ++ [now] ∧ t.fab.sync = s.fab.sync)
        ∧ (whole → s.rank = 0 → ¬ rolled → ∃ xs : List (Nat × List F32),
            t.fab.tree = others ++ [{ now with down := now.down ++ xs }]
            ∧ xs.map (·.1) = (List.range xs.length).map (first + ·) ∧ (q = 1 → xs.length = 1)
            ∧ ((op ≠ 7 ∨ mb ≠ 1) → t.fab.sync = s.fab.sync)
            ∧ (op = 7 → mb = 1 → s.syncObj 1 / 4 < s.curStep → s.curStep * 4 + 2 < pow2 64 →
                ∃ x, xs = [(chunk, x)] ∧ t.syncObj 1 = s.curStep * 4 + (if countOf x 1 = Fp.ofNat s.modules then 1 else 2))))

/-- R365 to R367, R369: the Vilny link. `crcOk` and the fields are those of the flit's control word. -/
def Obligations.VilnyLink : Prop := ∀ (s : State),
  let v := s.vlk
  (∀ (flit : Bytes),
    let word := leAt flit 248 4
    let crcOk := leAt flit 252 4 = (crc32 (byteSlice flit 0 252)).toNat
    let idle := bits word 31 31 = 1
    let nak := bits word 30 30 = 1
    let seq := bits word 11 0
    let ack := bits word 23 12
    let k := (ack + 4096 - v.acked) % 4096
    let sent := (v.txSeq + 4096 - v.acked) % 4096
    let rx := v.rx ++ byteSlice flit 0 248
    let len := leAt rx 4 4
    let nakFlit := flitOf [] (v.txSeq + 4095) v.rxSeq 16 true true
    let plain := s.injects 6 = false ∧ v.holdRx = []
    (v.state ≠ 2 → s.stays (.flitReceive flit))
    ∧ (v.state = 2 → plain → ¬ crcOk → s.runs (.flitReceive flit) [.regs, .vlk] fun t =>
        t.vlk = { v with wire := (nakFlit :: v.wire).take 2048 }
        ∧ s.onlyRegs t [regKey 6 Reg.vlkCrcErrCount]
        ∧ t.reg 6 Reg.vlkCrcErrCount = cap32 (s.reg 6 Reg.vlkCrcErrCount + 1))
    ∧ (v.state = 2 → plain → crcOk → ¬ nak → s.runs (.flitReceive flit) [.vlk] fun t =>
        (k ≤ sent → t.vlk.acked = ack ∧ t.vlk.credit = 32 * bits word 29 24 ∧ t.vlk.replay = v.replay.drop k)
        ∧ (sent < k → t.vlk.acked = v.acked ∧ t.vlk.credit = v.credit ∧ t.vlk.replay = v.replay)
        ∧ (idle → t.vlk.rxSeq = v.rxSeq ∧ t.vlk.rx = v.rx ∧ t.vlk.arrived = v.arrived ∧ t.vlk.wire = v.wire)
        ∧ (¬ idle → seq ≠ v.rxSeq → t.vlk.rxSeq = v.rxSeq ∧ t.vlk.rx = v.rx ∧ t.vlk.arrived = v.arrived
            ∧ t.vlk.wire = (nakFlit :: v.wire).take 2048)
        ∧ (¬ idle → seq = v.rxSeq → t.vlk.rxSeq = (v.rxSeq + 1) % 4096 ∧ t.vlk.wire = v.wire
            ∧ (48 ≤ len → len ≤ 0x1000000 → len ≤ rx.length → t.vlk.arrived = v.arrived ++ [rx.take len] ∧ t.vlk.rx = [])
            ∧ (48 ≤ len → len ≤ 0x1000000 → rx.length < len → t.vlk.arrived = v.arrived ∧ t.vlk.rx = rx)))
    ∧ (v.state = 2 → plain → v.holdTx = [] → crcOk → idle → nak → k ≤ sent → v.replay.drop k ≠ [] →
        s.runs (.flitReceive flit) [.regs, .vlk] fun t =>
          let injected := ((v.replay.drop k).head?.map (·.hurt)).getD false
          let again := (v.replay.drop k).map fun (r : SentPacket) =>
            { r with times := if injected then r.times else r.times + 1, hurt := false }
          let often := again.any fun r => 16 ≤ r.times
          t.reg 6 Reg.vlkReplayCount = cap32 (s.reg 6 Reg.vlkReplayCount + again.length)
          ∧ t.vlk.rxSeq = v.rxSeq ∧ t.vlk.txSeq = v.txSeq
          ∧ (again.length ≤ 2048 → t.vlk.wire.take again.length =
              (again.map fun r => flitOf r.bytes r.seq v.rxSeq 16 false false).reverse)
          ∧ (often = false → t.vlk.state = 2 ∧ t.vlk.replay = again)
          ∧ (often = true → t.vlk.state = 3 ∧ t.vlk.replay = again.map fun (r : SentPacket) => { r with times := 0 }))
    ∧ (v.state = 2 → s.injects 6 = true → ¬ idle → v.holdRx = [] → s.injectKind (s.injectWord v.injRx 7) = 1 →
        s.runs (.flitReceive flit) [.regs, .vlk] fun t => t.vlk = { v with injRx := v.injRx + 1 }
          ∧ t.reg 6 Reg.zfInjectCount = cap32 (s.reg 6 Reg.zfInjectCount + 1)))
  ∧ (v.state ≠ 2 → s.stays .vilnyRetrain)
  ∧ (v.state = 2 → s.runs .vilnyRetrain [.regs, .vlk] fun t => t.vlk = { v with state := 3, replay := v.replay.map fun (r : SentPacket) => { r with times := 0 } }
      ∧ (t.reg 6 Reg.vlkStatus).testBit 0 = false
      ∧ t.reg 6 Reg.vlkRetrainCount = cap32 (s.reg 6 Reg.vlkRetrainCount + 1))
  ∧ (∀ (lanes : VilnyLanes) (spare : Option (Fin 8) × Option (Fin 8)),
      let was := s.life.spare.vilny
      let sp := s.vilnySpare spare
      let carries := fun (ok : BitVec 9) (p : Nat) => (∀ k, k < 8 → k ≠ p → ok.getLsbD k = true) ∧ (p ≠ 15 → ok.getLsbD 8 = true)
      let cmd := Instr.vilnyTrainDone lanes spare
      (v.state ≠ 1 → v.state ≠ 3 → s.stays cmd)
      ∧ (¬ (carries lanes.tx sp.1 ∧ carries lanes.rx sp.2) → s.stays cmd)
      ∧ (was.1 ≠ 15 → sp.1 = was.1) ∧ (was.2 ≠ 15 → sp.2 = was.2)
      ∧ ((v.state = 1 ∨ v.state = 3) → carries lanes.tx sp.1 → carries lanes.rx sp.2 → s.runs cmd [.regs, .vlk, .life] fun t =>
          t.vlk = { v with state := 2 } ∧ t.life.spare.vilny = sp
          ∧ (t.reg 6 Reg.vlkStatus).testBit 0 ∧ (v.state = 3 → (t.reg 6 Reg.vlkStatus).testBit 1)
          ∧ (sp ≠ was → (t.reg 6 Reg.vlkStatus).testBit 3)
          ∧ t.reg 6 Reg.vlkLaneState = (if sp.2 = 15 then sp.1 else sp.2) * 512 + (lanes.tx &&& lanes.rx).toNat))
  ∧ (v.state ≠ 1 → v.state ≠ 3 → s.stays .vilnyLinkDown)
  ∧ ((v.state = 1 ∨ v.state = 3) → s.runs .vilnyLinkDown [.regs, .vlk, .dict] fun t => t.vlk = { v with state := 0 }
      ∧ (t.reg 6 Reg.vlkStatus).testBit 2 ∧ (t.reg 6 Reg.vlkStatus).testBit 0 = false ∧ s.logged t 0x0401 (u8 6 ++ u8 6))
  ∧ (v.state = 0 → s.vilnyOut = false → s.held 6 14 = false → 5 ≤ s.rst.phase → s.runs .vilnyTrainRetry [.vlk] fun t =>
      t.vlk = { v with state := 1 })
  ∧ ((v.state ≠ 0 ∨ s.vilnyOut = true ∨ s.held 6 14 = true ∨ s.rst.phase < 5) → s.stays .vilnyTrainRetry)

/-- R204, R207, R248, R372, R377 to R382: EVENTS, TALLY_COMPLETE and EXTENSION_POSTED. -/
def Obligations.EventsAdmission : Prop := ∀ (s : State),
  let units := s.held 6 14 = false ∧ s.held 6 15 = false
  (∀ f : Bytes, let arrived := s.vlk.arrived.erase f
    (¬ units → s.stays (.events f)) ∧ (units →
    (s.tallying = true → s.runs (.events f) [.vlk, .adm] fun t =>
        t.adm = { s.adm with behind := s.adm.behind ++ [(s.time, f)] } ∧ t.vlk = { s.vlk with arrived := arrived })
    ∧ (∀ r, s.tallying = false → s.generalTurn f 1 = some r → s.runs (.events f) [.regs, .vlk, .adm, .dict] fun t =>
        s.refused t (frId f) (frType f) (frStep f) r ∧ t.vlk.arrived = arrived)
    ∧ (s.tallying = false → s.generalTurn f 1 = none → s.anyClassified = true → s.runs (.events f) [.vlk, .adm] fun t =>
        t.adm = { s.adm with frames := s.adm.frames ++ [heldOf f s.time 0 1 false] } ∧ t.vlk = { s.vlk with arrived := arrived })
    ∧ (∀ r, s.tallying = false → s.generalTurn f 1 = none → s.anyClassified = false → s.judge f s.time = .inl r →
        s.runs (.events f) [.regs, .vlk, .adm, .dict] fun t =>
          s.refused t (frId f) (frType f) (frStep f) r ∧ t.vlk.arrived = arrived)
    ∧ (∀ q, s.tallying = false → s.generalTurn f 1 = none → s.anyClassified = false → s.judge f s.time = .inr q →
        (s.isExtended q = false ∨ s.modules ≤ 1) → s.runs (.events f)
          [.regs, .frets, .emb, .upd, .dram, .fab, .vlk, .adm, .dict, .life] fun t =>
          t.reg 6 Reg.auAcceptCount = cap32 (s.reg 6 Reg.auAcceptCount + 1) ∧ t.adm.highId = max s.adm.highId (frId f)
          ∧ s.acceptFrame (frId f) (frStep f) s.time q.bound (s.isExtended q) ∈ t.vlk.out ∧ t.vlk.arrived = arrived)
    ∧ (∀ q, s.tallying = false → s.generalTurn f 1 = none → s.anyClassified = false → s.judge f s.time = .inr q →
        s.isExtended q = true → 1 < s.modules → s.rank ≠ 0 → s.runs (.events f) [.regs, .fab, .vlk, .adm] fun t =>
          t.adm.frames = s.adm.frames ++ [{ heldOf f s.time q.bound 2 true with
            ext := q.ext
            until' := (((s.stepFrames (frStep f)).filter fun h => h.waiting = 0).map fun h => h.tLast + h.bound).min? }] ∧ t.vlk.out = s.vlk.out
          ∧ t.reg 6 Reg.auAcceptCount = s.reg 6 Reg.auAcceptCount
          ∧ ∃ r : Request, t.fab.reqs[s.fab.reqs.length]? = some r ∧ r.purpose = .extension (frId f) ∧ r.dst = s.nodeOfRank 0)))
  ∧ (∀ frame, (s.adm.frames.find? fun f => f.id = frame && f.waiting = 1) = none → s.stays (.tallyComplete frame))
  ∧ (∀ frame h r, (s.adm.frames.find? fun f => f.id = frame && f.waiting = 1) = some h → s.adm.behind = [] →
      ((s.takeTally h).unhold frame).judge h.bytes h.tLast = .inl r →
      s.runs (.tallyComplete frame) [.regs, .emb, .vlk, .adm, .dict] fun t =>
        (s.unhold frame).refused t (frId h.bytes) (frType h.bytes) (frStep h.bytes) r)
  ∧ (∀ frame h q, (s.adm.frames.find? fun f => f.id = frame && f.waiting = 1) = some h → s.adm.behind = [] →
      ((s.takeTally h).unhold frame).judge h.bytes h.tLast = .inr q → (s.isExtended q = false ∨ s.modules ≤ 1) →
      s.runs (.tallyComplete frame) [.regs, .frets, .emb, .upd, .dram, .fab, .vlk, .adm, .dict, .life] fun t =>
        t.reg 6 Reg.auAcceptCount = cap32 (s.reg 6 Reg.auAcceptCount + 1)
        ∧ s.acceptFrame (frId h.bytes) (frStep h.bytes) h.tLast q.bound (s.isExtended q) ∈ t.vlk.out)
  ∧ (∀ frame, ((s.adm.frames.find? fun f => f.id = frame && f.waiting = 2) = none ∨ s.postDone frame = false) →
      s.stays (.extensionPosted frame))
  ∧ (∀ frame h, (s.adm.frames.find? fun f => f.id = frame && f.waiting = 2) = some h → s.postDone frame = true →
      let turned := s.rank = 0 ∧ s.fab.away = some (h.step % 0x10000000000)
      let late := ∃ u, h.until' = some u ∧ u < s.time
      (turned ∨ late → s.runs (.extensionPosted frame) [.regs, .vlk, .adm, .dict] fun t =>
        ((s.unhold frame).requote h.step).refused t (frId h.bytes) (frType h.bytes) (frStep h.bytes) ⟨cLength, cap32 h.ext, 0⟩)
      ∧ (¬ turned → ¬ late → s.runs (.extensionPosted frame) [.regs, .frets, .emb, .upd, .dram, .fab, .vlk, .adm, .dict, .life] fun t =>
        t.reg 6 Reg.auAcceptCount = cap32 (s.reg 6 Reg.auAcceptCount + 1)
        ∧ s.acceptFrame h.id h.step h.tLast (match s.admStep h.step with | some a => a.commit - h.tLast | none => h.bound) true
          ∈ t.vlk.out))

/-- R370, R372, R374, R381, R383, R387: which cause a frame meets first, and when a bound is too late. -/
def Obligations.RefusalCauses : Prop := ∀ (s : State) (f : Bytes) (type : Nat),
  (∀ o, s.badFrame f type = some o → s.generalTurn f type = some ⟨1, o, 0⟩)
  ∧ (leAt f 0 2 ≠ 0x4C56 → s.badFrame f type = some 0)
  ∧ (48 ≤ f.length → leAt f 0 2 = 0x4C56 → frType f ≠ type → s.badFrame f type = some 2)
  ∧ (48 ≤ f.length → leAt f 0 2 = 0x4C56 → frType f = type → frFlags f / 8 = 0 → frLength f ≠ f.length → s.badFrame f type = some 4)
  ∧ (leAt f (f.length - 8) 4 ≠ (crc32 (f.take (f.length - 8))).toNat → ∃ o, s.badFrame f type = some o ∧ o ≤ f.length - 8)
  ∧ (∀ h ∈ s.adm.frames, h.id = frId f → ∃ o, s.badFrame f type = some o ∧ o ≤ 8)
  ∧ (let used := (s.adm.frames.map fun h => h.bytes.length).sum
    s.badFrame f type = none →
      (s.odNat (od 0x2600 0x12) < used + f.length → s.generalTurn f type = some ⟨7, 0, 0⟩)
      ∧ (used + f.length ≤ s.odNat (od 0x2600 0x12) →
          ((s.rst.pinWait = true ∨ s.rst.asserted = true ∨ s.fnState 3 ≠ 1) → s.generalTurn f type = some ⟨3, 0, 0⟩)
          ∧ (s.rst.pinWait = false → s.rst.asserted = false → s.fnState 3 = 1 → s.generalTurn f type = none)))
  ∧ (∀ t, frStep f ≠ s.curStep → frStep f ≠ s.curStep + 1 → s.judge f t = .inl ⟨2, 0, 0⟩)
  ∧ (∀ t, (frStep f = s.curStep ∨ frStep f = s.curStep + 1) → s.fnState 0 ≠ 1 → s.judge f t = .inl ⟨3, 0, 0⟩)
  ∧ (∀ t, (frStep f = s.curStep ∨ frStep f = s.curStep + 1) → s.eventsState f = false → s.quote f t = none →
      s.judge f t = .inl ⟨4, 0, 0⟩)
  ∧ (∀ t q, (frStep f = s.curStep ∨ frStep f = s.curStep + 1) → s.eventsState f = false → s.quote f t = some q →
      s.slotsShort f = false → s.dram.window = true → ∃ r, s.judge f t = .inl r ∧ r.cause = 8)
  ∧ (∀ t q at', (frStep f = s.curStep ∨ frStep f = s.curStep + 1) → s.eventsState f = false → s.quote f t = some q →
      s.slotsShort f = false → s.dram.window = false → s.adm.chanSince = some at' → s.judge f t = .inl ⟨9, 0, at' + 21000⟩)
  ∧ (∀ t q, s.judge f t = .inr q → s.dram.window = false ∧ s.adm.chanSince = none ∧ s.adm.portSince = none
      ∧ (frStep f = s.curStep ∨ frStep f = s.curStep + 1) ∧ s.fnState 0 = 1
      ∧ (let limit := s.odNat (od 0x2600 (1 + frClass f % 4))
        limit ≠ 0 → q.bound ≤ limit) ∧ t + q.bound ≤ s.nextWindow)
  ∧ (∀ cls t bound work, let limit := s.odNat (od 0x2600 (1 + cls % 4))
    (limit ≠ 0 → limit < bound → s.boundTurn cls t bound work =
        some ⟨6, cap32 bound, if limit < work then 0 else t + bound - limit⟩)
    ∧ ((limit = 0 ∨ bound ≤ limit) → t + bound ≤ s.nextWindow → s.boundTurn cls t bound work = none))

/-- R246, R292, R297, R299, R302, R383, R388, R390 to R392: PUT, ROWS, RESTORE, SETTLE, SNAPSHOT_REQ, READBACK and STATUS. -/
def Obligations.HostFrames : Prop := ∀ (s : State) (f : Bytes),
  let cmds : List Instr := [.put f, .rows f, .restore f, .settle f, .readback f, .status f, .snapshotReq f]
  let units := s.held 6 14 = false ∧ s.held 6 15 = false
  (¬ units → ∀ c ∈ cmds, s.stays c)
  ∧ (units → s.tallying = true → ∀ c ∈ cmds, s.runs c [.vlk, .adm] fun t =>
      t.adm = { s.adm with behind := s.adm.behind ++ [(s.time, f)] } ∧ t.vlk = { s.vlk with arrived := s.vlk.arrived.erase f })
  ∧ (units → s.tallying = false →
  let arrived := s.vlk.arrived.erase f
  let refuses := fun (c : Instr) (r : Turn) => s.runs c [.regs, .vlk, .adm, .dict] fun t =>
    s.refused t (frId f) (frType f) (frStep f) r ∧ t.vlk.arrived = arrived
  let accepts := fun (t : State) (bound : Nat) => t.reg 6 Reg.auAcceptCount = cap32 (s.reg 6 Reg.auAcceptCount + 1)
    ∧ t.adm.highId = max s.adm.highId (frId f) ∧ s.acceptFrame (frId f) (frStep f) s.time bound false ∈ t.vlk.out
  (let a := leAt f 36 8
    let bs := (f.take (f.length - 8)).drop 44
    let n := (a + bs.length + 31) / 32 * 32 - a / 32 * 32
    let bound := if 0x10000000000 ≤ a ∧ a < 0x20000000000 then s.loadBound 0 n else s.loadBound n 0
    let turn := s.controlTurn f 2 s.time (controlBad f 1 [(4, decide (f.length < 56))]) (s.fnState 0 ≠ 0) bound bound
    (∀ r, turn = some r → refuses (.put f) r)
    ∧ (turn = none → (a < 0x40000000000 ∨ 0x40040000000 ≤ a) → s.putRange a bs.length = true →
        s.runs (.put f) [.mem, .regs, .upd, .dram, .vlk, .adm] fun t => accepts t bound ∧ t.readMem a bs.length = bs
          ∧ (∀ x, (x < a ∨ a + bs.length ≤ x) → ¬ s.snapBuffer x → t.byte x = s.byte x)
          ∧ (s.upd.snap = none → s.onlyBytes t a bs.length))
    ∧ (turn = none → 0x40000000000 ≤ a → a < 0x40040000000 → s.putRange a bs.length = true →
        s.runs (.put f) [.regs, .frets, .board, .dram, .vlk, .adm] fun t => accepts t bound)
    ∧ (turn = none → s.putRange a bs.length = false → s.runs (.put f) [.regs, .dram, .vlk, .adm] fun t => accepts t bound
        ∧ t.dram = { s.dram with replies := (2, a, [], true) :: s.dram.replies }))
  ∧ (∀ x row, s.table (leAt f 36 2) = some x → rowsOf x f (f.length - 8) (min (leAt f 40 4) f.length) 44 = ([row], none) →
    let bytes := row.slot.length
    let bound := if x.bench row.cls then s.loadBound 0 bytes else s.loadBound bytes 0
    let turn := s.controlTurn f 2 s.time (controlBad f 2 [(4, decide (f.length < 56)), (38, decide (leAt f 38 2 ≠ 0))]) (s.fnState 1 ≠ 0) bound bound
    (∀ r, turn = some r → refuses (.rows f) r)
    ∧ (turn = none → s.owner x.table row.row ≠ s.rank → s.runs (.rows f) [.regs, .vlk, .adm] fun t => accepts t bound
        ∧ t.adm.counts[25]? = (s.adm.counts[25]?).map fun c => cap32 (c + 1))
    ∧ (∀ e, turn = none → s.owner x.table row.row = s.rank → s.dirFind x.table row.row = none →
        s.dirFree x.table row.row = some e → ∀ slot s1,
        s.poolTake (x.bench row.cls) x.table row.row (slotBytes row.cls x) = some (slot, s1) →
        s.runs (.rows f) [.mem, .regs, .emb, .upd, .dram, .vlk, .adm] fun t => accepts t bound ∧ t.emb = s1.emb
          ∧ (let entry : DirEntry := ⟨row.row, x.table, row.cls, x.bench row.cls, false, false, true, slot⟩
            (s.mappedRange slot bytes = true → s.upd.snap = none → t.mem = ((s.writeMem slot row.slot).setDir e entry).mem)
            ∧ (s.mappedRange slot bytes = false → t.mem = (s.setDir e entry).mem
              ∧ t.dram.replies = (2, slot, [], true) :: s.dram.replies)))
    ∧ (∀ e, turn = none → s.owner x.table row.row = s.rank → s.dirFind x.table row.row = none →
        s.dirFree x.table row.row = some e → s.poolTake (x.bench row.cls) x.table row.row (slotBytes row.cls x) = none →
        s.runs (.rows f) [.regs, .vlk, .adm] fun t => accepts t bound
          ∧ (t.reg (2 + s.homeDie x.table row.row) Reg.embStatus).testBit 4)
    ∧ (turn = none → s.owner x.table row.row = s.rank → s.dirFind x.table row.row = none → s.dirFree x.table row.row = none →
        s.runs (.rows f) [.regs, .vlk, .adm] fun t => accepts t bound
          ∧ (t.reg (2 + s.homeDie x.table row.row) Reg.embStatus).testBit 4))
  ∧ (∀ c, chunksOf f.length 36 ((f.take (f.length - 8)).drop 36) = ([c], none) →
    let bound := if s.chunkTier c then s.loadBound 0 c.data.length else s.loadBound c.data.length 0
    let other := c.kind = 1 ∧ (byteSlice c.data 8 56 ≠ s.jobKey ∨ leAt c.data 64 2 ≠ s.node)
    let turn := s.controlTurn f 2 s.time (controlBad f 3 [(36, decide (c.kind ≠ 1) && s.upd.restore.isNone)])
      (s.fnState 0 ≠ 0 || decide other) bound bound
    (∀ r, turn = some r → refuses (.restore f) r)
    ∧ (turn = none → c.kind = 1 → s.runs (.restore f) [.regs, .upd, .vlk, .adm] fun t => accepts t bound
        ∧ t.upd = { s.upd with restore := some ⟨leAt c.data 0 8, [], [], 0x10000, [], []⟩ })
    ∧ (∀ r, turn = none → s.upd.restore = some r → c.kind = 2 → s.runs (.restore f) [.regs, .upd, .vlk, .adm] fun t =>
        accepts t bound ∧ t.upd = { s.upd with restore := some { r with history := r.history ++ c.data } })
    ∧ (∀ r, turn = none → s.upd.restore = some r → c.kind = 4 → s.runs (.restore f) [.regs, .upd, .vlk, .adm] fun t =>
        accepts t bound ∧ t.upd = { s.upd with restore := some { r with sketch := r.sketch ++ c.data } })
    ∧ (∀ r, turn = none → s.upd.restore = some r → c.kind = 5 →
        let at' := s.carryAt (r.step % 2) 0 0 + c.offset
        s.runs (.restore f) [.mem, .regs, .upd, .dram, .vlk, .adm] fun t => accepts t bound
          ∧ (s.mappedRange at' c.data.length = true → s.upd.snap = none → t.mem = (s.writeMem at' c.data).mem)
          ∧ (s.mappedRange at' c.data.length = false → t.mem = s.mem ∧ t.dram.replies = (2, at', [], true) :: s.dram.replies)
          ∧ ∀ x, t.upd.carried.contains x = (s.upd.carried.contains x
              || (s.carriedIn (r.step % 2) c.offset c.data.length).contains x))
    ∧ (∀ r, turn = none → s.upd.restore = some r → c.kind = 0xFF →
        s.runs (.restore f) [.mem, .regs, .num, .emb, .upd, .dram, .vlk, .adm] fun t => accepts t bound
          ∧ t.committed = some r.step ∧ t.upd.restore = none ∧ t.num.loaded = some (History.of r.history)
          ∧ (∀ e, t.liveHalf e = 0) ∧ t.emb.hot = []))
  ∧ (let o := leAt f 36 1
    let told := [2, 3, 4, 5].any fun d => bits (s.reg d Reg.updStatus) 6 6 = 1
    let turn := s.controlTurn f 2 s.time (controlBad f 4 [(4, decide (f.length < 64)), (36, !(o = 1 || o = 2)), (37, decide (leAt f 37 7 ≠ 0))])
      (!told || s.upd.lost ≠ some (leAt f 44 8)) 1000000 1000000
    (∀ r, turn = some r → refuses (.settle f) r)
    ∧ (turn = none → s.sound → (o = 1 ∨ o = 2) ∧
        s.runs (.settle f) [.mem, .regs, .frets, .slanes, .board, .num, .emb, .upd, .dram, .fab, .vlk, .adm, .dict, .life] fun t =>
          (o = 1 → t.committed = some s.curStep) ∧ (o = 2 → t.committed = s.committed ∧ t.upd.rolls = s.upd.rolls + 1)))
  ∧ (let a := leAt f 32 8
    let n := leAt f 40 4
    let work := ceilDiv n (if 0x10000000000 ≤ a ∧ a < 0x20000000000 then 17 else 100) + 10000
    let start := ((s.adm.frames.filter fun h => !h.isEvents).map fun h => h.tLast + h.bound).foldl max s.time
    let bound := start - s.time + work
    let bad := (firstBad [(4, decide (f.length < 56)), (40, decide (n < 32) || decide (0x40000000 < n)), (44, decide (leAt f 44 4 ≠ 0))]).map fun o =>
      Turn.mk 1 o 0
    let turn := s.controlTurn f 4 s.time bad false bound work
    (∀ r, turn = some r → refuses (.readback f) r)
    ∧ (turn = none → s.runs (.readback f) [.regs, .vlk, .adm] fun t => accepts t bound
        ∧ t.adm.frames = s.adm.frames ++ [heldOf f s.time bound 0 false]
        ∧ t.adm.streams = s.adm.streams ++ [⟨0x84, frId f, s.time + bound, a, n⟩]))
  ∧ (let bound := Config.statusBound (frId f)
    let turn := s.controlTurn f 5 s.time none false bound bound
    (∀ r, turn = some r → refuses (.status f) r)
    ∧ (turn = none → s.runs (.status f) [.regs, .vlk, .adm] fun t => accepts t bound
        ∧ t.vlk.out.length = s.vlk.out.length + 2 ∧ t.adm.frames = s.adm.frames))
  ∧ (let c := match s.adm.steps.find? (fun a => decide (s.curStep ≤ a.step)) with
      | some a => a.commit | none => s.time + Config.snapshotWait (frId f)
    let work := ceilDiv s.snapSize.1 100 + ceilDiv s.snapSize.2 17 + 10000
    let bound := c + work - s.time
    let turn := s.controlTurn f 3 s.time none (s.fnState 4 ≠ 1) bound work
    (∀ r, turn = some r → refuses (.snapshotReq f) r)
    ∧ (turn = none → (s.upd.snap ≠ none ∨ s.odNat (od 0x2300 0x15) = 0) → refuses (.snapshotReq f) ⟨11, 0, 0⟩)
    ∧ (turn = none → s.upd.snap = none → s.odNat (od 0x2300 0x15) ≠ 0 →
        s.runs (.snapshotReq f) [.regs, .upd, .vlk, .adm] fun t => accepts t bound
          ∧ t.upd = { s.upd with snap := some ⟨frId f, none, none, [], [], 0⟩ }
          ∧ t.adm.frames = s.adm.frames ++ [heldOf f s.time bound 0 false])))

/-- R355, R368, R387: BOUND_EXPIRY and FRAME_WAIT_LIMIT. -/
def Obligations.LateFrames : Prop := ∀ (s : State), s.sound →
  (∀ frame, (s.adm.frames.find? fun f => f.id = frame && f.inFlight) = none → s.stays (.boundExpiry frame))
  ∧ (∀ frame h, (s.adm.frames.find? fun f => f.id = frame && f.inFlight) = some h →
      let trouble := ∃ x, s.fab.trouble = some x ∧ h.tLast ≤ x
      let n := (s.adm.frames.filter fun f => f.inFlight && f.id = frame).length
      (h.isEvents = true → ¬ trouble → s.stays (.boundExpiry frame))
      ∧ ((h.isEvents = false ∨ trouble) → s.runs (.boundExpiry frame) [.regs, .vlk, .adm, .dict] fun t =>
          t.reg 6 Reg.auBrokenCount = cap32 (s.reg 6 Reg.auBrokenCount + n) ∧ (t.reg 6 Reg.auStatus).testBit 1
          ∧ (∀ place, ((trouble ∧ place = 16) ∨ (¬ trouble ∧ place = 22)) →
            t.adm.counts[place]? = (s.adm.counts[place]?).map fun c => cap32 (c + n))))
  ∧ (∀ step, let mine := s.adm.frames.filter fun f => f.isEvents && f.step = step && f.waiting ≠ 1
    let want := (mine.map (·.mbCount)).foldl max 0
    let gone := fun (t : State) => (∀ f ∈ t.adm.frames, ¬ (f.isEvents = true ∧ f.step = step ∧ f.waiting ≠ 1))
      ∧ (∀ a ∈ t.adm.steps, a.step ≠ step) ∧ t.committed = s.committed
    ((mine = [] ∨ want ≤ mine.length) → s.stays (.frameWaitLimit step))
    ∧ (mine ≠ [] → mine.length < want → step ≠ s.curStep →
        s.runs (.frameWaitLimit step) [.regs, .frets, .emb, .upd, .vlk, .adm, .dict] fun t => gone t ∧ t.emb = s.emb.forget step
          ∧ (1 < s.modules → t.upd = { s.upd with late := some step } ∧ t.frets = s.frets)
          ∧ (s.modules ≤ 1 → t.upd = { s.upd with rollbacks := cap32 (s.upd.rollbacks + 1) }
            ∧ (∃ u : State, u.time = s.time ∧ u.logged t 0x0602 (u64 step ++ u8 0x0B ++ u8 1 ++ u32 0))
            ∧ ∀ i, i < 768 → (t.fret i = s.fret i ∨ (t.fret i).run = 0) ∧
                ((s.fret i).run = 1 → (∃ x, (s.fret i).frame = some x ∧ x.1 = step) → (t.fret i).run = 0)))
    ∧ (mine ≠ [] → mine.length < want → step = s.curStep →
        s.runs (.frameWaitLimit step) [.mem, .regs, .frets, .slanes, .board, .num, .emb, .upd, .dram, .fab, .vlk, .adm, .dict, .life] fun t =>
          gone t
          ∧ (1 < s.modules → t.upd.voted = true ∧ t.upd.fault = some (s.upd.fault.getD 11) ∧ t.mem = s.mem)
          ∧ (s.modules ≤ 1 → t.upd.rolls = s.upd.rolls + 1 ∧ t.upd.rerun = 0 ∧ t.upd.journal = []
              ∧ ∀ i, i < 768 → (t.fret i).run = 0 ∨ (t.fret i).run = (s.fret i).run)))

/-- R329, R409 to R412, R443: an SDP request on the management bus within a session. -/
def Obligations.SdpRequests : Prop := ∀ (s : State) (req : Requester) (frame : Nat) (m : Bytes),
  let r := Sdp.of m
  let s1 := s.bump 6 Reg.mgmtSdpRxCount 1
  let acting := [od 0x2000 1, od 0x2000 2, od 0x2000 3, od 0x2000 4, od 0x2000 5, od 0x2960 2, od 0x1030 0x10, od 0x1030 5,
    od 0x1030 7, od 0x1040 1, od 0x1050 1, od 0x1050 2, od 0x1101 1, od 0x2500 0x11, od 0x1202 0, od 0x2100 1]
  let rings := [od 0x2500 1, od 0x2500 2, od 0x2500 0x10]
  let key := requesterKey req
  let whole := fun (row : OdRow) => row.type ≠ 10 ∧ (row.type = 9 → r.offset = 0 ∧ r.first = false ∧ r.last = false)
  (∀ op bus, 1 ≤ op → op ≤ 5 → 1 ≤ r.op → r.op ≤ 5 → r.op ≠ op → s.stays (sdpCommand op bus req frame m))
  ∧ (∀ op, (s.reg 6 Reg.mgmtStatus % 2 = 0 ∨ s.addressed req = false ∨ s.serves = false) → s.stays (sdpCommand op true req frame m))
  ∧ (s.addressed req = true → req.dstPort.toNat = 47709)
  ∧ (s.reg 6 Reg.mgmtStatus % 2 = 1 → s.addressed req = true → s.serves = true → ∀ op, 1 ≤ op → op ≤ 5 →
    ((r.op = op ∨ r.op = 0 ∨ 5 < r.op) → sdpMalformed true m = true →
      s.runs (sdpCommand op true req frame m) [.regs, .dict] fun t => s.replied t key r (.bare r 9) ∧ t.dict.sessions = s.dict.sessions)
    ∧ (r.op = op → op ≠ 3 → sdpMalformed true m = false →
        let held := s.dict.sessions.find? fun x => x.num = r.session && x.bus && x.req = key
        (held = none → s.runs (sdpCommand op true req frame m) [.regs, .dict] fun t =>
          s.replied t key r (.bare r 7) ∧ t.dict.sessions = s.dict.sessions)
        ∧ ∀ x, held = some x →
          (r.seq = x.seq → x.reply ≠ [] → s.runs (sdpCommand op true req frame m) [.regs, .dict] fun t =>
            t.dict.bus = (key, x.reply) :: s.dict.bus ∧ t.dict.sessions = s.dict.sessions
            ∧ t.reg 6 Reg.mgmtSdpRxCount = cap32 (s.reg 6 Reg.mgmtSdpRxCount + 1)
            ∧ t.reg 6 Reg.mgmtSdpErrCount = (if leAt x.reply 2 1 = 0 then s.reg 6 Reg.mgmtSdpErrCount
                else cap32 (s.reg 6 Reg.mgmtSdpErrCount + 1)))
          ∧ ((r.seq ≠ x.seq ∨ x.reply = []) → r.seq ≠ (x.seq + 1) % 65536 →
              s.runs (sdpCommand op true req frame m) [.regs, .dict] fun t =>
                s.replied t key r (.bare r 7) ∧ t.dict.sessions = s.dict.sessions)
          ∧ (r.seq ≠ x.seq → r.seq = (x.seq + 1) % 65536 →
              let ends := fun (c : Instr) (ps : List Part) (a : Answer) (Q : State → Prop) => s.runs c ps fun t =>
                s.replied t key r a ∧ t.dict.sessions = s.seqKept r.session r.seq (r.reply a) ∧ Q t
              (op = 1 → s.entryRow r.key = none → ends (.sdpGet true req frame m) [.regs, .dict] (.bare r 1) fun _ => True)
              ∧ (op = 2 → s.entryRow r.key = none → ends (.sdpSet true req frame m) [.regs, .dict] (.bare r 1) fun t => t.dict.od = s.dict.od)
              ∧ (op = 4 → r.length = 0 → s.runs (.sdpClose true req frame m) [.regs, .dict] fun t => s.replied t key r (.bare r 0)
                  ∧ t.dict.sessions = s.dict.sessions.filter (fun y => y.num ≠ r.session)
                  ∧ t.dict.staging = s.dict.staging.filter fun g => g.session ≠ r.session)
              ∧ (op = 4 → r.length ≠ 0 → ends (.sdpClose true req frame m) [.regs, .dict] (.bare r 4) fun _ => True)
              ∧ (op = 5 → r.value.length = 1 → leNat r.value ≤ 1 → s.runs (.sdpSubscribe true req frame m) [.regs, .dict] fun t =>
                  s.replied t key r (.bare r 0) ∧ ∀ y ∈ t.dict.sessions, y.num = r.session → y.notify = (leNat r.value = 1 : Bool))
              ∧ (op = 5 → r.value.length = 1 → 1 < leNat r.value → ends (.sdpSubscribe true req frame m) [.regs, .dict] (.bare r 5) fun _ => True)
              ∧ ∀ row, s.entryRow r.key = some row → row.key = r.key →
                (op = 1 → row.type ≠ r.type → ends (.sdpGet true req frame m) [.regs, .dict] (.bare r 4) fun _ => True)
                ∧ (op = 1 → row.type = r.type → (odSize row.type = 0 ∨ r.length = 0 ∨ r.length = odSize row.type) → row.acc = .wo →
                    ends (.sdpGet true req frame m) [.regs, .dict] (.bare r 2) fun _ => True)
                ∧ (op = 1 → row.type = r.type → row.acc ≠ .wo → odSize row.type ≠ 0 → (r.length = 0 ∨ r.length = odSize row.type) →
                    acting.contains r.key = false → isCountEntry r.key = false → ends (.sdpGet true req frame m) [.regs, .dict]
                      ⟨0, 4, r.session, padTo (odSize row.type) (s1.odRead r.key)⟩ fun t => t.dict.od = s.dict.od)
                ∧ (let fits := if row.type = 9 then r.length ≤ 255 else if odSize row.type = 0 then r.length ≤ 0x1000000 else r.length = odSize row.type
                  (op = 2 → (row.type ≠ r.type ∨ ¬ fits) → ends (.sdpSet true req frame m) [.regs, .dict] (.bare r 4) fun t => t.dict.od = s.dict.od)
                  ∧ (op = 2 → row.type = r.type → fits →
                    (s.setDenied row r.value = true → ends (.sdpSet true req frame m) [.regs, .dict] (.bare r 2) fun t => t.dict.od = s.dict.od)
                    ∧ (s.setDenied row r.value = false → x.level < row.level →
                        ends (.sdpSet true req frame m) [.regs, .dict] (.bare r 3) fun t => t.dict.od = s.dict.od)
                    ∧ (s.setDenied row r.value = false → row.level ≤ x.level → row.type = 9 → ¬ whole row →
                        ends (.sdpSet true req frame m) [.regs, .dict] (.bare r 5) fun t => t.dict.od = s.dict.od)
                    ∧ (s.setDenied row r.value = false → row.level ≤ x.level → whole row → acting.contains r.key = false →
                        valueOk row r.value = false →
                        ends (.sdpSet true req frame m) [.regs, .dict] (.bare r 5) fun t => t.dict.od = s.dict.od)
                    ∧ (s.setDenied row r.value = false → row.level ≤ x.level → whole row → rings.contains r.key = true →
                        valueOk row r.value = true →
                        ends (.sdpSet true req frame m) [.regs, .fab, .adm, .dict, .rst, .life] (.bare r 0) fun t =>
                          t.odWritten r.key = r.value
                          ∧ (r.key = od 0x2500 1 → leNat r.value = 0xFFFF → SMap.get none s.dict.before r.key = none →
                              ∀ k, k < 6 → (t.port k).line = false ∧ ((t.port k).state = 0 ∨ (t.port k).state = 5)))
                    ∧ (s.setDenied row r.value = false → row.level ≤ x.level → whole row → acting.contains r.key = false →
                        rings.contains r.key = false → valueOk row r.value = true →
                        ends (.sdpSet true req frame m) [.regs, .dict, .rst, .life] (.bare r 0) fun t => t.odWritten r.key = r.value
                          ∧ (∀ k, k ≠ r.key → t.odBytes k = s.odBytes k)
                          ∧ (row.acc = .rws → t.odBytes r.key = s.odBytes r.key)
                          ∧ (row.acc ≠ .rws → SMap.get none s.dict.before r.key = none → t.odBytes r.key = r.value)
                          ∧ (kept row = true → SMap.get none t.dict.nv r.key = some r.value)))))))

/-- R412 to R415, R426, R462, R479: sessions, proofs, segments and the register data entry. -/
def Obligations.SdpSessions : Prop := ∀ (s : State),
  (∀ (req : Requester) (frame : Nat) (m : Bytes), s.reg 6 Reg.mgmtStatus % 2 = 1 → s.addressed req = true → s.serves = true → sdpMalformed true m = false → (Sdp.of m).op = 3 →
    let r := Sdp.of m
    let key := requesterKey req
    let level := leAt r.value 0 1
    let proof := decide (r.value.length = 97)
    let nonce := s.dict.nonces.find? fun n => n.bus && n.req = key
    let shown := match nonce with | some n => if proof then s.provenLevel n.value (r.value.drop 1) else none | none => none
    let ends := fun (ps : List Part) (a : Answer) (Q : State → Prop) => s.runs (.sdpOpen true req frame m) ps fun t => s.replied t key r a ∧ Q t
    (r.value.length ≠ 1 → r.value.length ≠ 97 → ends [.regs, .dict] (.bare r 4) fun t => t.dict.sessions = s.dict.sessions)
    ∧ ((r.value.length = 1 ∨ r.value.length = 97) → level ≠ 0 → s.life.mgmtFailed.contains 1 = true →
        ends [.regs, .dict] (.bare r 2) fun t => t.dict.sessions = s.dict.sessions)
    ∧ ((r.value.length = 1 ∨ r.value.length = 97) → level = 0 → 8 ≤ s.dict.sessions.length →
        ends [.regs, .dict] (.bare r 6) fun t => t.dict.sessions = s.dict.sessions)
    ∧ ((r.value.length = 1 ∨ r.value.length = 97) → level = 0 → s.dict.sessions.length < 8 →
        s.runs (.sdpOpen true req frame m) [.free, .regs, .dict] fun t => ∃ n, 1 ≤ n ∧ n ≤ 65535
          ∧ (∀ x ∈ s.dict.sessions, x.num ≠ n) ∧ s.replied t key r ⟨0, 0, n, []⟩
          ∧ t.dict.sessions = s.dict.sessions ++ [{ num := n, level := 0, bus := true, req := key, seq := 0, reply := [], notify := false }])
    ∧ (r.value.length = 1 → 1 ≤ level → level ≤ 3 → s.life.mgmtFailed.contains 1 = false → s.dict.sessions.length < 8 →
        s.sec.locked = false → s.runs (.sdpOpen true req frame m) [.free, .regs, .dict] fun t => ∃ v : Bytes, v.length = 48
          ∧ s.replied t key r ⟨8, 0, 0, v⟩ ∧ ⟨true, key, v⟩ ∈ t.dict.nonces ∧ t.dict.nonces.length ≤ 8
          ∧ t.dict.sessions = s.dict.sessions)
    ∧ (∀ l, proof = true → 1 ≤ level → s.life.mgmtFailed.contains 1 = false → shown = some l → l < level →
        ends [.regs, .dict] (.bare r 3) fun t => t.dict.sessions = s.dict.sessions ∧ ∀ n ∈ t.dict.nonces, ¬ (n.bus = true ∧ n.req = key))
    ∧ (∀ l, proof = true → 1 ≤ level → level ≤ 3 → s.life.mgmtFailed.contains 1 = false → shown = some l → level ≤ l →
        s.dict.sessions.length < 8 → s.sec.locked = false → s.runs (.sdpOpen true req frame m) [.free, .regs, .dict] fun t =>
          ∃ x ∈ t.dict.sessions, x.level = level ∧ x.bus = true ∧ x.req = key ∧ s.replied t key r ⟨0, 0, x.num, []⟩)
    ∧ (∀ n, proof = true → 1 ≤ level → level ≤ 3 → s.life.mgmtFailed.contains 1 = false → nonce = some n → shown = none →
        s.dict.sessions.length < 8 → s.sec.locked = false → s.runs (.sdpOpen true req frame m) [.free, .regs, .dict, .sec] fun t =>
          let times := (s.sec.failTimes.filter fun t => s.time < t + 60000000000) ++ [s.time]
          t.dict.sessions = s.dict.sessions ∧ t.sec = { s.sec with failTimes := times, locked := decide (5 ≤ times.length) }
          ∧ t.reg 6 Reg.secAuthFailCount = cap32 (s.reg 6 Reg.secAuthFailCount + 1) ∧ (t.reg 6 Reg.secStatus).testBit 2))
  ∧ (∀ op (req : Requester) (frame : Nat) (m : Bytes), 1 ≤ op → op ≤ 5 → (Sdp.of m).op = op →
      (s.vlk.arrived.find? fun f => frId f = frame && frType f = 2 && frOp f = 5) = none →
      (s.serves = false → s.stays (sdpCommand op false req frame m))
      ∧ (s.serves = true → sdpMalformed false m = true → s.runs (sdpCommand op false req frame m) [.regs, .vlk] fun t =>
          t.vlk.out = s.vlk.out ++ [⟨2, 0, moduleFrame 0x84 (4 + if s.injecting then 2 else 0) frame s.curStep s.time
            ((Sdp.of m).reply (.bare (Sdp.of m) 9))⟩]))
  ∧ (∀ bus req, s.runs (.nonceExpiry bus req) [.dict] fun t =>
      t.dict = { s.dict with nonces := s.dict.nonces.filter fun n => !(n.bus = bus && (n.req = requesterKey req || !bus)) })
  ∧ (∀ n, s.runs (.sessionIdle n) [.dict] fun t => t.dict = { s.dict with
      sessions := s.dict.sessions.filter (fun x => x.num ≠ n), staging := s.dict.staging.filter fun g => g.session ≠ n })
  ∧ (∀ k, s.runs (.stagingIdle k) [.dict] fun t => t.dict = { s.dict with staging := s.dict.staging.filter fun g => g.key ≠ k })
  ∧ (s.runs .authLockoutEnd [.sec] fun t => t.sec = { s.sec with locked := false, failTimes := [] })
  ∧ (let at' := s.odNat (od 0x2960 1)
    let w := s.odNat (od 0x2960 3)
    (∀ level : Fin 4, (at' < 0x7F000000000 ∨ regAccess (at' - 0x7F000000000) w = none) → s.stays (.registerDataGet level))
    ∧ (∀ level : Fin 4, ∀ v s1, 0x7F000000000 ≤ at' → s.regRead (at' - 0x7F000000000) w (level.val = 3) = some (v, s1) →
        s.runs (.registerDataGet level) [.regs, .board, .dict] fun t =>
          t.regs = s1.regs ∧ t.odWritten (od 0x2960 2) = natLE 8 v ∧ ∀ k, k ≠ od 0x2960 2 → t.odBytes k = s1.odBytes k)
    ∧ (∀ (level : Fin 4) (v : BitVec 64), (level.val < 2 ∨ at' < 0x7F000000000 ∨ regAccess (at' - 0x7F000000000) w = none) →
        s.stays (.registerDataSet level v))
    ∧ (∀ (level : Fin 4) (v : BitVec 64) s1, 2 ≤ level.val → 0x7F000000000 ≤ at' →
        s.regWrite (at' - 0x7F000000000) w v.toNat (level.val = 3) = some s1 →
        s.runs (.registerDataSet level v) [.regs, .frets, .slanes, .board, .num, .emb, .upd, .dram, .fab, .vlk, .adm, .dict, .slow, .rst, .life] fun t =>
          t.regs = s1.regs ∧ t.slow = s1.slow ∧ t.odWritten (od 0x2960 2) = natLE 8 v.toNat))

/-- R110, R401, R403 to R407: starting and stopping a function. -/
def Obligations.Functions : Prop := ∀ (s : State),
  (∀ fn : Fin 5, (s.fnState fn.val = 1 ∨ s.fnState fn.val = 3) → s.stays (.functionStart fn))
  ∧ (s.sound → ∀ fn : Fin 5, (s.fnState fn.val = 0 ∨ s.fnState fn.val = 2) →
    let found := ({ s with dict := { s.dict with fn := s.dict.fn.set fn.val 2, before := [] } } : State).startRefusal fn.val
    let used := { s with dict := { s.dict with before := s.dict.before.filter fun e => ownerOf e.1 ≠ fn.val } }
    (∀ w, found = some w → s.runs (.functionStart fn) [.dict] fun t =>
      t.dict = { s.dict with
        fn := s.dict.fn.set fn.val 0, refusal := s.dict.refusal.set fn.val w, hash := s.configHash, hashTime := s.time })
    ∧ (found = none →
      s.runs (.functionStart fn) [.regs, .frets, .board, .num, .upd, .dram, .fab, .vlk, .adm, .dict, .life] fun t =>
        t.dict.fn = s.dict.fn.set fn.val 1 ∧ t.dict.refusal = s.dict.refusal.set fn.val 0 ∧ t.dict.hash = s.configHash
        ∧ t.dict.hashTime = s.time ∧ t.dict.od = s.dict.od ∧ t.dict.before = used.dict.before
        ∧ (fn.val = 0 → t.syncObj 0 = s.committedWord % pow2 64 ∧ t.syncObj 1 = 0 ∧ t.syncObj 2 = 0 ∧ t.syncObj 3 = 0
            ∧ t.upd.rollbacks = 0 ∧ t.upd.recs = s.upd.recs
            ∧ (s.dram.poison = [] → t.upd.fault = none ∧ t.vlk = s.vlk ∧ t.adm = s.adm
              ∧ (s.curStep = 0 → t.num.passes = used.recheckSlots.foundPasses
                ∧ t.reg 6 Reg.numCube = (s.setCube (Fmt.signed 8 (leNat (used.odBytes (od 0x2100 1))))).reg 6 Reg.numCube)))
        ∧ ((fn.val = 1 ∨ fn.val = 4) → s.onlyChanges t [.dict])
        ∧ (fn.val = 2 → s.onlyChanges t [.regs, .fab, .vlk, .dict] ∧ t.fab.zoneFault = false
            ∧ (used.odNat (od 0x2580 1) ≠ 0 → (t.reg 6 Reg.zfStatus).testBit 5))
        ∧ (fn.val = 3 → s.onlyChanges t [.adm, .dict] ∧ t.adm = { s.adm with counts := List.replicate 26 0 })))
  ∧ (∀ fn : Nat, s.levelServes fn = false → s.startRefusal fn = some 0x12100107)
  ∧ (∀ fn : Nat, s.life.level < 2 → s.levelServes fn = false)
  ∧ (s.levelServes 0 = true → s.fnState 1 ≠ 1 → s.startRefusal 0 = some 0x20000204)
  ∧ (s.levelServes 0 = true → s.modules ≤ 1 → s.fnState 1 = 1 → s.fnState 3 ≠ 1 → s.startRefusal 0 = some 0x20000404)
  ∧ (s.levelServes 0 = true → 1 < s.modules → s.fnState 1 = 1 → s.fnState 2 ≠ 1 → s.startRefusal 0 = some 0x20000304)
  ∧ (s.levelServes 4 = true → s.fnState 0 ≠ 1 → s.startRefusal 4 = some 0x20000104)
  ∧ (s.levelServes 2 = true → s.node = 0xFFFF → s.startRefusal 2 = some 0x25000106)
  ∧ (s.levelServes 2 = true → s.node ≠ 0xFFFF → 1 < s.modules → (s.reg 6 Reg.zfTimeStatus).testBit 63 = false →
      s.startRefusal 2 = some 0x25001006)
  ∧ (∀ r, s.levelServes 0 = true → s.fnState 1 = 1 → s.fnState 2 = 1 → s.fnState 3 = 1 → s.upd.restore = some r →
      s.startRefusal 0 = some 5)
  ∧ (∀ fn : Fin 5, (s.fnState fn.val = 0 ∨ s.fnState fn.val = 2 ∨ s.fnState fn.val = 3 ∨ (∃ k, k < 5 ∧ fn.val ∈ s.needed k ∧ s.fnState k ≠ 0)) →
      s.stays (.functionStop fn))
  ∧ (∀ fn : Fin 5, 1 ≤ fn.val → s.fnState fn.val = 1 → (∀ k, k < 5 → fn.val ∈ s.needed k → s.fnState k = 0) →
      s.runs (.functionStop fn) [.regs, .upd, .fab, .vlk, .adm, .dict] fun t => t.dict.fn = s.dict.fn.set fn.val 0
        ∧ (fn.val = 2 → t.fab.reqs = [] ∧ t.fab.copies = [] ∧ t.fab.inbox = [] ∧ (∀ w ∈ t.fab.waits, w.remote = false) ∧ t.fab.ports = s.fab.ports)
        ∧ (fn.val = 4 → t.upd = { s.upd with snap := none })
        ∧ (fn.val ≠ 4 → t.upd = s.upd))
  ∧ (s.sound → s.fnState 0 = 1 → s.fnState 4 = 0 →
      s.runs (.functionStop 0) [.mem, .regs, .frets, .slanes, .board, .num, .emb, .upd, .dram, .fab, .vlk, .adm, .dict, .life] fun t =>
        (s.stepWhole = true → t.fnState 0 = 3 ∧ t.mem = s.mem ∧ t.frets = s.frets ∧ t.upd = s.upd
          ∧ ∀ f ∈ t.adm.frames, f.isEvents = true → f.waiting ≠ 1 → f.step ≤ s.curStep)
        ∧ (s.stepFrames s.curStep = [] → t.fnState 0 = 0 ∧ t.mem = s.mem
          ∧ (∀ i, t.fret i = if (s.fret i).uncosted then
              { s.fret i with run := 0, stall := .none, recv := none, phase := none } else s.fret i)
          ∧ ∀ f ∈ t.adm.frames, f.isEvents = true → f.waiting ≠ 1 → f.step < s.curStep)
        ∧ (s.stepWhole = false → s.stepFrames s.curStep ≠ [] → t.fnState 0 = 0 ∧ t.upd.rerun = 0
            ∧ t.upd.rolls = s.upd.rolls + 1 ∧ t.committed = s.committed ∧ ∀ i, i < 768 → (t.fret i).run ≠ 2))
  ∧ (let done := s.fnState 0 = 3 ∧ s.stoppingDone = true ∧ s.upd.lost = none ∧ s.upd.voted = false
    (¬ done → s.stays .stoppingComplete)
    ∧ (done → s.runs .stoppingComplete [.regs, .frets, .board, .num, .upd, .vlk, .adm, .dict] fun t => t.dict.fn = s.dict.fn.set 0 0
        ∧ t.upd.rerun = 0 ∧ t.upd.snap = none ∧ ∀ f ∈ t.adm.frames, f.isEvents = true → f.waiting ≠ 1 → f.step < s.curStep))

/-- R356, R470, R472, R475 to R481: firmware, OTP, keys, attestation, the calendar and the master's time. -/
def Obligations.SecurityEntries : Prop := ∀ (s : State),
  (∀ image, s.imageAccepted image = false → s.stays (.imageUpload image))
  ∧ (∀ image, (image.length < 9 ∨ leAt image 0 2 ≠ 0x4657 ∨ leAt image 4 1 < s.sec.counter) → s.imageAccepted image = false)
  ∧ (∀ image : Bytes, image.length ≠ 202 + leAt image 5 4 → image.length ≠ 395 + leAt image 5 4 → s.imageAccepted image = false)
  ∧ (∀ image : Bytes, s.ownerSlot ≠ 0 → image.length = 202 + leAt image 5 4 → s.imageAccepted image = false)
  ∧ (∀ image, s.imageAccepted image = true →
      s.ownerSlot = 0 ∨ Sha384.hash (byteSlice image 202 97) = s.sec.owners.getD (s.ownerSlot - 1) [])
  ∧ (∀ image, s.imageAccepted image = true → s.runs (.imageUpload image) [.regs, .rst, .life, .sec] fun t =>
      t.sec = { s.sec with images := s.sec.images.set s.otherImage ⟨true, leAt image 4 1, Sha384.hash image⟩ }
      ∧ t.rst = { s.rst with pulse := some s.time, erases := t.rst.erases } ∧ s.rst.erases <+: t.rst.erases
      ∧ t.life.seq = s.life.seq + 1)
  ∧ (s.sec.running = 0 → s.otherImage = 1) ∧ (s.sec.running = 1 → s.otherImage = 0)
  ∧ (∀ v : BitVec 8, (v.toNat < s.sec.counter ∨ s.sec.otp ≠ none ∨ s.sec.runningSvn ≤ s.sec.counter) → s.stays (.antiRollbackAdvance v))
  ∧ (∀ v : BitVec 8, s.sec.counter ≤ v.toNat → s.sec.otp = none → s.sec.counter < s.sec.runningSvn →
      s.runs (.antiRollbackAdvance v) [.regs, .sec] fun t => t.sec = { s.sec with otp := some .fuse }
        ∧ (t.reg 6 Reg.secOtpCtrl).testBit 0 ∧ s.onlyRegs t [regKey 6 Reg.secOtpCtrl])
  ∧ (∀ key, (key.length ≠ 97 ∨ s.sec.otp ≠ none ∨ ∀ x ∈ s.sec.owners, x ≠ []) → s.stays (.ownerKeyEnrolment key))
  ∧ (∀ key, key.length = 97 → s.sec.otp = none → [] ∈ s.sec.owners → s.runs (.ownerKeyEnrolment key) [.regs, .sec] fun t =>
      t.sec = { s.sec with otp := some (.owner (Sha384.hash key)) }
      ∧ (t.reg 6 Reg.secOtpCtrl).testBit 0 ∧ s.onlyRegs t [regKey 6 Reg.secOtpCtrl])
  ∧ ((s.sec.otp = none ∨ s.reg 6 Reg.secOtpCtrl % 2 = 0) → s.stays .otpProgramDone)
  ∧ (∀ w, s.sec.otp = some w → s.reg 6 Reg.secOtpCtrl % 2 = 1 → s.runs .otpProgramDone [.regs, .life, .sec] fun t =>
      (w = .fuse → t.sec = { s.sec with otp := none, counter := max s.sec.counter s.sec.runningSvn })
      ∧ (∀ h i, w = .owner h → s.sec.owners.findIdx? (fun x => x = []) = some i →
          t.sec = { s.sec with otp := none, owners := s.sec.owners.set i h })
      ∧ (t.reg 6 Reg.secOtpCtrl).testBit 0 = false ∧ (t.reg 6 Reg.secStatus).testBit 3 ∧ t.life.seq = s.life.seq + 1
      ∧ s.onlyRegs t [regKey 6 Reg.secOtpCtrl, regKey 6 Reg.secStatus, regKey 6 Reg.lifeStatus])
  ∧ (∀ (level : Fin 4) b, (level.val < 2 ∨ raisesKeys level.val (keyEntries (s.odBytes (od 0x1040 1))) (keyEntries b) = true
      ∨ keysOk b = false) → s.stays (.enrolledKeys level b))
  ∧ (∀ (level : Fin 4) b, 2 ≤ level.val → raisesKeys level.val (keyEntries (s.odBytes (od 0x1040 1))) (keyEntries b) = false →
      keysOk b = true → s.runs (.enrolledKeys level b) [.dict, .rst, .life] fun t => t.odWritten (od 0x1040 1) = b
        ∧ SMap.get none t.dict.nv (od 0x1040 1) = some b ∧ t.rst = { s.rst with pulse := some s.time, erases := t.rst.erases }
        ∧ ∀ k, k ≠ od 0x1040 1 → t.odBytes k = s.odBytes k)
  ∧ (∀ n, n.length ≠ 48 → s.stays (.attestationNonce n))
  ∧ (∀ n, n.length = 48 → s.runs (.attestationNonce n) [.sec] fun t => t.sec = { s.sec with nonce := some n, report := none })
  ∧ ((s.sec.nonce = none ∨ s.sec.report ≠ none ∨ s.life.mgmtFailed.contains 1 = true) → s.stays .attestationReportReady)
  ∧ (∀ n, s.sec.nonce = some n → s.sec.report = none → s.life.mgmtFailed.contains 1 = false →
      s.runs .attestationReportReady [.regs, .sec] fun t =>
        t.sec = { s.sec with report := some (s.reportBody n ++ Config.sign (Sha384.hash (s.reportBody n))) }
        ∧ t.reg 6 Reg.secAttestCount = cap32 (s.reg 6 Reg.secAttestCount + 1) ∧ s.onlyRegs t [regKey 6 Reg.secAttestCount])
  ∧ (∀ ns : BitVec 64, s.sound → s.runs (.calendarSet ns) [.regs, .slow, .life] fun t =>
      (t.slowWin 1).queue = (s.slowWin 1).queue ++ [⟨Reg.lifeCalendar, 0xFFFFFFFFFFFFFFFF#64,
          BitVec.ofNat 64 ((ns.toNat * 65536 + 1000000000) / 2000000000), 0⟩]
      ∧ t.slowWin 0 = s.slowWin 0 ∧ t.slowWin 2 = s.slowWin 2 ∧ t.life.seq = s.life.seq + 1)
  ∧ (∀ ns : BitVec 64, (s.node ≠ s.odNat (od 0x2500 0x10) ∨ s.fnState 2 ≠ 0) → s.stays (.masterTimeSet ns))
  ∧ (∀ ns : BitVec 64, s.node = s.odNat (od 0x2500 0x10) → s.fnState 2 = 0 → s.runs (.masterTimeSet ns) [.time] fun t =>
      t.time = ns.toNat)

/-- R14, R419 to R430: a write in the register space, and slow-window writes. -/
def Obligations.RegisterWrites : Prop := ∀ (s : State) (priv : Bool) (v : BitVec 64) (addr width : Nat),
  let c := Instr.registerWrite addr width v priv
  ((addr < 0x7F000000000 ∨ regAccess (addr - 0x7F000000000) width = none) → s.stays c)
  ∧ ((0x7F001000000 ≤ addr ∨ (width ≠ 4 ∧ width ≠ 8) ∨ addr % width ≠ 0) → s.stays c)
  ∧ ∀ die block o, 0x7F000000000 ≤ addr → regAccess (addr - 0x7F000000000) width = some (die, block, o) →
    let n := block * 0x10000 + o
    let upper := width = 4 ∧ addr % 8 = 4
    let mask := if width = 8 then 0xFFFFFFFFFFFFFFFF else if addr % 8 = 4 then 0xFFFFFFFF00000000 else 0xFFFFFFFF
    let data := if upper then v.toNat % 0x100000000 <<< 32 else v.toNat &&& mask
    let rw := (softBits block o).1
    let w1c := (softBits block o).2
    (guarded n = true → (priv = false ∧ s.guardMode die block ≠ 1) ∨ (s.guardMode die block ≠ 0 ∧ s.guardLock die block = true) →
      s.runs c [.regs] fun t => s.onlyRegs t [regKey die (guardReg block)]
        ∧ t.reg die (guardReg block) = s.reg die (guardReg block) ||| 2)
    ∧ (o = 0 → s.stays c)
    ∧ (s.held die block = true → (guarded n = true → s.guardWrite die block priv = true) → s.stays c)
    ∧ (s.held die block = false →
    (slowOf die n = none → o = 8 → s.runs c [.regs] fun t => s.onlyRegs t [regKey die n]
        ∧ ((t.reg die n).testBit 0 = ((s.reg die n).testBit 0 || (data.testBit 0 && decide (s.guardMode die block ≠ 0))))
        ∧ ((t.reg die n).testBit 1 = ((s.reg die n).testBit 1 && !data.testBit 1))
        ∧ t.reg die n / 4 = s.reg die n / 4)
    ∧ (slowOf die n = none → o ≠ 0 → o ≠ 8 → (guarded n = true → s.guardWrite die block priv = true) →
        n ≠ Reg.fretLoadCtrl → n ≠ Reg.convDiceCtr → n ≠ Reg.ctrlRestart → n ≠ Reg.rstBlockReset → n ≠ Reg.lifeCtrl →
        s.runs c [.regs] fun t => s.onlyRegs t [regKey die n] ∧ ∀ i, i < 64 → (t.reg die n).testBit i =
          if w1c.testBit i && data.testBit i then false else if rw.testBit i && mask.testBit i then data.testBit i
          else (s.reg die n).testBit i)
    ∧ (∀ d : Fin 2, d.val = die → n = Reg.convDiceCtr → width = 8 → exec c s = exec (.diceTestStart d v) s)
    ∧ (∀ d : Fin 2, d.val = die → n = Reg.ctrlRestart → width = 4 → addr % 8 = 0 →
        exec c s = exec (.restart d (v.setWidth 32) priv) s)
    ∧ (∀ d : Fin 8, d.val = die → n = Reg.rstBlockReset → width = 4 → addr % 8 = 0 →
        exec c s = exec (.blockReset d (v.setWidth 32) priv) s)
    ∧ (∀ w, slowOf die n = some w → (guarded n = true → s.guardWrite die block priv = true) →
        (o = 8 ∨ n = Reg.lifeCtrl ∨ rw ≠ 0 ∨ w1c ≠ 0) → w < s.slow.length → s.runs c [.slow] fun t =>
          (t.slowWin w).queue = (s.slowWin w).queue ++ [⟨n, BitVec.ofNat 64 mask, BitVec.ofNat 64 data, 0⟩]
          ∧ (t.slowWin w).copies = (s.slowWin w).copies ∧ ∀ k, k ≠ w → t.slowWin k = s.slowWin k)
    ∧ (∀ w, slowOf die n = some w → (guarded n = true → s.guardWrite die block priv = true) → o ≠ 8 → n ≠ Reg.lifeCtrl →
        rw = 0 → w1c = 0 → s.stays c))

/-- R76, R427, R428, R432, R445, R469, R472, R481: the dice test port, restarts, block resets, the flush and the slow edges. -/
def Obligations.RegisterActions : Prop := ∀ (s : State),
  (∀ (d : Fin 2) (ctr : BitVec 64), s.runs (.diceTestStart d ctr) [.regs, .board] fun t =>
      t.reg d.val Reg.convDiceCtr = ctr.toNat ∧ s.onlyRegs t [regKey d.val Reg.convDiceCtr]
      ∧ (t.cdie d.val).dice = some (ctr, if s.reg d.val Reg.convDiceCtrl % 2 = 1 then Dice.k0
          else BitVec.ofNat 64 (s.reg d.val Reg.convDiceKey)))
  ∧ (∀ d : Fin 2, (s.cdie d.val).dice = none → s.stays (.diceTestDone d))
  ∧ (∀ (d : Fin 2) c k, (s.cdie d.val).dice = some (c, k) → s.runs (.diceTestDone d) [.regs, .board] fun t =>
      t.reg d.val Reg.convDiceOut = (Dice.mix4 c k).toNat ∧ s.onlyRegs t [regKey d.val Reg.convDiceOut]
      ∧ (t.cdie d.val).dice = none)
  ∧ (∀ (d : Fin 2) (v : BitVec 32) priv, s.guardWrite d.val 16 priv = false → s.runs (.restart d v priv) [.regs] fun t =>
      s.onlyRegs t [regKey d.val (guardReg 16)] ∧ t.reg d.val (guardReg 16) = s.reg d.val (guardReg 16) ||| 2)
  ∧ (∀ (d : Fin 2) (v : BitVec 32) priv, s.guardWrite d.val 16 priv = true → s.held d.val 0 = true → s.stays (.restart d v priv))
  ∧ (∀ (d : Fin 2) (v : BitVec 32) priv, s.guardWrite d.val 16 priv = true → s.held d.val 0 = false →
      let first := bits v.toNat 8 0
      let count := bits v.toNat 17 9
      let at' := fun k => d.val * 384 + first + k
      (383 < first + count → s.runs (.restart d v priv) [.regs] fun t => s.onlyRegs t [regKey d.val Reg.ctrlStatus]
        ∧ t.reg d.val Reg.ctrlStatus = s.reg d.val Reg.ctrlStatus ||| 2)
      ∧ (first + count ≤ 383 → bits v.toNat 19 19 = 0 → s.runs (.restart d v priv) [.regs] fun t =>
          s.onlyRegs t [regKey d.val Reg.ctrlRestart] ∧ t.reg d.val Reg.ctrlRestart = v.toNat % 0x80000)
      ∧ (first + count ≤ 383 → bits v.toNat 19 19 = 1 → bits v.toNat 18 18 = 0 →
          let goes := fun k => decide ((s.fret (at' k)).run = 0) && decide ((s.fret (at' k)).active < 2)
          let skips := ((List.range (count + 1)).filter fun k => !goes k).length
          s.runs (.restart d v priv) [.regs, .frets, .board] fun t =>
            (∀ k, k ≤ count → t.fret (at' k) = if goes k then { s.fret (at' k) with run := 1 } else s.fret (at' k))
            ∧ (∀ j, (j < at' 0 ∨ at' count < j) → t.fret j = s.fret j)
            ∧ t.reg d.val Reg.ctrlRestartSkipCount =
                (if skips = 0 then s.reg d.val Reg.ctrlRestartSkipCount else cap32 (s.reg d.val Reg.ctrlRestartSkipCount + skips))
            ∧ (0 < skips → (t.reg d.val Reg.ctrlStatus).testBit 0))
      ∧ (first ≤ 383 → count = 0 → bits v.toNat 19 19 = 1 → bits v.toNat 18 18 = 1 →
          let f := s.fret (at' 0)
          (f.run ≠ 0 → s.runs (.restart d v priv) [.regs] fun t => (t.reg d.val Reg.ctrlStatus).testBit 0
            ∧ t.reg d.val Reg.ctrlRestartSkipCount = cap32 (s.reg d.val Reg.ctrlRestartSkipCount + 1))
          ∧ (f.run = 0 → f.st f.shadow = 0 → s.runs (.restart d v priv) [.regs] fun t => (t.reg d.val Reg.fretStatus).testBit 1)
          ∧ (f.run = 0 → f.st f.shadow = 1 → s.runs (.restart d v priv) [.regs, .frets] fun t => s.onlyFret t (at' 0)
              ∧ t.fret (at' 0) = { f with stall := .switch, run := 1 })
          ∧ (f.run = 0 → f.st f.shadow = 2 → s.runs (.restart d v priv) [.regs, .frets, .slanes, .board, .num, .dram, .fab, .vlk, .adm, .dict, .life] fun t =>
              s.onlyFret t (at' 0) ∧ (s.shadowCurrent (at' 0) = true → (t.fret (at' 0)).active = f.shadow ∧ (t.fret (at' 0)).run = 1
                ∧ (f.follow = [] → f.sameData (t.fret (at' 0)))))))
  ∧ (∀ (d : Fin 8) (v : BitVec 32) priv, s.guardWrite d.val 18 priv = false → s.runs (.blockReset d v priv) [.regs] fun t =>
      s.onlyRegs t [regKey d.val (guardReg 18)] ∧ t.reg d.val (guardReg 18) = s.reg d.val (guardReg 18) ||| 2)
  ∧ (∀ (d : Fin 8) (v : BitVec 32) priv, s.guardWrite d.val 18 priv = true → s.held d.val 18 = true → s.stays (.blockReset d v priv))
  ∧ (∀ (d : Fin 8) (v : BitVec 32) priv, s.guardWrite d.val 18 priv = true → s.held d.val 18 = false →
      let b := v.toNat % 256
      (bits v.toNat 8 8 = 0 → s.runs (.blockReset d v priv) [.regs] fun t => s.onlyRegs t [regKey d.val Reg.rstBlockReset]
        ∧ t.reg d.val Reg.rstBlockReset = b)
      ∧ (bits v.toNat 8 8 = 1 → (16 ≤ b ∨ s.blockIdle d.val b = false) → s.runs (.blockReset d v priv) [.regs] fun t =>
          s.onlyRegs t [regKey d.val Reg.rstBlockReset, regKey d.val Reg.rstBlockRefuseCount, regKey d.val Reg.rstStatus]
          ∧ t.reg d.val Reg.rstBlockRefuseCount = cap32 (s.reg d.val Reg.rstBlockRefuseCount + 1)
          ∧ (t.reg d.val Reg.rstStatus).testBit 0)
      ∧ (bits v.toNat 8 8 = 1 → b < 16 → s.blockIdle d.val b = true →
          s.runs (.blockReset d v priv) [.regs, .frets, .slanes, .board, .num, .emb, .upd, .dram, .fab, .vlk, .rst] fun t =>
            t.rst = { s.rst with blockReset := s.rst.blockReset ++ [d.val * 32 + b] }
            ∧ (let status := fun n => n = tierStatus 0 ∨ n = tierStatus 1
              (∀ r ∈ dieRows d.val b, (b ≠ 11 ∨ r.off ≠ 0x10) → ¬ status (b * 0x10000 + r.off) →
                t.reg d.val (b * 0x10000 + r.off) = r.reset)
              ∧ (∀ n, n / 0x10000 ≠ b → n ≠ Reg.rstBlockReset → (b = 10 ∨ b = 11 → ¬ status n) → t.reg d.val n = s.reg d.val n))
            ∧ (∀ i, i / 384 ≠ d.val → t.fret i = s.fret i)
            ∧ (b = 7 → ∀ k, stackDie k + 2 = d.val → (t.lane k).high = 0 ∨ t.lane k = s.lane k)
            ∧ (b = 12 → t.fab.ports = Fab.reset.ports) ∧ (b = 13 → t.fab.waits = []) ∧ (b = 14 → t.vlk = Vilny.reset)))
  ∧ (∀ d : Fin 8, (∀ k ∈ s.rst.blockReset, k / 32 ≠ d.val) → s.stays (.blockResetDone d))
  ∧ (∀ (d : Fin 8) k, k ∈ s.rst.blockReset → k / 32 = d.val → s.runs (.blockResetDone d) [.mem, .regs, .frets, .board, .upd, .dram, .fab, .vlk, .adm, .dict, .rst, .life] fun t =>
      t.rst = { s.rst with blockReset := s.rst.blockReset.filter fun k => k / 32 ≠ d.val }
      ∧ (t.reg d.val Reg.rstStatus).testBit 1
      ∧ (s.dram.queue = [] → t.reg d.val Reg.rstStatus = s.reg d.val Reg.rstStatus ||| 2 ∧ s.onlyRegs t [regKey d.val Reg.rstStatus]
          ∧ s.onlyChanges t [.regs, .rst]))
  ∧ (s.guardWrite 6 22 false = false → s.runs (.flush false) [.regs] fun t => s.onlyRegs t [regKey 6 (guardReg 22)]
      ∧ t.reg 6 (guardReg 22) = s.reg 6 (guardReg 22) ||| 2)
  ∧ (∀ priv, s.guardWrite 6 22 priv = true → exec (.flush priv) s = exec .counterFlush s)
  ∧ (SMap.wf 0 s.life.bk = true → s.runs .counterFlush [.regs, .life] fun t => s.onlyRegs t [regKey 6 Reg.lifeStatus] ∧ t.life.log = s.life.log ∧ t.life.spare = s.life.spare
      ∧ ∀ k, let n := SMap.get 0 s.life.bk k
        SMap.get 0 t.life.bk k = (if isTimeKey k then n % 32768 else 0)
        ∧ (n ≠ 0 → SMap.get 0 t.life.fram k = min (wearMax k) (s.framCount k + if isTimeKey k then n / 32768 else n)))
  ∧ (∀ mgmt, s.slow.length = 3 → s.runs (.slowClockEdge mgmt) [.slow, .rst, .life] fun t =>
      let edge := fun w => (t.slowWin w).epoch = ((s.slowWin w).epoch + 1) % 16
        ∧ (t.slowWin w).queue = (s.slowWin w).queue.zipIdx.map fun q => if q.2 < 8 then { q.1 with edges := q.1.edges + 1 } else q.1
      (mgmt = true → edge 0 ∧ t.slowWin 1 = s.slowWin 1 ∧ t.slowWin 2 = s.slowWin 2 ∧ t.rst = s.rst ∧ t.life = s.life)
      ∧ (mgmt = false → edge 1 ∧ edge 2 ∧ t.slowWin 0 = s.slowWin 0 ∧ t.rst = { s.rst with calendar := s.rst.calendar + 1 }
          ∧ ((s.rst.vin = false ∨ s.rst.off = true) → t.life = s.life)
          ∧ (s.rst.vin = true → s.rst.off = false → SMap.get 0 t.life.bk 0 = SMap.get 0 s.life.bk 0 + 1)))
  ∧ (∀ w : Fin 3, ((s.slowWin w.val).queue = [] ∨ (∃ q rest, (s.slowWin w.val).queue = q :: rest ∧ q.edges < 2)) →
      s.stays (.slowWriteApply w))
  ∧ (∀ (w : Fin 3) q rest, s.slow.length = 3 → (s.slowWin w.val).queue = q :: rest → 2 ≤ q.edges → q.reg = Reg.lifeCalendar →
      s.runs (.slowWriteApply w) [.slow, .rst] fun t => t.rst = { s.rst with calendar := q.data.toNat, calValid := true }
        ∧ (t.slowWin w.val).queue = rest)
  ∧ (∀ (w : Fin 3) q rest, s.slow.length = 3 → (s.slowWin w.val).queue = q :: rest → 2 ≤ q.edges → q.reg / 0x10000 = 17 →
      q.reg % 0x10000 ≠ 0 → q.reg % 0x10000 ≠ 8 → s.runs (.slowWriteApply w) [.regs, .slow] fun t =>
        (t.slowWin w.val).queue = rest ∧ s.onlyRegs t [regKey 6 q.reg])

/-- R434 to R440, R444, R455, R458: the two reset sources, glitches, loss of supply and fault shutdowns. -/
def Obligations.ResetSources : Prop := ∀ (s : State),
  let all : List Part := [.mem, .regs, .frets, .slanes, .board, .num, .emb, .upd, .dram, .fab, .vlk, .adm, .dict, .slow, .rst, .life, .sec]
  let quiet := s.rst.vin = false ∨ s.rst.off = true ∨ s.rst.asserted = true ∨ s.rst.pinWait = true
  let waits := fun (c : Instr) (low : Bool) => s.runs c [.frets, .rst] fun t =>
    t.rst = { s.rst with resetN := !low, pinWait := true, erases := t.rst.erases } ∧ (∀ e ∈ t.rst.erases, e.since = none)
    ∧ ∀ i, i < 768 → (t.fret i).run ≠ 1
  let untold := s.rst.phase = 0 ∧ s.rst.power = true
  let told : State := { s.powerRecord with rst := { s.powerRecord.rst with power := false } }
  let resets := fun (c : Instr) (delay : Nat) (low : Bool) => (untold → exec c s = exec c told) ∧ (¬ untold → s.runs c all fun t => s.wasReset t
    ∧ s.recordedReset t 2 delay s.abandons ∧ t.rst.asserted = low ∧ t.rst.resetN = !low ∧ t.rst.pinWait = false ∧ t.rst.delay = delay
    ∧ (t.rst.delayed = decide (0 < delay)) ∧ t.rst.pwrOk = false ∧ t.adm.highId = 0 ∧ t.upd.snap = none ∧ t.dram.queue = []
    ∧ (∀ n, s.upd.snap = some n → t.adm.abandoned = some (n.frame, n.step.getD s.curStep))
    ∧ t.reg 6 Reg.rstPinCount = cap32 (s.reg 6 Reg.rstPinCount + 1) ∧ t.reg 6 Reg.rstPorCount = s.reg 6 Reg.rstPorCount
    ∧ t.upd.journal = s.upd.journal ∧ t.rst.memValid = s.rst.memValid
    ∧ (s.dram.queue = [] → ∀ a, t.byte a = if 0x40100000000 ≤ a ∧ a < 0x40120000000 then 0 else s.byte a))
  let glitches := fun (c : Instr) (low : Nat) => s.runs c [.regs, .dict] fun t =>
    t.reg 6 Reg.rstGlitchCount = cap32 (s.reg 6 Reg.rstGlitchCount + 1) ∧ (t.reg 6 Reg.rstStatus).testBit 2
    ∧ s.onlyRegs t [regKey 6 Reg.rstGlitchCount, regKey 6 Reg.rstStatus, regKey 6 Reg.mgmtStatus]
    ∧ (s.rst.phase = 7 → s.logged t 0x0702 (u32 (low / 40 * 40))) ∧ (s.rst.phase ≠ 7 → t.dict = s.dict)
  let falls := fun (c : Instr) (Q : State → Prop) => s.runs c (.time :: all) fun t => s.wasReset t ∧ t.time = 0 ∧ t.mem = []
    ∧ t.rst.pwrOk = false ∧ t.rst.power = true ∧ t.rst.memValid = [false, false, false, false] ∧ Q t
  (quiet → s.runs .pinReset [.rst] fun t => t.rst = { s.rst with resetN := false })
  ∧ (¬ quiet → s.pulsing = true → waits .pinReset true)
  ∧ (¬ quiet → s.pulsing = false → resets .pinReset 0 true)
  ∧ (∀ w, s.rst.pinWait = false → s.stays (.internalReset w))
  ∧ (∀ w, s.rst.pinWait = true → resets (.internalReset w) w (!s.rst.resetN))
  ∧ (∀ low a, s.rst.resetN = false → s.runs (.resetNRelease low a) [.rst] fun t =>
      t.rst = { s.rst with resetN := true, asserted := s.rst.asserted && (!s.rst.vin || s.rst.off) })
  ∧ (∀ low a, s.rst.resetN = true → (s.rst.vin = false ∨ s.rst.off = true) → s.stays (.resetNRelease low a))
  ∧ (∀ low a, s.rst.resetN = true → s.rst.vin = true → s.rst.off = false → (low + 40 ≤ 2000 ∨ (low < 2040 ∧ a = false)) →
      glitches (.resetNRelease low a) low)
  ∧ (∀ low a, s.rst.resetN = true → ¬ quiet → 2000 < low + 40 → (2040 ≤ low ∨ a = true) →
      (s.pulsing = true → waits (.resetNRelease low a) false) ∧ (s.pulsing = false → resets (.resetNRelease low a) 0 false))
  ∧ (∀ low a, s.rst.resetN = true → s.rst.vin = true → s.rst.off = false → quiet → 2000 < low + 40 → (2040 ≤ low ∨ a = true) →
      s.runs (.resetNRelease low a) [.rst] fun t => t.rst = { s.rst with asserted := false })
  ∧ (s.rst.vin = false → s.stays .vinLoss)
  ∧ (s.rst.vin = true → s.rst.off = true → s.runs .vinLoss [.rst] fun t =>
      t.rst = { s.rst with vin := false, off := false, lost := s.rst.lost || !s.rst.vbak, vinMv := 0 })
  ∧ (s.rst.vin = true → s.rst.off = false → falls .vinLoss fun t => t.rst.vin = false ∧ t.rst.lost = (s.rst.lost || !s.rst.vbak)
      ∧ t.rst.records = s.rst.records ∧ t.reg 6 Reg.rstPinCount = s.reg 6 Reg.rstPinCount ∧ t.rst.pulse = none
      ∧ (∀ e ∈ t.rst.erases, e.since = none))
  ∧ (s.runs .vbakLoss [.rst] fun t => t.rst = { s.rst with vbak := false, lost := s.rst.lost || !s.rst.vin })
  ∧ (s.rst.vin = true → s.stays .powerOnReset)
  ∧ (s.rst.vin = false → falls .powerOnReset fun t => t.rst.vin = true ∧ t.rst.vbak = true ∧ t.rst.off = false
      ∧ t.rst.asserted = !s.rst.resetN ∧ t.rst.vinMv = 42000 ∧ t.rst.lost = s.rst.lost ∧ t.rst.records = s.rst.records)
  ∧ (∀ th, (s.rst.vin = false ∨ s.rst.off = true) → s.stays (.faultShutdown th))
  ∧ (∀ th, s.rst.vin = true → s.rst.off = false → (untold → exec (.faultShutdown th) s = exec (.faultShutdown th) told)
      ∧ (¬ untold → falls (.faultShutdown th) fun t => t.rst.off = true ∧ s.recordedReset t (if th then 4 else 3) 0 s.abandons))

/-- R437, R439 to R444, R448, R465, R474, R476, R477, R487: the phases of bring-up in their order. That settings which bring-up needs are
read before phase 6 is the model's choice (log 29). -/
def Obligations.BringUp : Prop := ∀ (s : State) (found : PhaseFindings) (b u : Nat) (d : Fin 8),
  let c := Instr.bringupPhaseDone found
  let ps : List Part := [.time, .mem, .regs, .frets, .board, .emb, .upd, .dram, .fab, .vlk, .adm, .dict, .slow, .rst, .life, .sec]
  let image := s.nvNat (od 0x1030 1)
  let boots := fun i => ∃ m, s.sec.images[i]? = some m ∧ m.present = true
    ∧ s.bootOk (if i = 0 then found.images.1 else found.images.2) = true ∧ s.sec.counter ≤ m.svn
  let same := found.identity.key = found.identity.certKey ∧ found.identity.parts = found.identity.certParts
  let bad := fun (e k : Nat) => ∃ x ∈ found.badClocks, x.1.val = e ∧ (x.2.val = k ∨ (k ≤ 6 ∧ x.2.val = 9 ∧ 9 ∈ domainsOf e))
  let whole := ∀ e, e < 8 → s.dieOut e = false
  (s.bringing = false → s.stays c ∧ s.stays (.phaseOver d b u))
  ∧ (s.bringing = true →
    (s.runs c ps fun t => t.rst.phase = s.rst.phase + 1 ∧ t.rst.times = s.rst.times.set s.rst.phase found.micros)
    ∧ (s.rst.phase = 0 → s.rst.power = false → s.rst.foundLost = false → s.runs c [.rst] fun t =>
        t.rst = { s.rst with times := s.rst.times.set 0 found.micros, phase := 1 })
    ∧ (s.rst.phase = 0 → s.rst.foundLost = true → s.runs c [.regs, .upd, .adm, .slow, .rst, .life] fun t =>
        (t.reg 6 Reg.rstStatus).testBit 4)
    ∧ (s.rst.phase = 0 → s.rst.power = true → s.runs c [.regs, .upd, .adm, .slow, .rst, .life] fun t => t.adm.highId = 0
        ∧ t.rst.lost = false
        ∧ (s.rst.lost = false → t.reg 6 Reg.rstPorCount = cap32 (s.reg 6 Reg.rstPorCount + 1)
            ∧ s.recordedReset t 1 0 (s.rst.abandoned % 256) ∧ t.upd = s.upd ∧ t.slow = s.slow)
        ∧ (s.rst.lost = true → t.reg 6 Reg.rstPorCount = 1 ∧ t.reg 6 Reg.rstPinCount = 0 ∧ t.reg 6 Reg.rstGlitchCount = 0
            ∧ (t.reg 6 Reg.rstStatus).testBit 4 ∧ t.rst.records.length = 1 ∧ t.rst.calendar = 0 ∧ t.rst.keep = false
            ∧ t.upd.recs = Upd.reset.recs ∧ (t.slowWin 1).queue = [] ∧ (t.slowWin 2).queue = []))
    ∧ (s.rst.phase = 1 → s.runs c [.regs, .rst] fun t => t.rst.pwrOk = true
        ∧ ∀ e k, e < 8 → k < 64 →
          ((t.reg e Reg.clkGood).testBit k = true ↔ k ∈ domainsOf e ∧ ¬ bad e k)
          ∧ ((t.reg e Reg.clkHeld).testBit k = true ↔ k ∈ domainsOf e ∧ bad e k))
    ∧ (s.rst.phase = 2 → same → boots image → s.runs c [.rst, .sec] fun t => t.sec.running = image
        ∧ t.sec.mismatch = s.sec.mismatch ∧ t.sec.fallback = s.sec.fallback)
    ∧ (s.rst.phase = 2 → same → ¬ boots image → boots (1 - image) → s.runs c [.regs, .rst, .life, .sec] fun t =>
        t.sec.running = 1 - image ∧ t.sec.fallback = true ∧ (t.reg 6 Reg.secStatus).testBit 0 ∧ t.life.seq = s.life.seq + 1)
    ∧ (s.rst.phase = 2 → same → ¬ boots image → ¬ boots (1 - image) → s.runs c [.rst, .sec] fun t =>
        t.sec = { s.sec with recovery := true })
    ∧ (s.rst.phase = 2 → ¬ same → s.runs c [.regs, .rst, .life, .sec] fun t => t.sec.mismatch = true ∧ s.life.seq < t.life.seq)
    ∧ (s.rst.phase = 3 → (∀ f ∈ s.life.spare.failed, s.logicalRow f.1 f.2.1 f.2.2 = none ∧ f.2.2 ≠ 24) → found.badFrets = [] →
        found.badCores = [] → found.badBanks = [] → (∀ e, e < 8 → s.life.shed.getD e 0 ≤ 2) → s.runs c [.rst] fun t =>
          t.rst.memValid = if s.keeps then s.rst.memValid else [false, false, false, false])
    ∧ (s.rst.phase = 4 → s.runs c [.mem, .regs, .emb, .upd, .dram, .fab, .vlk, .adm, .dict, .rst, .life] fun t =>
        t.rst.memValid = [true, true, true, true] ∧ t.upd.journal = []
        ∧ t.dict.od = s.dict.nv.filter (fun e => decide (od 0x2200 0 ≤ e.1) && decide (e.1 < od 0x2600 0))
        ∧ (whole → found.laneSpares = [] → found.badChannels = [] → t.dram.failed = [])
        ∧ (∀ x ∈ t.dram.retired, x.out = true)
        ∧ (s.keeps = false → t.rst.keepOutcome = 0 ∧ t.mem = [] ∧ t.dram.poison = [])
        ∧ (s.keeps = true → s.upd.journal = [] → t.rst.keepOutcome = 1)
        ∧ (s.keeps = true → s.upd.journal = [] → whole → found.badChannels = [] → found.laneSpares = [] → t.mem = s.mem)
        ∧ (t.rst.keepOutcome ≠ 1 → t.rst.keepOutcome ≠ 2 → t.mem = [] ∧ t.dram.poison = []))
    ∧ (s.rst.phase = 5 → s.vilnyOut = false → s.runs c [.regs, .vlk, .dict, .rst, .life] fun t =>
        let one := fun (ok : BitVec 9) => (List.finRange 8).find? fun k => !ok.getLsbD k.val
        let sp := s.vilnySpare (one found.vilnyLanes.tx, one found.vilnyLanes.rx)
        t.vlk.state = (if found.vilnyUp = true ∧ vilnyLanesOk found.vilnyLanes sp = true then 2 else 0)
        ∧ (found.vilnyUp = true → vilnyLanesOk found.vilnyLanes sp = true →
            t.reg 6 Reg.vlkLaneState = (if sp.2 = 15 then sp.1 else sp.2) * 512 + (found.vilnyLanes.tx &&& found.vilnyLanes.rx).toNat))
    ∧ (s.rst.phase = 6 → s.runs c [.time, .regs, .dict, .rst, .life] fun t => t.rst.phase = 7 ∧ t.rst.delayed = false
        ∧ t.dict.od = s.dict.nv
        ∧ (∀ e, e < 8 → t.reg e Reg.rstCause = s.causeWord)
        ∧ (∀ e k, e < 8 → carries e k = true → bits (t.odNat (od 0x2950 2)) k k = 1 → s.guardMode e k ≠ 0 → t.guardLock e k = true))
    ∧ (s.runs (.phaseOver d b u) [.mem, .regs, .frets, .board, .dram, .fab, .vlk, .adm, .dict, .life] fun t =>
        (t.reg 6 Reg.rstStatus).testBit 3 ∧ (d.val, b, u) ∈ t.life.units))

/-- R446, R448, R449, R451 to R455, R484: clock domains, power states, the input voltage. A domain that comes back, and a wake, let the
commands that waited at the memory run (`State.resumeMemory`, log 29). -/
def Obligations.ClocksAndPower : Prop := ∀ (s : State) (die : Fin 8) (domain : Fin 10),
  let d := die.val
  let k := domain.val
  let c := Instr.clockUnstable die domain
  let ps : List Part := [.mem, .regs, .frets, .slanes, .board, .num, .emb, .upd, .dram, .fab, .vlk, .adm, .dict, .rst, .life]
  let rs : List Part := [.mem, .regs, .frets, .board, .upd, .dram, .fab, .vlk, .adm, .dict, .rst, .life]
  let lost := k ∈ domainsOf d ∧ s.clockIsGood d k = true
  (¬ lost → s.stays c)
  ∧ (lost → s.runs c ps fun t => (t.reg d Reg.clkGood).testBit k = false ∧ (t.reg d Reg.clkHeld).testBit k = true
      ∧ (t.reg d Reg.clkStatus).testBit 0 ∧ t.reg d Reg.clkUnstableCount = cap32 (s.reg d Reg.clkUnstableCount + 1)
      ∧ t.reg d Reg.clkLastFail = 0x80000000 + k ∧ d * 16 + k ∈ t.rst.clockLost
      ∧ (∃ n, t.dict.log.head? = some (eventRecord 0x0703 (if t.injecting then 1 else 0) n t.time (u8 d ++ u8 k)))
      ∧ (k = 0 → ∀ i, i / 384 = d → t.fret i = Fret.reset)
      ∧ (k = 6 → d < 2 → ∀ i, i / 384 = d → (t.fret i).run ≠ 1)
      ∧ ((k = 0 ∨ (k = 6 ∧ d < 2)) → t.upd.voted = true ∧ t.upd.fault = some (s.upd.fault.getD 2))
      ∧ ((k = 1 ∨ k = 2 ∨ k = 3 ∨ (k = 6 ∧ 2 ≤ d ∧ d < 6)) → t.upd.voted = true ∧ t.upd.fault = some (s.upd.fault.getD 4))
      ∧ (k = 5 → t.vlk.state = 0)
      ∧ (k = 7 → (t.reg 6 Reg.mgmtStatus).testBit 0 = false ∧ t.upd = s.upd ∧ t.frets = s.frets)
      ∧ (k = 9 → (t.reg d Reg.clkStatus).testBit 1 ∧ t.timeLocked = false ∧ ∀ x ∈ domainsOf d, refFed x = true →
          (t.reg d Reg.clkGood).testBit x = false ∧ (s.clockIsGood d x = true → (t.reg d Reg.clkHeld).testBit x = true)))
  ∧ (k ∉ domainsOf d → s.stays (.clockGood die domain))
  ∧ (k ∈ domainsOf d → s.runs (.clockGood die domain) rs fun t => ∃ u : State, s.onlyChanges u [.regs]
      ∧ (u.reg d Reg.clkGood).testBit k ∧ (u.reg d Reg.clkHeld).testBit k = false
      ∧ s.onlyRegs u [regKey d Reg.clkGood, regKey d Reg.clkHeld]
      ∧ t = { u.resumeMemory with rst := { s.rst with clockLost := s.rst.clockLost.filter fun x => x ≠ d * 16 + k } })
  ∧ (d * 16 + k ∉ s.rst.clockLost → s.stays (.clockRecoveryLimit die domain))
  ∧ (d * 16 + k ∈ s.rst.clockLost → s.runs (.clockRecoveryLimit die domain)
      [.mem, .regs, .frets, .board, .dram, .fab, .vlk, .adm, .dict, .life] fun t => t.dieOut d = true
      ∧ (s.dieOut d = false → (d = 6 → 7 ≤ s.rst.phase → t.life.level = 0) ∧ (d = 6 → t.vlk.state = 0)
        ∧ (d < 2 → ∀ i, i / 384 = d → (t.fret i).run ≠ 1)
        ∧ (2 ≤ d → d < 6 → (0, 48 * (d - 2)) ∈ t.dram.failed ∧ (1, 4 * (d - 2)) ∈ t.dram.failed)))
  ∧ (let blocked := s.rst.phase ≠ 7 ∨ s.rst.asserted = true ∨ s.rst.pinWait = true ∨ s.moduleIdle = false
    let short := fun (st : Nat) => exitNs st ≤ s.odNat (od 0x1200 1)
    let allowed := fun (st : Nat) => short st ∧ (st ≤ 2 ∨ (¬ (1 < s.modules ∧ s.fnState 2 = 1) ∧ s.restConflict = false))
    let now := fun (e : Nat) => s.rst.dieTarget.getD e 0
    (blocked → s.stays .powerStateEntry)
    ∧ (¬ blocked → s.runs .powerStateEntry [.regs, .rst] fun t => t.rst = { s.rst with dieTarget := t.rst.dieTarget }
        ∧ t.rst.dieTarget.length = 8
        ∧ (∀ e, e < 8 → s.reg e Reg.pwrCtrl % 2 = 1 → t.rst.dieTarget.getD e 0 = 0)
        ∧ (∀ e, e < 8 → s.reg e Reg.pwrCtrl % 2 ≠ 1 → now e < 3 → allowed (now e + 1) → t.rst.dieTarget.getD e 0 = now e + 1)
        ∧ (∀ e, e < 8 → s.reg e Reg.pwrCtrl % 2 ≠ 1 → (3 ≤ now e ∨ ¬ allowed (now e + 1)) → t.rst.dieTarget.getD e 0 = now e)
        ∧ (2 ∈ s.rst.dieTarget → s.restConflict = true → short 3 → ∀ e, e < 8 → t.reg e Reg.pwrStatus = s.reg e Reg.pwrStatus ||| 2)
        ∧ ((2 ∉ s.rst.dieTarget ∨ s.restConflict = false ∨ ¬ short 3) → t.regs = s.regs)))
  ∧ (let saves := fun (e : Nat) => e < 2 ∧ s.rst.dieState.getD e 0 ≠ 3 ∧ s.rst.dieTarget.getD e 0 = 3
    ((s.rst.waking = true ∨ s.rst.dieTarget = s.rst.dieState) → s.stays .powerStateSettled)
    ∧ (s.rst.waking = false → s.rst.dieTarget ≠ s.rst.dieState → s.runs .powerStateSettled [.mem, .regs, .frets, .dram, .rst] fun t =>
        t.rst = { s.rst with dieState := s.rst.dieTarget, restSaved := s.rst.dieTarget.any fun x => decide (x = 3) }
        ∧ (∀ e, e < 8 → s.rst.dieState.getD e 0 ≠ s.rst.dieTarget.getD e 0 → (t.reg e Reg.pwrStatus).testBit 0)
        ∧ ((∀ e, ¬ saves e) → s.onlyChanges t [.regs, .rst])
        ∧ (s.sound → ∀ e, saves e → ∀ i, i / 384 = e → (t.fret i).sram = [] ∧ (t.fret i).acc = [] ∧ (t.fret i).spill = []))
    ∧ ((s.rst.waking = true ∨ ∀ x ∈ s.rst.dieTarget, x = 0) → s.stays .wake)
    ∧ (∀ x, s.rst.waking = false → x ∈ s.rst.dieTarget → x ≠ 0 → s.runs .wake [.mem, .frets, .dram, .rst] fun t =>
        t.rst = { s.rst with dieState := s.rst.dieTarget, dieTarget := List.replicate 8 0, waking := true }
        ∧ ((∀ e, ¬ saves e) → s.onlyChanges t [.rst])))
  ∧ (s.rst.waking = false → s.stays .wakeComplete)
  ∧ (s.rst.waking = true → s.runs .wakeComplete rs fun t => ∃ u : State, s.onlyChanges u [.regs, .frets, .rst]
      ∧ (∀ e, e < 8 → s.rst.dieState.getD e 0 ≠ 0 → (u.reg e Reg.pwrStatus).testBit 0)
      ∧ (s.rst.dieState.getD 0 0 ≠ 3 → s.rst.dieState.getD 1 0 ≠ 3 → u.frets = s.frets)
      ∧ u.rst = { s.rst with dieState := List.replicate 8 0, dieTarget := List.replicate 8 0 }
      ∧ t = { u.resumeMemory with rst := { u.rst with waking := false, restSaved := false } })
  ∧ (∀ mv, (s.rst.vin = false ∨ s.rst.off = true) → s.stays (.vinLow mv))
  ∧ (∀ mv, s.rst.vin = true → s.rst.off = false → s.runs (.vinLow mv) [.regs, .rst] fun t =>
      t.rst = { s.rst with vinMv := mv % 0x100000000 } ∧ s.onlyRegs t [regKey 6 Reg.pwrStatus]
      ∧ t.reg 6 Reg.pwrStatus = if 36000 ≤ mv ∧ mv < 38000 then s.reg 6 Reg.pwrStatus ||| 4 else s.reg 6 Reg.pwrStatus)

/-- R457: a die above 100 °C. -/
def Obligations.HotDie : Prop := ∀ (s : State) (die : Fin 8) (temp : Nat),
  (100 < temp → s.runs (.hot die temp) [.regs] fun t => s.onlyRegs t [regKey die.val Reg.pwrStatus]
    ∧ t.reg die.val Reg.pwrStatus = s.reg die.val Reg.pwrStatus ||| 8)
  ∧ (temp ≤ 100 → s.stays (.hot die temp))

/-- R312, R408, R433, R461 to R465, R469: cores, banks, regulator phases, the spare record, thermal cycles, the PHY. -/
def Obligations.LifeEvents : Prop := ∀ (s : State),
  (∀ (d : Fin 6) (core : Fin 8), spareCore d.val ≤ core.val → s.stays (.coreFault d core))
  ∧ (∀ (d : Fin 6) (core : Fin 8), core.val < spareCore d.val →
      s.runs (.coreFault d core) [.mem, .regs, .frets, .board, .upd, .dram, .fab, .vlk, .adm, .dict, .life] fun t =>
        let cls := if d.val < 2 then 2 else 4
        let free := SMap.get 0 s.life.spare.cores d.val = 0 ∧ d.val ∉ s.life.spare.badCores
        (t.reg d.val Reg.ctrlStatus).testBit 2 ∧ t.upd.voted = true ∧ t.upd.fault = some (s.upd.fault.getD cls)
        ∧ (d.val < 2 → (∀ i, i / 384 = d.val → (t.fret i).run ≠ 1)
          ∧ t.reg d.val Reg.fretFaultLoc = 0x10000 + (Config.coreFaultCause d.val core.val).toNat * 4096 + (2 * core.val + 1) * 256
              + s.physicalRow d.val (2 * core.val + 1) 23)
        ∧ (2 ≤ d.val → t.frets = s.frets)
        ∧ (free → SMap.get 0 t.life.spare.cores d.val = core.val + 1
            ∧ t.life.rewrite = true ∧ t.life.units = s.life.units ∧ t.life.level = s.life.level ∧ t.life.seq = s.life.seq + 1)
        ∧ (¬ free → t.dieOut d.val = true ∧ t.life.spare = s.life.spare))
  ∧ (∀ core : Fin 2, s.life.mgmtFailed.contains core.val = true → s.stays (.managementCoreFault core))
  ∧ (∀ core : Fin 2, s.life.mgmtFailed.contains core.val = false → s.runs (.managementCoreFault core) [.regs, .dict, .life] fun t =>
      t.life.mgmtFailed = s.life.mgmtFailed ++ [core.val] ∧ t.life.units = s.life.units
      ∧ (7 ≤ s.rst.phase → (core.val = 0 → t.life.level = 0) ∧ t.life.level ≤ 1)
      ∧ (s.rst.phase < 7 → t.life.level = s.life.level))
  ∧ (∀ (d : Fin 4) (bank : Fin 60), s.runs (.hotsetBankFault d bank) [.mem, .regs, .emb, .upd, .fab, .vlk, .adm, .dict, .life] fun t =>
      t.upd.voted = true ∧ t.upd.fault = some (s.upd.fault.getD 4)
      ∧ (∀ p, s.freeBank d.val = some p → (d.val, p) ∉ s.life.spare.badBanks
          ∧ SMap.get 0 t.life.spare.banks (d.val * 64 + bank.val) = p + 1 ∧ t.life.rewrite = true
          ∧ t.life.units = s.life.units ∧ t.emb = s.emb)
      ∧ (s.freeBank d.val = none → (2 + d.val, 8, 0xFFFF) ∈ t.life.units ∧ (∀ h ∈ t.emb.hot, h.die ≠ d.val)
          ∧ t.life.spare = s.life.spare ∧ t.mem = s.mem))
  ∧ (∀ d : Fin 8, d.val < s.life.shed.length → s.runs (.regulatorPhaseFail d)
      [.mem, .regs, .frets, .slanes, .board, .num, .emb, .upd, .dram, .fab, .vlk, .adm, .dict, .life] fun t =>
      let n := s.life.shed.getD d.val 0 + 1
      t.life.shed = s.life.shed.set d.val n
      ∧ (n ≤ 2 → s.onlyChanges t [.regs, .life] ∧ s.onlyRegs t [regKey 6 Reg.lifeStatus]
          ∧ t.life.units = s.life.units ∧ t.life.seq = s.life.seq + 1)
      ∧ (2 < n → t.dieOut d.val = true ∧ (d.val < 6 → t.upd.voted = true)
          ∧ (d.val < 2 → t.upd.fault = some (s.upd.fault.getD 2) ∧ ∀ i, i / 384 = d.val → (t.fret i).run ≠ 1)
          ∧ (2 ≤ d.val → d.val < 6 → t.upd.fault = some (s.upd.fault.getD 4))
          ∧ (6 ≤ d.val → t.upd = s.upd) ∧ (d.val = 6 → t.vlk.state = 0)
          ∧ ∀ b, t.held d.val b = true))
  ∧ (s.life.rewrite = false → s.stays .spareRecordRewrite)
  ∧ (s.life.rewrite = true → s.runs .spareRecordRewrite [.rst, .life] fun t =>
      t.life.nvSpare = ⟨s.life.spare, s.dram.swapped, s.dram.remaps⟩ ∧ t.life.rewrite = false
      ∧ t.life.spare = s.life.spare ∧ t.rst = { s.rst with pulse := some s.time, erases := t.rst.erases }
      ∧ ∃ n, t.rst.erases = s.rst.erases ++ n)
  ∧ (∀ d : Fin 8, s.runs (.thermalCycle d) [.life] fun t => t.life = { s.life with bk := t.life.bk }
      ∧ SMap.get 0 t.life.bk (1 + d.val) = SMap.get 0 s.life.bk (1 + d.val) + 1
      ∧ ∀ k, k ≠ 1 + d.val → SMap.get 0 t.life.bk k = SMap.get 0 s.life.bk k)
  ∧ (∀ up active, s.held 6 17 = true → s.stays (.mgmtPhyLink up active))
  ∧ (∀ up active, s.held 6 17 = false → s.runs (.mgmtPhyLink up active) [.regs] fun t => s.onlyRegs t [regKey 6 Reg.mgmtStatus, regKey 6 Reg.mgmtPlca]
      ∧ (t.reg 6 Reg.mgmtStatus).testBit 0 = up
      ∧ (t.reg 6 Reg.mgmtPlca).testBit 16 = (up && active && decide (s.reg 6 Reg.mgmtPlca % 256 ≠ 0xFF)))

/-- One step: the command at the front runs with the rest of the queue, and no command changes that rest; on an empty queue the block
idles, and nothing waits after it (log 1): time passes, a level's change is told when its MGMT cycle has ended (R468), every start
under way ends (R404), and a trained Vilny link sends a flit. -/
def Obligations.StepRunsCommand : Prop := ∀ (s : State),
  (∀ c rest, s.pending = c :: rest → step s = exec c { s with pending := rest })
  ∧ (∀ c t, exec c s = .next t → t.pending = s.pending)
  ∧ (s.pending = [] → step s = .next s.idle
      ∧ s.onlyChanges s.idle [.time, .regs, .frets, .board, .num, .upd, .dram, .fab, .vlk, .adm, .dict, .life]
      ∧ s.time ≤ s.idle.time ∧ s.idle.time ≤ s.time + 2 ∧ (s.fab.slew = 0 → s.idle.time = s.time + 1)
      ∧ ((∀ x ∈ s.dict.fn, x ≠ 2) → s.life.change = none → s.vlk.state ≠ 2 → s.onlyChanges s.idle [.time, .fab])
      ∧ ((∀ x ∈ s.dict.fn, x ≠ 2) → s.vlk.state ≠ 2 → ∀ c, s.life.change = some c → c.cycle ≠ s.idle.time / 40 →
          s.idle.life.change = none)
      ∧ ∃ u : State, s.idle = u.sendFlit ∧ (u.vlk.state ≠ 2 → s.idle = u) ∧ ∀ fn, fn < 5 → u.fnState fn ≠ 2)

/-- What the module is right after reset, with the values that the spec gives. -/
def Obligations.ResetState : Prop :=
  State.reset.sound ∧ State.reset.pending = [] ∧ State.reset.bringing = true ∧ State.reset.rst.phase = 0
  ∧ (∀ i, i < 5 → State.reset.fnState i = 0) ∧ (∀ i, (State.reset.fret i).run = 0 ∧ (State.reset.fret i).st0 = 0
      ∧ (State.reset.fret i).st1 = 0)
  ∧ State.reset.committed = none ∧ State.reset.dict.log = [] ∧ State.reset.dict.sessions = [] ∧ (∀ o, State.reset.syncObj o = 0)
  ∧ (∀ d, d < 8 → ∀ b, b < 23 → carries d b = true → ∀ r ∈ dieRows d b, State.reset.reg d (b * 0x10000 + r.off) = r.reset)
  ∧ (∀ a, State.reset.byte a = 0)

/-- Every step from a sound state ends in a sound state, whatever the command: there is no fault and no refusal. -/
def Obligations.StepKeepsSound : Prop := ∀ (s : State), s.sound → ∃ t, step s = .next t ∧ t.sound

/-- R41: the eight codes of N3, at a scale of 1, as FP32. -/
def Obligations.N3Values : Prop := ∀ z : Nat, (List.range 8).map (fun code => Fmt.decode Fmt.n3 code 127 z) =
  [(0x00000000#32, false), (0x3F000000#32, false), (0x3F800000#32, false), (0x3FC00000#32, false),
   (0x80000000#32, false), (0xBF000000#32, false), (0xBF800000#32, false), (0xBFC00000#32, false)]
end

