-- ==== Sys2Proof/Laws/Frame.lean ====
section
/-! SUPPORT. How changes compose: what a chain of operations may change, and that it keeps the state sound. -/

namespace Sys2Proof.Machine

/-- From `s` to `t` only the listed parts change, and a sound state stays sound. -/
def State.evolves (s t : State) (P : List Part) : Prop := s.onlyChanges t P ∧ (s.sound → t.sound)

/-- Is every part of the first list in the second? -/
def Part.within (ps qs : List Part) : Bool := ps.all qs.contains

theorem State.only_refl (s : State) (P : List Part) : s.onlyChanges s P := by
  intro p _
  cases p <;> exact rfl

theorem State.only_step {s0 s t : State} {P Q : List Part} (k : s.onlyChanges t Q) (h : s0.onlyChanges s P)
    (hs : Part.within Q P = true) : s0.onlyChanges t P := by
  intro p hp
  have hq : Q.contains p = false := by
    cases hc : Q.contains p with
    | false => rfl
    | true =>
      have := List.all_eq_true.mp hs p (List.contains_iff_mem.mp hc)
      rw [hp] at this
      cases this
  have h1 := h p hp
  have h2 := k p hq
  cases p <;> exact Eq.trans h2 h1

theorem State.evolves_refl (s : State) (P : List Part) : s.evolves s P := ⟨State.only_refl s P, id⟩

theorem State.evolves_step {s0 s t : State} {P Q : List Part} (k : s.evolves t Q) (h : s0.evolves s P)
    (hs : Part.within Q P = true) : s0.evolves t P :=
  ⟨State.only_step k.1 h.1 hs, fun x => k.2 (h.2 x)⟩

theorem State.evolves_wider {s t : State} {P Q : List Part} (h : s.evolves t Q) (hs : Part.within Q P = true) :
    s.evolves t P := State.evolves_step h (State.evolves_refl s P) hs

/-- What holds of a part holds of it in a state that agrees in it. -/
theorem State.soundAt_of {s t : State} {p : Part} (h : s.agrees t p) (hs : s.soundAt p) : t.soundAt p := by
  cases p <;> first
    | exact hs
    | (simp only [State.agrees] at h; simp only [State.soundAt] at hs ⊢; rw [h]; exact hs)

/-- A state that differs in listed parts only, each of them sound. -/
theorem State.evolves_set {s0 s t : State} {P Q : List Part} (k : s.onlyChanges t Q) (hs : Part.within Q P = true)
    (hq : ∀ p, Q.contains p = true → s.soundAt p → t.soundAt p) (h : s0.evolves s P) : s0.evolves t P := by
  refine ⟨State.only_step k h.1 hs, fun y p => ?_⟩
  cases hp : Q.contains p with
  | true => exact hq p hp (h.2 y p)
  | false => exact State.soundAt_of (k p hp) (h.2 y p)

theorem State.within_self (P : List Part) : Part.within P P = true :=
  List.all_eq_true.mpr fun _ h => List.contains_iff_mem.mpr h

theorem State.evolves_ite {s a b : State} {P : List Part} {c : Prop} [Decidable c] (ha : s.evolves a P)
    (hb : s.evolves b P) : s.evolves (if c then a else b) P := by
  split
  · exact ha
  · exact hb

theorem State.evolves_foldl {α : Type} {s s0 : State} {P : List Part} {g : State → α → State} {l : List α}
    (h0 : s.evolves s0 P) (hg : ∀ a x, s.evolves a P → s.evolves (g a x) P) : s.evolves (l.foldl g s0) P := by
  induction l generalizing s0 with
  | nil => exact h0
  | cons x t ih => exact ih (hg _ _ h0)

theorem State.evolves_foldl_snd {α β : Type} {s : State} {P : List Part} {g : β × State → α → β × State} {l : List α}
    {p : β × State} (h0 : s.evolves p.2 P) (hg : ∀ a x, s.evolves a.2 P → s.evolves (g a x).2 P) :
    s.evolves (l.foldl g p).2 P := by
  induction l generalizing p with
  | nil => exact h0
  | cons x t ih => exact ih (hg _ _ h0)

theorem State.evolves_foldl_fst {α β : Type} {s : State} {P : List Part} {g : State × β → α → State × β} {l : List α}
    {p : State × β} (h0 : s.evolves p.1 P) (hg : ∀ a x, s.evolves a.1 P → s.evolves (g a x).1 P) :
    s.evolves (l.foldl g p).1 P := by
  induction l generalizing p with
  | nil => exact h0
  | cons x t ih => exact ih (hg _ _ h0)

theorem State.evolves_ite_snd {β : Type} {s : State} {a b : β × State} {P : List Part} {c : Prop} [Decidable c]
    (ha : s.evolves a.2 P) (hb : s.evolves b.2 P) : s.evolves (if c then a else b).2 P := by
  split
  · exact ha
  · exact hb

/-- The state that an operation's source leaves. -/
def Source.state : Source → State
  | .got s _ => s
  | .notYet s => s
  | .failed s => s

theorem Source.evolves_ite {s : State} {a b : Source} {P : List Part} {c : Prop} [Decidable c]
    (ha : s.evolves a.state P) (hb : s.evolves b.state P) : s.evolves (if c then a else b).state P := by
  by_cases hc : c
  · rw [if_pos hc]; exact ha
  · rw [if_neg hc]; exact hb

theorem Source.evolves_got {s t : State} {tile : Tile} {P : List Part} (h : s.evolves t P) :
    s.evolves (Source.got t tile).state P := h
theorem Source.evolves_notYet {s t : State} {P : List Part} (h : s.evolves t P) : s.evolves (Source.notYet t).state P := h
theorem Source.evolves_failed {s t : State} {P : List Part} (h : s.evolves t P) : s.evolves (Source.failed t).state P := h

/-- A source's outcome, once known. -/
theorem Source.evolves_eq {s : State} {r r' : Source} {P Q : List Part} (h : s.evolves r.state Q) (e : r = r')
    (hs : Part.within Q P = true) : s.evolves r'.state P := e ▸ State.evolves_wider h hs

/-- A command answers a next state that differs in the listed parts only, sound where the state before is. -/
def Outcome.evolves (s : State) (P : List Part) (o : Host.Outcome State Fault Refusal) : Prop :=
  ∃ t, o = .next t ∧ s.evolves t P

theorem Outcome.evolves_next {s t : State} {P : List Part} (h : s.evolves t P) : Outcome.evolves s P (.next t) := ⟨t, rfl, h⟩

end Sys2Proof.Machine
end

