-- ==== Sys2Proof/Laws/Sparse.lean ====
section
/-! SUPPORT. Sparse data: reads after writes, and the canonical form (`SMap.wf`) that every write keeps. -/

namespace Sys2Proof

theorem SMap.get_append {β : Type} (d : β) (a b : SMap β) (k : Nat) (h : ∀ p ∈ b, p.1 ≠ k) :
    SMap.get d (a ++ b) k = SMap.get d a k := by
  induction a with
  | nil =>
    show SMap.get d b k = d
    induction b with
    | nil => rfl
    | cons p t ih =>
      have hp : p.1 ≠ k := h p (List.mem_cons_self ..)
      simp only [SMap.get, hp, if_false]
      exact ih fun q hq => h q (List.mem_cons_of_mem _ hq)
  | cons p t ih =>
    simp only [List.cons_append, SMap.get]
    split
    · rfl
    · exact ih

theorem SMap.get_append_right {β : Type} (d : β) (a b : SMap β) (k : Nat) (h : ∀ p ∈ a, p.1 ≠ k) :
    SMap.get d (a ++ b) k = SMap.get d b k := by
  induction a with
  | nil => rfl
  | cons p t ih =>
    have hp : p.1 ≠ k := h p (List.mem_cons_self ..)
    simp only [List.cons_append, SMap.get, hp, if_false]
    exact ih fun q hq => h q (List.mem_cons_of_mem _ hq)

theorem SMap.get_filter {β : Type} (d : β) (m : SMap β) (q : Nat → Bool) (k : Nat) (h : q k = true) :
    SMap.get d (m.filter fun p => q p.1) k = SMap.get d m k := by
  induction m with
  | nil => rfl
  | cons p t ih =>
    by_cases hp : p.1 = k
    · have : q p.1 = true := by rw [hp]; exact h
      rw [List.filter_cons_of_pos (by simpa using this)]
      simp only [SMap.get, hp, if_true]
    · by_cases hq : q p.1 = true
      · rw [List.filter_cons_of_pos (by simpa using hq)]
        simp only [SMap.get, hp, if_false]
        exact ih
      · rw [List.filter_cons_of_neg (by simpa using hq)]
        simp only [SMap.get, hp, if_false]
        exact ih

theorem SMap.get_none {β : Type} (d : β) (m : SMap β) (k : Nat) (h : ∀ p ∈ m, p.1 ≠ k) : SMap.get d m k = d := by
  have := SMap.get_append d [] m k h
  simpa [SMap.get] using this

theorem SMap.mem_listed {β : Type} [DecidableEq β] (d : β) (k : Nat) (vs : List β) (p : Nat × β)
    (h : p ∈ SMap.listed d k vs) : k ≤ p.1 ∧ p.1 < k + vs.length ∧ p.2 ≠ d := by
  induction vs generalizing k with
  | nil => cases h
  | cons v t ih =>
    unfold SMap.listed at h
    split at h
    · obtain ⟨h1, h2, h3⟩ := ih _ h
      simp only [List.length_cons]
      exact ⟨by omega, by omega, h3⟩
    · next hv =>
      rcases List.mem_cons.mp h with h | h
      · subst h
        simp only [List.length_cons]
        exact ⟨Nat.le_refl _, by omega, hv⟩
      · obtain ⟨h1, h2, h3⟩ := ih _ h
        simp only [List.length_cons]
        exact ⟨by omega, by omega, h3⟩

theorem SMap.get_listed {β : Type} [DecidableEq β] (d : β) (k : Nat) (vs : List β) (j : Nat) :
    SMap.get d (SMap.listed d k vs) (k + j) = vs.getD j d := by
  induction vs generalizing k j with
  | nil => rfl
  | cons v t ih =>
    unfold SMap.listed
    cases j with
    | zero =>
      split
      · next hv =>
        rw [SMap.get_none d _ _ fun p hp => by have := SMap.mem_listed d (k + 1) t p hp; omega]
        simp [hv]
      · simp [SMap.get]
    | succ j =>
      have e : k + (j + 1) = (k + 1) + j := by omega
      split
      · rw [e, ih]; simp
      · rw [show SMap.get d ((k, v) :: SMap.listed d (k + 1) t) (k + (j + 1))
            = SMap.get d (SMap.listed d (k + 1) t) (k + (j + 1)) by
            simp only [SMap.get]; rw [if_neg (by omega)]]
        rw [e, ih]; simp

/-- What a key reads as after a write of consecutive values: the value written there, or what it read as before. -/
theorem SMap.get_setMany {β : Type} [DecidableEq β] (d : β) (m : SMap β) (k : Nat) (vs : List β) (a : Nat) :
    SMap.get d (SMap.setMany d m k vs) a
      = if k ≤ a ∧ a < k + vs.length then vs.getD (a - k) d else SMap.get d m a := by
  unfold SMap.setMany
  by_cases h1 : a < k
  · rw [if_neg (by omega), List.append_assoc, SMap.get_append]
    · exact SMap.get_filter d m (fun x => decide (x < k)) a (by simpa using h1)
    · intro p hp
      rcases List.mem_append.mp hp with hp | hp
      · have := SMap.mem_listed d k vs p hp; omega
      · have := (List.mem_filter.mp hp).2
        have : k + vs.length ≤ p.1 := by simpa using this
        omega
  · rw [List.append_assoc, SMap.get_append_right]
    · by_cases h2 : a < k + vs.length
      · rw [if_pos ⟨by omega, h2⟩, SMap.get_append]
        · have := SMap.get_listed d k vs (a - k)
          rwa [show k + (a - k) = a by omega] at this
        · intro p hp
          have := (List.mem_filter.mp hp).2
          have : k + vs.length ≤ p.1 := by simpa using this
          omega
      · rw [if_neg (by omega), SMap.get_append_right]
        · exact SMap.get_filter d m (fun x => decide (k + vs.length ≤ x)) a (by simpa using Nat.le_of_not_lt h2)
        · intro p hp
          have := SMap.mem_listed d k vs p hp; omega
    · intro p hp
      have := (List.mem_filter.mp hp).2
      have : p.1 < k := by simpa using this
      omega

/-- A key reads as the value just written to it. -/
theorem SMap.get_set_same {β : Type} [DecidableEq β] (d : β) (m : SMap β) (k : Nat) (v : β) :
    SMap.get d (SMap.set d m k v) k = v := by
  unfold SMap.set
  rw [SMap.get_setMany]
  simp

/-- Every other key reads as before. -/
theorem SMap.get_set_other {β : Type} [DecidableEq β] (d : β) (m : SMap β) (k j : Nat) (v : β) (h : j ≠ k) :
    SMap.get d (SMap.set d m k v) j = SMap.get d m j := by
  unfold SMap.set
  rw [SMap.get_setMany, if_neg (by simp; omega)]

/-- What a key reads as after a range is erased. -/
theorem SMap.get_eraseRange {β : Type} (d : β) (m : SMap β) (lo n a : Nat) :
    SMap.get d (SMap.eraseRange m lo n) a = if lo ≤ a ∧ a < lo + n then d else SMap.get d m a := by
  unfold SMap.eraseRange
  by_cases h : lo ≤ a ∧ a < lo + n
  · rw [if_pos h, SMap.get_none]
    intro p hp
    have := (List.mem_filter.mp hp).2
    have : p.1 < lo ∨ lo + n ≤ p.1 := by simpa using this
    omega
  · rw [if_neg h]
    exact SMap.get_filter d m (fun x => decide (x < lo) || decide (lo + n ≤ x)) a (by
      have : a < lo ∨ lo + n ≤ a := by omega
      simpa using this)

/-! ### The canonical form -/

theorem SMap.wfFrom_mono {β : Type} [DecidableEq β] (d : β) (lo lo' : Nat) (m : SMap β) (h : SMap.wfFrom d lo m = true)
    (hl : lo' ≤ lo) : SMap.wfFrom d lo' m = true := by
  cases m with
  | nil => rfl
  | cons p t =>
    simp only [SMap.wfFrom, Bool.and_eq_true, decide_eq_true_eq] at h ⊢
    exact ⟨⟨by omega, h.1.2⟩, h.2⟩

theorem SMap.wfFrom_filter {β : Type} [DecidableEq β] (d : β) (lo : Nat) (m : SMap β) (q : Nat × β → Bool)
    (h : SMap.wfFrom d lo m = true) : SMap.wfFrom d lo (m.filter q) = true := by
  induction m generalizing lo with
  | nil => rfl
  | cons p t ih =>
    simp only [SMap.wfFrom, Bool.and_eq_true, decide_eq_true_eq] at h
    rw [List.filter_cons]
    split
    · simp only [SMap.wfFrom, Bool.and_eq_true, decide_eq_true_eq]
      exact ⟨h.1, ih _ h.2⟩
    · exact SMap.wfFrom_mono d (p.1 + 1) lo _ (ih _ h.2) (by omega)

theorem SMap.wfFrom_append {β : Type} [DecidableEq β] (d : β) (lo mid : Nat) (a b : SMap β)
    (ha : SMap.wfFrom d lo a = true) (hb : SMap.wfFrom d mid b = true) (hm : ∀ p ∈ a, p.1 < mid) (hl : lo ≤ mid) :
    SMap.wfFrom d lo (a ++ b) = true := by
  induction a generalizing lo with
  | nil => exact SMap.wfFrom_mono d mid lo b hb hl
  | cons p t ih =>
    simp only [SMap.wfFrom, Bool.and_eq_true, decide_eq_true_eq, List.cons_append] at ha ⊢
    have hp := hm p (List.mem_cons_self ..)
    exact ⟨ha.1, ih _ ha.2 (fun q hq => hm q (List.mem_cons_of_mem _ hq)) (by omega)⟩

theorem SMap.wfFrom_listed {β : Type} [DecidableEq β] (d : β) (k : Nat) (vs : List β) :
    SMap.wfFrom d k (SMap.listed d k vs) = true := by
  induction vs generalizing k with
  | nil => rfl
  | cons v t ih =>
    unfold SMap.listed
    split
    · exact SMap.wfFrom_mono d (k + 1) k _ (ih _) (by omega)
    · next hv =>
      simp only [SMap.wfFrom, Bool.and_eq_true, decide_eq_true_eq]
      exact ⟨⟨Nat.le_refl _, hv⟩, ih _⟩

theorem SMap.wfFrom_above {β : Type} [DecidableEq β] (d : β) (lo k : Nat) (m : SMap β) (h : SMap.wfFrom d lo m = true) :
    SMap.wfFrom d k (m.filter fun p => decide (k ≤ p.1)) = true := by
  induction m generalizing lo with
  | nil => rfl
  | cons p t ih =>
    simp only [SMap.wfFrom, Bool.and_eq_true, decide_eq_true_eq] at h
    rw [List.filter_cons]
    split
    · next hk =>
      simp only [SMap.wfFrom, Bool.and_eq_true, decide_eq_true_eq]
      exact ⟨⟨by simpa using hk, h.1.2⟩, SMap.wfFrom_filter d _ t _ h.2⟩
    · exact ih _ h.2

/-- A write keeps the canonical form. -/
theorem SMap.wf_setMany {β : Type} [DecidableEq β] (d : β) (m : SMap β) (k : Nat) (vs : List β)
    (h : SMap.wf d m = true) : SMap.wf d (SMap.setMany d m k vs) = true := by
  unfold SMap.wf SMap.setMany at *
  rw [List.append_assoc]
  refine SMap.wfFrom_append d 0 k _ _ (SMap.wfFrom_filter d 0 m _ h) ?_ ?_ (Nat.zero_le _)
  · refine SMap.wfFrom_append d k (k + vs.length) _ _ (SMap.wfFrom_listed d k vs) (SMap.wfFrom_above d 0 _ m h) ?_ (by omega)
    intro p hp
    exact (SMap.mem_listed d k vs p hp).2.1
  · intro p hp
    simpa using (List.mem_filter.mp hp).2

/-- So does a write of one value. -/
theorem SMap.wf_set {β : Type} [DecidableEq β] (d : β) (m : SMap β) (k : Nat) (v : β) (h : SMap.wf d m = true) :
    SMap.wf d (SMap.set d m k v) = true := SMap.wf_setMany d m k [v] h

/-- Erasing a range keeps the canonical form. -/
theorem SMap.wf_eraseRange {β : Type} [DecidableEq β] (d : β) (m : SMap β) (lo n : Nat) (h : SMap.wf d m = true) :
    SMap.wf d (SMap.eraseRange m lo n) = true := SMap.wfFrom_filter d 0 m _ h

theorem SMap.wf_modify {β : Type} [DecidableEq β] (d : β) (m : SMap β) (k : Nat) (f : β → β) (h : SMap.wf d m = true) :
    SMap.wf d (SMap.modify d m k f) = true := SMap.wf_set d m k _ h

/-- Mapping the values of the kept entries to values that differ from `d`. -/
theorem SMap.wfFrom_filter_map {β : Type} [DecidableEq β] (d : β) (lo : Nat) (m : SMap β) (q : Nat × β → Bool) (g : β → β)
    (hg : ∀ p, q p = true → g p.2 ≠ d) (h : SMap.wfFrom d lo m = true) :
    SMap.wfFrom d lo ((m.filter q).map fun p => (p.1, g p.2)) = true := by
  induction m generalizing lo with
  | nil => rfl
  | cons p t ih =>
    simp only [SMap.wfFrom, Bool.and_eq_true, decide_eq_true_eq] at h
    rw [List.filter_cons]
    split
    · next hq =>
      simp only [List.map_cons, SMap.wfFrom, Bool.and_eq_true, decide_eq_true_eq]
      exact ⟨⟨h.1.1, hg p hq⟩, ih _ h.2⟩
    · exact SMap.wfFrom_mono d (p.1 + 1) lo _ (ih _ h.2) (by omega)

end Sys2Proof
end

