-- ==== Sys2Proof/Laws/FrameSet.lean ====
section
/-! SUPPORT. Replacing fields of the state changes those parts only. -/

namespace Sys2Proof.Machine

theorem State.evolves_set_time {s0 s : State} {P : List Part} {time0 : Nat}
    (hs : Part.within [.time] P = true)
    (h : s0.evolves s P) : s0.evolves { s with time := time0 } P := by
  refine State.evolves_set (Q := [.time]) (fun p hp => ?_) hs (fun p hp => ?_) h
  · cases p <;> first | rfl | cases hp
  · cases p <;> first | exact id

theorem State.evolves_set_free {s0 s : State} {P : List Part} {free0 : Nat}
    (hs : Part.within [.free] P = true)
    (h : s0.evolves s P) : s0.evolves { s with free := free0 } P := by
  refine State.evolves_set (Q := [.free]) (fun p hp => ?_) hs (fun p hp => ?_) h
  · cases p <;> first | rfl | cases hp
  · cases p <;> first | exact id

theorem State.evolves_set_mem {s0 s : State} {P : List Part} {mem0 : List Host.Cell}
    (hs : Part.within [.mem] P = true)
    (hmem : Memory.wf s.mem = true → Memory.wf mem0 = true)
    (h : s0.evolves s P) : s0.evolves { s with mem := mem0 } P := by
  refine State.evolves_set (Q := [.mem]) (fun p hp => ?_) hs (fun p hp => ?_) h
  · cases p <;> first | rfl | cases hp
  · cases p <;> first | exact hmem | exact id

theorem State.evolves_set_regs {s0 s : State} {P : List Part} {regs0 : SMap W64}
    (hs : Part.within [.regs] P = true)
    (hregs : SMap.wf 0 s.regs = true → SMap.wf 0 regs0 = true)
    (h : s0.evolves s P) : s0.evolves { s with regs := regs0 } P := by
  refine State.evolves_set (Q := [.regs]) (fun p hp => ?_) hs (fun p hp => ?_) h
  · cases p <;> first | rfl | cases hp
  · cases p <;> first | exact hregs | exact id

theorem State.evolves_set_frets {s0 s : State} {P : List Part} {frets0 : SMap Fret}
    (hs : Part.within [.frets] P = true)
    (hfrets : SMap.wf Fret.reset s.frets = true → SMap.wf Fret.reset frets0 = true)
    (h : s0.evolves s P) : s0.evolves { s with frets := frets0 } P := by
  refine State.evolves_set (Q := [.frets]) (fun p hp => ?_) hs (fun p hp => ?_) h
  · cases p <;> first | rfl | cases hp
  · cases p <;> first | exact hfrets | exact id

theorem State.evolves_set_slanes {s0 s : State} {P : List Part} {slanes0 : SMap SLane}
    (hs : Part.within [.slanes] P = true)
    (hslanes : SMap.wf SLane.reset s.slanes = true → SMap.wf SLane.reset slanes0 = true)
    (h : s0.evolves s P) : s0.evolves { s with slanes := slanes0 } P := by
  refine State.evolves_set (Q := [.slanes]) (fun p hp => ?_) hs (fun p hp => ?_) h
  · cases p <;> first | rfl | cases hp
  · cases p <;> first | exact hslanes | exact id

theorem State.evolves_set_board {s0 s : State} {P : List Part} {board0 : Board}
    (hs : Part.within [.board] P = true)
    (h : s0.evolves s P) : s0.evolves { s with board := board0 } P := by
  refine State.evolves_set (Q := [.board]) (fun p hp => ?_) hs (fun p hp => ?_) h
  · cases p <;> first | rfl | cases hp
  · cases p <;> first | exact id

theorem State.evolves_set_num {s0 s : State} {P : List Part} {num0 : Num}
    (hs : Part.within [.num] P = true)
    (h : s0.evolves s P) : s0.evolves { s with num := num0 } P := by
  refine State.evolves_set (Q := [.num]) (fun p hp => ?_) hs (fun p hp => ?_) h
  · cases p <;> first | rfl | cases hp
  · cases p <;> first | exact id

theorem State.evolves_set_emb {s0 s : State} {P : List Part} {emb0 : Emb}
    (hs : Part.within [.emb] P = true)
    (h : s0.evolves s P) : s0.evolves { s with emb := emb0 } P := by
  refine State.evolves_set (Q := [.emb]) (fun p hp => ?_) hs (fun p hp => ?_) h
  · cases p <;> first | rfl | cases hp
  · cases p <;> first | exact id

theorem State.evolves_set_upd {s0 s : State} {P : List Part} {upd0 : Upd}
    (hs : Part.within [.upd] P = true)
    (hupd : s.upd.recs.length = 2 → upd0.recs.length = 2)
    (h : s0.evolves s P) : s0.evolves { s with upd := upd0 } P := by
  refine State.evolves_set (Q := [.upd]) (fun p hp => ?_) hs (fun p hp => ?_) h
  · cases p <;> first | rfl | cases hp
  · cases p <;> first | exact hupd | exact id

theorem State.evolves_set_dram {s0 s : State} {P : List Part} {dram0 : Dram}
    (hs : Part.within [.dram] P = true)
    (h : s0.evolves s P) : s0.evolves { s with dram := dram0 } P := by
  refine State.evolves_set (Q := [.dram]) (fun p hp => ?_) hs (fun p hp => ?_) h
  · cases p <;> first | rfl | cases hp
  · cases p <;> first | exact id

theorem State.evolves_set_fab {s0 s : State} {P : List Part} {fab0 : Fab}
    (hs : Part.within [.fab] P = true)
    (hfab : s.fab.ports.length = 6 → fab0.ports.length = 6)
    (h : s0.evolves s P) : s0.evolves { s with fab := fab0 } P := by
  refine State.evolves_set (Q := [.fab]) (fun p hp => ?_) hs (fun p hp => ?_) h
  · cases p <;> first | rfl | cases hp
  · cases p <;> first | exact hfab | exact id

theorem State.evolves_set_vlk {s0 s : State} {P : List Part} {vlk0 : Vilny}
    (hs : Part.within [.vlk] P = true)
    (h : s0.evolves s P) : s0.evolves { s with vlk := vlk0 } P := by
  refine State.evolves_set (Q := [.vlk]) (fun p hp => ?_) hs (fun p hp => ?_) h
  · cases p <;> first | rfl | cases hp
  · cases p <;> first | exact id

theorem State.evolves_set_adm {s0 s : State} {P : List Part} {adm0 : Adm}
    (hs : Part.within [.adm] P = true)
    (hadm : s.adm.counts.length = 26 → adm0.counts.length = 26)
    (h : s0.evolves s P) : s0.evolves { s with adm := adm0 } P := by
  refine State.evolves_set (Q := [.adm]) (fun p hp => ?_) hs (fun p hp => ?_) h
  · cases p <;> first | rfl | cases hp
  · cases p <;> first | exact hadm | exact id

theorem State.evolves_set_dict {s0 s : State} {P : List Part} {dict0 : Dict}
    (hs : Part.within [.dict] P = true)
    (hdict : s.dict.log.length ≤ 8192 ∧ s.dict.fn.length = 5 → dict0.log.length ≤ 8192 ∧ dict0.fn.length = 5)
    (h : s0.evolves s P) : s0.evolves { s with dict := dict0 } P := by
  refine State.evolves_set (Q := [.dict]) (fun p hp => ?_) hs (fun p hp => ?_) h
  · cases p <;> first | rfl | cases hp
  · cases p <;> first | exact hdict | exact id

theorem State.evolves_set_slow {s0 s : State} {P : List Part} {slow0 : List SlowWin}
    (hs : Part.within [.slow] P = true)
    (hslow : s.slow.length = 3 → slow0.length = 3)
    (h : s0.evolves s P) : s0.evolves { s with slow := slow0 } P := by
  refine State.evolves_set (Q := [.slow]) (fun p hp => ?_) hs (fun p hp => ?_) h
  · cases p <;> first | rfl | cases hp
  · cases p <;> first | exact hslow | exact id

theorem State.evolves_set_rst {s0 s : State} {P : List Part} {rst0 : Rst}
    (hs : Part.within [.rst] P = true)
    (hrst : s.rst.records.length ≤ 64 ∧ s.rst.phase ≤ 7 ∧ s.rst.dieState.length = 8 ∧ s.rst.dieTarget.length = 8 → rst0.records.length ≤ 64 ∧ rst0.phase ≤ 7 ∧ rst0.dieState.length = 8 ∧ rst0.dieTarget.length = 8)
    (h : s0.evolves s P) : s0.evolves { s with rst := rst0 } P := by
  refine State.evolves_set (Q := [.rst]) (fun p hp => ?_) hs (fun p hp => ?_) h
  · cases p <;> first | rfl | cases hp
  · cases p <;> first | exact hrst | exact id

theorem State.evolves_set_life {s0 s : State} {P : List Part} {life0 : Life}
    (hs : Part.within [.life] P = true)
    (hlife : s.life.log.length ≤ 65536 → life0.log.length ≤ 65536)
    (h : s0.evolves s P) : s0.evolves { s with life := life0 } P := by
  refine State.evolves_set (Q := [.life]) (fun p hp => ?_) hs (fun p hp => ?_) h
  · cases p <;> first | rfl | cases hp
  · cases p <;> first | exact hlife | exact id

theorem State.evolves_set_sec {s0 s : State} {P : List Part} {sec0 : Sec}
    (hs : Part.within [.sec] P = true)
    (h : s0.evolves s P) : s0.evolves { s with sec := sec0 } P := by
  refine State.evolves_set (Q := [.sec]) (fun p hp => ?_) hs (fun p hp => ?_) h
  · cases p <;> first | rfl | cases hp
  · cases p <;> first | exact id

theorem State.evolves_set_time_fab {s0 s : State} {P : List Part} {time0 : Nat} {fab0 : Fab}
    (hs : Part.within [.time, .fab] P = true)
    (hfab : s.fab.ports.length = 6 → fab0.ports.length = 6)
    (h : s0.evolves s P) : s0.evolves { s with time := time0, fab := fab0 } P := by
  refine State.evolves_set (Q := [.time, .fab]) (fun p hp => ?_) hs (fun p hp => ?_) h
  · cases p <;> first | rfl | cases hp
  · cases p <;> first | exact hfab | exact id

theorem State.evolves_set_frets_emb {s0 s : State} {P : List Part} {frets0 : SMap Fret} {emb0 : Emb}
    (hs : Part.within [.frets, .emb] P = true)
    (hfrets : SMap.wf Fret.reset s.frets = true → SMap.wf Fret.reset frets0 = true)
    (h : s0.evolves s P) : s0.evolves { s with frets := frets0, emb := emb0 } P := by
  refine State.evolves_set (Q := [.frets, .emb]) (fun p hp => ?_) hs (fun p hp => ?_) h
  · cases p <;> first | rfl | cases hp
  · cases p <;> first | exact hfrets | exact id

theorem State.evolves_set_num_upd {s0 s : State} {P : List Part} {num0 : Num} {upd0 : Upd}
    (hs : Part.within [.num, .upd] P = true)
    (hupd : s.upd.recs.length = 2 → upd0.recs.length = 2)
    (h : s0.evolves s P) : s0.evolves { s with num := num0, upd := upd0 } P := by
  refine State.evolves_set (Q := [.num, .upd]) (fun p hp => ?_) hs (fun p hp => ?_) h
  · cases p <;> first | rfl | cases hp
  · cases p <;> first | exact hupd | exact id

theorem State.evolves_set_upd_fab {s0 s : State} {P : List Part} {upd0 : Upd} {fab0 : Fab}
    (hs : Part.within [.upd, .fab] P = true)
    (hupd : s.upd.recs.length = 2 → upd0.recs.length = 2)
    (hfab : s.fab.ports.length = 6 → fab0.ports.length = 6)
    (h : s0.evolves s P) : s0.evolves { s with upd := upd0, fab := fab0 } P := by
  refine State.evolves_set (Q := [.upd, .fab]) (fun p hp => ?_) hs (fun p hp => ?_) h
  · cases p <;> first | rfl | cases hp
  · cases p <;> first | exact hupd | exact hfab | exact id

theorem State.evolves_set_upd_adm {s0 s : State} {P : List Part} {upd0 : Upd} {adm0 : Adm}
    (hs : Part.within [.upd, .adm] P = true)
    (hupd : s.upd.recs.length = 2 → upd0.recs.length = 2)
    (hadm : s.adm.counts.length = 26 → adm0.counts.length = 26)
    (h : s0.evolves s P) : s0.evolves { s with upd := upd0, adm := adm0 } P := by
  refine State.evolves_set (Q := [.upd, .adm]) (fun p hp => ?_) hs (fun p hp => ?_) h
  · cases p <;> first | rfl | cases hp
  · cases p <;> first | exact hupd | exact hadm | exact id

theorem State.evolves_set_fab_vlk {s0 s : State} {P : List Part} {fab0 : Fab} {vlk0 : Vilny}
    (hs : Part.within [.fab, .vlk] P = true)
    (hfab : s.fab.ports.length = 6 → fab0.ports.length = 6)
    (h : s0.evolves s P) : s0.evolves { s with fab := fab0, vlk := vlk0 } P := by
  refine State.evolves_set (Q := [.fab, .vlk]) (fun p hp => ?_) hs (fun p hp => ?_) h
  · cases p <;> first | rfl | cases hp
  · cases p <;> first | exact hfab | exact id

theorem State.evolves_set_fab_adm {s0 s : State} {P : List Part} {fab0 : Fab} {adm0 : Adm}
    (hs : Part.within [.fab, .adm] P = true)
    (hfab : s.fab.ports.length = 6 → fab0.ports.length = 6)
    (hadm : s.adm.counts.length = 26 → adm0.counts.length = 26)
    (h : s0.evolves s P) : s0.evolves { s with fab := fab0, adm := adm0 } P := by
  refine State.evolves_set (Q := [.fab, .adm]) (fun p hp => ?_) hs (fun p hp => ?_) h
  · cases p <;> first | rfl | cases hp
  · cases p <;> first | exact hfab | exact hadm | exact id

theorem State.evolves_set_adm_rst {s0 s : State} {P : List Part} {adm0 : Adm} {rst0 : Rst}
    (hs : Part.within [.adm, .rst] P = true)
    (hadm : s.adm.counts.length = 26 → adm0.counts.length = 26)
    (hrst : s.rst.records.length ≤ 64 ∧ s.rst.phase ≤ 7 ∧ s.rst.dieState.length = 8 ∧ s.rst.dieTarget.length = 8 → rst0.records.length ≤ 64 ∧ rst0.phase ≤ 7 ∧ rst0.dieState.length = 8 ∧ rst0.dieTarget.length = 8)
    (h : s0.evolves s P) : s0.evolves { s with adm := adm0, rst := rst0 } P := by
  refine State.evolves_set (Q := [.adm, .rst]) (fun p hp => ?_) hs (fun p hp => ?_) h
  · cases p <;> first | rfl | cases hp
  · cases p <;> first | exact hadm | exact hrst | exact id

theorem State.evolves_set_mem_emb_upd_dram {s0 s : State} {P : List Part} {mem0 : List Host.Cell} {emb0 : Emb} {upd0 : Upd} {dram0 : Dram}
    (hs : Part.within [.mem, .emb, .upd, .dram] P = true)
    (hmem : Memory.wf s.mem = true → Memory.wf mem0 = true)
    (hupd : s.upd.recs.length = 2 → upd0.recs.length = 2)
    (h : s0.evolves s P) : s0.evolves { s with mem := mem0, emb := emb0, upd := upd0, dram := dram0 } P := by
  refine State.evolves_set (Q := [.mem, .emb, .upd, .dram]) (fun p hp => ?_) hs (fun p hp => ?_) h
  · cases p <;> first | rfl | cases hp
  · cases p <;> first | exact hmem | exact hupd | exact id

theorem State.evolves_set_upd_adm_rst_life {s0 s : State} {P : List Part} {upd0 : Upd} {adm0 : Adm} {rst0 : Rst} {life0 : Life}
    (hs : Part.within [.upd, .adm, .rst, .life] P = true)
    (hupd : s.upd.recs.length = 2 → upd0.recs.length = 2)
    (hadm : s.adm.counts.length = 26 → adm0.counts.length = 26)
    (hrst : s.rst.records.length ≤ 64 ∧ s.rst.phase ≤ 7 ∧ s.rst.dieState.length = 8 ∧ s.rst.dieTarget.length = 8 → rst0.records.length ≤ 64 ∧ rst0.phase ≤ 7 ∧ rst0.dieState.length = 8 ∧ rst0.dieTarget.length = 8)
    (hlife : s.life.log.length ≤ 65536 → life0.log.length ≤ 65536)
    (h : s0.evolves s P) : s0.evolves { s with upd := upd0, adm := adm0, rst := rst0, life := life0 } P := by
  refine State.evolves_set (Q := [.upd, .adm, .rst, .life]) (fun p hp => ?_) hs (fun p hp => ?_) h
  · cases p <;> first | rfl | cases hp
  · cases p <;> first | exact hupd | exact hadm | exact hrst | exact hlife | exact id

theorem State.evolves_set_time_mem_emb_upd_dram_rst {s0 s : State} {P : List Part} {time0 : Nat} {mem0 : List Host.Cell} {emb0 : Emb} {upd0 : Upd} {dram0 : Dram} {rst0 : Rst}
    (hs : Part.within [.time, .mem, .emb, .upd, .dram, .rst] P = true)
    (hmem : Memory.wf s.mem = true → Memory.wf mem0 = true)
    (hupd : s.upd.recs.length = 2 → upd0.recs.length = 2)
    (hrst : s.rst.records.length ≤ 64 ∧ s.rst.phase ≤ 7 ∧ s.rst.dieState.length = 8 ∧ s.rst.dieTarget.length = 8 → rst0.records.length ≤ 64 ∧ rst0.phase ≤ 7 ∧ rst0.dieState.length = 8 ∧ rst0.dieTarget.length = 8)
    (h : s0.evolves s P) : s0.evolves { s with time := time0, mem := mem0, emb := emb0, upd := upd0, dram := dram0, rst := rst0 } P := by
  refine State.evolves_set (Q := [.time, .mem, .emb, .upd, .dram, .rst]) (fun p hp => ?_) hs (fun p hp => ?_) h
  · cases p <;> first | rfl | cases hp
  · cases p <;> first | exact hmem | exact hupd | exact hrst | exact id

end Sys2Proof.Machine
end

