-- ==== Sys2Proof/Laws/FrameFlags.lean ====
section
/-! SUPPORT. What each operation of Machine/Flags.lean may change. -/

namespace Sys2Proof.Machine

theorem State.setReg_evolves (s : State) (die : Nat) (n : RegName) (v : Nat) :
    s.evolves (State.setReg s die n v) [.regs] := by
  unfold State.setReg
  repeat' first
    | assumption
    | with_reducible apply State.evolves_refl
    | with_reducible apply State.evolves_ite
    | with_reducible apply State.evolves_foldl
    | fail_if_no_progress ((with_reducible apply State.evolves_set_regs); decide; (first | (with_reducible exact fun h => h) | exact (fun h => SMap.wf_set _ _ _ _ h) | exact (fun h => SMap.wf_setMany _ _ _ _ h) | exact (fun h => SMap.wf_eraseRange _ _ _ _ h) | exact (fun h => SMap.wfFrom_filter _ _ _ _ h) | exact (fun h => (List.length_set ..).trans h) | exact (fun h => (List.length_modify ..).trans h) | exact (fun h => (List.length_map ..).trans h) | exact (fun h => ⟨h.1, (List.length_set ..).trans h.2⟩) | exact (fun h => h) | exact (fun _ => (List.length_set ..).trans rfl) | exact (fun _ => rfl)))
    | decide
    | with_reducible intro _ _ _
    | ((try dsimp only); split)

theorem State.setField_evolves (s : State) (die : Nat) (n : RegName) (hi lo v : Nat) :
    s.evolves (State.setField s die n hi lo v) [.regs] := by
  unfold State.setField
  repeat' first
    | assumption
    | with_reducible apply State.evolves_refl
    | with_reducible apply State.evolves_ite
    | with_reducible apply State.evolves_foldl
    | with_reducible apply State.evolves_step (State.setReg_evolves _ _ _ _)
    | decide
    | with_reducible intro _ _ _
    | ((try dsimp only); split)

theorem State.orReg_evolves (s : State) (die : Nat) (n : RegName) (mask : Nat) :
    s.evolves (State.orReg s die n mask) [.regs] := by
  unfold State.orReg
  repeat' first
    | assumption
    | with_reducible apply State.evolves_refl
    | with_reducible apply State.evolves_ite
    | with_reducible apply State.evolves_foldl
    | with_reducible apply State.evolves_step (State.setReg_evolves _ _ _ _)
    | decide
    | with_reducible intro _ _ _
    | ((try dsimp only); split)

theorem State.clearReg_evolves (s : State) (die : Nat) (n : RegName) (mask : Nat) :
    s.evolves (State.clearReg s die n mask) [.regs] := by
  unfold State.clearReg
  repeat' first
    | assumption
    | with_reducible apply State.evolves_refl
    | with_reducible apply State.evolves_ite
    | with_reducible apply State.evolves_foldl
    | with_reducible apply State.evolves_step (State.setReg_evolves _ _ _ _)
    | decide
    | with_reducible intro _ _ _
    | ((try dsimp only); split)

theorem State.flag_evolves (s : State) (die : Nat) (n : RegName) (bit : Nat) :
    s.evolves (State.flag s die n bit) [.regs] := by
  unfold State.flag
  repeat' first
    | assumption
    | with_reducible apply State.evolves_refl
    | with_reducible apply State.evolves_ite
    | with_reducible apply State.evolves_foldl
    | with_reducible apply State.evolves_step (State.orReg_evolves _ _ _ _)
    | decide
    | with_reducible intro _ _ _
    | ((try dsimp only); split)

theorem State.bump_evolves (s : State) (die : Nat) (n : RegName) (k : Nat) :
    s.evolves (State.bump s die n k) [.regs] := by
  unfold State.bump
  repeat' first
    | assumption
    | with_reducible apply State.evolves_refl
    | with_reducible apply State.evolves_ite
    | with_reducible apply State.evolves_foldl
    | with_reducible apply State.evolves_step (State.setReg_evolves _ _ _ _)
    | decide
    | with_reducible intro _ _ _
    | ((try dsimp only); split)

theorem State.flagCount_evolves (s : State) (die : Nat) (f : RegName) (bit : Nat) (c : RegName) (k : Nat) :
    s.evolves (State.flagCount s die f bit c k) [.regs] := by
  unfold State.flagCount
  repeat' first
    | assumption
    | with_reducible apply State.evolves_refl
    | with_reducible apply State.evolves_ite
    | with_reducible apply State.evolves_foldl
    | with_reducible apply State.evolves_step (State.bump_evolves _ _ _ _)
    | with_reducible apply State.evolves_step (State.flag_evolves _ _ _ _)
    | decide
    | with_reducible intro _ _ _
    | ((try dsimp only); split)

end Sys2Proof.Machine
end

