-- ==== Sys2Proof/Laws/FrameOps.lean ====
section
/-! SUPPORT. What each operation of Machine/Ops.lean may change. -/

namespace Sys2Proof.Machine

theorem State.writeMem_evolves (s : State) (a : Nat) (bs : Bytes) : s.evolves (State.writeMem s a bs) [.mem] :=
  State.evolves_set_mem (by decide) (SMap.wf_setMany 0 s.mem a bs) (State.evolves_refl _ _)

theorem State.zeroMem_evolves (s : State) (a n : Nat) : s.evolves (State.zeroMem s a n) [.mem] :=
  State.evolves_set_mem (by decide) (SMap.wf_eraseRange 0 s.mem a n) (State.evolves_refl _ _)

theorem State.store_evolves (s : State) (a : Nat) (bs : Bytes) :
    s.evolves (State.store s a bs) [.mem, .dram] := by
  unfold State.store
  repeat' first
    | assumption
    | with_reducible apply State.evolves_refl
    | with_reducible apply State.evolves_ite
    | with_reducible apply State.evolves_foldl
    | with_reducible apply State.evolves_step (State.writeMem_evolves _ _ _)
    | fail_if_no_progress ((with_reducible apply State.evolves_set_dram); decide)
    | decide
    | with_reducible intro _ _ _
    | ((try dsimp only); split)

theorem State.zeroStore_evolves (s : State) (a n : Nat) :
    s.evolves (State.zeroStore s a n) [.mem, .dram] := by
  unfold State.zeroStore
  repeat' first
    | assumption
    | with_reducible apply State.evolves_refl
    | with_reducible apply State.evolves_ite
    | with_reducible apply State.evolves_foldl
    | with_reducible apply State.evolves_step (State.zeroMem_evolves _ _ _)
    | fail_if_no_progress ((with_reducible apply State.evolves_set_dram); decide)
    | decide
    | with_reducible intro _ _ _
    | ((try dsimp only); split)

theorem State.setFret_evolves (s : State) (i : Nat) (f : Fret) :
    s.evolves (State.setFret s i f) [.frets] := by
  unfold State.setFret
  repeat' first
    | assumption
    | with_reducible apply State.evolves_refl
    | with_reducible apply State.evolves_ite
    | with_reducible apply State.evolves_foldl
    | fail_if_no_progress ((with_reducible apply State.evolves_set_frets); decide; (first | (with_reducible exact fun h => h) | exact (fun h => SMap.wf_set _ _ _ _ h) | exact (fun h => SMap.wf_setMany _ _ _ _ h) | exact (fun h => SMap.wf_eraseRange _ _ _ _ h) | exact (fun h => SMap.wfFrom_filter _ _ _ _ h) | exact (fun h => (List.length_set ..).trans h) | exact (fun h => (List.length_modify ..).trans h) | exact (fun h => (List.length_map ..).trans h) | exact (fun h => ⟨h.1, (List.length_set ..).trans h.2⟩) | exact (fun h => h) | exact (fun _ => (List.length_set ..).trans rfl) | exact (fun _ => rfl)))
    | decide
    | with_reducible intro _ _ _
    | ((try dsimp only); split)

theorem State.updFret_evolves (s : State) (i : Nat) (g : Fret → Fret) :
    s.evolves (State.updFret s i g) [.frets] := by
  unfold State.updFret
  repeat' first
    | assumption
    | with_reducible apply State.evolves_refl
    | with_reducible apply State.evolves_ite
    | with_reducible apply State.evolves_foldl
    | with_reducible apply State.evolves_step (State.setFret_evolves _ _ _)
    | decide
    | with_reducible intro _ _ _
    | ((try dsimp only); split)

theorem State.sramCe_evolves (s : State) (d n : Nat) :
    s.evolves (State.sramCe s d n) [.regs] := by
  unfold State.sramCe
  repeat' first
    | assumption
    | with_reducible apply State.evolves_refl
    | with_reducible apply State.evolves_ite
    | with_reducible apply State.evolves_foldl
    | with_reducible apply State.evolves_step (State.flagCount_evolves _ _ _ _ _ _)
    | decide
    | with_reducible intro _ _ _
    | ((try dsimp only); split)

theorem State.setLane_evolves (s : State) (i : Nat) (l : SLane) :
    s.evolves (State.setLane s i l) [.slanes] := by
  unfold State.setLane
  repeat' first
    | assumption
    | with_reducible apply State.evolves_refl
    | with_reducible apply State.evolves_ite
    | with_reducible apply State.evolves_foldl
    | fail_if_no_progress ((with_reducible apply State.evolves_set_slanes); decide; (first | (with_reducible exact fun h => h) | exact (fun h => SMap.wf_set _ _ _ _ h) | exact (fun h => SMap.wf_setMany _ _ _ _ h) | exact (fun h => SMap.wf_eraseRange _ _ _ _ h) | exact (fun h => SMap.wfFrom_filter _ _ _ _ h) | exact (fun h => (List.length_set ..).trans h) | exact (fun h => (List.length_modify ..).trans h) | exact (fun h => (List.length_map ..).trans h) | exact (fun h => ⟨h.1, (List.length_set ..).trans h.2⟩) | exact (fun h => h) | exact (fun _ => (List.length_set ..).trans rfl) | exact (fun _ => rfl)))
    | decide
    | with_reducible intro _ _ _
    | ((try dsimp only); split)

theorem State.setCDie_evolves (s : State) (d : Nat) (c : CDie) :
    s.evolves (State.setCDie s d c) [.board] := by
  unfold State.setCDie
  repeat' first
    | assumption
    | with_reducible apply State.evolves_refl
    | with_reducible apply State.evolves_ite
    | with_reducible apply State.evolves_foldl
    | fail_if_no_progress ((with_reducible apply State.evolves_set_board); decide)
    | decide
    | with_reducible intro _ _ _
    | ((try dsimp only); split)

theorem State.updBoard_evolves (s : State) (g : Board → Board) :
    s.evolves (State.updBoard s g) [.board] := by
  unfold State.updBoard
  repeat' first
    | assumption
    | with_reducible apply State.evolves_refl
    | with_reducible apply State.evolves_ite
    | with_reducible apply State.evolves_foldl
    | fail_if_no_progress ((with_reducible apply State.evolves_set_board); decide)
    | decide
    | with_reducible intro _ _ _
    | ((try dsimp only); split)

theorem State.setOd_evolves (s : State) (k : Nat) (b : Bytes) :
    s.evolves (State.setOd s k b) [.dict] := by
  unfold State.setOd
  repeat' first
    | assumption
    | with_reducible apply State.evolves_refl
    | with_reducible apply State.evolves_ite
    | with_reducible apply State.evolves_foldl
    | fail_if_no_progress ((with_reducible apply State.evolves_set_dict); decide; (first | (with_reducible exact fun h => h) | exact (fun h => SMap.wf_set _ _ _ _ h) | exact (fun h => SMap.wf_setMany _ _ _ _ h) | exact (fun h => SMap.wf_eraseRange _ _ _ _ h) | exact (fun h => SMap.wfFrom_filter _ _ _ _ h) | exact (fun h => (List.length_set ..).trans h) | exact (fun h => (List.length_modify ..).trans h) | exact (fun h => (List.length_map ..).trans h) | exact (fun h => ⟨h.1, (List.length_set ..).trans h.2⟩) | exact (fun h => h) | exact (fun _ => (List.length_set ..).trans rfl) | exact (fun _ => rfl)))
    | decide
    | with_reducible intro _ _ _
    | ((try dsimp only); split)

theorem State.setFn_evolves (s : State) (i v : Nat) :
    s.evolves (State.setFn s i v) [.dict] := by
  unfold State.setFn
  repeat' first
    | assumption
    | with_reducible apply State.evolves_refl
    | with_reducible apply State.evolves_ite
    | with_reducible apply State.evolves_foldl
    | fail_if_no_progress ((with_reducible apply State.evolves_set_dict); decide; (first | (with_reducible exact fun h => h) | exact (fun h => SMap.wf_set _ _ _ _ h) | exact (fun h => SMap.wf_setMany _ _ _ _ h) | exact (fun h => SMap.wf_eraseRange _ _ _ _ h) | exact (fun h => SMap.wfFrom_filter _ _ _ _ h) | exact (fun h => (List.length_set ..).trans h) | exact (fun h => (List.length_modify ..).trans h) | exact (fun h => (List.length_map ..).trans h) | exact (fun h => ⟨h.1, (List.length_set ..).trans h.2⟩) | exact (fun h => h) | exact (fun _ => (List.length_set ..).trans rfl) | exact (fun _ => rfl)))
    | decide
    | with_reducible intro _ _ _
    | ((try dsimp only); split)

theorem State.draw_evolves (s : State) :
    s.evolves (State.draw s).2 [.free] := by
  unfold State.draw
  repeat' first
    | assumption
    | with_reducible apply State.evolves_refl
    | with_reducible apply State.evolves_ite
    | with_reducible apply State.evolves_foldl
    | with_reducible apply State.evolves_ite_snd
    | with_reducible apply State.evolves_foldl_snd
    | fail_if_no_progress ((with_reducible apply State.evolves_set_free); decide)
    | decide
    | with_reducible intro _ _ _
    | ((try dsimp only); split)

theorem State.drawBytes_evolves (s : State) (n : Nat) :
    s.evolves (State.drawBytes s n).2 [.free] := by
  unfold State.drawBytes
  repeat' first
    | assumption
    | with_reducible apply State.evolves_refl
    | with_reducible apply State.evolves_ite
    | with_reducible apply State.evolves_foldl
    | with_reducible apply State.evolves_ite_snd
    | with_reducible apply State.evolves_foldl_snd
    | fail_if_no_progress ((with_reducible apply State.evolves_set_free); decide)
    | decide
    | with_reducible intro _ _ _
    | ((try dsimp only); split)

theorem State.notify_evolves (s : State) (record : Bytes) :
    s.evolves (State.notify s record) [.regs, .dict] := by
  unfold State.notify
  repeat' first
    | assumption
    | with_reducible apply State.evolves_refl
    | with_reducible apply State.evolves_ite
    | with_reducible apply State.evolves_foldl
    | with_reducible apply State.evolves_step (State.flag_evolves _ _ _ _)
    | fail_if_no_progress ((with_reducible apply State.evolves_set_dict); decide; (first | (with_reducible exact fun h => h) | exact (fun h => SMap.wf_set _ _ _ _ h) | exact (fun h => SMap.wf_setMany _ _ _ _ h) | exact (fun h => SMap.wf_eraseRange _ _ _ _ h) | exact (fun h => SMap.wfFrom_filter _ _ _ _ h) | exact (fun h => (List.length_set ..).trans h) | exact (fun h => (List.length_modify ..).trans h) | exact (fun h => (List.length_map ..).trans h) | exact (fun h => ⟨h.1, (List.length_set ..).trans h.2⟩) | exact (fun h => h) | exact (fun _ => (List.length_set ..).trans rfl) | exact (fun _ => rfl)))
    | decide
    | with_reducible intro _ _ _
    | ((try dsimp only); split)

theorem State.logRecord_evolves (s : State) (record : Bytes) : s.evolves (State.logRecord s record) [.regs, .dict] := by
  unfold State.logRecord
  dsimp only
  refine State.evolves_step (State.notify_evolves _ _) ?_ (by decide)
  exact State.evolves_set_dict (by decide) (fun h => ⟨by simp only [List.length_take]; omega, h.2⟩) (State.evolves_refl _ _)

theorem State.event_evolves (s : State) (code : Nat) (params : Bytes) :
    s.evolves (State.event s code params) [.regs, .dict] := by
  unfold State.event
  repeat' first
    | assumption
    | with_reducible apply State.evolves_refl
    | with_reducible apply State.evolves_ite
    | with_reducible apply State.evolves_foldl
    | with_reducible apply State.evolves_step (State.logRecord_evolves _ _)
    | decide
    | with_reducible intro _ _ _
    | ((try dsimp only); split)

theorem State.framWrite_evolves (s : State) :
    s.evolves (State.framWrite s) [.regs] := by
  unfold State.framWrite
  repeat' first
    | assumption
    | with_reducible apply State.evolves_refl
    | with_reducible apply State.evolves_ite
    | with_reducible apply State.evolves_foldl
    | with_reducible apply State.evolves_step (State.flag_evolves _ _ _ _)
    | decide
    | with_reducible intro _ _ _
    | ((try dsimp only); split)

theorem State.lifeLog_evolves (s : State) (kind die unit detail : Nat) :
    s.evolves (State.lifeLog s kind die unit detail) [.regs, .life] := by
  unfold State.lifeLog
  dsimp only
  refine State.evolves_set_life (by decide) (fun _ => by simp only [List.length_take]; omega) ?_
  refine State.evolves_step (State.framWrite_evolves _) ?_ (by decide)
  exact State.evolves_ite (State.evolves_wider (State.flag_evolves _ _ _ _) (by decide)) (State.evolves_refl _ _)

theorem State.updSpare_evolves (s : State) (g : SpareRec → SpareRec) :
    s.evolves (State.updSpare s g) [.life] := by
  unfold State.updSpare
  repeat' first
    | assumption
    | with_reducible apply State.evolves_refl
    | with_reducible apply State.evolves_ite
    | with_reducible apply State.evolves_foldl
    | fail_if_no_progress ((with_reducible apply State.evolves_set_life); decide; (first | (with_reducible exact fun h => h) | exact (fun h => SMap.wf_set _ _ _ _ h) | exact (fun h => SMap.wf_setMany _ _ _ _ h) | exact (fun h => SMap.wf_eraseRange _ _ _ _ h) | exact (fun h => SMap.wfFrom_filter _ _ _ _ h) | exact (fun h => (List.length_set ..).trans h) | exact (fun h => (List.length_modify ..).trans h) | exact (fun h => (List.length_map ..).trans h) | exact (fun h => ⟨h.1, (List.length_set ..).trans h.2⟩) | exact (fun h => h) | exact (fun _ => (List.length_set ..).trans rfl) | exact (fun _ => rfl)))
    | decide
    | with_reducible intro _ _ _
    | ((try dsimp only); split)

theorem State.logSubst_evolves (s : State) (die block unit detail : Nat) :
    s.evolves (State.logSubst s die block unit detail) [.regs, .life] := by
  unfold State.logSubst
  repeat' first
    | assumption
    | with_reducible apply State.evolves_refl
    | with_reducible apply State.evolves_ite
    | with_reducible apply State.evolves_foldl
    | with_reducible apply State.evolves_step (State.lifeLog_evolves _ _ _ _ _)
    | decide
    | with_reducible intro _ _ _
    | ((try dsimp only); split)

theorem State.wear_evolves (s : State) (key n : Nat) :
    s.evolves (State.wear s key n) [.life] := by
  unfold State.wear
  repeat' first
    | assumption
    | with_reducible apply State.evolves_refl
    | with_reducible apply State.evolves_ite
    | with_reducible apply State.evolves_foldl
    | fail_if_no_progress ((with_reducible apply State.evolves_set_life); decide; (first | (with_reducible exact fun h => h) | exact (fun h => SMap.wf_set _ _ _ _ h) | exact (fun h => SMap.wf_setMany _ _ _ _ h) | exact (fun h => SMap.wf_eraseRange _ _ _ _ h) | exact (fun h => SMap.wfFrom_filter _ _ _ _ h) | exact (fun h => (List.length_set ..).trans h) | exact (fun h => (List.length_modify ..).trans h) | exact (fun h => (List.length_map ..).trans h) | exact (fun h => ⟨h.1, (List.length_set ..).trans h.2⟩) | exact (fun h => h) | exact (fun _ => (List.length_set ..).trans rfl) | exact (fun _ => rfl)))
    | decide
    | with_reducible intro _ _ _
    | ((try dsimp only); split)

theorem State.nvPulse_evolves (s : State) (item n : Nat) :
    s.evolves (State.nvPulse s item n) [.rst, .life] := by
  unfold State.nvPulse
  repeat' first
    | assumption
    | with_reducible apply State.evolves_refl
    | with_reducible apply State.evolves_ite
    | with_reducible apply State.evolves_foldl
    | with_reducible apply State.evolves_step (State.wear_evolves _ _ _)
    | fail_if_no_progress ((with_reducible apply State.evolves_set_rst); decide; (first | (with_reducible exact fun h => h) | exact (fun h => SMap.wf_set _ _ _ _ h) | exact (fun h => SMap.wf_setMany _ _ _ _ h) | exact (fun h => SMap.wf_eraseRange _ _ _ _ h) | exact (fun h => SMap.wfFrom_filter _ _ _ _ h) | exact (fun h => (List.length_set ..).trans h) | exact (fun h => (List.length_modify ..).trans h) | exact (fun h => (List.length_map ..).trans h) | exact (fun h => ⟨h.1, (List.length_set ..).trans h.2⟩) | exact (fun h => h) | exact (fun _ => (List.length_set ..).trans rfl) | exact (fun _ => rfl)))
    | decide
    | with_reducible intro _ _ _
    | ((try dsimp only); split)

theorem State.tellLevel_evolves (s : State) :
    s.evolves (State.tellLevel s) [.regs, .dict, .life] := by
  unfold State.tellLevel
  repeat' first
    | assumption
    | with_reducible apply State.evolves_refl
    | with_reducible apply State.evolves_ite
    | with_reducible apply State.evolves_foldl
    | with_reducible apply State.evolves_step (State.event_evolves _ _ _)
    | with_reducible apply State.evolves_step (State.lifeLog_evolves _ _ _ _ _)
    | fail_if_no_progress ((with_reducible apply State.evolves_set_life); decide; (first | (with_reducible exact fun h => h) | exact (fun h => SMap.wf_set _ _ _ _ h) | exact (fun h => SMap.wf_setMany _ _ _ _ h) | exact (fun h => SMap.wf_eraseRange _ _ _ _ h) | exact (fun h => SMap.wfFrom_filter _ _ _ _ h) | exact (fun h => (List.length_set ..).trans h) | exact (fun h => (List.length_modify ..).trans h) | exact (fun h => (List.length_map ..).trans h) | exact (fun h => ⟨h.1, (List.length_set ..).trans h.2⟩) | exact (fun h => h) | exact (fun _ => (List.length_set ..).trans rfl) | exact (fun _ => rfl)))
    | decide
    | with_reducible intro _ _ _
    | ((try dsimp only); split)

theorem State.relevel_evolves (s : State) (die block : Nat) :
    s.evolves (State.relevel s die block) [.regs, .dict, .life] := by
  unfold State.relevel
  repeat' first
    | assumption
    | with_reducible apply State.evolves_refl
    | with_reducible apply State.evolves_ite
    | with_reducible apply State.evolves_foldl
    | with_reducible apply State.evolves_step (State.tellLevel_evolves _)
    | fail_if_no_progress ((with_reducible apply State.evolves_set_life); decide; (first | (with_reducible exact fun h => h) | exact (fun h => SMap.wf_set _ _ _ _ h) | exact (fun h => SMap.wf_setMany _ _ _ _ h) | exact (fun h => SMap.wf_eraseRange _ _ _ _ h) | exact (fun h => SMap.wfFrom_filter _ _ _ _ h) | exact (fun h => (List.length_set ..).trans h) | exact (fun h => (List.length_modify ..).trans h) | exact (fun h => (List.length_map ..).trans h) | exact (fun h => ⟨h.1, (List.length_set ..).trans h.2⟩) | exact (fun h => h) | exact (fun _ => (List.length_set ..).trans rfl) | exact (fun _ => rfl)))
    | decide
    | with_reducible intro _ _ _
    | ((try dsimp only); split)

theorem State.leaveService_evolves (s : State) (die block unit : Nat) :
    s.evolves (State.leaveService s die block unit) [.regs, .dict, .life] := by
  unfold State.leaveService
  repeat' first
    | assumption
    | with_reducible apply State.evolves_refl
    | with_reducible apply State.evolves_ite
    | with_reducible apply State.evolves_foldl
    | with_reducible apply State.evolves_step (State.relevel_evolves _ _ _)
    | fail_if_no_progress ((with_reducible apply State.evolves_set_life); decide; (first | (with_reducible exact fun h => h) | exact (fun h => SMap.wf_set _ _ _ _ h) | exact (fun h => SMap.wf_setMany _ _ _ _ h) | exact (fun h => SMap.wf_eraseRange _ _ _ _ h) | exact (fun h => SMap.wfFrom_filter _ _ _ _ h) | exact (fun h => (List.length_set ..).trans h) | exact (fun h => (List.length_modify ..).trans h) | exact (fun h => (List.length_map ..).trans h) | exact (fun h => ⟨h.1, (List.length_set ..).trans h.2⟩) | exact (fun h => h) | exact (fun _ => (List.length_set ..).trans rfl) | exact (fun _ => rfl)))
    | decide
    | with_reducible intro _ _ _
    | ((try dsimp only); split)

end Sys2Proof.Machine
end

