-- ==== Sys2Proof/Laws/FrameGuard.lean ====
section
/-! SUPPORT. What each operation of Machine/Guard.lean may change. -/

namespace Sys2Proof.Machine

theorem State.denied_evolves (s : State) (die block : Nat) :
    s.evolves (State.denied s die block) [.regs] := by
  unfold State.denied
  repeat' first
    | assumption
    | with_reducible apply State.evolves_refl
    | with_reducible apply State.evolves_ite
    | with_reducible apply State.evolves_foldl
    | with_reducible apply State.evolves_step (State.flag_evolves _ _ _ _)
    | decide
    | with_reducible intro _ _ _
    | ((try dsimp only); split)

end Sys2Proof.Machine
end

