-- ==== Sys2Proof/Laws/FrameVoicing.lean ====
section
/-! SUPPORT. What each operation of Machine/Voicing.lean may change. -/

namespace Sys2Proof.Machine

theorem State.sweepTables_evolves (s : State) (d : Nat) :
    s.evolves (State.sweepTables s d) [.board] := by
  unfold State.sweepTables
  repeat' first
    | assumption
    | with_reducible apply State.evolves_refl
    | with_reducible apply State.evolves_ite
    | with_reducible apply State.evolves_foldl
    | with_reducible apply State.evolves_step (State.setCDie_evolves _ _ _)
    | decide
    | with_reducible intro _ _ _
    | ((try dsimp only); split)

end Sys2Proof.Machine
end

