-- ==== Sys2Proof/Laws/FrameWindow.lean ====
section
/-! SUPPORT. What each operation of Machine/Window.lean may change. -/

namespace Sys2Proof.Machine

theorem State.answer_evolves (s : State) (cls addr : Nat) (bs : Bytes) (bad : Bool) :
    s.evolves (State.answer s cls addr bs bad) [.dram] := by
  unfold State.answer
  repeat' first
    | assumption
    | with_reducible apply State.evolves_refl
    | with_reducible apply State.evolves_ite
    | with_reducible apply State.evolves_foldl
    | fail_if_no_progress ((with_reducible apply State.evolves_set_dram); decide)
    | decide
    | with_reducible intro _ _ _
    | ((try dsimp only); split)

theorem State.windowWord_evolves (s : State) (i w : Nat) (x : F32) :
    s.evolves (State.windowWord s i w x) [.frets] := by
  unfold State.windowWord
  repeat' first
    | assumption
    | with_reducible apply State.evolves_refl
    | with_reducible apply State.evolves_ite
    | with_reducible apply State.evolves_foldl
    | with_reducible apply State.evolves_step (State.updFret_evolves _ _ _)
    | decide
    | with_reducible intro _ _ _
    | ((try dsimp only); split)

theorem State.windowPut_evolves (s : State) (i w width data : Nat) :
    s.evolves (State.windowPut s i w width data) [.frets] := by
  unfold State.windowPut
  repeat' first
    | assumption
    | with_reducible apply State.evolves_refl
    | with_reducible apply State.evolves_ite
    | with_reducible apply State.evolves_foldl
    | with_reducible apply State.evolves_step (State.updFret_evolves _ _ _)
    | with_reducible apply State.evolves_step (State.windowWord_evolves _ _ _ _)
    | decide
    | with_reducible intro _ _ _
    | ((try dsimp only); split)

theorem State.windowAccess_evolves (s : State) (x : WindowWait) :
    s.evolves (State.windowAccess s x) [.frets, .board, .dram] := by
  unfold State.windowAccess
  repeat' first
    | assumption
    | with_reducible apply State.evolves_refl
    | with_reducible apply State.evolves_ite
    | with_reducible apply State.evolves_foldl
    | with_reducible apply State.evolves_step (State.answer_evolves _ _ _ _ _)
    | with_reducible apply State.evolves_step (State.updBoard_evolves _ _)
    | with_reducible apply State.evolves_step (State.windowPut_evolves _ _ _ _ _)
    | decide
    | with_reducible intro _ _ _
    | ((try dsimp only); split)

theorem State.serveWindows_evolves (s : State) :
    s.evolves (State.serveWindows s) [.frets, .board, .dram] := by
  unfold State.serveWindows
  repeat' first
    | assumption
    | with_reducible apply State.evolves_refl
    | with_reducible apply State.evolves_ite
    | with_reducible apply State.evolves_foldl
    | with_reducible apply State.evolves_step (State.updBoard_evolves _ _)
    | with_reducible apply State.evolves_step (State.windowAccess_evolves _ _)
    | decide
    | with_reducible intro _ _ _
    | ((try dsimp only); split)

theorem State.windowWrite_evolves (s : State) (addr width data : Nat) :
    s.evolves (State.windowWrite s addr width data) [.frets, .board, .dram] := by
  unfold State.windowWrite
  repeat' first
    | assumption
    | with_reducible apply State.evolves_refl
    | with_reducible apply State.evolves_ite
    | with_reducible apply State.evolves_foldl
    | with_reducible apply State.evolves_step (State.windowAccess_evolves _ _)
    | decide
    | with_reducible intro _ _ _
    | ((try dsimp only); split)

theorem State.windowFetch_evolves (s : State) (cls addr width : Nat) :
    s.evolves (State.windowFetch s cls addr width) [.frets, .board, .dram] := by
  unfold State.windowFetch
  repeat' first
    | assumption
    | with_reducible apply State.evolves_refl
    | with_reducible apply State.evolves_ite
    | with_reducible apply State.evolves_foldl
    | with_reducible apply State.evolves_step (State.answer_evolves _ _ _ _ _)
    | with_reducible apply State.evolves_step (State.windowAccess_evolves _ _)
    | decide
    | with_reducible intro _ _ _
    | ((try dsimp only); split)

theorem State.windowTimeout_evolves (s : State) (i : Nat) (write : Bool) :
    s.evolves (State.windowTimeout s i write) [.regs, .board, .dram] := by
  unfold State.windowTimeout
  repeat' first
    | assumption
    | with_reducible apply State.evolves_refl
    | with_reducible apply State.evolves_ite
    | with_reducible apply State.evolves_foldl
    | with_reducible apply State.evolves_step (State.answer_evolves _ _ _ _ _)
    | with_reducible apply State.evolves_step (State.flag_evolves _ _ _ _)
    | with_reducible apply State.evolves_step (State.updBoard_evolves _ _)
    | decide
    | with_reducible intro _ _ _
    | ((try dsimp only); split)

end Sys2Proof.Machine
end

