-- ==== Sys2Proof/Laws/FrameJob.lean ====
section
/-! SUPPORT. What each operation of Machine/Job.lean may change. -/

namespace Sys2Proof.Machine

theorem State.placeSeed_evolves (s : State) :
    s.evolves (State.placeSeed s) [.frets] := by
  unfold State.placeSeed
  repeat' first
    | assumption
    | with_reducible apply State.evolves_refl
    | with_reducible apply State.evolves_ite
    | with_reducible apply State.evolves_foldl
    | with_reducible apply State.evolves_step (State.updFret_evolves _ _ _)
    | decide
    | with_reducible intro _ _ _
    | ((try dsimp only); split)

theorem State.setCube_evolves (s : State) (c : Int) :
    s.evolves (State.setCube s c) [.regs, .frets] := by
  unfold State.setCube
  repeat' first
    | assumption
    | with_reducible apply State.evolves_refl
    | with_reducible apply State.evolves_ite
    | with_reducible apply State.evolves_foldl
    | with_reducible apply State.evolves_step (State.placeSeed_evolves _)
    | with_reducible apply State.evolves_step (State.setReg_evolves _ _ _ _)
    | decide
    | with_reducible intro _ _ _
    | ((try dsimp only); split)

theorem State.sendFrame_evolves (s : State) (prio due type flags id step : Nat) (body : Bytes) :
    s.evolves (State.sendFrame s prio due type flags id step body) [.vlk] := by
  unfold State.sendFrame
  repeat' first
    | assumption
    | with_reducible apply State.evolves_refl
    | with_reducible apply State.evolves_ite
    | with_reducible apply State.evolves_foldl
    | fail_if_no_progress ((with_reducible apply State.evolves_set_vlk); decide)
    | decide
    | with_reducible intro _ _ _
    | ((try dsimp only); split)

theorem State.sendStatusFor_evolves (s : State) (id : Nat) (recs : List (Nat × Nat × Nat × Nat × Nat × Nat)) :
    s.evolves (State.sendStatusFor s id recs) [.vlk, .adm] := by
  unfold State.sendStatusFor
  repeat' first
    | assumption
    | with_reducible apply State.evolves_refl
    | with_reducible apply State.evolves_ite
    | with_reducible apply State.evolves_foldl
    | with_reducible apply State.evolves_step (State.sendFrame_evolves _ _ _ _ _ _ _ _)
    | fail_if_no_progress ((with_reducible apply State.evolves_set_adm); decide; (first | (with_reducible exact fun h => h) | exact (fun h => SMap.wf_set _ _ _ _ h) | exact (fun h => SMap.wf_setMany _ _ _ _ h) | exact (fun h => SMap.wf_eraseRange _ _ _ _ h) | exact (fun h => SMap.wfFrom_filter _ _ _ _ h) | exact (fun h => (List.length_set ..).trans h) | exact (fun h => (List.length_modify ..).trans h) | exact (fun h => (List.length_map ..).trans h) | exact (fun h => ⟨h.1, (List.length_set ..).trans h.2⟩) | exact (fun h => h) | exact (fun _ => (List.length_set ..).trans rfl) | exact (fun _ => rfl)))
    | decide
    | with_reducible intro _ _ _
    | ((try dsimp only); split)

theorem State.sendStatus_evolves (s : State) (recs : List (Nat × Nat × Nat × Nat × Nat × Nat)) :
    s.evolves (State.sendStatus s recs) [.vlk, .adm] := by
  unfold State.sendStatus
  repeat' first
    | assumption
    | with_reducible apply State.evolves_refl
    | with_reducible apply State.evolves_ite
    | with_reducible apply State.evolves_foldl
    | with_reducible apply State.evolves_step (State.sendStatusFor_evolves _ _ _)
    | decide
    | with_reducible intro _ _ _
    | ((try dsimp only); split)

theorem State.releaseNever_evolves (s : State) (g : HeldFrame → HeldFrame) :
    s.evolves (State.releaseNever s g) [.adm] := by
  unfold State.releaseNever
  repeat' first
    | assumption
    | with_reducible apply State.evolves_refl
    | with_reducible apply State.evolves_ite
    | with_reducible apply State.evolves_foldl
    | fail_if_no_progress ((with_reducible apply State.evolves_set_adm); decide; (first | (with_reducible exact fun h => h) | exact (fun h => SMap.wf_set _ _ _ _ h) | exact (fun h => SMap.wf_setMany _ _ _ _ h) | exact (fun h => SMap.wf_eraseRange _ _ _ _ h) | exact (fun h => SMap.wfFrom_filter _ _ _ _ h) | exact (fun h => (List.length_set ..).trans h) | exact (fun h => (List.length_modify ..).trans h) | exact (fun h => (List.length_map ..).trans h) | exact (fun h => ⟨h.1, (List.length_set ..).trans h.2⟩) | exact (fun h => h) | exact (fun _ => (List.length_set ..).trans rfl) | exact (fun _ => rfl)))
    | decide
    | with_reducible intro _ _ _
    | ((try dsimp only); split)

theorem State.breakFrames_evolves (s : State) (cls step : Nat) (news : List (Nat × Nat)) :
    s.evolves (State.breakFrames s cls step news) [.regs, .vlk, .adm, .dict] := by
  unfold State.breakFrames
  repeat' first
    | assumption
    | with_reducible apply State.evolves_refl
    | with_reducible apply State.evolves_ite
    | with_reducible apply State.evolves_foldl
    | with_reducible apply State.evolves_step (State.bump_evolves _ _ _ _)
    | with_reducible apply State.evolves_step (State.event_evolves _ _ _)
    | with_reducible apply State.evolves_step (State.orReg_evolves _ _ _ _)
    | with_reducible apply State.evolves_step (State.releaseNever_evolves _ _)
    | with_reducible apply State.evolves_step (State.sendStatus_evolves _ _)
    | fail_if_no_progress ((with_reducible apply State.evolves_set_adm); decide; (first | (with_reducible exact fun h => h) | exact (fun h => SMap.wf_set _ _ _ _ h) | exact (fun h => SMap.wf_setMany _ _ _ _ h) | exact (fun h => SMap.wf_eraseRange _ _ _ _ h) | exact (fun h => SMap.wfFrom_filter _ _ _ _ h) | exact (fun h => (List.length_set ..).trans h) | exact (fun h => (List.length_modify ..).trans h) | exact (fun h => (List.length_map ..).trans h) | exact (fun h => ⟨h.1, (List.length_set ..).trans h.2⟩) | exact (fun h => h) | exact (fun _ => (List.length_set ..).trans rfl) | exact (fun _ => rfl)))
    | decide
    | with_reducible intro _ _ _
    | ((try dsimp only); split)

theorem State.raiseFrames_evolves (s : State) (news : List (Nat × Nat)) :
    s.evolves (State.raiseFrames s news) [.vlk, .adm] := by
  unfold State.raiseFrames
  repeat' first
    | assumption
    | with_reducible apply State.evolves_refl
    | with_reducible apply State.evolves_ite
    | with_reducible apply State.evolves_foldl
    | with_reducible apply State.evolves_step (State.sendStatus_evolves _ _)
    | fail_if_no_progress ((with_reducible apply State.evolves_set_adm); decide; (first | (with_reducible exact fun h => h) | exact (fun h => SMap.wf_set _ _ _ _ h) | exact (fun h => SMap.wf_setMany _ _ _ _ h) | exact (fun h => SMap.wf_eraseRange _ _ _ _ h) | exact (fun h => SMap.wfFrom_filter _ _ _ _ h) | exact (fun h => (List.length_set ..).trans h) | exact (fun h => (List.length_modify ..).trans h) | exact (fun h => (List.length_map ..).trans h) | exact (fun h => ⟨h.1, (List.length_set ..).trans h.2⟩) | exact (fun h => h) | exact (fun _ => (List.length_set ..).trans rfl) | exact (fun _ => rfl)))
    | decide
    | with_reducible intro _ _ _
    | ((try dsimp only); split)

theorem State.breakStep_evolves (s : State) (cls : Nat) (reload : Option Nat) :
    s.evolves (State.breakStep s cls reload) [.regs, .vlk, .adm, .dict] := by
  unfold State.breakStep
  repeat' first
    | assumption
    | with_reducible apply State.evolves_refl
    | with_reducible apply State.evolves_ite
    | with_reducible apply State.evolves_foldl
    | with_reducible apply State.evolves_step (State.breakFrames_evolves _ _ _ _)
    | fail_if_no_progress ((with_reducible apply State.evolves_set_adm); decide; (first | (with_reducible exact fun h => h) | exact (fun h => SMap.wf_set _ _ _ _ h) | exact (fun h => SMap.wf_setMany _ _ _ _ h) | exact (fun h => SMap.wf_eraseRange _ _ _ _ h) | exact (fun h => SMap.wfFrom_filter _ _ _ _ h) | exact (fun h => (List.length_set ..).trans h) | exact (fun h => (List.length_modify ..).trans h) | exact (fun h => (List.length_map ..).trans h) | exact (fun h => ⟨h.1, (List.length_set ..).trans h.2⟩) | exact (fun h => h) | exact (fun _ => (List.length_set ..).trans rfl) | exact (fun _ => rfl)))
    | decide
    | with_reducible intro _ _ _
    | ((try dsimp only); split)

theorem State.mapFrets_evolves (s : State) (p : Nat → Fret → Bool) (g : Nat → Fret → Fret) :
    s.evolves (State.mapFrets s p g) [.frets] := by
  unfold State.mapFrets
  repeat' first
    | assumption
    | with_reducible apply State.evolves_refl
    | with_reducible apply State.evolves_ite
    | with_reducible apply State.evolves_foldl
    | with_reducible apply State.evolves_step (State.setFret_evolves _ _ _)
    | decide
    | with_reducible intro _ _ _
    | ((try dsimp only); split)

theorem State.stopFrets_evolves (s : State) (dies : List Nat) :
    s.evolves (State.stopFrets s dies) [.frets] := by
  unfold State.stopFrets
  repeat' first
    | assumption
    | with_reducible apply State.evolves_refl
    | with_reducible apply State.evolves_ite
    | with_reducible apply State.evolves_foldl
    | with_reducible apply State.evolves_step (State.mapFrets_evolves _ _ _)
    | decide
    | with_reducible intro _ _ _
    | ((try dsimp only); split)

theorem State.abandonSnap_evolves (s : State) :
    s.evolves (State.abandonSnap s) [.regs, .upd, .vlk, .adm] := by
  unfold State.abandonSnap
  repeat' first
    | assumption
    | with_reducible apply State.evolves_refl
    | with_reducible apply State.evolves_ite
    | with_reducible apply State.evolves_foldl
    | with_reducible apply State.evolves_step (State.clearReg_evolves _ _ _ _)
    | with_reducible apply State.evolves_step (State.sendStatus_evolves _ _)
    | fail_if_no_progress ((with_reducible apply State.evolves_set_upd_adm); decide; (first | (with_reducible exact fun h => h) | exact (fun h => SMap.wf_set _ _ _ _ h) | exact (fun h => SMap.wf_setMany _ _ _ _ h) | exact (fun h => SMap.wf_eraseRange _ _ _ _ h) | exact (fun h => SMap.wfFrom_filter _ _ _ _ h) | exact (fun h => (List.length_set ..).trans h) | exact (fun h => (List.length_modify ..).trans h) | exact (fun h => (List.length_map ..).trans h) | exact (fun h => ⟨h.1, (List.length_set ..).trans h.2⟩) | exact (fun h => h) | exact (fun _ => (List.length_set ..).trans rfl) | exact (fun _ => rfl)); (first | (with_reducible exact fun h => h) | exact (fun h => SMap.wf_set _ _ _ _ h) | exact (fun h => SMap.wf_setMany _ _ _ _ h) | exact (fun h => SMap.wf_eraseRange _ _ _ _ h) | exact (fun h => SMap.wfFrom_filter _ _ _ _ h) | exact (fun h => (List.length_set ..).trans h) | exact (fun h => (List.length_modify ..).trans h) | exact (fun h => (List.length_map ..).trans h) | exact (fun h => ⟨h.1, (List.length_set ..).trans h.2⟩) | exact (fun h => h) | exact (fun _ => (List.length_set ..).trans rfl) | exact (fun _ => rfl)))
    | decide
    | with_reducible intro _ _ _
    | ((try dsimp only); split)

theorem State.recordTime_evolves (s : State) (die vid cycles bound : Nat) :
    s.evolves (State.recordTime s die vid cycles bound) [.num] := by
  unfold State.recordTime
  repeat' first
    | assumption
    | with_reducible apply State.evolves_refl
    | with_reducible apply State.evolves_ite
    | with_reducible apply State.evolves_foldl
    | fail_if_no_progress ((with_reducible apply State.evolves_set_num); decide)
    | decide
    | with_reducible intro _ _ _
    | ((try dsimp only); split)

theorem State.leavePhase_evolves (s : State) (i : Nat) :
    s.evolves (State.leavePhase s i) [.regs, .board, .num, .dict] := by
  unfold State.leavePhase
  repeat' first
    | assumption
    | with_reducible apply State.evolves_refl
    | with_reducible apply State.evolves_ite
    | with_reducible apply State.evolves_foldl
    | with_reducible apply State.evolves_step (State.event_evolves _ _ _)
    | with_reducible apply State.evolves_step (State.recordTime_evolves _ _ _ _ _)
    | with_reducible apply State.evolves_step (State.updBoard_evolves _ _)
    | decide
    | with_reducible intro _ _ _
    | ((try dsimp only); split)

theorem State.endUncosted_evolves (s : State) :
    s.evolves (State.endUncosted s) [.regs, .frets, .board, .num, .dict] := by
  unfold State.endUncosted
  repeat' first
    | assumption
    | with_reducible apply State.evolves_refl
    | with_reducible apply State.evolves_ite
    | with_reducible apply State.evolves_foldl
    | with_reducible apply State.evolves_step (State.leavePhase_evolves _ _)
    | with_reducible apply State.evolves_step (State.updFret_evolves _ _ _)
    | decide
    | with_reducible intro _ _ _
    | ((try dsimp only); split)

theorem State.stopTraining_evolves (s : State) :
    s.evolves (State.stopTraining s) [.regs, .frets, .board, .num, .upd, .vlk, .adm, .dict] := by
  unfold State.stopTraining
  repeat' first
    | assumption
    | with_reducible apply State.evolves_refl
    | with_reducible apply State.evolves_ite
    | with_reducible apply State.evolves_foldl
    | with_reducible apply State.evolves_step (State.abandonSnap_evolves _)
    | with_reducible apply State.evolves_step (State.endUncosted_evolves _)
    | with_reducible apply State.evolves_step (State.setFn_evolves _ _ _)
    | decide
    | with_reducible intro _ _ _
    | ((try dsimp only); split)

theorem State.rewindOne_evolves {s t : State} {j : JRec} (h : s.rewindOne j = some t) : s.evolves t [.mem, .dram] := by
  unfold State.rewindOne at h
  dsimp only at h
  generalize (s.journalBase _ + _ : Nat) = a at h
  generalize s.readMem _ _ = r at h
  have k := State.store_evolves s (leAt r 24 8) (r.drop 64)
  generalize s.store _ _ = x at h k
  split at h
  · split at h
    · split at h
      · cases h
        exact State.evolves_step (State.store_evolves _ _ _) k (by decide)
      · cases h
        exact k
    · cases h
      exact k
  · cases h

theorem State.rewind_evolves (s : State) : s.evolves s.rewind.1 [.mem, .dram] := by
  unfold State.rewind
  apply State.evolves_foldl_fst (State.evolves_refl _ _)
  intro a j h
  split
  · next t e => exact State.evolves_step (State.rewindOne_evolves e) h (by decide)
  · exact h

theorem State.emptyJournals_evolves (s : State) :
    s.evolves (State.emptyJournals s) [.regs, .upd] := by
  unfold State.emptyJournals
  repeat' first
    | assumption
    | with_reducible apply State.evolves_refl
    | with_reducible apply State.evolves_ite
    | with_reducible apply State.evolves_foldl
    | with_reducible apply State.evolves_step (State.setReg_evolves _ _ _ _)
    | fail_if_no_progress ((with_reducible apply State.evolves_set_upd); decide; (first | (with_reducible exact fun h => h) | exact (fun h => SMap.wf_set _ _ _ _ h) | exact (fun h => SMap.wf_setMany _ _ _ _ h) | exact (fun h => SMap.wf_eraseRange _ _ _ _ h) | exact (fun h => SMap.wfFrom_filter _ _ _ _ h) | exact (fun h => (List.length_set ..).trans h) | exact (fun h => (List.length_modify ..).trans h) | exact (fun h => (List.length_map ..).trans h) | exact (fun h => ⟨h.1, (List.length_set ..).trans h.2⟩) | exact (fun h => h) | exact (fun _ => (List.length_set ..).trans rfl) | exact (fun _ => rfl)))
    | decide
    | with_reducible intro _ _ _
    | ((try dsimp only); split)

theorem State.snapCopy_evolves (s : State) (key : Nat) :
    s.evolves (State.snapCopy s key) [.mem, .regs, .upd, .dram] := by
  unfold State.snapCopy
  repeat' first
    | assumption
    | with_reducible apply State.evolves_refl
    | with_reducible apply State.evolves_ite
    | with_reducible apply State.evolves_foldl
    | with_reducible apply State.evolves_step (State.setReg_evolves _ _ _ _)
    | with_reducible apply State.evolves_step (State.store_evolves _ _ _)
    | fail_if_no_progress ((with_reducible apply State.evolves_set_upd); decide; (first | (with_reducible exact fun h => h) | exact (fun h => SMap.wf_set _ _ _ _ h) | exact (fun h => SMap.wf_setMany _ _ _ _ h) | exact (fun h => SMap.wf_eraseRange _ _ _ _ h) | exact (fun h => SMap.wfFrom_filter _ _ _ _ h) | exact (fun h => (List.length_set ..).trans h) | exact (fun h => (List.length_modify ..).trans h) | exact (fun h => (List.length_map ..).trans h) | exact (fun h => ⟨h.1, (List.length_set ..).trans h.2⟩) | exact (fun h => h) | exact (fun _ => (List.length_set ..).trans rfl) | exact (fun _ => rfl)))
    | decide
    | with_reducible intro _ _ _
    | ((try dsimp only); split)

theorem State.put_evolves (s : State) (a : Nat) (bs : Bytes) :
    s.evolves (State.put s a bs) [.mem, .regs, .upd, .dram] := by
  unfold State.put
  repeat' first
    | assumption
    | with_reducible apply State.evolves_refl
    | with_reducible apply State.evolves_ite
    | with_reducible apply State.evolves_foldl
    | with_reducible apply State.evolves_step (State.snapCopy_evolves _ _)
    | with_reducible apply State.evolves_step (State.store_evolves _ _ _)
    | decide
    | with_reducible intro _ _ _
    | ((try dsimp only); split)

theorem State.restoreCarries_evolves (s : State) (step : Nat) (scale : Int) :
    s.evolves (State.restoreCarries s step scale) [.frets] := by
  unfold State.restoreCarries
  repeat' first
    | assumption
    | with_reducible apply State.evolves_refl
    | with_reducible apply State.evolves_ite
    | with_reducible apply State.evolves_foldl
    | with_reducible apply State.evolves_step (State.setFret_evolves _ _ _)
    | decide
    | with_reducible intro _ _ _
    | ((try dsimp only); split)

theorem State.saveCarries_evolves (s : State) (step : Nat) :
    s.evolves (State.saveCarries s step) [.mem, .regs, .upd, .dram] := by
  unfold State.saveCarries
  repeat' first
    | assumption
    | with_reducible apply State.evolves_refl
    | with_reducible apply State.evolves_ite
    | with_reducible apply State.evolves_foldl
    | with_reducible apply State.evolves_step (State.put_evolves _ _ _)
    | fail_if_no_progress ((with_reducible apply State.evolves_set_upd); decide; (first | (with_reducible exact fun h => h) | exact (fun h => SMap.wf_set _ _ _ _ h) | exact (fun h => SMap.wf_setMany _ _ _ _ h) | exact (fun h => SMap.wf_eraseRange _ _ _ _ h) | exact (fun h => SMap.wfFrom_filter _ _ _ _ h) | exact (fun h => (List.length_set ..).trans h) | exact (fun h => (List.length_modify ..).trans h) | exact (fun h => (List.length_map ..).trans h) | exact (fun h => ⟨h.1, (List.length_set ..).trans h.2⟩) | exact (fun h => h) | exact (fun _ => (List.length_set ..).trans rfl) | exact (fun _ => rfl)))
    | decide
    | with_reducible intro _ _ _
    | ((try dsimp only); split)

theorem State.rescalePins_evolves (s : State) (scale : Int) : s.evolves (State.rescalePins s scale) [.frets] := by
  unfold State.rescalePins
  dsimp only
  apply State.evolves_foldl (State.evolves_refl _ _)
  intro a p h
  apply State.evolves_ite h
  exact State.evolves_step (State.setFret_evolves _ _ _) h (by decide)

theorem State.emptyLanes_evolves (s : State) : s.evolves (State.emptyLanes s) [.slanes] :=
  State.evolves_set_slanes (by decide) (fun h => SMap.wfFrom_filter_map SLane.reset 0 s.slanes (fun l => l.2.high ≠ 0)
    SLane.emptied (fun p hp hd => by
      have := congrArg SLane.high hd
      exact (of_decide_eq_true hp) this) h) (State.evolves_refl _ _)

theorem State.revertNum_evolves (s : State) (cause : Nat) :
    s.evolves (State.revertNum s cause) [.regs, .frets, .num] := by
  unfold State.revertNum
  repeat' first
    | assumption
    | with_reducible apply State.evolves_refl
    | with_reducible apply State.evolves_ite
    | with_reducible apply State.evolves_foldl
    | with_reducible apply State.evolves_step (State.setCube_evolves _ _)
    | with_reducible apply State.evolves_step (State.setReg_evolves _ _ _ _)
    | fail_if_no_progress ((with_reducible apply State.evolves_set_num); decide)
    | decide
    | with_reducible intro _ _ _
    | ((try dsimp only); split)

theorem State.rollback_evolves (s : State) (cause decision lowest : Nat) :
    s.evolves (State.rollback s cause decision lowest) [.mem, .regs, .frets, .slanes, .board, .num, .emb, .upd, .dram, .fab, .vlk, .adm, .dict] := by
  unfold State.rollback
  repeat' first
    | assumption
    | with_reducible apply State.evolves_refl
    | with_reducible apply State.evolves_ite
    | with_reducible apply State.evolves_foldl
    | with_reducible apply State.evolves_step (State.breakStep_evolves _ _ _)
    | with_reducible apply State.evolves_step (State.emptyJournals_evolves _)
    | with_reducible apply State.evolves_step (State.emptyLanes_evolves _)
    | with_reducible apply State.evolves_step (State.event_evolves _ _ _)
    | with_reducible apply State.evolves_step (State.restoreCarries_evolves _ _ _)
    | with_reducible apply State.evolves_step (State.revertNum_evolves _ _)
    | with_reducible apply State.evolves_step (State.rewind_evolves _)
    | with_reducible apply State.evolves_step (State.serveWindows_evolves _)
    | with_reducible apply State.evolves_step (State.stopFrets_evolves _ _)
    | with_reducible apply State.evolves_step (State.stopTraining_evolves _)
    | with_reducible apply State.evolves_step (State.updBoard_evolves _ _)
    | fail_if_no_progress ((with_reducible apply State.evolves_set_emb); decide)
    | fail_if_no_progress ((with_reducible apply State.evolves_set_fab); decide; (first | (with_reducible exact fun h => h) | exact (fun h => SMap.wf_set _ _ _ _ h) | exact (fun h => SMap.wf_setMany _ _ _ _ h) | exact (fun h => SMap.wf_eraseRange _ _ _ _ h) | exact (fun h => SMap.wfFrom_filter _ _ _ _ h) | exact (fun h => (List.length_set ..).trans h) | exact (fun h => (List.length_modify ..).trans h) | exact (fun h => (List.length_map ..).trans h) | exact (fun h => ⟨h.1, (List.length_set ..).trans h.2⟩) | exact (fun h => h) | exact (fun _ => (List.length_set ..).trans rfl) | exact (fun _ => rfl)))
    | fail_if_no_progress ((with_reducible apply State.evolves_set_upd); decide; (first | (with_reducible exact fun h => h) | exact (fun h => SMap.wf_set _ _ _ _ h) | exact (fun h => SMap.wf_setMany _ _ _ _ h) | exact (fun h => SMap.wf_eraseRange _ _ _ _ h) | exact (fun h => SMap.wfFrom_filter _ _ _ _ h) | exact (fun h => (List.length_set ..).trans h) | exact (fun h => (List.length_modify ..).trans h) | exact (fun h => (List.length_map ..).trans h) | exact (fun h => ⟨h.1, (List.length_set ..).trans h.2⟩) | exact (fun h => h) | exact (fun _ => (List.length_set ..).trans rfl) | exact (fun _ => rfl)))
    | decide
    | with_reducible intro _ _ _
    | ((try dsimp only); split)

end Sys2Proof.Machine
end

