-- ==== Sys2Proof/Laws/FrameNet.lean ====
section
/-! SUPPORT. What each operation of Machine/Net.lean may change. -/

namespace Sys2Proof.Machine

theorem State.updPort_evolves (s : State) (p : Nat) (g : Port → Port) :
    s.evolves (State.updPort s p g) [.fab] := by
  unfold State.updPort
  repeat' first
    | assumption
    | with_reducible apply State.evolves_refl
    | with_reducible apply State.evolves_ite
    | with_reducible apply State.evolves_foldl
    | fail_if_no_progress ((with_reducible apply State.evolves_set_fab); decide; (first | (with_reducible exact fun h => h) | exact (fun h => SMap.wf_set _ _ _ _ h) | exact (fun h => SMap.wf_setMany _ _ _ _ h) | exact (fun h => SMap.wf_eraseRange _ _ _ _ h) | exact (fun h => SMap.wfFrom_filter _ _ _ _ h) | exact (fun h => (List.length_set ..).trans h) | exact (fun h => (List.length_modify ..).trans h) | exact (fun h => (List.length_map ..).trans h) | exact (fun h => ⟨h.1, (List.length_set ..).trans h.2⟩) | exact (fun h => h) | exact (fun _ => (List.length_set ..).trans rfl) | exact (fun _ => rfl)))
    | decide
    | with_reducible intro _ _ _
    | ((try dsimp only); split)

theorem Fab.takeRun_ports (n : Nat) (pk : Packet) (f : Fab) : (Fab.takeRun n pk f).ports = f.ports := by
  induction n generalizing pk f with
  | zero => rfl
  | succ k ih =>
    unfold Fab.takeRun
    dsimp only
    split
    · rfl
    · rw [ih]

theorem Fab.take_ports (f : Fab) (pk : Packet) : (f.take pk).ports = f.ports := by
  unfold Fab.take
  dsimp only
  split
  · rfl
  · split
    · rfl
    · exact Fab.takeRun_ports _ _ _

theorem State.enqueue_evolves (s : State) (pk : Packet) (dim : Option Nat) :
    s.evolves (State.enqueue s pk dim) [.fab] := by
  unfold State.enqueue
  split
  · exact State.evolves_set_fab (by decide) (fun h => (congrArg List.length (Fab.take_ports _ _)).trans h) (State.evolves_refl _ _)
  · exact State.evolves_wider (State.updPort_evolves _ _ _) (by decide)

theorem State.sendFlags_evolves (s : State) (dst cls op flags : Nat) (data : Bytes) :
    s.evolves (State.sendFlags s dst cls op flags data) [.fab] := by
  unfold State.sendFlags
  repeat' first
    | assumption
    | with_reducible apply State.evolves_refl
    | with_reducible apply State.evolves_ite
    | with_reducible apply State.evolves_foldl
    | with_reducible apply State.evolves_step (State.enqueue_evolves _ _ _)
    | fail_if_no_progress ((with_reducible apply State.evolves_set_fab); decide; (first | (with_reducible exact fun h => h) | exact (fun h => SMap.wf_set _ _ _ _ h) | exact (fun h => SMap.wf_setMany _ _ _ _ h) | exact (fun h => SMap.wf_eraseRange _ _ _ _ h) | exact (fun h => SMap.wfFrom_filter _ _ _ _ h) | exact (fun h => (List.length_set ..).trans h) | exact (fun h => (List.length_modify ..).trans h) | exact (fun h => (List.length_map ..).trans h) | exact (fun h => ⟨h.1, (List.length_set ..).trans h.2⟩) | exact (fun h => h) | exact (fun _ => (List.length_set ..).trans rfl) | exact (fun _ => rfl)))
    | decide
    | with_reducible intro _ _ _
    | ((try dsimp only); split)

theorem State.send_evolves (s : State) (dst cls op : Nat) (data : Bytes) :
    s.evolves (State.send s dst cls op data) [.fab] := by
  unfold State.send
  repeat' first
    | assumption
    | with_reducible apply State.evolves_refl
    | with_reducible apply State.evolves_ite
    | with_reducible apply State.evolves_foldl
    | with_reducible apply State.evolves_step (State.sendFlags_evolves _ _ _ _ _ _)
    | decide
    | with_reducible intro _ _ _
    | ((try dsimp only); split)

theorem State.request_evolves (s : State) (dst op sub cls addr a b : Nat) (data : Bytes) (phase : Bool) (why : Purpose) :
    s.evolves (State.request s dst op sub cls addr a b data phase why) [.fab] := by
  unfold State.request
  repeat' first
    | assumption
    | with_reducible apply State.evolves_refl
    | with_reducible apply State.evolves_ite
    | with_reducible apply State.evolves_foldl
    | with_reducible apply State.evolves_step (State.send_evolves _ _ _ _ _)
    | fail_if_no_progress ((with_reducible apply State.evolves_set_fab); decide; (first | (with_reducible exact fun h => h) | exact (fun h => SMap.wf_set _ _ _ _ h) | exact (fun h => SMap.wf_setMany _ _ _ _ h) | exact (fun h => SMap.wf_eraseRange _ _ _ _ h) | exact (fun h => SMap.wfFrom_filter _ _ _ _ h) | exact (fun h => (List.length_set ..).trans h) | exact (fun h => (List.length_modify ..).trans h) | exact (fun h => (List.length_map ..).trans h) | exact (fun h => ⟨h.1, (List.length_set ..).trans h.2⟩) | exact (fun h => h) | exact (fun _ => (List.length_set ..).trans rfl) | exact (fun _ => rfl)))
    | decide
    | with_reducible intro _ _ _
    | ((try dsimp only); split)

theorem State.reply_evolves (s : State) (src id status : Nat) (data : Bytes) (sync : Bool) :
    s.evolves (State.reply s src id status data sync) [.fab] := by
  unfold State.reply
  repeat' first
    | assumption
    | with_reducible apply State.evolves_refl
    | with_reducible apply State.evolves_ite
    | with_reducible apply State.evolves_foldl
    | with_reducible apply State.evolves_step (State.sendFlags_evolves _ _ _ _ _ _)
    | fail_if_no_progress ((with_reducible apply State.evolves_set_fab); decide; (first | (with_reducible exact fun h => h) | exact (fun h => SMap.wf_set _ _ _ _ h) | exact (fun h => SMap.wf_setMany _ _ _ _ h) | exact (fun h => SMap.wf_eraseRange _ _ _ _ h) | exact (fun h => SMap.wfFrom_filter _ _ _ _ h) | exact (fun h => (List.length_set ..).trans h) | exact (fun h => (List.length_modify ..).trans h) | exact (fun h => (List.length_map ..).trans h) | exact (fun h => ⟨h.1, (List.length_set ..).trans h.2⟩) | exact (fun h => h) | exact (fun _ => (List.length_set ..).trans rfl) | exact (fun _ => rfl)))
    | decide
    | with_reducible intro _ _ _
    | ((try dsimp only); split)

theorem State.takeInbox_evolves (s : State) (src op : Nat) :
    s.evolves (State.takeInbox s src op) [.fab] := by
  unfold State.takeInbox
  repeat' first
    | assumption
    | with_reducible apply State.evolves_refl
    | with_reducible apply State.evolves_ite
    | with_reducible apply State.evolves_foldl
    | fail_if_no_progress ((with_reducible apply State.evolves_set_fab); decide; (first | (with_reducible exact fun h => h) | exact (fun h => SMap.wf_set _ _ _ _ h) | exact (fun h => SMap.wf_setMany _ _ _ _ h) | exact (fun h => SMap.wf_eraseRange _ _ _ _ h) | exact (fun h => SMap.wfFrom_filter _ _ _ _ h) | exact (fun h => (List.length_set ..).trans h) | exact (fun h => (List.length_modify ..).trans h) | exact (fun h => (List.length_map ..).trans h) | exact (fun h => ⟨h.1, (List.length_set ..).trans h.2⟩) | exact (fun h => h) | exact (fun _ => (List.length_set ..).trans rfl) | exact (fun _ => rfl)))
    | decide
    | with_reducible intro _ _ _
    | ((try dsimp only); split)

theorem State.setSync_evolves (s : State) (o v : Nat) :
    s.evolves (State.setSync s o v) [.fab] := by
  unfold State.setSync
  repeat' first
    | assumption
    | with_reducible apply State.evolves_refl
    | with_reducible apply State.evolves_ite
    | with_reducible apply State.evolves_foldl
    | fail_if_no_progress ((with_reducible apply State.evolves_set_fab); decide; (first | (with_reducible exact fun h => h) | exact (fun h => SMap.wf_set _ _ _ _ h) | exact (fun h => SMap.wf_setMany _ _ _ _ h) | exact (fun h => SMap.wf_eraseRange _ _ _ _ h) | exact (fun h => SMap.wfFrom_filter _ _ _ _ h) | exact (fun h => (List.length_set ..).trans h) | exact (fun h => (List.length_modify ..).trans h) | exact (fun h => (List.length_map ..).trans h) | exact (fun h => ⟨h.1, (List.length_set ..).trans h.2⟩) | exact (fun h => h) | exact (fun _ => (List.length_set ..).trans rfl) | exact (fun _ => rfl)))
    | decide
    | with_reducible intro _ _ _
    | ((try dsimp only); split)

theorem State.syncOp_evolves (s : State) (sub o a b : Nat) :
    s.evolves (State.syncOp s sub o a b) [.regs, .fab] := by
  unfold State.syncOp
  repeat' first
    | assumption
    | with_reducible apply State.evolves_refl
    | with_reducible apply State.evolves_ite
    | with_reducible apply State.evolves_foldl
    | with_reducible apply State.evolves_step (State.bump_evolves _ _ _ _)
    | with_reducible apply State.evolves_step (State.setSync_evolves _ _ _)
    | decide
    | with_reducible intro _ _ _
    | ((try dsimp only); split)

theorem State.applyStepSync_evolves (s : State) (step ext delay cls : Nat) :
    s.evolves (State.applyStepSync s step ext delay cls) [.regs, .fab, .vlk, .adm, .dict] := by
  unfold State.applyStepSync
  repeat' first
    | assumption
    | with_reducible apply State.evolves_refl
    | with_reducible apply State.evolves_ite
    | with_reducible apply State.evolves_foldl
    | with_reducible apply State.evolves_step (State.breakFrames_evolves _ _ _ _)
    | with_reducible apply State.evolves_step (State.raiseFrames_evolves _ _)
    | fail_if_no_progress ((with_reducible apply State.evolves_set_fab); decide; (first | (with_reducible exact fun h => h) | exact (fun h => SMap.wf_set _ _ _ _ h) | exact (fun h => SMap.wf_setMany _ _ _ _ h) | exact (fun h => SMap.wf_eraseRange _ _ _ _ h) | exact (fun h => SMap.wfFrom_filter _ _ _ _ h) | exact (fun h => (List.length_set ..).trans h) | exact (fun h => (List.length_modify ..).trans h) | exact (fun h => (List.length_map ..).trans h) | exact (fun h => ⟨h.1, (List.length_set ..).trans h.2⟩) | exact (fun h => h) | exact (fun _ => (List.length_set ..).trans rfl) | exact (fun _ => rfl)))
    | fail_if_no_progress ((with_reducible apply State.evolves_set_adm); decide; (first | (with_reducible exact fun h => h) | exact (fun h => SMap.wf_set _ _ _ _ h) | exact (fun h => SMap.wf_setMany _ _ _ _ h) | exact (fun h => SMap.wf_eraseRange _ _ _ _ h) | exact (fun h => SMap.wfFrom_filter _ _ _ _ h) | exact (fun h => (List.length_set ..).trans h) | exact (fun h => (List.length_modify ..).trans h) | exact (fun h => (List.length_map ..).trans h) | exact (fun h => ⟨h.1, (List.length_set ..).trans h.2⟩) | exact (fun h => h) | exact (fun _ => (List.length_set ..).trans rfl) | exact (fun _ => rfl)))
    | decide
    | with_reducible intro _ _ _
    | ((try dsimp only); split)

theorem State.answerUpdate_evolves (s : State) (step ext : Nat) :
    s.evolves (State.answerUpdate s step ext) [.fab] := by
  unfold State.answerUpdate
  repeat' first
    | assumption
    | with_reducible apply State.evolves_refl
    | with_reducible apply State.evolves_ite
    | with_reducible apply State.evolves_foldl
    | fail_if_no_progress ((with_reducible apply State.evolves_set_fab); decide; (first | (with_reducible exact fun h => h) | exact (fun h => SMap.wf_set _ _ _ _ h) | exact (fun h => SMap.wf_setMany _ _ _ _ h) | exact (fun h => SMap.wf_eraseRange _ _ _ _ h) | exact (fun h => SMap.wfFrom_filter _ _ _ _ h) | exact (fun h => (List.length_set ..).trans h) | exact (fun h => (List.length_modify ..).trans h) | exact (fun h => (List.length_map ..).trans h) | exact (fun h => ⟨h.1, (List.length_set ..).trans h.2⟩) | exact (fun h => h) | exact (fun _ => (List.length_set ..).trans rfl) | exact (fun _ => rfl)))
    | decide
    | with_reducible intro _ _ _
    | ((try dsimp only); split)

theorem State.passUpdate_evolves (s : State) (v2 v3 cls : Nat) :
    s.evolves (State.passUpdate s v2 v3 cls) [.fab] := by
  unfold State.passUpdate
  repeat' first
    | assumption
    | with_reducible apply State.evolves_refl
    | with_reducible apply State.evolves_ite
    | with_reducible apply State.evolves_foldl
    | with_reducible apply State.evolves_step (State.request_evolves _ _ _ _ _ _ _ _ _ _ _)
    | decide
    | with_reducible intro _ _ _
    | ((try dsimp only); split)

theorem State.fanOut_evolves (s : State) (cls : Nat) :
    s.evolves (State.fanOut s cls) [.regs, .fab, .vlk, .adm, .dict] := by
  unfold State.fanOut
  repeat' first
    | assumption
    | with_reducible apply State.evolves_refl
    | with_reducible apply State.evolves_ite
    | with_reducible apply State.evolves_foldl
    | with_reducible apply State.evolves_step (State.answerUpdate_evolves _ _ _)
    | with_reducible apply State.evolves_step (State.applyStepSync_evolves _ _ _ _ _)
    | with_reducible apply State.evolves_step (State.passUpdate_evolves _ _ _ _)
    | decide
    | with_reducible intro _ _ _
    | ((try dsimp only); split)

theorem State.post_evolves (s : State) (delay : Bool) (step ns cls : Nat) (why : Purpose) :
    s.evolves (State.post s delay step ns cls why) [.regs, .fab, .vlk, .adm, .dict] := by
  unfold State.post
  repeat' first
    | assumption
    | with_reducible apply State.evolves_refl
    | with_reducible apply State.evolves_ite
    | with_reducible apply State.evolves_foldl
    | with_reducible apply State.evolves_step (State.fanOut_evolves _ _)
    | with_reducible apply State.evolves_step (State.request_evolves _ _ _ _ _ _ _ _ _ _ _)
    | with_reducible apply State.evolves_step (State.syncOp_evolves _ _ _ _ _)
    | decide
    | with_reducible intro _ _ _
    | ((try dsimp only); split)

end Sys2Proof.Machine
end

