-- ==== Sys2Proof/Laws/FrameTree.lean ====
section
/-! SUPPORT. What each operation of Machine/Tree.lean may change. -/

namespace Sys2Proof.Machine

theorem State.sendChunk_evolves (s : State) (t : TreeOp) (rank chunk level : Nat) (down : Bool) (data : List F32) :
    s.evolves (State.sendChunk s t rank chunk level down data) [.fab] := by
  unfold State.sendChunk
  repeat' first
    | assumption
    | with_reducible apply State.evolves_refl
    | with_reducible apply State.evolves_ite
    | with_reducible apply State.evolves_foldl
    | with_reducible apply State.evolves_step (State.send_evolves _ _ _ _ _)
    | decide
    | with_reducible intro _ _ _
    | ((try dsimp only); split)

theorem State.setTree_evolves (s : State) (t : TreeOp) :
    s.evolves (State.setTree s t) [.fab] := by
  unfold State.setTree
  repeat' first
    | assumption
    | with_reducible apply State.evolves_refl
    | with_reducible apply State.evolves_ite
    | with_reducible apply State.evolves_foldl
    | fail_if_no_progress ((with_reducible apply State.evolves_set_fab); decide; (first | (with_reducible exact fun h => h) | exact (fun h => SMap.wf_set _ _ _ _ h) | exact (fun h => SMap.wf_setMany _ _ _ _ h) | exact (fun h => SMap.wf_eraseRange _ _ _ _ h) | exact (fun h => SMap.wfFrom_filter _ _ _ _ h) | exact (fun h => (List.length_set ..).trans h) | exact (fun h => (List.length_modify ..).trans h) | exact (fun h => (List.length_map ..).trans h) | exact (fun h => ⟨h.1, (List.length_set ..).trans h.2⟩) | exact (fun h => h) | exact (fun _ => (List.length_set ..).trans rfl) | exact (fun _ => rfl)))
    | decide
    | with_reducible intro _ _ _
    | ((try dsimp only); split)

theorem State.chunkDown_evolves (s : State) (t : TreeOp) (chunk : Nat) (data : List F32) :
    s.evolves (State.chunkDown s t chunk data) [.fab] := by
  unfold State.chunkDown
  repeat' first
    | assumption
    | with_reducible apply State.evolves_refl
    | with_reducible apply State.evolves_ite
    | with_reducible apply State.evolves_foldl
    | with_reducible apply State.evolves_step (State.sendChunk_evolves _ _ _ _ _ _ _)
    | with_reducible apply State.evolves_step (State.setTree_evolves _ _)
    | decide
    | with_reducible intro _ _ _
    | ((try dsimp only); split)

theorem State.recordOutcome_evolves (s : State) (outcome : Nat) :
    s.evolves (State.recordOutcome s outcome) [.regs, .fab] := by
  unfold State.recordOutcome
  repeat' first
    | assumption
    | with_reducible apply State.evolves_refl
    | with_reducible apply State.evolves_ite
    | with_reducible apply State.evolves_foldl
    | with_reducible apply State.evolves_step (State.syncOp_evolves _ _ _ _ _)
    | decide
    | with_reducible intro _ _ _
    | ((try dsimp only); split)

theorem State.sumFormed_evolves (s : State) (t : TreeOp) (chunk : Nat) (data : List F32) :
    s.evolves (State.sumFormed s t chunk data) [.regs, .fab] := by
  unfold State.sumFormed
  repeat' first
    | assumption
    | with_reducible apply State.evolves_refl
    | with_reducible apply State.evolves_ite
    | with_reducible apply State.evolves_foldl
    | with_reducible apply State.evolves_step (State.chunkDown_evolves _ _ _ _)
    | with_reducible apply State.evolves_step (State.recordOutcome_evolves _ _)
    | decide
    | with_reducible intro _ _ _
    | ((try dsimp only); split)

theorem State.sumUp_evolves (s : State) (t : TreeOp) (chunk : Nat) :
    s.evolves (State.sumUp s t chunk) [.regs, .fab] := by
  unfold State.sumUp
  repeat' first
    | assumption
    | with_reducible apply State.evolves_refl
    | with_reducible apply State.evolves_ite
    | with_reducible apply State.evolves_foldl
    | with_reducible apply State.evolves_step (State.sendChunk_evolves _ _ _ _ _ _ _)
    | with_reducible apply State.evolves_step (State.sumFormed_evolves _ _ _ _)
    | decide
    | with_reducible intro _ _ _
    | ((try dsimp only); split)

theorem State.contribute_evolves (s : State) (kind : Nat) (vec : List F32) :
    s.evolves (State.contribute s kind vec) [.regs, .fab] := by
  unfold State.contribute
  repeat' first
    | assumption
    | with_reducible apply State.evolves_refl
    | with_reducible apply State.evolves_ite
    | with_reducible apply State.evolves_foldl
    | with_reducible apply State.evolves_step (State.setTree_evolves _ _)
    | with_reducible apply State.evolves_step (State.sumUp_evolves _ _ _)
    | decide
    | with_reducible intro _ _ _
    | ((try dsimp only); split)

theorem State.sumArrives_evolves (s : State) (kind : Nat) (arrived : List (Nat × List F32)) :
    s.evolves (State.sumArrives s kind arrived) [.fab] := by
  unfold State.sumArrives
  repeat' first
    | assumption
    | with_reducible apply State.evolves_refl
    | with_reducible apply State.evolves_ite
    | with_reducible apply State.evolves_foldl
    | with_reducible apply State.evolves_step (State.chunkDown_evolves _ _ _ _)
    | decide
    | with_reducible intro _ _ _
    | ((try dsimp only); split)

theorem State.castVote_evolves (s : State) :
    s.evolves (State.castVote s) [.regs, .upd, .fab] := by
  unfold State.castVote
  repeat' first
    | assumption
    | with_reducible apply State.evolves_refl
    | with_reducible apply State.evolves_ite
    | with_reducible apply State.evolves_foldl
    | with_reducible apply State.evolves_step (State.contribute_evolves _ _ _)
    | fail_if_no_progress ((with_reducible apply State.evolves_set_upd); decide; (first | (with_reducible exact fun h => h) | exact (fun h => SMap.wf_set _ _ _ _ h) | exact (fun h => SMap.wf_setMany _ _ _ _ h) | exact (fun h => SMap.wf_eraseRange _ _ _ _ h) | exact (fun h => SMap.wfFrom_filter _ _ _ _ h) | exact (fun h => (List.length_set ..).trans h) | exact (fun h => (List.length_modify ..).trans h) | exact (fun h => (List.length_map ..).trans h) | exact (fun h => ⟨h.1, (List.length_set ..).trans h.2⟩) | exact (fun h => h) | exact (fun _ => (List.length_set ..).trans rfl) | exact (fun _ => rfl)))
    | decide
    | with_reducible intro _ _ _
    | ((try dsimp only); split)

theorem State.setFault_evolves (s : State) (cls : Nat) :
    s.evolves (State.setFault s cls) [.regs, .upd, .fab] := by
  unfold State.setFault
  repeat' first
    | assumption
    | with_reducible apply State.evolves_refl
    | with_reducible apply State.evolves_ite
    | with_reducible apply State.evolves_foldl
    | with_reducible apply State.evolves_step (State.castVote_evolves _)
    | fail_if_no_progress ((with_reducible apply State.evolves_set_upd); decide; (first | (with_reducible exact fun h => h) | exact (fun h => SMap.wf_set _ _ _ _ h) | exact (fun h => SMap.wf_setMany _ _ _ _ h) | exact (fun h => SMap.wf_eraseRange _ _ _ _ h) | exact (fun h => SMap.wfFrom_filter _ _ _ _ h) | exact (fun h => (List.length_set ..).trans h) | exact (fun h => (List.length_modify ..).trans h) | exact (fun h => (List.length_map ..).trans h) | exact (fun h => ⟨h.1, (List.length_set ..).trans h.2⟩) | exact (fun h => h) | exact (fun _ => (List.length_set ..).trans rfl) | exact (fun _ => rfl)))
    | decide
    | with_reducible intro _ _ _
    | ((try dsimp only); split)

theorem State.jobFault_evolves (s : State) (cls : Nat) (reload : Option Nat) :
    s.evolves (State.jobFault s cls reload) [.regs, .upd, .fab, .vlk, .adm, .dict] := by
  unfold State.jobFault
  repeat' first
    | assumption
    | with_reducible apply State.evolves_refl
    | with_reducible apply State.evolves_ite
    | with_reducible apply State.evolves_foldl
    | with_reducible apply State.evolves_step (State.breakStep_evolves _ _ _)
    | with_reducible apply State.evolves_step (State.setFault_evolves _ _)
    | decide
    | with_reducible intro _ _ _
    | ((try dsimp only); split)

end Sys2Proof.Machine
end

