-- ==== Sys2Proof/Laws/FrameRowFail.lean ====
section
/-! SUPPORT. What each operation of Machine/RowFail.lean may change. -/

namespace Sys2Proof.Machine

theorem State.errLoc_evolves (s : State) (kind : Nat) (p : Place) :
    s.evolves (State.errLoc s kind p) [.regs] := by
  unfold State.errLoc
  repeat' first
    | assumption
    | with_reducible apply State.evolves_refl
    | with_reducible apply State.evolves_ite
    | with_reducible apply State.evolves_foldl
    | with_reducible apply State.evolves_step (State.setReg_evolves _ _ _ _)
    | decide
    | with_reducible intro _ _ _
    | ((try dsimp only); split)

theorem State.rowEvent_evolves (s : State) (kind : Nat) (p : Place) :
    s.evolves (State.rowEvent s kind p) [.regs, .dict, .life] := by
  unfold State.rowEvent
  repeat' first
    | assumption
    | with_reducible apply State.evolves_refl
    | with_reducible apply State.evolves_ite
    | with_reducible apply State.evolves_foldl
    | with_reducible apply State.evolves_step (State.errLoc_evolves _ _ _)
    | with_reducible apply State.evolves_step (State.event_evolves _ _ _)
    | with_reducible apply State.evolves_step (State.flag_evolves _ _ _ _)
    | with_reducible apply State.evolves_step (State.lifeLog_evolves _ _ _ _ _)
    | with_reducible apply State.evolves_step (State.updSpare_evolves _ _)
    | decide
    | with_reducible intro _ _ _
    | ((try dsimp only); split)

theorem State.remapRow_evolves (s : State) (p : Place) (n : Nat) :
    s.evolves (State.remapRow s p n) [.regs, .dram] := by
  unfold State.remapRow
  repeat' first
    | assumption
    | with_reducible apply State.evolves_refl
    | with_reducible apply State.evolves_ite
    | with_reducible apply State.evolves_foldl
    | with_reducible apply State.evolves_step (State.bump_evolves _ _ _ _)
    | fail_if_no_progress ((with_reducible apply State.evolves_set_dram); decide)
    | decide
    | with_reducible intro _ _ _
    | ((try dsimp only); split)

theorem State.retireBank_evolves (s : State) (p : Place) :
    s.evolves (State.retireBank s p) [.regs, .dram, .dict, .life] := by
  unfold State.retireBank
  repeat' first
    | assumption
    | with_reducible apply State.evolves_refl
    | with_reducible apply State.evolves_ite
    | with_reducible apply State.evolves_foldl
    | with_reducible apply State.evolves_step (State.rowEvent_evolves _ _ _)
    | fail_if_no_progress ((with_reducible apply State.evolves_set_dram); decide)
    | decide
    | with_reducible intro _ _ _
    | ((try dsimp only); split)

theorem State.repeatFail_evolves (s : State) (p : Place) (spare : Option Nat) :
    s.evolves (State.repeatFail s p spare) [.regs, .dram, .dict, .life] := by
  unfold State.repeatFail
  repeat' first
    | assumption
    | with_reducible apply State.evolves_refl
    | with_reducible apply State.evolves_ite
    | with_reducible apply State.evolves_foldl
    | with_reducible apply State.evolves_step (State.bump_evolves _ _ _ _)
    | with_reducible apply State.evolves_step (State.flag_evolves _ _ _ _)
    | with_reducible apply State.evolves_step (State.remapRow_evolves _ _ _)
    | with_reducible apply State.evolves_step (State.retireBank_evolves _ _)
    | with_reducible apply State.evolves_step (State.rowEvent_evolves _ _ _)
    | fail_if_no_progress ((with_reducible apply State.evolves_set_dram); decide)
    | decide
    | with_reducible intro _ _ _
    | ((try dsimp only); split)

theorem State.rowFails_evolves (s : State) (p : Place) :
    s.evolves (State.rowFails s p) [.regs, .dram, .dict, .life] := by
  unfold State.rowFails
  repeat' first
    | assumption
    | with_reducible apply State.evolves_refl
    | with_reducible apply State.evolves_ite
    | with_reducible apply State.evolves_foldl
    | with_reducible apply State.evolves_step (State.remapRow_evolves _ _ _)
    | with_reducible apply State.evolves_step (State.repeatFail_evolves _ _ _)
    | with_reducible apply State.evolves_step (State.rowEvent_evolves _ _ _)
    | fail_if_no_progress ((with_reducible apply State.evolves_set_dram); decide)
    | decide
    | with_reducible intro _ _ _
    | ((try dsimp only); split)

theorem State.correctedError_evolves (s : State) (p : Place) :
    s.evolves (State.correctedError s p) [.regs, .dram, .dict, .life] := by
  unfold State.correctedError
  repeat' first
    | assumption
    | with_reducible apply State.evolves_refl
    | with_reducible apply State.evolves_ite
    | with_reducible apply State.evolves_foldl
    | with_reducible apply State.evolves_step (State.errLoc_evolves _ _ _)
    | with_reducible apply State.evolves_step (State.flagCount_evolves _ _ _ _ _ _)
    | with_reducible apply State.evolves_step (State.rowFails_evolves _ _)
    | fail_if_no_progress ((with_reducible apply State.evolves_set_dram); decide)
    | decide
    | with_reducible intro _ _ _
    | ((try dsimp only); split)

theorem State.laneSpare_evolves (s : State) (l : Nat × Nat × Nat × Nat) :
    s.evolves (State.laneSpare s l) [.regs, .dram, .dict, .life] := by
  unfold State.laneSpare
  repeat' first
    | assumption
    | with_reducible apply State.evolves_refl
    | with_reducible apply State.evolves_ite
    | with_reducible apply State.evolves_foldl
    | with_reducible apply State.evolves_step (State.event_evolves _ _ _)
    | with_reducible apply State.evolves_step (State.flag_evolves _ _ _ _)
    | with_reducible apply State.evolves_step (State.logSubst_evolves _ _ _ _ _)
    | with_reducible apply State.evolves_step (State.updSpare_evolves _ _)
    | fail_if_no_progress ((with_reducible apply State.evolves_set_dram); decide)
    | decide
    | with_reducible intro _ _ _
    | ((try dsimp only); split)

theorem State.showTraining_evolves (s : State) :
    s.evolves (State.showTraining s) [.regs] := by
  unfold State.showTraining
  repeat' first
    | assumption
    | with_reducible apply State.evolves_refl
    | with_reducible apply State.evolves_ite
    | with_reducible apply State.evolves_foldl
    | with_reducible apply State.evolves_step (State.clearReg_evolves _ _ _ _)
    | with_reducible apply State.evolves_step (State.flag_evolves _ _ _ _)
    | decide
    | with_reducible intro _ _ _
    | ((try dsimp only); split)

theorem State.showSuspended_evolves (s : State) :
    s.evolves (State.showSuspended s) [.regs] := by
  unfold State.showSuspended
  repeat' first
    | assumption
    | with_reducible apply State.evolves_refl
    | with_reducible apply State.evolves_ite
    | with_reducible apply State.evolves_foldl
    | with_reducible apply State.evolves_step (State.clearReg_evolves _ _ _ _)
    | with_reducible apply State.evolves_step (State.flag_evolves _ _ _ _)
    | decide
    | with_reducible intro _ _ _
    | ((try dsimp only); split)

theorem State.breakAll_evolves (s : State) (cls ns : Nat) :
    s.evolves (State.breakAll s cls ns) [.regs, .fab, .vlk, .adm, .dict] := by
  unfold State.breakAll
  repeat' first
    | assumption
    | with_reducible apply State.evolves_refl
    | with_reducible apply State.evolves_ite
    | with_reducible apply State.evolves_foldl
    | with_reducible apply State.evolves_step (State.breakFrames_evolves _ _ _ _)
    | with_reducible apply State.evolves_step (State.post_evolves _ _ _ _ _ _)
    | fail_if_no_progress ((with_reducible apply State.evolves_set_adm); decide; (first | (with_reducible exact fun h => h) | exact (fun h => SMap.wf_set _ _ _ _ h) | exact (fun h => SMap.wf_setMany _ _ _ _ h) | exact (fun h => SMap.wf_eraseRange _ _ _ _ h) | exact (fun h => SMap.wfFrom_filter _ _ _ _ h) | exact (fun h => (List.length_set ..).trans h) | exact (fun h => (List.length_modify ..).trans h) | exact (fun h => (List.length_map ..).trans h) | exact (fun h => ⟨h.1, (List.length_set ..).trans h.2⟩) | exact (fun h => h) | exact (fun _ => (List.length_set ..).trans rfl) | exact (fun _ => rfl)))
    | fail_if_no_progress ((with_reducible apply State.evolves_set_fab); decide; (first | (with_reducible exact fun h => h) | exact (fun h => SMap.wf_set _ _ _ _ h) | exact (fun h => SMap.wf_setMany _ _ _ _ h) | exact (fun h => SMap.wf_eraseRange _ _ _ _ h) | exact (fun h => SMap.wfFrom_filter _ _ _ _ h) | exact (fun h => (List.length_set ..).trans h) | exact (fun h => (List.length_modify ..).trans h) | exact (fun h => (List.length_map ..).trans h) | exact (fun h => ⟨h.1, (List.length_set ..).trans h.2⟩) | exact (fun h => h) | exact (fun _ => (List.length_set ..).trans rfl) | exact (fun _ => rfl)))
    | decide
    | with_reducible intro _ _ _
    | ((try dsimp only); split)

theorem State.retrainTrigger_evolves (s : State) (tier chan : Nat) (deferrable : Bool) :
    s.evolves (State.retrainTrigger s tier chan deferrable) [.regs, .dram, .fab, .vlk, .adm, .dict] := by
  unfold State.retrainTrigger
  repeat' first
    | assumption
    | with_reducible apply State.evolves_refl
    | with_reducible apply State.evolves_ite
    | with_reducible apply State.evolves_foldl
    | with_reducible apply State.evolves_step (State.breakAll_evolves _ _ _)
    | with_reducible apply State.evolves_step (State.showSuspended_evolves _)
    | with_reducible apply State.evolves_step (State.showTraining_evolves _)
    | fail_if_no_progress ((with_reducible apply State.evolves_set_dram); decide)
    | fail_if_no_progress ((with_reducible apply State.evolves_set_adm); decide; (first | (with_reducible exact fun h => h) | exact (fun h => SMap.wf_set _ _ _ _ h) | exact (fun h => SMap.wf_setMany _ _ _ _ h) | exact (fun h => SMap.wf_eraseRange _ _ _ _ h) | exact (fun h => SMap.wfFrom_filter _ _ _ _ h) | exact (fun h => (List.length_set ..).trans h) | exact (fun h => (List.length_modify ..).trans h) | exact (fun h => (List.length_map ..).trans h) | exact (fun h => ⟨h.1, (List.length_set ..).trans h.2⟩) | exact (fun h => h) | exact (fun _ => (List.length_set ..).trans rfl) | exact (fun _ => rfl)))
    | decide
    | with_reducible intro _ _ _
    | ((try dsimp only); split)

theorem State.uncorrectableError_evolves (s : State) (sector : Nat) :
    s.evolves (State.uncorrectableError s sector) [.regs, .dram, .fab, .vlk, .adm, .dict, .life] := by
  unfold State.uncorrectableError
  repeat' first
    | assumption
    | with_reducible apply State.evolves_refl
    | with_reducible apply State.evolves_ite
    | with_reducible apply State.evolves_foldl
    | with_reducible apply State.evolves_step (State.bump_evolves _ _ _ _)
    | with_reducible apply State.evolves_step (State.errLoc_evolves _ _ _)
    | with_reducible apply State.evolves_step (State.flag_evolves _ _ _ _)
    | with_reducible apply State.evolves_step (State.flagCount_evolves _ _ _ _ _ _)
    | with_reducible apply State.evolves_step (State.retrainTrigger_evolves _ _ _ _)
    | with_reducible apply State.evolves_step (State.rowFails_evolves _ _)
    | fail_if_no_progress ((with_reducible apply State.evolves_set_dram); decide)
    | decide
    | with_reducible intro _ _ _
    | ((try dsimp only); split)

theorem State.meetPoison_evolves (s : State) (a n : Nat) :
    s.evolves (State.meetPoison s a n) [.regs, .dram, .fab, .vlk, .adm, .dict, .life] := by
  unfold State.meetPoison
  repeat' first
    | assumption
    | with_reducible apply State.evolves_refl
    | with_reducible apply State.evolves_ite
    | with_reducible apply State.evolves_foldl
    | with_reducible apply State.evolves_step (State.uncorrectableError_evolves _ _)
    | decide
    | with_reducible intro _ _ _
    | ((try dsimp only); split)

theorem State.memoryFault_evolves (s : State) (phase : Bool) :
    s.evolves (State.memoryFault s phase) [.regs, .upd, .fab, .vlk, .adm, .dict] := by
  unfold State.memoryFault
  repeat' first
    | assumption
    | with_reducible apply State.evolves_refl
    | with_reducible apply State.evolves_ite
    | with_reducible apply State.evolves_foldl
    | with_reducible apply State.evolves_step (State.jobFault_evolves _ _ _)
    | decide
    | with_reducible intro _ _ _
    | ((try dsimp only); split)

theorem State.failRead_evolves (s : State) (a n : Nat) :
    s.evolves (State.failRead s a n) [.regs, .upd, .dram, .fab, .vlk, .adm, .dict, .life] := by
  unfold State.failRead
  repeat' first
    | assumption
    | with_reducible apply State.evolves_refl
    | with_reducible apply State.evolves_ite
    | with_reducible apply State.evolves_foldl
    | with_reducible apply State.evolves_step (State.meetPoison_evolves _ _ _)
    | with_reducible apply State.evolves_step (State.memoryFault_evolves _ _)
    | decide
    | with_reducible intro _ _ _
    | ((try dsimp only); split)

theorem State.storeSoon_evolves (s : State) (a : Nat) (bs : Bytes) :
    s.evolves (State.storeSoon s a bs) [.mem, .dram] := by
  unfold State.storeSoon
  repeat' first
    | assumption
    | with_reducible apply State.evolves_refl
    | with_reducible apply State.evolves_ite
    | with_reducible apply State.evolves_foldl
    | with_reducible apply State.evolves_step (State.store_evolves _ _ _)
    | fail_if_no_progress ((with_reducible apply State.evolves_set_dram); decide)
    | decide
    | with_reducible intro _ _ _
    | ((try dsimp only); split)

theorem State.metCarries_evolves (s : State) (step : Nat) :
    s.evolves (State.metCarries s step) [.regs, .upd, .dram, .fab, .vlk, .adm, .dict, .life] := by
  unfold State.metCarries
  repeat' first
    | assumption
    | with_reducible apply State.evolves_refl
    | with_reducible apply State.evolves_ite
    | with_reducible apply State.evolves_foldl
    | with_reducible apply State.evolves_step (State.failRead_evolves _ _ _)
    | decide
    | with_reducible intro _ _ _
    | ((try dsimp only); split)

end Sys2Proof.Machine
end

