-- ==== Sys2Proof/Laws/FrameOperands.lean ====
section
/-! SUPPORT. What each operation of Machine/Operands.lean may change. -/

namespace Sys2Proof.Machine

theorem State.stackFault_evolves (s : State) (i bit : Nat) :
    s.evolves (State.stackFault s i bit) [.regs, .frets, .upd, .fab, .vlk, .adm, .dict] := by
  unfold State.stackFault
  repeat' first
    | assumption
    | with_reducible apply State.evolves_refl
    | with_reducible apply State.evolves_ite
    | with_reducible apply State.evolves_foldl
    | with_reducible apply State.evolves_step (State.bump_evolves _ _ _ _)
    | with_reducible apply State.evolves_step (State.flag_evolves _ _ _ _)
    | with_reducible apply State.evolves_step (State.jobFault_evolves _ _ _)
    | with_reducible apply State.evolves_step (State.stopFrets_evolves _ _)
    | decide
    | with_reducible intro _ _ _
    | ((try dsimp only); split)

theorem State.laneError_evolves (s : State) (i : Nat) (r : Nat × Nat) :
    s.evolves (State.laneError s i r) [.regs, .frets, .upd, .dram, .fab, .vlk, .adm, .dict, .life] := by
  unfold State.laneError
  repeat' first
    | assumption
    | with_reducible apply State.evolves_refl
    | with_reducible apply State.evolves_ite
    | with_reducible apply State.evolves_foldl
    | with_reducible apply State.evolves_step (State.meetPoison_evolves _ _ _)
    | with_reducible apply State.evolves_step (State.stackFault_evolves _ _ _)
    | with_reducible apply State.evolves_step (State.uncorrectableError_evolves _ _)
    | decide
    | with_reducible intro _ _ _
    | ((try dsimp only); split)

theorem State.stagedError_evolves (s : State) (i : Nat) :
    s.evolves (State.stagedError s i) [.regs, .frets, .upd, .dram, .fab, .vlk, .adm, .dict, .life] := by
  unfold State.stagedError
  repeat' first
    | assumption
    | with_reducible apply State.evolves_refl
    | with_reducible apply State.evolves_ite
    | with_reducible apply State.evolves_foldl
    | with_reducible apply State.evolves_step (State.laneError_evolves _ _ _)
    | with_reducible apply State.evolves_step (State.stackFault_evolves _ _ _)
    | decide
    | with_reducible intro _ _ _
    | ((try dsimp only); split)

theorem State.pushRecord_evolves (s : State) (i blocking rows : Nat) (fmt : Nat) (row col : Bytes) :
    s.evolves (State.pushRecord s i blocking rows fmt row col) [.mem, .regs, .frets, .slanes, .upd, .dram, .fab, .vlk, .adm, .dict] := by
  unfold State.pushRecord
  repeat' first
    | assumption
    | with_reducible apply State.evolves_refl
    | with_reducible apply State.evolves_ite
    | with_reducible apply State.evolves_foldl
    | with_reducible apply State.evolves_step (State.flag_evolves _ _ _ _)
    | with_reducible apply State.evolves_step (State.setLane_evolves _ _ _)
    | with_reducible apply State.evolves_step (State.setReg_evolves _ _ _ _)
    | with_reducible apply State.evolves_step (State.stackFault_evolves _ _ _)
    | with_reducible apply State.evolves_step (State.storeSoon_evolves _ _ _)
    | decide
    | with_reducible intro _ _ _
    | ((try dsimp only); split)

theorem State.countCapo_evolves (s : State) (i path : Nat) (r : Reblock) :
    s.evolves (State.countCapo s i path r) [.regs, .board] := by
  unfold State.countCapo
  repeat' first
    | assumption
    | with_reducible apply State.evolves_refl
    | with_reducible apply State.evolves_ite
    | with_reducible apply State.evolves_foldl
    | with_reducible apply State.evolves_step (State.bump_evolves _ _ _ _)
    | with_reducible apply State.evolves_step (State.flag_evolves _ _ _ _)
    | with_reducible apply State.evolves_step (State.flagCount_evolves _ _ _ _ _ _)
    | with_reducible apply State.evolves_step (State.updBoard_evolves _ _)
    | decide
    | with_reducible intro _ _ _
    | ((try dsimp only); split)

theorem State.drawRecord_evolves (s : State) (i path : Nat) (loadb : Bool) (lines blocks : Nat) (bytes : Option Nat) :
    s.evolves (State.drawRecord s i path loadb lines blocks bytes).state [.regs, .frets, .slanes, .board, .upd, .fab, .vlk, .adm, .dict] := by
  unfold State.drawRecord
  repeat' first
    | assumption
    | with_reducible apply State.evolves_refl
    | with_reducible apply State.evolves_ite
    | with_reducible apply State.evolves_foldl
    | with_reducible apply Source.evolves_ite
    | with_reducible apply Source.evolves_got
    | with_reducible apply Source.evolves_notYet
    | with_reducible apply Source.evolves_failed
    | with_reducible apply State.evolves_step (State.countCapo_evolves _ _ _ _)
    | with_reducible apply State.evolves_step (State.setLane_evolves _ _ _)
    | with_reducible apply State.evolves_step (State.stackFault_evolves _ _ _)
    | decide
    | with_reducible intro _ _ _
    | ((try dsimp only); split)

theorem State.driveRow_evolves (s : State) (i : Nat) (bs : Bytes) :
    s.evolves (State.driveRow s i bs) [.frets] := by
  unfold State.driveRow
  repeat' first
    | assumption
    | with_reducible apply State.evolves_refl
    | with_reducible apply State.evolves_ite
    | with_reducible apply State.evolves_foldl
    | with_reducible apply State.evolves_step (State.updFret_evolves _ _ _)
    | decide
    | with_reducible intro _ _ _
    | ((try dsimp only); split)

theorem State.driveCol_evolves (s : State) (i : Nat) (bs : Bytes) :
    s.evolves (State.driveCol s i bs) [.frets] := by
  unfold State.driveCol
  repeat' first
    | assumption
    | with_reducible apply State.evolves_refl
    | with_reducible apply State.evolves_ite
    | with_reducible apply State.evolves_foldl
    | with_reducible apply State.evolves_step (State.updFret_evolves _ _ _)
    | decide
    | with_reducible intro _ _ _
    | ((try dsimp only); split)

theorem State.passOn_evolves (s : State) (i mask : Nat) (bs : Bytes) :
    s.evolves (State.passOn s i mask bs) [.frets] := by
  unfold State.passOn
  repeat' first
    | assumption
    | with_reducible apply State.evolves_refl
    | with_reducible apply State.evolves_ite
    | with_reducible apply State.evolves_foldl
    | with_reducible apply State.evolves_step (State.updFret_evolves _ _ _)
    | decide
    | with_reducible intro _ _ _
    | ((try dsimp only); split)

theorem State.deliver_evolves (s : State) (i dst off : Nat) (bs : Bytes) :
    s.evolves (State.deliver s i dst off bs) [.frets] := by
  unfold State.deliver
  repeat' first
    | assumption
    | with_reducible apply State.evolves_refl
    | with_reducible apply State.evolves_ite
    | with_reducible apply State.evolves_foldl
    | with_reducible apply State.evolves_step (State.driveCol_evolves _ _ _)
    | with_reducible apply State.evolves_step (State.driveRow_evolves _ _ _)
    | with_reducible apply State.evolves_step (State.passOn_evolves _ _ _ _)
    | with_reducible apply State.evolves_step (State.updFret_evolves _ _ _)
    | decide
    | with_reducible intro _ _ _
    | ((try dsimp only); split)

end Sys2Proof.Machine
end

