-- ==== Sys2Proof/Laws/FrameLadder.lean ====
section
/-! SUPPORT. What each operation of Machine/Ladder.lean may change. -/

namespace Sys2Proof.Machine

theorem State.finishLoad_evolves (s : State) (i slot addr : Nat) (img : Img) (ue : Bool) :
    s.evolves (State.finishLoad s i slot addr img ue).2 [.regs, .frets, .board] := by
  unfold State.finishLoad
  repeat' first
    | assumption
    | with_reducible apply State.evolves_refl
    | with_reducible apply State.evolves_ite
    | with_reducible apply State.evolves_foldl
    | with_reducible apply State.evolves_ite_snd
    | with_reducible apply State.evolves_foldl_snd
    | with_reducible apply State.evolves_step (State.bump_evolves _ _ _ _)
    | with_reducible apply State.evolves_step (State.flag_evolves _ _ _ _)
    | with_reducible apply State.evolves_step (State.setCDie_evolves _ _ _)
    | with_reducible apply State.evolves_step (State.updBoard_evolves _ _)
    | with_reducible apply State.evolves_step (State.updFret_evolves _ _ _)
    | decide
    | with_reducible intro _ _ _
    | ((try dsimp only); split)

theorem State.loadShadow_evolves (s : State) (i vid : Nat) :
    s.evolves (State.loadShadow s i vid) [.regs, .frets, .board, .dram, .fab, .vlk, .adm, .dict, .life] := by
  unfold State.loadShadow
  repeat' first
    | assumption
    | with_reducible apply State.evolves_refl
    | with_reducible apply State.evolves_ite
    | with_reducible apply State.evolves_foldl
    | with_reducible apply State.evolves_step (State.finishLoad_evolves _ _ _ _ _ _)
    | with_reducible apply State.evolves_step (State.meetPoison_evolves _ _ _)
    | with_reducible apply State.evolves_step (State.sweepTables_evolves _ _)
    | with_reducible apply State.evolves_step (State.updFret_evolves _ _ _)
    | decide
    | with_reducible intro _ _ _
    | ((try dsimp only); split)

theorem State.followShadow_evolves (s : State) (i : Nat) :
    s.evolves (State.followShadow s i) [.regs, .frets, .board, .dram, .fab, .vlk, .adm, .dict, .life] := by
  unfold State.followShadow
  repeat' first
    | assumption
    | with_reducible apply State.evolves_refl
    | with_reducible apply State.evolves_ite
    | with_reducible apply State.evolves_foldl
    | with_reducible apply State.evolves_step (State.loadShadow_evolves _ _ _)
    | decide
    | with_reducible intro _ _ _
    | ((try dsimp only); split)

end Sys2Proof.Machine
end

