-- ==== Sys2Proof/Laws/FrameFretboard.lean ====
section
/-! SUPPORT. What each operation of Machine/Fretboard.lean may change. -/

namespace Sys2Proof.Machine

theorem State.beginPhase_evolves (s : State) (i : Nat) :
    s.evolves (State.beginPhase s i) [.board] := by
  unfold State.beginPhase
  repeat' first
    | assumption
    | with_reducible apply State.evolves_refl
    | with_reducible apply State.evolves_ite
    | with_reducible apply State.evolves_foldl
    | with_reducible apply State.evolves_step (State.updBoard_evolves _ _)
    | decide
    | with_reducible intro _ _ _
    | ((try dsimp only); split)

theorem State.aliasWait_evolves (s : State) (i cycles : Nat) :
    s.evolves (State.aliasWait s i cycles) [.regs, .board] := by
  unfold State.aliasWait
  repeat' first
    | assumption
    | with_reducible apply State.evolves_refl
    | with_reducible apply State.evolves_ite
    | with_reducible apply State.evolves_foldl
    | with_reducible apply State.evolves_step (State.bump_evolves _ _ _ _)
    | with_reducible apply State.evolves_step (State.flag_evolves _ _ _ _)
    | with_reducible apply State.evolves_step (State.updBoard_evolves _ _)
    | decide
    | with_reducible intro _ _ _
    | ((try dsimp only); split)

theorem State.markLane_evolves (s : State) (i : Nat) (v : Voicing) :
    s.evolves (State.markLane s i v) [.slanes] := by
  unfold State.markLane
  repeat' first
    | assumption
    | with_reducible apply State.evolves_refl
    | with_reducible apply State.evolves_ite
    | with_reducible apply State.evolves_foldl
    | with_reducible apply State.evolves_step (State.setLane_evolves _ _ _)
    | decide
    | with_reducible intro _ _ _
    | ((try dsimp only); split)

theorem State.loadNext_evolves (s : State) (i : Nat) :
    s.evolves (State.loadNext s i) [.regs, .frets, .board, .dram, .fab, .vlk, .adm, .dict, .life] := by
  unfold State.loadNext
  repeat' first
    | assumption
    | with_reducible apply State.evolves_refl
    | with_reducible apply State.evolves_ite
    | with_reducible apply State.evolves_foldl
    | with_reducible apply State.evolves_step (State.loadShadow_evolves _ _ _)
    | with_reducible apply State.evolves_step (State.updFret_evolves _ _ _)
    | decide
    | with_reducible intro _ _ _
    | ((try dsimp only); split)

theorem State.switchFret_evolves (s : State) (i : Nat) (halted : Bool) :
    s.evolves (State.switchFret s i halted) [.regs, .frets, .slanes, .board, .num, .dram, .fab, .vlk, .adm, .dict, .life] := by
  unfold State.switchFret
  repeat' first
    | assumption
    | with_reducible apply State.evolves_refl
    | with_reducible apply State.evolves_ite
    | with_reducible apply State.evolves_foldl
    | with_reducible apply State.evolves_step (State.beginPhase_evolves _ _)
    | with_reducible apply State.evolves_step (State.bump_evolves _ _ _ _)
    | with_reducible apply State.evolves_step (State.flag_evolves _ _ _ _)
    | with_reducible apply State.evolves_step (State.followShadow_evolves _ _)
    | with_reducible apply State.evolves_step (State.leavePhase_evolves _ _)
    | with_reducible apply State.evolves_step (State.loadNext_evolves _ _)
    | with_reducible apply State.evolves_step (State.markLane_evolves _ _ _)
    | with_reducible apply State.evolves_step (State.setFret_evolves _ _ _)
    | decide
    | with_reducible intro _ _ _
    | ((try dsimp only); split)

theorem State.addStats_evolves (s : State) (i tensor fmt mode mb : Nat) (grad : Bool) (bs : List (Fmt.Block × List F32)) :
    s.evolves (State.addStats s i tensor fmt mode mb grad bs) [.regs, .board] := by
  unfold State.addStats
  repeat' first
    | assumption
    | with_reducible apply State.evolves_refl
    | with_reducible apply State.evolves_ite
    | with_reducible apply State.evolves_foldl
    | with_reducible apply State.evolves_step (State.flagCount_evolves _ _ _ _ _ _)
    | with_reducible apply State.evolves_step (State.updBoard_evolves _ _)
    | decide
    | with_reducible intro _ _ _
    | ((try dsimp only); split)

theorem State.convRow_evolves (s : State) (i k rows line block : Nat) :
    s.evolves (State.convRow s i k rows line block).2 [.regs, .board] := by
  unfold State.convRow
  repeat' first
    | assumption
    | with_reducible apply State.evolves_refl
    | with_reducible apply State.evolves_ite
    | with_reducible apply State.evolves_foldl
    | with_reducible apply State.evolves_ite_snd
    | with_reducible apply State.evolves_foldl_snd
    | with_reducible apply State.evolves_step (State.addStats_evolves _ _ _ _ _ _ _ _)
    | decide
    | with_reducible intro _ _ _
    | ((try dsimp only); split)

theorem State.convCol_evolves (s : State) (i k rows line block : Nat) :
    s.evolves (State.convCol s i k rows line block).2 [.regs, .board] := by
  unfold State.convCol
  repeat' first
    | assumption
    | with_reducible apply State.evolves_refl
    | with_reducible apply State.evolves_ite
    | with_reducible apply State.evolves_foldl
    | with_reducible apply State.evolves_ite_snd
    | with_reducible apply State.evolves_foldl_snd
    | with_reducible apply State.evolves_step (State.addStats_evolves _ _ _ _ _ _ _ _)
    | decide
    | with_reducible intro _ _ _
    | ((try dsimp only); split)

theorem State.slotTile_evolves (s : State) (i fmt lines blocks slot line block : Nat) :
    s.evolves (State.slotTile s i fmt lines blocks slot line block).2 [.regs, .board] := by
  unfold State.slotTile
  repeat' first
    | assumption
    | with_reducible apply State.evolves_refl
    | with_reducible apply State.evolves_ite
    | with_reducible apply State.evolves_foldl
    | with_reducible apply State.evolves_ite_snd
    | with_reducible apply State.evolves_foldl_snd
    | with_reducible apply State.evolves_step (State.addStats_evolves _ _ _ _ _ _ _ _)
    | decide
    | with_reducible intro _ _ _
    | ((try dsimp only); split)

theorem State.takeTile_evolves (s : State) (i src path : Nat) (loadb : Bool) (fmt lines blocks off line block : Nat) (supply : Bytes)
    (ue : Bool) :
    s.evolves (State.takeTile s i src path loadb fmt lines blocks off line block supply ue).state [.regs, .frets, .slanes, .board, .upd, .dram, .fab, .vlk, .adm, .dict, .life] := by
  unfold State.takeTile
  repeat' first
    | assumption
    | with_reducible apply State.evolves_refl
    | with_reducible apply State.evolves_ite
    | with_reducible apply State.evolves_foldl
    | with_reducible apply Source.evolves_ite
    | with_reducible apply Source.evolves_got
    | with_reducible apply Source.evolves_notYet
    | with_reducible apply Source.evolves_failed
    | with_reducible apply State.evolves_step (State.countCapo_evolves _ _ _ _)
    | with_reducible apply State.evolves_step (State.drawRecord_evolves _ _ _ _ _ _ _)
    | with_reducible apply State.evolves_step (State.setFret_evolves _ _ _)
    | with_reducible apply State.evolves_step (State.slotTile_evolves _ _ _ _ _ _ _ _)
    | with_reducible apply State.evolves_step (State.stagedError_evolves _ _)
    | decide
    | with_reducible intro _ _ _
    | ((try dsimp only); split)

theorem State.sourceWait_evolves (s : State) (i src cycles : Nat) :
    s.evolves (State.sourceWait s i src cycles) [.regs, .board] := by
  unfold State.sourceWait
  repeat' first
    | assumption
    | with_reducible apply State.evolves_refl
    | with_reducible apply State.evolves_ite
    | with_reducible apply State.evolves_foldl
    | with_reducible apply State.evolves_step (State.aliasWait_evolves _ _ _)
    | decide
    | with_reducible intro _ _ _
    | ((try dsimp only); split)

theorem execNop_evolves (f : Issue) (s : State) :
    Outcome.evolves s [.regs, .frets] (execNop f s) := by
  unfold execNop
  refine Outcome.evolves_next ?_
  repeat' first
    | assumption
    | with_reducible apply State.evolves_refl
    | with_reducible apply State.evolves_ite
    | with_reducible apply State.evolves_foldl
    | with_reducible apply State.evolves_step (State.sramCe_evolves _ _ _)
    | with_reducible apply State.evolves_step (State.updFret_evolves _ _ _)
    | decide
    | with_reducible intro _ _ _
    | ((try dsimp only); split)

theorem State.passOperand_evolves (s : State) (i src : Nat) (bs : Bytes) :
    s.evolves (State.passOperand s i src bs) [.frets] := by
  unfold State.passOperand
  repeat' first
    | assumption
    | with_reducible apply State.evolves_refl
    | with_reducible apply State.evolves_ite
    | with_reducible apply State.evolves_foldl
    | with_reducible apply State.evolves_step (State.passOn_evolves _ _ _ _)
    | decide
    | with_reducible intro _ _ _
    | ((try dsimp only); split)

theorem execLoadb_evolves (f : Issue) (supply : Supply) (ue : Bool) (s : State) :
    Outcome.evolves s [.regs, .frets, .slanes, .board, .upd, .dram, .fab, .vlk, .adm, .dict, .life] (execLoadb f supply ue s) := by
  unfold execLoadb
  refine Outcome.evolves_next ?_
  dsimp only
  split
  · exact State.evolves_refl _ _
  · apply State.evolves_ite (State.evolves_refl _ _)
    have k := fun src path fmt lines blocks off => State.takeTile_evolves s (fretIdx f.toFretId) src path true fmt lines blocks off
      supply.line supply.block supply.bytes ue
    split
    · next h => exact Source.evolves_eq (k _ _ _ _ _ _) h (by decide)
    · next h => exact Source.evolves_eq (k _ _ _ _ _ _) h (by decide)
    · next h =>
      refine State.evolves_step (State.passOperand_evolves _ _ _ _) ?_ (by decide)
      refine State.evolves_step (State.sourceWait_evolves _ _ _ _) ?_ (by decide)
      refine State.evolves_step (State.sramCe_evolves _ _ _) ?_ (by decide)
      exact State.evolves_step (State.updFret_evolves _ _ _) (Source.evolves_eq (k _ _ _ _ _ _) h (by decide)) (by decide)

theorem execLoadbDone_evolves (f : FretId) (s : State) :
    Outcome.evolves s [.frets] (execLoadbDone f s) := by
  unfold execLoadbDone
  refine Outcome.evolves_next ?_
  repeat' first
    | assumption
    | with_reducible apply State.evolves_refl
    | with_reducible apply State.evolves_ite
    | with_reducible apply State.evolves_foldl
    | with_reducible apply State.evolves_step (State.setFret_evolves _ _ _)
    | decide
    | with_reducible intro _ _ _
    | ((try dsimp only); split)

theorem execSwapb_evolves (f : Issue) (s : State) :
    Outcome.evolves s [.regs, .frets] (execSwapb f s) := by
  unfold execSwapb
  refine Outcome.evolves_next ?_
  repeat' first
    | assumption
    | with_reducible apply State.evolves_refl
    | with_reducible apply State.evolves_ite
    | with_reducible apply State.evolves_foldl
    | with_reducible apply State.evolves_step (State.setFret_evolves _ _ _)
    | with_reducible apply State.evolves_step (State.sramCe_evolves _ _ _)
    | decide
    | with_reducible intro _ _ _
    | ((try dsimp only); split)

theorem State.agree_evolves (s : State) (i k rows row tile : Nat) :
    s.evolves (State.agree s i k rows row tile) [.regs, .num, .dict] := by
  unfold State.agree
  repeat' first
    | assumption
    | with_reducible apply State.evolves_refl
    | with_reducible apply State.evolves_ite
    | with_reducible apply State.evolves_foldl
    | with_reducible apply State.evolves_step (State.bump_evolves _ _ _ _)
    | with_reducible apply State.evolves_step (State.event_evolves _ _ _)
    | with_reducible apply State.evolves_step (State.flag_evolves _ _ _ _)
    | fail_if_no_progress ((with_reducible apply State.evolves_set_num); decide)
    | decide
    | with_reducible intro _ _ _
    | ((try dsimp only); split)

theorem State.countStream_evolves (s : State) (d : Nat) (c : StreamCount) :
    s.evolves (State.countStream s d c) [.regs] := by
  unfold State.countStream
  repeat' first
    | assumption
    | with_reducible apply State.evolves_refl
    | with_reducible apply State.evolves_ite
    | with_reducible apply State.evolves_foldl
    | with_reducible apply State.evolves_step (State.flagCount_evolves _ _ _ _ _ _)
    | decide
    | with_reducible intro _ _ _
    | ((try dsimp only); split)

theorem State.watchStream_evolves (s : State) (i w : Nat) (A B : Tile) (q : SampleAt) (p : Param) :
    s.evolves (State.watchStream s i w A B q p) [.regs, .frets, .num, .upd, .dram, .fab, .vlk, .adm, .dict, .life] := by
  unfold State.watchStream
  repeat' first
    | assumption
    | with_reducible apply State.evolves_refl
    | with_reducible apply State.evolves_ite
    | with_reducible apply State.evolves_foldl
    | with_reducible apply State.evolves_step (State.agree_evolves _ _ _ _ _ _)
    | with_reducible apply State.evolves_step (State.countStream_evolves _ _ _)
    | with_reducible apply State.evolves_step (State.failRead_evolves _ _ _)
    | with_reducible apply State.evolves_step (State.setFret_evolves _ _ _)
    | decide
    | with_reducible intro _ _ _
    | ((try dsimp only); split)

theorem execStream_evolves (f : FretId) (wait ce : Nat) (supply : Supply) (ue : Bool)
    (sample : Option SampleAt) (s : State) :
    Outcome.evolves s [.regs, .frets, .slanes, .board, .num, .upd, .dram, .fab, .vlk, .adm, .dict, .life] (execStream f wait ce supply ue sample s) := by
  unfold execStream
  refine Outcome.evolves_next ?_
  dsimp only
  split
  · exact State.evolves_refl _ _
  · next w _ =>
    apply State.evolves_ite (State.evolves_refl _ _)
    have k := fun src path fmt lines blocks off => State.takeTile_evolves s (fretIdx f) src path false fmt lines blocks off
      supply.line supply.block supply.bytes ue
    split
    · next h => exact Source.evolves_eq (k _ _ _ _ _ _) h (by decide)
    · next h => exact Source.evolves_eq (k _ _ _ _ _ _) h (by decide)
    · next x A h =>
      have h0 : s.evolves x [.regs, .frets, .slanes, .board, .num, .upd, .dram, .fab, .vlk, .adm, .dict, .life] := Source.evolves_eq (k _ _ _ _ _ _) h (by decide)
      have h1 : ∀ w c, s.evolves (((x.aliasWait (fretIdx f) wait).sourceWait (fretIdx f) w c).sramCe f.die.val ce) [.regs, .frets, .slanes, .board, .num, .upd, .dram, .fab, .vlk, .adm, .dict, .life] :=
        fun w c => State.evolves_step (State.sramCe_evolves _ _ _) (State.evolves_step (State.sourceWait_evolves _ _ _ _)
          (State.evolves_step (State.aliasWait_evolves _ _ _) h0 (by decide)) (by decide)) (by decide)
      have h1 := h1 (bits w 55 52) supply.wait
      generalize State.sramCe _ _ _ = y at h1
      refine State.evolves_step (State.passOperand_evolves _ _ _ _) ?_ (by decide)
      refine State.evolves_step (State.updFret_evolves _ _ _) ?_ (by decide)
      have h2 : ∀ g d r, s.evolves ((y.setFret (fretIdx f) g).countStream d r) [.regs, .frets, .slanes, .board, .num, .upd, .dram, .fab, .vlk, .adm, .dict, .life] := fun g d r =>
        State.evolves_step (State.countStream_evolves _ _ _) (State.evolves_step (State.setFret_evolves _ _ _) h1 (by decide)) (by decide)
      split
      · split
        · exact State.evolves_step (State.watchStream_evolves _ _ _ _ _ _ _) (h2 _ _ _) (by decide)
        · exact h2 _ _ _
      · exact h2 _ _ _

theorem execSpill_evolves (f : Issue) (slot : Fin 16) (s : State) :
    Outcome.evolves s [.regs, .frets] (execSpill f slot s) := by
  unfold execSpill
  refine Outcome.evolves_next ?_
  repeat' first
    | assumption
    | with_reducible apply State.evolves_refl
    | with_reducible apply State.evolves_ite
    | with_reducible apply State.evolves_foldl
    | with_reducible apply State.evolves_step (State.bump_evolves _ _ _ _)
    | with_reducible apply State.evolves_step (State.flagCount_evolves _ _ _ _ _ _)
    | with_reducible apply State.evolves_step (State.setFret_evolves _ _ _)
    | with_reducible apply State.evolves_step (State.sramCe_evolves _ _ _)
    | decide
    | with_reducible intro _ _ _
    | ((try dsimp only); split)

theorem execSumBoundExceeded_evolves (f : FretId) (slot : Fin 16) (s : State) :
    Outcome.evolves s [.regs, .frets, .dict] (execSumBoundExceeded f slot s) := by
  unfold execSumBoundExceeded
  refine Outcome.evolves_next ?_
  repeat' first
    | assumption
    | with_reducible apply State.evolves_refl
    | with_reducible apply State.evolves_ite
    | with_reducible apply State.evolves_foldl
    | with_reducible apply State.evolves_step (State.bump_evolves _ _ _ _)
    | with_reducible apply State.evolves_step (State.event_evolves _ _ _)
    | with_reducible apply State.evolves_step (State.flag_evolves _ _ _ _)
    | with_reducible apply State.evolves_step (State.setFret_evolves _ _ _)
    | with_reducible apply State.evolves_step (State.setReg_evolves _ _ _ _)
    | decide
    | with_reducible intro _ _ _
    | ((try dsimp only); split)

theorem execEpu_evolves (f : Issue) (wait : Nat) (s : State) :
    Outcome.evolves s [.regs, .frets, .board] (execEpu f wait s) := by
  unfold execEpu
  refine Outcome.evolves_next ?_
  repeat' first
    | assumption
    | with_reducible apply State.evolves_refl
    | with_reducible apply State.evolves_ite
    | with_reducible apply State.evolves_foldl
    | with_reducible apply State.evolves_step (State.aliasWait_evolves _ _ _)
    | with_reducible apply State.evolves_step (State.flag_evolves _ _ _ _)
    | with_reducible apply State.evolves_step (State.flagCount_evolves _ _ _ _ _ _)
    | with_reducible apply State.evolves_step (State.setFret_evolves _ _ _)
    | with_reducible apply State.evolves_step (State.sramCe_evolves _ _ _)
    | decide
    | with_reducible intro _ _ _
    | ((try dsimp only); split)

theorem execConv_evolves (f : Issue) (wait busWait line block : Nat) (s : State) :
    Outcome.evolves s [.mem, .regs, .frets, .slanes, .board, .upd, .dram, .fab, .vlk, .adm, .dict] (execConv f wait busWait line block s) := by
  unfold execConv
  refine Outcome.evolves_next ?_
  repeat' first
    | assumption
    | with_reducible apply State.evolves_refl
    | with_reducible apply State.evolves_ite
    | with_reducible apply State.evolves_foldl
    | with_reducible apply State.evolves_step (State.aliasWait_evolves _ _ _)
    | with_reducible apply State.evolves_step (State.bump_evolves _ _ _ _)
    | with_reducible apply State.evolves_step (State.convCol_evolves _ _ _ _ _ _)
    | with_reducible apply State.evolves_step (State.convRow_evolves _ _ _ _ _ _)
    | with_reducible apply State.evolves_step (State.deliver_evolves _ _ _ _ _)
    | with_reducible apply State.evolves_step (State.pushRecord_evolves _ _ _ _ _ _ _)
    | with_reducible apply State.evolves_step (State.sramCe_evolves _ _ _)
    | with_reducible apply State.evolves_step (State.updFret_evolves _ _ _)
    | decide
    | with_reducible intro _ _ _
    | ((try dsimp only); split)

theorem execSend_evolves (f : Issue) (busWait : Nat) (s : State) :
    Outcome.evolves s [.mem, .regs, .frets, .slanes, .upd, .dram, .fab, .vlk, .adm, .dict] (execSend f busWait s) := by
  unfold execSend
  refine Outcome.evolves_next ?_
  repeat' first
    | assumption
    | with_reducible apply State.evolves_refl
    | with_reducible apply State.evolves_ite
    | with_reducible apply State.evolves_foldl
    | with_reducible apply State.evolves_step (State.bump_evolves _ _ _ _)
    | with_reducible apply State.evolves_step (State.deliver_evolves _ _ _ _ _)
    | with_reducible apply State.evolves_step (State.pushRecord_evolves _ _ _ _ _ _ _)
    | with_reducible apply State.evolves_step (State.sramCe_evolves _ _ _)
    | with_reducible apply State.evolves_step (State.updFret_evolves _ _ _)
    | decide
    | with_reducible intro _ _ _
    | ((try dsimp only); split)

theorem State.recvBytes_evolves (s : State) (i src off n : Nat) (supply : Bytes) (ue : Bool) :
    s.evolves (State.recvBytes s i src off n supply ue).state [.regs, .frets, .slanes, .board, .upd, .dram, .fab, .vlk, .adm, .dict, .life] := by
  unfold State.recvBytes
  repeat' first
    | assumption
    | with_reducible apply State.evolves_refl
    | with_reducible apply State.evolves_ite
    | with_reducible apply State.evolves_foldl
    | with_reducible apply Source.evolves_ite
    | with_reducible apply Source.evolves_got
    | with_reducible apply Source.evolves_notYet
    | with_reducible apply Source.evolves_failed
    | with_reducible apply State.evolves_step (State.drawRecord_evolves _ _ _ _ _ _ _)
    | with_reducible apply State.evolves_step (State.setFret_evolves _ _ _)
    | with_reducible apply State.evolves_step (State.stagedError_evolves _ _)
    | decide
    | with_reducible intro _ _ _
    | ((try dsimp only); split)

theorem State.finishRecv_evolves (s : State) (i ce : Nat) (supply : Supply) (ue : Bool) :
    s.evolves (State.finishRecv s i ce supply ue) [.regs, .frets, .slanes, .board, .upd, .dram, .fab, .vlk, .adm, .dict, .life] := by
  unfold State.finishRecv
  split
  · exact State.evolves_refl _ _
  · next r _ =>
    apply State.evolves_ite (State.evolves_refl _ _)
    have k : s.evolves ((s.sourceWait i r.1 supply.wait).recvBytes i r.1 r.2.1 r.2.2 supply.bytes ue).state [.regs, .frets, .slanes, .board, .upd, .dram, .fab, .vlk, .adm, .dict, .life] :=
      State.evolves_step (State.recvBytes_evolves _ _ _ _ _ _ _) (State.evolves_wider (State.sourceWait_evolves _ _ _ _) (by decide))
        (by decide)
    split
    · next h => exact Source.evolves_eq k h (by decide)
    · next h => exact Source.evolves_eq k h (by decide)
    · next h =>
      refine State.evolves_step (State.sramCe_evolves _ _ _) ?_ (by decide)
      exact State.evolves_step (State.updFret_evolves _ _ _) (Source.evolves_eq k h (by decide)) (by decide)

theorem execRecv_evolves (f : Issue) (supply : Supply) (ue : Bool) (s : State) :
    Outcome.evolves s [.regs, .frets, .slanes, .board, .upd, .dram, .fab, .vlk, .adm, .dict, .life] (execRecv f supply ue s) := by
  unfold execRecv
  refine Outcome.evolves_next ?_
  dsimp only
  split
  · exact State.evolves_refl _ _
  · apply State.evolves_ite (State.evolves_refl _ _)
    have h : ∀ g, s.evolves ((s.setFret (fretIdx f.toFretId) g).sramCe f.die.val f.ce) [.regs, .frets, .slanes, .board, .upd, .dram, .fab, .vlk, .adm, .dict, .life] := fun g =>
      State.evolves_step (State.sramCe_evolves _ _ _) (State.evolves_wider (State.setFret_evolves _ _ _) (by decide)) (by decide)
    exact State.evolves_ite (State.evolves_step (State.finishRecv_evolves _ _ _ _ _) (h _) (by decide)) (h _)

theorem execRecvDone_evolves (f : Issue) (supply : Supply) (s : State) :
    Outcome.evolves s [.regs, .frets, .slanes, .board, .upd, .dram, .fab, .vlk, .adm, .dict, .life] (execRecvDone f supply s) := by
  unfold execRecvDone
  exact Outcome.evolves_next (State.evolves_wider (State.finishRecv_evolves _ _ _ _ _) (by decide))

theorem execLoop_evolves (f : Issue) (s : State) :
    Outcome.evolves s [.regs, .frets] (execLoop f s) := by
  unfold execLoop
  refine Outcome.evolves_next ?_
  repeat' first
    | assumption
    | with_reducible apply State.evolves_refl
    | with_reducible apply State.evolves_ite
    | with_reducible apply State.evolves_foldl
    | with_reducible apply State.evolves_step (State.setFret_evolves _ _ _)
    | with_reducible apply State.evolves_step (State.sramCe_evolves _ _ _)
    | decide
    | with_reducible intro _ _ _
    | ((try dsimp only); split)

theorem execWait_evolves (f : Issue) (s : State) :
    Outcome.evolves s [.regs, .frets, .slanes, .upd, .fab, .vlk, .adm, .dict] (execWait f s) := by
  unfold execWait
  refine Outcome.evolves_next ?_
  repeat' first
    | assumption
    | with_reducible apply State.evolves_refl
    | with_reducible apply State.evolves_ite
    | with_reducible apply State.evolves_foldl
    | with_reducible apply State.evolves_step (State.setFret_evolves _ _ _)
    | with_reducible apply State.evolves_step (State.setLane_evolves _ _ _)
    | with_reducible apply State.evolves_step (State.sramCe_evolves _ _ _)
    | with_reducible apply State.evolves_step (State.stackFault_evolves _ _ _)
    | decide
    | with_reducible intro _ _ _
    | ((try dsimp only); split)

theorem execWaitRelease_evolves (f : FretId) (s : State) :
    Outcome.evolves s [.frets] (execWaitRelease f s) := by
  unfold execWaitRelease
  refine Outcome.evolves_next ?_
  repeat' first
    | assumption
    | with_reducible apply State.evolves_refl
    | with_reducible apply State.evolves_ite
    | with_reducible apply State.evolves_foldl
    | with_reducible apply State.evolves_step (State.setFret_evolves _ _ _)
    | decide
    | with_reducible intro _ _ _
    | ((try dsimp only); split)

theorem execSwitch_evolves (f : Issue) (s : State) :
    Outcome.evolves s [.regs, .frets, .slanes, .board, .num, .dram, .fab, .vlk, .adm, .dict, .life] (execSwitch f s) := by
  unfold execSwitch
  refine Outcome.evolves_next ?_
  repeat' first
    | assumption
    | with_reducible apply State.evolves_refl
    | with_reducible apply State.evolves_ite
    | with_reducible apply State.evolves_foldl
    | with_reducible apply State.evolves_step (State.setFret_evolves _ _ _)
    | with_reducible apply State.evolves_step (State.sramCe_evolves _ _ _)
    | with_reducible apply State.evolves_step (State.switchFret_evolves _ _ _)
    | decide
    | with_reducible intro _ _ _
    | ((try dsimp only); split)

theorem execSwitchWaitEnd_evolves (f : FretId) (s : State) :
    Outcome.evolves s [.regs, .frets, .slanes, .board, .num, .dram, .fab, .vlk, .adm, .dict, .life] (execSwitchWaitEnd f s) := by
  unfold execSwitchWaitEnd
  refine Outcome.evolves_next ?_
  repeat' first
    | assumption
    | with_reducible apply State.evolves_refl
    | with_reducible apply State.evolves_ite
    | with_reducible apply State.evolves_foldl
    | with_reducible apply State.evolves_step (State.setFret_evolves _ _ _)
    | with_reducible apply State.evolves_step (State.switchFret_evolves _ _ _)
    | decide
    | with_reducible intro _ _ _
    | ((try dsimp only); split)

theorem execHalt_evolves (f : Issue) (s : State) :
    Outcome.evolves s [.regs, .frets, .board, .num, .dict] (execHalt f s) := by
  unfold execHalt
  refine Outcome.evolves_next ?_
  repeat' first
    | assumption
    | with_reducible apply State.evolves_refl
    | with_reducible apply State.evolves_ite
    | with_reducible apply State.evolves_foldl
    | with_reducible apply State.evolves_step (State.leavePhase_evolves _ _)
    | with_reducible apply State.evolves_step (State.setFret_evolves _ _ _)
    | with_reducible apply State.evolves_step (State.sramCe_evolves _ _ _)
    | decide
    | with_reducible intro _ _ _
    | ((try dsimp only); split)

end Sys2Proof.Machine
end

