-- ==== Sys2Proof/Laws/FrameBridge.lean ====
section
/-! SUPPORT. What each operation of Machine/Bridge.lean may change. -/

namespace Sys2Proof.Machine

theorem State.addNorm_evolves (s : State) (c : Contribution) (kind die : Nat) (value : F32) :
    s.evolves (State.addNorm s c kind die value) [.regs, .board] := by
  unfold State.addNorm
  repeat' first
    | assumption
    | with_reducible apply State.evolves_refl
    | with_reducible apply State.evolves_ite
    | with_reducible apply State.evolves_foldl
    | with_reducible apply State.evolves_step (State.flag_evolves _ _ _ _)
    | with_reducible apply State.evolves_step (State.updBoard_evolves _ _)
    | decide
    | with_reducible intro _ _ _
    | ((try dsimp only); split)

theorem State.deliverTo_evolves (s : State) (c : Contribution) (res : List BRow) :
    s.evolves (State.deliverTo s c res) [.frets] := by
  unfold State.deliverTo
  repeat' first
    | assumption
    | with_reducible apply State.evolves_refl
    | with_reducible apply State.evolves_ite
    | with_reducible apply State.evolves_foldl
    | with_reducible apply State.evolves_step (State.updFret_evolves _ _ _)
    | decide
    | with_reducible intro _ _ _
    | ((try dsimp only); split)

theorem State.bridgeRetire_evolves (s : State) (c : Contribution) :
    s.evolves (State.bridgeRetire s c) [.frets] := by
  unfold State.bridgeRetire
  repeat' first
    | assumption
    | with_reducible apply State.evolves_refl
    | with_reducible apply State.evolves_ite
    | with_reducible apply State.evolves_foldl
    | with_reducible apply State.evolves_step (State.updFret_evolves _ _ _)
    | decide
    | with_reducible intro _ _ _
    | ((try dsimp only); split)

theorem State.completeBridge_evolves (s : State) (ms : List Contribution) (res : List BRow) :
    s.evolves (State.completeBridge s ms res) [.regs, .frets, .board, .dram] := by
  unfold State.completeBridge
  repeat' first
    | assumption
    | with_reducible apply State.evolves_refl
    | with_reducible apply State.evolves_ite
    | with_reducible apply State.evolves_foldl
    | with_reducible apply State.evolves_step (State.addNorm_evolves _ _ _ _ _)
    | with_reducible apply State.evolves_step (State.bridgeRetire_evolves _ _)
    | with_reducible apply State.evolves_step (State.bump_evolves _ _ _ _)
    | with_reducible apply State.evolves_step (State.deliverTo_evolves _ _ _)
    | with_reducible apply State.evolves_step (State.flagCount_evolves _ _ _ _ _ _)
    | with_reducible apply State.evolves_step (State.serveWindows_evolves _)
    | with_reducible apply State.evolves_step (State.updBoard_evolves _ _)
    | decide
    | with_reducible intro _ _ _
    | ((try dsimp only); split)

theorem State.chunkUp_evolves (s : State) (t : TreeOp) (chunk : Nat) :
    s.evolves (State.chunkUp s t chunk) [.regs, .fab] := by
  unfold State.chunkUp
  repeat' first
    | assumption
    | with_reducible apply State.evolves_refl
    | with_reducible apply State.evolves_ite
    | with_reducible apply State.evolves_foldl
    | with_reducible apply State.evolves_step (State.chunkDown_evolves _ _ _ _)
    | with_reducible apply State.evolves_step (State.flagCount_evolves _ _ _ _ _ _)
    | with_reducible apply State.evolves_step (State.sendChunk_evolves _ _ _ _ _ _ _)
    | decide
    | with_reducible intro _ _ _
    | ((try dsimp only); split)

theorem execBridge_evolves (f : Issue) (wait : Nat) (s : State) :
    Outcome.evolves s [.regs, .frets, .board] (execBridge f wait s) := by
  unfold execBridge
  refine Outcome.evolves_next ?_
  repeat' first
    | assumption
    | with_reducible apply State.evolves_refl
    | with_reducible apply State.evolves_ite
    | with_reducible apply State.evolves_foldl
    | with_reducible apply State.evolves_step (State.aliasWait_evolves _ _ _)
    | with_reducible apply State.evolves_step (State.flag_evolves _ _ _ _)
    | with_reducible apply State.evolves_step (State.sramCe_evolves _ _ _)
    | with_reducible apply State.evolves_step (State.updBoard_evolves _ _)
    | with_reducible apply State.evolves_step (State.updFret_evolves _ _ _)
    | decide
    | with_reducible intro _ _ _
    | ((try dsimp only); split)

theorem State.dieResult_evolves (s : State) (c : Contribution) (ms0 ms1 : List Contribution) :
    s.evolves (State.dieResult s c ms0 ms1).2 [.regs] := by
  unfold State.dieResult
  repeat' first
    | assumption
    | with_reducible apply State.evolves_refl
    | with_reducible apply State.evolves_ite
    | with_reducible apply State.evolves_foldl
    | with_reducible apply State.evolves_ite_snd
    | with_reducible apply State.evolves_foldl_snd
    | with_reducible apply State.evolves_step (State.flagCount_evolves _ _ _ _ _ _)
    | decide
    | with_reducible intro _ _ _
    | ((try dsimp only); split)

theorem execBridgeResult_evolves (die : Fin 2) (base : Fin 384) (s : State) :
    Outcome.evolves s [.regs, .frets, .board, .upd, .dram, .fab, .vlk, .adm, .dict, .life] (execBridgeResult die base s) := by
  unfold execBridgeResult
  refine Outcome.evolves_next ?_
  repeat' first
    | assumption
    | with_reducible apply State.evolves_refl
    | with_reducible apply State.evolves_ite
    | with_reducible apply State.evolves_foldl
    | with_reducible apply State.evolves_step (State.chunkUp_evolves _ _ _)
    | with_reducible apply State.evolves_step (State.completeBridge_evolves _ _ _)
    | with_reducible apply State.evolves_step (State.dieResult_evolves _ _ _ _)
    | with_reducible apply State.evolves_step (State.failRead_evolves _ _ _)
    | with_reducible apply State.evolves_step (State.flag_evolves _ _ _ _)
    | with_reducible apply State.evolves_step (State.setTree_evolves _ _)
    | fail_if_no_progress ((with_reducible apply State.evolves_set_fab); decide; (first | (with_reducible exact fun h => h) | exact (fun h => SMap.wf_set _ _ _ _ h) | exact (fun h => SMap.wf_setMany _ _ _ _ h) | exact (fun h => SMap.wf_eraseRange _ _ _ _ h) | exact (fun h => SMap.wfFrom_filter _ _ _ _ h) | exact (fun h => (List.length_set ..).trans h) | exact (fun h => (List.length_modify ..).trans h) | exact (fun h => (List.length_map ..).trans h) | exact (fun h => ⟨h.1, (List.length_set ..).trans h.2⟩) | exact (fun h => h) | exact (fun _ => (List.length_set ..).trans rfl) | exact (fun _ => rfl)))
    | decide
    | with_reducible intro _ _ _
    | ((try dsimp only); split)

theorem execBridgePacket_evolves (layer tensor pass mb opno chunk level op rows n : Nat) (data : List F32) (down : Bool)
    (s : State) :
    Outcome.evolves s [.regs, .fab] (execBridgePacket layer tensor pass mb opno chunk level op rows n data down s) := by
  unfold execBridgePacket
  refine Outcome.evolves_next ?_
  repeat' first
    | assumption
    | with_reducible apply State.evolves_refl
    | with_reducible apply State.evolves_ite
    | with_reducible apply State.evolves_foldl
    | with_reducible apply State.evolves_step (State.chunkDown_evolves _ _ _ _)
    | with_reducible apply State.evolves_step (State.chunkUp_evolves _ _ _)
    | with_reducible apply State.evolves_step (State.flag_evolves _ _ _ _)
    | with_reducible apply State.evolves_step (State.setTree_evolves _ _)
    | with_reducible apply State.evolves_step (State.sumUp_evolves _ _ _)
    | fail_if_no_progress ((with_reducible apply State.evolves_set_fab); decide; (first | (with_reducible exact fun h => h) | exact (fun h => SMap.wf_set _ _ _ _ h) | exact (fun h => SMap.wf_setMany _ _ _ _ h) | exact (fun h => SMap.wf_eraseRange _ _ _ _ h) | exact (fun h => SMap.wfFrom_filter _ _ _ _ h) | exact (fun h => (List.length_set ..).trans h) | exact (fun h => (List.length_modify ..).trans h) | exact (fun h => (List.length_map ..).trans h) | exact (fun h => ⟨h.1, (List.length_set ..).trans h.2⟩) | exact (fun h => h) | exact (fun _ => (List.length_set ..).trans rfl) | exact (fun _ => rfl)))
    | decide
    | with_reducible intro _ _ _
    | ((try dsimp only); split)

end Sys2Proof.Machine
end

