-- ==== Sys2Proof/Laws/FrameSpares.lean ====
section
/-! SUPPORT. What each operation of Machine/Spares.lean may change. -/

namespace Sys2Proof.Machine

theorem State.markFailed_evolves (s : State) (die col phys : Nat) :
    s.evolves (State.markFailed s die col phys) [.life] := by
  unfold State.markFailed
  repeat' first
    | assumption
    | with_reducible apply State.evolves_refl
    | with_reducible apply State.evolves_ite
    | with_reducible apply State.evolves_foldl
    | with_reducible apply State.evolves_step (State.updSpare_evolves _ _)
    | decide
    | with_reducible intro _ _ _
    | ((try dsimp only); split)

theorem State.bypassFret_evolves (s : State) (die col phys : Nat) :
    s.evolves (State.bypassFret s die col phys) [.regs, .dict, .life] := by
  unfold State.bypassFret
  repeat' first
    | assumption
    | with_reducible apply State.evolves_refl
    | with_reducible apply State.evolves_ite
    | with_reducible apply State.evolves_foldl
    | with_reducible apply State.evolves_step (State.event_evolves _ _ _)
    | with_reducible apply State.evolves_step (State.logSubst_evolves _ _ _ _ _)
    | with_reducible apply State.evolves_step (State.markFailed_evolves _ _ _ _)
    | with_reducible apply State.evolves_step (State.updSpare_evolves _ _)
    | decide
    | with_reducible intro _ _ _
    | ((try dsimp only); split)

theorem State.dropLoad_evolves (s : State) (i : Nat) :
    s.evolves (State.dropLoad s i) [.board] := by
  unfold State.dropLoad
  repeat' first
    | assumption
    | with_reducible apply State.evolves_refl
    | with_reducible apply State.evolves_ite
    | with_reducible apply State.evolves_foldl
    | with_reducible apply State.evolves_step (State.setCDie_evolves _ _ _)
    | decide
    | with_reducible intro _ _ _
    | ((try dsimp only); split)

theorem State.dieLeaves_evolves (s : State) (die : Nat) :
    s.evolves (State.dieLeaves s die) [.regs, .board, .dict, .life] := by
  unfold State.dieLeaves
  repeat' first
    | assumption
    | with_reducible apply State.evolves_refl
    | with_reducible apply State.evolves_ite
    | with_reducible apply State.evolves_foldl
    | with_reducible apply State.evolves_step (State.leaveService_evolves _ _ _ _)
    | with_reducible apply State.evolves_step (State.setCDie_evolves _ _ _)
    | decide
    | with_reducible intro _ _ _
    | ((try dsimp only); split)

theorem State.faultLoc_evolves (s : State) (die col phys cause : Nat) :
    s.evolves (State.faultLoc s die col phys cause) [.regs] := by
  unfold State.faultLoc
  repeat' first
    | assumption
    | with_reducible apply State.evolves_refl
    | with_reducible apply State.evolves_ite
    | with_reducible apply State.evolves_foldl
    | with_reducible apply State.evolves_step (State.flag_evolves _ _ _ _)
    | with_reducible apply State.evolves_step (State.setReg_evolves _ _ _ _)
    | decide
    | with_reducible intro _ _ _
    | ((try dsimp only); split)

theorem State.fretFault_evolves (s : State) (die col phys cause : Nat) :
    s.evolves (State.fretFault s die col phys cause) [.regs, .frets, .board, .upd, .fab, .vlk, .adm, .dict, .life] := by
  unfold State.fretFault
  repeat' first
    | assumption
    | with_reducible apply State.evolves_refl
    | with_reducible apply State.evolves_ite
    | with_reducible apply State.evolves_foldl
    | with_reducible apply State.evolves_step (State.breakStep_evolves _ _ _)
    | with_reducible apply State.evolves_step (State.bypassFret_evolves _ _ _ _)
    | with_reducible apply State.evolves_step (State.dieLeaves_evolves _ _)
    | with_reducible apply State.evolves_step (State.dropLoad_evolves _ _)
    | with_reducible apply State.evolves_step (State.faultLoc_evolves _ _ _ _ _)
    | with_reducible apply State.evolves_step (State.flag_evolves _ _ _ _)
    | with_reducible apply State.evolves_step (State.jobFault_evolves _ _ _)
    | with_reducible apply State.evolves_step (State.logSubst_evolves _ _ _ _ _)
    | with_reducible apply State.evolves_step (State.markFailed_evolves _ _ _ _)
    | with_reducible apply State.evolves_step (State.setFault_evolves _ _)
    | with_reducible apply State.evolves_step (State.stopFrets_evolves _ _)
    | with_reducible apply State.evolves_step (State.sweepTables_evolves _ _)
    | with_reducible apply State.evolves_step (State.updFret_evolves _ _ _)
    | decide
    | with_reducible intro _ _ _
    | ((try dsimp only); split)

end Sys2Proof.Machine
end

