-- ==== Sys2Proof/Laws/FramePhases.lean ====
section
/-! SUPPORT. What each operation of Machine/Phases.lean may change. -/

namespace Sys2Proof.Machine

theorem State.loadCtrl_evolves (s : State) (d v : Nat) :
    s.evolves (State.loadCtrl s d v) [.regs, .frets, .board] := by
  unfold State.loadCtrl
  repeat' first
    | assumption
    | with_reducible apply State.evolves_refl
    | with_reducible apply State.evolves_ite
    | with_reducible apply State.evolves_foldl
    | with_reducible apply State.evolves_step (State.flag_evolves _ _ _ _)
    | with_reducible apply State.evolves_step (State.setCDie_evolves _ _ _)
    | with_reducible apply State.evolves_step (State.setReg_evolves _ _ _ _)
    | with_reducible apply State.evolves_step (State.sweepTables_evolves _ _)
    | with_reducible apply State.evolves_step (State.updFret_evolves _ _ _)
    | decide
    | with_reducible intro _ _ _
    | ((try dsimp only); split)

theorem execVoicingLoad_evolves (die : Fin 2) (value : BitVec 32) (priv : Bool) (s : State) :
    Outcome.evolves s [.regs, .frets, .board] (execVoicingLoad die value priv s) := by
  unfold execVoicingLoad
  refine Outcome.evolves_next ?_
  repeat' first
    | assumption
    | with_reducible apply State.evolves_refl
    | with_reducible apply State.evolves_ite
    | with_reducible apply State.evolves_foldl
    | with_reducible apply State.evolves_step (State.denied_evolves _ _ _)
    | with_reducible apply State.evolves_step (State.loadCtrl_evolves _ _ _)
    | decide
    | with_reducible intro _ _ _
    | ((try dsimp only); split)

theorem execVoicingLoadDone_evolves (die : Fin 2) (ue : Bool) (s : State) :
    Outcome.evolves s [.mem, .regs, .frets, .board, .upd, .dram, .fab, .vlk, .adm, .dict, .life] (execVoicingLoadDone die ue s) := by
  unfold execVoicingLoadDone
  refine Outcome.evolves_next ?_
  repeat' first
    | assumption
    | with_reducible apply State.evolves_refl
    | with_reducible apply State.evolves_ite
    | with_reducible apply State.evolves_foldl
    | with_reducible apply State.evolves_ite_snd
    | with_reducible apply State.evolves_foldl_snd
    | with_reducible apply State.evolves_step (State.finishLoad_evolves _ _ _ _ _ _)
    | with_reducible apply State.evolves_step (State.flag_evolves _ _ _ _)
    | with_reducible apply State.evolves_step (State.load_evolves _ _ _)
    | with_reducible apply State.evolves_step (State.meetPoison_evolves _ _ _)
    | with_reducible apply State.evolves_step (State.setCDie_evolves _ _ _)
    | with_reducible apply State.evolves_step (State.setField_evolves _ _ _ _ _ _)
    | with_reducible apply State.evolves_step (State.sweepTables_evolves _ _)
    | decide
    | with_reducible intro _ _ _
    | ((try dsimp only); split)

theorem State.armFret_evolves (s : State) (i vid bound : Nat) (frame : Option (Nat × Nat)) :
    s.evolves (State.armFret s i vid bound frame) [.regs, .frets, .slanes, .board, .num, .dram, .fab, .vlk, .adm, .dict, .life] := by
  unfold State.armFret
  repeat' first
    | assumption
    | with_reducible apply State.evolves_refl
    | with_reducible apply State.evolves_ite
    | with_reducible apply State.evolves_foldl
    | with_reducible apply State.evolves_step (State.loadShadow_evolves _ _ _)
    | with_reducible apply State.evolves_step (State.setFret_evolves _ _ _)
    | with_reducible apply State.evolves_step (State.switchFret_evolves _ _ _)
    | with_reducible apply State.evolves_step (State.updFret_evolves _ _ _)
    | decide
    | with_reducible intro _ _ _
    | ((try dsimp only); split)

theorem State.openPhase_evolves (s : State) (d vid bound : Nat) (idx : List Nat) :
    s.evolves (State.openPhase s d vid bound idx) [.board] := by
  unfold State.openPhase
  repeat' first
    | assumption
    | with_reducible apply State.evolves_refl
    | with_reducible apply State.evolves_ite
    | with_reducible apply State.evolves_foldl
    | with_reducible apply State.evolves_step (State.updBoard_evolves _ _)
    | decide
    | with_reducible intro _ _ _
    | ((try dsimp only); split)

theorem execPhaseStart_evolves (die : Fin 2) (vid : BitVec 16) (bound first count : Nat) (frame : Option (Nat × Nat)) (s : State) :
    Outcome.evolves s [.regs, .frets, .slanes, .board, .num, .dram, .fab, .vlk, .adm, .dict, .life] (execPhaseStart die vid bound first count frame s) := by
  unfold execPhaseStart
  refine Outcome.evolves_next ?_
  repeat' first
    | assumption
    | with_reducible apply State.evolves_refl
    | with_reducible apply State.evolves_ite
    | with_reducible apply State.evolves_foldl
    | with_reducible apply State.evolves_step (State.armFret_evolves _ _ _ _ _)
    | with_reducible apply State.evolves_step (State.openPhase_evolves _ _ _ _ _)
    | decide
    | with_reducible intro _ _ _
    | ((try dsimp only); split)

theorem execOverrun_evolves (f : FretId) (s : State) :
    Outcome.evolves s [.regs, .frets, .board, .vlk, .adm, .dict] (execOverrun f s) := by
  unfold execOverrun
  refine Outcome.evolves_next ?_
  repeat' first
    | assumption
    | with_reducible apply State.evolves_refl
    | with_reducible apply State.evolves_ite
    | with_reducible apply State.evolves_foldl
    | with_reducible apply State.evolves_step (State.breakFrames_evolves _ _ _ _)
    | with_reducible apply State.evolves_step (State.bump_evolves _ _ _ _)
    | with_reducible apply State.evolves_step (State.flag_evolves _ _ _ _)
    | with_reducible apply State.evolves_step (State.setFret_evolves _ _ _)
    | with_reducible apply State.evolves_step (State.updBoard_evolves _ _)
    | decide
    | with_reducible intro _ _ _
    | ((try dsimp only); split)

theorem execPhaseAtTwiceBound_evolves (f : FretId) (s : State) :
    Outcome.evolves s [.regs, .frets, .board, .upd, .fab, .vlk, .adm, .dict, .life] (execPhaseAtTwiceBound f s) := by
  unfold execPhaseAtTwiceBound
  refine Outcome.evolves_next ?_
  repeat' first
    | assumption
    | with_reducible apply State.evolves_refl
    | with_reducible apply State.evolves_ite
    | with_reducible apply State.evolves_foldl
    | with_reducible apply State.evolves_step (State.fretFault_evolves _ _ _ _ _)
    | decide
    | with_reducible intro _ _ _
    | ((try dsimp only); split)

theorem execFretFault_evolves (die : Fin 2) (col : Fin 16) (physRow : Fin 25) (report : FretReport) (s : State) :
    Outcome.evolves s [.regs, .frets, .board, .upd, .fab, .vlk, .adm, .dict, .life] (execFretFault die col physRow report s) := by
  unfold execFretFault
  refine Outcome.evolves_next ?_
  repeat' first
    | assumption
    | with_reducible apply State.evolves_refl
    | with_reducible apply State.evolves_ite
    | with_reducible apply State.evolves_foldl
    | with_reducible apply State.evolves_step (State.fretFault_evolves _ _ _ _ _)
    | with_reducible apply State.evolves_step (State.sramCe_evolves _ _ _)
    | decide
    | with_reducible intro _ _ _
    | ((try dsimp only); split)

theorem execSpareVoicingReloadDone_evolves (die : Fin 2) (col : Fin 16) (s : State) :
    Outcome.evolves s [.regs, .frets, .board, .dram, .fab, .vlk, .adm, .dict, .life] (execSpareVoicingReloadDone die col s) := by
  unfold execSpareVoicingReloadDone
  refine Outcome.evolves_next ?_
  repeat' first
    | assumption
    | with_reducible apply State.evolves_refl
    | with_reducible apply State.evolves_ite
    | with_reducible apply State.evolves_foldl
    | with_reducible apply State.evolves_step (State.finishLoad_evolves _ _ _ _ _ _)
    | with_reducible apply State.evolves_step (State.meetPoison_evolves _ _ _)
    | with_reducible apply State.evolves_step (State.sweepTables_evolves _ _)
    | with_reducible apply State.evolves_step (State.updFret_evolves _ _ _)
    | decide
    | with_reducible intro _ _ _
    | ((try dsimp only); split)

theorem execWindowWrite_evolves (addr width : Nat) (data : WindowData) (s : State) :
    Outcome.evolves s [.regs, .frets, .board, .dram] (execWindowWrite addr width data s) := by
  unfold execWindowWrite
  refine Outcome.evolves_next ?_
  repeat' first
    | assumption
    | with_reducible apply State.evolves_refl
    | with_reducible apply State.evolves_ite
    | with_reducible apply State.evolves_foldl
    | with_reducible apply State.evolves_step (State.sramCe_evolves _ _ _)
    | with_reducible apply State.evolves_step (State.windowWrite_evolves _ _ _ _)
    | decide
    | with_reducible intro _ _ _
    | ((try dsimp only); split)

theorem execWindowTimeout_evolves (f : FretId) (write0 : Bool) (s : State) :
    Outcome.evolves s [.regs, .board, .dram] (execWindowTimeout f write0 s) := by
  unfold execWindowTimeout
  refine Outcome.evolves_next ?_
  repeat' first
    | assumption
    | with_reducible apply State.evolves_refl
    | with_reducible apply State.evolves_ite
    | with_reducible apply State.evolves_foldl
    | with_reducible apply State.evolves_step (State.windowTimeout_evolves _ _ _)
    | decide
    | with_reducible intro _ _ _
    | ((try dsimp only); split)

end Sys2Proof.Machine
end

