-- ==== Sys2Proof/Laws/FrameNumerics.lean ====
section
/-! SUPPORT. What each operation of Machine/Numerics.lean may change. -/

namespace Sys2Proof.Machine

theorem State.updPass_evolves (s : State) (q : Nat) (g : PassRec → PassRec) :
    s.evolves (State.updPass s q g) [.num] := by
  unfold State.updPass
  repeat' first
    | assumption
    | with_reducible apply State.evolves_refl
    | with_reducible apply State.evolves_ite
    | with_reducible apply State.evolves_foldl
    | fail_if_no_progress ((with_reducible apply State.evolves_set_num); decide)
    | decide
    | with_reducible intro _ _ _
    | ((try dsimp only); split)

theorem State.rewindLane_evolves (s : State) (i : Nat) :
    s.evolves (State.rewindLane s i) [.mem, .slanes, .dram] := by
  unfold State.rewindLane
  repeat' first
    | assumption
    | with_reducible apply State.evolves_refl
    | with_reducible apply State.evolves_ite
    | with_reducible apply State.evolves_foldl
    | with_reducible apply State.evolves_step (State.setLane_evolves _ _ _)
    | with_reducible apply State.evolves_step (State.storeSoon_evolves _ _ _)
    | decide
    | with_reducible intro _ _ _
    | ((try dsimp only); split)

theorem State.openGate_evolves (s : State) (layer : Nat) (backward : Bool) (mbs : List Nat) :
    s.evolves (State.openGate s layer backward mbs) [.regs, .frets, .slanes, .board, .num, .dram, .fab, .vlk, .adm, .dict, .life] := by
  unfold State.openGate
  repeat' first
    | assumption
    | with_reducible apply State.evolves_refl
    | with_reducible apply State.evolves_ite
    | with_reducible apply State.evolves_foldl
    | with_reducible apply State.evolves_step (State.setFret_evolves _ _ _)
    | with_reducible apply State.evolves_step (State.setLane_evolves _ _ _)
    | with_reducible apply State.evolves_step (State.switchFret_evolves _ _ _)
    | with_reducible apply State.evolves_step (State.updBoard_evolves _ _)
    | fail_if_no_progress ((with_reducible apply State.evolves_set_num); decide)
    | decide
    | with_reducible intro _ _ _
    | ((try dsimp only); split)

theorem State.lateRepeat_evolves (s : State) (cost : Nat) :
    s.evolves (State.lateRepeat s cost) [.regs, .vlk, .adm, .dict] := by
  unfold State.lateRepeat
  repeat' first
    | assumption
    | with_reducible apply State.evolves_refl
    | with_reducible apply State.evolves_ite
    | with_reducible apply State.evolves_foldl
    | with_reducible apply State.evolves_step (State.breakFrames_evolves _ _ _ _)
    | fail_if_no_progress ((with_reducible apply State.evolves_set_adm); decide; (first | (with_reducible exact fun h => h) | exact (fun h => SMap.wf_set _ _ _ _ h) | exact (fun h => SMap.wf_setMany _ _ _ _ h) | exact (fun h => SMap.wf_eraseRange _ _ _ _ h) | exact (fun h => SMap.wfFrom_filter _ _ _ _ h) | exact (fun h => (List.length_set ..).trans h) | exact (fun h => (List.length_modify ..).trans h) | exact (fun h => (List.length_map ..).trans h) | exact (fun h => ⟨h.1, (List.length_set ..).trans h.2⟩) | exact (fun h => h) | exact (fun _ => (List.length_set ..).trans rfl) | exact (fun _ => rfl)))
    | decide
    | with_reducible intro _ _ _
    | ((try dsimp only); split)

theorem State.startRepeat_evolves (s : State) (q : Nat) (p : PassRec) (new mb : Nat) (t : ConvStat) :
    s.evolves (State.startRepeat s q p new mb t) [.mem, .regs, .slanes, .board, .num, .dram, .vlk, .adm, .dict] := by
  unfold State.startRepeat
  repeat' first
    | assumption
    | with_reducible apply State.evolves_refl
    | with_reducible apply State.evolves_ite
    | with_reducible apply State.evolves_foldl
    | with_reducible apply State.evolves_step (State.bump_evolves _ _ _ _)
    | with_reducible apply State.evolves_step (State.event_evolves _ _ _)
    | with_reducible apply State.evolves_step (State.lateRepeat_evolves _ _)
    | with_reducible apply State.evolves_step (State.orReg_evolves _ _ _ _)
    | with_reducible apply State.evolves_step (State.rewindLane_evolves _ _)
    | with_reducible apply State.evolves_step (State.updBoard_evolves _ _)
    | with_reducible apply State.evolves_step (State.updPass_evolves _ _ _)
    | fail_if_no_progress ((with_reducible apply State.evolves_set_num); decide)
    | decide
    | with_reducible intro _ _ _
    | ((try dsimp only); split)

theorem State.survive_evolves (s : State) (q : Nat) (p : PassRec) (mb : Nat) :
    s.evolves (State.survive s q p mb) [.regs, .num, .dict] := by
  unfold State.survive
  repeat' first
    | assumption
    | with_reducible apply State.evolves_refl
    | with_reducible apply State.evolves_ite
    | with_reducible apply State.evolves_foldl
    | with_reducible apply State.evolves_step (State.bump_evolves _ _ _ _)
    | with_reducible apply State.evolves_step (State.event_evolves _ _ _)
    | with_reducible apply State.evolves_step (State.flag_evolves _ _ _ _)
    | with_reducible apply State.evolves_step (State.orReg_evolves _ _ _ _)
    | with_reducible apply State.evolves_step (State.updPass_evolves _ _ _)
    | decide
    | with_reducible intro _ _ _
    | ((try dsimp only); split)

theorem execPassVerdict_evolves (layer : Nat) (backward : Bool) (s : State) :
    Outcome.evolves s [.mem, .regs, .frets, .slanes, .board, .num, .dram, .fab, .vlk, .adm, .dict, .life] (execPassVerdict layer backward s) := by
  unfold execPassVerdict
  refine Outcome.evolves_next ?_
  repeat' first
    | assumption
    | with_reducible apply State.evolves_refl
    | with_reducible apply State.evolves_ite
    | with_reducible apply State.evolves_foldl
    | with_reducible apply State.evolves_step (State.openGate_evolves _ _ _ _)
    | with_reducible apply State.evolves_step (State.startRepeat_evolves _ _ _ _ _ _)
    | with_reducible apply State.evolves_step (State.survive_evolves _ _ _ _)
    | decide
    | with_reducible intro _ _ _
    | ((try dsimp only); split)

theorem State.repeatLoad_evolves (s : State) (i first : Nat) (rest : List Nat) :
    s.evolves (State.repeatLoad s i first rest) [.regs, .frets, .slanes, .board, .dram, .fab, .vlk, .adm, .dict, .life] := by
  unfold State.repeatLoad
  repeat' first
    | assumption
    | with_reducible apply State.evolves_refl
    | with_reducible apply State.evolves_ite
    | with_reducible apply State.evolves_foldl
    | with_reducible apply State.evolves_step (State.loadShadow_evolves _ _ _)
    | with_reducible apply State.evolves_step (State.setLane_evolves _ _ _)
    | with_reducible apply State.evolves_step (State.updFret_evolves _ _ _)
    | decide
    | with_reducible intro _ _ _
    | ((try dsimp only); split)

theorem State.repeatFret_evolves (s : State) (i : Nat) :
    s.evolves (State.repeatFret s i) [.regs, .frets, .slanes, .board, .num, .dram, .fab, .vlk, .adm, .dict, .life] := by
  unfold State.repeatFret
  repeat' first
    | assumption
    | with_reducible apply State.evolves_refl
    | with_reducible apply State.evolves_ite
    | with_reducible apply State.evolves_foldl
    | with_reducible apply State.evolves_step (State.repeatLoad_evolves _ _ _ _)
    | with_reducible apply State.evolves_step (State.switchFret_evolves _ _ _)
    | decide
    | with_reducible intro _ _ _
    | ((try dsimp only); split)

theorem State.repeatPhases_evolves (s : State) (die : Nat) (mine : List Nat) :
    s.evolves (State.repeatPhases s die mine) [.board] := by
  unfold State.repeatPhases
  repeat' first
    | assumption
    | with_reducible apply State.evolves_refl
    | with_reducible apply State.evolves_ite
    | with_reducible apply State.evolves_foldl
    | with_reducible apply State.evolves_step (State.updBoard_evolves _ _)
    | decide
    | with_reducible intro _ _ _
    | ((try dsimp only); split)

theorem State.beginRepeat_evolves (s : State) (q : Nat) (mine : List Nat) :
    s.evolves (State.beginRepeat s q mine) [.board, .num] := by
  unfold State.beginRepeat
  repeat' first
    | assumption
    | with_reducible apply State.evolves_refl
    | with_reducible apply State.evolves_ite
    | with_reducible apply State.evolves_foldl
    | with_reducible apply State.evolves_step (State.repeatPhases_evolves _ _ _)
    | fail_if_no_progress ((with_reducible apply State.evolves_set_num); decide)
    | decide
    | with_reducible intro _ _ _
    | ((try dsimp only); split)

theorem State.loadConsumer_evolves (s : State) (i q : Nat) (p : PassRec) :
    s.evolves (State.loadConsumer s i q p) [.regs, .frets, .board, .dram, .fab, .vlk, .adm, .dict, .life] := by
  unfold State.loadConsumer
  repeat' first
    | assumption
    | with_reducible apply State.evolves_refl
    | with_reducible apply State.evolves_ite
    | with_reducible apply State.evolves_foldl
    | with_reducible apply State.evolves_step (State.followShadow_evolves _ _)
    | with_reducible apply State.evolves_step (State.loadShadow_evolves _ _ _)
    | decide
    | with_reducible intro _ _ _
    | ((try dsimp only); split)

theorem execRepeatImagesLoaded_evolves (layer : Nat) (backward : Bool) (s : State) :
    Outcome.evolves s [.regs, .frets, .slanes, .board, .num, .dram, .fab, .vlk, .adm, .dict, .life] (execRepeatImagesLoaded layer backward s) := by
  unfold execRepeatImagesLoaded
  refine Outcome.evolves_next ?_
  repeat' first
    | assumption
    | with_reducible apply State.evolves_refl
    | with_reducible apply State.evolves_ite
    | with_reducible apply State.evolves_foldl
    | with_reducible apply State.evolves_step (State.beginRepeat_evolves _ _ _)
    | with_reducible apply State.evolves_step (State.loadConsumer_evolves _ _ _ _)
    | with_reducible apply State.evolves_step (State.repeatFret_evolves _ _)
    | decide
    | with_reducible intro _ _ _
    | ((try dsimp only); split)

theorem State.halveCube_evolves (s : State) :
    s.evolves (State.halveCube s) [.regs, .frets, .num, .dict] := by
  unfold State.halveCube
  repeat' first
    | assumption
    | with_reducible apply State.evolves_refl
    | with_reducible apply State.evolves_ite
    | with_reducible apply State.evolves_foldl
    | with_reducible apply State.evolves_step (State.event_evolves _ _ _)
    | with_reducible apply State.evolves_step (State.flag_evolves _ _ _ _)
    | with_reducible apply State.evolves_step (State.setCube_evolves _ _)
    | with_reducible apply State.evolves_step (State.setReg_evolves _ _ _ _)
    | fail_if_no_progress ((with_reducible apply State.evolves_set_num); decide)
    | decide
    | with_reducible intro _ _ _
    | ((try dsimp only); split)

theorem State.skipStep_evolves (s : State) :
    s.evolves (State.skipStep s) [.regs, .num] := by
  unfold State.skipStep
  repeat' first
    | assumption
    | with_reducible apply State.evolves_refl
    | with_reducible apply State.evolves_ite
    | with_reducible apply State.evolves_foldl
    | with_reducible apply State.evolves_step (State.bump_evolves _ _ _ _)
    | fail_if_no_progress ((with_reducible apply State.evolves_set_num); decide)
    | decide
    | with_reducible intro _ _ _
    | ((try dsimp only); split)

theorem State.judgePasses_evolves (s : State) (sum : List F32) (skip : Bool) :
    s.evolves (State.judgePasses s sum skip) [.regs, .num, .dict] := by
  unfold State.judgePasses
  repeat' first
    | assumption
    | with_reducible apply State.evolves_refl
    | with_reducible apply State.evolves_ite
    | with_reducible apply State.evolves_foldl
    | with_reducible apply State.evolves_step (State.event_evolves _ _ _)
    | with_reducible apply State.evolves_step (State.flag_evolves _ _ _ _)
    | with_reducible apply State.evolves_step (State.updPass_evolves _ _ _)
    | decide
    | with_reducible intro _ _ _
    | ((try dsimp only); split)

theorem State.dropTest_evolves (s : State) :
    s.evolves (State.dropTest s) [.regs, .dict] := by
  unfold State.dropTest
  repeat' first
    | assumption
    | with_reducible apply State.evolves_refl
    | with_reducible apply State.evolves_ite
    | with_reducible apply State.evolves_foldl
    | with_reducible apply State.evolves_step (State.event_evolves _ _ _)
    | with_reducible apply State.evolves_step (State.flag_evolves _ _ _ _)
    | decide
    | with_reducible intro _ _ _
    | ((try dsimp only); split)

theorem State.decideStep_evolves (s : State) (sum : List F32) :
    s.evolves (State.decideStep s sum) [.mem, .regs, .frets, .slanes, .board, .num, .emb, .upd, .dram, .fab, .vlk, .adm, .dict] := by
  unfold State.decideStep
  repeat' first
    | assumption
    | with_reducible apply State.evolves_refl
    | with_reducible apply State.evolves_ite
    | with_reducible apply State.evolves_foldl
    | with_reducible apply State.evolves_step (State.bump_evolves _ _ _ _)
    | with_reducible apply State.evolves_step (State.dropTest_evolves _)
    | with_reducible apply State.evolves_step (State.halveCube_evolves _)
    | with_reducible apply State.evolves_step (State.judgePasses_evolves _ _ _)
    | with_reducible apply State.evolves_step (State.rollback_evolves _ _ _ _)
    | with_reducible apply State.evolves_step (State.skipStep_evolves _)
    | fail_if_no_progress ((with_reducible apply State.evolves_set_num); decide)
    | decide
    | with_reducible intro _ _ _
    | ((try dsimp only); split)

theorem execStepVerdict_evolves (arrived : List (Nat × List F32)) (s : State) :
    Outcome.evolves s [.mem, .regs, .frets, .slanes, .board, .num, .emb, .upd, .dram, .fab, .vlk, .adm, .dict] (execStepVerdict arrived s) := by
  unfold execStepVerdict
  refine Outcome.evolves_next ?_
  apply State.evolves_ite (State.evolves_refl _ _)
  have h : s.evolves ((s.contribute 0 s.verdictVector).sumArrives 0 arrived) [.mem, .regs, .frets, .slanes, .board, .num, .emb, .upd, .dram, .fab, .vlk, .adm, .dict] :=
    State.evolves_step (State.sumArrives_evolves _ _ _) (State.evolves_wider (State.contribute_evolves _ _ _) (by decide)) (by decide)
  dsimp only
  generalize State.sumArrives _ _ _ = x at h ⊢
  split
  · exact State.evolves_step (State.decideStep_evolves _ _) h (by decide)
  · exact h

end Sys2Proof.Machine
end

