-- ==== Sys2Proof/Laws/FrameHotset.lean ====
section
/-! SUPPORT. What each operation of Machine/Hotset.lean may change. -/

namespace Sys2Proof.Machine

theorem State.hotWrite_evolves (s : State) (die o : Nat) (bs : Bytes) :
    s.evolves (State.hotWrite s die o bs) [.mem] := by
  unfold State.hotWrite
  repeat' first
    | assumption
    | with_reducible apply State.evolves_refl
    | with_reducible apply State.evolves_ite
    | with_reducible apply State.evolves_foldl
    | with_reducible apply State.evolves_step (State.writeMem_evolves _ _ _)
    | decide
    | with_reducible intro _ _ _
    | ((try dsimp only); split)

theorem State.hotInstall_evolves (s : State) (owner table row cls : Nat) (removal : Bool) (payload : Bytes) :
    s.evolves (State.hotInstall s owner table row cls removal payload) [.mem, .emb] := by
  unfold State.hotInstall
  repeat' first
    | assumption
    | with_reducible apply State.evolves_refl
    | with_reducible apply State.evolves_ite
    | with_reducible apply State.evolves_foldl
    | with_reducible apply State.evolves_step (State.hotWrite_evolves _ _ _ _)
    | fail_if_no_progress ((with_reducible apply State.evolves_set_emb); decide)
    | decide
    | with_reducible intro _ _ _
    | ((try dsimp only); split)

theorem State.setDir_evolves (s : State) (a : Nat) (e : DirEntry) :
    s.evolves (State.setDir s a e) [.mem] := by
  unfold State.setDir
  repeat' first
    | assumption
    | with_reducible apply State.evolves_refl
    | with_reducible apply State.evolves_ite
    | with_reducible apply State.evolves_foldl
    | with_reducible apply State.evolves_step (State.writeMem_evolves _ _ _)
    | decide
    | with_reducible intro _ _ _
    | ((try dsimp only); split)

theorem State.poolTake_evolves {s : State} {bench : Bool} {table row n : Nat} {p : Nat × State}
    (h : s.poolTake bench table row n = some p) : s.evolves p.2 [.emb] := by
  unfold State.poolTake at h
  cases hp : s.poolPlace bench (s.rowS table row) n with
  | none => rw [hp] at h; cases h
  | some a => rw [hp] at h; cases h; exact State.evolves_set_emb (by decide) (State.evolves_refl _ _)

theorem State.sketchCommit_evolves (s : State) (step : Nat) (skip : Bool) :
    s.evolves (State.sketchCommit s step skip) [.emb] := by
  unfold State.sketchCommit
  repeat' first
    | assumption
    | with_reducible apply State.evolves_refl
    | with_reducible apply State.evolves_ite
    | with_reducible apply State.evolves_foldl
    | fail_if_no_progress ((with_reducible apply State.evolves_set_emb); decide)
    | decide
    | with_reducible intro _ _ _
    | ((try dsimp only); split)

theorem State.journalRow_evolves {s t : State} {table row : Nat} {migrate : Bool}
    (h : s.journalRow table row migrate = some t) : s.evolves t [.mem, .regs, .upd, .dram] := by
  unfold State.journalRow at h
  dsimp only at h
  repeat' split at h
  all_goals first
    | cases h
    | skip
  all_goals repeat' first
    | with_reducible apply State.evolves_refl
    | with_reducible apply State.evolves_step (State.store_evolves _ _ _)
    | with_reducible apply State.evolves_step (State.setReg_evolves _ _ _ _)
    | fail_if_no_progress ((with_reducible apply State.evolves_set_upd); decide; exact id)
    | decide

theorem State.keepStats_evolves (s : State) (layer tensor pass mb fmt mode die : Nat) (sts : List ConvStat) :
    s.evolves (State.keepStats s layer tensor pass mb fmt mode die sts) [.board] := by
  unfold State.keepStats
  repeat' first
    | assumption
    | with_reducible apply State.evolves_refl
    | with_reducible apply State.evolves_ite
    | with_reducible apply State.evolves_foldl
    | with_reducible apply State.evolves_step (State.updBoard_evolves _ _)
    | decide
    | with_reducible intro _ _ _
    | ((try dsimp only); split)

theorem State.journalFull_evolves (s : State) (die : Nat) :
    s.evolves (State.journalFull s die) [.regs, .upd, .fab, .vlk, .adm, .dict] := by
  unfold State.journalFull
  repeat' first
    | assumption
    | with_reducible apply State.evolves_refl
    | with_reducible apply State.evolves_ite
    | with_reducible apply State.evolves_foldl
    | with_reducible apply State.evolves_step (State.flag_evolves _ _ _ _)
    | with_reducible apply State.evolves_step (State.jobFault_evolves _ _ _)
    | fail_if_no_progress ((with_reducible apply State.evolves_set_upd); decide; (first | (with_reducible exact fun h => h) | exact (fun h => SMap.wf_set _ _ _ _ h) | exact (fun h => SMap.wf_setMany _ _ _ _ h) | exact (fun h => SMap.wf_eraseRange _ _ _ _ h) | exact (fun h => SMap.wfFrom_filter _ _ _ _ h) | exact (fun h => (List.length_set ..).trans h) | exact (fun h => (List.length_modify ..).trans h) | exact (fun h => (List.length_map ..).trans h) | exact (fun h => ⟨h.1, (List.length_set ..).trans h.2⟩) | exact (fun h => h) | exact (fun _ => (List.length_set ..).trans rfl) | exact (fun _ => rfl)))
    | decide
    | with_reducible intro _ _ _
    | ((try dsimp only); split)

theorem State.migrate_evolves (s : State) (t : Table) (a : Nat) (e : DirEntry) (cls : Nat) :
    s.evolves (State.migrate s t a e cls).2 [.mem, .regs, .board, .emb, .upd, .dram, .fab, .vlk, .adm, .dict, .life] := by
  unfold State.migrate
  dsimp only
  apply State.evolves_ite_snd (State.evolves_wider (State.failRead_evolves _ _ _) (by decide))
  split
  · exact State.evolves_step (State.bump_evolves _ _ _ _) (State.evolves_wider (State.flag_evolves _ _ _ _) (by decide)) (by decide)
  · next p h =>
    have h0 : s.evolves p.2 [.mem, .regs, .board, .emb, .upd, .dram, .fab, .vlk, .adm, .dict, .life] := State.evolves_wider (State.poolTake_evolves h) (by decide)
    split
    · exact State.evolves_wider (State.journalFull_evolves _ _) (by decide)
    · next x h1 =>
      have h2 : s.evolves x [.mem, .regs, .board, .emb, .upd, .dram, .fab, .vlk, .adm, .dict, .life] := State.evolves_step (State.journalRow_evolves h1) h0 (by decide)
      refine State.evolves_step (State.bump_evolves _ _ _ _) ?_ (by decide)
      refine State.evolves_set_emb (by decide) ?_
      refine State.evolves_step (State.setDir_evolves _ _ _) ?_ (by decide)
      refine State.evolves_step (State.snapCopy_evolves _ _) ?_ (by decide)
      refine State.evolves_step (State.store_evolves _ _ _) ?_ (by decide)
      exact State.evolves_ite (State.evolves_step (State.keepStats_evolves _ _ _ _ _ _ _ _ _) h2 (by decide)) h2

theorem State.halveSketch_evolves (s : State) (step : Nat) :
    s.evolves (State.halveSketch s step) [.emb] := by
  unfold State.halveSketch
  repeat' first
    | assumption
    | with_reducible apply State.evolves_refl
    | with_reducible apply State.evolves_ite
    | with_reducible apply State.evolves_foldl
    | fail_if_no_progress ((with_reducible apply State.evolves_set_emb); decide)
    | decide
    | with_reducible intro _ _ _
    | ((try dsimp only); split)

theorem State.refresh_evolves (s : State) (step : Nat) :
    s.evolves (State.refresh s step) [.mem, .regs, .board, .emb, .upd, .dram, .fab, .vlk, .adm, .dict, .life] := by
  unfold State.refresh
  repeat' first
    | assumption
    | with_reducible apply State.evolves_refl
    | with_reducible apply State.evolves_ite
    | with_reducible apply State.evolves_foldl
    | with_reducible apply State.evolves_ite_snd
    | with_reducible apply State.evolves_foldl_snd
    | with_reducible apply State.evolves_step (State.halveSketch_evolves _ _)
    | with_reducible apply State.evolves_step (State.migrate_evolves _ _ _ _ _)
    | fail_if_no_progress ((with_reducible apply State.evolves_set_emb); decide)
    | decide
    | with_reducible intro _ _ _
    | ((try dsimp only); split)

theorem State.commitChoice_evolves (s : State) :
    s.evolves (State.commitChoice s) [.mem, .regs, .emb, .upd, .dram, .fab, .vlk, .adm, .dict, .life] := by
  unfold State.commitChoice
  repeat' first
    | assumption
    | with_reducible apply State.evolves_refl
    | with_reducible apply State.evolves_ite
    | with_reducible apply State.evolves_foldl
    | with_reducible apply State.evolves_step (State.failRead_evolves _ _ _)
    | with_reducible apply State.evolves_step (State.setDir_evolves _ _ _)
    | with_reducible apply State.evolves_step (State.snapCopy_evolves _ _)
    | fail_if_no_progress ((with_reducible apply State.evolves_set_emb); decide)
    | decide
    | with_reducible intro _ _ _
    | ((try dsimp only); split)

theorem State.sendMsg_evolves (s : State) (dst queue : Nat) (body : Bytes) :
    s.evolves (State.sendMsg s dst queue body) [.fab] := by
  unfold State.sendMsg
  repeat' first
    | assumption
    | with_reducible apply State.evolves_refl
    | with_reducible apply State.evolves_ite
    | with_reducible apply State.evolves_foldl
    | with_reducible apply State.evolves_step (State.send_evolves _ _ _ _ _)
    | decide
    | with_reducible intro _ _ _
    | ((try dsimp only); split)

theorem State.startPush_evolves (s : State) :
    s.evolves (State.startPush s) [.mem, .emb, .fab] := by
  unfold State.startPush
  repeat' first
    | assumption
    | with_reducible apply State.evolves_refl
    | with_reducible apply State.evolves_ite
    | with_reducible apply State.evolves_foldl
    | with_reducible apply State.evolves_step (State.hotInstall_evolves _ _ _ _ _ _ _)
    | with_reducible apply State.evolves_step (State.sendMsg_evolves _ _ _ _)
    | fail_if_no_progress ((with_reducible apply State.evolves_set_emb); decide)
    | decide
    | with_reducible intro _ _ _
    | ((try dsimp only); split)

end Sys2Proof.Machine
end

