-- ==== Sys2Proof/Laws/FrameEmbedding.lean ====
section
/-! SUPPORT. What each operation of Machine/Embedding.lean may change. -/

namespace Sys2Proof.Machine

theorem State.count_evolves (s : State) (step table kind n : Nat) :
    s.evolves (State.count s step table kind n) [.emb] := by
  unfold State.count
  repeat' first
    | assumption
    | with_reducible apply State.evolves_refl
    | with_reducible apply State.evolves_ite
    | with_reducible apply State.evolves_foldl
    | fail_if_no_progress ((with_reducible apply State.evolves_set_emb); decide)
    | decide
    | with_reducible intro _ _ _
    | ((try dsimp only); split)

theorem State.resolve_evolves (s : State) (step mb : Nat) (ps : List Pos) :
    s.evolves (State.resolve s step mb ps) [.emb] := by
  unfold State.resolve
  repeat' first
    | assumption
    | with_reducible apply State.evolves_refl
    | with_reducible apply State.evolves_ite
    | with_reducible apply State.evolves_foldl
    | with_reducible apply State.evolves_step (State.count_evolves _ _ _ _ _)
    | fail_if_no_progress ((with_reducible apply State.evolves_set_emb); decide)
    | decide
    | with_reducible intro _ _ _
    | ((try dsimp only); split)

theorem State.deliverPos_evolves (s : State) (frame step : Nat) (p : Pos) (valid : Bool) (bytes : Bytes) :
    s.evolves (State.deliverPos s frame step p valid bytes) [.emb] := by
  unfold State.deliverPos
  repeat' first
    | assumption
    | with_reducible apply State.evolves_refl
    | with_reducible apply State.evolves_ite
    | with_reducible apply State.evolves_foldl
    | fail_if_no_progress ((with_reducible apply State.evolves_set_emb); decide)
    | decide
    | with_reducible intro _ _ _
    | ((try dsimp only); split)

theorem State.toFrets_evolves (s : State) (program : Nat) (d : Delivery) :
    s.evolves (State.toFrets s program d) [.frets, .emb] := by
  unfold State.toFrets
  refine State.evolves_set_frets_emb (by decide) (fun h => ?_) (State.evolves_refl _ _)
  generalize Config.rowPlaces program d.slot d.event d.item = l
  generalize s.frets = m at h
  induction l generalizing m with
  | nil => exact h
  | cons p t ih => exact ih _ (SMap.wf_modify _ _ _ _ h)

theorem State.releaseSlot_evolves (s : State) (h : HeldFrame) (ps : List Pos) :
    s.evolves (State.releaseSlot s h ps) [.frets, .emb] := by
  unfold State.releaseSlot
  apply State.evolves_foldl_fst (State.evolves_refl _ _)
  intro a p h
  split
  · exact h
  · exact State.evolves_ite (State.evolves_step (State.toFrets_evolves _ _ _) h (by decide)) h

theorem State.release_evolves (s : State) (frame : Nat) :
    s.evolves (State.release s frame) [.frets, .emb] := by
  unfold State.release
  repeat' first
    | assumption
    | with_reducible apply State.evolves_refl
    | with_reducible apply State.evolves_ite
    | with_reducible apply State.evolves_foldl
    | with_reducible apply State.evolves_step (State.releaseSlot_evolves _ _ _)
    | decide
    | with_reducible intro _ _ _
    | ((try dsimp only); split)

theorem State.deliverRow_evolves (s : State) (frame step : Nat) (t : Table) (row : Nat) (ps : List Pos) (bytes : Option Bytes) :
    s.evolves (State.deliverRow s frame step t row ps bytes) [.regs, .emb] := by
  unfold State.deliverRow
  repeat' first
    | assumption
    | with_reducible apply State.evolves_refl
    | with_reducible apply State.evolves_ite
    | with_reducible apply State.evolves_foldl
    | with_reducible apply State.evolves_step (State.bump_evolves _ _ _ _)
    | with_reducible apply State.evolves_step (State.count_evolves _ _ _ _ _)
    | with_reducible apply State.evolves_step (State.deliverPos_evolves _ _ _ _ _ _)
    | fail_if_no_progress ((with_reducible apply State.evolves_set_emb); decide)
    | decide
    | with_reducible intro _ _ _
    | ((try dsimp only); split)

theorem State.localRow_evolves (s : State) (frame step : Nat) (t : Table) (row : Nat) (ps : List Pos) :
    s.evolves (State.localRow s frame step t row ps) [.regs, .emb, .upd, .dram, .fab, .vlk, .adm, .dict, .life] := by
  unfold State.localRow
  repeat' first
    | assumption
    | with_reducible apply State.evolves_refl
    | with_reducible apply State.evolves_ite
    | with_reducible apply State.evolves_foldl
    | with_reducible apply State.evolves_step (State.deliverRow_evolves _ _ _ _ _ _ _)
    | with_reducible apply State.evolves_step (State.failRead_evolves _ _ _)
    | decide
    | with_reducible intro _ _ _
    | ((try dsimp only); split)

theorem State.deliverReply_evolves (s : State) (frame step : Nat) (t : Table) (row : Nat) (ps : List Pos) (info : Nat) (bs : Bytes) :
    s.evolves (State.deliverReply s frame step t row ps info bs) [.regs, .emb] := by
  unfold State.deliverReply
  repeat' first
    | assumption
    | with_reducible apply State.evolves_refl
    | with_reducible apply State.evolves_ite
    | with_reducible apply State.evolves_foldl
    | with_reducible apply State.evolves_step (State.deliverRow_evolves _ _ _ _ _ _ _)
    | decide
    | with_reducible intro _ _ _
    | ((try dsimp only); split)

theorem State.combine_evolves (s : State) (die step table row : Nat) :
    s.evolves (State.combine s die step table row).2 [.emb] := by
  unfold State.combine
  repeat' first
    | assumption
    | with_reducible apply State.evolves_refl
    | with_reducible apply State.evolves_ite
    | with_reducible apply State.evolves_foldl
    | with_reducible apply State.evolves_ite_snd
    | with_reducible apply State.evolves_foldl_snd
    | fail_if_no_progress ((with_reducible apply State.evolves_set_emb); decide)
    | decide
    | with_reducible intro _ _ _
    | ((try dsimp only); split)

theorem State.holdRow_evolves (s : State) (frame step table row : Nat) :
    s.evolves (State.holdRow s frame step table row) [.emb] := by
  unfold State.holdRow
  repeat' first
    | assumption
    | with_reducible apply State.evolves_refl
    | with_reducible apply State.evolves_ite
    | with_reducible apply State.evolves_foldl
    | fail_if_no_progress ((with_reducible apply State.evolves_set_emb); decide)
    | decide
    | with_reducible intro _ _ _
    | ((try dsimp only); split)

theorem State.askRow_evolves (s : State) (frame step table row : Nat) (combined : Bool) :
    s.evolves (State.askRow s frame step table row combined) [.emb, .fab] := by
  unfold State.askRow
  repeat' first
    | assumption
    | with_reducible apply State.evolves_refl
    | with_reducible apply State.evolves_ite
    | with_reducible apply State.evolves_foldl
    | with_reducible apply State.evolves_step (State.request_evolves _ _ _ _ _ _ _ _ _ _ _)
    | fail_if_no_progress ((with_reducible apply State.evolves_set_emb); decide)
    | decide
    | with_reducible intro _ _ _
    | ((try dsimp only); split)

theorem State.fetchRow_evolves (s : State) (frame step : Nat) (ps : List Pos) (t : Table) (row : Nat) (combined : Bool) :
    s.evolves (State.fetchRow s frame step ps t row combined) [.regs, .emb, .upd, .dram, .fab, .vlk, .adm, .dict, .life] := by
  unfold State.fetchRow
  repeat' first
    | assumption
    | with_reducible apply State.evolves_refl
    | with_reducible apply State.evolves_ite
    | with_reducible apply State.evolves_foldl
    | with_reducible apply State.evolves_step (State.askRow_evolves _ _ _ _ _ _)
    | with_reducible apply State.evolves_step (State.deliverReply_evolves _ _ _ _ _ _ _ _)
    | with_reducible apply State.evolves_step (State.deliverRow_evolves _ _ _ _ _ _ _)
    | with_reducible apply State.evolves_step (State.holdRow_evolves _ _ _ _ _)
    | with_reducible apply State.evolves_step (State.localRow_evolves _ _ _ _ _ _)
    | decide
    | with_reducible intro _ _ _
    | ((try dsimp only); split)

theorem State.gatherRow_evolves (s : State) (frame step : Nat) (ps : List Pos) (t : Table) (row : Nat) :
    s.evolves (State.gatherRow s frame step ps t row) [.regs, .emb, .upd, .dram, .fab, .vlk, .adm, .dict, .life] := by
  unfold State.gatherRow
  repeat' first
    | assumption
    | with_reducible apply State.evolves_refl
    | with_reducible apply State.evolves_ite
    | with_reducible apply State.evolves_foldl
    | with_reducible apply State.evolves_step (State.bump_evolves _ _ _ _)
    | with_reducible apply State.evolves_step (State.combine_evolves _ _ _ _ _)
    | with_reducible apply State.evolves_step (State.fetchRow_evolves _ _ _ _ _ _ _)
    | decide
    | with_reducible intro _ _ _
    | ((try dsimp only); split)

theorem State.gather_evolves (s : State) (frame step : Nat) (ps : List Pos) :
    s.evolves (State.gather s frame step ps) [.regs, .frets, .emb, .upd, .dram, .fab, .vlk, .adm, .dict, .life] := by
  unfold State.gather
  repeat' first
    | assumption
    | with_reducible apply State.evolves_refl
    | with_reducible apply State.evolves_ite
    | with_reducible apply State.evolves_foldl
    | with_reducible apply State.evolves_step (State.bump_evolves _ _ _ _)
    | with_reducible apply State.evolves_step (State.count_evolves _ _ _ _ _)
    | with_reducible apply State.evolves_step (State.deliverPos_evolves _ _ _ _ _ _)
    | with_reducible apply State.evolves_step (State.gatherRow_evolves _ _ _ _ _ _)
    | with_reducible apply State.evolves_step (State.release_evolves _ _)
    | decide
    | with_reducible intro _ _ _
    | ((try dsimp only); split)

theorem State.rowReply_evolves (s : State) (id status : Nat) (data : ReplyData) :
    s.evolves (State.rowReply s id status data) [.regs, .frets, .emb] := by
  unfold State.rowReply
  repeat' first
    | assumption
    | with_reducible apply State.evolves_refl
    | with_reducible apply State.evolves_ite
    | with_reducible apply State.evolves_foldl
    | with_reducible apply State.evolves_step (State.deliverReply_evolves _ _ _ _ _ _ _ _)
    | with_reducible apply State.evolves_step (State.release_evolves _ _)
    | fail_if_no_progress ((with_reducible apply State.evolves_set_emb); decide)
    | decide
    | with_reducible intro _ _ _
    | ((try dsimp only); split)

theorem State.serveRow_evolves (s : State) (src id table row : Nat) :
    s.evolves (State.serveRow s src id table row) [.regs, .dram, .fab, .vlk, .adm, .dict, .life] := by
  unfold State.serveRow
  repeat' first
    | assumption
    | with_reducible apply State.evolves_refl
    | with_reducible apply State.evolves_ite
    | with_reducible apply State.evolves_foldl
    | with_reducible apply State.evolves_step (State.meetPoison_evolves _ _ _)
    | with_reducible apply State.evolves_step (State.sendFlags_evolves _ _ _ _ _ _)
    | decide
    | with_reducible intro _ _ _
    | ((try dsimp only); split)

theorem execRemoteRowRead_evolves (source table row step : Nat) (s : State) :
    Outcome.evolves s [.regs, .emb, .dram, .fab, .vlk, .adm, .dict, .life] (execRemoteRowRead source table row step s) := by
  unfold execRemoteRowRead
  refine Outcome.evolves_next ?_
  repeat' first
    | assumption
    | with_reducible apply State.evolves_refl
    | with_reducible apply State.evolves_ite
    | with_reducible apply State.evolves_foldl
    | with_reducible apply State.evolves_step (State.serveRow_evolves _ _ _ _ _)
    | with_reducible apply State.evolves_step (State.takeInbox_evolves _ _ _)
    | fail_if_no_progress ((with_reducible apply State.evolves_set_emb); decide)
    | decide
    | with_reducible intro _ _ _
    | ((try dsimp only); split)

theorem execHeldReadRelease_evolves (s : State) :
    Outcome.evolves s [.regs, .frets, .emb, .upd, .dram, .fab, .vlk, .adm, .dict, .life] (execHeldReadRelease s) := by
  unfold execHeldReadRelease
  refine Outcome.evolves_next ?_
  repeat' first
    | assumption
    | with_reducible apply State.evolves_refl
    | with_reducible apply State.evolves_ite
    | with_reducible apply State.evolves_foldl
    | with_reducible apply State.evolves_step (State.fetchRow_evolves _ _ _ _ _ _ _)
    | with_reducible apply State.evolves_step (State.release_evolves _ _)
    | with_reducible apply State.evolves_step (State.serveRow_evolves _ _ _ _ _)
    | fail_if_no_progress ((with_reducible apply State.evolves_set_emb); decide)
    | decide
    | with_reducible intro _ _ _
    | ((try dsimp only); split)

theorem State.exchangeStats_evolves (s : State) (t : Table) (die : Nat) (bs : List (Fmt.Block × List F32)) :
    s.evolves (State.exchangeStats s t die bs) [.board] := by
  unfold State.exchangeStats
  repeat' first
    | assumption
    | with_reducible apply State.evolves_refl
    | with_reducible apply State.evolves_ite
    | with_reducible apply State.evolves_foldl
    | with_reducible apply State.evolves_step (State.keepStats_evolves _ _ _ _ _ _ _ _ _)
    | decide
    | with_reducible intro _ _ _
    | ((try dsimp only); split)

theorem State.closeRow_evolves (s : State) (r : RowSum) :
    s.evolves (State.closeRow s r) [.regs, .board, .emb, .fab] := by
  unfold State.closeRow
  repeat' first
    | assumption
    | with_reducible apply State.evolves_refl
    | with_reducible apply State.evolves_ite
    | with_reducible apply State.evolves_foldl
    | with_reducible apply State.evolves_step (State.bump_evolves _ _ _ _)
    | with_reducible apply State.evolves_step (State.exchangeStats_evolves _ _ _ _)
    | with_reducible apply State.evolves_step (State.flag_evolves _ _ _ _)
    | with_reducible apply State.evolves_step (State.sendMsg_evolves _ _ _ _)
    | fail_if_no_progress ((with_reducible apply State.evolves_set_emb); decide)
    | decide
    | with_reducible intro _ _ _
    | ((try dsimp only); split)

theorem State.endMarkers_evolves (s : State) :
    s.evolves (State.endMarkers s) [.emb, .fab] := by
  unfold State.endMarkers
  repeat' first
    | assumption
    | with_reducible apply State.evolves_refl
    | with_reducible apply State.evolves_ite
    | with_reducible apply State.evolves_foldl
    | with_reducible apply State.evolves_step (State.sendMsg_evolves _ _ _ _)
    | fail_if_no_progress ((with_reducible apply State.evolves_set_emb); decide)
    | decide
    | with_reducible intro _ _ _
    | ((try dsimp only); split)

theorem State.toWork_evolves (s : State) (bs : Bytes) :
    s.evolves (State.toWork s bs).2 [.mem, .emb, .dram] := by
  unfold State.toWork
  exact State.evolves_set_emb (by decide) (State.evolves_wider (State.storeSoon_evolves _ _ _) (by decide))

theorem State.toMerge_evolves (s : State) (die : Nat) (t : Table) (row fmt : Nat) (payload : Bytes) :
    s.evolves (State.toMerge s die t row fmt payload) [.mem, .regs, .emb, .dram] := by
  unfold State.toMerge
  repeat' first
    | assumption
    | with_reducible apply State.evolves_refl
    | with_reducible apply State.evolves_ite
    | with_reducible apply State.evolves_foldl
    | with_reducible apply State.evolves_step (State.bump_evolves _ _ _ _)
    | with_reducible apply State.evolves_step (State.toWork_evolves _ _)
    | fail_if_no_progress ((with_reducible apply State.evolves_set_emb); decide)
    | decide
    | with_reducible intro _ _ _
    | ((try dsimp only); split)

theorem State.meetTerm_evolves (s : State) (die : Nat) (t : Table) (row fmt : Nat) (payload : Bytes) (more : Bool) :
    s.evolves (State.meetTerm s die t row fmt payload more) [.mem, .regs, .board, .emb, .dram, .fab] := by
  unfold State.meetTerm
  repeat' first
    | assumption
    | with_reducible apply State.evolves_refl
    | with_reducible apply State.evolves_ite
    | with_reducible apply State.evolves_foldl
    | with_reducible apply State.evolves_step (State.closeRow_evolves _ _)
    | with_reducible apply State.evolves_step (State.flag_evolves _ _ _ _)
    | with_reducible apply State.evolves_step (State.setReg_evolves _ _ _ _)
    | with_reducible apply State.evolves_step (State.toMerge_evolves _ _ _ _ _ _)
    | fail_if_no_progress ((with_reducible apply State.evolves_set_emb); decide)
    | decide
    | with_reducible intro _ _ _
    | ((try dsimp only); split)

theorem State.passTerm_evolves (s : State) (q : QueuedTerm) :
    s.evolves (State.passTerm s q) [.mem, .regs, .board, .emb, .dram, .fab] := by
  unfold State.passTerm
  repeat' first
    | assumption
    | with_reducible apply State.evolves_refl
    | with_reducible apply State.evolves_ite
    | with_reducible apply State.evolves_foldl
    | with_reducible apply State.evolves_step (State.keepStats_evolves _ _ _ _ _ _ _ _ _)
    | with_reducible apply State.evolves_step (State.meetTerm_evolves _ _ _ _ _ _ _)
    | fail_if_no_progress ((with_reducible apply State.evolves_set_emb); decide)
    | decide
    | with_reducible intro _ _ _
    | ((try dsimp only); split)

theorem State.passTerms_evolves (die sources k : Nat) (s : State) :
    s.evolves (State.passTerms die sources k s) [.mem, .regs, .board, .emb, .dram, .fab] := by
  induction k generalizing s with
  | zero => exact State.evolves_refl _ _
  | succ k ih =>
    unfold State.passTerms
    split
    · exact State.evolves_refl _ _
    · refine State.evolves_step (ih _) ?_ (by decide)
      refine State.evolves_step (State.passTerm_evolves _ _) ?_ (by decide)
      exact State.evolves_set_emb (by decide) (State.evolves_refl _ _)

theorem State.endDie_evolves (s : State) (die sources : Nat) :
    s.evolves (State.endDie s die sources) [.emb] := by
  unfold State.endDie
  repeat' first
    | assumption
    | with_reducible apply State.evolves_refl
    | with_reducible apply State.evolves_ite
    | with_reducible apply State.evolves_foldl
    | fail_if_no_progress ((with_reducible apply State.evolves_set_emb); decide)
    | decide
    | with_reducible intro _ _ _
    | ((try dsimp only); split)

theorem execScatterTerm_evolves (die : Fin 4) (table row : Nat) (term : ScatterTerm) (last : Bool) (s : State) :
    Outcome.evolves s [.mem, .regs, .board, .emb, .dram, .fab] (execScatterTerm die table row term last s) := by
  unfold execScatterTerm
  refine Outcome.evolves_next ?_
  dsimp only
  apply State.evolves_ite (State.evolves_refl _ _)
  refine State.evolves_step (State.endMarkers_evolves _) ?_ (by decide)
  refine State.evolves_step (State.endDie_evolves _ _ _) ?_ (by decide)
  refine State.evolves_step (State.passTerms_evolves _ _ _ _) ?_ (by decide)
  exact State.evolves_set_emb (by decide) (State.evolves_refl _ _)

theorem State.mergeRow_evolves (s : State) (die : Nat) (t : Table) (row : Nat) (ts : List MergeTerm) :
    s.evolves (State.mergeRow s die t row ts) [.regs, .board, .emb, .upd, .dram, .fab, .vlk, .adm, .dict, .life] := by
  unfold State.mergeRow
  repeat' first
    | assumption
    | with_reducible apply State.evolves_refl
    | with_reducible apply State.evolves_ite
    | with_reducible apply State.evolves_foldl
    | with_reducible apply State.evolves_step (State.closeRow_evolves _ _)
    | with_reducible apply State.evolves_step (State.failRead_evolves _ _ _)
    | decide
    | with_reducible intro _ _ _
    | ((try dsimp only); split)

theorem execSortMerge_evolves (die : Fin 4) (s : State) :
    Outcome.evolves s [.regs, .board, .emb, .upd, .dram, .fab, .vlk, .adm, .dict, .life] (execSortMerge die s) := by
  unfold execSortMerge
  refine Outcome.evolves_next ?_
  repeat' first
    | assumption
    | with_reducible apply State.evolves_refl
    | with_reducible apply State.evolves_ite
    | with_reducible apply State.evolves_foldl
    | with_reducible apply State.evolves_step (State.endMarkers_evolves _)
    | with_reducible apply State.evolves_step (State.event_evolves _ _ _)
    | with_reducible apply State.evolves_step (State.mergeRow_evolves _ _ _ _ _)
    | fail_if_no_progress ((with_reducible apply State.evolves_set_emb); decide)
    | decide
    | with_reducible intro _ _ _
    | ((try dsimp only); split)

theorem execExchangeRecord_evolves (src : Nat) (record : Bytes) (s : State) :
    Outcome.evolves s [.emb, .fab] (execExchangeRecord src record s) := by
  unfold execExchangeRecord
  refine Outcome.evolves_next ?_
  repeat' first
    | assumption
    | with_reducible apply State.evolves_refl
    | with_reducible apply State.evolves_ite
    | with_reducible apply State.evolves_foldl
    | with_reducible apply State.evolves_step (State.takeInbox_evolves _ _ _)
    | fail_if_no_progress ((with_reducible apply State.evolves_set_emb); decide)
    | decide
    | with_reducible intro _ _ _
    | ((try dsimp only); split)

theorem execExchangeEndMarker_evolves (src : Nat) (s : State) :
    Outcome.evolves s [.emb, .fab] (execExchangeEndMarker src s) := by
  unfold execExchangeEndMarker
  refine Outcome.evolves_next ?_
  repeat' first
    | assumption
    | with_reducible apply State.evolves_refl
    | with_reducible apply State.evolves_ite
    | with_reducible apply State.evolves_foldl
    | with_reducible apply State.evolves_step (State.takeInbox_evolves _ _ _)
    | fail_if_no_progress ((with_reducible apply State.evolves_set_emb); decide)
    | decide
    | with_reducible intro _ _ _
    | ((try dsimp only); split)

theorem execOwnerReduction_evolves (s : State) :
    Outcome.evolves s [.mem, .emb, .dram, .fab] (execOwnerReduction s) := by
  unfold execOwnerReduction
  refine Outcome.evolves_next ?_
  repeat' first
    | assumption
    | with_reducible apply State.evolves_refl
    | with_reducible apply State.evolves_ite
    | with_reducible apply State.evolves_foldl
    | with_reducible apply State.evolves_step (State.endMarkers_evolves _)
    | with_reducible apply State.evolves_step (State.toWork_evolves _ _)
    | fail_if_no_progress ((with_reducible apply State.evolves_set_emb); decide)
    | decide
    | with_reducible intro _ _ _
    | ((try dsimp only); split)

theorem execHotsetPushRow_evolves (owner table row cls : Nat) (removal : Bool) (payload : Bytes) (s : State) :
    Outcome.evolves s [.mem, .emb, .fab] (execHotsetPushRow owner table row cls removal payload s) := by
  unfold execHotsetPushRow
  refine Outcome.evolves_next ?_
  repeat' first
    | assumption
    | with_reducible apply State.evolves_refl
    | with_reducible apply State.evolves_ite
    | with_reducible apply State.evolves_foldl
    | with_reducible apply State.evolves_step (State.hotInstall_evolves _ _ _ _ _ _ _)
    | with_reducible apply State.evolves_step (State.takeInbox_evolves _ _ _)
    | decide
    | with_reducible intro _ _ _
    | ((try dsimp only); split)

theorem State.takeHotEnd_evolves (s : State) (k : Nat) :
    s.evolves (State.takeHotEnd s k) [.fab] := by
  unfold State.takeHotEnd
  repeat' first
    | assumption
    | with_reducible apply State.evolves_refl
    | with_reducible apply State.evolves_ite
    | with_reducible apply State.evolves_foldl
    | fail_if_no_progress ((with_reducible apply State.evolves_set_fab); decide; (first | (with_reducible exact fun h => h) | exact (fun h => SMap.wf_set _ _ _ _ h) | exact (fun h => SMap.wf_setMany _ _ _ _ h) | exact (fun h => SMap.wf_eraseRange _ _ _ _ h) | exact (fun h => SMap.wfFrom_filter _ _ _ _ h) | exact (fun h => (List.length_set ..).trans h) | exact (fun h => (List.length_modify ..).trans h) | exact (fun h => (List.length_map ..).trans h) | exact (fun h => ⟨h.1, (List.length_set ..).trans h.2⟩) | exact (fun h => h) | exact (fun _ => (List.length_set ..).trans rfl) | exact (fun _ => rfl)))
    | decide
    | with_reducible intro _ _ _
    | ((try dsimp only); split)

theorem execHotsetInstallComplete_evolves (step pushed entered left migrations : Nat) (s : State) :
    Outcome.evolves s [.regs, .emb, .fab, .dict] (execHotsetInstallComplete step pushed entered left migrations s) := by
  unfold execHotsetInstallComplete
  refine Outcome.evolves_next ?_
  repeat' first
    | assumption
    | with_reducible apply State.evolves_refl
    | with_reducible apply State.evolves_ite
    | with_reducible apply State.evolves_foldl
    | with_reducible apply State.evolves_step (State.event_evolves _ _ _)
    | with_reducible apply State.evolves_step (State.setReg_evolves _ _ _ _)
    | with_reducible apply State.evolves_step (State.takeHotEnd_evolves _ _)
    | fail_if_no_progress ((with_reducible apply State.evolves_set_emb); decide)
    | decide
    | with_reducible intro _ _ _
    | ((try dsimp only); split)

end Sys2Proof.Machine
end

