-- ==== Sys2Proof/Laws/FrameUpdate.lean ====
section
/-! SUPPORT. What each operation of Machine/Update.lean may change. -/

namespace Sys2Proof.Machine

theorem State.rejectNorm_evolves (s : State) (kind which die : Nat) (n navg : F32) :
    s.evolves (State.rejectNorm s kind which die n navg) [.regs, .upd, .dict] := by
  unfold State.rejectNorm
  repeat' first
    | assumption
    | with_reducible apply State.evolves_refl
    | with_reducible apply State.evolves_ite
    | with_reducible apply State.evolves_foldl
    | with_reducible apply State.evolves_step (State.event_evolves _ _ _)
    | with_reducible apply State.evolves_step (State.flagCount_evolves _ _ _ _ _ _)
    | fail_if_no_progress ((with_reducible apply State.evolves_set_upd); decide; (first | (with_reducible exact fun h => h) | exact (fun h => SMap.wf_set _ _ _ _ h) | exact (fun h => SMap.wf_setMany _ _ _ _ h) | exact (fun h => SMap.wf_eraseRange _ _ _ _ h) | exact (fun h => SMap.wfFrom_filter _ _ _ _ h) | exact (fun h => (List.length_set ..).trans h) | exact (fun h => (List.length_modify ..).trans h) | exact (fun h => (List.length_map ..).trans h) | exact (fun h => ⟨h.1, (List.length_set ..).trans h.2⟩) | exact (fun h => h) | exact (fun _ => (List.length_set ..).trans rfl) | exact (fun _ => rfl)))
    | decide
    | with_reducible intro _ _ _
    | ((try dsimp only); split)

theorem State.countReject_evolves (s : State) (k : Nat) :
    s.evolves (State.countReject s k) [.upd] := by
  unfold State.countReject
  repeat' first
    | assumption
    | with_reducible apply State.evolves_refl
    | with_reducible apply State.evolves_ite
    | with_reducible apply State.evolves_foldl
    | fail_if_no_progress ((with_reducible apply State.evolves_set_upd); decide; (first | (with_reducible exact fun h => h) | exact (fun h => SMap.wf_set _ _ _ _ h) | exact (fun h => SMap.wf_setMany _ _ _ _ h) | exact (fun h => SMap.wf_eraseRange _ _ _ _ h) | exact (fun h => SMap.wfFrom_filter _ _ _ _ h) | exact (fun h => (List.length_set ..).trans h) | exact (fun h => (List.length_modify ..).trans h) | exact (fun h => (List.length_map ..).trans h) | exact (fun h => ⟨h.1, (List.length_set ..).trans h.2⟩) | exact (fun h => h) | exact (fun _ => (List.length_set ..).trans rfl) | exact (fun _ => rfl)))
    | decide
    | with_reducible intro _ _ _
    | ((try dsimp only); split)

theorem State.keep_evolves (s : State) (p : Param) (entry : Nat) (grad : List F32) :
    s.evolves (State.keep s p entry grad) [.mem, .upd, .dram] := by
  unfold State.keep
  repeat' first
    | assumption
    | with_reducible apply State.evolves_refl
    | with_reducible apply State.evolves_ite
    | with_reducible apply State.evolves_foldl
    | with_reducible apply State.evolves_step (State.store_evolves _ _ _)
    | fail_if_no_progress ((with_reducible apply State.evolves_set_upd); decide; (first | (with_reducible exact fun h => h) | exact (fun h => SMap.wf_set _ _ _ _ h) | exact (fun h => SMap.wf_setMany _ _ _ _ h) | exact (fun h => SMap.wf_eraseRange _ _ _ _ h) | exact (fun h => SMap.wfFrom_filter _ _ _ _ h) | exact (fun h => (List.length_set ..).trans h) | exact (fun h => (List.length_modify ..).trans h) | exact (fun h => (List.length_map ..).trans h) | exact (fun h => ⟨h.1, (List.length_set ..).trans h.2⟩) | exact (fun h => h) | exact (fun _ => (List.length_set ..).trans rfl) | exact (fun _ => rfl)))
    | decide
    | with_reducible intro _ _ _
    | ((try dsimp only); split)

theorem State.countNonfinite_evolves (s : State) (die n : Nat) :
    s.evolves (State.countNonfinite s die n) [.regs] := by
  unfold State.countNonfinite
  repeat' first
    | assumption
    | with_reducible apply State.evolves_refl
    | with_reducible apply State.evolves_ite
    | with_reducible apply State.evolves_foldl
    | with_reducible apply State.evolves_step (State.flagCount_evolves _ _ _ _ _ _)
    | decide
    | with_reducible intro _ _ _
    | ((try dsimp only); split)

theorem State.updateTensor_evolves (s : State) (entry : Nat) (p : Param) (grad : List F32) (accepted : Nat) (navg : F32) :
    s.evolves (State.updateTensor s entry p grad accepted navg) [.mem, .regs, .board, .upd, .dram] := by
  unfold State.updateTensor
  repeat' first
    | assumption
    | with_reducible apply State.evolves_refl
    | with_reducible apply State.evolves_ite
    | with_reducible apply State.evolves_foldl
    | with_reducible apply State.evolves_step (State.countNonfinite_evolves _ _ _)
    | with_reducible apply State.evolves_step (State.keepStats_evolves _ _ _ _ _ _ _ _ _)
    | with_reducible apply State.evolves_step (State.snapCopy_evolves _ _)
    | with_reducible apply State.evolves_step (State.store_evolves _ _ _)
    | fail_if_no_progress ((with_reducible apply State.evolves_set_upd); decide; (first | (with_reducible exact fun h => h) | exact (fun h => SMap.wf_set _ _ _ _ h) | exact (fun h => SMap.wf_setMany _ _ _ _ h) | exact (fun h => SMap.wf_eraseRange _ _ _ _ h) | exact (fun h => SMap.wfFrom_filter _ _ _ _ h) | exact (fun h => (List.length_set ..).trans h) | exact (fun h => (List.length_modify ..).trans h) | exact (fun h => (List.length_map ..).trans h) | exact (fun h => ⟨h.1, (List.length_set ..).trans h.2⟩) | exact (fun h => h) | exact (fun _ => (List.length_set ..).trans rfl) | exact (fun _ => rfl)))
    | decide
    | with_reducible intro _ _ _
    | ((try dsimp only); split)

theorem State.watchBand_evolves (s : State) (layer : Nat) (q : F32) :
    s.evolves (State.watchBand s layer q) [.regs, .num, .dict] := by
  unfold State.watchBand
  repeat' first
    | assumption
    | with_reducible apply State.evolves_refl
    | with_reducible apply State.evolves_ite
    | with_reducible apply State.evolves_foldl
    | with_reducible apply State.evolves_step (State.event_evolves _ _ _)
    | with_reducible apply State.evolves_step (State.flag_evolves _ _ _ _)
    | fail_if_no_progress ((with_reducible apply State.evolves_set_num); decide)
    | decide
    | with_reducible intro _ _ _
    | ((try dsimp only); split)

theorem State.watchRatio_evolves (s : State) (layer : Nat) :
    s.evolves (State.watchRatio s layer) [.regs, .num, .dict] := by
  unfold State.watchRatio
  repeat' first
    | assumption
    | with_reducible apply State.evolves_refl
    | with_reducible apply State.evolves_ite
    | with_reducible apply State.evolves_foldl
    | with_reducible apply State.evolves_step (State.updPass_evolves _ _ _)
    | with_reducible apply State.evolves_step (State.watchBand_evolves _ _ _)
    | decide
    | with_reducible intro _ _ _
    | ((try dsimp only); split)

theorem State.checkLayer_evolves (s : State) (p : Param) (h : HalfHead) :
    s.evolves (State.checkLayer s p h).2 [.regs, .upd, .dict] := by
  unfold State.checkLayer
  repeat' first
    | assumption
    | with_reducible apply State.evolves_refl
    | with_reducible apply State.evolves_ite
    | with_reducible apply State.evolves_foldl
    | with_reducible apply State.evolves_ite_snd
    | with_reducible apply State.evolves_foldl_snd
    | with_reducible apply State.evolves_step (State.rejectNorm_evolves _ _ _ _ _ _)
    | fail_if_no_progress ((with_reducible apply State.evolves_set_upd); decide; (first | (with_reducible exact fun h => h) | exact (fun h => SMap.wf_set _ _ _ _ h) | exact (fun h => SMap.wf_setMany _ _ _ _ h) | exact (fun h => SMap.wf_eraseRange _ _ _ _ h) | exact (fun h => SMap.wfFrom_filter _ _ _ _ h) | exact (fun h => (List.length_set ..).trans h) | exact (fun h => (List.length_modify ..).trans h) | exact (fun h => (List.length_map ..).trans h) | exact (fun h => ⟨h.1, (List.length_set ..).trans h.2⟩) | exact (fun h => h) | exact (fun _ => (List.length_set ..).trans rfl) | exact (fun _ => rfl)))
    | decide
    | with_reducible intro _ _ _
    | ((try dsimp only); split)

theorem State.handled_evolves (s : State) (entry : Nat) :
    s.evolves (State.handled s entry) [.upd] := by
  unfold State.handled
  repeat' first
    | assumption
    | with_reducible apply State.evolves_refl
    | with_reducible apply State.evolves_ite
    | with_reducible apply State.evolves_foldl
    | fail_if_no_progress ((with_reducible apply State.evolves_set_upd); decide; (first | (with_reducible exact fun h => h) | exact (fun h => SMap.wf_set _ _ _ _ h) | exact (fun h => SMap.wf_setMany _ _ _ _ h) | exact (fun h => SMap.wf_eraseRange _ _ _ _ h) | exact (fun h => SMap.wfFrom_filter _ _ _ _ h) | exact (fun h => (List.length_set ..).trans h) | exact (fun h => (List.length_modify ..).trans h) | exact (fun h => (List.length_map ..).trans h) | exact (fun h => ⟨h.1, (List.length_set ..).trans h.2⟩) | exact (fun h => h) | exact (fun _ => (List.length_set ..).trans rfl) | exact (fun _ => rfl)))
    | decide
    | with_reducible intro _ _ _
    | ((try dsimp only); split)

theorem State.applyTensor_evolves (s : State) (entry : Nat) (p : Param) (grad : List F32) :
    s.evolves (State.applyTensor s entry p grad) [.mem, .regs, .board, .num, .upd, .dram, .fab, .vlk, .adm, .dict, .life] := by
  unfold State.applyTensor
  repeat' first
    | assumption
    | with_reducible apply State.evolves_refl
    | with_reducible apply State.evolves_ite
    | with_reducible apply State.evolves_foldl
    | with_reducible apply State.evolves_step (State.checkLayer_evolves _ _ _)
    | with_reducible apply State.evolves_step (State.countReject_evolves _ _)
    | with_reducible apply State.evolves_step (State.failRead_evolves _ _ _)
    | with_reducible apply State.evolves_step (State.handled_evolves _ _)
    | with_reducible apply State.evolves_step (State.updateTensor_evolves _ _ _ _ _ _)
    | with_reducible apply State.evolves_step (State.watchRatio_evolves _ _)
    | decide
    | with_reducible intro _ _ _
    | ((try dsimp only); split)

theorem execLayerUpdate_evolves (entry : Nat) (grad : List F32) (s : State) :
    Outcome.evolves s [.mem, .regs, .board, .num, .upd, .dram, .fab, .vlk, .adm, .dict, .life] (execLayerUpdate entry grad s) := by
  unfold execLayerUpdate
  refine Outcome.evolves_next ?_
  repeat' first
    | assumption
    | with_reducible apply State.evolves_refl
    | with_reducible apply State.evolves_ite
    | with_reducible apply State.evolves_foldl
    | with_reducible apply State.evolves_step (State.applyTensor_evolves _ _ _ _)
    | with_reducible apply State.evolves_step (State.failRead_evolves _ _ _)
    | with_reducible apply State.evolves_step (State.handled_evolves _ _)
    | with_reducible apply State.evolves_step (State.keep_evolves _ _ _ _)
    | decide
    | with_reducible intro _ _ _
    | ((try dsimp only); split)

theorem State.checkShard_evolves (s : State) (t : Table) (die : Nat) :
    s.evolves (State.checkShard s t die).2 [.mem, .regs, .emb, .upd, .dram, .dict] := by
  unfold State.checkShard
  repeat' first
    | assumption
    | with_reducible apply State.evolves_refl
    | with_reducible apply State.evolves_ite
    | with_reducible apply State.evolves_foldl
    | with_reducible apply State.evolves_ite_snd
    | with_reducible apply State.evolves_foldl_snd
    | with_reducible apply State.evolves_step (State.countReject_evolves _ _)
    | with_reducible apply State.evolves_step (State.rejectNorm_evolves _ _ _ _ _ _)
    | with_reducible apply State.evolves_step (State.snapCopy_evolves _ _)
    | fail_if_no_progress ((with_reducible apply State.evolves_set_upd); decide; (first | (with_reducible exact fun h => h) | exact (fun h => SMap.wf_set _ _ _ _ h) | exact (fun h => SMap.wf_setMany _ _ _ _ h) | exact (fun h => SMap.wf_eraseRange _ _ _ _ h) | exact (fun h => SMap.wfFrom_filter _ _ _ _ h) | exact (fun h => (List.length_set ..).trans h) | exact (fun h => (List.length_modify ..).trans h) | exact (fun h => (List.length_map ..).trans h) | exact (fun h => ⟨h.1, (List.length_set ..).trans h.2⟩) | exact (fun h => h) | exact (fun _ => (List.length_set ..).trans rfl) | exact (fun _ => rfl)))
    | fail_if_no_progress ((with_reducible apply State.evolves_set_emb); decide)
    | decide
    | with_reducible intro _ _ _
    | ((try dsimp only); split)

theorem State.newRow_evolves (s : State) (t : Table) (cls row : Nat) (slot : Bytes) (g : List F32) :
    s.evolves (State.newRow s t cls row slot g).2.1 [.board] := by
  unfold State.newRow
  repeat' first
    | assumption
    | with_reducible apply State.evolves_refl
    | with_reducible apply State.evolves_ite
    | with_reducible apply State.evolves_foldl
    | with_reducible apply State.evolves_ite_snd
    | with_reducible apply State.evolves_foldl_snd
    | with_reducible apply State.evolves_step (State.keepStats_evolves _ _ _ _ _ _ _ _ _)
    | decide
    | with_reducible intro _ _ _
    | ((try dsimp only); split)

theorem State.touchRow_evolves (s : State) (d : Nat × DirEntry) :
    s.evolves (State.touchRow s d) [.mem, .regs, .upd, .dram] := by
  unfold State.touchRow
  repeat' first
    | assumption
    | with_reducible apply State.evolves_refl
    | with_reducible apply State.evolves_ite
    | with_reducible apply State.evolves_foldl
    | with_reducible apply State.evolves_step (State.setDir_evolves _ _ _)
    | with_reducible apply State.evolves_step (State.snapCopy_evolves _ _)
    | decide
    | with_reducible intro _ _ _
    | ((try dsimp only); split)

theorem State.updateRow_evolves (s : State) (t : Table) (r : GradSlot) (d : Nat × DirEntry) :
    s.evolves (State.updateRow s t r d) [.mem, .regs, .board, .upd, .dram, .fab, .vlk, .adm, .dict, .life] := by
  unfold State.updateRow
  dsimp only
  apply State.evolves_ite (State.evolves_wider (State.failRead_evolves _ _ _) (by decide))
  split
  · exact State.evolves_wider (State.journalFull_evolves _ _) (by decide)
  · next h =>
    refine State.evolves_set_upd (by decide) (fun h => h) ?_
    refine State.evolves_step (State.bump_evolves _ _ _ _) ?_ (by decide)
    refine State.evolves_step (State.countNonfinite_evolves _ _ _) ?_ (by decide)
    refine State.evolves_step (State.store_evolves _ _ _) ?_ (by decide)
    refine State.evolves_step (State.touchRow_evolves _ _) ?_ (by decide)
    refine State.evolves_step (State.newRow_evolves _ _ _ _ _ _) ?_ (by decide)
    exact State.evolves_wider (State.journalRow_evolves h) (by decide)

theorem State.applyRow_evolves (s : State) (t : Table) (r : GradSlot) : s.evolves (State.applyRow s t r) [.mem, .regs, .board, .emb, .upd, .dram, .fab, .vlk, .adm, .dict, .life] := by
  unfold State.applyRow
  have h : s.evolves (s.checkShard t r.die).2 [.mem, .regs, .board, .emb, .upd, .dram, .fab, .vlk, .adm, .dict, .life] := State.evolves_wider (State.checkShard_evolves _ _ _) (by decide)
  split
  · exact h
  · exact State.evolves_ite (State.evolves_step (State.updateRow_evolves _ _ _ _) h (by decide))
      (State.evolves_step (State.touchRow_evolves _ _) h (by decide))

theorem execRowUpdate_evolves (table row : Nat) (s : State) :
    Outcome.evolves s [.mem, .regs, .board, .emb, .upd, .dram, .fab, .vlk, .adm, .dict, .life] (execRowUpdate table row s) := by
  unfold execRowUpdate
  refine Outcome.evolves_next ?_
  repeat' first
    | assumption
    | with_reducible apply State.evolves_refl
    | with_reducible apply State.evolves_ite
    | with_reducible apply State.evolves_foldl
    | with_reducible apply State.evolves_step (State.applyRow_evolves _ _ _)
    | with_reducible apply State.evolves_step (State.failRead_evolves _ _ _)
    | fail_if_no_progress ((with_reducible apply State.evolves_set_upd); decide; (first | (with_reducible exact fun h => h) | exact (fun h => SMap.wf_set _ _ _ _ h) | exact (fun h => SMap.wf_setMany _ _ _ _ h) | exact (fun h => SMap.wf_eraseRange _ _ _ _ h) | exact (fun h => SMap.wfFrom_filter _ _ _ _ h) | exact (fun h => (List.length_set ..).trans h) | exact (fun h => (List.length_modify ..).trans h) | exact (fun h => (List.length_map ..).trans h) | exact (fun h => ⟨h.1, (List.length_set ..).trans h.2⟩) | exact (fun h => h) | exact (fun _ => (List.length_set ..).trans rfl) | exact (fun _ => rfl)))
    | decide
    | with_reducible intro _ _ _
    | ((try dsimp only); split)

theorem State.ownerStep_evolves (s : State) (step : Nat) :
    s.evolves (State.ownerStep s step) [.mem, .regs, .board, .emb, .upd, .dram, .fab, .vlk, .adm, .dict, .life] := by
  unfold State.ownerStep
  repeat' first
    | assumption
    | with_reducible apply State.evolves_refl
    | with_reducible apply State.evolves_ite
    | with_reducible apply State.evolves_foldl
    | with_reducible apply State.evolves_step (State.refresh_evolves _ _)
    | with_reducible apply State.evolves_step (State.sketchCommit_evolves _ _ _)
    | with_reducible apply State.evolves_step (State.snapCopy_evolves _ _)
    | decide
    | with_reducible intro _ _ _
    | ((try dsimp only); split)

theorem execModuleApplied_evolves (s : State) :
    Outcome.evolves s [.mem, .regs, .board, .emb, .upd, .dram, .fab, .vlk, .adm, .dict, .life] (execModuleApplied s) := by
  unfold execModuleApplied
  refine Outcome.evolves_next ?_
  repeat' first
    | assumption
    | with_reducible apply State.evolves_refl
    | with_reducible apply State.evolves_ite
    | with_reducible apply State.evolves_foldl
    | with_reducible apply State.evolves_step (State.castVote_evolves _)
    | with_reducible apply State.evolves_step (State.ownerStep_evolves _ _)
    | with_reducible apply State.evolves_step (State.saveCarries_evolves _ _)
    | with_reducible apply State.evolves_step (State.syncOp_evolves _ _ _ _ _)
    | fail_if_no_progress ((with_reducible apply State.evolves_set_upd); decide; (first | (with_reducible exact fun h => h) | exact (fun h => SMap.wf_set _ _ _ _ h) | exact (fun h => SMap.wf_setMany _ _ _ _ h) | exact (fun h => SMap.wf_eraseRange _ _ _ _ h) | exact (fun h => SMap.wfFrom_filter _ _ _ _ h) | exact (fun h => (List.length_set ..).trans h) | exact (fun h => (List.length_modify ..).trans h) | exact (fun h => (List.length_map ..).trans h) | exact (fun h => ⟨h.1, (List.length_set ..).trans h.2⟩) | exact (fun h => h) | exact (fun _ => (List.length_set ..).trans rfl) | exact (fun _ => rfl)))
    | decide
    | with_reducible intro _ _ _
    | ((try dsimp only); split)

end Sys2Proof.Machine
end

