-- ==== Sys2Proof/Laws/FrameCommit.lean ====
section
/-! SUPPORT. What each operation of Machine/Commit.lean may change. -/

namespace Sys2Proof.Machine

theorem State.snapBegin_evolves (s : State) (step : Nat) (h : History) :
    s.evolves (State.snapBegin s step h) [.regs, .upd, .dram, .fab, .vlk, .adm, .dict, .life] := by
  unfold State.snapBegin
  repeat' first
    | assumption
    | with_reducible apply State.evolves_refl
    | with_reducible apply State.evolves_ite
    | with_reducible apply State.evolves_foldl
    | with_reducible apply State.evolves_step (State.flag_evolves _ _ _ _)
    | with_reducible apply State.evolves_step (State.meetPoison_evolves _ _ _)
    | fail_if_no_progress ((with_reducible apply State.evolves_set_upd); decide; (first | (with_reducible exact fun h => h) | exact (fun h => SMap.wf_set _ _ _ _ h) | exact (fun h => SMap.wf_setMany _ _ _ _ h) | exact (fun h => SMap.wf_eraseRange _ _ _ _ h) | exact (fun h => SMap.wfFrom_filter _ _ _ _ h) | exact (fun h => (List.length_set ..).trans h) | exact (fun h => (List.length_modify ..).trans h) | exact (fun h => (List.length_map ..).trans h) | exact (fun h => ⟨h.1, (List.length_set ..).trans h.2⟩) | exact (fun h => h) | exact (fun _ => (List.length_set ..).trans rfl) | exact (fun _ => rfl)))
    | decide
    | with_reducible intro _ _ _
    | ((try dsimp only); split)

theorem State.snapNext_evolves (s : State) :
    s.evolves (State.snapNext s) [.upd, .vlk] := by
  unfold State.snapNext
  repeat' first
    | assumption
    | with_reducible apply State.evolves_refl
    | with_reducible apply State.evolves_ite
    | with_reducible apply State.evolves_foldl
    | with_reducible apply State.evolves_step (State.sendFrame_evolves _ _ _ _ _ _ _ _)
    | fail_if_no_progress ((with_reducible apply State.evolves_set_upd); decide; (first | (with_reducible exact fun h => h) | exact (fun h => SMap.wf_set _ _ _ _ h) | exact (fun h => SMap.wf_setMany _ _ _ _ h) | exact (fun h => SMap.wf_eraseRange _ _ _ _ h) | exact (fun h => SMap.wfFrom_filter _ _ _ _ h) | exact (fun h => (List.length_set ..).trans h) | exact (fun h => (List.length_modify ..).trans h) | exact (fun h => (List.length_map ..).trans h) | exact (fun h => ⟨h.1, (List.length_set ..).trans h.2⟩) | exact (fun h => h) | exact (fun _ => (List.length_set ..).trans rfl) | exact (fun _ => rfl)))
    | decide
    | with_reducible intro _ _ _
    | ((try dsimp only); split)

theorem State.dropFrame_evolves (s : State) (id : Nat) :
    s.evolves (State.dropFrame s id) [.adm] := by
  unfold State.dropFrame
  repeat' first
    | assumption
    | with_reducible apply State.evolves_refl
    | with_reducible apply State.evolves_ite
    | with_reducible apply State.evolves_foldl
    | fail_if_no_progress ((with_reducible apply State.evolves_set_adm); decide; (first | (with_reducible exact fun h => h) | exact (fun h => SMap.wf_set _ _ _ _ h) | exact (fun h => SMap.wf_setMany _ _ _ _ h) | exact (fun h => SMap.wf_eraseRange _ _ _ _ h) | exact (fun h => SMap.wfFrom_filter _ _ _ _ h) | exact (fun h => (List.length_set ..).trans h) | exact (fun h => (List.length_modify ..).trans h) | exact (fun h => (List.length_map ..).trans h) | exact (fun h => ⟨h.1, (List.length_set ..).trans h.2⟩) | exact (fun h => h) | exact (fun _ => (List.length_set ..).trans rfl) | exact (fun _ => rfl)))
    | decide
    | with_reducible intro _ _ _
    | ((try dsimp only); split)

theorem execCheckpoint_evolves (s : State) :
    Outcome.evolves s [.regs, .num, .upd, .vlk, .rst, .life] (execCheckpoint s) := by
  unfold execCheckpoint
  refine Outcome.evolves_next ?_
  repeat' first
    | assumption
    | with_reducible apply State.evolves_refl
    | with_reducible apply State.evolves_ite
    | with_reducible apply State.evolves_foldl
    | with_reducible apply State.evolves_step (State.clearReg_evolves _ _ _ _)
    | with_reducible apply State.evolves_step (State.nvPulse_evolves _ _ _)
    | with_reducible apply State.evolves_step (State.sendFrame_evolves _ _ _ _ _ _ _ _)
    | with_reducible apply State.evolves_step (State.snapNext_evolves _)
    | fail_if_no_progress ((with_reducible apply State.evolves_set_num_upd); decide; (first | (with_reducible exact fun h => h) | exact (fun h => SMap.wf_set _ _ _ _ h) | exact (fun h => SMap.wf_setMany _ _ _ _ h) | exact (fun h => SMap.wf_eraseRange _ _ _ _ h) | exact (fun h => SMap.wfFrom_filter _ _ _ _ h) | exact (fun h => (List.length_set ..).trans h) | exact (fun h => (List.length_modify ..).trans h) | exact (fun h => (List.length_map ..).trans h) | exact (fun h => ⟨h.1, (List.length_set ..).trans h.2⟩) | exact (fun h => h) | exact (fun _ => (List.length_set ..).trans rfl) | exact (fun _ => rfl)))
    | decide
    | with_reducible intro _ _ _
    | ((try dsimp only); split)

theorem State.writeRecord_evolves (s : State) (step : Nat) :
    s.evolves (State.writeRecord s step) [.upd] := by
  unfold State.writeRecord
  repeat' first
    | assumption
    | with_reducible apply State.evolves_refl
    | with_reducible apply State.evolves_ite
    | with_reducible apply State.evolves_foldl
    | fail_if_no_progress ((with_reducible apply State.evolves_set_upd); decide; (first | (with_reducible exact fun h => h) | exact (fun h => SMap.wf_set _ _ _ _ h) | exact (fun h => SMap.wf_setMany _ _ _ _ h) | exact (fun h => SMap.wf_eraseRange _ _ _ _ h) | exact (fun h => SMap.wfFrom_filter _ _ _ _ h) | exact (fun h => (List.length_set ..).trans h) | exact (fun h => (List.length_modify ..).trans h) | exact (fun h => (List.length_map ..).trans h) | exact (fun h => ⟨h.1, (List.length_set ..).trans h.2⟩) | exact (fun h => h) | exact (fun _ => (List.length_set ..).trans rfl) | exact (fun _ => rfl)))
    | decide
    | with_reducible intro _ _ _
    | ((try dsimp only); split)

theorem State.flipCopies_evolves (s : State) (step : Nat) :
    s.evolves (State.flipCopies s step) [.mem, .regs, .emb, .upd, .dram] := by
  unfold State.flipCopies
  repeat' first
    | assumption
    | with_reducible apply State.evolves_refl
    | with_reducible apply State.evolves_ite
    | with_reducible apply State.evolves_foldl
    | with_reducible apply State.evolves_step (State.snapCopy_evolves _ _)
    | fail_if_no_progress ((with_reducible apply State.evolves_set_emb); decide)
    | decide
    | with_reducible intro _ _ _
    | ((try dsimp only); split)

theorem State.discardLanes_evolves (s : State) :
    s.evolves (State.discardLanes s) [.regs, .slanes] := by
  unfold State.discardLanes
  repeat' first
    | assumption
    | with_reducible apply State.evolves_refl
    | with_reducible apply State.evolves_ite
    | with_reducible apply State.evolves_foldl
    | with_reducible apply State.evolves_step (State.emptyLanes_evolves _)
    | with_reducible apply State.evolves_step (State.flagCount_evolves _ _ _ _ _ _)
    | decide
    | with_reducible intro _ _ _
    | ((try dsimp only); split)

theorem State.countClean_evolves (s : State) (step : Nat) :
    s.evolves (State.countClean s step) [.regs, .frets, .num, .dict] := by
  unfold State.countClean
  repeat' first
    | assumption
    | with_reducible apply State.evolves_refl
    | with_reducible apply State.evolves_ite
    | with_reducible apply State.evolves_foldl
    | with_reducible apply State.evolves_step (State.bump_evolves _ _ _ _)
    | with_reducible apply State.evolves_step (State.event_evolves _ _ _)
    | with_reducible apply State.evolves_step (State.flag_evolves _ _ _ _)
    | with_reducible apply State.evolves_step (State.rescalePins_evolves _ _)
    | with_reducible apply State.evolves_step (State.setCube_evolves _ _)
    | with_reducible apply State.evolves_step (State.setReg_evolves _ _ _ _)
    | fail_if_no_progress ((with_reducible apply State.evolves_set_num); decide)
    | decide
    | with_reducible intro _ _ _
    | ((try dsimp only); split)

theorem State.commitNum_evolves (s : State) (step : Nat) :
    s.evolves (State.commitNum s step) [.regs, .frets, .num, .dict] := by
  unfold State.commitNum
  repeat' first
    | assumption
    | with_reducible apply State.evolves_refl
    | with_reducible apply State.evolves_ite
    | with_reducible apply State.evolves_foldl
    | with_reducible apply State.evolves_step (State.clearReg_evolves _ _ _ _)
    | with_reducible apply State.evolves_step (State.countClean_evolves _ _)
    | with_reducible apply State.evolves_step (State.setReg_evolves _ _ _ _)
    | fail_if_no_progress ((with_reducible apply State.evolves_set_num); decide)
    | decide
    | with_reducible intro _ _ _
    | ((try dsimp only); split)

theorem State.commitFrames_evolves (s : State) (step : Nat) (skipped : Bool) :
    s.evolves (State.commitFrames s step skipped) [.vlk, .adm] := by
  unfold State.commitFrames
  repeat' first
    | assumption
    | with_reducible apply State.evolves_refl
    | with_reducible apply State.evolves_ite
    | with_reducible apply State.evolves_foldl
    | with_reducible apply State.evolves_step (State.sendStatus_evolves _ _)
    | fail_if_no_progress ((with_reducible apply State.evolves_set_adm); decide; (first | (with_reducible exact fun h => h) | exact (fun h => SMap.wf_set _ _ _ _ h) | exact (fun h => SMap.wf_setMany _ _ _ _ h) | exact (fun h => SMap.wf_eraseRange _ _ _ _ h) | exact (fun h => SMap.wfFrom_filter _ _ _ _ h) | exact (fun h => (List.length_set ..).trans h) | exact (fun h => (List.length_modify ..).trans h) | exact (fun h => (List.length_map ..).trans h) | exact (fun h => ⟨h.1, (List.length_set ..).trans h.2⟩) | exact (fun h => h) | exact (fun _ => (List.length_set ..).trans rfl) | exact (fun _ => rfl)))
    | decide
    | with_reducible intro _ _ _
    | ((try dsimp only); split)

theorem State.commitData_evolves (s : State) (step : Nat) : s.evolves (State.commitData s step) [.mem, .regs, .frets, .emb, .upd, .dram, .fab, .vlk, .adm, .dict, .life] := by
  unfold State.commitData
  have h : s.evolves ((s.flipCopies step).commitChoice) [.mem, .regs, .frets, .emb, .upd, .dram, .fab, .vlk, .adm, .dict, .life] :=
    State.evolves_step (State.commitChoice_evolves _) (State.evolves_wider (State.flipCopies_evolves _ _) (by decide)) (by decide)
  dsimp only
  generalize (s.flipCopies step).commitChoice = x at h ⊢
  exact State.evolves_ite (State.evolves_step (State.saveCarries_evolves _ _) (State.evolves_step (State.metCarries_evolves _ _)
    (State.evolves_step (State.restoreCarries_evolves _ _ _) h (by decide)) (by decide)) (by decide)) h

theorem State.commitRecords_evolves (s : State) (step : Nat) :
    s.evolves (State.commitRecords s step) [.regs, .frets, .slanes, .board, .num, .emb, .upd, .dict] := by
  unfold State.commitRecords
  repeat' first
    | assumption
    | with_reducible apply State.evolves_refl
    | with_reducible apply State.evolves_ite
    | with_reducible apply State.evolves_foldl
    | with_reducible apply State.evolves_step (State.commitNum_evolves _ _)
    | with_reducible apply State.evolves_step (State.discardLanes_evolves _)
    | with_reducible apply State.evolves_step (State.emptyJournals_evolves _)
    | with_reducible apply State.evolves_step (State.updBoard_evolves _ _)
    | with_reducible apply State.evolves_step (State.writeRecord_evolves _ _)
    | fail_if_no_progress ((with_reducible apply State.evolves_set_emb); decide)
    | decide
    | with_reducible intro _ _ _
    | ((try dsimp only); split)

theorem Upd.committed_recs (u : Upd) : u.committed.recs = u.recs := rfl

theorem State.commitEvent_evolves (s : State) (step tensors : Nat) (skipped : Bool) :
    s.evolves (State.commitEvent s step tensors skipped) [.regs, .upd, .fab, .dict] := by
  have k : ∀ q, s.evolves { s.event 0x0601 q with
      upd := (s.event 0x0601 q).upd.committed, fab := { (s.event 0x0601 q).fab with tree := [] } } [.regs, .upd, .fab, .dict] := fun q =>
    State.evolves_set_upd_fab (by decide) (fun h => (congrArg List.length (Upd.committed_recs _)).trans h) (fun h => h)
      (State.evolves_wider (State.event_evolves _ _ _) (by decide))
  exact k _

theorem State.commitNews_evolves (s : State) (step tensors : Nat) (skipped : Bool) :
    s.evolves (State.commitNews s step tensors skipped) [.mem, .regs, .upd, .dram, .fab, .vlk, .adm, .dict, .life] := by
  unfold State.commitNews
  repeat' first
    | assumption
    | with_reducible apply State.evolves_refl
    | with_reducible apply State.evolves_ite
    | with_reducible apply State.evolves_foldl
    | with_reducible apply State.evolves_step (State.commitEvent_evolves _ _ _ _)
    | with_reducible apply State.evolves_step (State.commitFrames_evolves _ _ _)
    | with_reducible apply State.evolves_step (State.snapBegin_evolves _ _ _)
    | with_reducible apply State.evolves_step (State.storeSoon_evolves _ _ _)
    | decide
    | with_reducible intro _ _ _
    | ((try dsimp only); split)

theorem State.afterCommit_evolves (s : State) (step : Nat) :
    s.evolves (State.afterCommit s step) [.mem, .regs, .emb, .upd, .fab] := by
  unfold State.afterCommit
  repeat' first
    | assumption
    | with_reducible apply State.evolves_refl
    | with_reducible apply State.evolves_ite
    | with_reducible apply State.evolves_foldl
    | with_reducible apply State.evolves_step (State.castVote_evolves _)
    | with_reducible apply State.evolves_step (State.startPush_evolves _)
    | fail_if_no_progress ((with_reducible apply State.evolves_set_upd); decide; (first | (with_reducible exact fun h => h) | exact (fun h => SMap.wf_set _ _ _ _ h) | exact (fun h => SMap.wf_setMany _ _ _ _ h) | exact (fun h => SMap.wf_eraseRange _ _ _ _ h) | exact (fun h => SMap.wfFrom_filter _ _ _ _ h) | exact (fun h => (List.length_set ..).trans h) | exact (fun h => (List.length_modify ..).trans h) | exact (fun h => (List.length_map ..).trans h) | exact (fun h => ⟨h.1, (List.length_set ..).trans h.2⟩) | exact (fun h => h) | exact (fun _ => (List.length_set ..).trans rfl) | exact (fun _ => rfl)))
    | decide
    | with_reducible intro _ _ _
    | ((try dsimp only); split)

theorem State.commit_evolves (s : State) :
    s.evolves (State.commit s) [.mem, .regs, .frets, .slanes, .board, .num, .emb, .upd, .dram, .fab, .vlk, .adm, .dict, .life] := by
  unfold State.commit
  repeat' first
    | assumption
    | with_reducible apply State.evolves_refl
    | with_reducible apply State.evolves_ite
    | with_reducible apply State.evolves_foldl
    | with_reducible apply State.evolves_step (State.afterCommit_evolves _ _)
    | with_reducible apply State.evolves_step (State.commitData_evolves _ _)
    | with_reducible apply State.evolves_step (State.commitNews_evolves _ _ _ _)
    | with_reducible apply State.evolves_step (State.commitRecords_evolves _ _)
    | decide
    | with_reducible intro _ _ _
    | ((try dsimp only); split)

theorem State.rollBackTo_evolves (s : State) (decision lowest : Nat) :
    s.evolves (State.rollBackTo s decision lowest) [.mem, .regs, .frets, .slanes, .board, .num, .emb, .upd, .dram, .fab, .vlk, .adm, .dict, .life] := by
  unfold State.rollBackTo
  repeat' first
    | assumption
    | with_reducible apply State.evolves_refl
    | with_reducible apply State.evolves_ite
    | with_reducible apply State.evolves_foldl
    | with_reducible apply State.evolves_step (State.metCarries_evolves _ _)
    | with_reducible apply State.evolves_step (State.rollback_evolves _ _ _ _)
    | decide
    | with_reducible intro _ _ _
    | ((try dsimp only); split)

theorem execCommitVote_evolves (arrival : VoteArrival) (s : State) :
    Outcome.evolves s [.mem, .regs, .frets, .slanes, .board, .num, .emb, .upd, .dram, .fab, .vlk, .adm, .dict, .life] (execCommitVote arrival s) := by
  unfold execCommitVote
  refine Outcome.evolves_next ?_
  repeat' first
    | assumption
    | with_reducible apply State.evolves_refl
    | with_reducible apply State.evolves_ite
    | with_reducible apply State.evolves_foldl
    | with_reducible apply State.evolves_step (State.commit_evolves _)
    | with_reducible apply State.evolves_step (State.rollBackTo_evolves _ _ _)
    | with_reducible apply State.evolves_step (State.sumArrives_evolves _ _ _)
    | decide
    | with_reducible intro _ _ _
    | ((try dsimp only); split)

theorem State.takeOutcome_evolves (s : State) (outcome : Nat) :
    s.evolves (State.takeOutcome s outcome) [.mem, .regs, .frets, .slanes, .board, .num, .emb, .upd, .dram, .fab, .vlk, .adm, .dict, .life] := by
  unfold State.takeOutcome
  repeat' first
    | assumption
    | with_reducible apply State.evolves_refl
    | with_reducible apply State.evolves_ite
    | with_reducible apply State.evolves_foldl
    | with_reducible apply State.evolves_step (State.commit_evolves _)
    | with_reducible apply State.evolves_step (State.rollBackTo_evolves _ _ _)
    | with_reducible apply State.evolves_step (State.stopTraining_evolves _)
    | fail_if_no_progress ((with_reducible apply State.evolves_set_upd); decide; (first | (with_reducible exact fun h => h) | exact (fun h => SMap.wf_set _ _ _ _ h) | exact (fun h => SMap.wf_setMany _ _ _ _ h) | exact (fun h => SMap.wf_eraseRange _ _ _ _ h) | exact (fun h => SMap.wfFrom_filter _ _ _ _ h) | exact (fun h => (List.length_set ..).trans h) | exact (fun h => (List.length_modify ..).trans h) | exact (fun h => (List.length_map ..).trans h) | exact (fun h => ⟨h.1, (List.length_set ..).trans h.2⟩) | exact (fun h => h) | exact (fun _ => (List.length_set ..).trans rfl) | exact (fun _ => rfl)))
    | decide
    | with_reducible intro _ _ _
    | ((try dsimp only); split)

theorem State.arbiterLost_evolves (s : State) :
    s.evolves (State.arbiterLost s) [.regs, .upd, .vlk, .adm] := by
  unfold State.arbiterLost
  repeat' first
    | assumption
    | with_reducible apply State.evolves_refl
    | with_reducible apply State.evolves_ite
    | with_reducible apply State.evolves_foldl
    | with_reducible apply State.evolves_step (State.flag_evolves _ _ _ _)
    | with_reducible apply State.evolves_step (State.sendStatus_evolves _ _)
    | fail_if_no_progress ((with_reducible apply State.evolves_set_upd); decide; (first | (with_reducible exact fun h => h) | exact (fun h => SMap.wf_set _ _ _ _ h) | exact (fun h => SMap.wf_setMany _ _ _ _ h) | exact (fun h => SMap.wf_eraseRange _ _ _ _ h) | exact (fun h => SMap.wfFrom_filter _ _ _ _ h) | exact (fun h => (List.length_set ..).trans h) | exact (fun h => (List.length_modify ..).trans h) | exact (fun h => (List.length_map ..).trans h) | exact (fun h => ⟨h.1, (List.length_set ..).trans h.2⟩) | exact (fun h => h) | exact (fun _ => (List.length_set ..).trans rfl) | exact (fun _ => rfl)))
    | decide
    | with_reducible intro _ _ _
    | ((try dsimp only); split)

theorem execVoteTimeLimit_evolves (answer : Option (BitVec 64)) (s : State) :
    Outcome.evolves s [.mem, .regs, .frets, .slanes, .board, .num, .emb, .upd, .dram, .fab, .vlk, .adm, .dict, .life] (execVoteTimeLimit answer s) := by
  unfold execVoteTimeLimit
  refine Outcome.evolves_next ?_
  repeat' first
    | assumption
    | with_reducible apply State.evolves_refl
    | with_reducible apply State.evolves_ite
    | with_reducible apply State.evolves_foldl
    | with_reducible apply State.evolves_step (State.arbiterLost_evolves _)
    | with_reducible apply State.evolves_step (State.recordOutcome_evolves _ _)
    | with_reducible apply State.evolves_step (State.request_evolves _ _ _ _ _ _ _ _ _ _ _)
    | with_reducible apply State.evolves_step (State.takeOutcome_evolves _ _)
    | decide
    | with_reducible intro _ _ _
    | ((try dsimp only); split)

theorem execStepRerun_evolves (s : State) : Outcome.evolves s [.regs, .frets, .emb, .upd, .dram, .fab, .vlk, .adm, .dict, .life] (execStepRerun s) := by
  unfold execStepRerun
  refine Outcome.evolves_next ?_
  dsimp only
  apply State.evolves_ite (State.evolves_refl _ _)
  apply State.evolves_foldl
  · apply State.evolves_foldl
    · refine State.evolves_step (State.placeSeed_evolves _) ?_ (by decide)
      apply State.evolves_ite
      · refine State.evolves_step (State.syncOp_evolves _ _ _ _ _) ?_ (by decide)
        refine State.evolves_set_upd (by decide) (fun h => h) ?_
        refine State.evolves_foldl (State.evolves_wider (State.mapFrets_evolves _ _ _) (by decide)) fun a x h => ?_
        exact State.evolves_step (State.flag_evolves _ _ _ _) h (by decide)
      · refine State.evolves_set_upd (by decide) (fun h => h) ?_
        refine State.evolves_foldl (State.evolves_wider (State.mapFrets_evolves _ _ _) (by decide)) fun a x h => ?_
        exact State.evolves_step (State.flag_evolves _ _ _ _) h (by decide)
    · exact fun a x h => State.evolves_step (State.resolve_evolves _ _ _ _) h (by decide)
  · exact fun a x h => State.evolves_step (State.gather_evolves _ _ _ _) h (by decide)

end Sys2Proof.Machine
end

