-- ==== Sys2Proof/Laws/FrameDram.lean ====
section
/-! SUPPORT. What each operation of Machine/Dram.lean may change. -/

namespace Sys2Proof.Machine

theorem State.windowRequest_evolves (s : State) (r : MemReq) :
    s.evolves (State.windowRequest s r) [.regs, .frets, .board, .dram] := by
  unfold State.windowRequest
  repeat' first
    | assumption
    | with_reducible apply State.evolves_refl
    | with_reducible apply State.evolves_ite
    | with_reducible apply State.evolves_foldl
    | with_reducible apply State.evolves_step (State.sramCe_evolves _ _ _)
    | with_reducible apply State.evolves_step (State.windowFetch_evolves _ _ _ _)
    | with_reducible apply State.evolves_step (State.windowWrite_evolves _ _ _ _)
    | decide
    | with_reducible intro _ _ _
    | ((try dsimp only); split)

theorem State.hotRequest_evolves (s : State) (r : MemReq) :
    s.evolves (State.hotRequest s r) [.mem, .regs, .upd, .dram, .fab, .vlk, .adm, .dict] := by
  unfold State.hotRequest
  repeat' first
    | assumption
    | with_reducible apply State.evolves_refl
    | with_reducible apply State.evolves_ite
    | with_reducible apply State.evolves_foldl
    | with_reducible apply State.evolves_step (State.answer_evolves _ _ _ _ _)
    | with_reducible apply State.evolves_step (State.memoryFault_evolves _ _)
    | with_reducible apply State.evolves_step (State.store_evolves _ _ _)
    | decide
    | with_reducible intro _ _ _
    | ((try dsimp only); split)

theorem State.tierRequest_evolves (s : State) (r : MemReq) :
    s.evolves (State.tierRequest s r) [.mem, .regs, .upd, .dram, .fab, .vlk, .adm, .dict, .life] := by
  unfold State.tierRequest
  repeat' first
    | assumption
    | with_reducible apply State.evolves_refl
    | with_reducible apply State.evolves_ite
    | with_reducible apply State.evolves_foldl
    | with_reducible apply State.evolves_step (State.answer_evolves _ _ _ _ _)
    | with_reducible apply State.evolves_step (State.correctedError_evolves _ _)
    | with_reducible apply State.evolves_step (State.meetPoison_evolves _ _ _)
    | with_reducible apply State.evolves_step (State.memoryFault_evolves _ _)
    | with_reducible apply State.evolves_step (State.put_evolves _ _ _)
    | with_reducible apply State.evolves_step (State.uncorrectableError_evolves _ _)
    | decide
    | with_reducible intro _ _ _
    | ((try dsimp only); split)

theorem State.serveOwn_evolves (s : State) (r : MemReq) :
    s.evolves (State.serveOwn s r) [.mem, .regs, .frets, .board, .upd, .dram, .fab, .vlk, .adm, .dict, .life] := by
  unfold State.serveOwn
  repeat' first
    | assumption
    | with_reducible apply State.evolves_refl
    | with_reducible apply State.evolves_ite
    | with_reducible apply State.evolves_foldl
    | with_reducible apply State.evolves_step (State.answer_evolves _ _ _ _ _)
    | with_reducible apply State.evolves_step (State.hotRequest_evolves _ _)
    | with_reducible apply State.evolves_step (State.memoryFault_evolves _ _)
    | with_reducible apply State.evolves_step (State.tierRequest_evolves _ _)
    | with_reducible apply State.evolves_step (State.windowRequest_evolves _ _)
    | decide
    | with_reducible intro _ _ _
    | ((try dsimp only); split)

theorem State.remotePoison_evolves (s : State) (src id a n : Nat) (data : Bytes) :
    s.evolves (State.remotePoison s src id a n data) [.regs, .dram, .fab, .vlk, .adm, .dict, .life] := by
  unfold State.remotePoison
  repeat' first
    | assumption
    | with_reducible apply State.evolves_refl
    | with_reducible apply State.evolves_ite
    | with_reducible apply State.evolves_foldl
    | with_reducible apply State.evolves_step (State.meetPoison_evolves _ _ _)
    | with_reducible apply State.evolves_step (State.reply_evolves _ _ _ _ _ _)
    | decide
    | with_reducible intro _ _ _
    | ((try dsimp only); split)

theorem State.remoteRead_evolves (s : State) (src id addr len : Nat) :
    s.evolves (State.remoteRead s src id addr len) [.regs, .dram, .fab, .vlk, .adm, .dict, .life] := by
  unfold State.remoteRead
  repeat' first
    | assumption
    | with_reducible apply State.evolves_refl
    | with_reducible apply State.evolves_ite
    | with_reducible apply State.evolves_foldl
    | with_reducible apply State.evolves_step (State.remotePoison_evolves _ _ _ _ _ _)
    | with_reducible apply State.evolves_step (State.reply_evolves _ _ _ _ _ _)
    | decide
    | with_reducible intro _ _ _
    | ((try dsimp only); split)

theorem State.remoteWrite_evolves (s : State) (src id addr : Nat) (data : Bytes) :
    s.evolves (State.remoteWrite s src id addr data) [.mem, .regs, .upd, .dram, .fab] := by
  unfold State.remoteWrite
  repeat' first
    | assumption
    | with_reducible apply State.evolves_refl
    | with_reducible apply State.evolves_ite
    | with_reducible apply State.evolves_foldl
    | with_reducible apply State.evolves_step (State.put_evolves _ _ _)
    | with_reducible apply State.evolves_step (State.reply_evolves _ _ _ _ _ _)
    | decide
    | with_reducible intro _ _ _
    | ((try dsimp only); split)

theorem State.sendCopy_evolves (s : State) (job node off : Nat) (data : Bytes) :
    s.evolves (State.sendCopy s job node off data) [.fab] := by
  unfold State.sendCopy
  apply State.evolves_foldl_fst (State.evolves_refl _ _)
  intro a c h
  exact State.evolves_step (State.request_evolves _ _ _ _ _ _ _ _ _ _ _) h (by decide)

theorem State.remoteCopy_evolves (s : State) (src id addr dst len : Nat) :
    s.evolves (State.remoteCopy s src id addr dst len) [.mem, .regs, .upd, .dram, .fab, .vlk, .adm, .dict, .life] := by
  unfold State.remoteCopy
  repeat' first
    | assumption
    | with_reducible apply State.evolves_refl
    | with_reducible apply State.evolves_ite
    | with_reducible apply State.evolves_foldl
    | with_reducible apply State.evolves_step (State.put_evolves _ _ _)
    | with_reducible apply State.evolves_step (State.remotePoison_evolves _ _ _ _ _ _)
    | with_reducible apply State.evolves_step (State.reply_evolves _ _ _ _ _ _)
    | with_reducible apply State.evolves_step (State.sendCopy_evolves _ _ _ _ _)
    | fail_if_no_progress ((with_reducible apply State.evolves_set_fab); decide; (first | (with_reducible exact fun h => h) | exact (fun h => SMap.wf_set _ _ _ _ h) | exact (fun h => SMap.wf_setMany _ _ _ _ h) | exact (fun h => SMap.wf_eraseRange _ _ _ _ h) | exact (fun h => SMap.wfFrom_filter _ _ _ _ h) | exact (fun h => (List.length_set ..).trans h) | exact (fun h => (List.length_modify ..).trans h) | exact (fun h => (List.length_map ..).trans h) | exact (fun h => ⟨h.1, (List.length_set ..).trans h.2⟩) | exact (fun h => h) | exact (fun _ => (List.length_set ..).trans rfl) | exact (fun _ => rfl)))
    | decide
    | with_reducible intro _ _ _
    | ((try dsimp only); split)

theorem State.remoteAdd_evolves (s : State) (src id addr width : Nat) (f : Nat → Nat) :
    s.evolves (State.remoteAdd s src id addr width f) [.mem, .regs, .upd, .dram, .fab, .vlk, .adm, .dict, .life] := by
  unfold State.remoteAdd
  repeat' first
    | assumption
    | with_reducible apply State.evolves_refl
    | with_reducible apply State.evolves_ite
    | with_reducible apply State.evolves_foldl
    | with_reducible apply State.evolves_step (State.put_evolves _ _ _)
    | with_reducible apply State.evolves_step (State.remotePoison_evolves _ _ _ _ _ _)
    | with_reducible apply State.evolves_step (State.reply_evolves _ _ _ _ _ _)
    | decide
    | with_reducible intro _ _ _
    | ((try dsimp only); split)

theorem State.serveRequest_evolves (s : State) (r : MemReq) :
    s.evolves (State.serveRequest s r) [.mem, .regs, .frets, .board, .upd, .dram, .fab, .vlk, .adm, .dict, .life] := by
  unfold State.serveRequest
  repeat' first
    | assumption
    | with_reducible apply State.evolves_refl
    | with_reducible apply State.evolves_ite
    | with_reducible apply State.evolves_foldl
    | with_reducible apply State.evolves_step (State.remoteAdd_evolves _ _ _ _ _ _)
    | with_reducible apply State.evolves_step (State.remoteCopy_evolves _ _ _ _ _ _)
    | with_reducible apply State.evolves_step (State.remoteRead_evolves _ _ _ _ _)
    | with_reducible apply State.evolves_step (State.remoteWrite_evolves _ _ _ _ _)
    | with_reducible apply State.evolves_step (State.serveOwn_evolves _ _)
    | decide
    | with_reducible intro _ _ _
    | ((try dsimp only); split)

theorem State.serveQueue_evolves (k : Nat) (since : SMap Nat) (s : State) : s.evolves (State.serveQueue k since s) [.mem, .regs, .frets, .board, .upd, .dram, .fab, .vlk, .adm, .dict, .life] := by
  induction k generalizing since s with
  | zero => exact State.evolves_refl _ _
  | succ k ih =>
    unfold State.serveQueue
    dsimp only
    split
    · exact State.evolves_refl _ _
    · split
      · exact State.evolves_refl _ _
      · refine State.evolves_step (ih _ _) ?_ (by decide)
        refine State.evolves_step (State.serveRequest_evolves _ _) ?_ (by decide)
        exact State.evolves_set_dram (by decide) (State.evolves_refl _ _)

theorem State.resumeMemory_evolves (s : State) : s.evolves (State.resumeMemory s) [.mem, .regs, .frets, .board, .upd, .dram, .fab, .vlk, .adm, .dict, .life] := State.serveQueue_evolves _ _ _

theorem State.nodeRequest_evolves (s : State) (r : MemReq) :
    s.evolves (State.nodeRequest s r) [.mem, .regs, .frets, .board, .upd, .dram, .fab, .vlk, .adm, .dict, .life] := by
  unfold State.nodeRequest
  repeat' first
    | assumption
    | with_reducible apply State.evolves_refl
    | with_reducible apply State.evolves_ite
    | with_reducible apply State.evolves_foldl
    | with_reducible apply State.evolves_step (State.serveRequest_evolves _ _)
    | fail_if_no_progress ((with_reducible apply State.evolves_set_dram); decide)
    | decide
    | with_reducible intro _ _ _
    | ((try dsimp only); split)

theorem State.syncAccess_evolves (s : State) (r : MemReq) (off : Nat) :
    s.evolves (State.syncAccess s r off) [.regs, .upd, .dram, .fab, .vlk, .adm, .dict] := by
  unfold State.syncAccess
  repeat' first
    | assumption
    | with_reducible apply State.evolves_refl
    | with_reducible apply State.evolves_ite
    | with_reducible apply State.evolves_foldl
    | with_reducible apply State.evolves_step (State.answer_evolves _ _ _ _ _)
    | with_reducible apply State.evolves_step (State.flag_evolves _ _ _ _)
    | with_reducible apply State.evolves_step (State.memoryFault_evolves _ _)
    | with_reducible apply State.evolves_step (State.syncOp_evolves _ _ _ _ _)
    | decide
    | with_reducible intro _ _ _
    | ((try dsimp only); split)

theorem State.remoteSync_evolves (s : State) (r : MemReq) (node off : Nat) :
    s.evolves (State.remoteSync s r node off) [.regs, .upd, .dram, .fab, .vlk, .adm, .dict] := by
  unfold State.remoteSync
  repeat' first
    | assumption
    | with_reducible apply State.evolves_refl
    | with_reducible apply State.evolves_ite
    | with_reducible apply State.evolves_foldl
    | with_reducible apply State.evolves_step (State.answer_evolves _ _ _ _ _)
    | with_reducible apply State.evolves_step (State.memoryFault_evolves _ _)
    | with_reducible apply State.evolves_step (State.request_evolves _ _ _ _ _ _ _ _ _ _ _)
    | decide
    | with_reducible intro _ _ _
    | ((try dsimp only); split)

theorem State.remoteAccess_evolves (s : State) (r : MemReq) (node off : Nat) :
    s.evolves (State.remoteAccess s r node off) [.regs, .upd, .dram, .fab, .vlk, .adm, .dict] := by
  unfold State.remoteAccess
  repeat' first
    | assumption
    | with_reducible apply State.evolves_refl
    | with_reducible apply State.evolves_ite
    | with_reducible apply State.evolves_foldl
    | with_reducible apply State.evolves_step (State.answer_evolves _ _ _ _ _)
    | with_reducible apply State.evolves_step (State.memoryFault_evolves _ _)
    | with_reducible apply State.evolves_step (State.request_evolves _ _ _ _ _ _ _ _ _ _ _)
    | decide
    | with_reducible intro _ _ _
    | ((try dsimp only); split)

theorem State.globalRequest_evolves (s : State) (r : MemReq) :
    s.evolves (State.globalRequest s r) [.mem, .regs, .frets, .board, .upd, .dram, .fab, .vlk, .adm, .dict, .life] := by
  unfold State.globalRequest
  repeat' first
    | assumption
    | with_reducible apply State.evolves_refl
    | with_reducible apply State.evolves_ite
    | with_reducible apply State.evolves_foldl
    | with_reducible apply State.evolves_step (State.answer_evolves _ _ _ _ _)
    | with_reducible apply State.evolves_step (State.memoryFault_evolves _ _)
    | with_reducible apply State.evolves_step (State.nodeRequest_evolves _ _)
    | with_reducible apply State.evolves_step (State.remoteAccess_evolves _ _ _ _)
    | with_reducible apply State.evolves_step (State.remoteSync_evolves _ _ _ _)
    | with_reducible apply State.evolves_step (State.syncAccess_evolves _ _ _)
    | decide
    | with_reducible intro _ _ _
    | ((try dsimp only); split)

theorem execMemoryRequest_evolves (cls : Nat) (addr : MemAddr) (write : Option Bytes) (len : Nat)
    (corrected uncorrectable phase : Bool) (s : State) :
    Outcome.evolves s [.mem, .regs, .frets, .board, .upd, .dram, .fab, .vlk, .adm, .dict, .life] (execMemoryRequest cls addr write len corrected uncorrectable phase s) := by
  unfold execMemoryRequest
  refine Outcome.evolves_next ?_
  repeat' first
    | assumption
    | with_reducible apply State.evolves_refl
    | with_reducible apply State.evolves_ite
    | with_reducible apply State.evolves_foldl
    | with_reducible apply State.evolves_step (State.globalRequest_evolves _ _)
    | with_reducible apply State.evolves_step (State.nodeRequest_evolves _ _)
    | decide
    | with_reducible intro _ _ _
    | ((try dsimp only); split)

theorem execRemapCopyDone_evolves (tier : Fin 2) (chan bank row : Nat) (s : State) :
    Outcome.evolves s [.dram] (execRemapCopyDone tier chan bank row s) := by
  unfold execRemapCopyDone
  refine Outcome.evolves_next ?_
  repeat' first
    | assumption
    | with_reducible apply State.evolves_refl
    | with_reducible apply State.evolves_ite
    | with_reducible apply State.evolves_foldl
    | fail_if_no_progress ((with_reducible apply State.evolves_set_dram); decide)
    | decide
    | with_reducible intro _ _ _
    | ((try dsimp only); split)

theorem State.scrubPass_evolves (s : State) (tier : Nat) :
    s.evolves (State.scrubPass s tier) [.regs, .dram, .fab, .vlk, .adm, .dict, .life] := by
  unfold State.scrubPass
  repeat' first
    | assumption
    | with_reducible apply State.evolves_refl
    | with_reducible apply State.evolves_ite
    | with_reducible apply State.evolves_foldl
    | with_reducible apply State.evolves_step (State.uncorrectableError_evolves _ _)
    | decide
    | with_reducible intro _ _ _
    | ((try dsimp only); split)

theorem execScrubPeriod_evolves (tier : Fin 2) (lastPassDone : Bool) (s : State) :
    Outcome.evolves s [.regs, .dram, .fab, .vlk, .adm, .dict, .life] (execScrubPeriod tier lastPassDone s) := by
  unfold execScrubPeriod
  refine Outcome.evolves_next ?_
  repeat' first
    | assumption
    | with_reducible apply State.evolves_refl
    | with_reducible apply State.evolves_ite
    | with_reducible apply State.evolves_foldl
    | with_reducible apply State.evolves_step (State.flag_evolves _ _ _ _)
    | with_reducible apply State.evolves_step (State.scrubPass_evolves _ _)
    | fail_if_no_progress ((with_reducible apply State.evolves_set_dram); decide)
    | decide
    | with_reducible intro _ _ _
    | ((try dsimp only); split)

theorem State.tierLost_evolves (s : State) (tier : Nat) :
    s.evolves (State.tierLost s tier) [.mem, .dram] := by
  unfold State.tierLost
  repeat' first
    | assumption
    | with_reducible apply State.evolves_refl
    | with_reducible apply State.evolves_ite
    | with_reducible apply State.evolves_foldl
    | with_reducible apply State.evolves_step (State.zeroMem_evolves _ _ _)
    | fail_if_no_progress ((with_reducible apply State.evolves_set_dram); decide)
    | decide
    | with_reducible intro _ _ _
    | ((try dsimp only); split)

theorem State.markPackage_evolves (s : State) (die unit : Nat) :
    s.evolves (State.markPackage s die unit) [.regs, .dram] := by
  unfold State.markPackage
  repeat' first
    | assumption
    | with_reducible apply State.evolves_refl
    | with_reducible apply State.evolves_ite
    | with_reducible apply State.evolves_foldl
    | with_reducible apply State.evolves_step (State.flag_evolves _ _ _ _)
    | fail_if_no_progress ((with_reducible apply State.evolves_set_dram); decide)
    | decide
    | with_reducible intro _ _ _
    | ((try dsimp only); split)

theorem State.chanOut_evolves (s : State) (tier chan : Nat) :
    s.evolves (State.chanOut s tier chan) [.mem, .regs, .dram, .dict, .life] := by
  unfold State.chanOut
  repeat' first
    | assumption
    | with_reducible apply State.evolves_refl
    | with_reducible apply State.evolves_ite
    | with_reducible apply State.evolves_foldl
    | with_reducible apply State.evolves_step (State.flag_evolves _ _ _ _)
    | with_reducible apply State.evolves_step (State.leaveService_evolves _ _ _ _)
    | with_reducible apply State.evolves_step (State.markPackage_evolves _ _ _)
    | with_reducible apply State.evolves_step (State.tierLost_evolves _ _)
    | fail_if_no_progress ((with_reducible apply State.evolves_set_dram); decide)
    | decide
    | with_reducible intro _ _ _
    | ((try dsimp only); split)

theorem State.chanFails_evolves (s : State) (tier chan : Nat) :
    s.evolves (State.chanFails s tier chan) [.mem, .regs, .upd, .dram, .fab, .vlk, .adm, .dict, .life] := by
  unfold State.chanFails
  repeat' first
    | assumption
    | with_reducible apply State.evolves_refl
    | with_reducible apply State.evolves_ite
    | with_reducible apply State.evolves_foldl
    | with_reducible apply State.evolves_step (State.breakFrames_evolves _ _ _ _)
    | with_reducible apply State.evolves_step (State.chanOut_evolves _ _ _)
    | with_reducible apply State.evolves_step (State.setFault_evolves _ _)
    | decide
    | with_reducible intro _ _ _
    | ((try dsimp only); split)

theorem State.switchLane_evolves (s : State) (l : Nat × Nat × Nat × Nat) :
    s.evolves (State.switchLane s l) [.mem, .regs, .upd, .dram, .fab, .vlk, .adm, .dict, .life] := by
  unfold State.switchLane
  repeat' first
    | assumption
    | with_reducible apply State.evolves_refl
    | with_reducible apply State.evolves_ite
    | with_reducible apply State.evolves_foldl
    | with_reducible apply State.evolves_step (State.chanFails_evolves _ _ _)
    | with_reducible apply State.evolves_step (State.laneSpare_evolves _ _)
    | decide
    | with_reducible intro _ _ _
    | ((try dsimp only); split)

theorem execMaintenanceWindowStart_evolves (lanes : List (Nat × Nat × Nat × Nat)) (s : State) :
    Outcome.evolves s [.mem, .regs, .upd, .dram, .fab, .vlk, .adm, .dict, .life] (execMaintenanceWindowStart lanes s) := by
  unfold execMaintenanceWindowStart
  refine Outcome.evolves_next ?_
  repeat' first
    | assumption
    | with_reducible apply State.evolves_refl
    | with_reducible apply State.evolves_ite
    | with_reducible apply State.evolves_foldl
    | with_reducible apply State.evolves_step (State.showTraining_evolves _)
    | with_reducible apply State.evolves_step (State.switchLane_evolves _ _)
    | fail_if_no_progress ((with_reducible apply State.evolves_set_dram); decide)
    | decide
    | with_reducible intro _ _ _
    | ((try dsimp only); split)

theorem execMaintenanceWindowEnd_evolves (s : State) :
    Outcome.evolves s [.mem, .regs, .frets, .board, .upd, .dram, .fab, .vlk, .adm, .dict, .life] (execMaintenanceWindowEnd s) := by
  unfold execMaintenanceWindowEnd
  refine Outcome.evolves_next ?_
  repeat' first
    | assumption
    | with_reducible apply State.evolves_refl
    | with_reducible apply State.evolves_ite
    | with_reducible apply State.evolves_foldl
    | with_reducible apply State.evolves_step (State.bump_evolves _ _ _ _)
    | with_reducible apply State.evolves_step (State.resumeMemory_evolves _)
    | with_reducible apply State.evolves_step (State.showTraining_evolves _)
    | fail_if_no_progress ((with_reducible apply State.evolves_set_dram); decide)
    | decide
    | with_reducible intro _ _ _
    | ((try dsimp only); split)

theorem execDriftCheck_evolves (tier : Fin 2) (chan : Nat) (beyond : Bool) (s : State) :
    Outcome.evolves s [.regs, .dram, .fab, .vlk, .adm, .dict] (execDriftCheck tier chan beyond s) := by
  unfold execDriftCheck
  refine Outcome.evolves_next ?_
  repeat' first
    | assumption
    | with_reducible apply State.evolves_refl
    | with_reducible apply State.evolves_ite
    | with_reducible apply State.evolves_foldl
    | with_reducible apply State.evolves_step (State.retrainTrigger_evolves _ _ _ _)
    | decide
    | with_reducible intro _ _ _
    | ((try dsimp only); split)

theorem execChannelRetrainTrigger_evolves (tier : Fin 2) (chan errors : Nat) (s : State) :
    Outcome.evolves s [.regs, .dram, .fab, .vlk, .adm, .dict] (execChannelRetrainTrigger tier chan errors s) := by
  unfold execChannelRetrainTrigger
  refine Outcome.evolves_next ?_
  repeat' first
    | assumption
    | with_reducible apply State.evolves_refl
    | with_reducible apply State.evolves_ite
    | with_reducible apply State.evolves_foldl
    | with_reducible apply State.evolves_step (State.retrainTrigger_evolves _ _ _ _)
    | decide
    | with_reducible intro _ _ _
    | ((try dsimp only); split)

theorem State.endTraining_evolves (s : State) (tier chan : Nat) :
    s.evolves (State.endTraining s tier chan) [.mem, .regs, .frets, .board, .upd, .dram, .fab, .vlk, .adm, .dict, .life] := by
  unfold State.endTraining
  repeat' first
    | assumption
    | with_reducible apply State.evolves_refl
    | with_reducible apply State.evolves_ite
    | with_reducible apply State.evolves_foldl
    | with_reducible apply State.evolves_step (State.resumeMemory_evolves _)
    | with_reducible apply State.evolves_step (State.showSuspended_evolves _)
    | with_reducible apply State.evolves_step (State.showTraining_evolves _)
    | fail_if_no_progress ((with_reducible apply State.evolves_set_dram); decide)
    | fail_if_no_progress ((with_reducible apply State.evolves_set_adm); decide; (first | (with_reducible exact fun h => h) | exact (fun h => SMap.wf_set _ _ _ _ h) | exact (fun h => SMap.wf_setMany _ _ _ _ h) | exact (fun h => SMap.wf_eraseRange _ _ _ _ h) | exact (fun h => SMap.wfFrom_filter _ _ _ _ h) | exact (fun h => (List.length_set ..).trans h) | exact (fun h => (List.length_modify ..).trans h) | exact (fun h => (List.length_map ..).trans h) | exact (fun h => ⟨h.1, (List.length_set ..).trans h.2⟩) | exact (fun h => h) | exact (fun _ => (List.length_set ..).trans rfl) | exact (fun _ => rfl)))
    | decide
    | with_reducible intro _ _ _
    | ((try dsimp only); split)

theorem execChannelRetrain_evolves (tier : Fin 2) (chan duration : Nat) (lanes : List Nat) (s : State) :
    Outcome.evolves s [.mem, .regs, .frets, .board, .upd, .dram, .fab, .vlk, .adm, .dict, .life] (execChannelRetrain tier chan duration lanes s) := by
  unfold execChannelRetrain
  refine Outcome.evolves_next ?_
  repeat' first
    | assumption
    | with_reducible apply State.evolves_refl
    | with_reducible apply State.evolves_ite
    | with_reducible apply State.evolves_foldl
    | with_reducible apply State.evolves_step (State.bump_evolves _ _ _ _)
    | with_reducible apply State.evolves_step (State.endTraining_evolves _ _ _)
    | with_reducible apply State.evolves_step (State.event_evolves _ _ _)
    | with_reducible apply State.evolves_step (State.switchLane_evolves _ _)
    | decide
    | with_reducible intro _ _ _
    | ((try dsimp only); split)

theorem execRetrainFail_evolves (tier : Fin 2) (chan : Nat) (s : State) :
    Outcome.evolves s [.mem, .regs, .frets, .board, .upd, .dram, .fab, .vlk, .adm, .dict, .life] (execRetrainFail tier chan s) := by
  unfold execRetrainFail
  refine Outcome.evolves_next ?_
  repeat' first
    | assumption
    | with_reducible apply State.evolves_refl
    | with_reducible apply State.evolves_ite
    | with_reducible apply State.evolves_foldl
    | with_reducible apply State.evolves_step (State.chanFails_evolves _ _ _)
    | with_reducible apply State.evolves_step (State.endTraining_evolves _ _ _)
    | decide
    | with_reducible intro _ _ _
    | ((try dsimp only); split)

end Sys2Proof.Machine
end

