-- ==== Sys2Proof/Laws/FramePorts.lean ====
section
/-! SUPPORT. What each operation of Machine/Ports.lean may change. -/

namespace Sys2Proof.Machine

theorem State.setLines_evolves (s : State) (ring : Nat) (high : Bool) :
    s.evolves (State.setLines s ring high) [.regs, .fab, .dict] := by
  unfold State.setLines
  repeat' first
    | assumption
    | with_reducible apply State.evolves_refl
    | with_reducible apply State.evolves_ite
    | with_reducible apply State.evolves_foldl
    | with_reducible apply State.evolves_step (State.event_evolves _ _ _)
    | with_reducible apply State.evolves_step (State.flag_evolves _ _ _ _)
    | with_reducible apply State.evolves_step (State.updPort_evolves _ _ _)
    | decide
    | with_reducible intro _ _ _
    | ((try dsimp only); split)

theorem State.endPortRetrain_evolves (s : State) :
    s.evolves (State.endPortRetrain s) [.regs, .adm] := by
  unfold State.endPortRetrain
  repeat' first
    | assumption
    | with_reducible apply State.evolves_refl
    | with_reducible apply State.evolves_ite
    | with_reducible apply State.evolves_foldl
    | with_reducible apply State.evolves_step (State.showSuspended_evolves _)
    | fail_if_no_progress ((with_reducible apply State.evolves_set_adm); decide; (first | (with_reducible exact fun h => h) | exact (fun h => SMap.wf_set _ _ _ _ h) | exact (fun h => SMap.wf_setMany _ _ _ _ h) | exact (fun h => SMap.wf_eraseRange _ _ _ _ h) | exact (fun h => SMap.wfFrom_filter _ _ _ _ h) | exact (fun h => (List.length_set ..).trans h) | exact (fun h => (List.length_modify ..).trans h) | exact (fun h => (List.length_map ..).trans h) | exact (fun h => ⟨h.1, (List.length_set ..).trans h.2⟩) | exact (fun h => h) | exact (fun _ => (List.length_set ..).trans rfl) | exact (fun _ => rfl)))
    | decide
    | with_reducible intro _ _ _
    | ((try dsimp only); split)

theorem State.closePorts_evolves (s : State) (ring : Nat) :
    s.evolves (State.closePorts s ring) [.regs, .fab, .adm] := by
  unfold State.closePorts
  repeat' first
    | assumption
    | with_reducible apply State.evolves_refl
    | with_reducible apply State.evolves_ite
    | with_reducible apply State.evolves_foldl
    | with_reducible apply State.evolves_step (State.endPortRetrain_evolves _)
    | with_reducible apply State.evolves_step (State.updPort_evolves _ _ _)
    | decide
    | with_reducible intro _ _ _
    | ((try dsimp only); split)

theorem State.closeUnused_evolves (s : State) :
    s.evolves (State.closeUnused s) [.regs, .fab, .adm, .dict] := by
  unfold State.closeUnused
  repeat' first
    | assumption
    | with_reducible apply State.evolves_refl
    | with_reducible apply State.evolves_ite
    | with_reducible apply State.evolves_foldl
    | with_reducible apply State.evolves_step (State.closePorts_evolves _ _)
    | with_reducible apply State.evolves_step (State.setLines_evolves _ _ _)
    | decide
    | with_reducible intro _ _ _
    | ((try dsimp only); split)

theorem State.linkDown_evolves (s : State) (port cause : Nat) :
    s.evolves (State.linkDown s port cause) [.regs, .dict] := by
  unfold State.linkDown
  repeat' first
    | assumption
    | with_reducible apply State.evolves_refl
    | with_reducible apply State.evolves_ite
    | with_reducible apply State.evolves_foldl
    | with_reducible apply State.evolves_step (State.event_evolves _ _ _)
    | with_reducible apply State.evolves_step (State.flag_evolves _ _ _ _)
    | decide
    | with_reducible intro _ _ _
    | ((try dsimp only); split)

theorem State.trainLanes_evolves (s : State) (port : Nat) (t : LaneTest) :
    s.evolves (State.trainLanes s port t) [.regs, .life] := by
  unfold State.trainLanes
  repeat' first
    | assumption
    | with_reducible apply State.evolves_refl
    | with_reducible apply State.evolves_ite
    | with_reducible apply State.evolves_foldl
    | with_reducible apply State.evolves_step (State.flag_evolves _ _ _ _)
    | with_reducible apply State.evolves_step (State.logSubst_evolves _ _ _ _ _)
    | with_reducible apply State.evolves_step (State.updSpare_evolves _ _)
    | decide
    | with_reducible intro _ _ _
    | ((try dsimp only); split)

theorem execJoinTimeLimit_evolves (ring : Fin 3) (s : State) :
    Outcome.evolves s [.regs, .fab, .adm, .dict] (execJoinTimeLimit ring s) := by
  unfold execJoinTimeLimit
  refine Outcome.evolves_next ?_
  repeat' first
    | assumption
    | with_reducible apply State.evolves_refl
    | with_reducible apply State.evolves_ite
    | with_reducible apply State.evolves_foldl
    | with_reducible apply State.evolves_step (State.closePorts_evolves _ _)
    | with_reducible apply State.evolves_step (State.linkDown_evolves _ _ _)
    | with_reducible apply State.evolves_step (State.setLines_evolves _ _ _)
    | decide
    | with_reducible intro _ _ _
    | ((try dsimp only); split)

theorem execRingRetry_evolves (ring : Fin 3) (s : State) :
    Outcome.evolves s [.fab] (execRingRetry ring s) := by
  unfold execRingRetry
  refine Outcome.evolves_next ?_
  repeat' first
    | assumption
    | with_reducible apply State.evolves_refl
    | with_reducible apply State.evolves_ite
    | with_reducible apply State.evolves_foldl
    | with_reducible apply State.evolves_step (State.updPort_evolves _ _ _)
    | decide
    | with_reducible intro _ _ _
    | ((try dsimp only); split)

theorem execLinkLoss_evolves (port : Fin 6) (s : State) :
    Outcome.evolves s [.regs, .fab, .adm, .dict] (execLinkLoss port s) := by
  unfold execLinkLoss
  refine Outcome.evolves_next ?_
  repeat' first
    | assumption
    | with_reducible apply State.evolves_refl
    | with_reducible apply State.evolves_ite
    | with_reducible apply State.evolves_foldl
    | with_reducible apply State.evolves_step (State.endPortRetrain_evolves _)
    | with_reducible apply State.evolves_step (State.linkDown_evolves _ _ _)
    | with_reducible apply State.evolves_step (State.updPort_evolves _ _ _)
    | fail_if_no_progress ((with_reducible apply State.evolves_set_fab); decide; (first | (with_reducible exact fun h => h) | exact (fun h => SMap.wf_set _ _ _ _ h) | exact (fun h => SMap.wf_setMany _ _ _ _ h) | exact (fun h => SMap.wf_eraseRange _ _ _ _ h) | exact (fun h => SMap.wfFrom_filter _ _ _ _ h) | exact (fun h => (List.length_set ..).trans h) | exact (fun h => (List.length_modify ..).trans h) | exact (fun h => (List.length_map ..).trans h) | exact (fun h => ⟨h.1, (List.length_set ..).trans h.2⟩) | exact (fun h => h) | exact (fun _ => (List.length_set ..).trans rfl) | exact (fun _ => rfl)))
    | decide
    | with_reducible intro _ _ _
    | ((try dsimp only); split)

theorem State.putWire_evolves (s : State) (port : Nat) (bs : Bytes) :
    s.evolves (State.putWire s port bs) [.regs, .fab] := by
  unfold State.putWire
  repeat' first
    | assumption
    | with_reducible apply State.evolves_refl
    | with_reducible apply State.evolves_ite
    | with_reducible apply State.evolves_foldl
    | with_reducible apply State.evolves_step (State.bump_evolves _ _ _ _)
    | with_reducible apply State.evolves_step (State.updPort_evolves _ _ _)
    | decide
    | with_reducible intro _ _ _
    | ((try dsimp only); split)

theorem execPacketTransmit_evolves (port : Fin 6) (s : State) :
    Outcome.evolves s [.regs, .fab] (execPacketTransmit port s) := by
  unfold execPacketTransmit
  refine Outcome.evolves_next ?_
  repeat' first
    | assumption
    | with_reducible apply State.evolves_refl
    | with_reducible apply State.evolves_ite
    | with_reducible apply State.evolves_foldl
    | with_reducible apply State.evolves_step (State.putWire_evolves _ _ _)
    | with_reducible apply State.evolves_step (State.updPort_evolves _ _ _)
    | decide
    | with_reducible intro _ _ _
    | ((try dsimp only); split)

theorem execPacketReceive_evolves (port : Fin 6) (packet : Bytes) (corrected uncorrectable : Bool) (s : State) :
    Outcome.evolves s [.fab] (execPacketReceive port packet corrected uncorrectable s) := by
  unfold execPacketReceive
  refine Outcome.evolves_next ?_
  repeat' first
    | assumption
    | with_reducible apply State.evolves_refl
    | with_reducible apply State.evolves_ite
    | with_reducible apply State.evolves_foldl
    | with_reducible apply State.evolves_step (State.enqueue_evolves _ _ _)
    | with_reducible apply State.evolves_step (State.reply_evolves _ _ _ _ _ _)
    | with_reducible apply State.evolves_step (State.updPort_evolves _ _ _)
    | decide
    | with_reducible intro _ _ _
    | ((try dsimp only); split)

theorem State.startPortRetrain_evolves (s : State) (k : Nat) :
    s.evolves (State.startPortRetrain s k) [.regs, .fab, .vlk, .adm, .dict] := by
  unfold State.startPortRetrain
  repeat' first
    | assumption
    | with_reducible apply State.evolves_refl
    | with_reducible apply State.evolves_ite
    | with_reducible apply State.evolves_foldl
    | with_reducible apply State.evolves_step (State.post_evolves _ _ _ _ _ _)
    | with_reducible apply State.evolves_step (State.showSuspended_evolves _)
    | with_reducible apply State.evolves_step (State.updPort_evolves _ _ _)
    | fail_if_no_progress ((with_reducible apply State.evolves_set_fab_adm); decide; (first | (with_reducible exact fun h => h) | exact (fun h => SMap.wf_set _ _ _ _ h) | exact (fun h => SMap.wf_setMany _ _ _ _ h) | exact (fun h => SMap.wf_eraseRange _ _ _ _ h) | exact (fun h => SMap.wfFrom_filter _ _ _ _ h) | exact (fun h => (List.length_set ..).trans h) | exact (fun h => (List.length_modify ..).trans h) | exact (fun h => (List.length_map ..).trans h) | exact (fun h => ⟨h.1, (List.length_set ..).trans h.2⟩) | exact (fun h => h) | exact (fun _ => (List.length_set ..).trans rfl) | exact (fun _ => rfl)); (first | (with_reducible exact fun h => h) | exact (fun h => SMap.wf_set _ _ _ _ h) | exact (fun h => SMap.wf_setMany _ _ _ _ h) | exact (fun h => SMap.wf_eraseRange _ _ _ _ h) | exact (fun h => SMap.wfFrom_filter _ _ _ _ h) | exact (fun h => (List.length_set ..).trans h) | exact (fun h => (List.length_modify ..).trans h) | exact (fun h => (List.length_map ..).trans h) | exact (fun h => ⟨h.1, (List.length_set ..).trans h.2⟩) | exact (fun h => h) | exact (fun _ => (List.length_set ..).trans rfl) | exact (fun _ => rfl)))
    | decide
    | with_reducible intro _ _ _
    | ((try dsimp only); split)

theorem State.resend_evolves (s : State) (k : Nat) (counts : Bool) (r : SentPacket) :
    s.evolves (State.resend s k counts r) [.regs, .fab] := by
  unfold State.resend
  repeat' first
    | assumption
    | with_reducible apply State.evolves_refl
    | with_reducible apply State.evolves_ite
    | with_reducible apply State.evolves_foldl
    | with_reducible apply State.evolves_step (State.putWire_evolves _ _ _)
    | with_reducible apply State.evolves_step (State.updPort_evolves _ _ _)
    | decide
    | with_reducible intro _ _ _
    | ((try dsimp only); split)

theorem execReplayRequest_evolves (port : Fin 6) (seq : Nat) (s : State) :
    Outcome.evolves s [.regs, .fab, .vlk, .adm, .dict] (execReplayRequest port seq s) := by
  unfold execReplayRequest
  refine Outcome.evolves_next ?_
  repeat' first
    | assumption
    | with_reducible apply State.evolves_refl
    | with_reducible apply State.evolves_ite
    | with_reducible apply State.evolves_foldl
    | with_reducible apply State.evolves_step (State.flag_evolves _ _ _ _)
    | with_reducible apply State.evolves_step (State.resend_evolves _ _ _ _)
    | with_reducible apply State.evolves_step (State.startPortRetrain_evolves _ _)
    | with_reducible apply State.evolves_step (State.updPort_evolves _ _ _)
    | fail_if_no_progress ((with_reducible apply State.evolves_set_fab); decide; (first | (with_reducible exact fun h => h) | exact (fun h => SMap.wf_set _ _ _ _ h) | exact (fun h => SMap.wf_setMany _ _ _ _ h) | exact (fun h => SMap.wf_eraseRange _ _ _ _ h) | exact (fun h => SMap.wfFrom_filter _ _ _ _ h) | exact (fun h => (List.length_set ..).trans h) | exact (fun h => (List.length_modify ..).trans h) | exact (fun h => (List.length_map ..).trans h) | exact (fun h => ⟨h.1, (List.length_set ..).trans h.2⟩) | exact (fun h => h) | exact (fun _ => (List.length_set ..).trans rfl) | exact (fun _ => rfl)))
    | decide
    | with_reducible intro _ _ _
    | ((try dsimp only); split)

theorem execPortRetrain_evolves (port : PortTrouble) (s : State) :
    Outcome.evolves s [.regs, .fab, .vlk, .adm, .dict] (execPortRetrain port s) := by
  unfold execPortRetrain
  refine Outcome.evolves_next ?_
  repeat' first
    | assumption
    | with_reducible apply State.evolves_refl
    | with_reducible apply State.evolves_ite
    | with_reducible apply State.evolves_foldl
    | with_reducible apply State.evolves_step (State.startPortRetrain_evolves _ _)
    | decide
    | with_reducible intro _ _ _
    | ((try dsimp only); split)

theorem State.sendPort_evolves (s : State) (k cls op : Nat) (data : Bytes) :
    s.evolves (State.sendPort s k cls op data) [.fab] := by
  unfold State.sendPort
  repeat' first
    | assumption
    | with_reducible apply State.evolves_refl
    | with_reducible apply State.evolves_ite
    | with_reducible apply State.evolves_foldl
    | with_reducible apply State.evolves_step (State.updPort_evolves _ _ _)
    | fail_if_no_progress ((with_reducible apply State.evolves_set_fab); decide; (first | (with_reducible exact fun h => h) | exact (fun h => SMap.wf_set _ _ _ _ h) | exact (fun h => SMap.wf_setMany _ _ _ _ h) | exact (fun h => SMap.wf_eraseRange _ _ _ _ h) | exact (fun h => SMap.wfFrom_filter _ _ _ _ h) | exact (fun h => (List.length_set ..).trans h) | exact (fun h => (List.length_modify ..).trans h) | exact (fun h => (List.length_map ..).trans h) | exact (fun h => ⟨h.1, (List.length_set ..).trans h.2⟩) | exact (fun h => h) | exact (fun _ => (List.length_set ..).trans rfl) | exact (fun _ => rfl)))
    | decide
    | with_reducible intro _ _ _
    | ((try dsimp only); split)

theorem State.holdZoneFault_evolves (s : State) (node port : Nat) :
    s.evolves (State.holdZoneFault s node port) [.mem, .regs, .frets, .slanes, .board, .num, .emb, .upd, .dram, .fab, .vlk, .adm, .dict, .life] := by
  unfold State.holdZoneFault
  repeat' first
    | assumption
    | with_reducible apply State.evolves_refl
    | with_reducible apply State.evolves_ite
    | with_reducible apply State.evolves_foldl
    | with_reducible apply State.evolves_step (State.breakFrames_evolves _ _ _ _)
    | with_reducible apply State.evolves_step (State.flag_evolves _ _ _ _)
    | with_reducible apply State.evolves_step (State.recordOutcome_evolves _ _)
    | with_reducible apply State.evolves_step (State.request_evolves _ _ _ _ _ _ _ _ _ _ _)
    | with_reducible apply State.evolves_step (State.sendPort_evolves _ _ _ _ _)
    | with_reducible apply State.evolves_step (State.setFault_evolves _ _)
    | with_reducible apply State.evolves_step (State.takeOutcome_evolves _ _)
    | fail_if_no_progress ((with_reducible apply State.evolves_set_fab); decide; (first | (with_reducible exact fun h => h) | exact (fun h => SMap.wf_set _ _ _ _ h) | exact (fun h => SMap.wf_setMany _ _ _ _ h) | exact (fun h => SMap.wf_eraseRange _ _ _ _ h) | exact (fun h => SMap.wfFrom_filter _ _ _ _ h) | exact (fun h => (List.length_set ..).trans h) | exact (fun h => (List.length_modify ..).trans h) | exact (fun h => (List.length_map ..).trans h) | exact (fun h => ⟨h.1, (List.length_set ..).trans h.2⟩) | exact (fun h => h) | exact (fun _ => (List.length_set ..).trans rfl) | exact (fun _ => rfl)))
    | decide
    | with_reducible intro _ _ _
    | ((try dsimp only); split)

theorem State.portFails_evolves (s : State) (k : Nat) :
    s.evolves (State.portFails s k) [.mem, .regs, .frets, .slanes, .board, .num, .emb, .upd, .dram, .fab, .vlk, .adm, .dict, .life] := by
  unfold State.portFails
  repeat' first
    | assumption
    | with_reducible apply State.evolves_refl
    | with_reducible apply State.evolves_ite
    | with_reducible apply State.evolves_foldl
    | with_reducible apply State.evolves_step (State.endPortRetrain_evolves _)
    | with_reducible apply State.evolves_step (State.holdZoneFault_evolves _ _ _)
    | with_reducible apply State.evolves_step (State.leaveService_evolves _ _ _ _)
    | with_reducible apply State.evolves_step (State.linkDown_evolves _ _ _)
    | with_reducible apply State.evolves_step (State.setLines_evolves _ _ _)
    | with_reducible apply State.evolves_step (State.updPort_evolves _ _ _)
    | decide
    | with_reducible intro _ _ _
    | ((try dsimp only); split)

theorem execPortFailed_evolves (port : Fin 6) (s : State) :
    Outcome.evolves s [.mem, .regs, .frets, .slanes, .board, .num, .emb, .upd, .dram, .fab, .vlk, .adm, .dict, .life] (execPortFailed port s) := by
  unfold execPortFailed
  refine Outcome.evolves_next ?_
  repeat' first
    | assumption
    | with_reducible apply State.evolves_refl
    | with_reducible apply State.evolves_ite
    | with_reducible apply State.evolves_foldl
    | with_reducible apply State.evolves_step (State.portFails_evolves _ _)
    | decide
    | with_reducible intro _ _ _
    | ((try dsimp only); split)

theorem execPortRetrainDone_evolves (port : Fin 6) (lanes : LaneTest) (s : State) :
    Outcome.evolves s [.mem, .regs, .frets, .slanes, .board, .num, .emb, .upd, .dram, .fab, .vlk, .adm, .dict, .life] (execPortRetrainDone port lanes s) := by
  unfold execPortRetrainDone
  refine Outcome.evolves_next ?_
  repeat' first
    | assumption
    | with_reducible apply State.evolves_refl
    | with_reducible apply State.evolves_ite
    | with_reducible apply State.evolves_foldl
    | with_reducible apply State.evolves_step (State.endPortRetrain_evolves _)
    | with_reducible apply State.evolves_step (State.flag_evolves _ _ _ _)
    | with_reducible apply State.evolves_step (State.portFails_evolves _ _)
    | with_reducible apply State.evolves_step (State.trainLanes_evolves _ _ _)
    | with_reducible apply State.evolves_step (State.updPort_evolves _ _ _)
    | decide
    | with_reducible intro _ _ _
    | ((try dsimp only); split)

theorem execLoopbackPass_evolves (ring : LoopTest) (s : State) :
    Outcome.evolves s [.mem, .regs, .frets, .slanes, .board, .num, .emb, .upd, .dram, .fab, .vlk, .adm, .dict, .life] (execLoopbackPass ring s) := by
  unfold execLoopbackPass
  refine Outcome.evolves_next ?_
  repeat' first
    | assumption
    | with_reducible apply State.evolves_refl
    | with_reducible apply State.evolves_ite
    | with_reducible apply State.evolves_foldl
    | with_reducible apply State.evolves_step (State.portFails_evolves _ _)
    | with_reducible apply State.evolves_step (State.setLines_evolves _ _ _)
    | with_reducible apply State.evolves_step (State.trainLanes_evolves _ _ _)
    | with_reducible apply State.evolves_step (State.updPort_evolves _ _ _)
    | fail_if_no_progress ((with_reducible apply State.evolves_set_fab); decide; (first | (with_reducible exact fun h => h) | exact (fun h => SMap.wf_set _ _ _ _ h) | exact (fun h => SMap.wf_setMany _ _ _ _ h) | exact (fun h => SMap.wf_eraseRange _ _ _ _ h) | exact (fun h => SMap.wfFrom_filter _ _ _ _ h) | exact (fun h => (List.length_set ..).trans h) | exact (fun h => (List.length_modify ..).trans h) | exact (fun h => (List.length_map ..).trans h) | exact (fun h => ⟨h.1, (List.length_set ..).trans h.2⟩) | exact (fun h => h) | exact (fun _ => (List.length_set ..).trans rfl) | exact (fun _ => rfl)))
    | decide
    | with_reducible intro _ _ _
    | ((try dsimp only); split)

theorem execPortJoin_evolves (port : Fin 6) (coord zone : Nat) (lanes : LaneTest) (s : State) :
    Outcome.evolves s [.mem, .regs, .frets, .slanes, .board, .num, .emb, .upd, .dram, .fab, .vlk, .adm, .dict, .life] (execPortJoin port coord zone lanes s) := by
  unfold execPortJoin
  refine Outcome.evolves_next ?_
  repeat' first
    | assumption
    | with_reducible apply State.evolves_refl
    | with_reducible apply State.evolves_ite
    | with_reducible apply State.evolves_foldl
    | with_reducible apply State.evolves_step (State.linkDown_evolves _ _ _)
    | with_reducible apply State.evolves_step (State.portFails_evolves _ _)
    | with_reducible apply State.evolves_step (State.trainLanes_evolves _ _ _)
    | with_reducible apply State.evolves_step (State.updPort_evolves _ _ _)
    | decide
    | with_reducible intro _ _ _
    | ((try dsimp only); split)

theorem execZoneFaultMessage_evolves (node port : Nat) (s : State) :
    Outcome.evolves s [.mem, .regs, .frets, .slanes, .board, .num, .emb, .upd, .dram, .fab, .vlk, .adm, .dict, .life] (execZoneFaultMessage node port s) := by
  unfold execZoneFaultMessage
  refine Outcome.evolves_next ?_
  repeat' first
    | assumption
    | with_reducible apply State.evolves_refl
    | with_reducible apply State.evolves_ite
    | with_reducible apply State.evolves_foldl
    | with_reducible apply State.evolves_step (State.holdZoneFault_evolves _ _ _)
    | fail_if_no_progress ((with_reducible apply State.evolves_set_fab); decide; (first | (with_reducible exact fun h => h) | exact (fun h => SMap.wf_set _ _ _ _ h) | exact (fun h => SMap.wf_setMany _ _ _ _ h) | exact (fun h => SMap.wf_eraseRange _ _ _ _ h) | exact (fun h => SMap.wfFrom_filter _ _ _ _ h) | exact (fun h => (List.length_set ..).trans h) | exact (fun h => (List.length_modify ..).trans h) | exact (fun h => (List.length_map ..).trans h) | exact (fun h => ⟨h.1, (List.length_set ..).trans h.2⟩) | exact (fun h => h) | exact (fun _ => (List.length_set ..).trans rfl) | exact (fun _ => rfl)))
    | decide
    | with_reducible intro _ _ _
    | ((try dsimp only); split)

theorem State.setTimeStatus_evolves (s : State) (locked : Bool) (parent : Nat) :
    s.evolves (State.setTimeStatus s locked parent) [.regs] := by
  unfold State.setTimeStatus
  repeat' first
    | assumption
    | with_reducible apply State.evolves_refl
    | with_reducible apply State.evolves_ite
    | with_reducible apply State.evolves_foldl
    | with_reducible apply State.evolves_step (State.setField_evolves _ _ _ _ _ _)
    | decide
    | with_reducible intro _ _ _
    | ((try dsimp only); split)

theorem State.showMaster_evolves (s : State) :
    s.evolves (State.showMaster s) [.regs] := by
  unfold State.showMaster
  repeat' first
    | assumption
    | with_reducible apply State.evolves_refl
    | with_reducible apply State.evolves_ite
    | with_reducible apply State.evolves_foldl
    | with_reducible apply State.evolves_step (State.setTimeStatus_evolves _ _ _)
    | decide
    | with_reducible intro _ _ _
    | ((try dsimp only); split)

theorem execTimeExchange_evolves (port : Fin 6) (delay : Nat) (partnerLocked : Bool) (offset : Int) (s : State) :
    Outcome.evolves s [.regs, .fab] (execTimeExchange port delay partnerLocked offset s) := by
  unfold execTimeExchange
  refine Outcome.evolves_next ?_
  repeat' first
    | assumption
    | with_reducible apply State.evolves_refl
    | with_reducible apply State.evolves_ite
    | with_reducible apply State.evolves_foldl
    | with_reducible apply State.evolves_step (State.setField_evolves _ _ _ _ _ _)
    | with_reducible apply State.evolves_step (State.updPort_evolves _ _ _)
    | fail_if_no_progress ((with_reducible apply State.evolves_set_fab); decide; (first | (with_reducible exact fun h => h) | exact (fun h => SMap.wf_set _ _ _ _ h) | exact (fun h => SMap.wf_setMany _ _ _ _ h) | exact (fun h => SMap.wf_eraseRange _ _ _ _ h) | exact (fun h => SMap.wfFrom_filter _ _ _ _ h) | exact (fun h => (List.length_set ..).trans h) | exact (fun h => (List.length_modify ..).trans h) | exact (fun h => (List.length_map ..).trans h) | exact (fun h => ⟨h.1, (List.length_set ..).trans h.2⟩) | exact (fun h => h) | exact (fun _ => (List.length_set ..).trans rfl) | exact (fun _ => rfl)))
    | decide
    | with_reducible intro _ _ _
    | ((try dsimp only); split)

theorem execTimeLock_evolves (port : Fin 6) (value : Nat) (s : State) :
    Outcome.evolves s [.time, .regs, .fab] (execTimeLock port value s) := by
  unfold execTimeLock
  refine Outcome.evolves_next ?_
  repeat' first
    | assumption
    | with_reducible apply State.evolves_refl
    | with_reducible apply State.evolves_ite
    | with_reducible apply State.evolves_foldl
    | with_reducible apply State.evolves_step (State.setTimeStatus_evolves _ _ _)
    | fail_if_no_progress ((with_reducible apply State.evolves_set_time); decide)
    | fail_if_no_progress ((with_reducible apply State.evolves_set_fab); decide; (first | (with_reducible exact fun h => h) | exact (fun h => SMap.wf_set _ _ _ _ h) | exact (fun h => SMap.wf_setMany _ _ _ _ h) | exact (fun h => SMap.wf_eraseRange _ _ _ _ h) | exact (fun h => SMap.wfFrom_filter _ _ _ _ h) | exact (fun h => (List.length_set ..).trans h) | exact (fun h => (List.length_modify ..).trans h) | exact (fun h => (List.length_map ..).trans h) | exact (fun h => ⟨h.1, (List.length_set ..).trans h.2⟩) | exact (fun h => h) | exact (fun _ => (List.length_set ..).trans rfl) | exact (fun _ => rfl)))
    | decide
    | with_reducible intro _ _ _
    | ((try dsimp only); split)

theorem execParentLost_evolves (other : Option (Fin 6)) (s : State) :
    Outcome.evolves s [.regs, .fab] (execParentLost other s) := by
  unfold execParentLost
  refine Outcome.evolves_next ?_
  repeat' first
    | assumption
    | with_reducible apply State.evolves_refl
    | with_reducible apply State.evolves_ite
    | with_reducible apply State.evolves_foldl
    | with_reducible apply State.evolves_step (State.setTimeStatus_evolves _ _ _)
    | fail_if_no_progress ((with_reducible apply State.evolves_set_fab); decide; (first | (with_reducible exact fun h => h) | exact (fun h => SMap.wf_set _ _ _ _ h) | exact (fun h => SMap.wf_setMany _ _ _ _ h) | exact (fun h => SMap.wf_eraseRange _ _ _ _ h) | exact (fun h => SMap.wfFrom_filter _ _ _ _ h) | exact (fun h => (List.length_set ..).trans h) | exact (fun h => (List.length_modify ..).trans h) | exact (fun h => (List.length_map ..).trans h) | exact (fun h => ⟨h.1, (List.length_set ..).trans h.2⟩) | exact (fun h => h) | exact (fun _ => (List.length_set ..).trans rfl) | exact (fun _ => rfl)))
    | decide
    | with_reducible intro _ _ _
    | ((try dsimp only); split)

theorem execTimeUnlock_evolves (s : State) :
    Outcome.evolves s [.mem, .regs, .frets, .slanes, .board, .num, .emb, .upd, .dram, .fab, .vlk, .adm, .dict, .life] (execTimeUnlock s) := by
  unfold execTimeUnlock
  refine Outcome.evolves_next ?_
  repeat' first
    | assumption
    | with_reducible apply State.evolves_refl
    | with_reducible apply State.evolves_ite
    | with_reducible apply State.evolves_foldl
    | with_reducible apply State.evolves_step (State.flag_evolves _ _ _ _)
    | with_reducible apply State.evolves_step (State.portFails_evolves _ _)
    | with_reducible apply State.evolves_step (State.setTimeStatus_evolves _ _ _)
    | fail_if_no_progress ((with_reducible apply State.evolves_set_fab); decide; (first | (with_reducible exact fun h => h) | exact (fun h => SMap.wf_set _ _ _ _ h) | exact (fun h => SMap.wf_setMany _ _ _ _ h) | exact (fun h => SMap.wf_eraseRange _ _ _ _ h) | exact (fun h => SMap.wfFrom_filter _ _ _ _ h) | exact (fun h => (List.length_set ..).trans h) | exact (fun h => (List.length_modify ..).trans h) | exact (fun h => (List.length_map ..).trans h) | exact (fun h => ⟨h.1, (List.length_set ..).trans h.2⟩) | exact (fun h => h) | exact (fun _ => (List.length_set ..).trans rfl) | exact (fun _ => rfl)))
    | decide
    | with_reducible intro _ _ _
    | ((try dsimp only); split)

end Sys2Proof.Machine
end

