-- ==== Sys2Proof/Laws/FrameVilny.lean ====
section
/-! SUPPORT. What each operation of Machine/Vilny.lean may change. -/

namespace Sys2Proof.Machine

theorem State.emitFlits_evolves (s : State) (fs : List Bytes) :
    s.evolves (State.emitFlits s fs) [.vlk] := by
  unfold State.emitFlits
  repeat' first
    | assumption
    | with_reducible apply State.evolves_refl
    | with_reducible apply State.evolves_ite
    | with_reducible apply State.evolves_foldl
    | fail_if_no_progress ((with_reducible apply State.evolves_set_vlk); decide)
    | decide
    | with_reducible intro _ _ _
    | ((try dsimp only); split)

theorem State.putFlit_evolves (s : State) (flit : Bytes) :
    s.evolves (State.putFlit s flit) [.regs, .vlk] := by
  unfold State.putFlit
  repeat' first
    | assumption
    | with_reducible apply State.evolves_refl
    | with_reducible apply State.evolves_ite
    | with_reducible apply State.evolves_foldl
    | with_reducible apply State.evolves_step (State.bump_evolves _ _ _ _)
    | with_reducible apply State.evolves_step (State.emitFlits_evolves _ _)
    | fail_if_no_progress ((with_reducible apply State.evolves_set_vlk); decide)
    | decide
    | with_reducible intro _ _ _
    | ((try dsimp only); split)

theorem State.sendIdle_evolves (s : State) (nak : Bool) :
    s.evolves (State.sendIdle s nak) [.vlk] := by
  unfold State.sendIdle
  repeat' first
    | assumption
    | with_reducible apply State.evolves_refl
    | with_reducible apply State.evolves_ite
    | with_reducible apply State.evolves_foldl
    | with_reducible apply State.evolves_step (State.emitFlits_evolves _ _)
    | decide
    | with_reducible intro _ _ _
    | ((try dsimp only); split)

theorem State.streamNext_evolves (s : State) (x : Stream) :
    s.evolves (State.streamNext s x) [.regs, .dram, .fab, .vlk, .adm, .dict, .life] := by
  unfold State.streamNext
  repeat' first
    | assumption
    | with_reducible apply State.evolves_refl
    | with_reducible apply State.evolves_ite
    | with_reducible apply State.evolves_foldl
    | with_reducible apply State.evolves_step (State.meetPoison_evolves _ _ _)
    | with_reducible apply State.evolves_step (State.sendFrame_evolves _ _ _ _ _ _ _ _)
    | fail_if_no_progress ((with_reducible apply State.evolves_set_adm); decide; (first | (with_reducible exact fun h => h) | exact (fun h => SMap.wf_set _ _ _ _ h) | exact (fun h => SMap.wf_setMany _ _ _ _ h) | exact (fun h => SMap.wf_eraseRange _ _ _ _ h) | exact (fun h => SMap.wfFrom_filter _ _ _ _ h) | exact (fun h => (List.length_set ..).trans h) | exact (fun h => (List.length_modify ..).trans h) | exact (fun h => (List.length_map ..).trans h) | exact (fun h => ⟨h.1, (List.length_set ..).trans h.2⟩) | exact (fun h => h) | exact (fun _ => (List.length_set ..).trans rfl) | exact (fun _ => rfl)))
    | decide
    | with_reducible intro _ _ _
    | ((try dsimp only); split)

theorem State.supplyFrame_evolves (s : State) :
    s.evolves (State.supplyFrame s) [.regs, .upd, .dram, .fab, .vlk, .adm, .dict, .life] := by
  unfold State.supplyFrame
  repeat' first
    | assumption
    | with_reducible apply State.evolves_refl
    | with_reducible apply State.evolves_ite
    | with_reducible apply State.evolves_foldl
    | with_reducible apply State.evolves_step (State.snapNext_evolves _)
    | with_reducible apply State.evolves_step (State.streamNext_evolves _ _)
    | decide
    | with_reducible intro _ _ _
    | ((try dsimp only); split)

theorem State.loadTx_evolves (s : State) :
    s.evolves (State.loadTx s) [.regs, .upd, .dram, .fab, .vlk, .adm, .dict, .life] := by
  unfold State.loadTx
  repeat' first
    | assumption
    | with_reducible apply State.evolves_refl
    | with_reducible apply State.evolves_ite
    | with_reducible apply State.evolves_foldl
    | with_reducible apply State.evolves_step (State.supplyFrame_evolves _)
    | fail_if_no_progress ((with_reducible apply State.evolves_set_vlk); decide)
    | decide
    | with_reducible intro _ _ _
    | ((try dsimp only); split)

theorem State.frameLeft_evolves (s : State) :
    s.evolves (State.frameLeft s) [.vlk, .adm] := by
  unfold State.frameLeft
  repeat' first
    | assumption
    | with_reducible apply State.evolves_refl
    | with_reducible apply State.evolves_ite
    | with_reducible apply State.evolves_foldl
    | with_reducible apply State.evolves_step (State.dropFrame_evolves _ _)
    | fail_if_no_progress ((with_reducible apply State.evolves_set_vlk); decide)
    | decide
    | with_reducible intro _ _ _
    | ((try dsimp only); split)

theorem State.sendFlit_evolves (s : State) :
    s.evolves (State.sendFlit s) [.regs, .upd, .dram, .fab, .vlk, .adm, .dict, .life] := by
  unfold State.sendFlit
  repeat' first
    | assumption
    | with_reducible apply State.evolves_refl
    | with_reducible apply State.evolves_ite
    | with_reducible apply State.evolves_foldl
    | with_reducible apply State.evolves_step (State.frameLeft_evolves _)
    | with_reducible apply State.evolves_step (State.loadTx_evolves _)
    | with_reducible apply State.evolves_step (State.putFlit_evolves _ _)
    | with_reducible apply State.evolves_step (State.sendIdle_evolves _ _)
    | fail_if_no_progress ((with_reducible apply State.evolves_set_vlk); decide)
    | decide
    | with_reducible intro _ _ _
    | ((try dsimp only); split)

theorem State.startVilnyRetrain_evolves (s : State) :
    s.evolves (State.startVilnyRetrain s) [.regs, .vlk] := by
  unfold State.startVilnyRetrain
  repeat' first
    | assumption
    | with_reducible apply State.evolves_refl
    | with_reducible apply State.evolves_ite
    | with_reducible apply State.evolves_foldl
    | with_reducible apply State.evolves_step (State.bump_evolves _ _ _ _)
    | with_reducible apply State.evolves_step (State.clearReg_evolves _ _ _ _)
    | fail_if_no_progress ((with_reducible apply State.evolves_set_vlk); decide)
    | decide
    | with_reducible intro _ _ _
    | ((try dsimp only); split)

theorem execVilnyRetrain_evolves (s : State) :
    Outcome.evolves s [.regs, .vlk] (execVilnyRetrain s) := by
  unfold execVilnyRetrain
  refine Outcome.evolves_next ?_
  repeat' first
    | assumption
    | with_reducible apply State.evolves_refl
    | with_reducible apply State.evolves_ite
    | with_reducible apply State.evolves_foldl
    | with_reducible apply State.evolves_step (State.startVilnyRetrain_evolves _)
    | decide
    | with_reducible intro _ _ _
    | ((try dsimp only); split)

theorem State.vilnySubst_evolves (s : State) (dir lane : Nat) :
    s.evolves (State.vilnySubst s dir lane) [.regs, .life] := by
  unfold State.vilnySubst
  repeat' first
    | assumption
    | with_reducible apply State.evolves_refl
    | with_reducible apply State.evolves_ite
    | with_reducible apply State.evolves_foldl
    | with_reducible apply State.evolves_step (State.flag_evolves _ _ _ _)
    | with_reducible apply State.evolves_step (State.logSubst_evolves _ _ _ _ _)
    | with_reducible apply State.evolves_step (State.updSpare_evolves _ _)
    | decide
    | with_reducible intro _ _ _
    | ((try dsimp only); split)

theorem State.vilnyTrained_evolves (s : State) (lanes : VilnyLanes) (sp : Nat × Nat) :
    s.evolves (State.vilnyTrained s lanes sp) [.regs, .vlk, .life] := by
  unfold State.vilnyTrained
  repeat' first
    | assumption
    | with_reducible apply State.evolves_refl
    | with_reducible apply State.evolves_ite
    | with_reducible apply State.evolves_foldl
    | with_reducible apply State.evolves_step (State.flag_evolves _ _ _ _)
    | with_reducible apply State.evolves_step (State.setReg_evolves _ _ _ _)
    | with_reducible apply State.evolves_step (State.vilnySubst_evolves _ _ _)
    | fail_if_no_progress ((with_reducible apply State.evolves_set_vlk); decide)
    | decide
    | with_reducible intro _ _ _
    | ((try dsimp only); split)

theorem execVilnyTrainDone_evolves (lanes : VilnyLanes) (spareFor : Option (Fin 8) × Option (Fin 8)) (s : State) :
    Outcome.evolves s [.regs, .vlk, .life] (execVilnyTrainDone lanes spareFor s) := by
  unfold execVilnyTrainDone
  refine Outcome.evolves_next ?_
  repeat' first
    | assumption
    | with_reducible apply State.evolves_refl
    | with_reducible apply State.evolves_ite
    | with_reducible apply State.evolves_foldl
    | with_reducible apply State.evolves_step (State.vilnyTrained_evolves _ _ _)
    | decide
    | with_reducible intro _ _ _
    | ((try dsimp only); split)

theorem State.vilnyDown_evolves (s : State) :
    s.evolves (State.vilnyDown s) [.regs, .vlk, .dict] := by
  unfold State.vilnyDown
  repeat' first
    | assumption
    | with_reducible apply State.evolves_refl
    | with_reducible apply State.evolves_ite
    | with_reducible apply State.evolves_foldl
    | with_reducible apply State.evolves_step (State.clearReg_evolves _ _ _ _)
    | with_reducible apply State.evolves_step (State.event_evolves _ _ _)
    | with_reducible apply State.evolves_step (State.flag_evolves _ _ _ _)
    | with_reducible apply State.evolves_step (State.setReg_evolves _ _ _ _)
    | fail_if_no_progress ((with_reducible apply State.evolves_set_vlk); decide)
    | decide
    | with_reducible intro _ _ _
    | ((try dsimp only); split)

theorem execVilnyLinkDown_evolves (s : State) :
    Outcome.evolves s [.regs, .vlk, .dict] (execVilnyLinkDown s) := by
  unfold execVilnyLinkDown
  refine Outcome.evolves_next ?_
  repeat' first
    | assumption
    | with_reducible apply State.evolves_refl
    | with_reducible apply State.evolves_ite
    | with_reducible apply State.evolves_foldl
    | with_reducible apply State.evolves_step (State.vilnyDown_evolves _)
    | decide
    | with_reducible intro _ _ _
    | ((try dsimp only); split)

theorem execVilnyTrainRetry_evolves (s : State) :
    Outcome.evolves s [.vlk] (execVilnyTrainRetry s) := by
  unfold execVilnyTrainRetry
  refine Outcome.evolves_next ?_
  repeat' first
    | assumption
    | with_reducible apply State.evolves_refl
    | with_reducible apply State.evolves_ite
    | with_reducible apply State.evolves_foldl
    | fail_if_no_progress ((with_reducible apply State.evolves_set_vlk); decide)
    | decide
    | with_reducible intro _ _ _
    | ((try dsimp only); split)

theorem State.takeAck_evolves (s : State) (ack credit : Nat) :
    s.evolves (State.takeAck s ack credit) [.vlk] := by
  unfold State.takeAck
  repeat' first
    | assumption
    | with_reducible apply State.evolves_refl
    | with_reducible apply State.evolves_ite
    | with_reducible apply State.evolves_foldl
    | fail_if_no_progress ((with_reducible apply State.evolves_set_vlk); decide)
    | decide
    | with_reducible intro _ _ _
    | ((try dsimp only); split)

theorem State.resendFlit_evolves (s : State) (counts : Bool) (r : SentPacket) :
    s.evolves (State.resendFlit s counts r) [.regs, .vlk] := by
  unfold State.resendFlit
  repeat' first
    | assumption
    | with_reducible apply State.evolves_refl
    | with_reducible apply State.evolves_ite
    | with_reducible apply State.evolves_foldl
    | with_reducible apply State.evolves_step (State.putFlit_evolves _ _)
    | fail_if_no_progress ((with_reducible apply State.evolves_set_vlk); decide)
    | decide
    | with_reducible intro _ _ _
    | ((try dsimp only); split)

theorem State.resendAll_evolves (s : State) :
    s.evolves (State.resendAll s) [.regs, .vlk] := by
  unfold State.resendAll
  repeat' first
    | assumption
    | with_reducible apply State.evolves_refl
    | with_reducible apply State.evolves_ite
    | with_reducible apply State.evolves_foldl
    | with_reducible apply State.evolves_step (State.bump_evolves _ _ _ _)
    | with_reducible apply State.evolves_step (State.resendFlit_evolves _ _ _)
    | with_reducible apply State.evolves_step (State.startVilnyRetrain_evolves _)
    | fail_if_no_progress ((with_reducible apply State.evolves_set_vlk); decide)
    | decide
    | with_reducible intro _ _ _
    | ((try dsimp only); split)

theorem State.takeData_evolves (s : State) (d : Bytes) :
    s.evolves (State.takeData s d) [.vlk] := by
  unfold State.takeData
  repeat' first
    | assumption
    | with_reducible apply State.evolves_refl
    | with_reducible apply State.evolves_ite
    | with_reducible apply State.evolves_foldl
    | fail_if_no_progress ((with_reducible apply State.evolves_set_vlk); decide)
    | decide
    | with_reducible intro _ _ _
    | ((try dsimp only); split)

theorem State.takeFlit_evolves (s : State) (flit : Bytes) :
    s.evolves (State.takeFlit s flit) [.regs, .vlk] := by
  unfold State.takeFlit
  repeat' first
    | assumption
    | with_reducible apply State.evolves_refl
    | with_reducible apply State.evolves_ite
    | with_reducible apply State.evolves_foldl
    | with_reducible apply State.evolves_step (State.bump_evolves _ _ _ _)
    | with_reducible apply State.evolves_step (State.resendAll_evolves _)
    | with_reducible apply State.evolves_step (State.sendIdle_evolves _ _)
    | with_reducible apply State.evolves_step (State.takeAck_evolves _ _ _)
    | with_reducible apply State.evolves_step (State.takeData_evolves _ _)
    | fail_if_no_progress ((with_reducible apply State.evolves_set_vlk); decide)
    | decide
    | with_reducible intro _ _ _
    | ((try dsimp only); split)

theorem State.injectRx_evolves (s : State) (flit : Bytes) :
    s.evolves (State.injectRx s flit).2 [.regs, .vlk] := by
  unfold State.injectRx
  repeat' first
    | assumption
    | with_reducible apply State.evolves_refl
    | with_reducible apply State.evolves_ite
    | with_reducible apply State.evolves_foldl
    | with_reducible apply State.evolves_ite_snd
    | with_reducible apply State.evolves_foldl_snd
    | with_reducible apply State.evolves_step (State.bump_evolves _ _ _ _)
    | fail_if_no_progress ((with_reducible apply State.evolves_set_vlk); decide)
    | decide
    | with_reducible intro _ _ _
    | ((try dsimp only); split)

theorem execFlitReceive_evolves (flit : Bytes) (s : State) :
    Outcome.evolves s [.regs, .vlk] (execFlitReceive flit s) := by
  unfold execFlitReceive
  refine Outcome.evolves_next ?_
  repeat' first
    | assumption
    | with_reducible apply State.evolves_refl
    | with_reducible apply State.evolves_ite
    | with_reducible apply State.evolves_foldl
    | with_reducible apply State.evolves_step (State.injectRx_evolves _ _)
    | with_reducible apply State.evolves_step (State.takeFlit_evolves _ _)
    | decide
    | with_reducible intro _ _ _
    | ((try dsimp only); split)

end Sys2Proof.Machine
end

