-- ==== Sys2Proof/Laws/FrameAdmit.lean ====
section
/-! SUPPORT. What each operation of Machine/Admit.lean may change. -/

namespace Sys2Proof.Machine

theorem State.refuseId_evolves (s : State) (id type step : Nat) (r : Turn) :
    s.evolves (State.refuseId s id type step r) [.regs, .vlk, .adm, .dict] := by
  unfold State.refuseId
  repeat' first
    | assumption
    | with_reducible apply State.evolves_refl
    | with_reducible apply State.evolves_ite
    | with_reducible apply State.evolves_foldl
    | with_reducible apply State.evolves_step (State.bump_evolves _ _ _ _)
    | with_reducible apply State.evolves_step (State.event_evolves _ _ _)
    | with_reducible apply State.evolves_step (State.flag_evolves _ _ _ _)
    | with_reducible apply State.evolves_step (State.sendFrame_evolves _ _ _ _ _ _ _ _)
    | with_reducible apply State.evolves_step (State.setReg_evolves _ _ _ _)
    | fail_if_no_progress ((with_reducible apply State.evolves_set_adm); decide; (first | (with_reducible exact fun h => h) | exact (fun h => SMap.wf_set _ _ _ _ h) | exact (fun h => SMap.wf_setMany _ _ _ _ h) | exact (fun h => SMap.wf_eraseRange _ _ _ _ h) | exact (fun h => SMap.wfFrom_filter _ _ _ _ h) | exact (fun h => (List.length_set ..).trans h) | exact (fun h => (List.length_modify ..).trans h) | exact (fun h => (List.length_map ..).trans h) | exact (fun h => ⟨h.1, (List.length_set ..).trans h.2⟩) | exact (fun h => h) | exact (fun _ => (List.length_set ..).trans rfl) | exact (fun _ => rfl)))
    | decide
    | with_reducible intro _ _ _
    | ((try dsimp only); split)

theorem State.refuse_evolves (s : State) (f : Bytes) (r : Turn) :
    s.evolves (State.refuse s f r) [.regs, .vlk, .adm, .dict] := by
  unfold State.refuse
  repeat' first
    | assumption
    | with_reducible apply State.evolves_refl
    | with_reducible apply State.evolves_ite
    | with_reducible apply State.evolves_foldl
    | with_reducible apply State.evolves_step (State.refuseId_evolves _ _ _ _ _)
    | decide
    | with_reducible intro _ _ _
    | ((try dsimp only); split)

theorem State.acceptId_evolves (s : State) (id step tLast bound : Nat) (extended : Bool) :
    s.evolves (State.acceptId s id step tLast bound extended) [.regs, .vlk, .adm] := by
  unfold State.acceptId
  repeat' first
    | assumption
    | with_reducible apply State.evolves_refl
    | with_reducible apply State.evolves_ite
    | with_reducible apply State.evolves_foldl
    | with_reducible apply State.evolves_step (State.bump_evolves _ _ _ _)
    | with_reducible apply State.evolves_step (State.sendFrame_evolves _ _ _ _ _ _ _ _)
    | fail_if_no_progress ((with_reducible apply State.evolves_set_adm); decide; (first | (with_reducible exact fun h => h) | exact (fun h => SMap.wf_set _ _ _ _ h) | exact (fun h => SMap.wf_setMany _ _ _ _ h) | exact (fun h => SMap.wf_eraseRange _ _ _ _ h) | exact (fun h => SMap.wfFrom_filter _ _ _ _ h) | exact (fun h => (List.length_set ..).trans h) | exact (fun h => (List.length_modify ..).trans h) | exact (fun h => (List.length_map ..).trans h) | exact (fun h => ⟨h.1, (List.length_set ..).trans h.2⟩) | exact (fun h => h) | exact (fun _ => (List.length_set ..).trans rfl) | exact (fun _ => rfl)))
    | decide
    | with_reducible intro _ _ _
    | ((try dsimp only); split)

theorem State.hold_evolves (s : State) (h : HeldFrame) :
    s.evolves (State.hold s h) [.adm] := by
  unfold State.hold
  repeat' first
    | assumption
    | with_reducible apply State.evolves_refl
    | with_reducible apply State.evolves_ite
    | with_reducible apply State.evolves_foldl
    | fail_if_no_progress ((with_reducible apply State.evolves_set_adm); decide; (first | (with_reducible exact fun h => h) | exact (fun h => SMap.wf_set _ _ _ _ h) | exact (fun h => SMap.wf_setMany _ _ _ _ h) | exact (fun h => SMap.wf_eraseRange _ _ _ _ h) | exact (fun h => SMap.wfFrom_filter _ _ _ _ h) | exact (fun h => (List.length_set ..).trans h) | exact (fun h => (List.length_modify ..).trans h) | exact (fun h => (List.length_map ..).trans h) | exact (fun h => ⟨h.1, (List.length_set ..).trans h.2⟩) | exact (fun h => h) | exact (fun _ => (List.length_set ..).trans rfl) | exact (fun _ => rfl)))
    | decide
    | with_reducible intro _ _ _
    | ((try dsimp only); split)

theorem State.takeQuote_evolves (s : State) (q : Quote) :
    s.evolves (State.takeQuote s q) [.regs, .vlk, .adm, .dict] := by
  unfold State.takeQuote
  repeat' first
    | assumption
    | with_reducible apply State.evolves_refl
    | with_reducible apply State.evolves_ite
    | with_reducible apply State.evolves_foldl
    | with_reducible apply State.evolves_step (State.breakFrames_evolves _ _ _ _)
    | with_reducible apply State.evolves_step (State.flag_evolves _ _ _ _)
    | with_reducible apply State.evolves_step (State.raiseFrames_evolves _ _)
    | fail_if_no_progress ((with_reducible apply State.evolves_set_adm); decide; (first | (with_reducible exact fun h => h) | exact (fun h => SMap.wf_set _ _ _ _ h) | exact (fun h => SMap.wf_setMany _ _ _ _ h) | exact (fun h => SMap.wf_eraseRange _ _ _ _ h) | exact (fun h => SMap.wfFrom_filter _ _ _ _ h) | exact (fun h => (List.length_set ..).trans h) | exact (fun h => (List.length_modify ..).trans h) | exact (fun h => (List.length_map ..).trans h) | exact (fun h => ⟨h.1, (List.length_set ..).trans h.2⟩) | exact (fun h => h) | exact (fun _ => (List.length_set ..).trans rfl) | exact (fun _ => rfl)))
    | decide
    | with_reducible intro _ _ _
    | ((try dsimp only); split)

theorem State.startFrame_evolves (s : State) (h : HeldFrame) :
    s.evolves (State.startFrame s h) [.regs, .frets, .emb, .upd, .dram, .fab, .vlk, .adm, .dict, .life] := by
  unfold State.startFrame
  dsimp only
  generalize s.positions h.bytes = ps
  have h1 : s.evolves (s.resolve h.step h.mb ps) [.regs, .frets, .emb, .upd, .dram, .fab, .vlk, .adm, .dict, .life] := State.evolves_wider (State.resolve_evolves _ _ _ _) (by decide)
  generalize s.resolve h.step h.mb ps = x at h1
  generalize x.loadRise h.bytes = l
  have h0 : s.evolves (x.gather h.id h.step ps) [.regs, .frets, .emb, .upd, .dram, .fab, .vlk, .adm, .dict, .life] := State.evolves_step (State.gather_evolves _ _ _ _) h1 (by decide)
  cases l with
  | none => exact h0
  | some ns =>
    refine State.evolves_set_adm (by decide) (fun h => h) ?_
    exact State.evolves_step (State.breakFrames_evolves _ _ _ _) h0 (by decide)

theorem State.admitFrame_evolves (s : State) (f : Bytes) (t : Nat) (q : Quote) :
    s.evolves (State.admitFrame s f t q) [.regs, .frets, .emb, .upd, .dram, .fab, .vlk, .adm, .dict, .life] := by
  unfold State.admitFrame
  repeat' first
    | assumption
    | with_reducible apply State.evolves_refl
    | with_reducible apply State.evolves_ite
    | with_reducible apply State.evolves_foldl
    | with_reducible apply State.evolves_step (State.acceptId_evolves _ _ _ _ _ _)
    | with_reducible apply State.evolves_step (State.hold_evolves _ _)
    | with_reducible apply State.evolves_step (State.post_evolves _ _ _ _ _ _)
    | with_reducible apply State.evolves_step (State.startFrame_evolves _ _)
    | with_reducible apply State.evolves_step (State.takeQuote_evolves _ _)
    | decide
    | with_reducible intro _ _ _
    | ((try dsimp only); split)

theorem State.decideTallied_evolves (s : State) (f : Bytes) (t : Nat) :
    s.evolves (State.decideTallied s f t) [.regs, .frets, .emb, .upd, .dram, .fab, .vlk, .adm, .dict, .life] := by
  unfold State.decideTallied
  split
  · exact State.evolves_wider (State.refuse_evolves _ _ _) (by decide)
  · exact State.evolves_wider (State.admitFrame_evolves _ _ _ _) (by decide)

theorem State.decideEvents_evolves (s : State) (f : Bytes) (t : Nat) :
    s.evolves (State.decideEvents s f t) [.regs, .frets, .emb, .upd, .dram, .fab, .vlk, .adm, .dict, .life] := by
  unfold State.decideEvents
  repeat' first
    | assumption
    | with_reducible apply State.evolves_refl
    | with_reducible apply State.evolves_ite
    | with_reducible apply State.evolves_foldl
    | with_reducible apply State.evolves_step (State.decideTallied_evolves _ _ _)
    | with_reducible apply State.evolves_step (State.hold_evolves _ _)
    | with_reducible apply State.evolves_step (State.refuse_evolves _ _ _)
    | decide
    | with_reducible intro _ _ _
    | ((try dsimp only); split)

theorem State.unhold_evolves (s : State) (id : Nat) :
    s.evolves (State.unhold s id) [.adm] := by
  unfold State.unhold
  repeat' first
    | assumption
    | with_reducible apply State.evolves_refl
    | with_reducible apply State.evolves_ite
    | with_reducible apply State.evolves_foldl
    | fail_if_no_progress ((with_reducible apply State.evolves_set_adm); decide; (first | (with_reducible exact fun h => h) | exact (fun h => SMap.wf_set _ _ _ _ h) | exact (fun h => SMap.wf_setMany _ _ _ _ h) | exact (fun h => SMap.wf_eraseRange _ _ _ _ h) | exact (fun h => SMap.wfFrom_filter _ _ _ _ h) | exact (fun h => (List.length_set ..).trans h) | exact (fun h => (List.length_modify ..).trans h) | exact (fun h => (List.length_map ..).trans h) | exact (fun h => ⟨h.1, (List.length_set ..).trans h.2⟩) | exact (fun h => h) | exact (fun _ => (List.length_set ..).trans rfl) | exact (fun _ => rfl)))
    | decide
    | with_reducible intro _ _ _
    | ((try dsimp only); split)

theorem State.requote_evolves (s : State) (step : Nat) :
    s.evolves (State.requote s step) [.adm] := by
  unfold State.requote
  repeat' first
    | assumption
    | with_reducible apply State.evolves_refl
    | with_reducible apply State.evolves_ite
    | with_reducible apply State.evolves_foldl
    | with_reducible apply State.evolves_step (State.unhold_evolves _ _)
    | fail_if_no_progress ((with_reducible apply State.evolves_set_adm); decide; (first | (with_reducible exact fun h => h) | exact (fun h => SMap.wf_set _ _ _ _ h) | exact (fun h => SMap.wf_setMany _ _ _ _ h) | exact (fun h => SMap.wf_eraseRange _ _ _ _ h) | exact (fun h => SMap.wfFrom_filter _ _ _ _ h) | exact (fun h => (List.length_set ..).trans h) | exact (fun h => (List.length_modify ..).trans h) | exact (fun h => (List.length_map ..).trans h) | exact (fun h => ⟨h.1, (List.length_set ..).trans h.2⟩) | exact (fun h => h) | exact (fun _ => (List.length_set ..).trans rfl) | exact (fun _ => rfl)))
    | decide
    | with_reducible intro _ _ _
    | ((try dsimp only); split)

theorem State.refusePosted_evolves (s : State) (frame : Nat) :
    s.evolves (State.refusePosted s frame) [.regs, .vlk, .adm, .dict] := by
  unfold State.refusePosted
  repeat' first
    | assumption
    | with_reducible apply State.evolves_refl
    | with_reducible apply State.evolves_ite
    | with_reducible apply State.evolves_foldl
    | with_reducible apply State.evolves_step (State.refuse_evolves _ _ _)
    | with_reducible apply State.evolves_step (State.requote_evolves _ _)
    | with_reducible apply State.evolves_step (State.unhold_evolves _ _)
    | decide
    | with_reducible intro _ _ _
    | ((try dsimp only); split)

theorem execExtensionPosted_evolves (frame : Nat) (s : State) :
    Outcome.evolves s [.regs, .frets, .emb, .upd, .dram, .fab, .vlk, .adm, .dict, .life] (execExtensionPosted frame s) := by
  unfold execExtensionPosted
  refine Outcome.evolves_next ?_
  repeat' first
    | assumption
    | with_reducible apply State.evolves_refl
    | with_reducible apply State.evolves_ite
    | with_reducible apply State.evolves_foldl
    | with_reducible apply State.evolves_step (State.acceptId_evolves _ _ _ _ _ _)
    | with_reducible apply State.evolves_step (State.refusePosted_evolves _ _)
    | with_reducible apply State.evolves_step (State.startFrame_evolves _ _)
    | fail_if_no_progress ((with_reducible apply State.evolves_set_adm); decide; (first | (with_reducible exact fun h => h) | exact (fun h => SMap.wf_set _ _ _ _ h) | exact (fun h => SMap.wf_setMany _ _ _ _ h) | exact (fun h => SMap.wf_eraseRange _ _ _ _ h) | exact (fun h => SMap.wfFrom_filter _ _ _ _ h) | exact (fun h => (List.length_set ..).trans h) | exact (fun h => (List.length_modify ..).trans h) | exact (fun h => (List.length_map ..).trans h) | exact (fun h => ⟨h.1, (List.length_set ..).trans h.2⟩) | exact (fun h => h) | exact (fun _ => (List.length_set ..).trans rfl) | exact (fun _ => rfl)))
    | decide
    | with_reducible intro _ _ _
    | ((try dsimp only); split)

end Sys2Proof.Machine
end

