-- ==== Sys2Proof/Laws/FrameRemote.lean ====
section
/-! SUPPORT. What each operation of Machine/Remote.lean may change. -/

namespace Sys2Proof.Machine

theorem execRead_evolves (src id addr len : Nat) (s : State) :
    Outcome.evolves s [.mem, .regs, .frets, .board, .upd, .dram, .fab, .vlk, .adm, .dict, .life] (execRead src id addr len s) := by
  unfold execRead
  refine Outcome.evolves_next ?_
  repeat' first
    | assumption
    | with_reducible apply State.evolves_refl
    | with_reducible apply State.evolves_ite
    | with_reducible apply State.evolves_foldl
    | with_reducible apply State.evolves_step (State.nodeRequest_evolves _ _)
    | with_reducible apply State.evolves_step (State.takeInbox_evolves _ _ _)
    | decide
    | with_reducible intro _ _ _
    | ((try dsimp only); split)

theorem execWrite_evolves (src id addr : Nat) (data : Bytes) (s : State) :
    Outcome.evolves s [.mem, .regs, .frets, .board, .upd, .dram, .fab, .vlk, .adm, .dict, .life] (execWrite src id addr data s) := by
  unfold execWrite
  refine Outcome.evolves_next ?_
  repeat' first
    | assumption
    | with_reducible apply State.evolves_refl
    | with_reducible apply State.evolves_ite
    | with_reducible apply State.evolves_foldl
    | with_reducible apply State.evolves_step (State.nodeRequest_evolves _ _)
    | with_reducible apply State.evolves_step (State.takeInbox_evolves _ _ _)
    | decide
    | with_reducible intro _ _ _
    | ((try dsimp only); split)

theorem execCopy_evolves (src id addr dst len : Nat) (s : State) :
    Outcome.evolves s [.mem, .regs, .frets, .board, .upd, .dram, .fab, .vlk, .adm, .dict, .life] (execCopy src id addr dst len s) := by
  unfold execCopy
  refine Outcome.evolves_next ?_
  repeat' first
    | assumption
    | with_reducible apply State.evolves_refl
    | with_reducible apply State.evolves_ite
    | with_reducible apply State.evolves_foldl
    | with_reducible apply State.evolves_step (State.nodeRequest_evolves _ _)
    | with_reducible apply State.evolves_step (State.takeInbox_evolves _ _ _)
    | decide
    | with_reducible intro _ _ _
    | ((try dsimp only); split)

theorem execCopyDone_evolves (id status : Nat) (s : State) :
    Outcome.evolves s [.fab] (execCopyDone id status s) := by
  unfold execCopyDone
  refine Outcome.evolves_next ?_
  repeat' first
    | assumption
    | with_reducible apply State.evolves_refl
    | with_reducible apply State.evolves_ite
    | with_reducible apply State.evolves_foldl
    | with_reducible apply State.evolves_step (State.reply_evolves _ _ _ _ _ _)
    | fail_if_no_progress ((with_reducible apply State.evolves_set_fab); decide; (first | (with_reducible exact fun h => h) | exact (fun h => SMap.wf_set _ _ _ _ h) | exact (fun h => SMap.wf_setMany _ _ _ _ h) | exact (fun h => SMap.wf_eraseRange _ _ _ _ h) | exact (fun h => SMap.wfFrom_filter _ _ _ _ h) | exact (fun h => (List.length_set ..).trans h) | exact (fun h => (List.length_modify ..).trans h) | exact (fun h => (List.length_map ..).trans h) | exact (fun h => ⟨h.1, (List.length_set ..).trans h.2⟩) | exact (fun h => h) | exact (fun _ => (List.length_set ..).trans rfl) | exact (fun _ => rfl)))
    | decide
    | with_reducible intro _ _ _
    | ((try dsimp only); split)

theorem execAddI64_evolves (src id addr : Nat) (operand : BitVec 64) (s : State) :
    Outcome.evolves s [.mem, .regs, .frets, .board, .upd, .dram, .fab, .vlk, .adm, .dict, .life] (execAddI64 src id addr operand s) := by
  unfold execAddI64
  refine Outcome.evolves_next ?_
  repeat' first
    | assumption
    | with_reducible apply State.evolves_refl
    | with_reducible apply State.evolves_ite
    | with_reducible apply State.evolves_foldl
    | with_reducible apply State.evolves_step (State.nodeRequest_evolves _ _)
    | with_reducible apply State.evolves_step (State.takeInbox_evolves _ _ _)
    | decide
    | with_reducible intro _ _ _
    | ((try dsimp only); split)

theorem execAddF32_evolves (src id addr : Nat) (operand : BitVec 32) (s : State) :
    Outcome.evolves s [.mem, .regs, .frets, .board, .upd, .dram, .fab, .vlk, .adm, .dict, .life] (execAddF32 src id addr operand s) := by
  unfold execAddF32
  refine Outcome.evolves_next ?_
  repeat' first
    | assumption
    | with_reducible apply State.evolves_refl
    | with_reducible apply State.evolves_ite
    | with_reducible apply State.evolves_foldl
    | with_reducible apply State.evolves_step (State.nodeRequest_evolves _ _)
    | with_reducible apply State.evolves_step (State.takeInbox_evolves _ _ _)
    | decide
    | with_reducible intro _ _ _
    | ((try dsimp only); split)

theorem execMsg_evolves (src _id queue : Nat) (body : Bytes) (s : State) :
    Outcome.evolves s [.fab] (execMsg src _id queue body s) := by
  unfold execMsg
  refine Outcome.evolves_next ?_
  repeat' first
    | assumption
    | with_reducible apply State.evolves_refl
    | with_reducible apply State.evolves_ite
    | with_reducible apply State.evolves_foldl
    | with_reducible apply State.evolves_step (State.takeInbox_evolves _ _ _)
    | fail_if_no_progress ((with_reducible apply State.evolves_set_fab); decide; (first | (with_reducible exact fun h => h) | exact (fun h => SMap.wf_set _ _ _ _ h) | exact (fun h => SMap.wf_setMany _ _ _ _ h) | exact (fun h => SMap.wf_eraseRange _ _ _ _ h) | exact (fun h => SMap.wfFrom_filter _ _ _ _ h) | exact (fun h => (List.length_set ..).trans h) | exact (fun h => (List.length_modify ..).trans h) | exact (fun h => (List.length_map ..).trans h) | exact (fun h => ⟨h.1, (List.length_set ..).trans h.2⟩) | exact (fun h => h) | exact (fun _ => (List.length_set ..).trans rfl) | exact (fun _ => rfl)))
    | decide
    | with_reducible intro _ _ _
    | ((try dsimp only); split)

theorem State.stepObjChanged_evolves (s : State) (src id sub obj old cause : Nat) :
    s.evolves (State.stepObjChanged s src id sub obj old cause) [.regs, .fab, .vlk, .adm, .dict] := by
  unfold State.stepObjChanged
  repeat' first
    | assumption
    | with_reducible apply State.evolves_refl
    | with_reducible apply State.evolves_ite
    | with_reducible apply State.evolves_foldl
    | with_reducible apply State.evolves_step (State.fanOut_evolves _ _)
    | with_reducible apply State.evolves_step (State.reply_evolves _ _ _ _ _ _)
    | fail_if_no_progress ((with_reducible apply State.evolves_set_fab); decide; (first | (with_reducible exact fun h => h) | exact (fun h => SMap.wf_set _ _ _ _ h) | exact (fun h => SMap.wf_setMany _ _ _ _ h) | exact (fun h => SMap.wf_eraseRange _ _ _ _ h) | exact (fun h => SMap.wfFrom_filter _ _ _ _ h) | exact (fun h => (List.length_set ..).trans h) | exact (fun h => (List.length_modify ..).trans h) | exact (fun h => (List.length_map ..).trans h) | exact (fun h => ⟨h.1, (List.length_set ..).trans h.2⟩) | exact (fun h => h) | exact (fun _ => (List.length_set ..).trans rfl) | exact (fun _ => rfl)))
    | decide
    | with_reducible intro _ _ _
    | ((try dsimp only); split)

theorem State.syncAnswer_evolves (s : State) (src id obj sub old a : Nat) :
    s.evolves (State.syncAnswer s src id obj sub old a) [.fab] := by
  unfold State.syncAnswer
  repeat' first
    | assumption
    | with_reducible apply State.evolves_refl
    | with_reducible apply State.evolves_ite
    | with_reducible apply State.evolves_foldl
    | with_reducible apply State.evolves_step (State.reply_evolves _ _ _ _ _ _)
    | decide
    | with_reducible intro _ _ _
    | ((try dsimp only); split)

theorem State.syncRequest_evolves (s : State) (src id obj sub : Nat) (remote : Bool) (a b : Nat) :
    s.evolves (State.syncRequest s src id obj sub remote a b) [.regs, .fab, .vlk, .adm, .dict] := by
  unfold State.syncRequest
  repeat' first
    | assumption
    | with_reducible apply State.evolves_refl
    | with_reducible apply State.evolves_ite
    | with_reducible apply State.evolves_foldl
    | with_reducible apply State.evolves_step (State.flag_evolves _ _ _ _)
    | with_reducible apply State.evolves_step (State.reply_evolves _ _ _ _ _ _)
    | with_reducible apply State.evolves_step (State.stepObjChanged_evolves _ _ _ _ _ _ _)
    | with_reducible apply State.evolves_step (State.syncAnswer_evolves _ _ _ _ _ _ _)
    | with_reducible apply State.evolves_step (State.syncOp_evolves _ _ _ _ _)
    | with_reducible apply State.evolves_step (State.takeInbox_evolves _ _ _)
    | decide
    | with_reducible intro _ _ _
    | ((try dsimp only); split)

theorem execSyncGet_evolves (src id obj : Nat) (remote : Bool) (s : State) :
    Outcome.evolves s [.regs, .fab, .vlk, .adm, .dict] (execSyncGet src id obj remote s) := by
  unfold execSyncGet
  refine Outcome.evolves_next ?_
  repeat' first
    | assumption
    | with_reducible apply State.evolves_refl
    | with_reducible apply State.evolves_ite
    | with_reducible apply State.evolves_foldl
    | with_reducible apply State.evolves_step (State.syncRequest_evolves _ _ _ _ _ _ _ _)
    | decide
    | with_reducible intro _ _ _
    | ((try dsimp only); split)

theorem execSyncSet_evolves (src id obj : Nat) (remote : Bool) (value : BitVec 64) (s : State) :
    Outcome.evolves s [.regs, .fab, .vlk, .adm, .dict] (execSyncSet src id obj remote value s) := by
  unfold execSyncSet
  refine Outcome.evolves_next ?_
  repeat' first
    | assumption
    | with_reducible apply State.evolves_refl
    | with_reducible apply State.evolves_ite
    | with_reducible apply State.evolves_foldl
    | with_reducible apply State.evolves_step (State.syncRequest_evolves _ _ _ _ _ _ _ _)
    | decide
    | with_reducible intro _ _ _
    | ((try dsimp only); split)

theorem execSyncAdd_evolves (src id obj : Nat) (remote : Bool) (value : BitVec 64) (s : State) :
    Outcome.evolves s [.regs, .fab, .vlk, .adm, .dict] (execSyncAdd src id obj remote value s) := by
  unfold execSyncAdd
  refine Outcome.evolves_next ?_
  repeat' first
    | assumption
    | with_reducible apply State.evolves_refl
    | with_reducible apply State.evolves_ite
    | with_reducible apply State.evolves_foldl
    | with_reducible apply State.evolves_step (State.syncRequest_evolves _ _ _ _ _ _ _ _)
    | decide
    | with_reducible intro _ _ _
    | ((try dsimp only); split)

theorem execSyncMax_evolves (src id obj : Nat) (remote : Bool) (value : BitVec 64) (s : State) :
    Outcome.evolves s [.regs, .fab, .vlk, .adm, .dict] (execSyncMax src id obj remote value s) := by
  unfold execSyncMax
  refine Outcome.evolves_next ?_
  repeat' first
    | assumption
    | with_reducible apply State.evolves_refl
    | with_reducible apply State.evolves_ite
    | with_reducible apply State.evolves_foldl
    | with_reducible apply State.evolves_step (State.syncRequest_evolves _ _ _ _ _ _ _ _)
    | decide
    | with_reducible intro _ _ _
    | ((try dsimp only); split)

theorem execSyncCas_evolves (src id obj : Nat) (remote : Bool) (expected value : BitVec 64) (s : State) :
    Outcome.evolves s [.regs, .fab, .vlk, .adm, .dict] (execSyncCas src id obj remote expected value s) := by
  unfold execSyncCas
  refine Outcome.evolves_next ?_
  repeat' first
    | assumption
    | with_reducible apply State.evolves_refl
    | with_reducible apply State.evolves_ite
    | with_reducible apply State.evolves_foldl
    | with_reducible apply State.evolves_step (State.syncRequest_evolves _ _ _ _ _ _ _ _)
    | decide
    | with_reducible intro _ _ _
    | ((try dsimp only); split)

theorem execSyncRecord_evolves (src id obj : Nat) (remote : Bool) (value : BitVec 64) (s : State) :
    Outcome.evolves s [.regs, .fab, .vlk, .adm, .dict] (execSyncRecord src id obj remote value s) := by
  unfold execSyncRecord
  refine Outcome.evolves_next ?_
  repeat' first
    | assumption
    | with_reducible apply State.evolves_refl
    | with_reducible apply State.evolves_ite
    | with_reducible apply State.evolves_foldl
    | with_reducible apply State.evolves_step (State.syncRequest_evolves _ _ _ _ _ _ _ _)
    | decide
    | with_reducible intro _ _ _
    | ((try dsimp only); split)

theorem execSyncStepMax_evolves (src id obj : Nat) (remote : Bool) (value : BitVec 64) (s : State) :
    Outcome.evolves s [.regs, .fab, .vlk, .adm, .dict] (execSyncStepMax src id obj remote value s) := by
  unfold execSyncStepMax
  refine Outcome.evolves_next ?_
  repeat' first
    | assumption
    | with_reducible apply State.evolves_refl
    | with_reducible apply State.evolves_ite
    | with_reducible apply State.evolves_foldl
    | with_reducible apply State.evolves_step (State.syncRequest_evolves _ _ _ _ _ _ _ _)
    | decide
    | with_reducible intro _ _ _
    | ((try dsimp only); split)

theorem execSyncStepAdd_evolves (src id obj : Nat) (remote : Bool) (value : BitVec 64) (s : State) :
    Outcome.evolves s [.regs, .fab, .vlk, .adm, .dict] (execSyncStepAdd src id obj remote value s) := by
  unfold execSyncStepAdd
  refine Outcome.evolves_next ?_
  repeat' first
    | assumption
    | with_reducible apply State.evolves_refl
    | with_reducible apply State.evolves_ite
    | with_reducible apply State.evolves_foldl
    | with_reducible apply State.evolves_step (State.syncRequest_evolves _ _ _ _ _ _ _ _)
    | decide
    | with_reducible intro _ _ _
    | ((try dsimp only); split)

theorem execSyncWait_evolves (src id obj : Nat) (remote : Bool) (value : BitVec 64) (limit : Nat) (s : State) :
    Outcome.evolves s [.regs, .fab] (execSyncWait src id obj remote value limit s) := by
  unfold execSyncWait
  refine Outcome.evolves_next ?_
  repeat' first
    | assumption
    | with_reducible apply State.evolves_refl
    | with_reducible apply State.evolves_ite
    | with_reducible apply State.evolves_foldl
    | with_reducible apply State.evolves_step (State.bump_evolves _ _ _ _)
    | with_reducible apply State.evolves_step (State.flag_evolves _ _ _ _)
    | with_reducible apply State.evolves_step (State.reply_evolves _ _ _ _ _ _)
    | with_reducible apply State.evolves_step (State.takeInbox_evolves _ _ _)
    | fail_if_no_progress ((with_reducible apply State.evolves_set_fab); decide; (first | (with_reducible exact fun h => h) | exact (fun h => SMap.wf_set _ _ _ _ h) | exact (fun h => SMap.wf_setMany _ _ _ _ h) | exact (fun h => SMap.wf_eraseRange _ _ _ _ h) | exact (fun h => SMap.wfFrom_filter _ _ _ _ h) | exact (fun h => (List.length_set ..).trans h) | exact (fun h => (List.length_modify ..).trans h) | exact (fun h => (List.length_map ..).trans h) | exact (fun h => ⟨h.1, (List.length_set ..).trans h.2⟩) | exact (fun h => h) | exact (fun _ => (List.length_set ..).trans rfl) | exact (fun _ => rfl)))
    | decide
    | with_reducible intro _ _ _
    | ((try dsimp only); split)

theorem State.endWait_evolves (s : State) (w : Waiter) :
    s.evolves (State.endWait s w) [.fab] := by
  unfold State.endWait
  repeat' first
    | assumption
    | with_reducible apply State.evolves_refl
    | with_reducible apply State.evolves_ite
    | with_reducible apply State.evolves_foldl
    | with_reducible apply State.evolves_step (State.reply_evolves _ _ _ _ _ _)
    | fail_if_no_progress ((with_reducible apply State.evolves_set_fab); decide; (first | (with_reducible exact fun h => h) | exact (fun h => SMap.wf_set _ _ _ _ h) | exact (fun h => SMap.wf_setMany _ _ _ _ h) | exact (fun h => SMap.wf_eraseRange _ _ _ _ h) | exact (fun h => SMap.wfFrom_filter _ _ _ _ h) | exact (fun h => (List.length_set ..).trans h) | exact (fun h => (List.length_modify ..).trans h) | exact (fun h => (List.length_map ..).trans h) | exact (fun h => ⟨h.1, (List.length_set ..).trans h.2⟩) | exact (fun h => h) | exact (fun _ => (List.length_set ..).trans rfl) | exact (fun _ => rfl)))
    | decide
    | with_reducible intro _ _ _
    | ((try dsimp only); split)

theorem execSyncWaitSatisfied_evolves (place : Nat) (s : State) :
    Outcome.evolves s [.fab] (execSyncWaitSatisfied place s) := by
  unfold execSyncWaitSatisfied
  refine Outcome.evolves_next ?_
  repeat' first
    | assumption
    | with_reducible apply State.evolves_refl
    | with_reducible apply State.evolves_ite
    | with_reducible apply State.evolves_foldl
    | with_reducible apply State.evolves_step (State.endWait_evolves _ _)
    | decide
    | with_reducible intro _ _ _
    | ((try dsimp only); split)

theorem execSyncWaitTimeout_evolves (place : Nat) (s : State) :
    Outcome.evolves s [.regs, .fab] (execSyncWaitTimeout place s) := by
  unfold execSyncWaitTimeout
  refine Outcome.evolves_next ?_
  repeat' first
    | assumption
    | with_reducible apply State.evolves_refl
    | with_reducible apply State.evolves_ite
    | with_reducible apply State.evolves_foldl
    | with_reducible apply State.evolves_step (State.endWait_evolves _ _)
    | with_reducible apply State.evolves_step (State.flag_evolves _ _ _ _)
    | decide
    | with_reducible intro _ _ _
    | ((try dsimp only); split)

theorem execStepSyncUpdate_evolves (delay : Bool) (value : BitVec 64) (s : State) :
    Outcome.evolves s [.regs, .fab, .vlk, .adm, .dict] (execStepSyncUpdate delay value s) := by
  unfold execStepSyncUpdate
  refine Outcome.evolves_next ?_
  repeat' first
    | assumption
    | with_reducible apply State.evolves_refl
    | with_reducible apply State.evolves_ite
    | with_reducible apply State.evolves_foldl
    | with_reducible apply State.evolves_step (State.answerUpdate_evolves _ _ _)
    | with_reducible apply State.evolves_step (State.applyStepSync_evolves _ _ _ _ _)
    | with_reducible apply State.evolves_step (State.passUpdate_evolves _ _ _ _)
    | with_reducible apply State.evolves_step (State.reply_evolves _ _ _ _ _ _)
    | fail_if_no_progress ((with_reducible apply State.evolves_set_fab); decide; (first | (with_reducible exact fun h => h) | exact (fun h => SMap.wf_set _ _ _ _ h) | exact (fun h => SMap.wf_setMany _ _ _ _ h) | exact (fun h => SMap.wf_eraseRange _ _ _ _ h) | exact (fun h => SMap.wfFrom_filter _ _ _ _ h) | exact (fun h => (List.length_set ..).trans h) | exact (fun h => (List.length_modify ..).trans h) | exact (fun h => (List.length_map ..).trans h) | exact (fun h => ⟨h.1, (List.length_set ..).trans h.2⟩) | exact (fun h => h) | exact (fun _ => (List.length_set ..).trans rfl) | exact (fun _ => rfl)))
    | decide
    | with_reducible intro _ _ _
    | ((try dsimp only); split)

theorem execStepSyncAck_evolves (delay : Bool) (_value : BitVec 64) (s : State) :
    Outcome.evolves s [.fab] (execStepSyncAck delay _value s) := by
  unfold execStepSyncAck
  refine Outcome.evolves_next ?_
  repeat' first
    | assumption
    | with_reducible apply State.evolves_refl
    | with_reducible apply State.evolves_ite
    | with_reducible apply State.evolves_foldl
    | with_reducible apply State.evolves_step (State.reply_evolves _ _ _ _ _ _)
    | fail_if_no_progress ((with_reducible apply State.evolves_set_fab); decide; (first | (with_reducible exact fun h => h) | exact (fun h => SMap.wf_set _ _ _ _ h) | exact (fun h => SMap.wf_setMany _ _ _ _ h) | exact (fun h => SMap.wf_eraseRange _ _ _ _ h) | exact (fun h => SMap.wfFrom_filter _ _ _ _ h) | exact (fun h => (List.length_set ..).trans h) | exact (fun h => (List.length_modify ..).trans h) | exact (fun h => (List.length_map ..).trans h) | exact (fun h => ⟨h.1, (List.length_set ..).trans h.2⟩) | exact (fun h => h) | exact (fun _ => (List.length_set ..).trans rfl) | exact (fun _ => rfl)))
    | decide
    | with_reducible intro _ _ _
    | ((try dsimp only); split)

theorem State.copyPart_evolves (s : State) (job status : Nat) :
    s.evolves (State.copyPart s job status) [.fab] := by
  unfold State.copyPart
  repeat' first
    | assumption
    | with_reducible apply State.evolves_refl
    | with_reducible apply State.evolves_ite
    | with_reducible apply State.evolves_foldl
    | fail_if_no_progress ((with_reducible apply State.evolves_set_fab); decide; (first | (with_reducible exact fun h => h) | exact (fun h => SMap.wf_set _ _ _ _ h) | exact (fun h => SMap.wf_setMany _ _ _ _ h) | exact (fun h => SMap.wf_eraseRange _ _ _ _ h) | exact (fun h => SMap.wfFrom_filter _ _ _ _ h) | exact (fun h => (List.length_set ..).trans h) | exact (fun h => (List.length_modify ..).trans h) | exact (fun h => (List.length_map ..).trans h) | exact (fun h => ⟨h.1, (List.length_set ..).trans h.2⟩) | exact (fun h => h) | exact (fun _ => (List.length_set ..).trans rfl) | exact (fun _ => rfl)))
    | decide
    | with_reducible intro _ _ _
    | ((try dsimp only); split)

theorem State.takePurpose_evolves (s : State) (r : Request) (status : Nat) (data : ReplyData) :
    s.evolves (State.takePurpose s r status data) [.mem, .regs, .frets, .slanes, .board, .num, .emb, .upd, .dram, .fab, .vlk, .adm, .dict, .life] := by
  unfold State.takePurpose
  repeat' first
    | assumption
    | with_reducible apply State.evolves_refl
    | with_reducible apply State.evolves_ite
    | with_reducible apply State.evolves_foldl
    | with_reducible apply State.evolves_step (State.copyPart_evolves _ _ _)
    | with_reducible apply State.evolves_step (State.refusePosted_evolves _ _)
    | with_reducible apply State.evolves_step (State.reply_evolves _ _ _ _ _ _)
    | with_reducible apply State.evolves_step (State.rowReply_evolves _ _ _ _)
    | with_reducible apply State.evolves_step (State.takeOutcome_evolves _ _)
    | fail_if_no_progress ((with_reducible apply State.evolves_set_fab); decide; (first | (with_reducible exact fun h => h) | exact (fun h => SMap.wf_set _ _ _ _ h) | exact (fun h => SMap.wf_setMany _ _ _ _ h) | exact (fun h => SMap.wf_eraseRange _ _ _ _ h) | exact (fun h => SMap.wfFrom_filter _ _ _ _ h) | exact (fun h => (List.length_set ..).trans h) | exact (fun h => (List.length_modify ..).trans h) | exact (fun h => (List.length_map ..).trans h) | exact (fun h => ⟨h.1, (List.length_set ..).trans h.2⟩) | exact (fun h => h) | exact (fun _ => (List.length_set ..).trans rfl) | exact (fun _ => rfl)))
    | decide
    | with_reducible intro _ _ _
    | ((try dsimp only); split)

theorem State.takeReply_evolves (s : State) (r : Request) (status : Nat) (data : ReplyData) :
    s.evolves (State.takeReply s r status data) [.mem, .regs, .frets, .slanes, .board, .num, .emb, .upd, .dram, .fab, .vlk, .adm, .dict, .life] := by
  unfold State.takeReply
  repeat' first
    | assumption
    | with_reducible apply State.evolves_refl
    | with_reducible apply State.evolves_ite
    | with_reducible apply State.evolves_foldl
    | with_reducible apply State.evolves_step (State.memoryFault_evolves _ _)
    | with_reducible apply State.evolves_step (State.takePurpose_evolves _ _ _ _)
    | decide
    | with_reducible intro _ _ _
    | ((try dsimp only); split)

theorem execRemoteReply_evolves (id status : Nat) (data : ReplyData) (s : State) :
    Outcome.evolves s [.mem, .regs, .frets, .slanes, .board, .num, .emb, .upd, .dram, .fab, .vlk, .adm, .dict, .life] (execRemoteReply id status data s) := by
  unfold execRemoteReply
  refine Outcome.evolves_next ?_
  repeat' first
    | assumption
    | with_reducible apply State.evolves_refl
    | with_reducible apply State.evolves_ite
    | with_reducible apply State.evolves_foldl
    | with_reducible apply State.evolves_step (State.takeInbox_evolves _ _ _)
    | with_reducible apply State.evolves_step (State.takeReply_evolves _ _ _ _)
    | fail_if_no_progress ((with_reducible apply State.evolves_set_fab); decide; (first | (with_reducible exact fun h => h) | exact (fun h => SMap.wf_set _ _ _ _ h) | exact (fun h => SMap.wf_setMany _ _ _ _ h) | exact (fun h => SMap.wf_eraseRange _ _ _ _ h) | exact (fun h => SMap.wfFrom_filter _ _ _ _ h) | exact (fun h => (List.length_set ..).trans h) | exact (fun h => (List.length_modify ..).trans h) | exact (fun h => (List.length_map ..).trans h) | exact (fun h => ⟨h.1, (List.length_set ..).trans h.2⟩) | exact (fun h => h) | exact (fun _ => (List.length_set ..).trans rfl) | exact (fun _ => rfl)))
    | decide
    | with_reducible intro _ _ _
    | ((try dsimp only); split)

theorem State.noReply_evolves (s : State) (r : Request) :
    s.evolves (State.noReply s r) [.regs, .emb, .upd, .fab, .vlk, .adm, .dict] := by
  unfold State.noReply
  repeat' first
    | assumption
    | with_reducible apply State.evolves_refl
    | with_reducible apply State.evolves_ite
    | with_reducible apply State.evolves_foldl
    | with_reducible apply State.evolves_step (State.arbiterLost_evolves _)
    | with_reducible apply State.evolves_step (State.copyPart_evolves _ _ _)
    | with_reducible apply State.evolves_step (State.refusePosted_evolves _ _)
    | fail_if_no_progress ((with_reducible apply State.evolves_set_emb); decide)
    | fail_if_no_progress ((with_reducible apply State.evolves_set_fab); decide; (first | (with_reducible exact fun h => h) | exact (fun h => SMap.wf_set _ _ _ _ h) | exact (fun h => SMap.wf_setMany _ _ _ _ h) | exact (fun h => SMap.wf_eraseRange _ _ _ _ h) | exact (fun h => SMap.wfFrom_filter _ _ _ _ h) | exact (fun h => (List.length_set ..).trans h) | exact (fun h => (List.length_modify ..).trans h) | exact (fun h => (List.length_map ..).trans h) | exact (fun h => ⟨h.1, (List.length_set ..).trans h.2⟩) | exact (fun h => h) | exact (fun _ => (List.length_set ..).trans rfl) | exact (fun _ => rfl)))
    | decide
    | with_reducible intro _ _ _
    | ((try dsimp only); split)

theorem execRemoteTimeout_evolves (id : Nat) (s : State) :
    Outcome.evolves s [.regs, .emb, .upd, .fab, .vlk, .adm, .dict] (execRemoteTimeout id s) := by
  unfold execRemoteTimeout
  refine Outcome.evolves_next ?_
  repeat' first
    | assumption
    | with_reducible apply State.evolves_refl
    | with_reducible apply State.evolves_ite
    | with_reducible apply State.evolves_foldl
    | with_reducible apply State.evolves_step (State.bump_evolves _ _ _ _)
    | with_reducible apply State.evolves_step (State.flag_evolves _ _ _ _)
    | with_reducible apply State.evolves_step (State.jobFault_evolves _ _ _)
    | with_reducible apply State.evolves_step (State.noReply_evolves _ _)
    | fail_if_no_progress ((with_reducible apply State.evolves_set_fab); decide; (first | (with_reducible exact fun h => h) | exact (fun h => SMap.wf_set _ _ _ _ h) | exact (fun h => SMap.wf_setMany _ _ _ _ h) | exact (fun h => SMap.wf_eraseRange _ _ _ _ h) | exact (fun h => SMap.wfFrom_filter _ _ _ _ h) | exact (fun h => (List.length_set ..).trans h) | exact (fun h => (List.length_modify ..).trans h) | exact (fun h => (List.length_map ..).trans h) | exact (fun h => ⟨h.1, (List.length_set ..).trans h.2⟩) | exact (fun h => h) | exact (fun _ => (List.length_set ..).trans rfl) | exact (fun _ => rfl)))
    | decide
    | with_reducible intro _ _ _
    | ((try dsimp only); split)

end Sys2Proof.Machine
end

