-- ==== Sys2Proof/Laws/FrameHost.lean ====
section
/-! SUPPORT. What each operation of Machine/Host.lean may change. -/

namespace Sys2Proof.Machine

theorem State.acceptDone_evolves (s : State) (f : Bytes) (t bound : Nat) :
    s.evolves (State.acceptDone s f t bound) [.regs, .vlk, .adm] := by
  unfold State.acceptDone
  repeat' first
    | assumption
    | with_reducible apply State.evolves_refl
    | with_reducible apply State.evolves_ite
    | with_reducible apply State.evolves_foldl
    | with_reducible apply State.evolves_step (State.acceptId_evolves _ _ _ _ _ _)
    | decide
    | with_reducible intro _ _ _
    | ((try dsimp only); split)

theorem State.putBytes_evolves (s : State) (a : Nat) (bs : Bytes) :
    s.evolves (State.putBytes s a bs) [.mem, .regs, .frets, .board, .upd, .dram] := by
  unfold State.putBytes
  repeat' first
    | assumption
    | with_reducible apply State.evolves_refl
    | with_reducible apply State.evolves_ite
    | with_reducible apply State.evolves_foldl
    | with_reducible apply State.evolves_step (State.put_evolves _ _ _)
    | with_reducible apply State.evolves_step (State.windowWrite_evolves _ _ _ _)
    | decide
    | with_reducible intro _ _ _
    | ((try dsimp only); split)

theorem State.decidePut_evolves (s : State) (f : Bytes) (t : Nat) :
    s.evolves (State.decidePut s f t) [.mem, .regs, .frets, .board, .upd, .dram, .vlk, .adm, .dict] := by
  unfold State.decidePut
  repeat' first
    | assumption
    | with_reducible apply State.evolves_refl
    | with_reducible apply State.evolves_ite
    | with_reducible apply State.evolves_foldl
    | with_reducible apply State.evolves_step (State.acceptDone_evolves _ _ _ _)
    | with_reducible apply State.evolves_step (State.answer_evolves _ _ _ _ _)
    | with_reducible apply State.evolves_step (State.putBytes_evolves _ _ _)
    | with_reducible apply State.evolves_step (State.refuse_evolves _ _ _)
    | decide
    | with_reducible intro _ _ _
    | ((try dsimp only); split)

theorem State.dirFull_evolves (s : State) (table row : Nat) :
    s.evolves (State.dirFull s table row) [.regs] := by
  unfold State.dirFull
  repeat' first
    | assumption
    | with_reducible apply State.evolves_refl
    | with_reducible apply State.evolves_ite
    | with_reducible apply State.evolves_foldl
    | with_reducible apply State.evolves_step (State.flag_evolves _ _ _ _)
    | decide
    | with_reducible intro _ _ _
    | ((try dsimp only); split)

theorem State.load_evolves (s : State) (a : Nat) (bs : Bytes) :
    s.evolves (State.load s a bs) [.mem, .regs, .upd, .dram] := by
  unfold State.load
  repeat' first
    | assumption
    | with_reducible apply State.evolves_refl
    | with_reducible apply State.evolves_ite
    | with_reducible apply State.evolves_foldl
    | with_reducible apply State.evolves_step (State.answer_evolves _ _ _ _ _)
    | with_reducible apply State.evolves_step (State.put_evolves _ _ _)
    | decide
    | with_reducible intro _ _ _
    | ((try dsimp only); split)

theorem State.insertRow_evolves (s : State) (t : Table) (r : InRow) :
    s.evolves (State.insertRow s t r) [.mem, .regs, .emb, .upd, .dram] := by
  unfold State.insertRow
  dsimp only
  split
  · exact State.evolves_wider (State.dirFull_evolves _ _ _) (by decide)
  · split
    · exact State.evolves_wider (State.dirFull_evolves _ _ _) (by decide)
    · next p h =>
      refine State.evolves_step (State.setDir_evolves _ _ _) ?_ (by decide)
      refine State.evolves_step (State.load_evolves _ _ _) ?_ (by decide)
      have h0 : s.evolves p.2 [.mem, .regs, .emb, .upd, .dram] := by
        refine State.evolves_step (State.poolTake_evolves h) ?_ (by decide)
        split
        · exact State.evolves_set_emb (by decide) (State.evolves_refl _ _)
        · exact State.evolves_refl _ _
      exact State.evolves_ite (State.evolves_step (State.snapCopy_evolves _ _) h0 (by decide)) h0

theorem State.decideRows_evolves (s : State) (f : Bytes) (t : Nat) :
    s.evolves (State.decideRows s f t) [.mem, .regs, .emb, .upd, .dram, .vlk, .adm, .dict] := by
  unfold State.decideRows
  repeat' first
    | assumption
    | with_reducible apply State.evolves_refl
    | with_reducible apply State.evolves_ite
    | with_reducible apply State.evolves_foldl
    | with_reducible apply State.evolves_step (State.acceptDone_evolves _ _ _ _)
    | with_reducible apply State.evolves_step (State.insertRow_evolves _ _ _)
    | with_reducible apply State.evolves_step (State.refuse_evolves _ _ _)
    | fail_if_no_progress ((with_reducible apply State.evolves_set_adm); decide; (first | (with_reducible exact fun h => h) | exact (fun h => SMap.wf_set _ _ _ _ h) | exact (fun h => SMap.wf_setMany _ _ _ _ h) | exact (fun h => SMap.wf_eraseRange _ _ _ _ h) | exact (fun h => SMap.wfFrom_filter _ _ _ _ h) | exact (fun h => (List.length_set ..).trans h) | exact (fun h => (List.length_modify ..).trans h) | exact (fun h => (List.length_map ..).trans h) | exact (fun h => ⟨h.1, (List.length_set ..).trans h.2⟩) | exact (fun h => h) | exact (fun _ => (List.length_set ..).trans rfl) | exact (fun _ => rfl)))
    | decide
    | with_reducible intro _ _ _
    | ((try dsimp only); split)

theorem State.restoreTensor_evolves (s : State) (entry off : Nat) (bs : Bytes) :
    s.evolves (State.restoreTensor s entry off bs) [.mem, .regs, .upd, .dram] := by
  unfold State.restoreTensor
  repeat' first
    | assumption
    | with_reducible apply State.evolves_refl
    | with_reducible apply State.evolves_ite
    | with_reducible apply State.evolves_foldl
    | with_reducible apply State.evolves_step (State.load_evolves _ _ _)
    | decide
    | with_reducible intro _ _ _
    | ((try dsimp only); split)

theorem State.restoreChunk_evolves (s : State) (c : Chunk) :
    s.evolves (State.restoreChunk s c) [.mem, .regs, .upd, .dram] := by
  unfold State.restoreChunk
  repeat' first
    | assumption
    | with_reducible apply State.evolves_refl
    | with_reducible apply State.evolves_ite
    | with_reducible apply State.evolves_foldl
    | with_reducible apply State.evolves_step (State.load_evolves _ _ _)
    | with_reducible apply State.evolves_step (State.restoreTensor_evolves _ _ _ _)
    | fail_if_no_progress ((with_reducible apply State.evolves_set_upd); decide; (first | (with_reducible exact fun h => h) | exact (fun h => SMap.wf_set _ _ _ _ h) | exact (fun h => SMap.wf_setMany _ _ _ _ h) | exact (fun h => SMap.wf_eraseRange _ _ _ _ h) | exact (fun h => SMap.wfFrom_filter _ _ _ _ h) | exact (fun h => (List.length_set ..).trans h) | exact (fun h => (List.length_modify ..).trans h) | exact (fun h => (List.length_map ..).trans h) | exact (fun h => ⟨h.1, (List.length_set ..).trans h.2⟩) | exact (fun h => h) | exact (fun _ => (List.length_set ..).trans rfl) | exact (fun _ => rfl)))
    | decide
    | with_reducible intro _ _ _
    | ((try dsimp only); split)

theorem State.rederive_evolves (s : State) (p : Param) (h : Nat) :
    s.evolves (State.rederive s p h) [.mem, .dram] := by
  unfold State.rederive
  repeat' first
    | assumption
    | with_reducible apply State.evolves_refl
    | with_reducible apply State.evolves_ite
    | with_reducible apply State.evolves_foldl
    | with_reducible apply State.evolves_step (State.store_evolves _ _ _)
    | decide
    | with_reducible intro _ _ _
    | ((try dsimp only); split)

theorem State.rebuildDirectory_evolves (s : State) (rows : List Bytes) :
    s.evolves (State.rebuildDirectory s rows) [.mem, .regs, .emb, .dram] := by
  unfold State.rebuildDirectory
  repeat' first
    | assumption
    | with_reducible apply State.evolves_refl
    | with_reducible apply State.evolves_ite
    | with_reducible apply State.evolves_foldl
    | with_reducible apply State.evolves_step (State.dirFull_evolves _ _ _)
    | with_reducible apply State.evolves_step (State.setDir_evolves _ _ _)
    | with_reducible apply State.evolves_step (State.zeroStore_evolves _ _ _)
    | fail_if_no_progress ((with_reducible apply State.evolves_set_emb); decide)
    | decide
    | with_reducible intro _ _ _
    | ((try dsimp only); split)

theorem State.restoreSketch_evolves (s : State) (parity : Nat) (b : Bytes) :
    s.evolves (State.restoreSketch s parity b) [.emb] := by
  unfold State.restoreSketch
  repeat' first
    | assumption
    | with_reducible apply State.evolves_refl
    | with_reducible apply State.evolves_ite
    | with_reducible apply State.evolves_foldl
    | fail_if_no_progress ((with_reducible apply State.evolves_set_emb); decide)
    | decide
    | with_reducible intro _ _ _
    | ((try dsimp only); split)

theorem State.restoreEnd_evolves (s : State) (r : Restore) :
    s.evolves (State.restoreEnd s r) [.mem, .regs, .num, .emb, .upd, .dram] := by
  unfold State.restoreEnd
  repeat' first
    | assumption
    | with_reducible apply State.evolves_refl
    | with_reducible apply State.evolves_ite
    | with_reducible apply State.evolves_foldl
    | with_reducible apply State.evolves_step (State.rebuildDirectory_evolves _ _)
    | with_reducible apply State.evolves_step (State.rederive_evolves _ _ _)
    | with_reducible apply State.evolves_step (State.restoreSketch_evolves _ _ _)
    | fail_if_no_progress ((with_reducible apply State.evolves_set_upd); decide; (first | (with_reducible exact fun h => h) | exact (fun h => SMap.wf_set _ _ _ _ h) | exact (fun h => SMap.wf_setMany _ _ _ _ h) | exact (fun h => SMap.wf_eraseRange _ _ _ _ h) | exact (fun h => SMap.wfFrom_filter _ _ _ _ h) | exact (fun h => (List.length_set ..).trans h) | exact (fun h => (List.length_modify ..).trans h) | exact (fun h => (List.length_map ..).trans h) | exact (fun h => ⟨h.1, (List.length_set ..).trans h.2⟩) | exact (fun h => h) | exact (fun _ => (List.length_set ..).trans rfl) | exact (fun _ => rfl)))
    | fail_if_no_progress ((with_reducible apply State.evolves_set_num); decide)
    | decide
    | with_reducible intro _ _ _
    | ((try dsimp only); split)

theorem State.decideRestore_evolves (s : State) (f : Bytes) (t : Nat) :
    s.evolves (State.decideRestore s f t) [.mem, .regs, .num, .emb, .upd, .dram, .vlk, .adm, .dict] := by
  unfold State.decideRestore
  repeat' first
    | assumption
    | with_reducible apply State.evolves_refl
    | with_reducible apply State.evolves_ite
    | with_reducible apply State.evolves_foldl
    | with_reducible apply State.evolves_step (State.acceptDone_evolves _ _ _ _)
    | with_reducible apply State.evolves_step (State.refuse_evolves _ _ _)
    | with_reducible apply State.evolves_step (State.restoreChunk_evolves _ _)
    | with_reducible apply State.evolves_step (State.restoreEnd_evolves _ _)
    | fail_if_no_progress ((with_reducible apply State.evolves_set_upd); decide; (first | (with_reducible exact fun h => h) | exact (fun h => SMap.wf_set _ _ _ _ h) | exact (fun h => SMap.wf_setMany _ _ _ _ h) | exact (fun h => SMap.wf_eraseRange _ _ _ _ h) | exact (fun h => SMap.wfFrom_filter _ _ _ _ h) | exact (fun h => (List.length_set ..).trans h) | exact (fun h => (List.length_modify ..).trans h) | exact (fun h => (List.length_map ..).trans h) | exact (fun h => ⟨h.1, (List.length_set ..).trans h.2⟩) | exact (fun h => h) | exact (fun _ => (List.length_set ..).trans rfl) | exact (fun _ => rfl)))
    | decide
    | with_reducible intro _ _ _
    | ((try dsimp only); split)

theorem State.decideSettle_evolves (s : State) (f : Bytes) (t : Nat) :
    s.evolves (State.decideSettle s f t) [.mem, .regs, .frets, .slanes, .board, .num, .emb, .upd, .dram, .fab, .vlk, .adm, .dict, .life] := by
  unfold State.decideSettle
  repeat' first
    | assumption
    | with_reducible apply State.evolves_refl
    | with_reducible apply State.evolves_ite
    | with_reducible apply State.evolves_foldl
    | with_reducible apply State.evolves_step (State.acceptDone_evolves _ _ _ _)
    | with_reducible apply State.evolves_step (State.refuse_evolves _ _ _)
    | with_reducible apply State.evolves_step (State.takeOutcome_evolves _ _)
    | decide
    | with_reducible intro _ _ _
    | ((try dsimp only); split)

theorem State.decideReadback_evolves (s : State) (f : Bytes) (t : Nat) :
    s.evolves (State.decideReadback s f t) [.regs, .vlk, .adm, .dict] := by
  unfold State.decideReadback
  repeat' first
    | assumption
    | with_reducible apply State.evolves_refl
    | with_reducible apply State.evolves_ite
    | with_reducible apply State.evolves_foldl
    | with_reducible apply State.evolves_step (State.acceptDone_evolves _ _ _ _)
    | with_reducible apply State.evolves_step (State.hold_evolves _ _)
    | with_reducible apply State.evolves_step (State.refuse_evolves _ _ _)
    | fail_if_no_progress ((with_reducible apply State.evolves_set_adm); decide; (first | (with_reducible exact fun h => h) | exact (fun h => SMap.wf_set _ _ _ _ h) | exact (fun h => SMap.wf_setMany _ _ _ _ h) | exact (fun h => SMap.wf_eraseRange _ _ _ _ h) | exact (fun h => SMap.wfFrom_filter _ _ _ _ h) | exact (fun h => (List.length_set ..).trans h) | exact (fun h => (List.length_modify ..).trans h) | exact (fun h => (List.length_map ..).trans h) | exact (fun h => ⟨h.1, (List.length_set ..).trans h.2⟩) | exact (fun h => h) | exact (fun _ => (List.length_set ..).trans rfl) | exact (fun _ => rfl)))
    | decide
    | with_reducible intro _ _ _
    | ((try dsimp only); split)

theorem State.decideStatus_evolves (s : State) (f : Bytes) (t : Nat) :
    s.evolves (State.decideStatus s f t) [.regs, .vlk, .adm, .dict] := by
  unfold State.decideStatus
  repeat' first
    | assumption
    | with_reducible apply State.evolves_refl
    | with_reducible apply State.evolves_ite
    | with_reducible apply State.evolves_foldl
    | with_reducible apply State.evolves_step (State.acceptDone_evolves _ _ _ _)
    | with_reducible apply State.evolves_step (State.refuse_evolves _ _ _)
    | with_reducible apply State.evolves_step (State.sendStatusFor_evolves _ _ _)
    | decide
    | with_reducible intro _ _ _
    | ((try dsimp only); split)

theorem State.decideSnapshot_evolves (s : State) (f : Bytes) (t : Nat) :
    s.evolves (State.decideSnapshot s f t) [.regs, .upd, .vlk, .adm, .dict] := by
  unfold State.decideSnapshot
  repeat' first
    | assumption
    | with_reducible apply State.evolves_refl
    | with_reducible apply State.evolves_ite
    | with_reducible apply State.evolves_foldl
    | with_reducible apply State.evolves_step (State.acceptDone_evolves _ _ _ _)
    | with_reducible apply State.evolves_step (State.hold_evolves _ _)
    | with_reducible apply State.evolves_step (State.refuse_evolves _ _ _)
    | fail_if_no_progress ((with_reducible apply State.evolves_set_upd); decide; (first | (with_reducible exact fun h => h) | exact (fun h => SMap.wf_set _ _ _ _ h) | exact (fun h => SMap.wf_setMany _ _ _ _ h) | exact (fun h => SMap.wf_eraseRange _ _ _ _ h) | exact (fun h => SMap.wfFrom_filter _ _ _ _ h) | exact (fun h => (List.length_set ..).trans h) | exact (fun h => (List.length_modify ..).trans h) | exact (fun h => (List.length_map ..).trans h) | exact (fun h => ⟨h.1, (List.length_set ..).trans h.2⟩) | exact (fun h => h) | exact (fun _ => (List.length_set ..).trans rfl) | exact (fun _ => rfl)))
    | decide
    | with_reducible intro _ _ _
    | ((try dsimp only); split)

theorem execBoundExpiry_evolves (frame : Nat) (s : State) :
    Outcome.evolves s [.regs, .vlk, .adm, .dict] (execBoundExpiry frame s) := by
  unfold execBoundExpiry
  refine Outcome.evolves_next ?_
  repeat' first
    | assumption
    | with_reducible apply State.evolves_refl
    | with_reducible apply State.evolves_ite
    | with_reducible apply State.evolves_foldl
    | with_reducible apply State.evolves_step (State.breakFrames_evolves _ _ _ _)
    | decide
    | with_reducible intro _ _ _
    | ((try dsimp only); split)

theorem State.discardFrames_evolves (s : State) (step : Nat) :
    s.evolves (State.discardFrames s step) [.regs, .vlk, .adm, .dict] := by
  unfold State.discardFrames
  repeat' first
    | assumption
    | with_reducible apply State.evolves_refl
    | with_reducible apply State.evolves_ite
    | with_reducible apply State.evolves_foldl
    | with_reducible apply State.evolves_step (State.refuse_evolves _ _ _)
    | fail_if_no_progress ((with_reducible apply State.evolves_set_adm); decide; (first | (with_reducible exact fun h => h) | exact (fun h => SMap.wf_set _ _ _ _ h) | exact (fun h => SMap.wf_setMany _ _ _ _ h) | exact (fun h => SMap.wf_eraseRange _ _ _ _ h) | exact (fun h => SMap.wfFrom_filter _ _ _ _ h) | exact (fun h => (List.length_set ..).trans h) | exact (fun h => (List.length_modify ..).trans h) | exact (fun h => (List.length_map ..).trans h) | exact (fun h => ⟨h.1, (List.length_set ..).trans h.2⟩) | exact (fun h => h) | exact (fun _ => (List.length_set ..).trans rfl) | exact (fun _ => rfl)))
    | decide
    | with_reducible intro _ _ _
    | ((try dsimp only); split)

theorem State.rollAhead_evolves (s : State) (step : Nat) :
    s.evolves (State.rollAhead s step) [.regs, .frets, .emb, .upd, .dict] := by
  unfold State.rollAhead
  repeat' first
    | assumption
    | with_reducible apply State.evolves_refl
    | with_reducible apply State.evolves_ite
    | with_reducible apply State.evolves_foldl
    | with_reducible apply State.evolves_step (State.event_evolves _ _ _)
    | with_reducible apply State.evolves_step (State.mapFrets_evolves _ _ _)
    | fail_if_no_progress ((with_reducible apply State.evolves_set_emb); decide)
    | fail_if_no_progress ((with_reducible apply State.evolves_set_upd); decide; (first | (with_reducible exact fun h => h) | exact (fun h => SMap.wf_set _ _ _ _ h) | exact (fun h => SMap.wf_setMany _ _ _ _ h) | exact (fun h => SMap.wf_eraseRange _ _ _ _ h) | exact (fun h => SMap.wfFrom_filter _ _ _ _ h) | exact (fun h => (List.length_set ..).trans h) | exact (fun h => (List.length_modify ..).trans h) | exact (fun h => (List.length_map ..).trans h) | exact (fun h => ⟨h.1, (List.length_set ..).trans h.2⟩) | exact (fun h => h) | exact (fun _ => (List.length_set ..).trans rfl) | exact (fun _ => rfl)))
    | decide
    | with_reducible intro _ _ _
    | ((try dsimp only); split)

theorem execFrameWaitLimit_evolves (step : Nat) (s : State) :
    Outcome.evolves s [.mem, .regs, .frets, .slanes, .board, .num, .emb, .upd, .dram, .fab, .vlk, .adm, .dict, .life] (execFrameWaitLimit step s) := by
  unfold execFrameWaitLimit
  refine Outcome.evolves_next ?_
  repeat' first
    | assumption
    | with_reducible apply State.evolves_refl
    | with_reducible apply State.evolves_ite
    | with_reducible apply State.evolves_foldl
    | with_reducible apply State.evolves_step (State.breakFrames_evolves _ _ _ _)
    | with_reducible apply State.evolves_step (State.discardFrames_evolves _ _)
    | with_reducible apply State.evolves_step (State.mapFrets_evolves _ _ _)
    | with_reducible apply State.evolves_step (State.metCarries_evolves _ _)
    | with_reducible apply State.evolves_step (State.rollAhead_evolves _ _)
    | with_reducible apply State.evolves_step (State.rollback_evolves _ _ _ _)
    | with_reducible apply State.evolves_step (State.setFault_evolves _ _)
    | fail_if_no_progress ((with_reducible apply State.evolves_set_upd); decide; (first | (with_reducible exact fun h => h) | exact (fun h => SMap.wf_set _ _ _ _ h) | exact (fun h => SMap.wf_setMany _ _ _ _ h) | exact (fun h => SMap.wf_eraseRange _ _ _ _ h) | exact (fun h => SMap.wfFrom_filter _ _ _ _ h) | exact (fun h => (List.length_set ..).trans h) | exact (fun h => (List.length_modify ..).trans h) | exact (fun h => (List.length_map ..).trans h) | exact (fun h => ⟨h.1, (List.length_set ..).trans h.2⟩) | exact (fun h => h) | exact (fun _ => (List.length_set ..).trans rfl) | exact (fun _ => rfl)))
    | decide
    | with_reducible intro _ _ _
    | ((try dsimp only); split)

end Sys2Proof.Machine
end

