-- ==== Sys2Proof/Laws/FrameRegs.lean ====
section
/-! SUPPORT. What each operation of Machine/Regs.lean may change. -/

namespace Sys2Proof.Machine

theorem State.updSlow_evolves (s : State) (w : Nat) (g : SlowWin → SlowWin) :
    s.evolves (State.updSlow s w g) [.slow] := by
  unfold State.updSlow
  repeat' first
    | assumption
    | with_reducible apply State.evolves_refl
    | with_reducible apply State.evolves_ite
    | with_reducible apply State.evolves_foldl
    | fail_if_no_progress ((with_reducible apply State.evolves_set_slow); decide; (first | (with_reducible exact fun h => h) | exact (fun h => SMap.wf_set _ _ _ _ h) | exact (fun h => SMap.wf_setMany _ _ _ _ h) | exact (fun h => SMap.wf_eraseRange _ _ _ _ h) | exact (fun h => SMap.wfFrom_filter _ _ _ _ h) | exact (fun h => (List.length_set ..).trans h) | exact (fun h => (List.length_modify ..).trans h) | exact (fun h => (List.length_map ..).trans h) | exact (fun h => ⟨h.1, (List.length_set ..).trans h.2⟩) | exact (fun h => h) | exact (fun _ => (List.length_set ..).trans rfl) | exact (fun _ => rfl)))
    | decide
    | with_reducible intro _ _ _
    | ((try dsimp only); split)

theorem State.slowQueue_evolves (s : State) (w : Nat) (n mask data : Nat) :
    s.evolves (State.slowQueue s w n mask data) [.slow] := by
  unfold State.slowQueue
  repeat' first
    | assumption
    | with_reducible apply State.evolves_refl
    | with_reducible apply State.evolves_ite
    | with_reducible apply State.evolves_foldl
    | with_reducible apply State.evolves_step (State.updSlow_evolves _ _ _)
    | decide
    | with_reducible intro _ _ _
    | ((try dsimp only); split)

theorem State.slowRefresh_evolves (s : State) (w : Nat) :
    s.evolves (State.slowRefresh s w) [.slow] := by
  unfold State.slowRefresh
  repeat' first
    | assumption
    | with_reducible apply State.evolves_refl
    | with_reducible apply State.evolves_ite
    | with_reducible apply State.evolves_foldl
    | with_reducible apply State.evolves_step (State.updSlow_evolves _ _ _)
    | decide
    | with_reducible intro _ _ _
    | ((try dsimp only); split)

theorem State.diceDone_evolves (s : State) (die : Nat) :
    s.evolves (State.diceDone s die) [.regs, .board] := by
  unfold State.diceDone
  repeat' first
    | assumption
    | with_reducible apply State.evolves_refl
    | with_reducible apply State.evolves_ite
    | with_reducible apply State.evolves_foldl
    | with_reducible apply State.evolves_step (State.setCDie_evolves _ _ _)
    | with_reducible apply State.evolves_step (State.setReg_evolves _ _ _ _)
    | decide
    | with_reducible intro _ _ _
    | ((try dsimp only); split)

theorem State.regValue_evolves (s : State) (die n : Nat) :
    s.evolves (State.regValue s die n).2 [.regs, .board] := by
  unfold State.regValue
  repeat' first
    | assumption
    | with_reducible apply State.evolves_refl
    | with_reducible apply State.evolves_ite
    | with_reducible apply State.evolves_foldl
    | with_reducible apply State.evolves_ite_snd
    | with_reducible apply State.evolves_foldl_snd
    | with_reducible apply State.evolves_step (State.diceDone_evolves _ _)
    | decide
    | with_reducible intro _ _ _
    | ((try dsimp only); split)

theorem State.regRead_evolves {s : State} {off width : Nat} {priv : Bool} {p : Nat × State}
    (h : s.regRead off width priv = some p) : s.evolves p.2 [.regs, .board] := by
  unfold State.regRead at h
  split at h
  · cases h
  · dsimp only at h
    split at h
    · cases h
      exact State.evolves_wider (State.denied_evolves _ _ _) (by decide)
    · cases h
      exact State.regValue_evolves _ _ _

theorem State.diceStart_evolves (s : State) (die ctr : Nat) :
    s.evolves (State.diceStart s die ctr) [.regs, .board] := by
  unfold State.diceStart
  repeat' first
    | assumption
    | with_reducible apply State.evolves_refl
    | with_reducible apply State.evolves_ite
    | with_reducible apply State.evolves_foldl
    | with_reducible apply State.evolves_step (State.setCDie_evolves _ _ _)
    | with_reducible apply State.evolves_step (State.setReg_evolves _ _ _ _)
    | decide
    | with_reducible intro _ _ _
    | ((try dsimp only); split)

theorem State.restartFret_evolves (s : State) (i : Nat) (switch : Bool) :
    s.evolves (State.restartFret s i switch) [.regs, .frets, .slanes, .board, .num, .dram, .fab, .vlk, .adm, .dict, .life] := by
  unfold State.restartFret
  repeat' first
    | assumption
    | with_reducible apply State.evolves_refl
    | with_reducible apply State.evolves_ite
    | with_reducible apply State.evolves_foldl
    | with_reducible apply State.evolves_step (State.bump_evolves _ _ _ _)
    | with_reducible apply State.evolves_step (State.flag_evolves _ _ _ _)
    | with_reducible apply State.evolves_step (State.setFret_evolves _ _ _)
    | with_reducible apply State.evolves_step (State.switchFret_evolves _ _ _)
    | decide
    | with_reducible intro _ _ _
    | ((try dsimp only); split)

theorem State.restartPhases_evolves (s : State) (die : Nat) (idx : List Nat) (switch : Bool) :
    s.evolves (State.restartPhases s die idx switch) [.board] := by
  unfold State.restartPhases
  repeat' first
    | assumption
    | with_reducible apply State.evolves_refl
    | with_reducible apply State.evolves_ite
    | with_reducible apply State.evolves_foldl
    | with_reducible apply State.evolves_step (State.updBoard_evolves _ _)
    | decide
    | with_reducible intro _ _ _
    | ((try dsimp only); split)

theorem State.restartCtrl_evolves (s : State) (die v : Nat) :
    s.evolves (State.restartCtrl s die v) [.regs, .frets, .slanes, .board, .num, .dram, .fab, .vlk, .adm, .dict, .life] := by
  unfold State.restartCtrl
  repeat' first
    | assumption
    | with_reducible apply State.evolves_refl
    | with_reducible apply State.evolves_ite
    | with_reducible apply State.evolves_foldl
    | with_reducible apply State.evolves_step (State.flag_evolves _ _ _ _)
    | with_reducible apply State.evolves_step (State.restartFret_evolves _ _ _)
    | with_reducible apply State.evolves_step (State.restartPhases_evolves _ _ _ _)
    | with_reducible apply State.evolves_step (State.setReg_evolves _ _ _ _)
    | decide
    | with_reducible intro _ _ _
    | ((try dsimp only); split)

theorem State.resetBlockRegs_evolves (s : State) (die block : Nat) :
    s.evolves (State.resetBlockRegs s die block) [.regs] := by
  unfold State.resetBlockRegs
  repeat' first
    | assumption
    | with_reducible apply State.evolves_refl
    | with_reducible apply State.evolves_ite
    | with_reducible apply State.evolves_foldl
    | with_reducible apply State.evolves_step (State.setReg_evolves _ _ _ _)
    | decide
    | with_reducible intro _ _ _
    | ((try dsimp only); split)

theorem State.eachFret_evolves (s : State) (die : Nat) (g : Fret → Fret) :
    s.evolves (State.eachFret s die g) [.frets] := by
  unfold State.eachFret
  repeat' first
    | assumption
    | with_reducible apply State.evolves_refl
    | with_reducible apply State.evolves_ite
    | with_reducible apply State.evolves_foldl
    | with_reducible apply State.evolves_step (State.updFret_evolves _ _ _)
    | decide
    | with_reducible intro _ _ _
    | ((try dsimp only); split)

theorem State.eachLane_evolves (s : State) (die : Nat) (g : SLane → SLane) :
    s.evolves (State.eachLane s die g) [.slanes] := by
  unfold State.eachLane
  repeat' first
    | assumption
    | with_reducible apply State.evolves_refl
    | with_reducible apply State.evolves_ite
    | with_reducible apply State.evolves_foldl
    | with_reducible apply State.evolves_step (State.setLane_evolves _ _ _)
    | decide
    | with_reducible intro _ _ _
    | ((try dsimp only); split)

theorem State.controllerReset_evolves (s : State) (tier die : Nat) :
    s.evolves (State.controllerReset s tier die) [.regs, .dram] := by
  unfold State.controllerReset
  repeat' first
    | assumption
    | with_reducible apply State.evolves_refl
    | with_reducible apply State.evolves_ite
    | with_reducible apply State.evolves_foldl
    | with_reducible apply State.evolves_step (State.showTraining_evolves _)
    | fail_if_no_progress ((with_reducible apply State.evolves_set_dram); decide)
    | decide
    | with_reducible intro _ _ _
    | ((try dsimp only); split)

theorem State.resetBlockState_evolves (s : State) (die block : Nat) :
    s.evolves (State.resetBlockState s die block) [.regs, .frets, .slanes, .board, .num, .emb, .upd, .dram, .fab, .vlk] := by
  unfold State.resetBlockState
  repeat' first
    | assumption
    | with_reducible apply State.evolves_refl
    | with_reducible apply State.evolves_ite
    | with_reducible apply State.evolves_foldl
    | with_reducible apply State.evolves_step (State.controllerReset_evolves _ _ _)
    | with_reducible apply State.evolves_step (State.eachFret_evolves _ _ _)
    | with_reducible apply State.evolves_step (State.eachLane_evolves _ _ _)
    | with_reducible apply State.evolves_step (State.serveWindows_evolves _)
    | with_reducible apply State.evolves_step (State.setCDie_evolves _ _ _)
    | with_reducible apply State.evolves_step (State.updBoard_evolves _ _)
    | fail_if_no_progress ((with_reducible apply State.evolves_set_num); decide)
    | fail_if_no_progress ((with_reducible apply State.evolves_set_emb); decide)
    | fail_if_no_progress ((with_reducible apply State.evolves_set_upd); decide; (first | (with_reducible exact fun h => h) | exact (fun h => SMap.wf_set _ _ _ _ h) | exact (fun h => SMap.wf_setMany _ _ _ _ h) | exact (fun h => SMap.wf_eraseRange _ _ _ _ h) | exact (fun h => SMap.wfFrom_filter _ _ _ _ h) | exact (fun h => (List.length_set ..).trans h) | exact (fun h => (List.length_modify ..).trans h) | exact (fun h => (List.length_map ..).trans h) | exact (fun h => ⟨h.1, (List.length_set ..).trans h.2⟩) | exact (fun h => h) | exact (fun _ => (List.length_set ..).trans rfl) | exact (fun _ => rfl)))
    | fail_if_no_progress ((with_reducible apply State.evolves_set_fab); decide; (first | (with_reducible exact fun h => h) | exact (fun h => SMap.wf_set _ _ _ _ h) | exact (fun h => SMap.wf_setMany _ _ _ _ h) | exact (fun h => SMap.wf_eraseRange _ _ _ _ h) | exact (fun h => SMap.wfFrom_filter _ _ _ _ h) | exact (fun h => (List.length_set ..).trans h) | exact (fun h => (List.length_modify ..).trans h) | exact (fun h => (List.length_map ..).trans h) | exact (fun h => ⟨h.1, (List.length_set ..).trans h.2⟩) | exact (fun h => h) | exact (fun _ => (List.length_set ..).trans rfl) | exact (fun _ => rfl)))
    | fail_if_no_progress ((with_reducible apply State.evolves_set_vlk); decide)
    | decide
    | with_reducible intro _ _ _
    | ((try dsimp only); split)

theorem State.blockResetCtrl_evolves (s : State) (die v : Nat) :
    s.evolves (State.blockResetCtrl s die v) [.regs, .frets, .slanes, .board, .num, .emb, .upd, .dram, .fab, .vlk, .rst] := by
  unfold State.blockResetCtrl
  repeat' first
    | assumption
    | with_reducible apply State.evolves_refl
    | with_reducible apply State.evolves_ite
    | with_reducible apply State.evolves_foldl
    | with_reducible apply State.evolves_step (State.bump_evolves _ _ _ _)
    | with_reducible apply State.evolves_step (State.flag_evolves _ _ _ _)
    | with_reducible apply State.evolves_step (State.resetBlockRegs_evolves _ _ _)
    | with_reducible apply State.evolves_step (State.resetBlockState_evolves _ _ _)
    | with_reducible apply State.evolves_step (State.setReg_evolves _ _ _ _)
    | fail_if_no_progress ((with_reducible apply State.evolves_set_rst); decide; (first | (with_reducible exact fun h => h) | exact (fun h => SMap.wf_set _ _ _ _ h) | exact (fun h => SMap.wf_setMany _ _ _ _ h) | exact (fun h => SMap.wf_eraseRange _ _ _ _ h) | exact (fun h => SMap.wfFrom_filter _ _ _ _ h) | exact (fun h => (List.length_set ..).trans h) | exact (fun h => (List.length_modify ..).trans h) | exact (fun h => (List.length_map ..).trans h) | exact (fun h => ⟨h.1, (List.length_set ..).trans h.2⟩) | exact (fun h => h) | exact (fun _ => (List.length_set ..).trans rfl) | exact (fun _ => rfl)))
    | decide
    | with_reducible intro _ _ _
    | ((try dsimp only); split)

theorem State.flushCounters_evolves (s : State) :
    s.evolves (State.flushCounters s) [.regs, .life] := by
  unfold State.flushCounters
  repeat' first
    | assumption
    | with_reducible apply State.evolves_refl
    | with_reducible apply State.evolves_ite
    | with_reducible apply State.evolves_foldl
    | with_reducible apply State.evolves_step (State.framWrite_evolves _)
    | fail_if_no_progress ((with_reducible apply State.evolves_set_life); decide; (first | (with_reducible exact fun h => h) | exact (fun h => SMap.wf_set _ _ _ _ h) | exact (fun h => SMap.wf_setMany _ _ _ _ h) | exact (fun h => SMap.wf_eraseRange _ _ _ _ h) | exact (fun h => SMap.wfFrom_filter _ _ _ _ h) | exact (fun h => (List.length_set ..).trans h) | exact (fun h => (List.length_modify ..).trans h) | exact (fun h => (List.length_map ..).trans h) | exact (fun h => ⟨h.1, (List.length_set ..).trans h.2⟩) | exact (fun h => h) | exact (fun _ => (List.length_set ..).trans rfl) | exact (fun _ => rfl)))
    | decide
    | with_reducible intro _ _ _
    | ((try dsimp only); split)

theorem State.writeGuard_evolves (s : State) (die block data : Nat) :
    s.evolves (State.writeGuard s die block data) [.regs] := by
  unfold State.writeGuard
  repeat' first
    | assumption
    | with_reducible apply State.evolves_refl
    | with_reducible apply State.evolves_ite
    | with_reducible apply State.evolves_foldl
    | with_reducible apply State.evolves_step (State.clearReg_evolves _ _ _ _)
    | with_reducible apply State.evolves_step (State.flag_evolves _ _ _ _)
    | decide
    | with_reducible intro _ _ _
    | ((try dsimp only); split)

theorem State.regEffect_evolves (s : State) (die n mask data : Nat) :
    s.evolves (State.regEffect s die n mask data) [.regs, .frets, .slanes, .board, .num, .emb, .upd, .dram, .fab, .vlk, .adm, .dict, .rst, .life] := by
  unfold State.regEffect
  repeat' first
    | assumption
    | with_reducible apply State.evolves_refl
    | with_reducible apply State.evolves_ite
    | with_reducible apply State.evolves_foldl
    | with_reducible apply State.evolves_step (State.blockResetCtrl_evolves _ _ _)
    | with_reducible apply State.evolves_step (State.diceStart_evolves _ _ _)
    | with_reducible apply State.evolves_step (State.flushCounters_evolves _)
    | with_reducible apply State.evolves_step (State.loadCtrl_evolves _ _ _)
    | with_reducible apply State.evolves_step (State.restartCtrl_evolves _ _ _)
    | with_reducible apply State.evolves_step (State.setReg_evolves _ _ _ _)
    | with_reducible apply State.evolves_step (State.writeGuard_evolves _ _ _ _)
    | decide
    | with_reducible intro _ _ _
    | ((try dsimp only); split)

theorem State.regPut_evolves (s : State) (die n mask data : Nat) :
    s.evolves (State.regPut s die n mask data) [.regs, .frets, .slanes, .board, .num, .emb, .upd, .dram, .fab, .vlk, .adm, .dict, .slow, .rst, .life] := by
  unfold State.regPut
  repeat' first
    | assumption
    | with_reducible apply State.evolves_refl
    | with_reducible apply State.evolves_ite
    | with_reducible apply State.evolves_foldl
    | with_reducible apply State.evolves_step (State.regEffect_evolves _ _ _ _ _)
    | with_reducible apply State.evolves_step (State.slowQueue_evolves _ _ _ _ _)
    | decide
    | with_reducible intro _ _ _
    | ((try dsimp only); split)

theorem State.regWrite_evolves {s t : State} {off width data : Nat} {priv : Bool}
    (h : s.regWrite off width data priv = some t) :
    s.evolves t [.regs, .frets, .slanes, .board, .num, .emb, .upd, .dram, .fab, .vlk, .adm, .dict, .slow, .rst, .life] := by
  unfold State.regWrite at h
  split at h
  · cases h
  · dsimp only at h
    split at h
    · cases h
      exact State.evolves_wider (State.denied_evolves _ _ _) (by decide)
    · cases h
      exact State.regPut_evolves _ _ _ _ _

theorem execRegisterWrite_evolves (addr width : Nat) (data : BitVec 64) (priv : Bool) (s : State) :
    Outcome.evolves s [.regs, .frets, .slanes, .board, .num, .emb, .upd, .dram, .fab, .vlk, .adm, .dict, .slow, .rst, .life] (execRegisterWrite addr width data priv s) := by
  unfold execRegisterWrite
  refine Outcome.evolves_next ?_
  apply State.evolves_ite (State.evolves_refl _ _)
  generalize hr : s.regWrite _ _ _ _ = r
  cases r with
  | none => exact State.evolves_refl _ _
  | some t => exact State.regWrite_evolves hr

theorem execDiceTestStart_evolves (die : Fin 2) (ctr : BitVec 64) (s : State) :
    Outcome.evolves s [.regs, .board] (execDiceTestStart die ctr s) := by
  unfold execDiceTestStart
  refine Outcome.evolves_next ?_
  repeat' first
    | assumption
    | with_reducible apply State.evolves_refl
    | with_reducible apply State.evolves_ite
    | with_reducible apply State.evolves_foldl
    | with_reducible apply State.evolves_step (State.diceStart_evolves _ _ _)
    | decide
    | with_reducible intro _ _ _
    | ((try dsimp only); split)

theorem execDiceTestDone_evolves (die : Fin 2) (s : State) :
    Outcome.evolves s [.regs, .board] (execDiceTestDone die s) := by
  unfold execDiceTestDone
  refine Outcome.evolves_next ?_
  repeat' first
    | assumption
    | with_reducible apply State.evolves_refl
    | with_reducible apply State.evolves_ite
    | with_reducible apply State.evolves_foldl
    | with_reducible apply State.evolves_step (State.diceDone_evolves _ _)
    | decide
    | with_reducible intro _ _ _
    | ((try dsimp only); split)

theorem execRestart_evolves (die : Fin 2) (value : BitVec 32) (priv : Bool) (s : State) :
    Outcome.evolves s [.regs, .frets, .slanes, .board, .num, .dram, .fab, .vlk, .adm, .dict, .life] (execRestart die value priv s) := by
  unfold execRestart
  refine Outcome.evolves_next ?_
  repeat' first
    | assumption
    | with_reducible apply State.evolves_refl
    | with_reducible apply State.evolves_ite
    | with_reducible apply State.evolves_foldl
    | with_reducible apply State.evolves_step (State.denied_evolves _ _ _)
    | with_reducible apply State.evolves_step (State.restartCtrl_evolves _ _ _)
    | decide
    | with_reducible intro _ _ _
    | ((try dsimp only); split)

theorem execBlockReset_evolves (die : Fin 8) (value : BitVec 32) (priv : Bool) (s : State) :
    Outcome.evolves s [.regs, .frets, .slanes, .board, .num, .emb, .upd, .dram, .fab, .vlk, .rst] (execBlockReset die value priv s) := by
  unfold execBlockReset
  refine Outcome.evolves_next ?_
  repeat' first
    | assumption
    | with_reducible apply State.evolves_refl
    | with_reducible apply State.evolves_ite
    | with_reducible apply State.evolves_foldl
    | with_reducible apply State.evolves_step (State.blockResetCtrl_evolves _ _ _)
    | with_reducible apply State.evolves_step (State.denied_evolves _ _ _)
    | decide
    | with_reducible intro _ _ _
    | ((try dsimp only); split)

theorem execBlockResetDone_evolves (die : Fin 8) (s : State) :
    Outcome.evolves s [.mem, .regs, .frets, .board, .upd, .dram, .fab, .vlk, .adm, .dict, .rst, .life] (execBlockResetDone die s) := by
  unfold execBlockResetDone
  refine Outcome.evolves_next ?_
  repeat' first
    | assumption
    | with_reducible apply State.evolves_refl
    | with_reducible apply State.evolves_ite
    | with_reducible apply State.evolves_foldl
    | with_reducible apply State.evolves_step (State.flag_evolves _ _ _ _)
    | with_reducible apply State.evolves_step (State.resumeMemory_evolves _)
    | fail_if_no_progress ((with_reducible apply State.evolves_set_rst); decide; (first | (with_reducible exact fun h => h) | exact (fun h => SMap.wf_set _ _ _ _ h) | exact (fun h => SMap.wf_setMany _ _ _ _ h) | exact (fun h => SMap.wf_eraseRange _ _ _ _ h) | exact (fun h => SMap.wfFrom_filter _ _ _ _ h) | exact (fun h => (List.length_set ..).trans h) | exact (fun h => (List.length_modify ..).trans h) | exact (fun h => (List.length_map ..).trans h) | exact (fun h => ⟨h.1, (List.length_set ..).trans h.2⟩) | exact (fun h => h) | exact (fun _ => (List.length_set ..).trans rfl) | exact (fun _ => rfl)))
    | decide
    | with_reducible intro _ _ _
    | ((try dsimp only); split)

theorem execFlush_evolves (priv : Bool) (s : State) :
    Outcome.evolves s [.regs, .life] (execFlush priv s) := by
  unfold execFlush
  refine Outcome.evolves_next ?_
  repeat' first
    | assumption
    | with_reducible apply State.evolves_refl
    | with_reducible apply State.evolves_ite
    | with_reducible apply State.evolves_foldl
    | with_reducible apply State.evolves_step (State.denied_evolves _ _ _)
    | with_reducible apply State.evolves_step (State.flushCounters_evolves _)
    | decide
    | with_reducible intro _ _ _
    | ((try dsimp only); split)

theorem execCounterFlush_evolves (s : State) :
    Outcome.evolves s [.regs, .life] (execCounterFlush s) := by
  unfold execCounterFlush
  refine Outcome.evolves_next ?_
  repeat' first
    | assumption
    | with_reducible apply State.evolves_refl
    | with_reducible apply State.evolves_ite
    | with_reducible apply State.evolves_foldl
    | with_reducible apply State.evolves_step (State.flushCounters_evolves _)
    | decide
    | with_reducible intro _ _ _
    | ((try dsimp only); split)

theorem State.wearCycle_evolves (s : State) : s.evolves (State.wearCycle s) [.life] := by
  unfold State.wearCycle
  apply State.evolves_ite (State.evolves_refl _ _)
  dsimp only
  apply State.evolves_foldl
  · apply State.evolves_foldl
    · exact State.wear_evolves _ _ _
    · intro a k h
      apply State.evolves_ite
      · exact State.evolves_step (State.wear_evolves _ _ _) h (by decide)
      · exact h
  · intro a p h
    apply State.evolves_ite h
    apply State.evolves_foldl h
    intro b l h
    exact State.evolves_step (State.wear_evolves _ _ _) h (by decide)

theorem execSlowClockEdge_evolves (mgmt : Bool) (s : State) :
    Outcome.evolves s [.slow, .rst, .life] (execSlowClockEdge mgmt s) := by
  unfold execSlowClockEdge
  refine Outcome.evolves_next ?_
  repeat' first
    | assumption
    | with_reducible apply State.evolves_refl
    | with_reducible apply State.evolves_ite
    | with_reducible apply State.evolves_foldl
    | with_reducible apply State.evolves_step (State.slowRefresh_evolves _ _)
    | with_reducible apply State.evolves_step (State.wearCycle_evolves _)
    | fail_if_no_progress ((with_reducible apply State.evolves_set_rst); decide; (first | (with_reducible exact fun h => h) | exact (fun h => SMap.wf_set _ _ _ _ h) | exact (fun h => SMap.wf_setMany _ _ _ _ h) | exact (fun h => SMap.wf_eraseRange _ _ _ _ h) | exact (fun h => SMap.wfFrom_filter _ _ _ _ h) | exact (fun h => (List.length_set ..).trans h) | exact (fun h => (List.length_modify ..).trans h) | exact (fun h => (List.length_map ..).trans h) | exact (fun h => ⟨h.1, (List.length_set ..).trans h.2⟩) | exact (fun h => h) | exact (fun _ => (List.length_set ..).trans rfl) | exact (fun _ => rfl)))
    | decide
    | with_reducible intro _ _ _
    | ((try dsimp only); split)

theorem execSlowWriteApply_evolves (window : Fin 3) (s : State) :
    Outcome.evolves s [.regs, .frets, .slanes, .board, .num, .emb, .upd, .dram, .fab, .vlk, .adm, .dict, .slow, .rst, .life] (execSlowWriteApply window s) := by
  unfold execSlowWriteApply
  refine Outcome.evolves_next ?_
  repeat' first
    | assumption
    | with_reducible apply State.evolves_refl
    | with_reducible apply State.evolves_ite
    | with_reducible apply State.evolves_foldl
    | with_reducible apply State.evolves_step (State.regEffect_evolves _ _ _ _ _)
    | with_reducible apply State.evolves_step (State.updSlow_evolves _ _ _)
    | fail_if_no_progress ((with_reducible apply State.evolves_set_rst); decide; (first | (with_reducible exact fun h => h) | exact (fun h => SMap.wf_set _ _ _ _ h) | exact (fun h => SMap.wf_setMany _ _ _ _ h) | exact (fun h => SMap.wf_eraseRange _ _ _ _ h) | exact (fun h => SMap.wfFrom_filter _ _ _ _ h) | exact (fun h => (List.length_set ..).trans h) | exact (fun h => (List.length_modify ..).trans h) | exact (fun h => (List.length_map ..).trans h) | exact (fun h => ⟨h.1, (List.length_set ..).trans h.2⟩) | exact (fun h => h) | exact (fun _ => (List.length_set ..).trans rfl) | exact (fun _ => rfl)))
    | decide
    | with_reducible intro _ _ _
    | ((try dsimp only); split)

end Sys2Proof.Machine
end

