-- ==== Sys2Proof/Laws/FrameSecurity.lean ====
section
/-! SUPPORT. What each operation of Machine/Security.lean may change. -/

namespace Sys2Proof.Machine

theorem State.uploadImage_evolves (s : State) (image : Bytes) :
    s.evolves (State.uploadImage s image).2 [.regs, .rst, .life, .sec] := by
  unfold State.uploadImage
  repeat' first
    | assumption
    | with_reducible apply State.evolves_refl
    | with_reducible apply State.evolves_ite
    | with_reducible apply State.evolves_foldl
    | with_reducible apply State.evolves_ite_snd
    | with_reducible apply State.evolves_foldl_snd
    | with_reducible apply State.evolves_step (State.lifeLog_evolves _ _ _ _ _)
    | with_reducible apply State.evolves_step (State.nvPulse_evolves _ _ _)
    | fail_if_no_progress ((with_reducible apply State.evolves_set_sec); decide)
    | decide
    | with_reducible intro _ _ _
    | ((try dsimp only); split)

theorem execImageUpload_evolves (image : Bytes) (s : State) :
    Outcome.evolves s [.regs, .rst, .life, .sec] (execImageUpload image s) := by
  unfold execImageUpload
  refine Outcome.evolves_next ?_
  repeat' first
    | assumption
    | with_reducible apply State.evolves_refl
    | with_reducible apply State.evolves_ite
    | with_reducible apply State.evolves_foldl
    | with_reducible apply State.evolves_step (State.uploadImage_evolves _ _)
    | decide
    | with_reducible intro _ _ _
    | ((try dsimp only); split)

theorem State.startOtp_evolves (s : State) (w : OtpWord) :
    s.evolves (State.startOtp s w) [.regs, .sec] := by
  unfold State.startOtp
  repeat' first
    | assumption
    | with_reducible apply State.evolves_refl
    | with_reducible apply State.evolves_ite
    | with_reducible apply State.evolves_foldl
    | with_reducible apply State.evolves_step (State.flag_evolves _ _ _ _)
    | fail_if_no_progress ((with_reducible apply State.evolves_set_sec); decide)
    | decide
    | with_reducible intro _ _ _
    | ((try dsimp only); split)

theorem State.advanceCounter_evolves (s : State) (v : Nat) :
    s.evolves (State.advanceCounter s v).2 [.regs, .sec] := by
  unfold State.advanceCounter
  repeat' first
    | assumption
    | with_reducible apply State.evolves_refl
    | with_reducible apply State.evolves_ite
    | with_reducible apply State.evolves_foldl
    | with_reducible apply State.evolves_ite_snd
    | with_reducible apply State.evolves_foldl_snd
    | with_reducible apply State.evolves_step (State.startOtp_evolves _ _)
    | decide
    | with_reducible intro _ _ _
    | ((try dsimp only); split)

theorem execAntiRollbackAdvance_evolves (value : BitVec 8) (s : State) :
    Outcome.evolves s [.regs, .sec] (execAntiRollbackAdvance value s) := by
  unfold execAntiRollbackAdvance
  refine Outcome.evolves_next ?_
  repeat' first
    | assumption
    | with_reducible apply State.evolves_refl
    | with_reducible apply State.evolves_ite
    | with_reducible apply State.evolves_foldl
    | with_reducible apply State.evolves_step (State.advanceCounter_evolves _ _)
    | decide
    | with_reducible intro _ _ _
    | ((try dsimp only); split)

theorem State.enrolOwner_evolves (s : State) (key : Bytes) :
    s.evolves (State.enrolOwner s key).2 [.regs, .sec] := by
  unfold State.enrolOwner
  repeat' first
    | assumption
    | with_reducible apply State.evolves_refl
    | with_reducible apply State.evolves_ite
    | with_reducible apply State.evolves_foldl
    | with_reducible apply State.evolves_ite_snd
    | with_reducible apply State.evolves_foldl_snd
    | with_reducible apply State.evolves_step (State.startOtp_evolves _ _)
    | decide
    | with_reducible intro _ _ _
    | ((try dsimp only); split)

theorem execOwnerKeyEnrolment_evolves (key : Bytes) (s : State) :
    Outcome.evolves s [.regs, .sec] (execOwnerKeyEnrolment key s) := by
  unfold execOwnerKeyEnrolment
  refine Outcome.evolves_next ?_
  repeat' first
    | assumption
    | with_reducible apply State.evolves_refl
    | with_reducible apply State.evolves_ite
    | with_reducible apply State.evolves_foldl
    | with_reducible apply State.evolves_step (State.enrolOwner_evolves _ _)
    | decide
    | with_reducible intro _ _ _
    | ((try dsimp only); split)

theorem execOtpProgramDone_evolves (s : State) :
    Outcome.evolves s [.regs, .life, .sec] (execOtpProgramDone s) := by
  unfold execOtpProgramDone
  refine Outcome.evolves_next ?_
  repeat' first
    | assumption
    | with_reducible apply State.evolves_refl
    | with_reducible apply State.evolves_ite
    | with_reducible apply State.evolves_foldl
    | with_reducible apply State.evolves_step (State.clearReg_evolves _ _ _ _)
    | with_reducible apply State.evolves_step (State.flag_evolves _ _ _ _)
    | with_reducible apply State.evolves_step (State.lifeLog_evolves _ _ _ _ _)
    | fail_if_no_progress ((with_reducible apply State.evolves_set_sec); decide)
    | decide
    | with_reducible intro _ _ _
    | ((try dsimp only); split)

theorem State.setKeys_evolves (s : State) (level : Nat) (b : Bytes) :
    s.evolves (State.setKeys s level b).2 [.dict, .rst, .life] := by
  unfold State.setKeys
  repeat' first
    | assumption
    | with_reducible apply State.evolves_refl
    | with_reducible apply State.evolves_ite
    | with_reducible apply State.evolves_foldl
    | with_reducible apply State.evolves_ite_snd
    | with_reducible apply State.evolves_foldl_snd
    | with_reducible apply State.evolves_step (State.nvPulse_evolves _ _ _)
    | with_reducible apply State.evolves_step (State.setOd_evolves _ _ _)
    | fail_if_no_progress ((with_reducible apply State.evolves_set_dict); decide; (first | (with_reducible exact fun h => h) | exact (fun h => SMap.wf_set _ _ _ _ h) | exact (fun h => SMap.wf_setMany _ _ _ _ h) | exact (fun h => SMap.wf_eraseRange _ _ _ _ h) | exact (fun h => SMap.wfFrom_filter _ _ _ _ h) | exact (fun h => (List.length_set ..).trans h) | exact (fun h => (List.length_modify ..).trans h) | exact (fun h => (List.length_map ..).trans h) | exact (fun h => ⟨h.1, (List.length_set ..).trans h.2⟩) | exact (fun h => h) | exact (fun _ => (List.length_set ..).trans rfl) | exact (fun _ => rfl)))
    | decide
    | with_reducible intro _ _ _
    | ((try dsimp only); split)

theorem execEnrolledKeys_evolves (level : Fin 4) (entries : Bytes) (s : State) :
    Outcome.evolves s [.dict, .rst, .life] (execEnrolledKeys level entries s) := by
  unfold execEnrolledKeys
  refine Outcome.evolves_next ?_
  repeat' first
    | assumption
    | with_reducible apply State.evolves_refl
    | with_reducible apply State.evolves_ite
    | with_reducible apply State.evolves_foldl
    | with_reducible apply State.evolves_step (State.setKeys_evolves _ _ _)
    | decide
    | with_reducible intro _ _ _
    | ((try dsimp only); split)

theorem State.setNonce_evolves (s : State) (nonce : Bytes) :
    s.evolves (State.setNonce s nonce).2 [.sec] := by
  unfold State.setNonce
  repeat' first
    | assumption
    | with_reducible apply State.evolves_refl
    | with_reducible apply State.evolves_ite
    | with_reducible apply State.evolves_foldl
    | with_reducible apply State.evolves_ite_snd
    | with_reducible apply State.evolves_foldl_snd
    | fail_if_no_progress ((with_reducible apply State.evolves_set_sec); decide)
    | decide
    | with_reducible intro _ _ _
    | ((try dsimp only); split)

theorem execAttestationNonce_evolves (nonce : Bytes) (s : State) :
    Outcome.evolves s [.sec] (execAttestationNonce nonce s) := by
  unfold execAttestationNonce
  refine Outcome.evolves_next ?_
  repeat' first
    | assumption
    | with_reducible apply State.evolves_refl
    | with_reducible apply State.evolves_ite
    | with_reducible apply State.evolves_foldl
    | with_reducible apply State.evolves_step (State.setNonce_evolves _ _)
    | decide
    | with_reducible intro _ _ _
    | ((try dsimp only); split)

theorem execAttestationReportReady_evolves (s : State) :
    Outcome.evolves s [.regs, .sec] (execAttestationReportReady s) := by
  unfold execAttestationReportReady
  refine Outcome.evolves_next ?_
  repeat' first
    | assumption
    | with_reducible apply State.evolves_refl
    | with_reducible apply State.evolves_ite
    | with_reducible apply State.evolves_foldl
    | with_reducible apply State.evolves_step (State.bump_evolves _ _ _ _)
    | fail_if_no_progress ((with_reducible apply State.evolves_set_sec); decide)
    | decide
    | with_reducible intro _ _ _
    | ((try dsimp only); split)

theorem State.setCalendar_evolves (s : State) (ns : Nat) :
    s.evolves (State.setCalendar s ns) [.regs, .slow, .life] := by
  unfold State.setCalendar
  repeat' first
    | assumption
    | with_reducible apply State.evolves_refl
    | with_reducible apply State.evolves_ite
    | with_reducible apply State.evolves_foldl
    | with_reducible apply State.evolves_step (State.lifeLog_evolves _ _ _ _ _)
    | with_reducible apply State.evolves_step (State.slowQueue_evolves _ _ _ _ _)
    | decide
    | with_reducible intro _ _ _
    | ((try dsimp only); split)

theorem execCalendarSet_evolves (ns : BitVec 64) (s : State) :
    Outcome.evolves s [.regs, .slow, .life] (execCalendarSet ns s) := by
  unfold execCalendarSet
  refine Outcome.evolves_next ?_
  repeat' first
    | assumption
    | with_reducible apply State.evolves_refl
    | with_reducible apply State.evolves_ite
    | with_reducible apply State.evolves_foldl
    | with_reducible apply State.evolves_step (State.setCalendar_evolves _ _)
    | decide
    | with_reducible intro _ _ _
    | ((try dsimp only); split)

theorem execMasterTimeSet_evolves (ns : BitVec 64) (s : State) :
    Outcome.evolves s [.time] (execMasterTimeSet ns s) := by
  unfold execMasterTimeSet
  refine Outcome.evolves_next ?_
  repeat' first
    | assumption
    | with_reducible apply State.evolves_refl
    | with_reducible apply State.evolves_ite
    | with_reducible apply State.evolves_foldl
    | fail_if_no_progress ((with_reducible apply State.evolves_set_time); decide)
    | decide
    | with_reducible intro _ _ _
    | ((try dsimp only); split)

end Sys2Proof.Machine
end

