-- ==== Sys2Proof/Laws/FrameSdp.lean ====
section
/-! SUPPORT. What each operation of Machine/Sdp.lean may change. -/

namespace Sys2Proof.Machine

theorem State.registerGet_evolves {s : State} {level : Nat} {p : Nat × State}
    (h : s.registerGet level = some p) : s.evolves p.2 [.regs, .board, .dict] := by
  unfold State.registerGet at h
  split at h
  · cases h
  · next o _ =>
    cases hr : s.regRead o (s.odNat (od 0x2960 3)) (level = 3) with
    | none => rw [hr] at h; cases h
    | some q =>
      rw [hr] at h
      cases h
      exact State.evolves_step (State.setOd_evolves _ _ _) (State.evolves_wider (State.regRead_evolves hr) (by decide)) (by decide)

theorem State.registerSet_evolves (s : State) (level v : Nat) :
    s.evolves (State.registerSet s level v).2 [.regs, .frets, .slanes, .board, .num, .emb, .upd, .dram, .fab, .vlk, .adm, .dict, .slow, .rst, .life] := by
  unfold State.registerSet
  split
  · exact State.evolves_refl _ _
  · split
    · exact State.evolves_refl _ _
    · next h => exact State.evolves_step (State.setOd_evolves _ _ _) (State.regWrite_evolves h) (by decide)

theorem State.sdpGet_evolves (s : State) (r : Sdp) (bus : Bool) (level : Nat) :
    s.evolves (State.sdpGet s r bus level).2 [.regs, .board, .dict] := by
  unfold State.sdpGet
  dsimp only
  split
  · exact State.evolves_refl _ _
  · repeat' apply State.evolves_ite_snd
    all_goals try exact State.evolves_refl _ _
    split
    · exact State.evolves_refl _ _
    · next h => exact State.registerGet_evolves h

theorem State.keepBefore_evolves (s : State) (k : Nat) :
    s.evolves (State.keepBefore s k) [.dict] := by
  unfold State.keepBefore
  repeat' first
    | assumption
    | with_reducible apply State.evolves_refl
    | with_reducible apply State.evolves_ite
    | with_reducible apply State.evolves_foldl
    | fail_if_no_progress ((with_reducible apply State.evolves_set_dict); decide; (first | (with_reducible exact fun h => h) | exact (fun h => SMap.wf_set _ _ _ _ h) | exact (fun h => SMap.wf_setMany _ _ _ _ h) | exact (fun h => SMap.wf_eraseRange _ _ _ _ h) | exact (fun h => SMap.wfFrom_filter _ _ _ _ h) | exact (fun h => (List.length_set ..).trans h) | exact (fun h => (List.length_modify ..).trans h) | exact (fun h => (List.length_map ..).trans h) | exact (fun h => ⟨h.1, (List.length_set ..).trans h.2⟩) | exact (fun h => h) | exact (fun _ => (List.length_set ..).trans rfl) | exact (fun _ => rfl)))
    | decide
    | with_reducible intro _ _ _
    | ((try dsimp only); split)

theorem State.putValue_evolves (s : State) (r : OdRow) (b : Bytes) :
    s.evolves (State.putValue s r b) [.dict, .rst, .life] := by
  unfold State.putValue
  repeat' first
    | assumption
    | with_reducible apply State.evolves_refl
    | with_reducible apply State.evolves_ite
    | with_reducible apply State.evolves_foldl
    | with_reducible apply State.evolves_step (State.keepBefore_evolves _ _)
    | with_reducible apply State.evolves_step (State.nvPulse_evolves _ _ _)
    | with_reducible apply State.evolves_step (State.setOd_evolves _ _ _)
    | fail_if_no_progress ((with_reducible apply State.evolves_set_dict); decide; (first | (with_reducible exact fun h => h) | exact (fun h => SMap.wf_set _ _ _ _ h) | exact (fun h => SMap.wf_setMany _ _ _ _ h) | exact (fun h => SMap.wf_eraseRange _ _ _ _ h) | exact (fun h => SMap.wfFrom_filter _ _ _ _ h) | exact (fun h => (List.length_set ..).trans h) | exact (fun h => (List.length_modify ..).trans h) | exact (fun h => (List.length_map ..).trans h) | exact (fun h => ⟨h.1, (List.length_set ..).trans h.2⟩) | exact (fun h => h) | exact (fun _ => (List.length_set ..).trans rfl) | exact (fun _ => rfl)))
    | decide
    | with_reducible intro _ _ _
    | ((try dsimp only); split)

theorem State.applySet_evolves (s : State) (r : OdRow) (level : Nat) (b : Bytes) :
    s.evolves (State.applySet s r level b).2 [.time, .mem, .regs, .frets, .slanes, .board, .num, .emb, .upd, .dram, .fab, .vlk, .adm, .dict, .slow, .rst, .life, .sec] := by
  unfold State.applySet
  repeat' first
    | assumption
    | with_reducible apply State.evolves_refl
    | with_reducible apply State.evolves_ite
    | with_reducible apply State.evolves_foldl
    | with_reducible apply State.evolves_ite_snd
    | with_reducible apply State.evolves_foldl_snd
    | with_reducible apply State.evolves_step (State.advanceCounter_evolves _ _)
    | with_reducible apply State.evolves_step (State.closeUnused_evolves _)
    | with_reducible apply State.evolves_step (State.enrolOwner_evolves _ _)
    | with_reducible apply State.evolves_step (State.functionStop_evolves _ _)
    | with_reducible apply State.evolves_step (State.putValue_evolves _ _ _)
    | with_reducible apply State.evolves_step (State.registerSet_evolves _ _ _)
    | with_reducible apply State.evolves_step (State.setCalendar_evolves _ _)
    | with_reducible apply State.evolves_step (State.setKeys_evolves _ _ _)
    | with_reducible apply State.evolves_step (State.setNonce_evolves _ _)
    | with_reducible apply State.evolves_step (State.showMaster_evolves _)
    | with_reducible apply State.evolves_step (State.startWrite_evolves _ _)
    | with_reducible apply State.evolves_step (State.uploadImage_evolves _ _)
    | fail_if_no_progress ((with_reducible apply State.evolves_set_time); decide)
    | fail_if_no_progress ((with_reducible apply State.evolves_set_rst); decide; (first | (with_reducible exact fun h => h) | exact (fun h => SMap.wf_set _ _ _ _ h) | exact (fun h => SMap.wf_setMany _ _ _ _ h) | exact (fun h => SMap.wf_eraseRange _ _ _ _ h) | exact (fun h => SMap.wfFrom_filter _ _ _ _ h) | exact (fun h => (List.length_set ..).trans h) | exact (fun h => (List.length_modify ..).trans h) | exact (fun h => (List.length_map ..).trans h) | exact (fun h => ⟨h.1, (List.length_set ..).trans h.2⟩) | exact (fun h => h) | exact (fun _ => (List.length_set ..).trans rfl) | exact (fun _ => rfl)))
    | fail_if_no_progress ((with_reducible apply State.evolves_set_num); decide)
    | decide
    | with_reducible intro _ _ _
    | ((try dsimp only); split)

theorem State.dropStaging_evolves (s : State) (entry : Nat) :
    s.evolves (State.dropStaging s entry) [.dict] := by
  unfold State.dropStaging
  repeat' first
    | assumption
    | with_reducible apply State.evolves_refl
    | with_reducible apply State.evolves_ite
    | with_reducible apply State.evolves_foldl
    | fail_if_no_progress ((with_reducible apply State.evolves_set_dict); decide; (first | (with_reducible exact fun h => h) | exact (fun h => SMap.wf_set _ _ _ _ h) | exact (fun h => SMap.wf_setMany _ _ _ _ h) | exact (fun h => SMap.wf_eraseRange _ _ _ _ h) | exact (fun h => SMap.wfFrom_filter _ _ _ _ h) | exact (fun h => (List.length_set ..).trans h) | exact (fun h => (List.length_modify ..).trans h) | exact (fun h => (List.length_map ..).trans h) | exact (fun h => ⟨h.1, (List.length_set ..).trans h.2⟩) | exact (fun h => h) | exact (fun _ => (List.length_set ..).trans rfl) | exact (fun _ => rfl)))
    | decide
    | with_reducible intro _ _ _
    | ((try dsimp only); split)

theorem State.setWhole_evolves (s : State) (row : OdRow) (level : Nat) (b : Bytes) :
    s.evolves (State.setWhole s row level b).2 [.time, .mem, .regs, .frets, .slanes, .board, .num, .emb, .upd, .dram, .fab, .vlk, .adm, .dict, .slow, .rst, .life, .sec] := by
  unfold State.setWhole
  repeat' first
    | assumption
    | with_reducible apply State.evolves_refl
    | with_reducible apply State.evolves_ite
    | with_reducible apply State.evolves_foldl
    | with_reducible apply State.evolves_ite_snd
    | with_reducible apply State.evolves_foldl_snd
    | with_reducible apply State.evolves_step (State.applySet_evolves _ _ _ _)
    | decide
    | with_reducible intro _ _ _
    | ((try dsimp only); split)

theorem State.setDomain_evolves (s : State) (r : Sdp) (row : OdRow) (level : Nat) :
    s.evolves (State.setDomain s r row level).2 [.time, .mem, .regs, .frets, .slanes, .board, .num, .emb, .upd, .dram, .fab, .vlk, .adm, .dict, .slow, .rst, .life, .sec] := by
  unfold State.setDomain
  repeat' first
    | assumption
    | with_reducible apply State.evolves_refl
    | with_reducible apply State.evolves_ite
    | with_reducible apply State.evolves_foldl
    | with_reducible apply State.evolves_ite_snd
    | with_reducible apply State.evolves_foldl_snd
    | with_reducible apply State.evolves_step (State.dropStaging_evolves _ _)
    | with_reducible apply State.evolves_step (State.setWhole_evolves _ _ _ _)
    | fail_if_no_progress ((with_reducible apply State.evolves_set_dict); decide; (first | (with_reducible exact fun h => h) | exact (fun h => SMap.wf_set _ _ _ _ h) | exact (fun h => SMap.wf_setMany _ _ _ _ h) | exact (fun h => SMap.wf_eraseRange _ _ _ _ h) | exact (fun h => SMap.wfFrom_filter _ _ _ _ h) | exact (fun h => (List.length_set ..).trans h) | exact (fun h => (List.length_modify ..).trans h) | exact (fun h => (List.length_map ..).trans h) | exact (fun h => ⟨h.1, (List.length_set ..).trans h.2⟩) | exact (fun h => h) | exact (fun _ => (List.length_set ..).trans rfl) | exact (fun _ => rfl)))
    | decide
    | with_reducible intro _ _ _
    | ((try dsimp only); split)

theorem State.sdpSet_evolves (s : State) (r : Sdp) (level : Nat) :
    s.evolves (State.sdpSet s r level).2 [.time, .mem, .regs, .frets, .slanes, .board, .num, .emb, .upd, .dram, .fab, .vlk, .adm, .dict, .slow, .rst, .life, .sec] := by
  unfold State.sdpSet
  repeat' first
    | assumption
    | with_reducible apply State.evolves_refl
    | with_reducible apply State.evolves_ite
    | with_reducible apply State.evolves_foldl
    | with_reducible apply State.evolves_ite_snd
    | with_reducible apply State.evolves_foldl_snd
    | with_reducible apply State.evolves_step (State.dropStaging_evolves _ _)
    | with_reducible apply State.evolves_step (State.setDomain_evolves _ _ _ _)
    | with_reducible apply State.evolves_step (State.setWhole_evolves _ _ _ _)
    | decide
    | with_reducible intro _ _ _
    | ((try dsimp only); split)

theorem State.closeSession_evolves (s : State) (num : Nat) :
    s.evolves (State.closeSession s num) [.dict] := by
  unfold State.closeSession
  repeat' first
    | assumption
    | with_reducible apply State.evolves_refl
    | with_reducible apply State.evolves_ite
    | with_reducible apply State.evolves_foldl
    | fail_if_no_progress ((with_reducible apply State.evolves_set_dict); decide; (first | (with_reducible exact fun h => h) | exact (fun h => SMap.wf_set _ _ _ _ h) | exact (fun h => SMap.wf_setMany _ _ _ _ h) | exact (fun h => SMap.wf_eraseRange _ _ _ _ h) | exact (fun h => SMap.wfFrom_filter _ _ _ _ h) | exact (fun h => (List.length_set ..).trans h) | exact (fun h => (List.length_modify ..).trans h) | exact (fun h => (List.length_map ..).trans h) | exact (fun h => ⟨h.1, (List.length_set ..).trans h.2⟩) | exact (fun h => h) | exact (fun _ => (List.length_set ..).trans rfl) | exact (fun _ => rfl)))
    | decide
    | with_reducible intro _ _ _
    | ((try dsimp only); split)

theorem State.spendNonce_evolves (s : State) (bus : Bool) (req : Nat) :
    s.evolves (State.spendNonce s bus req) [.dict] := by
  unfold State.spendNonce
  repeat' first
    | assumption
    | with_reducible apply State.evolves_refl
    | with_reducible apply State.evolves_ite
    | with_reducible apply State.evolves_foldl
    | fail_if_no_progress ((with_reducible apply State.evolves_set_dict); decide; (first | (with_reducible exact fun h => h) | exact (fun h => SMap.wf_set _ _ _ _ h) | exact (fun h => SMap.wf_setMany _ _ _ _ h) | exact (fun h => SMap.wf_eraseRange _ _ _ _ h) | exact (fun h => SMap.wfFrom_filter _ _ _ _ h) | exact (fun h => (List.length_set ..).trans h) | exact (fun h => (List.length_modify ..).trans h) | exact (fun h => (List.length_map ..).trans h) | exact (fun h => ⟨h.1, (List.length_set ..).trans h.2⟩) | exact (fun h => h) | exact (fun _ => (List.length_set ..).trans rfl) | exact (fun _ => rfl)))
    | decide
    | with_reducible intro _ _ _
    | ((try dsimp only); split)

theorem State.askProof_evolves (s : State) (bus : Bool) (req : Nat) :
    s.evolves (State.askProof s bus req).2 [.free, .dict] := by
  unfold State.askProof
  repeat' first
    | assumption
    | with_reducible apply State.evolves_refl
    | with_reducible apply State.evolves_ite
    | with_reducible apply State.evolves_foldl
    | with_reducible apply State.evolves_ite_snd
    | with_reducible apply State.evolves_foldl_snd
    | with_reducible apply State.evolves_step (State.drawBytes_evolves _ _)
    | with_reducible apply State.evolves_step (State.spendNonce_evolves _ _ _)
    | fail_if_no_progress ((with_reducible apply State.evolves_set_dict); decide; (first | (with_reducible exact fun h => h) | exact (fun h => SMap.wf_set _ _ _ _ h) | exact (fun h => SMap.wf_setMany _ _ _ _ h) | exact (fun h => SMap.wf_eraseRange _ _ _ _ h) | exact (fun h => SMap.wfFrom_filter _ _ _ _ h) | exact (fun h => (List.length_set ..).trans h) | exact (fun h => (List.length_modify ..).trans h) | exact (fun h => (List.length_map ..).trans h) | exact (fun h => ⟨h.1, (List.length_set ..).trans h.2⟩) | exact (fun h => h) | exact (fun _ => (List.length_set ..).trans rfl) | exact (fun _ => rfl)))
    | decide
    | with_reducible intro _ _ _
    | ((try dsimp only); split)

theorem State.failProof_evolves (s : State) :
    s.evolves (State.failProof s) [.regs, .sec] := by
  unfold State.failProof
  repeat' first
    | assumption
    | with_reducible apply State.evolves_refl
    | with_reducible apply State.evolves_ite
    | with_reducible apply State.evolves_foldl
    | with_reducible apply State.evolves_step (State.bump_evolves _ _ _ _)
    | with_reducible apply State.evolves_step (State.flag_evolves _ _ _ _)
    | fail_if_no_progress ((with_reducible apply State.evolves_set_sec); decide)
    | decide
    | with_reducible intro _ _ _
    | ((try dsimp only); split)

theorem State.openSession_evolves (s : State) (bus : Bool) (req level : Nat) :
    s.evolves (State.openSession s bus req level).2 [.free, .dict] := by
  unfold State.openSession
  repeat' first
    | assumption
    | with_reducible apply State.evolves_refl
    | with_reducible apply State.evolves_ite
    | with_reducible apply State.evolves_foldl
    | with_reducible apply State.evolves_ite_snd
    | with_reducible apply State.evolves_foldl_snd
    | with_reducible apply State.evolves_step (State.draw_evolves _)
    | fail_if_no_progress ((with_reducible apply State.evolves_set_dict); decide; (first | (with_reducible exact fun h => h) | exact (fun h => SMap.wf_set _ _ _ _ h) | exact (fun h => SMap.wf_setMany _ _ _ _ h) | exact (fun h => SMap.wf_eraseRange _ _ _ _ h) | exact (fun h => SMap.wfFrom_filter _ _ _ _ h) | exact (fun h => (List.length_set ..).trans h) | exact (fun h => (List.length_modify ..).trans h) | exact (fun h => (List.length_map ..).trans h) | exact (fun h => ⟨h.1, (List.length_set ..).trans h.2⟩) | exact (fun h => h) | exact (fun _ => (List.length_set ..).trans rfl) | exact (fun _ => rfl)))
    | decide
    | with_reducible intro _ _ _
    | ((try dsimp only); split)

theorem State.sdpOpen_evolves (s : State) (r : Sdp) (bus : Bool) (req : Nat) :
    s.evolves (State.sdpOpen s r bus req).2 [.free, .regs, .dict, .sec] := by
  unfold State.sdpOpen
  repeat' first
    | assumption
    | with_reducible apply State.evolves_refl
    | with_reducible apply State.evolves_ite
    | with_reducible apply State.evolves_foldl
    | with_reducible apply State.evolves_ite_snd
    | with_reducible apply State.evolves_foldl_snd
    | with_reducible apply State.evolves_step (State.askProof_evolves _ _ _)
    | with_reducible apply State.evolves_step (State.failProof_evolves _)
    | with_reducible apply State.evolves_step (State.openSession_evolves _ _ _ _)
    | with_reducible apply State.evolves_step (State.spendNonce_evolves _ _ _)
    | decide
    | with_reducible intro _ _ _
    | ((try dsimp only); split)

theorem State.sdpSubscribe_evolves (s : State) (r : Sdp) (bus : Bool) :
    s.evolves (State.sdpSubscribe s r bus).2 [.dict] := by
  unfold State.sdpSubscribe
  repeat' first
    | assumption
    | with_reducible apply State.evolves_refl
    | with_reducible apply State.evolves_ite
    | with_reducible apply State.evolves_foldl
    | with_reducible apply State.evolves_ite_snd
    | with_reducible apply State.evolves_foldl_snd
    | fail_if_no_progress ((with_reducible apply State.evolves_set_dict); decide; (first | (with_reducible exact fun h => h) | exact (fun h => SMap.wf_set _ _ _ _ h) | exact (fun h => SMap.wf_setMany _ _ _ _ h) | exact (fun h => SMap.wf_eraseRange _ _ _ _ h) | exact (fun h => SMap.wfFrom_filter _ _ _ _ h) | exact (fun h => (List.length_set ..).trans h) | exact (fun h => (List.length_modify ..).trans h) | exact (fun h => (List.length_map ..).trans h) | exact (fun h => ⟨h.1, (List.length_set ..).trans h.2⟩) | exact (fun h => h) | exact (fun _ => (List.length_set ..).trans rfl) | exact (fun _ => rfl)))
    | decide
    | with_reducible intro _ _ _
    | ((try dsimp only); split)

theorem State.inSession_evolves (s : State) (r : Sdp) (bus : Bool) (level : Nat) :
    s.evolves (State.inSession s r bus level).2 [.time, .mem, .regs, .frets, .slanes, .board, .num, .emb, .upd, .dram, .fab, .vlk, .adm, .dict, .slow, .rst, .life, .sec] := by
  unfold State.inSession
  repeat' first
    | assumption
    | with_reducible apply State.evolves_refl
    | with_reducible apply State.evolves_ite
    | with_reducible apply State.evolves_foldl
    | with_reducible apply State.evolves_ite_snd
    | with_reducible apply State.evolves_foldl_snd
    | with_reducible apply State.evolves_step (State.closeSession_evolves _ _)
    | with_reducible apply State.evolves_step (State.sdpGet_evolves _ _ _ _)
    | with_reducible apply State.evolves_step (State.sdpSet_evolves _ _ _)
    | with_reducible apply State.evolves_step (State.sdpSubscribe_evolves _ _ _)
    | decide
    | with_reducible intro _ _ _
    | ((try dsimp only); split)

theorem State.serve_evolves (s : State) (bus : Bool) (req : Nat) (m : Bytes) :
    s.evolves (State.serve s bus req m).2 [.time, .free, .mem, .regs, .frets, .slanes, .board, .num, .emb, .upd, .dram, .fab, .vlk, .adm, .dict, .slow, .rst, .life, .sec] := by
  unfold State.serve
  repeat' first
    | assumption
    | with_reducible apply State.evolves_refl
    | with_reducible apply State.evolves_ite
    | with_reducible apply State.evolves_foldl
    | with_reducible apply State.evolves_ite_snd
    | with_reducible apply State.evolves_foldl_snd
    | with_reducible apply State.evolves_step (State.bump_evolves _ _ _ _)
    | with_reducible apply State.evolves_step (State.flag_evolves _ _ _ _)
    | with_reducible apply State.evolves_step (State.inSession_evolves _ _ _ _)
    | with_reducible apply State.evolves_step (State.sdpOpen_evolves _ _ _ _)
    | fail_if_no_progress ((with_reducible apply State.evolves_set_dict); decide; (first | (with_reducible exact fun h => h) | exact (fun h => SMap.wf_set _ _ _ _ h) | exact (fun h => SMap.wf_setMany _ _ _ _ h) | exact (fun h => SMap.wf_eraseRange _ _ _ _ h) | exact (fun h => SMap.wfFrom_filter _ _ _ _ h) | exact (fun h => (List.length_set ..).trans h) | exact (fun h => (List.length_modify ..).trans h) | exact (fun h => (List.length_map ..).trans h) | exact (fun h => ⟨h.1, (List.length_set ..).trans h.2⟩) | exact (fun h => h) | exact (fun _ => (List.length_set ..).trans rfl) | exact (fun _ => rfl)))
    | decide
    | with_reducible intro _ _ _
    | ((try dsimp only); split)

theorem State.serveBus_evolves (s : State) (req : Nat) (m : Bytes) :
    s.evolves (State.serveBus s req m) [.time, .free, .mem, .regs, .frets, .slanes, .board, .num, .emb, .upd, .dram, .fab, .vlk, .adm, .dict, .slow, .rst, .life, .sec] := by
  unfold State.serveBus
  repeat' first
    | assumption
    | with_reducible apply State.evolves_refl
    | with_reducible apply State.evolves_ite
    | with_reducible apply State.evolves_foldl
    | with_reducible apply State.evolves_step (State.serve_evolves _ _ _ _)
    | fail_if_no_progress ((with_reducible apply State.evolves_set_dict); decide; (first | (with_reducible exact fun h => h) | exact (fun h => SMap.wf_set _ _ _ _ h) | exact (fun h => SMap.wf_setMany _ _ _ _ h) | exact (fun h => SMap.wf_eraseRange _ _ _ _ h) | exact (fun h => SMap.wfFrom_filter _ _ _ _ h) | exact (fun h => (List.length_set ..).trans h) | exact (fun h => (List.length_modify ..).trans h) | exact (fun h => (List.length_map ..).trans h) | exact (fun h => ⟨h.1, (List.length_set ..).trans h.2⟩) | exact (fun h => h) | exact (fun _ => (List.length_set ..).trans rfl) | exact (fun _ => rfl)))
    | decide
    | with_reducible intro _ _ _
    | ((try dsimp only); split)

theorem State.answerVilny_evolves (s : State) (frame : Nat) (m : Bytes) :
    s.evolves (State.answerVilny s frame m) [.time, .free, .mem, .regs, .frets, .slanes, .board, .num, .emb, .upd, .dram, .fab, .vlk, .adm, .dict, .slow, .rst, .life, .sec] := by
  unfold State.answerVilny
  repeat' first
    | assumption
    | with_reducible apply State.evolves_refl
    | with_reducible apply State.evolves_ite
    | with_reducible apply State.evolves_foldl
    | with_reducible apply State.evolves_step (State.sendFrame_evolves _ _ _ _ _ _ _ _)
    | with_reducible apply State.evolves_step (State.serve_evolves _ _ _ _)
    | decide
    | with_reducible intro _ _ _
    | ((try dsimp only); split)

theorem State.decideSdp_evolves (s : State) (f : Bytes) (t : Nat) :
    s.evolves (State.decideSdp s f t) [.time, .free, .mem, .regs, .frets, .slanes, .board, .num, .emb, .upd, .dram, .fab, .vlk, .adm, .dict, .slow, .rst, .life, .sec] := by
  unfold State.decideSdp
  repeat' first
    | assumption
    | with_reducible apply State.evolves_refl
    | with_reducible apply State.evolves_ite
    | with_reducible apply State.evolves_foldl
    | with_reducible apply State.evolves_step (State.acceptDone_evolves _ _ _ _)
    | with_reducible apply State.evolves_step (State.answerVilny_evolves _ _ _)
    | with_reducible apply State.evolves_step (State.refuse_evolves _ _ _)
    | decide
    | with_reducible intro _ _ _
    | ((try dsimp only); split)

end Sys2Proof.Machine
end

