-- ==== Sys2Proof/Laws/FrameArrive.lean ====
section
/-! SUPPORT. What each operation of Machine/Arrive.lean may change. -/

namespace Sys2Proof.Machine

theorem State.decideAny_evolves (s : State) (f : Bytes) (t : Nat) :
    s.evolves (State.decideAny s f t) [.time, .free, .mem, .regs, .frets, .slanes, .board, .num, .emb, .upd, .dram, .fab, .vlk, .adm, .dict, .slow, .rst, .life, .sec] := by
  unfold State.decideAny
  repeat' first
    | assumption
    | with_reducible apply State.evolves_refl
    | with_reducible apply State.evolves_ite
    | with_reducible apply State.evolves_foldl
    | with_reducible apply State.evolves_step (State.decideEvents_evolves _ _ _)
    | with_reducible apply State.evolves_step (State.decidePut_evolves _ _ _)
    | with_reducible apply State.evolves_step (State.decideReadback_evolves _ _ _)
    | with_reducible apply State.evolves_step (State.decideRestore_evolves _ _ _)
    | with_reducible apply State.evolves_step (State.decideRows_evolves _ _ _)
    | with_reducible apply State.evolves_step (State.decideSdp_evolves _ _ _)
    | with_reducible apply State.evolves_step (State.decideSettle_evolves _ _ _)
    | with_reducible apply State.evolves_step (State.decideSnapshot_evolves _ _ _)
    | with_reducible apply State.evolves_step (State.decideStatus_evolves _ _ _)
    | decide
    | with_reducible intro _ _ _
    | ((try dsimp only); split)

theorem State.arrive_evolves {P : List Part} (s : State) (f : Bytes) (decide' : State → Bytes → Nat → State)
    (hv : Part.within [.vlk] P = true) (ha : Part.within [.adm] P = true)
    (hd : ∀ (s : State) (t : Nat), s.evolves (decide' s f t) P) :
    s.evolves (State.arrive s f decide') P := by
  unfold State.arrive
  dsimp only
  apply State.evolves_ite (State.evolves_refl _ _)
  have h0 : s.evolves { s with vlk := { s.vlk with arrived := s.vlk.arrived.erase f } } P :=
    State.evolves_set_vlk hv (State.evolves_refl _ _)
  apply State.evolves_ite
  · refine State.evolves_set_adm ha ?_ h0
    exact fun h => h
  · exact State.evolves_step (hd _ _) h0 (State.within_self P)

theorem State.drainBehind_evolves (k : Nat) (s : State) :
    s.evolves (State.drainBehind k s) [.time, .free, .mem, .regs, .frets, .slanes, .board, .num, .emb, .upd, .dram, .fab, .vlk, .adm, .dict, .slow, .rst, .life, .sec] := by
  induction k generalizing s with
  | zero => exact State.evolves_refl _ _
  | succ k ih =>
    unfold State.drainBehind
    apply State.evolves_ite (State.evolves_refl _ _)
    split
    · exact State.evolves_refl _ _
    · refine State.evolves_step (ih _) ?_ (by decide)
      refine State.evolves_step (State.decideAny_evolves _ _ _) ?_ (by decide)
      exact State.evolves_set_adm (by decide) (fun h => h) (State.evolves_refl _ _)

theorem execEvents_evolves (frame : Bytes) (s : State) :
    Outcome.evolves s [.regs, .frets, .emb, .upd, .dram, .fab, .vlk, .adm, .dict, .life] (execEvents frame s) :=
  Outcome.evolves_next (State.arrive_evolves _ _ _ (by decide) (by decide) fun _ _ => State.evolves_wider (State.decideEvents_evolves _ _ _) (by decide))

theorem execPut_evolves (frame : Bytes) (s : State) :
    Outcome.evolves s [.mem, .regs, .frets, .board, .upd, .dram, .vlk, .adm, .dict] (execPut frame s) :=
  Outcome.evolves_next (State.arrive_evolves _ _ _ (by decide) (by decide) fun _ _ => State.evolves_wider (State.decidePut_evolves _ _ _) (by decide))

theorem execRows_evolves (frame : Bytes) (s : State) :
    Outcome.evolves s [.mem, .regs, .emb, .upd, .dram, .vlk, .adm, .dict] (execRows frame s) :=
  Outcome.evolves_next (State.arrive_evolves _ _ _ (by decide) (by decide) fun _ _ => State.evolves_wider (State.decideRows_evolves _ _ _) (by decide))

theorem execRestore_evolves (frame : Bytes) (s : State) :
    Outcome.evolves s [.mem, .regs, .num, .emb, .upd, .dram, .vlk, .adm, .dict] (execRestore frame s) :=
  Outcome.evolves_next (State.arrive_evolves _ _ _ (by decide) (by decide) fun _ _ => State.evolves_wider (State.decideRestore_evolves _ _ _) (by decide))

theorem execSettle_evolves (frame : Bytes) (s : State) :
    Outcome.evolves s [.mem, .regs, .frets, .slanes, .board, .num, .emb, .upd, .dram, .fab, .vlk, .adm, .dict, .life] (execSettle frame s) :=
  Outcome.evolves_next (State.arrive_evolves _ _ _ (by decide) (by decide) fun _ _ => State.evolves_wider (State.decideSettle_evolves _ _ _) (by decide))

theorem execSnapshotReq_evolves (frame : Bytes) (s : State) :
    Outcome.evolves s [.regs, .upd, .vlk, .adm, .dict] (execSnapshotReq frame s) :=
  Outcome.evolves_next (State.arrive_evolves _ _ _ (by decide) (by decide) fun _ _ => State.evolves_wider (State.decideSnapshot_evolves _ _ _) (by decide))

theorem execReadback_evolves (frame : Bytes) (s : State) :
    Outcome.evolves s [.regs, .vlk, .adm, .dict] (execReadback frame s) :=
  Outcome.evolves_next (State.arrive_evolves _ _ _ (by decide) (by decide) fun _ _ => State.evolves_wider (State.decideReadback_evolves _ _ _) (by decide))

theorem execStatus_evolves (frame : Bytes) (s : State) :
    Outcome.evolves s [.regs, .vlk, .adm, .dict] (execStatus frame s) :=
  Outcome.evolves_next (State.arrive_evolves _ _ _ (by decide) (by decide) fun _ _ => State.evolves_wider (State.decideStatus_evolves _ _ _) (by decide))

theorem State.takeTally_evolves (s : State) (h : HeldFrame) :
    s.evolves (State.takeTally s h) [.emb] := by
  unfold State.takeTally
  repeat' first
    | assumption
    | with_reducible apply State.evolves_refl
    | with_reducible apply State.evolves_ite
    | with_reducible apply State.evolves_foldl
    | fail_if_no_progress ((with_reducible apply State.evolves_set_emb); decide)
    | decide
    | with_reducible intro _ _ _
    | ((try dsimp only); split)

theorem State.dropTally_evolves (s : State) (id : Nat) :
    s.evolves (State.dropTally s id) [.emb] := by
  unfold State.dropTally
  repeat' first
    | assumption
    | with_reducible apply State.evolves_refl
    | with_reducible apply State.evolves_ite
    | with_reducible apply State.evolves_foldl
    | fail_if_no_progress ((with_reducible apply State.evolves_set_emb); decide)
    | decide
    | with_reducible intro _ _ _
    | ((try dsimp only); split)

theorem execTallyComplete_evolves (frame : Nat) (s : State) :
    Outcome.evolves s [.time, .free, .mem, .regs, .frets, .slanes, .board, .num, .emb, .upd, .dram, .fab, .vlk, .adm, .dict, .slow, .rst, .life, .sec] (execTallyComplete frame s) := by
  unfold execTallyComplete
  refine Outcome.evolves_next ?_
  split
  · exact State.evolves_refl _ _
  · next h _ =>
    refine State.evolves_step (State.drainBehind_evolves _ _) ?_ (by decide)
    refine State.evolves_step (State.dropTally_evolves _ _) ?_ (by decide)
    refine State.evolves_step (State.decideTallied_evolves _ _ _) ?_ (by decide)
    refine State.evolves_step (State.unhold_evolves _ _) ?_ (by decide)
    exact State.evolves_wider (State.takeTally_evolves _ _) (by decide)

theorem State.sdpRequest_evolves (s : State) (op : Nat) (bus : Bool) (req : Requester) (frame : Nat) (message : Bytes) :
    s.evolves (State.sdpRequest s op bus req frame message) [.time, .free, .mem, .regs, .frets, .slanes, .board, .num, .emb, .upd, .dram, .fab, .vlk, .adm, .dict, .slow, .rst, .life, .sec] := by
  unfold State.sdpRequest
  dsimp only
  apply State.evolves_ite (State.evolves_refl _ _)
  apply State.evolves_ite
  · apply State.evolves_ite
    · exact State.evolves_wider (State.serveBus_evolves _ _ _) (by decide)
    · exact State.evolves_refl _ _
  · split
    · exact State.arrive_evolves _ _ _ (by decide) (by decide) fun _ _ => State.evolves_wider (State.decideSdp_evolves _ _ _) (by decide)
    · exact State.evolves_wider (State.answerVilny_evolves _ _ _) (by decide)

theorem execSdpGet_evolves (bus : Bool) (req : Requester) (frame : Nat) (message : Bytes) (s : State) :
    Outcome.evolves s [.time, .free, .mem, .regs, .frets, .slanes, .board, .num, .emb, .upd, .dram, .fab, .vlk, .adm, .dict, .slow, .rst, .life, .sec] (execSdpGet bus req frame message s) := by
  unfold execSdpGet
  exact Outcome.evolves_next (State.evolves_wider (State.sdpRequest_evolves _ _ _ _ _ _) (by decide))

theorem execSdpSet_evolves (bus : Bool) (req : Requester) (frame : Nat) (message : Bytes) (s : State) :
    Outcome.evolves s [.time, .free, .mem, .regs, .frets, .slanes, .board, .num, .emb, .upd, .dram, .fab, .vlk, .adm, .dict, .slow, .rst, .life, .sec] (execSdpSet bus req frame message s) := by
  unfold execSdpSet
  exact Outcome.evolves_next (State.evolves_wider (State.sdpRequest_evolves _ _ _ _ _ _) (by decide))

theorem execSdpOpen_evolves (bus : Bool) (req : Requester) (frame : Nat) (message : Bytes) (s : State) :
    Outcome.evolves s [.time, .free, .mem, .regs, .frets, .slanes, .board, .num, .emb, .upd, .dram, .fab, .vlk, .adm, .dict, .slow, .rst, .life, .sec] (execSdpOpen bus req frame message s) := by
  unfold execSdpOpen
  exact Outcome.evolves_next (State.evolves_wider (State.sdpRequest_evolves _ _ _ _ _ _) (by decide))

theorem execSdpClose_evolves (bus : Bool) (req : Requester) (frame : Nat) (message : Bytes) (s : State) :
    Outcome.evolves s [.time, .free, .mem, .regs, .frets, .slanes, .board, .num, .emb, .upd, .dram, .fab, .vlk, .adm, .dict, .slow, .rst, .life, .sec] (execSdpClose bus req frame message s) := by
  unfold execSdpClose
  exact Outcome.evolves_next (State.evolves_wider (State.sdpRequest_evolves _ _ _ _ _ _) (by decide))

theorem execSdpSubscribe_evolves (bus : Bool) (req : Requester) (frame : Nat) (message : Bytes) (s : State) :
    Outcome.evolves s [.time, .free, .mem, .regs, .frets, .slanes, .board, .num, .emb, .upd, .dram, .fab, .vlk, .adm, .dict, .slow, .rst, .life, .sec] (execSdpSubscribe bus req frame message s) := by
  unfold execSdpSubscribe
  exact Outcome.evolves_next (State.evolves_wider (State.sdpRequest_evolves _ _ _ _ _ _) (by decide))

theorem execNonceExpiry_evolves (bus : Bool) (req : Requester) (s : State) :
    Outcome.evolves s [.dict] (execNonceExpiry bus req s) := by
  unfold execNonceExpiry
  refine Outcome.evolves_next ?_
  repeat' first
    | assumption
    | with_reducible apply State.evolves_refl
    | with_reducible apply State.evolves_ite
    | with_reducible apply State.evolves_foldl
    | fail_if_no_progress ((with_reducible apply State.evolves_set_dict); decide; (first | (with_reducible exact fun h => h) | exact (fun h => SMap.wf_set _ _ _ _ h) | exact (fun h => SMap.wf_setMany _ _ _ _ h) | exact (fun h => SMap.wf_eraseRange _ _ _ _ h) | exact (fun h => SMap.wfFrom_filter _ _ _ _ h) | exact (fun h => (List.length_set ..).trans h) | exact (fun h => (List.length_modify ..).trans h) | exact (fun h => (List.length_map ..).trans h) | exact (fun h => ⟨h.1, (List.length_set ..).trans h.2⟩) | exact (fun h => h) | exact (fun _ => (List.length_set ..).trans rfl) | exact (fun _ => rfl)))
    | decide
    | with_reducible intro _ _ _
    | ((try dsimp only); split)

theorem execSessionIdle_evolves (session : Nat) (s : State) :
    Outcome.evolves s [.dict] (execSessionIdle session s) := by
  unfold execSessionIdle
  refine Outcome.evolves_next ?_
  repeat' first
    | assumption
    | with_reducible apply State.evolves_refl
    | with_reducible apply State.evolves_ite
    | with_reducible apply State.evolves_foldl
    | with_reducible apply State.evolves_step (State.closeSession_evolves _ _)
    | decide
    | with_reducible intro _ _ _
    | ((try dsimp only); split)

theorem execStagingIdle_evolves (entry : Nat) (s : State) :
    Outcome.evolves s [.dict] (execStagingIdle entry s) := by
  unfold execStagingIdle
  refine Outcome.evolves_next ?_
  repeat' first
    | assumption
    | with_reducible apply State.evolves_refl
    | with_reducible apply State.evolves_ite
    | with_reducible apply State.evolves_foldl
    | with_reducible apply State.evolves_step (State.dropStaging_evolves _ _)
    | decide
    | with_reducible intro _ _ _
    | ((try dsimp only); split)

theorem execAuthLockoutEnd_evolves (s : State) :
    Outcome.evolves s [.sec] (execAuthLockoutEnd s) := by
  unfold execAuthLockoutEnd
  refine Outcome.evolves_next ?_
  repeat' first
    | assumption
    | with_reducible apply State.evolves_refl
    | with_reducible apply State.evolves_ite
    | with_reducible apply State.evolves_foldl
    | fail_if_no_progress ((with_reducible apply State.evolves_set_sec); decide)
    | decide
    | with_reducible intro _ _ _
    | ((try dsimp only); split)

theorem execRegisterDataGet_evolves (level : Fin 4) (s : State) :
    Outcome.evolves s [.regs, .board, .dict] (execRegisterDataGet level s) := by
  unfold execRegisterDataGet
  refine Outcome.evolves_next ?_
  split
  · next h => exact State.registerGet_evolves h
  · exact State.evolves_refl _ _

theorem execRegisterDataSet_evolves (level : Fin 4) (value : BitVec 64) (s : State) :
    Outcome.evolves s [.regs, .frets, .slanes, .board, .num, .emb, .upd, .dram, .fab, .vlk, .adm, .dict, .slow, .rst, .life] (execRegisterDataSet level value s) := by
  unfold execRegisterDataSet
  refine Outcome.evolves_next ?_
  repeat' first
    | assumption
    | with_reducible apply State.evolves_refl
    | with_reducible apply State.evolves_ite
    | with_reducible apply State.evolves_foldl
    | with_reducible apply State.evolves_step (State.registerSet_evolves _ _ _)
    | decide
    | with_reducible intro _ _ _
    | ((try dsimp only); split)

end Sys2Proof.Machine
end

