-- ==== Sys2Proof/Laws/FrameLife.lean ====
section
/-! SUPPORT. What each operation of Machine/Life.lean may change. -/

namespace Sys2Proof.Machine

theorem State.memoryGone_evolves (s : State) (die : Nat) :
    s.evolves (State.memoryGone s die) [.mem, .dram] := by
  unfold State.memoryGone
  repeat' first
    | assumption
    | with_reducible apply State.evolves_refl
    | with_reducible apply State.evolves_ite
    | with_reducible apply State.evolves_foldl
    | with_reducible apply State.evolves_step (State.tierLost_evolves _ _)
    | fail_if_no_progress ((with_reducible apply State.evolves_set_dram); decide)
    | decide
    | with_reducible intro _ _ _
    | ((try dsimp only); split)

theorem State.dieGone_evolves (s : State) (die : Nat) :
    s.evolves (State.dieGone s die) [.mem, .regs, .frets, .board, .dram, .fab, .vlk, .adm, .dict, .life] := by
  unfold State.dieGone
  repeat' first
    | assumption
    | with_reducible apply State.evolves_refl
    | with_reducible apply State.evolves_ite
    | with_reducible apply State.evolves_foldl
    | with_reducible apply State.evolves_step (State.closeUnused_evolves _)
    | with_reducible apply State.evolves_step (State.dieLeaves_evolves _ _)
    | with_reducible apply State.evolves_step (State.memoryGone_evolves _ _)
    | with_reducible apply State.evolves_step (State.stopFrets_evolves _ _)
    | with_reducible apply State.evolves_step (State.vilnyDown_evolves _)
    | decide
    | with_reducible intro _ _ _
    | ((try dsimp only); split)

theorem State.dieReset_evolves (s : State) (die : Nat) :
    s.evolves (State.dieReset s die) [.regs, .frets, .slanes, .board, .num, .emb, .upd, .dram, .fab, .vlk] := by
  unfold State.dieReset
  repeat' first
    | assumption
    | with_reducible apply State.evolves_refl
    | with_reducible apply State.evolves_ite
    | with_reducible apply State.evolves_foldl
    | with_reducible apply State.evolves_step (State.resetBlockRegs_evolves _ _ _)
    | with_reducible apply State.evolves_step (State.resetBlockState_evolves _ _ _)
    | fail_if_no_progress ((with_reducible apply State.evolves_set_frets); decide; (first | (with_reducible exact fun h => h) | exact (fun h => SMap.wf_set _ _ _ _ h) | exact (fun h => SMap.wf_setMany _ _ _ _ h) | exact (fun h => SMap.wf_eraseRange _ _ _ _ h) | exact (fun h => SMap.wfFrom_filter _ _ _ _ h) | exact (fun h => (List.length_set ..).trans h) | exact (fun h => (List.length_modify ..).trans h) | exact (fun h => (List.length_map ..).trans h) | exact (fun h => ⟨h.1, (List.length_set ..).trans h.2⟩) | exact (fun h => h) | exact (fun _ => (List.length_set ..).trans rfl) | exact (fun _ => rfl)))
    | decide
    | with_reducible intro _ _ _
    | ((try dsimp only); split)

theorem State.coreFails_evolves (s : State) (die core : Nat) :
    s.evolves (State.coreFails s die core) [.mem, .regs, .frets, .board, .dram, .fab, .vlk, .adm, .dict, .life] := by
  unfold State.coreFails
  repeat' first
    | assumption
    | with_reducible apply State.evolves_refl
    | with_reducible apply State.evolves_ite
    | with_reducible apply State.evolves_foldl
    | with_reducible apply State.evolves_step (State.dieGone_evolves _ _)
    | with_reducible apply State.evolves_step (State.flag_evolves _ _ _ _)
    | with_reducible apply State.evolves_step (State.logSubst_evolves _ _ _ _ _)
    | with_reducible apply State.evolves_step (State.updSpare_evolves _ _)
    | decide
    | with_reducible intro _ _ _
    | ((try dsimp only); split)

theorem State.coreFaultLoc_evolves (s : State) (die core : Nat) :
    s.evolves (State.coreFaultLoc s die core) [.regs] := by
  unfold State.coreFaultLoc
  repeat' first
    | assumption
    | with_reducible apply State.evolves_refl
    | with_reducible apply State.evolves_ite
    | with_reducible apply State.evolves_foldl
    | with_reducible apply State.evolves_step (State.faultLoc_evolves _ _ _ _ _)
    | decide
    | with_reducible intro _ _ _
    | ((try dsimp only); split)

theorem execCoreFault_evolves (die : Fin 6) (core : Fin 8) (s : State) :
    Outcome.evolves s [.mem, .regs, .frets, .board, .upd, .dram, .fab, .vlk, .adm, .dict, .life] (execCoreFault die core s) := by
  unfold execCoreFault
  refine Outcome.evolves_next ?_
  repeat' first
    | assumption
    | with_reducible apply State.evolves_refl
    | with_reducible apply State.evolves_ite
    | with_reducible apply State.evolves_foldl
    | with_reducible apply State.evolves_step (State.breakStep_evolves _ _ _)
    | with_reducible apply State.evolves_step (State.coreFails_evolves _ _ _)
    | with_reducible apply State.evolves_step (State.coreFaultLoc_evolves _ _ _)
    | with_reducible apply State.evolves_step (State.jobFault_evolves _ _ _)
    | with_reducible apply State.evolves_step (State.setFault_evolves _ _)
    | with_reducible apply State.evolves_step (State.stopFrets_evolves _ _)
    | decide
    | with_reducible intro _ _ _
    | ((try dsimp only); split)

theorem State.mgmtCoreFails_evolves (s : State) (core : Nat) :
    s.evolves (State.mgmtCoreFails s core) [.regs, .dict, .life] := by
  unfold State.mgmtCoreFails
  repeat' first
    | assumption
    | with_reducible apply State.evolves_refl
    | with_reducible apply State.evolves_ite
    | with_reducible apply State.evolves_foldl
    | with_reducible apply State.evolves_step (State.relevel_evolves _ _ _)
    | fail_if_no_progress ((with_reducible apply State.evolves_set_life); decide; (first | (with_reducible exact fun h => h) | exact (fun h => SMap.wf_set _ _ _ _ h) | exact (fun h => SMap.wf_setMany _ _ _ _ h) | exact (fun h => SMap.wf_eraseRange _ _ _ _ h) | exact (fun h => SMap.wfFrom_filter _ _ _ _ h) | exact (fun h => (List.length_set ..).trans h) | exact (fun h => (List.length_modify ..).trans h) | exact (fun h => (List.length_map ..).trans h) | exact (fun h => ⟨h.1, (List.length_set ..).trans h.2⟩) | exact (fun h => h) | exact (fun _ => (List.length_set ..).trans rfl) | exact (fun _ => rfl)))
    | decide
    | with_reducible intro _ _ _
    | ((try dsimp only); split)

theorem execManagementCoreFault_evolves (core : Fin 2) (s : State) :
    Outcome.evolves s [.regs, .dict, .life] (execManagementCoreFault core s) := by
  unfold execManagementCoreFault
  refine Outcome.evolves_next ?_
  repeat' first
    | assumption
    | with_reducible apply State.evolves_refl
    | with_reducible apply State.evolves_ite
    | with_reducible apply State.evolves_foldl
    | with_reducible apply State.evolves_step (State.mgmtCoreFails_evolves _ _)
    | decide
    | with_reducible intro _ _ _
    | ((try dsimp only); split)

theorem State.bankFails_evolves (s : State) (die bank : Nat) :
    s.evolves (State.bankFails s die bank) [.mem, .regs, .emb, .dict, .life] := by
  unfold State.bankFails
  repeat' first
    | assumption
    | with_reducible apply State.evolves_refl
    | with_reducible apply State.evolves_ite
    | with_reducible apply State.evolves_foldl
    | with_reducible apply State.evolves_step (State.leaveService_evolves _ _ _ _)
    | with_reducible apply State.evolves_step (State.logSubst_evolves _ _ _ _ _)
    | with_reducible apply State.evolves_step (State.updSpare_evolves _ _)
    | with_reducible apply State.evolves_step (State.zeroMem_evolves _ _ _)
    | fail_if_no_progress ((with_reducible apply State.evolves_set_emb); decide)
    | decide
    | with_reducible intro _ _ _
    | ((try dsimp only); split)

theorem State.pushAgain_evolves (s : State) (die bank : Nat) :
    s.evolves (State.pushAgain s die bank) [.mem] := by
  unfold State.pushAgain
  repeat' first
    | assumption
    | with_reducible apply State.evolves_refl
    | with_reducible apply State.evolves_ite
    | with_reducible apply State.evolves_foldl
    | with_reducible apply State.evolves_step (State.hotWrite_evolves _ _ _ _)
    | decide
    | with_reducible intro _ _ _
    | ((try dsimp only); split)

theorem execHotsetBankFault_evolves (die : Fin 4) (bank : Fin 60) (s : State) :
    Outcome.evolves s [.mem, .regs, .emb, .upd, .fab, .vlk, .adm, .dict, .life] (execHotsetBankFault die bank s) := by
  unfold execHotsetBankFault
  refine Outcome.evolves_next ?_
  repeat' first
    | assumption
    | with_reducible apply State.evolves_refl
    | with_reducible apply State.evolves_ite
    | with_reducible apply State.evolves_foldl
    | with_reducible apply State.evolves_step (State.bankFails_evolves _ _ _)
    | with_reducible apply State.evolves_step (State.jobFault_evolves _ _ _)
    | with_reducible apply State.evolves_step (State.pushAgain_evolves _ _ _)
    | decide
    | with_reducible intro _ _ _
    | ((try dsimp only); split)

theorem execRegulatorPhaseFail_evolves (die : Fin 8) (s : State) :
    Outcome.evolves s [.mem, .regs, .frets, .slanes, .board, .num, .emb, .upd, .dram, .fab, .vlk, .adm, .dict, .life] (execRegulatorPhaseFail die s) := by
  unfold execRegulatorPhaseFail
  refine Outcome.evolves_next ?_
  repeat' first
    | assumption
    | with_reducible apply State.evolves_refl
    | with_reducible apply State.evolves_ite
    | with_reducible apply State.evolves_foldl
    | with_reducible apply State.evolves_step (State.breakStep_evolves _ _ _)
    | with_reducible apply State.evolves_step (State.dieGone_evolves _ _)
    | with_reducible apply State.evolves_step (State.dieReset_evolves _ _)
    | with_reducible apply State.evolves_step (State.lifeLog_evolves _ _ _ _ _)
    | with_reducible apply State.evolves_step (State.setFault_evolves _ _)
    | with_reducible apply State.evolves_step (State.stopFrets_evolves _ _)
    | fail_if_no_progress ((with_reducible apply State.evolves_set_life); decide; (first | (with_reducible exact fun h => h) | exact (fun h => SMap.wf_set _ _ _ _ h) | exact (fun h => SMap.wf_setMany _ _ _ _ h) | exact (fun h => SMap.wf_eraseRange _ _ _ _ h) | exact (fun h => SMap.wfFrom_filter _ _ _ _ h) | exact (fun h => (List.length_set ..).trans h) | exact (fun h => (List.length_modify ..).trans h) | exact (fun h => (List.length_map ..).trans h) | exact (fun h => ⟨h.1, (List.length_set ..).trans h.2⟩) | exact (fun h => h) | exact (fun _ => (List.length_set ..).trans rfl) | exact (fun _ => rfl)))
    | decide
    | with_reducible intro _ _ _
    | ((try dsimp only); split)

theorem State.rewriteSpares_evolves (s : State) :
    s.evolves (State.rewriteSpares s) [.rst, .life] := by
  unfold State.rewriteSpares
  repeat' first
    | assumption
    | with_reducible apply State.evolves_refl
    | with_reducible apply State.evolves_ite
    | with_reducible apply State.evolves_foldl
    | with_reducible apply State.evolves_step (State.nvPulse_evolves _ _ _)
    | fail_if_no_progress ((with_reducible apply State.evolves_set_life); decide; (first | (with_reducible exact fun h => h) | exact (fun h => SMap.wf_set _ _ _ _ h) | exact (fun h => SMap.wf_setMany _ _ _ _ h) | exact (fun h => SMap.wf_eraseRange _ _ _ _ h) | exact (fun h => SMap.wfFrom_filter _ _ _ _ h) | exact (fun h => (List.length_set ..).trans h) | exact (fun h => (List.length_modify ..).trans h) | exact (fun h => (List.length_map ..).trans h) | exact (fun h => ⟨h.1, (List.length_set ..).trans h.2⟩) | exact (fun h => h) | exact (fun _ => (List.length_set ..).trans rfl) | exact (fun _ => rfl)))
    | decide
    | with_reducible intro _ _ _
    | ((try dsimp only); split)

theorem execSpareRecordRewrite_evolves (s : State) :
    Outcome.evolves s [.rst, .life] (execSpareRecordRewrite s) := by
  unfold execSpareRecordRewrite
  refine Outcome.evolves_next ?_
  repeat' first
    | assumption
    | with_reducible apply State.evolves_refl
    | with_reducible apply State.evolves_ite
    | with_reducible apply State.evolves_foldl
    | with_reducible apply State.evolves_step (State.rewriteSpares_evolves _)
    | decide
    | with_reducible intro _ _ _
    | ((try dsimp only); split)

theorem execThermalCycle_evolves (die : Fin 8) (s : State) :
    Outcome.evolves s [.life] (execThermalCycle die s) := by
  unfold execThermalCycle
  refine Outcome.evolves_next ?_
  repeat' first
    | assumption
    | with_reducible apply State.evolves_refl
    | with_reducible apply State.evolves_ite
    | with_reducible apply State.evolves_foldl
    | with_reducible apply State.evolves_step (State.wear_evolves _ _ _)
    | decide
    | with_reducible intro _ _ _
    | ((try dsimp only); split)

theorem execMgmtPhyLink_evolves (up active : Bool) (s : State) :
    Outcome.evolves s [.regs] (execMgmtPhyLink up active s) := by
  unfold execMgmtPhyLink
  refine Outcome.evolves_next ?_
  repeat' first
    | assumption
    | with_reducible apply State.evolves_refl
    | with_reducible apply State.evolves_ite
    | with_reducible apply State.evolves_foldl
    | with_reducible apply State.evolves_step (State.setField_evolves _ _ _ _ _ _)
    | decide
    | with_reducible intro _ _ _
    | ((try dsimp only); split)

end Sys2Proof.Machine
end

