-- ==== Sys2Proof/Laws/FrameReset.lean ====
section
/-! SUPPORT. What each operation of Machine/Reset.lean may change. -/

namespace Sys2Proof.Machine

theorem State.doneWrite_evolves (s : State) (r : MemReq) :
    s.evolves (State.doneWrite s r) [.mem, .dram] := by
  unfold State.doneWrite
  repeat' first
    | assumption
    | with_reducible apply State.evolves_refl
    | with_reducible apply State.evolves_ite
    | with_reducible apply State.evolves_foldl
    | with_reducible apply State.evolves_step (State.store_evolves _ _ _)
    | decide
    | with_reducible intro _ _ _
    | ((try dsimp only); split)

theorem State.completeWrites_evolves (s : State) :
    s.evolves (State.completeWrites s) [.mem, .dram] := by
  unfold State.completeWrites
  repeat' first
    | assumption
    | with_reducible apply State.evolves_refl
    | with_reducible apply State.evolves_ite
    | with_reducible apply State.evolves_foldl
    | with_reducible apply State.evolves_step (State.doneWrite_evolves _ _)
    | fail_if_no_progress ((with_reducible apply State.evolves_set_dram); decide)
    | decide
    | with_reducible intro _ _ _
    | ((try dsimp only); split)

theorem SMap.wfFrom_map {β : Type} [DecidableEq β] (d : β) (lo : Nat) (m : SMap β) (f : Nat × β → Nat × β)
    (hf : ∀ p, (f p).1 = p.1) (h : SMap.wfFrom d lo m = true) :
    SMap.wfFrom d lo ((m.map f).filter fun p => decide (p.2 ≠ d)) = true := by
  induction m generalizing lo with
  | nil => rfl
  | cons p t ih =>
    simp only [SMap.wfFrom, Bool.and_eq_true, decide_eq_true_eq] at h
    rw [List.map_cons, List.filter_cons]
    split
    · next hv =>
      simp only [SMap.wfFrom, Bool.and_eq_true, decide_eq_true_eq]
      exact ⟨⟨by rw [hf]; exact h.1.1, by simpa using hv⟩, by rw [hf]; exact ih _ h.2⟩
    · exact SMap.wfFrom_mono d (p.1 + 1) lo _ (ih _ h.2) (by omega)

set_option maxRecDepth 100000 in
/-- The registers after a power-on reset are in their canonical form. -/
theorem resetRegs_wf : SMap.wf 0 resetRegs = true := by decide

theorem SMap.wf_foldl_set (b : SMap W64) (l : List (Nat × Nat)) (h : SMap.wf 0 b = true) :
    SMap.wf 0 (l.foldl (fun m r => SMap.set 0 m r.1 (BitVec.ofNat 64 r.2)) b) = true := by
  induction l generalizing b with
  | nil => exact h
  | cons x t ih => exact ih _ (SMap.wf_set _ _ _ _ h)

/-- So are the registers after any reset. -/
theorem State.regsAfter_wf (s : State) (power : Bool) : SMap.wf 0 (s.regsAfter power) = true := by
  unfold State.regsAfter
  exact SMap.wf_foldl_set _ _ (SMap.wfFrom_map 0 0 _ _ (fun p => by split <;> rfl) resetRegs_wf)

theorem State.cleared_evolves (s : State) (power : Bool) :
    s.evolves (State.cleared s power) [.pending, .time, .free, .mem, .regs, .frets, .slanes, .board, .num, .emb, .upd, .dram, .fab, .vlk, .adm, .dict, .slow, .rst, .life, .sec] := by
  refine ⟨fun p hp => ?_, fun h p => ?_⟩
  · cases p <;> first | rfl | cases hp
  · cases p with
    | mem => exact SMap.wf_eraseRange 0 s.mem 0x40100000000 0x20000000 (h .mem)
    | regs =>
      unfold State.cleared
      dsimp only [State.soundAt]
      exact State.regsAfter_wf s power
    | frets =>
      unfold State.cleared
      dsimp only [State.soundAt, State.reset]
      rfl
    | slanes =>
      unfold State.cleared
      dsimp only [State.soundAt, State.reset]
      rfl
    | num => trivial
    | upd => exact (h .upd : s.upd.recs.length = 2)
    | fab => exact (rfl : Fab.reset.ports.length = 6)
    | adm => exact (rfl : Adm.reset.counts.length = 26)
    | dict => exact (⟨Nat.zero_le _, rfl⟩ : Dict.reset.log.length ≤ 8192 ∧ Dict.reset.fn.length = 5)
    | slow =>
      unfold State.cleared
      dsimp only [State.soundAt]
      cases power <;> rfl
    | rst =>
      have k := (h .rst).1
      unfold State.cleared
      dsimp only [State.soundAt, State.reset]
      exact ⟨k, Nat.zero_le _, rfl, rfl⟩
    | life => exact (h .life : s.life.log.length ≤ 65536)
    | pending => trivial
    | time => trivial
    | free => trivial
    | board => trivial
    | emb => trivial
    | dram => trivial
    | vlk => trivial
    | sec => trivial

theorem State.resetRecord_evolves (s : State) (cause delay phase : Nat) :
    s.evolves (State.resetRecord s cause delay phase) [.regs, .rst, .life] := by
  unfold State.resetRecord
  dsimp only
  refine State.evolves_step (State.lifeLog_evolves _ _ _ _ _) ?_ (by decide)
  refine State.evolves_set_rst (by decide) (fun h => ⟨?_, h.2⟩) (State.evolves_refl _ _)
  simp only [List.length_take]
  omega

theorem State.powerRecord_evolves (s : State) : s.evolves (State.powerRecord s) [.regs, .upd, .adm, .slow, .rst, .life] := by
  unfold State.powerRecord
  apply State.evolves_ite (State.evolves_refl _ _)
  dsimp only
  refine State.evolves_set_adm_rst (by decide) (fun h => h) (fun h => h) ?_
  refine State.evolves_step (State.resetRecord_evolves _ _ _ _) ?_ (by decide)
  refine State.evolves_step (State.wear_evolves _ _ _) ?_ (by decide)
  refine State.evolves_step (State.bump_evolves _ _ _ _) ?_ (by decide)
  apply State.evolves_ite (State.evolves_refl _ _)
  refine State.evolves_set_slow (by decide) (fun _ => rfl) ?_
  refine State.evolves_step (State.clearReg_evolves _ _ _ _) ?_ (by decide)
  refine State.evolves_set_upd_adm_rst_life (by decide) (fun _ => rfl) id (fun h => ⟨Nat.zero_le _, h.2⟩) id ?_
  apply State.evolves_foldl (State.evolves_refl _ _)
  intro a x h
  exact State.evolves_step (State.setReg_evolves _ _ _ _) h (by decide)

theorem State.phase0_evolves (s : State) :
    s.evolves (State.phase0 s) [.regs, .upd, .adm, .slow, .rst, .life] := by
  unfold State.phase0
  repeat' first
    | assumption
    | with_reducible apply State.evolves_refl
    | with_reducible apply State.evolves_ite
    | with_reducible apply State.evolves_foldl
    | with_reducible apply State.evolves_step (State.flag_evolves _ _ _ _)
    | with_reducible apply State.evolves_step (State.powerRecord_evolves _)
    | decide
    | with_reducible intro _ _ _
    | ((try dsimp only); split)

theorem State.keepSteps_evolves (s : State) :
    s.evolves (State.keepSteps s) [.mem, .regs, .upd, .dram, .rst] := by
  unfold State.keepSteps
  repeat' first
    | assumption
    | with_reducible apply State.evolves_refl
    | with_reducible apply State.evolves_ite
    | with_reducible apply State.evolves_foldl
    | with_reducible apply State.evolves_step (State.emptyJournals_evolves _)
    | with_reducible apply State.evolves_step (State.rewind_evolves _)
    | fail_if_no_progress ((with_reducible apply State.evolves_set_rst); decide; (first | (with_reducible exact fun h => h) | exact (fun h => SMap.wf_set _ _ _ _ h) | exact (fun h => SMap.wf_setMany _ _ _ _ h) | exact (fun h => SMap.wf_eraseRange _ _ _ _ h) | exact (fun h => SMap.wfFrom_filter _ _ _ _ h) | exact (fun h => (List.length_set ..).trans h) | exact (fun h => (List.length_modify ..).trans h) | exact (fun h => (List.length_map ..).trans h) | exact (fun h => ⟨h.1, (List.length_set ..).trans h.2⟩) | exact (fun h => h) | exact (fun _ => (List.length_set ..).trans rfl) | exact (fun _ => rfl)))
    | decide
    | with_reducible intro _ _ _
    | ((try dsimp only); split)

theorem State.internalReset_evolves (s : State) (delay : Nat) :
    s.evolves (State.internalReset s delay) [.pending, .time, .free, .mem, .regs, .frets, .slanes, .board, .num, .emb, .upd, .dram, .fab, .vlk, .adm, .dict, .slow, .rst, .life, .sec] := by
  unfold State.internalReset
  dsimp only
  refine State.evolves_set_adm_rst (by decide) (fun h => h) (fun h => h) ?_
  refine State.evolves_step (State.cleared_evolves _ _) ?_ (by decide)
  refine State.evolves_step (State.flushCounters_evolves _) ?_ (by decide)
  refine State.evolves_step (State.wear_evolves _ _ _) ?_ (by decide)
  refine State.evolves_step (State.bump_evolves _ _ _ _) ?_ (by decide)
  refine State.evolves_step (State.completeWrites_evolves _) ?_ (by decide)
  refine State.evolves_step (State.resetRecord_evolves _ _ _ _) ?_ (by decide)
  refine State.evolves_step (State.tellLevel_evolves _) ?_ (by decide)
  exact State.evolves_ite (State.evolves_wider (State.powerRecord_evolves _) (by decide))
    (State.evolves_set_rst (by decide) (fun h => h) (State.evolves_refl _ _))

theorem State.suspendErases_evolves (s : State) (t : Nat) (started : Bool) :
    s.evolves (State.suspendErases s t started) [.rst] := by
  unfold State.suspendErases
  repeat' first
    | assumption
    | with_reducible apply State.evolves_refl
    | with_reducible apply State.evolves_ite
    | with_reducible apply State.evolves_foldl
    | fail_if_no_progress ((with_reducible apply State.evolves_set_rst); decide; (first | (with_reducible exact fun h => h) | exact (fun h => SMap.wf_set _ _ _ _ h) | exact (fun h => SMap.wf_setMany _ _ _ _ h) | exact (fun h => SMap.wf_eraseRange _ _ _ _ h) | exact (fun h => SMap.wfFrom_filter _ _ _ _ h) | exact (fun h => (List.length_set ..).trans h) | exact (fun h => (List.length_modify ..).trans h) | exact (fun h => (List.length_map ..).trans h) | exact (fun h => ⟨h.1, (List.length_set ..).trans h.2⟩) | exact (fun h => h) | exact (fun _ => (List.length_set ..).trans rfl) | exact (fun _ => rfl)))
    | decide
    | with_reducible intro _ _ _
    | ((try dsimp only); split)

theorem State.resumeErases_evolves (s : State) :
    s.evolves (State.resumeErases s) [.rst] := by
  unfold State.resumeErases
  repeat' first
    | assumption
    | with_reducible apply State.evolves_refl
    | with_reducible apply State.evolves_ite
    | with_reducible apply State.evolves_foldl
    | fail_if_no_progress ((with_reducible apply State.evolves_set_rst); decide; (first | (with_reducible exact fun h => h) | exact (fun h => SMap.wf_set _ _ _ _ h) | exact (fun h => SMap.wf_setMany _ _ _ _ h) | exact (fun h => SMap.wf_eraseRange _ _ _ _ h) | exact (fun h => SMap.wfFrom_filter _ _ _ _ h) | exact (fun h => (List.length_set ..).trans h) | exact (fun h => (List.length_modify ..).trans h) | exact (fun h => (List.length_map ..).trans h) | exact (fun h => ⟨h.1, (List.length_set ..).trans h.2⟩) | exact (fun h => h) | exact (fun _ => (List.length_set ..).trans rfl) | exact (fun _ => rfl)))
    | decide
    | with_reducible intro _ _ _
    | ((try dsimp only); split)

theorem State.pinStart_evolves (s : State) : s.evolves (State.pinStart s) [.pending, .time, .free, .mem, .regs, .frets, .slanes, .board, .num, .emb, .upd, .dram, .fab, .vlk, .adm, .dict, .slow, .rst, .life, .sec] := by
  unfold State.pinStart
  apply State.evolves_ite (State.evolves_refl _ _)
  dsimp only
  have h : s.evolves ((s.stopFrets [0, 1]).suspendErases (s.stopFrets [0, 1]).time true) [.pending, .time, .free, .mem, .regs, .frets, .slanes, .board, .num, .emb, .upd, .dram, .fab, .vlk, .adm, .dict, .slow, .rst, .life, .sec] :=
    State.evolves_step (State.suspendErases_evolves _ _ _) (State.evolves_wider (State.stopFrets_evolves _ _) (by decide)) (by decide)
  exact State.evolves_ite (State.evolves_set_rst (by decide) (fun h => h) h)
    (State.evolves_step (State.internalReset_evolves _ _) h (by decide))

theorem execPinReset_evolves (s : State) :
    Outcome.evolves s [.pending, .time, .free, .mem, .regs, .frets, .slanes, .board, .num, .emb, .upd, .dram, .fab, .vlk, .adm, .dict, .slow, .rst, .life, .sec] (execPinReset s) := by
  unfold execPinReset
  refine Outcome.evolves_next ?_
  repeat' first
    | assumption
    | with_reducible apply State.evolves_refl
    | with_reducible apply State.evolves_ite
    | with_reducible apply State.evolves_foldl
    | with_reducible apply State.evolves_step (State.pinStart_evolves _)
    | fail_if_no_progress ((with_reducible apply State.evolves_set_rst); decide; (first | (with_reducible exact fun h => h) | exact (fun h => SMap.wf_set _ _ _ _ h) | exact (fun h => SMap.wf_setMany _ _ _ _ h) | exact (fun h => SMap.wf_eraseRange _ _ _ _ h) | exact (fun h => SMap.wfFrom_filter _ _ _ _ h) | exact (fun h => (List.length_set ..).trans h) | exact (fun h => (List.length_modify ..).trans h) | exact (fun h => (List.length_map ..).trans h) | exact (fun h => ⟨h.1, (List.length_set ..).trans h.2⟩) | exact (fun h => h) | exact (fun _ => (List.length_set ..).trans rfl) | exact (fun _ => rfl)))
    | decide
    | with_reducible intro _ _ _
    | ((try dsimp only); split)

theorem execInternalReset_evolves (waited : Nat) (s : State) :
    Outcome.evolves s [.pending, .time, .free, .mem, .regs, .frets, .slanes, .board, .num, .emb, .upd, .dram, .fab, .vlk, .adm, .dict, .slow, .rst, .life, .sec] (execInternalReset waited s) := by
  unfold execInternalReset
  refine Outcome.evolves_next ?_
  repeat' first
    | assumption
    | with_reducible apply State.evolves_refl
    | with_reducible apply State.evolves_ite
    | with_reducible apply State.evolves_foldl
    | with_reducible apply State.evolves_step (State.internalReset_evolves _ _)
    | decide
    | with_reducible intro _ _ _
    | ((try dsimp only); split)

theorem State.pinRelease_evolves (s : State) :
    s.evolves (State.pinRelease s) [.rst] := by
  unfold State.pinRelease
  repeat' first
    | assumption
    | with_reducible apply State.evolves_refl
    | with_reducible apply State.evolves_ite
    | with_reducible apply State.evolves_foldl
    | fail_if_no_progress ((with_reducible apply State.evolves_set_rst); decide; (first | (with_reducible exact fun h => h) | exact (fun h => SMap.wf_set _ _ _ _ h) | exact (fun h => SMap.wf_setMany _ _ _ _ h) | exact (fun h => SMap.wf_eraseRange _ _ _ _ h) | exact (fun h => SMap.wfFrom_filter _ _ _ _ h) | exact (fun h => (List.length_set ..).trans h) | exact (fun h => (List.length_modify ..).trans h) | exact (fun h => (List.length_map ..).trans h) | exact (fun h => ⟨h.1, (List.length_set ..).trans h.2⟩) | exact (fun h => h) | exact (fun _ => (List.length_set ..).trans rfl) | exact (fun _ => rfl)))
    | decide
    | with_reducible intro _ _ _
    | ((try dsimp only); split)

theorem State.glitch_evolves (s : State) (low : Nat) :
    s.evolves (State.glitch s low) [.regs, .dict] := by
  unfold State.glitch
  repeat' first
    | assumption
    | with_reducible apply State.evolves_refl
    | with_reducible apply State.evolves_ite
    | with_reducible apply State.evolves_foldl
    | with_reducible apply State.evolves_step (State.bump_evolves _ _ _ _)
    | with_reducible apply State.evolves_step (State.event_evolves _ _ _)
    | with_reducible apply State.evolves_step (State.flag_evolves _ _ _ _)
    | decide
    | with_reducible intro _ _ _
    | ((try dsimp only); split)

theorem execResetNRelease_evolves (low : Nat) (asReset : Bool) (s : State) :
    Outcome.evolves s [.pending, .time, .free, .mem, .regs, .frets, .slanes, .board, .num, .emb, .upd, .dram, .fab, .vlk, .adm, .dict, .slow, .rst, .life, .sec] (execResetNRelease low asReset s) := by
  unfold execResetNRelease
  refine Outcome.evolves_next ?_
  repeat' first
    | assumption
    | with_reducible apply State.evolves_refl
    | with_reducible apply State.evolves_ite
    | with_reducible apply State.evolves_foldl
    | with_reducible apply State.evolves_step (State.glitch_evolves _ _)
    | with_reducible apply State.evolves_step (State.pinRelease_evolves _)
    | with_reducible apply State.evolves_step (State.pinStart_evolves _)
    | fail_if_no_progress ((with_reducible apply State.evolves_set_rst); decide; (first | (with_reducible exact fun h => h) | exact (fun h => SMap.wf_set _ _ _ _ h) | exact (fun h => SMap.wf_setMany _ _ _ _ h) | exact (fun h => SMap.wf_eraseRange _ _ _ _ h) | exact (fun h => SMap.wfFrom_filter _ _ _ _ h) | exact (fun h => (List.length_set ..).trans h) | exact (fun h => (List.length_modify ..).trans h) | exact (fun h => (List.length_map ..).trans h) | exact (fun h => ⟨h.1, (List.length_set ..).trans h.2⟩) | exact (fun h => h) | exact (fun _ => (List.length_set ..).trans rfl) | exact (fun _ => rfl)))
    | decide
    | with_reducible intro _ _ _
    | ((try dsimp only); split)

theorem State.unpowered_evolves (s : State) :
    s.evolves (State.unpowered s) [.pending, .time, .free, .mem, .regs, .frets, .slanes, .board, .num, .emb, .upd, .dram, .fab, .vlk, .adm, .dict, .slow, .rst, .life, .sec] := by
  unfold State.unpowered
  repeat' first
    | assumption
    | with_reducible apply State.evolves_refl
    | with_reducible apply State.evolves_ite
    | with_reducible apply State.evolves_foldl
    | with_reducible apply State.evolves_step (State.cleared_evolves _ _)
    | fail_if_no_progress ((with_reducible apply State.evolves_set_time_mem_emb_upd_dram_rst); decide; (first | (with_reducible exact fun h => h) | exact (fun h => SMap.wf_set _ _ _ _ h) | exact (fun h => SMap.wf_setMany _ _ _ _ h) | exact (fun h => SMap.wf_eraseRange _ _ _ _ h) | exact (fun h => SMap.wfFrom_filter _ _ _ _ h) | exact (fun h => (List.length_set ..).trans h) | exact (fun h => (List.length_modify ..).trans h) | exact (fun h => (List.length_map ..).trans h) | exact (fun h => ⟨h.1, (List.length_set ..).trans h.2⟩) | exact (fun h => h) | exact (fun _ => (List.length_set ..).trans rfl) | exact (fun _ => rfl)); (first | (with_reducible exact fun h => h) | exact (fun h => SMap.wf_set _ _ _ _ h) | exact (fun h => SMap.wf_setMany _ _ _ _ h) | exact (fun h => SMap.wf_eraseRange _ _ _ _ h) | exact (fun h => SMap.wfFrom_filter _ _ _ _ h) | exact (fun h => (List.length_set ..).trans h) | exact (fun h => (List.length_modify ..).trans h) | exact (fun h => (List.length_map ..).trans h) | exact (fun h => ⟨h.1, (List.length_set ..).trans h.2⟩) | exact (fun h => h) | exact (fun _ => (List.length_set ..).trans rfl) | exact (fun _ => rfl)); (first | (with_reducible exact fun h => h) | exact (fun h => SMap.wf_set _ _ _ _ h) | exact (fun h => SMap.wf_setMany _ _ _ _ h) | exact (fun h => SMap.wf_eraseRange _ _ _ _ h) | exact (fun h => SMap.wfFrom_filter _ _ _ _ h) | exact (fun h => (List.length_set ..).trans h) | exact (fun h => (List.length_modify ..).trans h) | exact (fun h => (List.length_map ..).trans h) | exact (fun h => ⟨h.1, (List.length_set ..).trans h.2⟩) | exact (fun h => h) | exact (fun _ => (List.length_set ..).trans rfl) | exact (fun _ => rfl)))
    | decide
    | with_reducible intro _ _ _
    | ((try dsimp only); split)

theorem State.railsFall_evolves (s : State) : s.evolves (State.railsFall s) [.pending, .time, .free, .mem, .regs, .frets, .slanes, .board, .num, .emb, .upd, .dram, .fab, .vlk, .adm, .dict, .slow, .rst, .life, .sec] := by
  unfold State.railsFall
  dsimp only
  refine State.evolves_set_rst (by decide) (fun h => h) ?_
  refine State.evolves_step (State.unpowered_evolves _) ?_ (by decide)
  refine State.evolves_step (State.suspendErases_evolves _ _ _) ?_ (by decide)
  refine State.evolves_step (State.flushCounters_evolves _) ?_ (by decide)
  exact State.evolves_wider (State.tellLevel_evolves _) (by decide)

theorem execVinLoss_evolves (s : State) :
    Outcome.evolves s [.pending, .time, .free, .mem, .regs, .frets, .slanes, .board, .num, .emb, .upd, .dram, .fab, .vlk, .adm, .dict, .slow, .rst, .life, .sec] (execVinLoss s) := by
  unfold execVinLoss
  refine Outcome.evolves_next ?_
  repeat' first
    | assumption
    | with_reducible apply State.evolves_refl
    | with_reducible apply State.evolves_ite
    | with_reducible apply State.evolves_foldl
    | with_reducible apply State.evolves_step (State.railsFall_evolves _)
    | fail_if_no_progress ((with_reducible apply State.evolves_set_rst); decide; (first | (with_reducible exact fun h => h) | exact (fun h => SMap.wf_set _ _ _ _ h) | exact (fun h => SMap.wf_setMany _ _ _ _ h) | exact (fun h => SMap.wf_eraseRange _ _ _ _ h) | exact (fun h => SMap.wfFrom_filter _ _ _ _ h) | exact (fun h => (List.length_set ..).trans h) | exact (fun h => (List.length_modify ..).trans h) | exact (fun h => (List.length_map ..).trans h) | exact (fun h => ⟨h.1, (List.length_set ..).trans h.2⟩) | exact (fun h => h) | exact (fun _ => (List.length_set ..).trans rfl) | exact (fun _ => rfl)))
    | decide
    | with_reducible intro _ _ _
    | ((try dsimp only); split)

theorem execVbakLoss_evolves (s : State) :
    Outcome.evolves s [.rst] (execVbakLoss s) := by
  unfold execVbakLoss
  refine Outcome.evolves_next ?_
  repeat' first
    | assumption
    | with_reducible apply State.evolves_refl
    | with_reducible apply State.evolves_ite
    | with_reducible apply State.evolves_foldl
    | fail_if_no_progress ((with_reducible apply State.evolves_set_rst); decide; (first | (with_reducible exact fun h => h) | exact (fun h => SMap.wf_set _ _ _ _ h) | exact (fun h => SMap.wf_setMany _ _ _ _ h) | exact (fun h => SMap.wf_eraseRange _ _ _ _ h) | exact (fun h => SMap.wfFrom_filter _ _ _ _ h) | exact (fun h => (List.length_set ..).trans h) | exact (fun h => (List.length_modify ..).trans h) | exact (fun h => (List.length_map ..).trans h) | exact (fun h => ⟨h.1, (List.length_set ..).trans h.2⟩) | exact (fun h => h) | exact (fun _ => (List.length_set ..).trans rfl) | exact (fun _ => rfl)))
    | decide
    | with_reducible intro _ _ _
    | ((try dsimp only); split)

theorem execPowerOnReset_evolves (s : State) : Outcome.evolves s [.pending, .time, .free, .mem, .regs, .frets, .slanes, .board, .num, .emb, .upd, .dram, .fab, .vlk, .adm, .dict, .slow, .rst, .life, .sec] (execPowerOnReset s) := by
  unfold execPowerOnReset
  refine Outcome.evolves_next ?_
  apply State.evolves_ite (State.evolves_refl _ _)
  dsimp only
  exact State.evolves_set_rst (by decide) (fun h => ⟨h.1, Nat.zero_le _, h.2.2⟩) (State.evolves_wider (State.unpowered_evolves _) (by decide))

theorem execFaultShutdown_evolves (thermal : Bool) (s : State) :
    Outcome.evolves s [.pending, .time, .free, .mem, .regs, .frets, .slanes, .board, .num, .emb, .upd, .dram, .fab, .vlk, .adm, .dict, .slow, .rst, .life, .sec] (execFaultShutdown thermal s) := by
  unfold execFaultShutdown
  refine Outcome.evolves_next ?_
  apply State.evolves_ite (State.evolves_refl _ _)
  dsimp only
  refine State.evolves_set_rst (by decide) (fun h => h) ?_
  refine State.evolves_step (State.railsFall_evolves _) ?_ (by decide)
  refine State.evolves_step (State.resetRecord_evolves _ _ _ _) ?_ (by decide)
  exact State.evolves_ite (State.evolves_wider (State.powerRecord_evolves _) (by decide)) (State.evolves_refl _ _)

theorem State.phase1_evolves (s : State) (found : PhaseFindings) :
    s.evolves (State.phase1 s found) [.regs, .rst] := by
  unfold State.phase1
  repeat' first
    | assumption
    | with_reducible apply State.evolves_refl
    | with_reducible apply State.evolves_ite
    | with_reducible apply State.evolves_foldl
    | with_reducible apply State.evolves_step (State.setReg_evolves _ _ _ _)
    | fail_if_no_progress ((with_reducible apply State.evolves_set_rst); decide; (first | (with_reducible exact fun h => h) | exact (fun h => SMap.wf_set _ _ _ _ h) | exact (fun h => SMap.wf_setMany _ _ _ _ h) | exact (fun h => SMap.wf_eraseRange _ _ _ _ h) | exact (fun h => SMap.wfFrom_filter _ _ _ _ h) | exact (fun h => (List.length_set ..).trans h) | exact (fun h => (List.length_modify ..).trans h) | exact (fun h => (List.length_map ..).trans h) | exact (fun h => ⟨h.1, (List.length_set ..).trans h.2⟩) | exact (fun h => h) | exact (fun _ => (List.length_set ..).trans rfl) | exact (fun _ => rfl)))
    | decide
    | with_reducible intro _ _ _
    | ((try dsimp only); split)

theorem State.phase2_evolves (s : State) (found : PhaseFindings) :
    s.evolves (State.phase2 s found) [.regs, .life, .sec] := by
  unfold State.phase2
  repeat' first
    | assumption
    | with_reducible apply State.evolves_refl
    | with_reducible apply State.evolves_ite
    | with_reducible apply State.evolves_foldl
    | with_reducible apply State.evolves_step (State.flag_evolves _ _ _ _)
    | with_reducible apply State.evolves_step (State.lifeLog_evolves _ _ _ _ _)
    | fail_if_no_progress ((with_reducible apply State.evolves_set_sec); decide)
    | decide
    | with_reducible intro _ _ _
    | ((try dsimp only); split)

theorem State.testFret_evolves (s : State) (die col phys : Nat) :
    s.evolves (State.testFret s die col phys) [.mem, .regs, .frets, .board, .dram, .fab, .vlk, .adm, .dict, .life] := by
  unfold State.testFret
  repeat' first
    | assumption
    | with_reducible apply State.evolves_refl
    | with_reducible apply State.evolves_ite
    | with_reducible apply State.evolves_foldl
    | with_reducible apply State.evolves_step (State.bypassFret_evolves _ _ _ _)
    | with_reducible apply State.evolves_step (State.dieGone_evolves _ _)
    | with_reducible apply State.evolves_step (State.markFailed_evolves _ _ _ _)
    | decide
    | with_reducible intro _ _ _
    | ((try dsimp only); split)

theorem State.testCore_evolves (s : State) (die core : Nat) :
    s.evolves (State.testCore s die core) [.mem, .regs, .frets, .board, .dram, .fab, .vlk, .adm, .dict, .life] := by
  unfold State.testCore
  repeat' first
    | assumption
    | with_reducible apply State.evolves_refl
    | with_reducible apply State.evolves_ite
    | with_reducible apply State.evolves_foldl
    | with_reducible apply State.evolves_step (State.coreFails_evolves _ _ _)
    | with_reducible apply State.evolves_step (State.flag_evolves _ _ _ _)
    | with_reducible apply State.evolves_step (State.logSubst_evolves _ _ _ _ _)
    | with_reducible apply State.evolves_step (State.mgmtCoreFails_evolves _ _)
    | with_reducible apply State.evolves_step (State.updSpare_evolves _ _)
    | decide
    | with_reducible intro _ _ _
    | ((try dsimp only); split)

theorem State.testBank_evolves (s : State) (die bank : Nat) :
    s.evolves (State.testBank s die bank) [.mem, .regs, .emb, .dict, .life] := by
  unfold State.testBank
  repeat' first
    | assumption
    | with_reducible apply State.evolves_refl
    | with_reducible apply State.evolves_ite
    | with_reducible apply State.evolves_foldl
    | with_reducible apply State.evolves_step (State.bankFails_evolves _ _ _)
    | with_reducible apply State.evolves_step (State.logSubst_evolves _ _ _ _ _)
    | with_reducible apply State.evolves_step (State.updSpare_evolves _ _)
    | decide
    | with_reducible intro _ _ _
    | ((try dsimp only); split)

theorem State.phase3_evolves (s : State) (found : PhaseFindings) :
    s.evolves (State.phase3 s found) [.mem, .regs, .frets, .board, .emb, .dram, .fab, .vlk, .adm, .dict, .rst, .life] := by
  unfold State.phase3
  repeat' first
    | assumption
    | with_reducible apply State.evolves_refl
    | with_reducible apply State.evolves_ite
    | with_reducible apply State.evolves_foldl
    | with_reducible apply State.evolves_step (State.dieGone_evolves _ _)
    | with_reducible apply State.evolves_step (State.testBank_evolves _ _ _)
    | with_reducible apply State.evolves_step (State.testCore_evolves _ _ _)
    | with_reducible apply State.evolves_step (State.testFret_evolves _ _ _ _)
    | fail_if_no_progress ((with_reducible apply State.evolves_set_rst); decide; (first | (with_reducible exact fun h => h) | exact (fun h => SMap.wf_set _ _ _ _ h) | exact (fun h => SMap.wf_setMany _ _ _ _ h) | exact (fun h => SMap.wf_eraseRange _ _ _ _ h) | exact (fun h => SMap.wfFrom_filter _ _ _ _ h) | exact (fun h => (List.length_set ..).trans h) | exact (fun h => (List.length_modify ..).trans h) | exact (fun h => (List.length_map ..).trans h) | exact (fun h => ⟨h.1, (List.length_set ..).trans h.2⟩) | exact (fun h => h) | exact (fun _ => (List.length_set ..).trans rfl) | exact (fun _ => rfl)))
    | decide
    | with_reducible intro _ _ _
    | ((try dsimp only); split)

theorem State.benchSubst_evolves (s : State) :
    s.evolves (State.benchSubst s) [.regs, .dram, .life] := by
  unfold State.benchSubst
  repeat' first
    | assumption
    | with_reducible apply State.evolves_refl
    | with_reducible apply State.evolves_ite
    | with_reducible apply State.evolves_foldl
    | with_reducible apply State.evolves_step (State.clearReg_evolves _ _ _ _)
    | with_reducible apply State.evolves_step (State.flag_evolves _ _ _ _)
    | with_reducible apply State.evolves_step (State.logSubst_evolves _ _ _ _ _)
    | fail_if_no_progress ((with_reducible apply State.evolves_set_dram); decide)
    | fail_if_no_progress ((with_reducible apply State.evolves_set_life); decide; (first | (with_reducible exact fun h => h) | exact (fun h => SMap.wf_set _ _ _ _ h) | exact (fun h => SMap.wf_setMany _ _ _ _ h) | exact (fun h => SMap.wf_eraseRange _ _ _ _ h) | exact (fun h => SMap.wfFrom_filter _ _ _ _ h) | exact (fun h => (List.length_set ..).trans h) | exact (fun h => (List.length_modify ..).trans h) | exact (fun h => (List.length_map ..).trans h) | exact (fun h => ⟨h.1, (List.length_set ..).trans h.2⟩) | exact (fun h => h) | exact (fun _ => (List.length_set ..).trans rfl) | exact (fun _ => rfl)))
    | decide
    | with_reducible intro _ _ _
    | ((try dsimp only); split)

theorem State.zeroFill_evolves (s : State) : s.evolves (State.zeroFill s) [.mem, .emb, .upd, .dram] :=
  State.evolves_set_mem_emb_upd_dram (by decide) (fun _ => rfl) (fun h => h) (State.evolves_refl _ _)


theorem State.repairOne_evolves (s : State) (acc : State × List (Nat × Nat × Nat × Nat × Nat)) (r : Remap)
    (h : s.evolves acc.1 [.dram]) : s.evolves (State.repairOne acc r).1 [.dram] := by
  unfold State.repairOne
  dsimp only
  split
  · exact State.evolves_set_dram (by decide) h
  · split
    · exact State.evolves_set_dram (by decide) h
    · exact State.evolves_set_dram (by decide) h

theorem State.repairAll_evolves (s : State) (left : List (Nat × Nat × Nat × Nat × Nat)) :
    s.evolves (State.repairAll s left) [.dram] := by
  unfold State.repairAll
  exact State.evolves_foldl_fst (State.evolves_set_dram (by decide) (State.evolves_refl _ _)) fun a r h =>
    State.repairOne_evolves s a r h

theorem State.readSettings_evolves (s : State) :
    s.evolves (State.readSettings s) [.dict] := by
  unfold State.readSettings
  repeat' first
    | assumption
    | with_reducible apply State.evolves_refl
    | with_reducible apply State.evolves_ite
    | with_reducible apply State.evolves_foldl
    | fail_if_no_progress ((with_reducible apply State.evolves_set_dict); decide; (first | (with_reducible exact fun h => h) | exact (fun h => SMap.wf_set _ _ _ _ h) | exact (fun h => SMap.wf_setMany _ _ _ _ h) | exact (fun h => SMap.wf_eraseRange _ _ _ _ h) | exact (fun h => SMap.wfFrom_filter _ _ _ _ h) | exact (fun h => (List.length_set ..).trans h) | exact (fun h => (List.length_modify ..).trans h) | exact (fun h => (List.length_map ..).trans h) | exact (fun h => ⟨h.1, (List.length_set ..).trans h.2⟩) | exact (fun h => h) | exact (fun _ => (List.length_set ..).trans rfl) | exact (fun _ => rfl)))
    | decide
    | with_reducible intro _ _ _
    | ((try dsimp only); split)

theorem State.phase4_evolves (s : State) (found : PhaseFindings) :
    s.evolves (State.phase4 s found) [.mem, .regs, .emb, .upd, .dram, .fab, .vlk, .adm, .dict, .rst, .life] := by
  unfold State.phase4
  repeat' first
    | assumption
    | with_reducible apply State.evolves_refl
    | with_reducible apply State.evolves_ite
    | with_reducible apply State.evolves_foldl
    | with_reducible apply State.evolves_step (State.benchSubst_evolves _)
    | with_reducible apply State.evolves_step (State.chanFails_evolves _ _ _)
    | with_reducible apply State.evolves_step (State.keepSteps_evolves _)
    | with_reducible apply State.evolves_step (State.memoryGone_evolves _ _)
    | with_reducible apply State.evolves_step (State.readSettings_evolves _)
    | with_reducible apply State.evolves_step (State.repairAll_evolves _ _)
    | with_reducible apply State.evolves_step (State.switchLane_evolves _ _)
    | with_reducible apply State.evolves_step (State.updPort_evolves _ _ _)
    | with_reducible apply State.evolves_step (State.zeroFill_evolves _)
    | fail_if_no_progress ((with_reducible apply State.evolves_set_dram); decide)
    | fail_if_no_progress ((with_reducible apply State.evolves_set_rst); decide; (first | (with_reducible exact fun h => h) | exact (fun h => SMap.wf_set _ _ _ _ h) | exact (fun h => SMap.wf_setMany _ _ _ _ h) | exact (fun h => SMap.wf_eraseRange _ _ _ _ h) | exact (fun h => SMap.wfFrom_filter _ _ _ _ h) | exact (fun h => (List.length_set ..).trans h) | exact (fun h => (List.length_modify ..).trans h) | exact (fun h => (List.length_map ..).trans h) | exact (fun h => ⟨h.1, (List.length_set ..).trans h.2⟩) | exact (fun h => h) | exact (fun _ => (List.length_set ..).trans rfl) | exact (fun _ => rfl)))
    | decide
    | with_reducible intro _ _ _
    | ((try dsimp only); split)

theorem State.phase5_evolves (s : State) (found : PhaseFindings) :
    s.evolves (State.phase5 s found) [.regs, .vlk, .dict, .life] := by
  unfold State.phase5
  repeat' first
    | assumption
    | with_reducible apply State.evolves_refl
    | with_reducible apply State.evolves_ite
    | with_reducible apply State.evolves_foldl
    | with_reducible apply State.evolves_step (State.vilnyDown_evolves _)
    | with_reducible apply State.evolves_step (State.vilnyTrained_evolves _ _ _)
    | decide
    | with_reducible intro _ _ _
    | ((try dsimp only); split)

theorem State.lockGuards_evolves (s : State) :
    s.evolves (State.lockGuards s) [.regs] := by
  unfold State.lockGuards
  repeat' first
    | assumption
    | with_reducible apply State.evolves_refl
    | with_reducible apply State.evolves_ite
    | with_reducible apply State.evolves_foldl
    | with_reducible apply State.evolves_step (State.flag_evolves _ _ _ _)
    | decide
    | with_reducible intro _ _ _
    | ((try dsimp only); split)

theorem State.loadSettings_evolves (s : State) :
    s.evolves (State.loadSettings s) [.dict] := by
  unfold State.loadSettings
  repeat' first
    | assumption
    | with_reducible apply State.evolves_refl
    | with_reducible apply State.evolves_ite
    | with_reducible apply State.evolves_foldl
    | fail_if_no_progress ((with_reducible apply State.evolves_set_dict); decide; (first | (with_reducible exact fun h => h) | exact (fun h => SMap.wf_set _ _ _ _ h) | exact (fun h => SMap.wf_setMany _ _ _ _ h) | exact (fun h => SMap.wf_eraseRange _ _ _ _ h) | exact (fun h => SMap.wfFrom_filter _ _ _ _ h) | exact (fun h => (List.length_set ..).trans h) | exact (fun h => (List.length_modify ..).trans h) | exact (fun h => (List.length_map ..).trans h) | exact (fun h => ⟨h.1, (List.length_set ..).trans h.2⟩) | exact (fun h => h) | exact (fun _ => (List.length_set ..).trans rfl) | exact (fun _ => rfl)))
    | decide
    | with_reducible intro _ _ _
    | ((try dsimp only); split)

theorem State.startService_evolves (s : State) :
    s.evolves (State.startService s) [.time, .regs, .dict] := by
  unfold State.startService
  repeat' first
    | assumption
    | with_reducible apply State.evolves_refl
    | with_reducible apply State.evolves_ite
    | with_reducible apply State.evolves_foldl
    | with_reducible apply State.evolves_step (State.event_evolves _ _ _)
    | with_reducible apply State.evolves_step (State.showMaster_evolves _)
    | fail_if_no_progress ((with_reducible apply State.evolves_set_time); decide)
    | decide
    | with_reducible intro _ _ _
    | ((try dsimp only); split)

theorem State.showCause_evolves (s : State) :
    s.evolves (State.showCause s) [.regs, .rst] := by
  unfold State.showCause
  repeat' first
    | assumption
    | with_reducible apply State.evolves_refl
    | with_reducible apply State.evolves_ite
    | with_reducible apply State.evolves_foldl
    | with_reducible apply State.evolves_step (State.setReg_evolves _ _ _ _)
    | fail_if_no_progress ((with_reducible apply State.evolves_set_rst); decide; (first | (with_reducible exact fun h => h) | exact (fun h => SMap.wf_set _ _ _ _ h) | exact (fun h => SMap.wf_setMany _ _ _ _ h) | exact (fun h => SMap.wf_eraseRange _ _ _ _ h) | exact (fun h => SMap.wfFrom_filter _ _ _ _ h) | exact (fun h => (List.length_set ..).trans h) | exact (fun h => (List.length_modify ..).trans h) | exact (fun h => (List.length_map ..).trans h) | exact (fun h => ⟨h.1, (List.length_set ..).trans h.2⟩) | exact (fun h => h) | exact (fun _ => (List.length_set ..).trans rfl) | exact (fun _ => rfl)))
    | decide
    | with_reducible intro _ _ _
    | ((try dsimp only); split)

theorem State.enterService_evolves (s : State) : s.evolves (State.enterService s) [.rst] :=
  State.evolves_set_rst (by decide) (fun h => ⟨h.1, Nat.le_refl _, h.2.2⟩) (State.evolves_refl _ _)

theorem State.phase6_evolves (s : State) :
    s.evolves (State.phase6 s) [.time, .regs, .dict, .rst, .life] := by
  unfold State.phase6
  repeat' first
    | assumption
    | with_reducible apply State.evolves_refl
    | with_reducible apply State.evolves_ite
    | with_reducible apply State.evolves_foldl
    | with_reducible apply State.evolves_step (State.enterService_evolves _)
    | with_reducible apply State.evolves_step (State.loadSettings_evolves _)
    | with_reducible apply State.evolves_step (State.lockGuards_evolves _)
    | with_reducible apply State.evolves_step (State.relevel_evolves _ _ _)
    | with_reducible apply State.evolves_step (State.resumeErases_evolves _)
    | with_reducible apply State.evolves_step (State.rewriteSpares_evolves _)
    | with_reducible apply State.evolves_step (State.showCause_evolves _)
    | with_reducible apply State.evolves_step (State.startService_evolves _)
    | decide
    | with_reducible intro _ _ _
    | ((try dsimp only); split)

theorem State.phaseWork_evolves (s : State) (found : PhaseFindings) :
    s.evolves (State.phaseWork s found) [.time, .mem, .regs, .frets, .board, .emb, .upd, .dram, .fab, .vlk, .adm, .dict, .slow, .rst, .life, .sec] := by
  unfold State.phaseWork
  repeat' first
    | assumption
    | with_reducible apply State.evolves_refl
    | with_reducible apply State.evolves_ite
    | with_reducible apply State.evolves_foldl
    | with_reducible apply State.evolves_step (State.phase0_evolves _)
    | with_reducible apply State.evolves_step (State.phase1_evolves _ _)
    | with_reducible apply State.evolves_step (State.phase2_evolves _ _)
    | with_reducible apply State.evolves_step (State.phase3_evolves _ _)
    | with_reducible apply State.evolves_step (State.phase4_evolves _ _)
    | with_reducible apply State.evolves_step (State.phase5_evolves _ _)
    | with_reducible apply State.evolves_step (State.phase6_evolves _)
    | decide
    | with_reducible intro _ _ _
    | ((try dsimp only); split)

theorem execBringupPhaseDone_evolves (found : PhaseFindings) (s : State) :
    Outcome.evolves s [.time, .mem, .regs, .frets, .board, .emb, .upd, .dram, .fab, .vlk, .adm, .dict, .slow, .rst, .life, .sec] (execBringupPhaseDone found s) := by
  unfold execBringupPhaseDone
  refine Outcome.evolves_next ?_
  by_cases hb : s.bringing = true
  · rw [if_neg (by simp [hb])]
    have hk : s.rst.phase < 7 := by
      unfold State.bringing at hb
      simp only [Bool.and_eq_true, decide_eq_true_eq] at hb
      exact hb.2
    exact State.evolves_set_rst (by decide) (fun h => ⟨h.1, hk, h.2.2⟩) (State.evolves_wider (State.phaseWork_evolves s found) (by decide))
  · rw [if_pos (by simpa using hb)]
    exact State.evolves_refl _ _

theorem execPhaseOver_evolves (die : Fin 8) (block unit : Nat) (s : State) :
    Outcome.evolves s [.mem, .regs, .frets, .board, .dram, .fab, .vlk, .adm, .dict, .life] (execPhaseOver die block unit s) := by
  unfold execPhaseOver
  refine Outcome.evolves_next ?_
  repeat' first
    | assumption
    | with_reducible apply State.evolves_refl
    | with_reducible apply State.evolves_ite
    | with_reducible apply State.evolves_foldl
    | with_reducible apply State.evolves_step (State.dieGone_evolves _ _)
    | with_reducible apply State.evolves_step (State.flag_evolves _ _ _ _)
    | with_reducible apply State.evolves_step (State.leaveService_evolves _ _ _ _)
    | decide
    | with_reducible intro _ _ _
    | ((try dsimp only); split)

end Sys2Proof.Machine
end

