-- ==== Sys2Proof/Laws/FramePower.lean ====
section
/-! SUPPORT. What each operation of Machine/Power.lean may change. -/

namespace Sys2Proof.Machine

theorem State.holdDomain_evolves (s : State) (die domain : Nat) :
    s.evolves (State.holdDomain s die domain) [.regs] := by
  unfold State.holdDomain
  repeat' first
    | assumption
    | with_reducible apply State.evolves_refl
    | with_reducible apply State.evolves_ite
    | with_reducible apply State.evolves_foldl
    | with_reducible apply State.evolves_step (State.clearReg_evolves _ _ _ _)
    | with_reducible apply State.evolves_step (State.flag_evolves _ _ _ _)
    | decide
    | with_reducible intro _ _ _
    | ((try dsimp only); split)

theorem State.loseDomain_evolves (s : State) (die domain : Nat) :
    s.evolves (State.loseDomain s die domain) [.regs, .frets, .slanes, .board, .num, .emb, .upd, .dram, .fab, .vlk, .adm] := by
  unfold State.loseDomain
  repeat' first
    | assumption
    | with_reducible apply State.evolves_refl
    | with_reducible apply State.evolves_ite
    | with_reducible apply State.evolves_foldl
    | with_reducible apply State.evolves_step (State.resetBlockRegs_evolves _ _ _)
    | with_reducible apply State.evolves_step (State.resetBlockState_evolves _ _ _)
    | with_reducible apply State.evolves_step (State.setCDie_evolves _ _ _)
    | with_reducible apply State.evolves_step (State.updBoard_evolves _ _)
    | fail_if_no_progress ((with_reducible apply State.evolves_set_frets); decide; (first | (with_reducible exact fun h => h) | exact (fun h => SMap.wf_set _ _ _ _ h) | exact (fun h => SMap.wf_setMany _ _ _ _ h) | exact (fun h => SMap.wf_eraseRange _ _ _ _ h) | exact (fun h => SMap.wfFrom_filter _ _ _ _ h) | exact (fun h => (List.length_set ..).trans h) | exact (fun h => (List.length_modify ..).trans h) | exact (fun h => (List.length_map ..).trans h) | exact (fun h => ⟨h.1, (List.length_set ..).trans h.2⟩) | exact (fun h => h) | exact (fun _ => (List.length_set ..).trans rfl) | exact (fun _ => rfl)))
    | fail_if_no_progress ((with_reducible apply State.evolves_set_slanes); decide; (first | (with_reducible exact fun h => h) | exact (fun h => SMap.wf_set _ _ _ _ h) | exact (fun h => SMap.wf_setMany _ _ _ _ h) | exact (fun h => SMap.wf_eraseRange _ _ _ _ h) | exact (fun h => SMap.wfFrom_filter _ _ _ _ h) | exact (fun h => (List.length_set ..).trans h) | exact (fun h => (List.length_modify ..).trans h) | exact (fun h => (List.length_map ..).trans h) | exact (fun h => ⟨h.1, (List.length_set ..).trans h.2⟩) | exact (fun h => h) | exact (fun _ => (List.length_set ..).trans rfl) | exact (fun _ => rfl)))
    | fail_if_no_progress ((with_reducible apply State.evolves_set_fab_adm); decide; (first | (with_reducible exact fun h => h) | exact (fun h => SMap.wf_set _ _ _ _ h) | exact (fun h => SMap.wf_setMany _ _ _ _ h) | exact (fun h => SMap.wf_eraseRange _ _ _ _ h) | exact (fun h => SMap.wfFrom_filter _ _ _ _ h) | exact (fun h => (List.length_set ..).trans h) | exact (fun h => (List.length_modify ..).trans h) | exact (fun h => (List.length_map ..).trans h) | exact (fun h => ⟨h.1, (List.length_set ..).trans h.2⟩) | exact (fun h => h) | exact (fun _ => (List.length_set ..).trans rfl) | exact (fun _ => rfl)); (first | (with_reducible exact fun h => h) | exact (fun h => SMap.wf_set _ _ _ _ h) | exact (fun h => SMap.wf_setMany _ _ _ _ h) | exact (fun h => SMap.wf_eraseRange _ _ _ _ h) | exact (fun h => SMap.wfFrom_filter _ _ _ _ h) | exact (fun h => (List.length_set ..).trans h) | exact (fun h => (List.length_modify ..).trans h) | exact (fun h => (List.length_map ..).trans h) | exact (fun h => ⟨h.1, (List.length_set ..).trans h.2⟩) | exact (fun h => h) | exact (fun _ => (List.length_set ..).trans rfl) | exact (fun _ => rfl)))
    | decide
    | with_reducible intro _ _ _
    | ((try dsimp only); split)

theorem State.portGone_evolves (s : State) (k : Nat) :
    s.evolves (State.portGone s k) [.mem, .regs, .frets, .slanes, .board, .num, .emb, .upd, .dram, .fab, .vlk, .adm, .dict, .life] := by
  unfold State.portGone
  repeat' first
    | assumption
    | with_reducible apply State.evolves_refl
    | with_reducible apply State.evolves_ite
    | with_reducible apply State.evolves_foldl
    | with_reducible apply State.evolves_step (State.portFails_evolves _ _)
    | decide
    | with_reducible intro _ _ _
    | ((try dsimp only); split)

theorem State.domainEffect_evolves (s : State) (die domain : Nat) :
    s.evolves (State.domainEffect s die domain) [.mem, .regs, .frets, .slanes, .board, .num, .emb, .upd, .dram, .fab, .vlk, .adm, .dict, .life] := by
  unfold State.domainEffect
  repeat' first
    | assumption
    | with_reducible apply State.evolves_refl
    | with_reducible apply State.evolves_ite
    | with_reducible apply State.evolves_foldl
    | with_reducible apply State.evolves_step (State.clearReg_evolves _ _ _ _)
    | with_reducible apply State.evolves_step (State.jobFault_evolves _ _ _)
    | with_reducible apply State.evolves_step (State.portGone_evolves _ _)
    | with_reducible apply State.evolves_step (State.stopFrets_evolves _ _)
    | with_reducible apply State.evolves_step (State.vilnyDown_evolves _)
    | decide
    | with_reducible intro _ _ _
    | ((try dsimp only); split)

theorem State.loseClock_evolves (s : State) (die domain : Nat) :
    s.evolves (State.loseClock s die domain) [.mem, .regs, .frets, .slanes, .board, .num, .emb, .upd, .dram, .fab, .vlk, .adm, .dict, .rst, .life] := by
  unfold State.loseClock
  repeat' first
    | assumption
    | with_reducible apply State.evolves_refl
    | with_reducible apply State.evolves_ite
    | with_reducible apply State.evolves_foldl
    | with_reducible apply State.evolves_step (State.domainEffect_evolves _ _ _)
    | with_reducible apply State.evolves_step (State.holdDomain_evolves _ _ _)
    | with_reducible apply State.evolves_step (State.loseDomain_evolves _ _ _)
    | fail_if_no_progress ((with_reducible apply State.evolves_set_rst); decide; (first | (with_reducible exact fun h => h) | exact (fun h => SMap.wf_set _ _ _ _ h) | exact (fun h => SMap.wf_setMany _ _ _ _ h) | exact (fun h => SMap.wf_eraseRange _ _ _ _ h) | exact (fun h => SMap.wfFrom_filter _ _ _ _ h) | exact (fun h => (List.length_set ..).trans h) | exact (fun h => (List.length_modify ..).trans h) | exact (fun h => (List.length_map ..).trans h) | exact (fun h => ⟨h.1, (List.length_set ..).trans h.2⟩) | exact (fun h => h) | exact (fun _ => (List.length_set ..).trans rfl) | exact (fun _ => rfl)))
    | decide
    | with_reducible intro _ _ _
    | ((try dsimp only); split)

theorem execClockUnstable_evolves (die : Fin 8) (domain : Fin 10) (s : State) :
    Outcome.evolves s [.mem, .regs, .frets, .slanes, .board, .num, .emb, .upd, .dram, .fab, .vlk, .adm, .dict, .rst, .life] (execClockUnstable die domain s) := by
  unfold execClockUnstable
  refine Outcome.evolves_next ?_
  repeat' first
    | assumption
    | with_reducible apply State.evolves_refl
    | with_reducible apply State.evolves_ite
    | with_reducible apply State.evolves_foldl
    | with_reducible apply State.evolves_step (State.bump_evolves _ _ _ _)
    | with_reducible apply State.evolves_step (State.event_evolves _ _ _)
    | with_reducible apply State.evolves_step (State.flag_evolves _ _ _ _)
    | with_reducible apply State.evolves_step (State.loseClock_evolves _ _ _)
    | with_reducible apply State.evolves_step (State.setReg_evolves _ _ _ _)
    | with_reducible apply State.evolves_step (State.setTimeStatus_evolves _ _ _)
    | decide
    | with_reducible intro _ _ _
    | ((try dsimp only); split)

theorem execClockGood_evolves (die : Fin 8) (domain : Fin 10) (s : State) :
    Outcome.evolves s [.mem, .regs, .frets, .board, .upd, .dram, .fab, .vlk, .adm, .dict, .rst, .life] (execClockGood die domain s) := by
  unfold execClockGood
  refine Outcome.evolves_next ?_
  repeat' first
    | assumption
    | with_reducible apply State.evolves_refl
    | with_reducible apply State.evolves_ite
    | with_reducible apply State.evolves_foldl
    | with_reducible apply State.evolves_step (State.clearReg_evolves _ _ _ _)
    | with_reducible apply State.evolves_step (State.flag_evolves _ _ _ _)
    | with_reducible apply State.evolves_step (State.resumeMemory_evolves _)
    | fail_if_no_progress ((with_reducible apply State.evolves_set_rst); decide; (first | (with_reducible exact fun h => h) | exact (fun h => SMap.wf_set _ _ _ _ h) | exact (fun h => SMap.wf_setMany _ _ _ _ h) | exact (fun h => SMap.wf_eraseRange _ _ _ _ h) | exact (fun h => SMap.wfFrom_filter _ _ _ _ h) | exact (fun h => (List.length_set ..).trans h) | exact (fun h => (List.length_modify ..).trans h) | exact (fun h => (List.length_map ..).trans h) | exact (fun h => ⟨h.1, (List.length_set ..).trans h.2⟩) | exact (fun h => h) | exact (fun _ => (List.length_set ..).trans rfl) | exact (fun _ => rfl)))
    | decide
    | with_reducible intro _ _ _
    | ((try dsimp only); split)

theorem execClockRecoveryLimit_evolves (die : Fin 8) (domain : Fin 10) (s : State) :
    Outcome.evolves s [.mem, .regs, .frets, .board, .dram, .fab, .vlk, .adm, .dict, .life] (execClockRecoveryLimit die domain s) := by
  unfold execClockRecoveryLimit
  refine Outcome.evolves_next ?_
  repeat' first
    | assumption
    | with_reducible apply State.evolves_refl
    | with_reducible apply State.evolves_ite
    | with_reducible apply State.evolves_foldl
    | with_reducible apply State.evolves_step (State.dieGone_evolves _ _)
    | decide
    | with_reducible intro _ _ _
    | ((try dsimp only); split)

theorem execPowerStateEntry_evolves (s : State) :
    Outcome.evolves s [.regs, .rst] (execPowerStateEntry s) := by
  unfold execPowerStateEntry
  refine Outcome.evolves_next ?_
  apply State.evolves_ite (State.evolves_refl _ _)
  have h : ∀ c : Prop, [Decidable c] → s.evolves (if c then (List.range 8).foldl (fun s d => s.flag d Reg.pwrStatus 1) s else s)
      [.regs, .rst] := fun c _ => State.evolves_ite (State.evolves_foldl (State.evolves_refl _ _) fun a x h =>
        State.evolves_step (State.flag_evolves _ _ _ _) h (by decide)) (State.evolves_refl _ _)
  exact State.evolves_set_rst (by decide) (fun k => ⟨k.1, k.2.1, k.2.2.1, (List.length_map ..).trans List.length_range⟩) (h _)

theorem placeCells_wf {m : SMap Byte} {a : Nat} {cells : SMap Byte} (h : SMap.wf 0 m = true) :
    SMap.wf 0 (placeCells m a cells) = true := by
  unfold placeCells
  induction cells generalizing m with
  | nil => exact h
  | cons c t ih => exact ih (SMap.wf_set _ _ _ _ h)

theorem placeWords_wf {m : SMap Byte} {a : Nat} {cells : SMap F32} (h : SMap.wf 0 m = true) :
    SMap.wf 0 (placeWords m a cells) = true := by
  unfold placeWords
  induction cells generalizing m with
  | nil => exact h
  | cons c t ih => exact ih (SMap.wf_setMany _ _ _ _ h)

theorem State.saveFret_evolves (s : State) (i : Nat) :
    s.evolves (State.saveFret s i) [.mem, .frets] := by
  unfold State.saveFret
  dsimp only
  refine State.evolves_step (State.setFret_evolves _ _ _) ?_ (by decide)
  exact State.evolves_set_mem (by decide)
    (fun h => placeWords_wf (placeWords_wf (placeCells_wf (placeCells_wf (placeCells_wf h))))) (State.evolves_refl _ _)

theorem State.restoreFret_evolves (s : State) (i : Nat) :
    s.evolves (State.restoreFret s i) [.frets] := by
  unfold State.restoreFret
  repeat' first
    | assumption
    | with_reducible apply State.evolves_refl
    | with_reducible apply State.evolves_ite
    | with_reducible apply State.evolves_foldl
    | with_reducible apply State.evolves_step (State.updFret_evolves _ _ _)
    | decide
    | with_reducible intro _ _ _
    | ((try dsimp only); split)

theorem State.saveDie_evolves (s : State) (die : Nat) :
    s.evolves (State.saveDie s die) [.mem, .frets, .dram] := by
  unfold State.saveDie
  repeat' first
    | assumption
    | with_reducible apply State.evolves_refl
    | with_reducible apply State.evolves_ite
    | with_reducible apply State.evolves_foldl
    | with_reducible apply State.evolves_step (State.saveFret_evolves _ _)
    | with_reducible apply State.evolves_step (State.zeroStore_evolves _ _ _)
    | decide
    | with_reducible intro _ _ _
    | ((try dsimp only); split)

theorem State.restoreDie_evolves (s : State) (die : Nat) :
    s.evolves (State.restoreDie s die) [.frets] := by
  unfold State.restoreDie
  repeat' first
    | assumption
    | with_reducible apply State.evolves_refl
    | with_reducible apply State.evolves_ite
    | with_reducible apply State.evolves_foldl
    | with_reducible apply State.evolves_step (State.restoreFret_evolves _ _)
    | decide
    | with_reducible intro _ _ _
    | ((try dsimp only); split)

theorem State.takeStates_evolves (s : State) (new : List Nat) (hn : s.soundAt .rst → new.length = 8) :
    s.evolves (State.takeStates s new) [.regs, .rst] := by
  unfold State.takeStates
  dsimp only
  generalize hx : (List.foldl _ s (List.range 8) : State) = x
  have h : s.evolves x [.regs] := by
    rw [← hx]
    refine State.evolves_foldl (State.evolves_refl _ _) (fun a d h => State.evolves_ite h ?_)
    exact State.evolves_step (State.flag_evolves _ _ _ _) h (by decide)
  have hr : x.rst = s.rst := h.1 .rst rfl
  refine State.evolves_set_rst (by decide) (fun k => ?_) (State.evolves_wider h (by decide))
  have k' : s.soundAt .rst := by simpa only [State.soundAt, hr] using k
  exact ⟨k.1, k.2.1, hn k', hn k'⟩

theorem execPowerStateSettled_evolves (s : State) :
    Outcome.evolves s [.mem, .regs, .frets, .dram, .rst] (execPowerStateSettled s) := by
  unfold execPowerStateSettled
  refine Outcome.evolves_next ?_
  apply State.evolves_ite (State.evolves_refl _ _)
  dsimp only
  have h0 : s.evolves (([0, 1].filter fun d => !s.resting d && decide (s.rst.dieTarget.getD d 0 = 3)).foldl State.saveDie s) [.mem, .regs, .frets, .dram, .rst] :=
    State.evolves_foldl (State.evolves_refl _ _) fun a d h => State.evolves_step (State.saveDie_evolves _ _) h (by decide)
  generalize ([0, 1].filter fun d => !s.resting d && decide (s.rst.dieTarget.getD d 0 = 3)).foldl State.saveDie s = y at h0 ⊢
  have h := State.takeStates_evolves y y.rst.dieTarget fun k => k.2.2.2
  generalize y.takeStates y.rst.dieTarget = x at h ⊢
  exact State.evolves_set_rst (by decide) (fun h => h) (State.evolves_step h h0 (by decide))

theorem execWake_evolves (s : State) :
    Outcome.evolves s [.mem, .frets, .dram, .rst] (execWake s) := by
  unfold execWake
  refine Outcome.evolves_next ?_
  apply State.evolves_ite (State.evolves_refl _ _)
  dsimp only
  have h0 : s.evolves (([0, 1].filter fun d => !s.resting d && decide (s.rst.dieTarget.getD d 0 = 3)).foldl State.saveDie s) [.mem, .frets, .dram, .rst] :=
    State.evolves_foldl (State.evolves_refl _ _) fun a d h => State.evolves_step (State.saveDie_evolves _ _) h (by decide)
  generalize ([0, 1].filter fun d => !s.resting d && decide (s.rst.dieTarget.getD d 0 = 3)).foldl State.saveDie s = y at h0 ⊢
  exact State.evolves_set_rst (by decide) (fun k => ⟨k.1, k.2.1, k.2.2.2, List.length_replicate⟩) h0

theorem execWakeComplete_evolves (s : State) :
    Outcome.evolves s [.mem, .regs, .frets, .board, .upd, .dram, .fab, .vlk, .adm, .dict, .rst, .life] (execWakeComplete s) := by
  unfold execWakeComplete
  refine Outcome.evolves_next ?_
  apply State.evolves_ite (State.evolves_refl _ _)
  dsimp only
  have h0 : s.evolves (([0, 1].filter s.resting).foldl State.restoreDie s) [.mem, .regs, .frets, .board, .upd, .dram, .fab, .vlk, .adm, .dict, .rst, .life] :=
    State.evolves_foldl (State.evolves_refl _ _) fun a d h => State.evolves_step (State.restoreDie_evolves _ _) h (by decide)
  generalize ([0, 1].filter s.resting).foldl State.restoreDie s = y at h0 ⊢
  have h := State.takeStates_evolves y (List.replicate 8 0) fun _ => List.length_replicate
  generalize y.takeStates (List.replicate 8 0) = x at h ⊢
  refine State.evolves_set_rst (by decide) (fun h => h) ?_
  exact State.evolves_step (State.resumeMemory_evolves _) (State.evolves_step h h0 (by decide)) (by decide)

theorem execVinLow_evolves (mv : Nat) (s : State) :
    Outcome.evolves s [.regs, .rst] (execVinLow mv s) := by
  unfold execVinLow
  refine Outcome.evolves_next ?_
  repeat' first
    | assumption
    | with_reducible apply State.evolves_refl
    | with_reducible apply State.evolves_ite
    | with_reducible apply State.evolves_foldl
    | with_reducible apply State.evolves_step (State.flag_evolves _ _ _ _)
    | fail_if_no_progress ((with_reducible apply State.evolves_set_rst); decide; (first | (with_reducible exact fun h => h) | exact (fun h => SMap.wf_set _ _ _ _ h) | exact (fun h => SMap.wf_setMany _ _ _ _ h) | exact (fun h => SMap.wf_eraseRange _ _ _ _ h) | exact (fun h => SMap.wfFrom_filter _ _ _ _ h) | exact (fun h => (List.length_set ..).trans h) | exact (fun h => (List.length_modify ..).trans h) | exact (fun h => (List.length_map ..).trans h) | exact (fun h => ⟨h.1, (List.length_set ..).trans h.2⟩) | exact (fun h => h) | exact (fun _ => (List.length_set ..).trans rfl) | exact (fun _ => rfl)))
    | decide
    | with_reducible intro _ _ _
    | ((try dsimp only); split)

theorem execHot_evolves (die : Fin 8) (temp : Nat) (s : State) :
    Outcome.evolves s [.regs] (execHot die temp s) := by
  unfold execHot
  refine Outcome.evolves_next ?_
  repeat' first
    | assumption
    | with_reducible apply State.evolves_refl
    | with_reducible apply State.evolves_ite
    | with_reducible apply State.evolves_foldl
    | with_reducible apply State.evolves_step (State.flag_evolves _ _ _ _)
    | decide
    | with_reducible intro _ _ _
    | ((try dsimp only); split)

end Sys2Proof.Machine
end

