-- ==== Sys2Proof/Laws/FrameStack.lean ====
section
/-! SUPPORT. What each operation of Machine/Stack.lean may change. -/

namespace Sys2Proof.Machine

theorem execPush_evolves (f : Issue) (s : State) :
    Outcome.evolves s [.mem, .regs, .frets, .slanes, .upd, .dram, .fab, .vlk, .adm, .dict] (execPush f s) := by
  unfold execPush
  refine Outcome.evolves_next ?_
  repeat' first
    | assumption
    | with_reducible apply State.evolves_refl
    | with_reducible apply State.evolves_ite
    | with_reducible apply State.evolves_foldl
    | with_reducible apply State.evolves_step (State.pushRecord_evolves _ _ _ _ _ _ _)
    | with_reducible apply State.evolves_step (State.sramCe_evolves _ _ _)
    | with_reducible apply State.evolves_step (State.updFret_evolves _ _ _)
    | decide
    | with_reducible intro _ _ _
    | ((try dsimp only); split)

theorem execStageReady_evolves (f : FretId) (ue : Bool) (s : State) :
    Outcome.evolves s [.regs, .frets, .slanes, .upd, .dram, .fab, .vlk, .adm, .dict, .life] (execStageReady f ue s) := by
  unfold execStageReady
  refine Outcome.evolves_next ?_
  repeat' first
    | assumption
    | with_reducible apply State.evolves_refl
    | with_reducible apply State.evolves_ite
    | with_reducible apply State.evolves_foldl
    | with_reducible apply State.evolves_step (State.laneError_evolves _ _ _)
    | with_reducible apply State.evolves_step (State.setLane_evolves _ _ _)
    | decide
    | with_reducible intro _ _ _
    | ((try dsimp only); split)

theorem State.sendSummary_evolves (s : State) (i w : Nat) :
    s.evolves (State.sendSummary s i w) [.frets, .board] := by
  unfold State.sendSummary
  repeat' first
    | assumption
    | with_reducible apply State.evolves_refl
    | with_reducible apply State.evolves_ite
    | with_reducible apply State.evolves_foldl
    | with_reducible apply State.evolves_step (State.setCDie_evolves _ _ _)
    | with_reducible apply State.evolves_step (State.updFret_evolves _ _ _)
    | decide
    | with_reducible intro _ _ _
    | ((try dsimp only); split)

theorem execSummary_evolves (f : Issue) (s : State) :
    Outcome.evolves s [.regs, .frets, .board] (execSummary f s) := by
  unfold execSummary
  refine Outcome.evolves_next ?_
  repeat' first
    | assumption
    | with_reducible apply State.evolves_refl
    | with_reducible apply State.evolves_ite
    | with_reducible apply State.evolves_foldl
    | with_reducible apply State.evolves_step (State.bump_evolves _ _ _ _)
    | with_reducible apply State.evolves_step (State.flag_evolves _ _ _ _)
    | with_reducible apply State.evolves_step (State.sendSummary_evolves _ _ _)
    | with_reducible apply State.evolves_step (State.setFret_evolves _ _ _)
    | with_reducible apply State.evolves_step (State.sramCe_evolves _ _ _)
    | decide
    | with_reducible intro _ _ _
    | ((try dsimp only); split)

theorem execSummaryWaitEnd_evolves (f : FretId) (s : State) :
    Outcome.evolves s [.frets, .board] (execSummaryWaitEnd f s) := by
  unfold execSummaryWaitEnd
  refine Outcome.evolves_next ?_
  repeat' first
    | assumption
    | with_reducible apply State.evolves_refl
    | with_reducible apply State.evolves_ite
    | with_reducible apply State.evolves_foldl
    | with_reducible apply State.evolves_step (State.sendSummary_evolves _ _ _)
    | decide
    | with_reducible intro _ _ _
    | ((try dsimp only); split)

theorem execSummaryMailboxArrival_evolves (die : Fin 2) (core : Fin 8) (take : Nat) (s : State) :
    Outcome.evolves s [.board] (execSummaryMailboxArrival die core take s) := by
  unfold execSummaryMailboxArrival
  refine Outcome.evolves_next ?_
  repeat' first
    | assumption
    | with_reducible apply State.evolves_refl
    | with_reducible apply State.evolves_ite
    | with_reducible apply State.evolves_foldl
    | with_reducible apply State.evolves_step (State.setCDie_evolves _ _ _)
    | decide
    | with_reducible intro _ _ _
    | ((try dsimp only); split)

end Sys2Proof.Machine
end

