-- ==== Sys2Proof/Laws/State.lean ====
section
/-! SUPPORT. Every field of the state after each basic update, and reads after writes of registers, memory, frets, lanes. -/

namespace Sys2Proof.Machine

@[simp] theorem State.setReg_pending (s : State) (die : Nat) (n : RegName) (v : Nat) : (s.setReg die n v).pending = s.pending := rfl
@[simp] theorem State.setReg_time (s : State) (die : Nat) (n : RegName) (v : Nat) : (s.setReg die n v).time = s.time := rfl
@[simp] theorem State.setReg_free (s : State) (die : Nat) (n : RegName) (v : Nat) : (s.setReg die n v).free = s.free := rfl
@[simp] theorem State.setReg_mem (s : State) (die : Nat) (n : RegName) (v : Nat) : (s.setReg die n v).mem = s.mem := rfl
@[simp] theorem State.setReg_frets (s : State) (die : Nat) (n : RegName) (v : Nat) : (s.setReg die n v).frets = s.frets := rfl
@[simp] theorem State.setReg_slanes (s : State) (die : Nat) (n : RegName) (v : Nat) : (s.setReg die n v).slanes = s.slanes := rfl
@[simp] theorem State.setReg_board (s : State) (die : Nat) (n : RegName) (v : Nat) : (s.setReg die n v).board = s.board := rfl
@[simp] theorem State.setReg_num (s : State) (die : Nat) (n : RegName) (v : Nat) : (s.setReg die n v).num = s.num := rfl
@[simp] theorem State.setReg_emb (s : State) (die : Nat) (n : RegName) (v : Nat) : (s.setReg die n v).emb = s.emb := rfl
@[simp] theorem State.setReg_upd (s : State) (die : Nat) (n : RegName) (v : Nat) : (s.setReg die n v).upd = s.upd := rfl
@[simp] theorem State.setReg_dram (s : State) (die : Nat) (n : RegName) (v : Nat) : (s.setReg die n v).dram = s.dram := rfl
@[simp] theorem State.setReg_fab (s : State) (die : Nat) (n : RegName) (v : Nat) : (s.setReg die n v).fab = s.fab := rfl
@[simp] theorem State.setReg_vlk (s : State) (die : Nat) (n : RegName) (v : Nat) : (s.setReg die n v).vlk = s.vlk := rfl
@[simp] theorem State.setReg_adm (s : State) (die : Nat) (n : RegName) (v : Nat) : (s.setReg die n v).adm = s.adm := rfl
@[simp] theorem State.setReg_dict (s : State) (die : Nat) (n : RegName) (v : Nat) : (s.setReg die n v).dict = s.dict := rfl
@[simp] theorem State.setReg_slow (s : State) (die : Nat) (n : RegName) (v : Nat) : (s.setReg die n v).slow = s.slow := rfl
@[simp] theorem State.setReg_rst (s : State) (die : Nat) (n : RegName) (v : Nat) : (s.setReg die n v).rst = s.rst := rfl
@[simp] theorem State.setReg_life (s : State) (die : Nat) (n : RegName) (v : Nat) : (s.setReg die n v).life = s.life := rfl
@[simp] theorem State.setReg_sec (s : State) (die : Nat) (n : RegName) (v : Nat) : (s.setReg die n v).sec = s.sec := rfl

@[simp] theorem State.setFret_pending (s : State) (i : Nat) (f : Fret) : (s.setFret i f).pending = s.pending := rfl
@[simp] theorem State.setFret_time (s : State) (i : Nat) (f : Fret) : (s.setFret i f).time = s.time := rfl
@[simp] theorem State.setFret_free (s : State) (i : Nat) (f : Fret) : (s.setFret i f).free = s.free := rfl
@[simp] theorem State.setFret_mem (s : State) (i : Nat) (f : Fret) : (s.setFret i f).mem = s.mem := rfl
@[simp] theorem State.setFret_regs (s : State) (i : Nat) (f : Fret) : (s.setFret i f).regs = s.regs := rfl
@[simp] theorem State.setFret_slanes (s : State) (i : Nat) (f : Fret) : (s.setFret i f).slanes = s.slanes := rfl
@[simp] theorem State.setFret_board (s : State) (i : Nat) (f : Fret) : (s.setFret i f).board = s.board := rfl
@[simp] theorem State.setFret_num (s : State) (i : Nat) (f : Fret) : (s.setFret i f).num = s.num := rfl
@[simp] theorem State.setFret_emb (s : State) (i : Nat) (f : Fret) : (s.setFret i f).emb = s.emb := rfl
@[simp] theorem State.setFret_upd (s : State) (i : Nat) (f : Fret) : (s.setFret i f).upd = s.upd := rfl
@[simp] theorem State.setFret_dram (s : State) (i : Nat) (f : Fret) : (s.setFret i f).dram = s.dram := rfl
@[simp] theorem State.setFret_fab (s : State) (i : Nat) (f : Fret) : (s.setFret i f).fab = s.fab := rfl
@[simp] theorem State.setFret_vlk (s : State) (i : Nat) (f : Fret) : (s.setFret i f).vlk = s.vlk := rfl
@[simp] theorem State.setFret_adm (s : State) (i : Nat) (f : Fret) : (s.setFret i f).adm = s.adm := rfl
@[simp] theorem State.setFret_dict (s : State) (i : Nat) (f : Fret) : (s.setFret i f).dict = s.dict := rfl
@[simp] theorem State.setFret_slow (s : State) (i : Nat) (f : Fret) : (s.setFret i f).slow = s.slow := rfl
@[simp] theorem State.setFret_rst (s : State) (i : Nat) (f : Fret) : (s.setFret i f).rst = s.rst := rfl
@[simp] theorem State.setFret_life (s : State) (i : Nat) (f : Fret) : (s.setFret i f).life = s.life := rfl
@[simp] theorem State.setFret_sec (s : State) (i : Nat) (f : Fret) : (s.setFret i f).sec = s.sec := rfl

@[simp] theorem State.updFret_pending (s : State) (i : Nat) (g : Fret → Fret) : (s.updFret i g).pending = s.pending := rfl
@[simp] theorem State.updFret_time (s : State) (i : Nat) (g : Fret → Fret) : (s.updFret i g).time = s.time := rfl
@[simp] theorem State.updFret_free (s : State) (i : Nat) (g : Fret → Fret) : (s.updFret i g).free = s.free := rfl
@[simp] theorem State.updFret_mem (s : State) (i : Nat) (g : Fret → Fret) : (s.updFret i g).mem = s.mem := rfl
@[simp] theorem State.updFret_regs (s : State) (i : Nat) (g : Fret → Fret) : (s.updFret i g).regs = s.regs := rfl
@[simp] theorem State.updFret_slanes (s : State) (i : Nat) (g : Fret → Fret) : (s.updFret i g).slanes = s.slanes := rfl
@[simp] theorem State.updFret_board (s : State) (i : Nat) (g : Fret → Fret) : (s.updFret i g).board = s.board := rfl
@[simp] theorem State.updFret_num (s : State) (i : Nat) (g : Fret → Fret) : (s.updFret i g).num = s.num := rfl
@[simp] theorem State.updFret_emb (s : State) (i : Nat) (g : Fret → Fret) : (s.updFret i g).emb = s.emb := rfl
@[simp] theorem State.updFret_upd (s : State) (i : Nat) (g : Fret → Fret) : (s.updFret i g).upd = s.upd := rfl
@[simp] theorem State.updFret_dram (s : State) (i : Nat) (g : Fret → Fret) : (s.updFret i g).dram = s.dram := rfl
@[simp] theorem State.updFret_fab (s : State) (i : Nat) (g : Fret → Fret) : (s.updFret i g).fab = s.fab := rfl
@[simp] theorem State.updFret_vlk (s : State) (i : Nat) (g : Fret → Fret) : (s.updFret i g).vlk = s.vlk := rfl
@[simp] theorem State.updFret_adm (s : State) (i : Nat) (g : Fret → Fret) : (s.updFret i g).adm = s.adm := rfl
@[simp] theorem State.updFret_dict (s : State) (i : Nat) (g : Fret → Fret) : (s.updFret i g).dict = s.dict := rfl
@[simp] theorem State.updFret_slow (s : State) (i : Nat) (g : Fret → Fret) : (s.updFret i g).slow = s.slow := rfl
@[simp] theorem State.updFret_rst (s : State) (i : Nat) (g : Fret → Fret) : (s.updFret i g).rst = s.rst := rfl
@[simp] theorem State.updFret_life (s : State) (i : Nat) (g : Fret → Fret) : (s.updFret i g).life = s.life := rfl
@[simp] theorem State.updFret_sec (s : State) (i : Nat) (g : Fret → Fret) : (s.updFret i g).sec = s.sec := rfl

@[simp] theorem State.setLane_pending (s : State) (i : Nat) (l : SLane) : (s.setLane i l).pending = s.pending := rfl
@[simp] theorem State.setLane_time (s : State) (i : Nat) (l : SLane) : (s.setLane i l).time = s.time := rfl
@[simp] theorem State.setLane_free (s : State) (i : Nat) (l : SLane) : (s.setLane i l).free = s.free := rfl
@[simp] theorem State.setLane_mem (s : State) (i : Nat) (l : SLane) : (s.setLane i l).mem = s.mem := rfl
@[simp] theorem State.setLane_regs (s : State) (i : Nat) (l : SLane) : (s.setLane i l).regs = s.regs := rfl
@[simp] theorem State.setLane_frets (s : State) (i : Nat) (l : SLane) : (s.setLane i l).frets = s.frets := rfl
@[simp] theorem State.setLane_board (s : State) (i : Nat) (l : SLane) : (s.setLane i l).board = s.board := rfl
@[simp] theorem State.setLane_num (s : State) (i : Nat) (l : SLane) : (s.setLane i l).num = s.num := rfl
@[simp] theorem State.setLane_emb (s : State) (i : Nat) (l : SLane) : (s.setLane i l).emb = s.emb := rfl
@[simp] theorem State.setLane_upd (s : State) (i : Nat) (l : SLane) : (s.setLane i l).upd = s.upd := rfl
@[simp] theorem State.setLane_dram (s : State) (i : Nat) (l : SLane) : (s.setLane i l).dram = s.dram := rfl
@[simp] theorem State.setLane_fab (s : State) (i : Nat) (l : SLane) : (s.setLane i l).fab = s.fab := rfl
@[simp] theorem State.setLane_vlk (s : State) (i : Nat) (l : SLane) : (s.setLane i l).vlk = s.vlk := rfl
@[simp] theorem State.setLane_adm (s : State) (i : Nat) (l : SLane) : (s.setLane i l).adm = s.adm := rfl
@[simp] theorem State.setLane_dict (s : State) (i : Nat) (l : SLane) : (s.setLane i l).dict = s.dict := rfl
@[simp] theorem State.setLane_slow (s : State) (i : Nat) (l : SLane) : (s.setLane i l).slow = s.slow := rfl
@[simp] theorem State.setLane_rst (s : State) (i : Nat) (l : SLane) : (s.setLane i l).rst = s.rst := rfl
@[simp] theorem State.setLane_life (s : State) (i : Nat) (l : SLane) : (s.setLane i l).life = s.life := rfl
@[simp] theorem State.setLane_sec (s : State) (i : Nat) (l : SLane) : (s.setLane i l).sec = s.sec := rfl

@[simp] theorem State.setCDie_pending (s : State) (d : Nat) (c : CDie) : (s.setCDie d c).pending = s.pending := rfl
@[simp] theorem State.setCDie_time (s : State) (d : Nat) (c : CDie) : (s.setCDie d c).time = s.time := rfl
@[simp] theorem State.setCDie_free (s : State) (d : Nat) (c : CDie) : (s.setCDie d c).free = s.free := rfl
@[simp] theorem State.setCDie_mem (s : State) (d : Nat) (c : CDie) : (s.setCDie d c).mem = s.mem := rfl
@[simp] theorem State.setCDie_regs (s : State) (d : Nat) (c : CDie) : (s.setCDie d c).regs = s.regs := rfl
@[simp] theorem State.setCDie_frets (s : State) (d : Nat) (c : CDie) : (s.setCDie d c).frets = s.frets := rfl
@[simp] theorem State.setCDie_slanes (s : State) (d : Nat) (c : CDie) : (s.setCDie d c).slanes = s.slanes := rfl
@[simp] theorem State.setCDie_num (s : State) (d : Nat) (c : CDie) : (s.setCDie d c).num = s.num := rfl
@[simp] theorem State.setCDie_emb (s : State) (d : Nat) (c : CDie) : (s.setCDie d c).emb = s.emb := rfl
@[simp] theorem State.setCDie_upd (s : State) (d : Nat) (c : CDie) : (s.setCDie d c).upd = s.upd := rfl
@[simp] theorem State.setCDie_dram (s : State) (d : Nat) (c : CDie) : (s.setCDie d c).dram = s.dram := rfl
@[simp] theorem State.setCDie_fab (s : State) (d : Nat) (c : CDie) : (s.setCDie d c).fab = s.fab := rfl
@[simp] theorem State.setCDie_vlk (s : State) (d : Nat) (c : CDie) : (s.setCDie d c).vlk = s.vlk := rfl
@[simp] theorem State.setCDie_adm (s : State) (d : Nat) (c : CDie) : (s.setCDie d c).adm = s.adm := rfl
@[simp] theorem State.setCDie_dict (s : State) (d : Nat) (c : CDie) : (s.setCDie d c).dict = s.dict := rfl
@[simp] theorem State.setCDie_slow (s : State) (d : Nat) (c : CDie) : (s.setCDie d c).slow = s.slow := rfl
@[simp] theorem State.setCDie_rst (s : State) (d : Nat) (c : CDie) : (s.setCDie d c).rst = s.rst := rfl
@[simp] theorem State.setCDie_life (s : State) (d : Nat) (c : CDie) : (s.setCDie d c).life = s.life := rfl
@[simp] theorem State.setCDie_sec (s : State) (d : Nat) (c : CDie) : (s.setCDie d c).sec = s.sec := rfl

@[simp] theorem State.updBoard_pending (s : State) (g : Board → Board) : (s.updBoard g).pending = s.pending := rfl
@[simp] theorem State.updBoard_time (s : State) (g : Board → Board) : (s.updBoard g).time = s.time := rfl
@[simp] theorem State.updBoard_free (s : State) (g : Board → Board) : (s.updBoard g).free = s.free := rfl
@[simp] theorem State.updBoard_mem (s : State) (g : Board → Board) : (s.updBoard g).mem = s.mem := rfl
@[simp] theorem State.updBoard_regs (s : State) (g : Board → Board) : (s.updBoard g).regs = s.regs := rfl
@[simp] theorem State.updBoard_frets (s : State) (g : Board → Board) : (s.updBoard g).frets = s.frets := rfl
@[simp] theorem State.updBoard_slanes (s : State) (g : Board → Board) : (s.updBoard g).slanes = s.slanes := rfl
@[simp] theorem State.updBoard_num (s : State) (g : Board → Board) : (s.updBoard g).num = s.num := rfl
@[simp] theorem State.updBoard_emb (s : State) (g : Board → Board) : (s.updBoard g).emb = s.emb := rfl
@[simp] theorem State.updBoard_upd (s : State) (g : Board → Board) : (s.updBoard g).upd = s.upd := rfl
@[simp] theorem State.updBoard_dram (s : State) (g : Board → Board) : (s.updBoard g).dram = s.dram := rfl
@[simp] theorem State.updBoard_fab (s : State) (g : Board → Board) : (s.updBoard g).fab = s.fab := rfl
@[simp] theorem State.updBoard_vlk (s : State) (g : Board → Board) : (s.updBoard g).vlk = s.vlk := rfl
@[simp] theorem State.updBoard_adm (s : State) (g : Board → Board) : (s.updBoard g).adm = s.adm := rfl
@[simp] theorem State.updBoard_dict (s : State) (g : Board → Board) : (s.updBoard g).dict = s.dict := rfl
@[simp] theorem State.updBoard_slow (s : State) (g : Board → Board) : (s.updBoard g).slow = s.slow := rfl
@[simp] theorem State.updBoard_rst (s : State) (g : Board → Board) : (s.updBoard g).rst = s.rst := rfl
@[simp] theorem State.updBoard_life (s : State) (g : Board → Board) : (s.updBoard g).life = s.life := rfl
@[simp] theorem State.updBoard_sec (s : State) (g : Board → Board) : (s.updBoard g).sec = s.sec := rfl

@[simp] theorem State.setOd_pending (s : State) (k : Nat) (b : Bytes) : (s.setOd k b).pending = s.pending := rfl
@[simp] theorem State.setOd_time (s : State) (k : Nat) (b : Bytes) : (s.setOd k b).time = s.time := rfl
@[simp] theorem State.setOd_free (s : State) (k : Nat) (b : Bytes) : (s.setOd k b).free = s.free := rfl
@[simp] theorem State.setOd_mem (s : State) (k : Nat) (b : Bytes) : (s.setOd k b).mem = s.mem := rfl
@[simp] theorem State.setOd_regs (s : State) (k : Nat) (b : Bytes) : (s.setOd k b).regs = s.regs := rfl
@[simp] theorem State.setOd_frets (s : State) (k : Nat) (b : Bytes) : (s.setOd k b).frets = s.frets := rfl
@[simp] theorem State.setOd_slanes (s : State) (k : Nat) (b : Bytes) : (s.setOd k b).slanes = s.slanes := rfl
@[simp] theorem State.setOd_board (s : State) (k : Nat) (b : Bytes) : (s.setOd k b).board = s.board := rfl
@[simp] theorem State.setOd_num (s : State) (k : Nat) (b : Bytes) : (s.setOd k b).num = s.num := rfl
@[simp] theorem State.setOd_emb (s : State) (k : Nat) (b : Bytes) : (s.setOd k b).emb = s.emb := rfl
@[simp] theorem State.setOd_upd (s : State) (k : Nat) (b : Bytes) : (s.setOd k b).upd = s.upd := rfl
@[simp] theorem State.setOd_dram (s : State) (k : Nat) (b : Bytes) : (s.setOd k b).dram = s.dram := rfl
@[simp] theorem State.setOd_fab (s : State) (k : Nat) (b : Bytes) : (s.setOd k b).fab = s.fab := rfl
@[simp] theorem State.setOd_vlk (s : State) (k : Nat) (b : Bytes) : (s.setOd k b).vlk = s.vlk := rfl
@[simp] theorem State.setOd_adm (s : State) (k : Nat) (b : Bytes) : (s.setOd k b).adm = s.adm := rfl
@[simp] theorem State.setOd_slow (s : State) (k : Nat) (b : Bytes) : (s.setOd k b).slow = s.slow := rfl
@[simp] theorem State.setOd_rst (s : State) (k : Nat) (b : Bytes) : (s.setOd k b).rst = s.rst := rfl
@[simp] theorem State.setOd_life (s : State) (k : Nat) (b : Bytes) : (s.setOd k b).life = s.life := rfl
@[simp] theorem State.setOd_sec (s : State) (k : Nat) (b : Bytes) : (s.setOd k b).sec = s.sec := rfl

@[simp] theorem State.setFn_pending (s : State) (i v : Nat) : (s.setFn i v).pending = s.pending := rfl
@[simp] theorem State.setFn_time (s : State) (i v : Nat) : (s.setFn i v).time = s.time := rfl
@[simp] theorem State.setFn_free (s : State) (i v : Nat) : (s.setFn i v).free = s.free := rfl
@[simp] theorem State.setFn_mem (s : State) (i v : Nat) : (s.setFn i v).mem = s.mem := rfl
@[simp] theorem State.setFn_regs (s : State) (i v : Nat) : (s.setFn i v).regs = s.regs := rfl
@[simp] theorem State.setFn_frets (s : State) (i v : Nat) : (s.setFn i v).frets = s.frets := rfl
@[simp] theorem State.setFn_slanes (s : State) (i v : Nat) : (s.setFn i v).slanes = s.slanes := rfl
@[simp] theorem State.setFn_board (s : State) (i v : Nat) : (s.setFn i v).board = s.board := rfl
@[simp] theorem State.setFn_num (s : State) (i v : Nat) : (s.setFn i v).num = s.num := rfl
@[simp] theorem State.setFn_emb (s : State) (i v : Nat) : (s.setFn i v).emb = s.emb := rfl
@[simp] theorem State.setFn_upd (s : State) (i v : Nat) : (s.setFn i v).upd = s.upd := rfl
@[simp] theorem State.setFn_dram (s : State) (i v : Nat) : (s.setFn i v).dram = s.dram := rfl
@[simp] theorem State.setFn_fab (s : State) (i v : Nat) : (s.setFn i v).fab = s.fab := rfl
@[simp] theorem State.setFn_vlk (s : State) (i v : Nat) : (s.setFn i v).vlk = s.vlk := rfl
@[simp] theorem State.setFn_adm (s : State) (i v : Nat) : (s.setFn i v).adm = s.adm := rfl
@[simp] theorem State.setFn_slow (s : State) (i v : Nat) : (s.setFn i v).slow = s.slow := rfl
@[simp] theorem State.setFn_rst (s : State) (i v : Nat) : (s.setFn i v).rst = s.rst := rfl
@[simp] theorem State.setFn_life (s : State) (i v : Nat) : (s.setFn i v).life = s.life := rfl
@[simp] theorem State.setFn_sec (s : State) (i v : Nat) : (s.setFn i v).sec = s.sec := rfl

@[simp] theorem State.writeMem_pending (s : State) (a : Nat) (bs : Bytes) : (s.writeMem a bs).pending = s.pending := rfl
@[simp] theorem State.writeMem_time (s : State) (a : Nat) (bs : Bytes) : (s.writeMem a bs).time = s.time := rfl
@[simp] theorem State.writeMem_free (s : State) (a : Nat) (bs : Bytes) : (s.writeMem a bs).free = s.free := rfl
@[simp] theorem State.writeMem_regs (s : State) (a : Nat) (bs : Bytes) : (s.writeMem a bs).regs = s.regs := rfl
@[simp] theorem State.writeMem_frets (s : State) (a : Nat) (bs : Bytes) : (s.writeMem a bs).frets = s.frets := rfl
@[simp] theorem State.writeMem_slanes (s : State) (a : Nat) (bs : Bytes) : (s.writeMem a bs).slanes = s.slanes := rfl
@[simp] theorem State.writeMem_board (s : State) (a : Nat) (bs : Bytes) : (s.writeMem a bs).board = s.board := rfl
@[simp] theorem State.writeMem_num (s : State) (a : Nat) (bs : Bytes) : (s.writeMem a bs).num = s.num := rfl
@[simp] theorem State.writeMem_emb (s : State) (a : Nat) (bs : Bytes) : (s.writeMem a bs).emb = s.emb := rfl
@[simp] theorem State.writeMem_upd (s : State) (a : Nat) (bs : Bytes) : (s.writeMem a bs).upd = s.upd := rfl
@[simp] theorem State.writeMem_dram (s : State) (a : Nat) (bs : Bytes) : (s.writeMem a bs).dram = s.dram := rfl
@[simp] theorem State.writeMem_fab (s : State) (a : Nat) (bs : Bytes) : (s.writeMem a bs).fab = s.fab := rfl
@[simp] theorem State.writeMem_vlk (s : State) (a : Nat) (bs : Bytes) : (s.writeMem a bs).vlk = s.vlk := rfl
@[simp] theorem State.writeMem_adm (s : State) (a : Nat) (bs : Bytes) : (s.writeMem a bs).adm = s.adm := rfl
@[simp] theorem State.writeMem_dict (s : State) (a : Nat) (bs : Bytes) : (s.writeMem a bs).dict = s.dict := rfl
@[simp] theorem State.writeMem_slow (s : State) (a : Nat) (bs : Bytes) : (s.writeMem a bs).slow = s.slow := rfl
@[simp] theorem State.writeMem_rst (s : State) (a : Nat) (bs : Bytes) : (s.writeMem a bs).rst = s.rst := rfl
@[simp] theorem State.writeMem_life (s : State) (a : Nat) (bs : Bytes) : (s.writeMem a bs).life = s.life := rfl
@[simp] theorem State.writeMem_sec (s : State) (a : Nat) (bs : Bytes) : (s.writeMem a bs).sec = s.sec := rfl

@[simp] theorem State.zeroMem_pending (s : State) (a n : Nat) : (s.zeroMem a n).pending = s.pending := rfl
@[simp] theorem State.zeroMem_time (s : State) (a n : Nat) : (s.zeroMem a n).time = s.time := rfl
@[simp] theorem State.zeroMem_free (s : State) (a n : Nat) : (s.zeroMem a n).free = s.free := rfl
@[simp] theorem State.zeroMem_regs (s : State) (a n : Nat) : (s.zeroMem a n).regs = s.regs := rfl
@[simp] theorem State.zeroMem_frets (s : State) (a n : Nat) : (s.zeroMem a n).frets = s.frets := rfl
@[simp] theorem State.zeroMem_slanes (s : State) (a n : Nat) : (s.zeroMem a n).slanes = s.slanes := rfl
@[simp] theorem State.zeroMem_board (s : State) (a n : Nat) : (s.zeroMem a n).board = s.board := rfl
@[simp] theorem State.zeroMem_num (s : State) (a n : Nat) : (s.zeroMem a n).num = s.num := rfl
@[simp] theorem State.zeroMem_emb (s : State) (a n : Nat) : (s.zeroMem a n).emb = s.emb := rfl
@[simp] theorem State.zeroMem_upd (s : State) (a n : Nat) : (s.zeroMem a n).upd = s.upd := rfl
@[simp] theorem State.zeroMem_dram (s : State) (a n : Nat) : (s.zeroMem a n).dram = s.dram := rfl
@[simp] theorem State.zeroMem_fab (s : State) (a n : Nat) : (s.zeroMem a n).fab = s.fab := rfl
@[simp] theorem State.zeroMem_vlk (s : State) (a n : Nat) : (s.zeroMem a n).vlk = s.vlk := rfl
@[simp] theorem State.zeroMem_adm (s : State) (a n : Nat) : (s.zeroMem a n).adm = s.adm := rfl
@[simp] theorem State.zeroMem_dict (s : State) (a n : Nat) : (s.zeroMem a n).dict = s.dict := rfl
@[simp] theorem State.zeroMem_slow (s : State) (a n : Nat) : (s.zeroMem a n).slow = s.slow := rfl
@[simp] theorem State.zeroMem_rst (s : State) (a n : Nat) : (s.zeroMem a n).rst = s.rst := rfl
@[simp] theorem State.zeroMem_life (s : State) (a n : Nat) : (s.zeroMem a n).life = s.life := rfl
@[simp] theorem State.zeroMem_sec (s : State) (a n : Nat) : (s.zeroMem a n).sec = s.sec := rfl

/-! ### Reads after writes -/

/-- The fret just replaced. -/
@[simp] theorem State.fret_setFret_same (s : State) (i : Nat) (f : Fret) : (s.setFret i f).fret i = f :=
  SMap.get_set_same _ _ _ _
/-- Every other fret. -/
theorem State.fret_setFret_other (s : State) (i j : Nat) (f : Fret) (h : j ≠ i) : (s.setFret i f).fret j = s.fret j :=
  SMap.get_set_other _ _ _ _ _ h
@[simp] theorem State.fret_updFret_same (s : State) (i : Nat) (g : Fret → Fret) : (s.updFret i g).fret i = g (s.fret i) :=
  SMap.get_set_same _ _ _ _
theorem State.fret_updFret_other (s : State) (i j : Nat) (g : Fret → Fret) (h : j ≠ i) : (s.updFret i g).fret j = s.fret j :=
  SMap.get_set_other _ _ _ _ _ h
@[simp] theorem State.lane_setLane_same (s : State) (i : Nat) (l : SLane) : (s.setLane i l).lane i = l :=
  SMap.get_set_same _ _ _ _
theorem State.lane_setLane_other (s : State) (i j : Nat) (l : SLane) (h : j ≠ i) : (s.setLane i l).lane j = s.lane j :=
  SMap.get_set_other _ _ _ _ _ h

/-- The register just written. -/
theorem State.reg_setReg_same (s : State) (die : Nat) (n : RegName) (v : Nat) :
    (s.setReg die n v).reg die n = v % 18446744073709551616 := by
  unfold State.reg State.setReg
  rw [SMap.get_set_same]
  rfl
/-- Every other register. -/
theorem State.reg_setReg_other (s : State) (die die' : Nat) (n n' : RegName) (v : Nat) (h : regKey die' n' ≠ regKey die n) :
    (s.setReg die n v).reg die' n' = s.reg die' n' := by
  unfold State.reg State.setReg
  rw [SMap.get_set_other _ _ _ _ _ h]

/-- A counter after an increment. -/
theorem State.reg_bump_same (s : State) (die : Nat) (n : RegName) (k : Nat) :
    (s.bump die n k).reg die n = cap32 (s.reg die n + k) := by
  unfold State.bump
  rw [State.reg_setReg_same]
  unfold cap32
  omega

/-- Registers that hold the same list read the same. -/
theorem State.reg_of_regs {s t : State} (h : t.regs = s.regs) (die : Nat) (n : RegName) : t.reg die n = s.reg die n := by
  unfold State.reg
  rw [h]
theorem State.fret_of_frets {s t : State} (h : t.frets = s.frets) (i : Nat) : t.fret i = s.fret i := by
  unfold State.fret
  rw [h]
theorem State.byte_of_mem {s t : State} (h : t.mem = s.mem) (a : Nat) : t.byte a = s.byte a := by
  unfold State.byte
  rw [h]

/-- A byte after a write: the byte written there, or the byte of before. -/
theorem State.byte_writeMem (s : State) (a : Nat) (bs : Bytes) (x : Nat) :
    (s.writeMem a bs).byte x = if a ≤ x ∧ x < a + bs.length then bs.getD (x - a) 0 else s.byte x :=
  SMap.get_setMany 0 s.mem a bs x
/-- A byte after a range was zeroed. -/
theorem State.byte_zeroMem (s : State) (a n x : Nat) :
    (s.zeroMem a n).byte x = if a ≤ x ∧ x < a + n then 0 else s.byte x :=
  SMap.get_eraseRange 0 s.mem a n x

/-! ### The canonical form of memory -/

/-- Every memory operation keeps it. -/
theorem Memory.wf_writeMem (s : State) (a : Nat) (bs : Bytes) (h : Memory.wf s.mem = true) :
    Memory.wf (s.writeMem a bs).mem = true := SMap.wf_setMany 0 s.mem a bs h
theorem Memory.wf_zeroMem (s : State) (a n : Nat) (h : Memory.wf s.mem = true) :
    Memory.wf (s.zeroMem a n).mem = true := SMap.wf_eraseRange 0 s.mem a n h
/-- Memory after reset has it. -/
theorem Memory.wf_reset : Memory.wf State.reset.mem = true := rfl

end Sys2Proof.Machine
end

