-- ==== Sys2Proof/Laws/Runs.lean ====
section
/-! SUPPORT. How a statement about a command is met: the next state, its changes, and single registers, frets and events in it. -/

namespace Sys2Proof.Machine

/-! ### The next state of a command -/

theorem State.runs_of {s t : State} {c : Instr} {P ps : List Part} {Q : State → Prop} {o : Host.Outcome State Fault Refusal}
    (h : Outcome.evolves s P o) (he : exec c s = o) (ht : o = .next t) (hw : Part.within P ps = true) (hq : Q t) :
    s.runs c ps Q := by
  obtain ⟨t', h', hc, -⟩ := h
  have : t' = t := by rw [h'] at ht; injection ht
  subst this
  exact ⟨t', he.trans h', State.only_step hc (State.only_refl s ps) hw, hq⟩

theorem State.runs_next {s t : State} {c : Instr} {ps : List Part} {Q : State → Prop} (he : exec c s = .next t)
    (hc : s.onlyChanges t ps) (hq : Q t) : s.runs c ps Q := ⟨t, he, hc, hq⟩

theorem State.runs_evolves {s t : State} {c : Instr} {P ps : List Part} {Q : State → Prop} (he : exec c s = .next t)
    (hc : s.evolves t P) (hw : Part.within P ps = true) (hq : Q t) : s.runs c ps Q :=
  ⟨t, he, State.only_step hc.1 (State.only_refl s ps) hw, hq⟩

/-! ### Frets -/

theorem State.fret_setFret (s : State) (i j : Nat) (f : Fret) : (s.setFret i f).fret j = if j = i then f else s.fret j := by
  split
  · next h => subst h; exact State.fret_setFret_same _ _ _
  · next h => exact State.fret_setFret_other _ _ _ _ h

theorem State.onlyFret_refl (s : State) (i : Nat) : s.onlyFret s i := fun _ _ => rfl

theorem State.onlyFret_setFret {s t : State} {i : Nat} (h : s.onlyFret t i) (f : Fret) : s.onlyFret (t.setFret i f) i :=
  fun j hj => (State.fret_setFret_other _ _ _ _ hj).trans (h j hj)

theorem State.onlyFret_of_frets {s t u : State} {i : Nat} (h : s.onlyFret t i) (hu : u.frets = t.frets) : s.onlyFret u i :=
  fun j hj => (State.fret_of_frets hu j).trans (h j hj)

/-! ### Registers -/

theorem regKey_same (d n n' : Nat) : (regKey d n' = regKey d n) = (n' = n) := by
  unfold regKey; exact propext ⟨fun h => by omega, fun h => by omega⟩

theorem State.reg_setReg (s : State) (die die' : Nat) (n n' : RegName) (v : Nat) :
    (s.setReg die n v).reg die' n' = if regKey die' n' = regKey die n then v % pow2 64 else s.reg die' n' := by
  split
  · next h =>
    have := State.reg_setReg_same s die n v
    unfold State.reg at this ⊢
    rw [h, this]
    rfl
  · next h => exact State.reg_setReg_other _ _ _ _ _ _ h

theorem State.reg_lt (s : State) (die : Nat) (n : RegName) : s.reg die n < pow2 64 := (SMap.get 0 s.regs (regKey die n)).isLt

theorem State.onlyRegs_refl (s : State) (ks : List Nat) : s.onlyRegs s ks := fun _ _ => rfl

theorem State.onlyRegs_setReg {s t : State} {ks : List Nat} (h : s.onlyRegs t ks) (die : Nat) (n : RegName) (v : Nat)
    (hk : ks.contains (regKey die n) = true) : s.onlyRegs (t.setReg die n v) ks := by
  intro k hc
  rw [← h k hc]
  exact SMap.get_set_other _ _ _ _ _ fun e => by rw [e, hk] at hc; cases hc

theorem State.onlyRegs_of_regs {s t u : State} {ks : List Nat} (h : s.onlyRegs t ks) (hu : u.regs = t.regs) : s.onlyRegs u ks := by
  intro k hk; rw [hu]; exact h k hk

theorem State.onlyRegs_wider {s t : State} {ks ls : List Nat} (h : s.onlyRegs t ks) (hw : ∀ k ∈ ks, k ∈ ls) : s.onlyRegs t ls := by
  intro k hk
  refine h k ?_
  cases hc : ks.contains k with
  | false => rfl
  | true => rw [List.contains_iff_mem.mpr (hw k (List.contains_iff_mem.mp hc))] at hk; cases hk

theorem State.onlyRegs_trans {s t u : State} {ks : List Nat} (h : s.onlyRegs t ks) (k : t.onlyRegs u ks) : s.onlyRegs u ks :=
  fun x hx => (k x hx).trans (h x hx)

/-! ### Events -/

theorem State.notify_onlyRegs (s : State) (r : Bytes) : s.onlyRegs (s.notify r) [regKey 6 Reg.mgmtStatus] := by
  unfold State.notify
  dsimp only
  split
  · exact State.onlyRegs_refl _ _
  · split
    · exact State.onlyRegs_refl _ _
    · exact State.onlyRegs_setReg (State.onlyRegs_refl _ _) _ _ _ (by decide)

theorem State.notify_dict (s : State) (r : Bytes) : (s.notify r).dict = { s.dict with bus := (s.notify r).dict.bus } := by
  unfold State.notify
  dsimp only
  split
  · rfl
  · split <;> rfl

theorem State.logRecord_onlyRegs (s : State) (r : Bytes) : s.onlyRegs (s.logRecord r) [regKey 6 Reg.mgmtStatus] :=
  State.notify_onlyRegs _ _

theorem State.logRecord_dict (s : State) (r : Bytes) : (s.logRecord r).dict =
    { s.dict with
      log := (r :: s.dict.log).take 8192, logNext := (s.dict.logNext + 1) % 0x100000000
      overwritten := (if 8192 ≤ s.dict.log.length then cap32 (s.dict.overwritten + 1) else s.dict.overwritten)
      bus := (s.logRecord r).dict.bus } := by
  unfold State.logRecord
  dsimp only
  rw [State.notify_dict]
  simp

theorem State.logRecord_injecting (s : State) (r : Bytes) : (s.logRecord r).injecting = s.injecting := by
  unfold State.injecting State.fnState State.odNat State.odBytes State.odWritten
  rw [State.logRecord_dict]

theorem State.logRecord_time (s : State) (r : Bytes) : (s.logRecord r).time = s.time :=
  (State.logRecord_evolves s r).1 .time (by decide)

/-- What does not change of the dictionary while events are logged. -/
def Dict.settings (d e : Dict) : Prop :=
  e.od = d.od ∧ e.before = d.before ∧ e.nv = d.nv ∧ e.fn = d.fn ∧ e.refusal = d.refusal ∧ e.hash = d.hash ∧ e.hashTime = d.hashTime
    ∧ e.sessions = d.sessions ∧ e.nonces = d.nonces ∧ e.staging = d.staging

theorem Dict.settings_refl (d : Dict) : d.settings d := ⟨rfl, rfl, rfl, rfl, rfl, rfl, rfl, rfl, rfl, rfl⟩

theorem State.logRecord_settings (s : State) (r : Bytes) : s.dict.settings (s.logRecord r).dict := by
  rw [State.logRecord_dict]
  exact ⟨rfl, rfl, rfl, rfl, rfl, rfl, rfl, rfl, rfl, rfl⟩

theorem Dict.settings_trans {a b c : Dict} (h : a.settings b) (k : b.settings c) : a.settings c := by
  obtain ⟨h1, h2, h3, h4, h5, h6, h7, h8, h9, h10⟩ := h
  obtain ⟨k1, k2, k3, k4, k5, k6, k7, k8, k9, k10⟩ := k
  exact ⟨k1.trans h1, k2.trans h2, k3.trans h3, k4.trans h4, k5.trans h5, k6.trans h6, k7.trans h7, k8.trans h8, k9.trans h9, k10.trans h10⟩

theorem State.event_settings (s : State) (code : Nat) (params : Bytes) : s.dict.settings (s.event code params).dict := by
  unfold State.event
  dsimp only
  have key : ∀ (l : List (Bytes × Nat)) (n : Nat) (s' : State), s.dict.settings s'.dict →
      s.dict.settings (l.foldl (fun s p => s.logRecord (eventRecord code ((if s.injecting then 1 else 0) +
        (if p.2 + 1 < n then 2 else 0)) s.dict.logNext s.time p.1)) s').dict := by
    intro l n
    induction l with
    | nil => intro s' h; exact h
    | cons x l ih => intro s' h; exact ih _ (Dict.settings_trans h (State.logRecord_settings _ _))
  exact key _ _ s (Dict.settings_refl _)

theorem State.event_onlyRegs (s : State) (code : Nat) (params : Bytes) : s.onlyRegs (s.event code params) [regKey 6 Reg.mgmtStatus] := by
  unfold State.event
  dsimp only
  have key : ∀ (l : List (Bytes × Nat)) (n : Nat) (s' : State), s.onlyRegs s' [regKey 6 Reg.mgmtStatus] →
      s.onlyRegs (l.foldl (fun s p => s.logRecord (eventRecord code ((if s.injecting then 1 else 0) +
        (if p.2 + 1 < n then 2 else 0)) s.dict.logNext s.time p.1)) s') [regKey 6 Reg.mgmtStatus] := by
    intro l n
    induction l with
    | nil => intro s' h; exact h
    | cons x l ih => intro s' h; exact ih _ (State.onlyRegs_trans h (State.logRecord_onlyRegs _ _))
  exact key _ _ s (State.onlyRegs_refl _ _)

end Sys2Proof.Machine
end

