-- ==== Sys2Proof/WellFormed.lean ====
section
/-! DEFINITION. Which commands are well formed: their operands lie in the ranges that the fields of the hardware have. A command
that is well formed as an operand list can still be answered with an error by the rules; that is the machine's part. -/

namespace Sys2Proof

/-- A node's coordinates are 15 bits (R329). -/
def nodeOk (node : Nat) : Bool := decide (node < 0x8000)
/-- A table number is 0 to 1023 (R242). -/
def tableOk (table : Nat) : Bool := decide (table < 1024)
/-- A sync object of a module (R343). -/
def syncOk (obj : Nat) : Bool := decide (obj < 8192)
/-- A local offset is 43 bits (R302). -/
def localOk (addr : Nat) : Bool := decide (addr < pow2 43)
/-- A micro-batch number is one byte (R373). -/
def microOk (frame : Option (Nat × Nat)) : Bool := match frame with | some f => decide (f.2 < 256) | none => true
/-- An offset of a module's own map is 45 bits, a global address 64 (R302, R332). -/
def addrOk (a : MemAddr) : Bool := match a with | .own o => decide (o < pow2 45) | .global a => decide (a < pow2 64)
/-- A write stores at least one byte. -/
def writeOk (write : Option Bytes) : Bool := match write with | some b => decide (1 ≤ b.length) | none => true
/-- A source is one of those that have terms for the die; a micro-batch is a byte, a position and a dimension are a word's
(R242, R260, R373); a row has at most 512 elements. -/
def termOk (t : ScatterTerm) : Bool :=
  decide (t.source < t.sources) && decide (t.mb < 256) && decide (t.pos < pow2 32) && decide (1 ≤ t.values.length)
    && decide (t.values.length ≤ 512)
/-- A rank is below the most nodes of a zone (R329, R332). -/
def rankOk (rank : Option Nat) : Bool := match rank with | some r => decide (r < 0x8000) | none => true

/-- Is the command well formed? -/
def Instr.wf (i : Instr) : Bool :=
  match i with
  | .nop _ => true
  | .loadb _ _ _ => true
  | .loadbDone _ => true
  | .swapb _ => true
  | .stream _ _ _ _ _ _ => true
  | .spill _ _ => true
  | .sumBoundExceeded _ _ => true
  | .epu _ _ => true
  | .conv _ _ _ _ _ => true
  | .send _ _ => true
  | .recv _ _ _ => true
  | .recvDone _ _ => true
  | .bridge _ _ => true
  | .bridgeResult _ _ => true
  | .push _ => true
  | .stageReady _ _ => true
  | .summary _ => true
  | .summaryWaitEnd _ => true
  | .summaryMailboxArrival _ _ _ => true
  | .loop _ => true
  | .wait _ => true
  | .waitRelease _ => true
  | .switch _ => true
  | .switchWaitEnd _ => true
  | .halt _ => true
  | .voicingLoad _ _ _ => true
  | .voicingLoadDone _ _ => true
  | .phaseStart _ _ bound first count frame => decide (bound < pow2 32) && decide (1 ≤ count) && decide (first + count ≤ 384) && microOk frame
  | .overrun _ => true
  | .phaseAtTwiceBound _ => true
  | .fretFault _ _ _ _ => true
  | .spareVoicingReloadDone _ _ => true
  | .windowWrite addr width _ => decide (0x40000000000 ≤ addr) && decide (addr < 0x40040000000) && [1, 2, 4, 8].contains width
  | .windowTimeout _ _ => true
  | .passVerdict layer _ => decide (layer < pow2 16)
  | .repeatImagesLoaded layer _ => decide (layer < pow2 16)
  | .stepVerdict _ => true
  | .tallyComplete frame => decide (frame < pow2 32)
  | .remoteRowRead source table row _ => nodeOk source && tableOk table && decide (row < pow2 48)
  | .heldReadRelease => true
  | .scatterTerm _ table row term _ => tableOk table && decide (row < pow2 48) && termOk term
  | .sortMerge _ => true
  | .exchangeRecord src record => nodeOk src && decide (16 ≤ record.length)
  | .exchangeEndMarker src => nodeOk src
  | .ownerReduction => true
  | .hotsetPushRow owner table row cls _ _ => nodeOk owner && tableOk table && decide (row < pow2 48) && decide (cls ≤ 2)
  | .hotsetInstallComplete _ _ _ _ _ => true
  | .layerUpdate entry _ => decide (entry < 4096)
  | .rowUpdate table row => tableOk table && decide (row < pow2 48)
  | .moduleApplied => true
  | .commitVote arrival => rankOk arrival.lowest
  | .stepRerun => true
  | .voteTimeLimit _ => true
  | .checkpoint => true
  | .memoryRequest cls addr wr _ _ _ _ => decide (cls ≤ 3) && addrOk addr && writeOk wr
  | .remapCopyDone _ chan _ _ => decide (chan < 384)
  | .scrubPeriod _ _ => true
  | .maintenanceWindowStart _ => true
  | .maintenanceWindowEnd => true
  | .driftCheck _ chan _ => decide (chan < 384)
  | .channelRetrainTrigger _ chan _ => decide (chan < 384)
  | .channelRetrain _ chan _ _ => decide (chan < 384)
  | .retrainFail _ chan => decide (chan < 384)
  | .loopbackPass _ => true
  | .portJoin _ coord zone _ => nodeOk coord && decide (zone < pow2 104)
  | .joinTimeLimit _ => true
  | .ringRetry _ => true
  | .linkLoss _ => true
  | .packetTransmit _ => true
  | .packetReceive _ _ _ _ => true
  | .replayRequest _ _ => true
  | .portRetrain _ => true
  | .portRetrainDone _ _ => true
  | .portFailed _ => true
  | .zoneFaultMessage node port => nodeOk node && decide (port < 6)
  | .read src _ addr _ => nodeOk src && localOk addr
  | .write src _ addr _ => nodeOk src && localOk addr
  | .copy src _ addr _ _ => nodeOk src && localOk addr
  | .copyDone _ _ => true
  | .addI64 src _ addr _ => nodeOk src && localOk addr
  | .addF32 src _ addr _ => nodeOk src && localOk addr
  | .msg src _ _ body => nodeOk src && decide (body.length ≤ 256)
  | .syncGet src _ obj _ => nodeOk src && syncOk obj
  | .syncSet src _ obj _ _ => nodeOk src && syncOk obj
  | .syncAdd src _ obj _ _ => nodeOk src && syncOk obj
  | .syncMax src _ obj _ _ => nodeOk src && syncOk obj
  | .syncCas src _ obj _ _ _ => nodeOk src && syncOk obj
  | .syncRecord src _ obj _ _ => nodeOk src && syncOk obj
  | .syncStepMax src _ obj _ _ => nodeOk src && syncOk obj
  | .syncStepAdd src _ obj _ _ => nodeOk src && syncOk obj
  | .syncWait src _ obj _ _ _ => nodeOk src && syncOk obj
  | .syncWaitSatisfied place => decide (place < 256)
  | .syncWaitTimeout place => decide (place < 256)
  | .remoteReply _ _ data => decide (data.info < pow2 16) && decide (data.bytes.length ≤ 256)
  | .remoteTimeout _ => true
  | .bridgePacket layer tensor _ mb _ _ _ _ rs n data _ => decide (layer < pow2 16) && decide (tensor < pow2 8) && decide (mb < pow2 8) && decide (data.length ≤ rs * n)
  | .stepSyncUpdate _ _ => true
  | .stepSyncAck _ _ => true
  | .extensionPosted frame => decide (frame < pow2 32)
  | .timeExchange _ _ _ _ => true
  | .timeLock _ _ => true
  | .parentLost _ => true
  | .timeUnlock => true
  | .flitReceive flit => decide (flit.length = 256)
  | .vilnyRetrain => true
  | .vilnyTrainDone _ _ => true
  | .vilnyLinkDown => true
  | .vilnyTrainRetry => true
  | .events _ => true
  | .put _ => true
  | .rows _ => true
  | .restore _ => true
  | .settle _ => true
  | .snapshotReq _ => true
  | .readback _ => true
  | .status _ => true
  | .frameWaitLimit _ => true
  | .boundExpiry frame => decide (frame < pow2 32)
  | .sdpGet _ _ frame _ => decide (frame < pow2 32)
  | .sdpSet _ _ frame _ => decide (frame < pow2 32)
  | .sdpOpen _ _ frame _ => decide (frame < pow2 32)
  | .sdpClose _ _ frame _ => decide (frame < pow2 32)
  | .sdpSubscribe _ _ frame _ => decide (frame < pow2 32)
  | .nonceExpiry _ _ => true
  | .sessionIdle session => decide (session < pow2 16)
  | .stagingIdle entry => decide (entry < pow2 24)
  | .authLockoutEnd => true
  | .functionStart _ => true
  | .functionStop _ => true
  | .stoppingComplete => true
  | .registerDataGet _ => true
  | .registerDataSet _ _ => true
  | .imageUpload image => decide (image.length ≤ 0x1000000)
  | .antiRollbackAdvance _ => true
  | .ownerKeyEnrolment _ => true
  | .enrolledKeys _ _ => true
  | .attestationNonce _ => true
  | .attestationReportReady => true
  | .calendarSet _ => true
  | .masterTimeSet _ => true
  | .diceTestStart _ _ => true
  | .diceTestDone _ => true
  | .restart _ _ _ => true
  | .blockReset _ _ _ => true
  | .blockResetDone _ => true
  | .flush _ => true
  | .otpProgramDone => true
  | .slowWriteApply _ => true
  | .registerWrite addr width _ _ => decide (addr < pow2 64) && decide (width ≤ 8)
  | .slowClockEdge _ => true
  | .pinReset => true
  | .resetNRelease _ _ => true
  | .internalReset _ => true
  | .powerOnReset => true
  | .vinLoss => true
  | .vbakLoss => true
  | .bringupPhaseDone _ => true
  | .phaseOver _ block _ => decide (block < 23)
  | .clockGood _ _ => true
  | .clockUnstable _ _ => true
  | .clockRecoveryLimit _ _ => true
  | .powerStateEntry => true
  | .powerStateSettled => true
  | .wake => true
  | .wakeComplete => true
  | .vinLow mv => decide (mv < pow2 32)
  | .hot _ _ => true
  | .faultShutdown _ => true
  | .coreFault _ _ => true
  | .managementCoreFault _ => true
  | .hotsetBankFault _ _ => true
  | .regulatorPhaseFail _ => true
  | .spareRecordRewrite => true
  | .counterFlush => true
  | .thermalCycle _ => true
  | .mgmtPhyLink _ _ => true

end Sys2Proof
end

