-- ==== Sys2Proof/Tests/Slice0.lean ====
section
/-! SUPPORT. Tests of the model against the spec's own worked examples, ill-formed terms that the check refuses, and for every
statement with hypotheses a state and operands that meet them. -/

namespace Sys2Proof.Tests

-- one theorem after the other: many kernel evaluations that wait for each other at once would need a thread each
set_option Elab.async false

open Sys2Proof.Machine

/-! ### Ill-formed terms: one for each check -/

theorem test_wf_node : (Instr.exchangeEndMarker 0x8000).wf = false ∧ (Instr.exchangeEndMarker 0x7FFF).wf = true := by decide
theorem test_wf_table : (Instr.rowUpdate 1024 0).wf = false ∧ (Instr.rowUpdate 1023 0).wf = true := by decide
theorem test_wf_row : (Instr.rowUpdate 0 (pow2 48)).wf = false := by decide
theorem test_wf_object : (Instr.syncGet 0 0 8192 true).wf = false ∧ (Instr.syncGet 0 0 8191 true).wf = true := by decide
theorem test_wf_local : (Instr.read 0 0 (pow2 43) 32).wf = false ∧ (Instr.read 0 0 (pow2 43 - 1) 32).wf = true := by decide
theorem test_wf_micro : (Instr.phaseStart 0 0 0 0 1 (some (0, 256))).wf = false ∧ (Instr.phaseStart 0 0 0 0 1 (some (0, 255))).wf = true := by
  decide
theorem test_wf_frets : (Instr.phaseStart 0 0 0 1 384 none).wf = false ∧ (Instr.phaseStart 0 0 0 0 384 none).wf = true := by decide
theorem test_wf_bound : (Instr.phaseStart 0 0 (pow2 32) 0 1 none).wf = false := by decide
theorem test_wf_store : (Instr.memoryRequest 0 (.own 0) (some []) 0 false false false).wf = false
    ∧ (Instr.memoryRequest 0 (.own 0) (some [0#8]) 0 false false false).wf = true := by decide
theorem test_wf_class : (Instr.memoryRequest 4 (.own 0) none 1 false false false).wf = false := by decide
theorem test_wf_window : (Instr.windowWrite 0 8 ⟨0#64, 0⟩).wf = false ∧ (Instr.windowWrite 0x40000000000 3 ⟨0#64, 0⟩).wf = false
    ∧ (Instr.windowWrite 0x40000000000 8 ⟨0#64, 0⟩).wf = true := by decide
theorem test_wf_channel : (Instr.retrainFail 0 384).wf = false ∧ (Instr.retrainFail 0 383).wf = true := by decide
theorem test_wf_zone : (Instr.portJoin 0 0 (pow2 104) ⟨0, 0⟩).wf = false := by decide
theorem test_wf_port : (Instr.zoneFaultMessage 0 6).wf = false := by decide
theorem test_wf_place : (Instr.syncWaitSatisfied 256).wf = false ∧ (Instr.syncWaitTimeout 255).wf = true := by decide
theorem test_wf_layer : (Instr.passVerdict (pow2 16) false).wf = false := by decide
theorem test_wf_entry : (Instr.layerUpdate 4096 []).wf = false := by decide
theorem test_wf_hot_class : (Instr.hotsetPushRow 0 0 0 3 false []).wf = false := by decide
theorem test_wf_record : (Instr.exchangeRecord 0 []).wf = false := by decide
theorem test_wf_msg : (Instr.msg 0 0 0 (zeroBytes 257)).wf = false ∧ (Instr.msg 0 0 0 (zeroBytes 256)).wf = true := by decide +kernel
theorem test_wf_reply : (Instr.remoteReply 0 0 ⟨0, zeroBytes 257⟩).wf = false ∧ (Instr.remoteReply 0 0 ⟨0x10000, []⟩).wf = false
    ∧ (Instr.remoteReply 0 0 ⟨0xFFFF, []⟩).wf = true := by decide +kernel
theorem test_wf_chunk : (Instr.bridgePacket 0 0 0 0 0 0 0 0 1 1 [0#32, 0#32] false).wf = false := by decide
theorem test_wf_flit : (Instr.flitReceive (zeroBytes 255)).wf = false ∧ (Instr.flitReceive (zeroBytes 256)).wf = true := by decide +kernel
theorem test_wf_frame : (Instr.boundExpiry (pow2 32)).wf = false := by decide
theorem test_wf_session : (Instr.sessionIdle 0x10000).wf = false := by decide
theorem test_wf_od_entry : (Instr.stagingIdle 0x1000000).wf = false := by decide
theorem test_wf_register : (Instr.registerWrite 0 9 0#64 true).wf = false := by decide
theorem test_wf_block : (Instr.phaseOver 0 23 0).wf = false := by decide
theorem test_wf_term : (Instr.scatterTerm 0 0 0 ⟨0, 1, 0, 0, 0, 7, [0#32]⟩ true).wf = true
    ∧ (Instr.scatterTerm 0 0 0 ⟨0, 1, 0, 256, 0, 7, [0#32]⟩ true).wf = false := by decide
theorem test_wf_rank : (Instr.commitVote ⟨[], some 0x8000⟩).wf = false ∧ (Instr.commitVote ⟨[], some 0x7FFF⟩).wf = true := by decide
theorem test_wf_address : (Instr.memoryRequest 0 (.global (pow2 64)) none 1 false false false).wf = false
    ∧ (Instr.memoryRequest 0 (.own (pow2 45)) none 1 false false false).wf = false := by decide
theorem test_wf_voltage : (Instr.vinLow (pow2 32)).wf = false := by decide

/-! ### No row gives bits -/

theorem test_no_command_word : decodeTableWord 0 0 = none ∧ decodeTableWord 32 0xFFFFFFFF = none := by decide

/-! ### The spec's worked examples -/

/-- "A UA4 block and its correction term": scale code 0x7D, zero point 3, codes 13, 7 and 1, decoded 2.5, 1.0 and -0.5. -/
theorem test_ua4_block :
    let b := Fmt.encBlock Fmt.ua4 0 none (fun _ => 0) 0 [0xBF400000#32, 0x40200000#32, 0x3F900000#32, 0xBF200000#32]
    (b.scale, b.zero, b.codes.take 4) = (0x7D, 3, [0, 13, 7, 1])
    ∧ [13, 7, 1].map (fun c => (Fmt.decode Fmt.ua4 c 0x7D 3).1) = [0x40200000#32, 0x3F800000#32, 0xBF000000#32] := by
  decide +kernel

/-- "Stochastic rounding of one gradient block to MXFP4": with 16-bit draws 0x1F40 and 0xC24B, codes 0x7 and 0xB at scale 0x78. -/
theorem test_mxfp4_stochastic :
    let b := Fmt.encBlock Fmt.mxfp4 1 none (fun k => if k = 0 then 0x1F40 else 0xC24B) 0 [0x3D380000#32, 0xBC600000#32]
    (b.scale, b.codes.take 2) = (0x78, [7, 0xB]) := by decide +kernel

/-- The counters of that example. -/
theorem test_dice_counters : Dice.counter 37 2 0 = 0x25000010#64 ∧ Dice.counter 37 2 1 = 0x25000011#64 := by decide

/-- "Re-blocking one column of an MXFP4 tile": 0.375, 3.0, 0.03125 and -0.5 become 0x2, 0x7, 0x0 and 0xA at scale 0x7E; two are inexact. -/
theorem test_reblock :
    let r := reblockOne Fmt.mxfp4 ([0x3EC00000#32, 0x40400000#32, 0x3D000000#32, 0xBF000000#32].map fun x => (⟨x, false, false, false⟩ : Decoded))
    (r.1.scale, r.1.codes.take 4, r.2) = (0x7E, [2, 7, 0, 0xA], 2) := by decide +kernel

/-- "One momentum SGD element": 0.875 × 0.5 + 0.75 = 1.1875, and the weight less 19 × 2^-24. -/
theorem test_momentum :
    Fp.add (Fp.mul 0x3F600000#32 0x3F000000#32) 0x3F400000#32 = 0x3F980000#32
    ∧ Fp.sub 0x3F020000#32 (Fp.mul 0x35800000#32 0x3F980000#32) = 0x3F01FFED#32 := by decide +kernel

/-- "Where the stack region starts": pseudo-channel 128, bank 35, row 13,653, column 1. -/
theorem test_place : placeOf 0x05000000000 = ⟨0, 128, 35, 13653, 1⟩ := by decide

/-- "A core reads local offset 0x7F0_0001_1058": die 0, block 1, offset 0x1058; and the window of fret C1.f(12,7) (R83). -/
theorem test_addresses : regAccess 0x11058 8 = regAccess 0x10058 8 ∧ windowPlace 0x40038700000 = (some (384 + 12 * 24 + 7), 0) := by
  decide +kernel

/-- The bridge pairs as in "Top-k over six frets": (0,1), (2,3), (4,5), then (0,2) with 4 passed on, then (0,4). -/
theorem test_tree : pairUp (fun a b => a ++ b) [[0], [1], [2], [3], [4], [5]] = [[0, 1], [2, 3], [4, 5]]
    ∧ pairUp (fun a b => a ++ b) [[0, 1], [2, 3], [4, 5]] = [[0, 1, 2, 3], [4, 5]] := by decide

/-- CRC-32 of the nine digits, the check value of the polynomial that R100 names. -/
theorem test_crc : crc32 [0x31#8, 0x32#8, 0x33#8, 0x34#8, 0x35#8, 0x36#8, 0x37#8, 0x38#8, 0x39#8] = 0xCBF43926#32 := by decide +kernel

/-- R41's table. -/
theorem test_n3 : (List.range 8).map (fun c => (Fmt.decode Fmt.n3 c 127 0).1) =
    [0#32, 0x3F000000#32, 0x3F800000#32, 0x3FC00000#32, 0x80000000#32, 0xBF000000#32, 0xBF800000#32, 0xBFC00000#32] := by decide +kernel

/-- R439: after reset a read of a slow register shows its reset value. -/
theorem test_slow_copies : (List.range 3).all (fun w => (State.reset.slowWin w).copies = State.reset.slowCopies w)
    ∧ (State.reset.regValue 6 Reg.mgmtPlca).1 = 0x8FF := by decide +kernel

/-! ### Small states for the witnesses -/

/-- A voicing image with header words 0, 1, 2, 3, 5 and a program. -/
def img (w0 w1 w2 w3 w5 : Nat) (ops : List Nat) : Img :=
  SMap.setMany 0 (SMap.setMany 0 [] 0 ([w0, w1, w2, w3, 0, w5, ops.length].flatMap u64)) 0x100 (ops.flatMap u64)
/-- A fret that runs an image. -/
def fretOf (i : Img) : Fret := { Fret.reset with img0 := i, st0 := 2, active := 0, run := 1 }
/-- The first fret. -/
def f0 : FretId := ⟨0, 0, 0⟩
/-- The module after reset but for fret 0. -/
def one (f : Fret) : State := State.reset.setFret 0 f
/-- Fret 0 runs voicing 1, a 1 × 1 tile in BF16, whose only operation is `w`. -/
def opFret (w : Nat) : Fret := fretOf (img 0x10000 0x11 0x20000101 0 0 [w])
/-- The module in which fret 0 issues `w` next. -/
def opState (w : Nat) : State := one (opFret w)
/-- A contribution of a member of a group, by its position and operation. -/
def part (pos size op : Nat) : Contribution :=
  { die := 0, index := pos, pos := pos, base := 0, size := size, ordinal := 0, runNo := 0, vid := 1, op := op, deliver := 0, extent := 0, norm := false
    k := 1, rows := 1, cols := 1, slot := 0, int := false, layer := 0, tensor := 0, pass := 0, mb := 0, vals := [0#32], mutes := [false] }
/-- The module in which a BRIDGE of fret 0 on slot 0 is not delivered yet. -/
def inFlight (s : State) : State := s.updBoard fun b => { b with contribs := [part 0 1 0] }
/-- Did a source give its tile, or not yet? -/
def got (s : Source) : Bool := match s with | .got _ _ => true | _ => false
def notYet (s : Source) : Bool := match s with | .notYet _ => true | _ => false

/-- After reset no block of a die is held; while RESET_n is low, all are. -/
theorem witness_held : (∀ d, d < 8 → ∀ b, b < 23 → State.reset.held d b = false)
    ∧ { State.reset with rst := { State.reset.rst with asserted := true } }.held 0 0 = true
    ∧ State.reset.engineHeld 8 = false ∧ State.reset.anyMemHeld = false
    ∧ { State.reset with rst := { State.reset.rst with asserted := true } }.engineHeld 8 = true := by decide +kernel

theorem witness_NopAndLoop : (opState 0).issues f0 0 0
    ∧ (opState 0x0B00000100000000).issues f0 0x0B 0x0B00000100000000 ∧ (opState 0x0B00000100000001).issues f0 0x0B 0x0B00000100000001
    ∧ (opState 0x0B000001FFFFFFFF).issues f0 0x0B 0x0B000001FFFFFFFF := by decide +kernel

/-- LOADB of one line of one block from SRAM, and from the row bus, where nothing has arrived. -/
theorem witness_StationaryBank :
    (let w := 0x0100000408000000
     (opState w).issues f0 1 w ∧ ((opState w).fret 0).idle.status ≠ 1 ∧ bits w 55 52 = 0 ∧ (opState w).sourceBusy 0 0 0 = false
     ∧ got ((opState w).takeTile 0 0 0 true 1 (bits w 33 27) (bits w 37 34) 0 0 0 [] false) = true)
    ∧ (let w := 0x0150000408000000
     (opState w).issues f0 1 w ∧ (opState w).sourceBusy 0 5 0 = false ∧ notYet ((opState w).takeTile 0 5 0 true 1 (bits w 33 27) (bits w 37 34) 0 0 0 [] false) = true)
    ∧ (let w := 0x0180000408000000
     (inFlight (opState w)).issues f0 1 w ∧ bits w 55 52 = 8 ∧ (inFlight (opState w)).sourceBusy 0 8 0 = true)
    ∧ (let f := (opFret 0).setIdle ⟨1, false, Tile.empty⟩
      f.idle.status = 1 ∧ (one f).held 0 0 = false ∧ f.stall ≠ .swapb ∧ { f with stall := .swapb }.idle.status = 1 ∧ { f with stall := .swapb }.stall = .swapb)
    ∧ (let w := 0x0200000000000000
      (opState w).issues f0 2 w ∧ ((opState w).fret 0).idle.status ≠ 1
      ∧ (one ((opFret w).setIdle ⟨1, false, Tile.empty⟩)).issues f0 2 w
      ∧ ((one ((opFret w).setIdle ⟨1, false, Tile.empty⟩)).fret 0).idle.status = 1) := by decide +kernel

/-- T is 1 and kb is 0x20: the slot owns its pairs, and one term makes the spill due. -/
def spilling (w : Nat) : State :=
  (one { fretOf (img 0x10000 0x11 0x0000000020000101 0 0 [w]) with terms := [(0, 1)] }).setOd (od 0x2100 5) [1#8]

theorem witness_StreamAddsTerms :
    (let w := 0x0300000000000000
     (spilling w).issues f0 3 w ∧ spillDue ((spilling w).fret 0) ((spilling w).fret 0).voicing 1 0 = true
     ∧ (spilling w).odNat (od 0x2100 5) = 1 ∧ (inFlight (opState w)).issues f0 3 w ∧ (inFlight (opState w)).slotBusy 0 0 = true)
    ∧ (let w := 0x0300002000000000
     (opState w).issues f0 3 w ∧ bits w 55 52 = 0
     ∧ spillDue ((opState w).fret 0) ((opState w).fret 0).voicing ((opState w).odNat (od 0x2100 5)) 0 = false
     ∧ (opState w).slotBusy 0 0 = false ∧ (opState w).sourceBusy 0 0 0 = false ∧ got ((opState w).takeTile 0 0 0 false 1 1 1 0 0 0 [] false) = true)
    ∧ (let w := 0x0350002000000000
     (opState w).issues f0 3 w ∧ (opState w).sourceBusy 0 5 0 = false ∧ notYet ((opState w).takeTile 0 5 0 false 1 1 1 0 0 0 [] false) = true) := by decide +kernel

theorem witness_SpillAndBound :
    (let f := (spilling 0).fret 0
     f.active < 2 ∧ (spilling 0).held 0 1 = false ∧ spillDue f f.voicing ((spilling 0).odNat (od 0x2100 5)) 0 = true
     ∧ spillDue f f.voicing ((spilling 0).odNat (od 0x2100 5)) 1 = false)
    ∧ (let f := { opFret 0 with terms := [(0, 65537)] }
     f.active < 2 ∧ f.bounded.contains 0 = false ∧ boundPassed f f.voicing 0 = some 0
     ∧ { f with bounded := [0] }.bounded.contains 0 = true)
    ∧ (let f := { opFret 0 with spills := [(0, 0x1000001)] }
     boundPassed f f.voicing 0 = some 1) := by decide +kernel

theorem witness_EpuOperation : (opState 0x0400000000000000).issues f0 4 0x0400000000000000
    ∧ (opState 0x0400000000000000).epuBusy 0 (EpuOp.of 0x0400000000000000) = false
    ∧ (let s := inFlight (opState 0x0400000000000000)
      s.issues f0 4 0x0400000000000000 ∧ s.epuBusy 0 (EpuOp.of 0x0400000000000000) = true)
    ∧ (let w := 0x9000000000000000 + 0x8000000000
       let r := epuRunOp [] (Voicing.of []) 0 (EpuOp.of 0) Fret.reset
       bits w 63 57 ≠ 0x41 ∧ bits w 63 57 = 0x48 ∧ bits w 39 37 = 4
       ∧ ((r.lanes.getD 0 Lane64.zero).pred (bits w 39 37 - 4) == decide (bits w 36 36 = 1)) = true
       ∧ bits w 34 32 = (r.f.sum (bits w 55 52 % 4)).kind) := by decide +kernel

theorem witness_ConvertAndSend :
    (opState 0x0500000008000000).slotBusy 0 0 = false ∧ (inFlight (opState 0x0500000008000000)).slotBusy 0 0 = true
    ∧ (inFlight (opState 0x0500000008000000)).issues f0 5 0x0500000008000000
    ∧ (opState 0x0500000008000000).issues f0 5 0x0500000008000000 ∧ bits 0x0500000008000000 51 48 = 0
    ∧ (opState 0x0501000008000000).issues f0 5 0x0501000008000000 ∧ bits 0x0501000008000000 51 48 = 1
    ∧ (opState 0x0502000008000000).issues f0 5 0x0502000008000000 ∧ bits 0x0502000008000000 51 48 = 2
    ∧ (opState 0x0610000000040000).issues f0 6 0x0610000000040000 ∧ bits 0x0610000000040000 55 52 = 1
    ∧ (opState 0x0620000000040000).issues f0 6 0x0620000000040000 ∧ bits 0x0620000000040000 55 52 = 2 := by decide +kernel

/-- By the reset values of the stack region a record of 256 bytes fits; with a lane that holds a whole share's record it does not. -/
theorem witness_StackPush :
    (let w := 0x0900000000040000
     let sh := (opState w).laneShares 0
     (opState w).issues f0 9 w ∧ 256 ≤ sh.2.1 + sh.2.2.2 ∧ (opState w).spansWait [((opState w).laneAddr 0 0, 256, true)] = false
     ∧ (let l := { SLane.reset with recs := [(0, sh.2.1 + sh.2.2.2)] }
        let s := (opState w).setLane 0 l
        s.issues f0 9 w ∧ (s.lane 0).recs = l.recs ∧ (s.laneShares 0).2.1 + (s.laneShares 0).2.2.2 < sh.2.1 + sh.2.2.2 + 256)) := by
  decide +kernel

theorem witness_ReceiveAndWait :
    ((opState 0x0750000000040000).issues f0 7 0x0750000000040000 ∧ ((opState 0x0750000000040000).fret 0).recv = none
      ∧ bits 0x0750000000040000 55 52 ≠ 7)
    ∧ (let s := one { opFret 0x0750000000040000 with recv := some (5, 0, 1) }
      s.issues f0 7 0x0750000000040000 ∧ (s.fret 0).recv = some (5, 0, 1) ∧ ((s.fret 0).takeIn 5 [7#8] 1).isSome = true
      ∧ ((s.fret 0).takeIn 5 [] 1).isNone = true ∧ s.held 0 0 = false)
    ∧ (one { opFret 0 with recv := some (1, 0, 1), stall := .wait 2 }).fret 0 = { opFret 0 with recv := some (1, 0, 1), stall := .wait 2 }
    ∧ ((opState 0x0C00000000000001).issues f0 0x0C 0x0C00000000000001 ∧ (opState 0x0C00000000000001).waitHolds 0 1 = true)
    ∧ (let s := one { opFret 0x0C00000000000001 with bridgeIssued := 1 }
      s.issues f0 0x0C 0x0C00000000000001 ∧ s.waitHolds 0 1 = false)
    ∧ (let s := (opState 0x0C00000000000003).setLane 0 { SLane.reset with recs := [(0, 256)] }
      s.issues f0 0x0C 0x0C00000000000003 ∧ s.waitHolds 0 3 = false ∧ (s.lane 0).recs ≠ [])
    ∧ (let s := one { opFret 0 with stall := .wait 1 }
      (s.fret 0).run = 1 ∧ s.held 0 0 = false ∧ (s.fret 0).stall = .wait 1 ∧ s.waitHolds 0 1 = true)
    ∧ (let s := one { opFret 0 with stall := .wait 4, barIssued := 1 }
      (s.fret 0).stall = .wait 4 ∧ s.waitHolds 0 4 = false) := by decide +kernel

theorem witness_SwitchAndHalt :
    (let w := 0x0D00000000000000
     (let s := one { opFret w with frame := some (0, 0) }
      s.issues f0 0x0D w ∧ s.unretired 0 = false ∧ s.gated (s.fret 0) = true)
     ∧ (let s := one { opFret w with img1 := img 0x20000 0x11 0x101 0 0 [0], st1 := 2 }
      s.issues f0 0x0D w ∧ s.unretired 0 = false ∧ s.gated (s.fret 0) = false ∧ (s.fret 0).st (s.fret 0).shadow = 2 ∧ (s.fret 0).follow = []
      ∧ s.shadowCurrent 0 = true ∧ opcode (seqWord ((s.fret 0).img (s.fret 0).shadow) 0) ≠ 2)
     ∧ (let s := one { opFret w with st1 := 1 }
      s.issues f0 0x0D w ∧ s.unretired 0 = false ∧ s.gated (s.fret 0) = false ∧ (s.fret 0).st (s.fret 0).shadow = 1)
     ∧ (let s := opState w
      s.issues f0 0x0D w ∧ s.unretired 0 = false ∧ s.gated (s.fret 0) = false ∧ (s.fret 0).st (s.fret 0).shadow = 0)
     ∧ (let f := { opFret w with stall := .switch, st1 := 2 }
      f.run = 1 ∧ (one f).held 0 0 = false ∧ f.stall = .switch ∧ f.st f.shadow = 2 ∧ f.follow = [] ∧ (one f).shadowCurrent 0 = true))
    ∧ (let s := inFlight (opState 0x0D00000000000000)
      s.issues f0 0x0D 0x0D00000000000000 ∧ s.unretired 0 = true)
    ∧ (let s := inFlight (opState 0x0E00000000000000)
      s.issues f0 0x0E 0x0E00000000000000 ∧ s.unretired 0 = true)
    ∧ (let w := 0x0E00000000000000
      (opState w).issues f0 0x0E w ∧ (opState w).unretired 0 = false ∧ ((opState w).fret 0).phase = none
      ∧ (one { opFret w with phase := some ⟨1, some 5, false, 0⟩ }).issues f0 0x0E w) := by decide +kernel

/-- A die whose core 0 has 64 records in its mailbox. -/
def mailFullDie : CDie := { CDie.reset with mail := List.replicate 64 (0, []) }

theorem witness_SummariesAndStaging :
    (let w := 0x0A10000000000001
     (opState w).issues f0 0x0A w ∧ ((opState w).cdie 0).mailFull 0 = false ∧ w % 2 = 1 ∧ (bits w 55 52 >>> 0) % 2 = 1
     ∧ (opState (w - 1)).issues f0 0x0A (w - 1) ∧ (w - 1) % 2 = 0
     ∧ ((opState w).updBoard fun b => { b with c0 := mailFullDie }).issues f0 0x0A w ∧ mailFullDie.mailFull 0 = true
     ∧ (one { opFret w with stall := .summary }).fret 0 = { opFret w with stall := .summary }
     ∧ ((one { opFret w with stall := .summary }).cdie 0).mailFull 0 = false ∧ (one { opFret w with stall := .summary }).held 0 3 = false)
    ∧ (((([(7, [1#8])] : List (Nat × Bytes)).find? fun x => x.1 = (7 : Fin 8).val)) = some (7, [1#8]))
    ∧ (let l := { SLane.reset with recs := [(0, 256)], asked := true }
      let s := State.reset.setLane 0 l
      l.recs.drop l.staged = [(0, 256)] ∧ l.asked = true ∧ s.readFails (s.laneAddr 0 0) 256 = false ∧ s.held (2 + stackDie 0) 7 = false
      ∧ s.spansWait [(s.laneAddr 0 0, 256, false)] = false
      ∧ { s with dram := { s.dram with window := true } }.spansWait [(s.laneAddr 0 0, 256, false)] = true
      ∧ (true || s.readFails (s.laneAddr 0 0) 256) = true) := by decide +kernel

theorem witness_BridgeContributes : (let s := opState 0x0800200000000000
     s.issues f0 8 0x0800200000000000 ∧ s.slotBusy 0 0 = false ∧ s.slotBusy 0 1 = false)
    ∧ (let s := inFlight (opState 0x0800200000000000)
     s.issues f0 8 0x0800200000000000 ∧ s.slotBusy 0 0 = true) := by decide +kernel

theorem witness_BridgeCompletes :
    (let s (l : List Contribution) := State.reset.updBoard fun b => { b with contribs := l }
     let found (l : List Contribution) := (s l).board.contribs.find? fun x => x.die = (0 : Fin 2).val && x.base = (0 : Fin 384).val
     (found [part 0 2 0] = some (part 0 2 0) ∧ (part 0 2 0).extent = 0 ∧ ((s [part 0 2 0]).members (part 0 2 0) 0).length < (part 0 2 0).size)
     ∧ (2 ≤ ((s [part 0 2 0, part 1 2 5]).members (part 0 2 0) 0).length
        ∧ sameOp (part 0 2 0) ((s [part 0 2 0, part 1 2 5]).members (part 0 2 0) 0) = false ∧ (s [part 0 2 0, part 1 2 5]).held 0 2 = false)
     ∧ (2 ≤ ((s [part 0 2 0, part 1 2 0]).members (part 0 2 0) 0).length
        ∧ sameOp (part 0 2 0) ((s [part 0 2 0, part 1 2 0]).members (part 0 2 0) 0) = true
        ∧ (((s [part 0 2 0, part 1 2 0]).members (part 0 2 0) 0).map fun x => x.die * 384 + x.index).Nodup)
     ∧ (1 ≤ ((s [part 0 1 5]).members (part 0 1 5) 0).length ∧ sameOp (part 0 1 5) ((s [part 0 1 5]).members (part 0 1 5) 0) = true)
     ∧ (let q := (one { opFret 0 with run := 1 }).updBoard fun b => { b with contribs := [part 0 1 5], runs := [(1, 1)] }
        (q.fret 0).voicing.vid = (part 0 1 5).vid ∧ SMap.get 0 q.board.runs (0 * 65536 + (part 0 1 5).vid) = (part 0 1 5).runNo + 1)) := by
  decide +kernel

theorem witness_PairwiseCombine : [1, 2, 3].length ≤ pow2 2 ∧ [1, 2, 3] ≠ [] ∧ 1 < ([1, 2, 3].length + 1) / 2 := by decide

theorem witness_VoicingLoad :
    (let s := State.reset
     s.guardWrite 0 0 false = false ∧ s.guardWrite 0 0 true = true ∧ s.held 0 0 = false ∧ s.reg 0 Reg.fretLoadStatus % 2 ≠ 1
     ∧ (s.setReg 0 Reg.fretLoadStatus 1).guardWrite 0 0 true = true ∧ (s.setReg 0 Reg.fretLoadStatus 1).reg 0 Reg.fretLoadStatus % 2 = 1
     ∧ bits 0x181 8 4 = 24 ∧ bits 0x181 1 1 = 0 ∧ bits 0x171 8 4 = 23 ∧ bits 0x181 0 0 = 1 ∧ bits 0x1F3 1 1 = 1)
    ∧ (let s := (one { Fret.reset with st0 := 1 }).updBoard fun b => { b with c0 := { CDie.reset with load := some ⟨0, false, 0, 0, 0, [], [(0, 0)]⟩ } }
      (s.cdie 0).load = some ⟨0, false, 0, 0, 0, [], [(0, 0)]⟩ ∧ (s.fret 0).st 0 = 1 ∧ (s.fret 0).reload.contains 0 = false
      ∧ s.held 0 0 = false ∧ s.spansWait [(0, 16384, false)] = false
      ∧ { s with dram := { s.dram with window := true } }.spansWait [(0, 16384, false)] = true
      ∧ loadCheck (readImage 0 [] (s.imageAt 0)) (s.odNat (od 0x2100 5)) 0 0 true ≠ 0) := by decide +kernel

/-- A host frame with its CRC-32: type, flags, id, class, micro-batch of how many, step, word at 24, body. -/
def frameOf (type flags id cls mb count step : Nat) (body : Bytes) : Bytes :=
  let h := u16 0x4C56 ++ u8 type ++ u8 flags ++ u32 (40 + body.length) ++ u32 id ++ u8 cls ++ u8 mb ++ u8 count ++ u8 0 ++ u64 step ++ u64 0
    ++ body
  h ++ u32 (crc32 h).toNat ++ u32 0
/-- All functions run; bring-up has ended. -/
def upState : State :=
  { State.reset with dict := { Dict.reset with fn := [1, 1, 1, 1, 1] }, rst := { State.reset.rst with phase := 7 } }
/-- A step program without phases. -/
def progState : State := upState.setOd (od 0x2600 0x20) (zeroBytes 32)
/-- An EVENTS frame of one event without features. -/
def eventsFrame (flags id step : Nat) : Bytes := frameOf 1 flags id 0 0 1 step (u16 1 ++ u16 0 ++ u32 0 ++ zeroBytes 32)

theorem witness_PhaseStartAndOverrun :
    (State.reset.dieOut 0 = false ∧ State.reset.held 0 0 = false
     ∧ { State.reset with life := { State.reset.life with units := [(0, dieBlock 0, 0xFFFF)] } }.dieOut 0 = true)
    ∧ (let h := heldOf (eventsFrame 0 1 0) 0 0 0 false
      State.reset.frameAccepted none = true ∧ State.reset.frameAccepted (some (0, 0)) = false
      ∧ { State.reset with adm := { Adm.reset with frames := [h] } }.frameAccepted (some (0, 0)) = true)
    ∧ (let s := { (one { opFret 0 with img1 := img 0x400000 0x11 0x101 0 0 [0], st1 := 2 }) with
        board := { Board.reset with lib := [(0x41, 1)] }, mem := img 0x410000 0x11 0x101 0 0 [0] }
      (s.fret 0).run = 1 ∧ (s.fret 0).awaitsBound 0x41 = false ∧ s.shadowsSet 0 0x41 = true)
    ∧ (let f := opFret 0
      f.run = 1 ∧ f.awaitsBound 1 = true ∧ f.awaitsBound 2 = false ∧ f.shadows 2 = false)
    ∧ (let f := { opFret 0 with img1 := img 0x20000 0x11 0x101 0 0 [0], st1 := 2 }
      f.run = 1 ∧ f.awaitsBound 2 = false ∧ f.shadows 2 = true)
    ∧ (let f := { Fret.reset with img0 := img 0x20000 0x11 0x101 0 0 [0], st0 := 2 }
      f.run = 0 ∧ f.armed = [] ∧ f.st f.shadow = 2 ∧ (Voicing.of (f.img f.shadow)).vid = 2
      ∧ (one f).rungVid (one f).library 2 = 2 ∧ (one f).shadowsSet 0 2 = false ∧ f.follow = [])
    ∧ (let p : FretPhase := ⟨1, some 5, false, 0⟩
      (one { opFret 0 with phase := some p }).fret 0 = { opFret 0 with phase := some p } ∧ p.bound ≠ none ∧ p.overran = false
      ∧ (one { opFret 0 with phase := some p, frame := some (0, 0) }).fret 0 = { opFret 0 with phase := some p, frame := some (0, 0) }) := by
  decide +kernel

/-- Row 24, the spare, is in use where it replaced a row, and gone where it failed. -/
theorem witness_FretFaults :
    (State.reset.logicalRow 0 0 23 = some 23 ∧ State.reset.spareFree 0 0 = true ∧ State.reset.logicalRow 0 0 24 = none
     ∧ State.reset.bypassed 0 0 = none)
    ∧ (let s := { State.reset with life := { State.reset.life with spare := { SpareRec.empty with failed := [(0, 0, 24)] } } }
      s.spareFree 0 0 = false ∧ s.logicalRow 0 0 0 = some 0)
    ∧ (let s := { State.reset with life := { State.reset.life with spare := { SpareRec.empty with frets := [(0, 1)] } } }
      s.spareFree 0 0 = false ∧ s.logicalRow 0 0 0 = none ∧ s.logicalRow 0 0 24 = some 23)
    ∧ (let p : FretPhase := ⟨1, some 5, false, 0⟩
      (one { opFret 0 with phase := some p }).fret 0 = { opFret 0 with phase := some p } ∧ p.bound ≠ none
      ∧ (one { opFret 0 with phase := some p }).bounded 0 0 0 = true ∧ (one (opFret 0)).bounded 0 0 0 = false)
    ∧ (let f := { Fret.reset with run := 2, st0 := 1, last0 := some 0, reload := [0] }
      (one f).held 0 0 = false ∧ ((one f).fret 0).reload = [0] ∧ ((one f).fret 0).reload.contains 1 = false ∧ f.last0 = some 0) := by
  decide +kernel

theorem witness_FretWindow :
    (let a := 0x40000000000
     inWindows a = true ∧ inWindows (a - 1) = false ∧ inWindows (a + 0x3FFFFFFF) = true ∧ inWindows (a + 0x40000000) = false
     ∧ windowPlace a = (some 0, 0) ∧ windowPlace (a + 0x3FFFF) = (some 0, 0x3FFFF) ∧ windowPlace (a + 0x40000) = (some 0, 0x40000)
     ∧ windowPlace (a + 0x87FFC) = (some 0, 0x87FFC) ∧ windowPlace (a + 0x88000) = (some 0, 0x88000)
     ∧ (windowPlace (a + 24 * 0x100000)).1 = none)
    ∧ (windowOk 0x3FFFF 3 = true ∧ windowOk 0x40002 4 = false ∧ windowOk 0x40000 2 = false ∧ windowOk 0x40004 8 = false
      ∧ windowOk 0x40000 8 = true ∧ windowOk 0x87FFC 4 = true ∧ windowOk 0x87FFC 8 = false ∧ windowOk 0x88000 8 = true
      ∧ windowOk 0x98000 3 = true)
    ∧ ((opState 0).held 0 0 = false ∧ (opState 0).windowBusy 0 0x40000 4 = false ∧ (inFlight (opState 0)).windowBusy 0 0x40000 4 = true)
    ∧ (let v := ((opState 0).fret 0).voicing
      ((opState 0).fret 0).active < 2 ∧ 0 < slotsOf v.m v.n * (v.m * v.n)
      ∧ ownsPairs ((spilling 0).fret 0).voicing ((spilling 0).odNat (od 0x2100 5)) (0 / 1) = true)
    ∧ (let y : WindowWait := ⟨0, 0x40000, 4, some 7, 2, 0x40000040000⟩
      let s := State.reset.updBoard fun b => { b with waits := [y] }
      (s.board.waits.find? fun x => x.fret = fretIdx f0 && x.data.isSome = true) = some y
      ∧ (s.board.waits.find? fun x => x.fret = fretIdx f0 && x.data.isSome = false) = none) := by decide +kernel

/-- A pass record of layer 0, forward, at rung 0, and a run of its conversions with `sats` saturations of 100 elements. -/
def pass0 : PassRec := PassRec.blank 0 false 0 0
def runOf (sats : Nat) : ConvRun :=
  { layer := 0, tensor := 0, pass := 0, mb := 0, format := 7, mode := 0, parts := [(0, { ConvStat.empty with elements := 100, sats := sats })]
    hist := [], laddered := true, ladElems := 100, nonzero := true, final := false }
/-- The module with a pass and a conversion run. -/
def passState (p : PassRec) (sats : Nat) : State :=
  let s := (State.reset.updBoard fun b => { b with convs := [runOf sats] }).setOd (od 0x2100 4) [1#8]
  { s with num := { s.num with passes := [p] } }

theorem witness_PassVerdict :
    State.reset.passNo 0 false = none
    ∧ (let s := passState pass0 0
      (s.passStat 0 false).1 ≠ [] ∧ s.held 6 6 = false ∧ s.passNo 0 false = some 0 ∧ s.num.passes[0]? = some pass0 ∧ s.num.repeating.contains 0 = false
      ∧ s.overflows (s.passStat 0 false).2 = false)
    ∧ (let s := passState pass0 100
      s.overflows (s.passStat 0 false).2 = true ∧ pass0.repeatsStep < s.odNat (od 0x2100 4) ∧ pass0.up pass0.current = some 1)
    ∧ (let p := { pass0 with repeatsStep := 1 }
      let s := passState p 100
      s.overflows (s.passStat 0 false).2 = true ∧ ¬ p.repeatsStep < s.odNat (od 0x2100 4))
    ∧ (let s := passState pass0 100
      { s with num := { s.num with repeating := [0] } }.num.repeating.contains 0 = true) := by decide +kernel

/-- The module of rank 1 in a zone of two modules. -/
def twoState : State :=
  ((State.reset.setOd (od 0x2500 3) [0#8, 0#8, 0#8, 2#8, 1#8, 1#8]).setOd (od 0x2500 2) [2#8, 1#8, 1#8]).setOd (od 0x2500 1) (u16 0x400)

/-- What the summed verdict of the one module says at an index, where the whole sum is here. -/
def verdictOf (s : State) (k : Nat) : Option Bool := (((s.contribute 0 s.verdictVector).sumArrives 0 []).sumHere 0).map fun x => anyOf x k

set_option maxRecDepth 100000 in
theorem witness_StepVerdict :
    (let s := passState pass0 0
     s.num.decided ≠ some s.curStep ∧ s.held 6 6 = false ∧ verdictOf s 1 = some false ∧ verdictOf s 2 = some false
     ∧ { s with num := { s.num with decided := some 0 } }.num.decided = some { s with num := { s.num with decided := some 0 } }.curStep)
    ∧ verdictOf (passState { pass0 with survivedNow := true } 0) 1 = some true
    ∧ (twoState.num.decided ≠ some twoState.curStep ∧ verdictOf twoState 1 = none)
    ∧ (let s := (passState { pass0 with backward := true, survivedNow := true } 0).setOd (od 0x2100 0x0D) [0#8]
      s.num.decided ≠ some s.curStep ∧ verdictOf s 1 = some false ∧ verdictOf s 2 = some true ∧ -32 < s.cube
      ∧ s.odNat (od 0x2100 0x0D) = 0 ∧ s.num.halved = false
      ∧ ¬ { s with num := { s.num with halved := true } }.num.halved = false
      ∧ (s.setReg 6 Reg.numCube 0xE0).cube = -32) := by decide +kernel

/-- Table 0 has rows of dimension 32, and the directory one bucket; entry 0 of the bucket stands for row 0 in class 0. -/
def tableState : State :=
  ((State.reset.setOd (od 0x2200 1) (u16 0 ++ u16 0 ++ u16 32 ++ u8 0 ++ u8 0 ++ u64 16 ++ zeroBytes 16)).setOd (od 0x2200 0x11) (u64 64)).setOd
    (od 0x2200 0x10) (u64 0x1000)
def rowState : State := tableState.setDir 0x1000 ⟨0, 0, 0, false, false, false, true, 0x2000⟩

/-- How a row read ends: 0 poison or no memory, 1 missing, 2 found. -/
def readKind (s : State) (row : Nat) : Nat :=
  match s.readRow (Table.of (s.odBytes (od 0x2200 1))) row with | .inl _ => 0 | .inr none => 1 | .inr (some _) => 2

theorem witness_RowReads :
    (rowState.table 0 = some (Table.of (rowState.odBytes (od 0x2200 1))) ∧ readKind rowState 0 = 2 ∧ readKind rowState 1 = 1
      ∧ readKind { rowState with dram := { rowState.dram with poison := [0x80] } } 0 = 0
      ∧ readKind (tableState.setDir 0x1000 ⟨0, 0, 0, false, false, false, true, 0x40000000000⟩) 0 = 0
      ∧ rowState.mappedRange 0x2000 32 = true ∧ rowState.mappedRange 0x40000000000 32 = false
      ∧ rowState.engineHeld 8 = false ∧ rowState.turnOf 0 1 = true ∧ rowState.rowWaits 0 0 = false
      ∧ { rowState with dram := { rowState.dram with window := true } }.rowWaits 0 0 = true
      ∧ 0 ≤ rowState.curStep ∧ rowState.curStep < 1)
    ∧ (let h : HeldRead := ⟨1, 0, 0, 0, 0⟩
      let s := { rowState with emb := { rowState.emb with held := [h] } }
      s.emb.held.filter (fun h => s.heldDue h) = [h] ∧ h.src ≠ s.node ∧ readKind s h.row = 2
      ∧ { h with step := 1 }.step = 1 ∧ s.heldDue { h with step := 1 } = false) := by decide +kernel

/-- A term of micro-batch 0 in MXFP8 E4M3 from the one source, or one of `n`. -/
def aTerm (n : Nat) : ScatterTerm := ⟨0, n, 0, 0, 0, 7, List.replicate 32 0#32⟩
/-- Row 0 of table 0 is listed with `n` terms to meet. -/
def listedState (n : Nat) : State := { tableState with emb := { tableState.emb with rows := [⟨0, 0, 0, n, 0, [(0, 0)]⟩] } }

theorem witness_ScatterTerms :
    (let s := listedState 2
     let d := s.homeDie 0 0
     let t0 := Table.of (s.odBytes (od 0x2200 1))
     d = (0 : Fin 4).val ∧ s.held (2 + d) 8 = false ∧ s.spansWait [(s.odNat (od 0x2200 0x12) + s.emb.work, 48, true)] = false
     ∧ (aTerm 1).source < (aTerm 1).sources ∧ s.emb.closed.contains (d, 0) = false
     ∧ { s with emb := { s.emb with closed := [(0, 0)] } }.emb.closed.contains (d, 0) = true
     ∧ 1 < (aTerm 2).sources ∧ 1 ≠ (aTerm 2).source ∧ s.emb.closed.contains (d, 1) = false
     ∧ (s.emb.queue.any fun x => x.die = d && x.term.source = 1) = false
     ∧ (aTerm 1).sources = 1 ∧ (s.emb.queue.any fun x => x.die = d) = false ∧ s.table 0 = some t0 ∧ t0.table = 0
     ∧ (s.emb.rows.find? fun r => r.is s.curStep 0 0) = some ⟨0, 0, 0, 2, 0, [(0, 0)]⟩
     ∧ (s.emb.rows.find? fun r => r.is s.curStep 0 1) = none
     ∧ (([(0, 0)] : List (Nat × Nat)).any fun l => l.1 = (aTerm 1).mb) = true
     ∧ (([] : List (Nat × Nat)).any fun l => l.1 = (aTerm 1).mb) = false
     ∧ (s.emb.merge.any fun x => x.table = 0 && x.row = 0) = false ∧ ¬ 4096 < s.entriesUsed d + entriesOf t0.dim)
    ∧ ((listedState 1).emb.rows = [⟨0, 0, 0, 1, 0, [(0, 0)]⟩] ∧ (listedState 1).owner 0 0 = (listedState 1).rank)
    ∧ (let s := { listedState 2 with emb := { (listedState 2).emb with merge := [⟨0, 0, 0, 7, 0⟩], ended := [0] } }
      (s.emb.merge.any fun r => r.table = 0 && r.row = 0) = true
      ∧ s.spansWait ((s.emb.merge.filter fun r => r.die = 0).map fun x => (x.at', 16 + s.mergeBytes x, false)) = false
      ∧ s.emb.ended.contains (0 : Fin 4).val = true
      ∧ s.emb.ended.contains (1 : Fin 4).val = false)
    ∧ (let s := { listedState 2 with emb := { (listedState 2).emb with open' := List.replicate 4096 ⟨0, 0, 5, 0, []⟩ } }
      4096 < s.entriesUsed 0 + entriesOf 32) := by decide +kernel

theorem witness_OwnerReduces :
    ((rowState.table (leAt (u16 0 ++ zeroBytes 14) 0 2)).isSome = true ∧ rowState.table (leAt (u16 1 ++ zeroBytes 14) 0 2) = none)
    ∧ (let a : ExRecord := ⟨0, 0, 0, 1, [0#32]⟩
      let b : ExRecord := ⟨1, 0, 0, 1, [0#32]⟩
      let s := { State.reset with emb := { Emb.reset with markers := [0], records := [b, a] } }
      s.emb.done = false ∧ s.emb.markers.contains s.rank = true ∧ ((List.range s.modules).all fun k => s.emb.markers.contains k) = true
      ∧ s.spansWait [(s.odNat (od 0x2200 0x12) + s.emb.work, 4, true)] = false ∧ s.turnOfMsg (s.nodeOfRank 0) queueExchange = true
      ∧ s.turnOfMsg (s.nodeOfRank 0) queueEnd = true
      ∧ a.src < b.src ∧ s.emb.records = [b, a])
    ∧ (let s := (State.reset.setOd (od 0x2500 3) [0#8, 0#8, 0#8, 2#8, 1#8, 1#8]).setOd (od 0x2500 2) [2#8, 1#8, 1#8]
      let s := { s with emb := { Emb.reset with markers := [s.rank] } }
      s.emb.markers.contains s.rank = true ∧ ((List.range s.modules).all fun k => s.emb.markers.contains k) = false) := by
  decide +kernel

theorem witness_HotSetInstalls : State.reset.hotOut (State.reset.homeDie 0 0) = false
    ∧ { State.reset with life := { State.reset.life with units := [(2 + State.reset.homeDie 0 0, 8, 0xFFFF)] } }.hotOut
      (State.reset.homeDie 0 0) = true
    ∧ State.reset.life.spare.banks = [] ∧ (∀ h ∈ State.reset.emb.hot, h.die = State.reset.homeDie 0 0 → h.owner ≠ 0)
    ∧ State.reset.turnOfMsg (State.reset.nodeOfRank 0) queueHot = true
    ∧ (let s := { State.reset with emb := { Emb.reset with install := some ⟨1, 2, 3, 4, 5⟩ } }
      s.emb.install = some ⟨1, 2, 3, 4, 5⟩ ∧ s.emb.push = [] ∧ s.hotEnded = true)
    ∧ State.reset.emb.install = none ∧ twoState.hotEnded = false := by decide +kernel

/-- A voicing image that passes every load check: a 16 × 16 tile in MXFP4, one NOP, with its CRC-32. -/
def goodImg : Img := SMap.set 0 (SMap.setMany 0 [] 0 ([0x10101, 0x777, 0x1011010, 0, 0, 0, 1, 0x7548C6E9].flatMap u64)) 0x40 1

theorem getMany_tail (m : SMap Byte) (n k : Nat) (h : (m.all fun p => decide (p.1 < k)) = true) :
    SMap.getMany 0 m 0 (k + n) = SMap.getMany 0 m 0 k ++ List.replicate n 0 := by
  unfold SMap.getMany
  rw [List.range_add, List.map_append, List.map_map]
  congr 1
  refine List.eq_replicate_iff.mpr ⟨by simp, ?_⟩
  intro b hb
  obtain ⟨i, -, rfl⟩ := List.mem_map.mp hb
  refine SMap.get_none _ _ _ fun p hp e => ?_
  have := of_decide_eq_true (List.all_eq_true.mp h p hp)
  simp only at e
  omega
theorem zeros_step {n : Nat} {c d e : BitVec 32} (h : (List.replicate 512 (0 : Byte)).foldl crcByte c = d)
    (k : (List.replicate n (0 : Byte)).foldl crcByte d = e) : (List.replicate (n + 512) (0 : Byte)).foldl crcByte c = e := by
  rw [Nat.add_comm, List.replicate_add, List.foldl_append, h, k]

set_option maxRecDepth 100000 in
theorem good_zeros : (List.replicate 16319 (0 : Byte)).foldl crcByte 0xDBD6C964#32 = 0x8AB73916#32 := by
  refine zeros_step (d := 0x9A1BF55E#32) (by decide +kernel) ?_
  refine zeros_step (d := 0xD270C984#32) (by decide +kernel) ?_
  refine zeros_step (d := 0x0BE82FBC#32) (by decide +kernel) ?_
  refine zeros_step (d := 0x0BBD3DD0#32) (by decide +kernel) ?_
  refine zeros_step (d := 0x1EF0EE40#32) (by decide +kernel) ?_
  refine zeros_step (d := 0x82820CE7#32) (by decide +kernel) ?_
  refine zeros_step (d := 0x1A9C40AF#32) (by decide +kernel) ?_
  refine zeros_step (d := 0xA192A7FC#32) (by decide +kernel) ?_
  refine zeros_step (d := 0x95F1650D#32) (by decide +kernel) ?_
  refine zeros_step (d := 0x06626C62#32) (by decide +kernel) ?_
  refine zeros_step (d := 0x063C3853#32) (by decide +kernel) ?_
  refine zeros_step (d := 0xCB9CCB72#32) (by decide +kernel) ?_
  refine zeros_step (d := 0xAC9953EC#32) (by decide +kernel) ?_
  refine zeros_step (d := 0x58FEE444#32) (by decide +kernel) ?_
  refine zeros_step (d := 0x422BD383#32) (by decide +kernel) ?_
  refine zeros_step (d := 0xAAB5C318#32) (by decide +kernel) ?_
  refine zeros_step (d := 0x0CD0C387#32) (by decide +kernel) ?_
  refine zeros_step (d := 0x669A2AA3#32) (by decide +kernel) ?_
  refine zeros_step (d := 0x4BE845C3#32) (by decide +kernel) ?_
  refine zeros_step (d := 0x8057FD70#32) (by decide +kernel) ?_
  refine zeros_step (d := 0x7C5A7019#32) (by decide +kernel) ?_
  refine zeros_step (d := 0x14FD1DD4#32) (by decide +kernel) ?_
  refine zeros_step (d := 0x9C6DF30E#32) (by decide +kernel) ?_
  refine zeros_step (d := 0x7DB420AC#32) (by decide +kernel) ?_
  refine zeros_step (d := 0x4C74AB78#32) (by decide +kernel) ?_
  refine zeros_step (d := 0xAD330FE7#32) (by decide +kernel) ?_
  refine zeros_step (d := 0xEAE94273#32) (by decide +kernel) ?_
  refine zeros_step (d := 0x4C4D17C0#32) (by decide +kernel) ?_
  refine zeros_step (d := 0x7E306E7D#32) (by decide +kernel) ?_
  refine zeros_step (d := 0x90012E4C#32) (by decide +kernel) ?_
  refine zeros_step (d := 0x92AB6E41#32) (by decide +kernel) ?_
  decide +kernel

set_option maxRecDepth 100000 in
theorem test_good_image : loadCheck goodImg 0 0 0 false = 0 := by
  have crc : (crc32 (SMap.getMany 0 (goodImg.filter fun p => p.1 < 0x38 || 0x3C ≤ p.1) 0 16384)).toNat = hdr goodImg 7 31 0 := by
    rw [show (16384 : Nat) = 65 + 16319 from rfl, getMany_tail _ 16319 65 (by decide +kernel), crc32, List.foldl_append,
      show (SMap.getMany 0 (goodImg.filter fun p => p.1 < 0x38 || 0x3C ≤ p.1) 0 65).foldl crcByte 0xFFFFFFFF#32 = 0xDBD6C964#32 by decide +kernel]
    rw [good_zeros]
    decide +kernel
  unfold loadCheck
  simp only [crc]
  decide +kernel

/-- That image stands at address 0, and fret 0's shadow loads it for the pass of layer 0 that repeats. -/
def goodState : State :=
  let s := ((passState pass0 0).setOd (od 0x2100 5) [0#8]).setLane 0 { SLane.reset with mark := some ⟨0, false, [0], [], 0⟩ }
  let s := (s.setFret 0 { Fret.reset with st0 := 1 }).updBoard fun b =>
    { b with c0 := { CDie.reset with load := some ⟨0, false, 0, 0, 0, [], [(0, 0)]⟩ }, lib := [(0, 1)] }
  { s with mem := goodImg, num := { s.num with repeating := [0] } }
theorem witness_goodImage : loadCheck goodImg 0 0 0 false = 0 ∧ goodState.imageAt 0 = goodImg ∧ goodState.odNat (od 0x2100 5) = 0
    ∧ (goodState.poisoned 0 16384 || !goodState.mappedRange 0 16384) = false ∧ (goodState.fret 0).st 0 = 1
    ∧ (Voicing.of goodImg).tableSet = 0 ∧ goodState.passFrets 0 false = [0] ∧ (goodState.lane 0).mark = some ⟨0, false, [0], [], 0⟩
    ∧ goodState.rungVid goodState.library 0 = 0 ∧ goodState.imageOf 0 0 = some 0 :=
  ⟨test_good_image, by decide +kernel⟩

/-- Entry 0 of the parameter map: one element, halves of 1,024 bytes from 0x1000 up, due in every step; `flags` 2 keeps its gradient. -/
def paramState (flags every : Nat) : State :=
  State.reset.setOd (od 0x2300 1)
    (u16 0 ++ u8 0 ++ u8 0 ++ u8 0 ++ u8 flags ++ u8 0 ++ u8 0 ++ u32 1 ++ u32 1 ++ u64 0x1000 ++ u64 0x400 ++ u64 0 ++ u16 every ++ u16 0
      ++ zeroBytes 20)

/-- Fret 0 streams against the tile of the working copy of that entry, in MXFP8 E4M3; every tile is sampled. -/
theorem witness_StreamWatched :
    let q : SampleAt := ⟨0, 0, 0, 0, 0⟩
    let w := 0x0300002000000000
    let s := ((State.reset.setOd (od 0x2100 8) (u32 1)).setOd (od 0x2100 7) (u32 1)).setOd (od 0x2300 1)
      (u16 0 ++ u8 0 ++ u8 0 ++ u8 7 ++ u8 0 ++ u8 0 ++ u8 0 ++ u32 1 ++ u32 1 ++ u64 0x1000 ++ u64 0x400 ++ u64 0 ++ u16 1 ++ u16 0 ++ zeroBytes 20)
    let p := (s.params[0]?).getD (Param.of [])
    let B := s.workTile p q 1 1
    let s := s.setFret 0 { fretOf (img 0x10000 0x77 0x20000101 0 0 [w]) with bankA := ⟨2, false, B⟩ }
    let fr := s.fret 0
    s.issues f0 3 w ∧ bits w 55 52 = 0 ∧ spillDue fr fr.voicing (s.odNat (od 0x2100 5)) 0 = false ∧ s.slotBusy 0 0 = false
    ∧ fr.current.tile = B ∧ s.sampled fr q.rowTile q.colTile = true ∧ s.weights fr.voicing B q = some p ∧ s.masterFails p q B = none := by
  decide +kernel

def decided (s : State) : State := { s with num := { s.num with decided := some s.curStep } }
def theParam (s : State) : Param := (s.params[0]?).getD (Param.of [])

theorem witness_LayerUpdate :
    ((paramState 0 1).params[0]? = some (theParam (paramState 0 1)) ∧ (paramState 0 1).params[1]? = none
     ∧ ¬ (paramState 0 1).num.decided = some (paramState 0 1).curStep)
    ∧ (let s := decided (paramState 0 1)
      s.num.decided = some s.curStep ∧ s.upd.handled.contains 0 = false ∧ s.upd.full.contains (theParam s).die = false ∧ s.num.skip = false
      ∧ s.held (2 + (theParam s).die) 9 = false ∧ s.spansWait (s.layerSpans (theParam s)) = false
      ∧ s.normReady (theParam s).layer = true ∧ (inFlight s).curStep = s.curStep
      ∧ (s.updBoard fun b => { b with contribs := [{ part 0 1 6 with pass := 1, norm := true }] }).normReady (theParam s).layer = false
      ∧ (theParam s).keep = false ∧ (theParam s).due s.curStep = true ∧ s.readFails ((theParam s).half (s.liveHalf 0)) (theParam s).halfBytes = false
      ∧ (theParam (paramState 0 0)).due s.curStep = false
      ∧ { s with dram := { s.dram with poison := [0x40] } }.readFails ((theParam s).half (s.liveHalf 0)) (theParam s).halfBytes = true
      ∧ { s with upd := { s.upd with passed := [0] } }.upd.passed.contains (theParam s).layer = true
      ∧ { s with upd := { s.upd with failed := [0] } }.upd.failed.contains (theParam s).layer = true)
    ∧ (let s := decided (paramState 2 1)
      let s1 := { s with upd := { s.upd with rerun := 1 } }
      let p := theParam s
      p.keep = true ∧ s1.upd.rerun = 1 ∧ (s1.keptGrad p).isNone = true
      ∧ ((s1.keep p 0 [0x3F800000#32]).keptGrad p).isSome = true) := by decide +kernel

/-- The step is decided, and row 0 of table 0 was reduced. -/
def reducedState (s : State) : State :=
  decided { s with emb := { s.emb with reduced := [⟨s.homeDie 0 0, 0, 0, 1, 0x10000⟩], done := true } }

theorem witness_RowUpdate :
    (let s := reducedState rowState
     let sum := s.emb.reduced.find? fun r => r.table = 0 && r.row = 0
     (s.table 0).isSome = true ∧ sum.isSome = true ∧ s.num.decided = some s.curStep ∧ s.emb.done = true
     ∧ s.held (2 + s.homeDie 0 0) 9 = false
     ∧ s.spansWait (s.rowUpdateSpans (Table.of (s.odBytes (od 0x2200 1))) ⟨s.homeDie 0 0, 0, 0, 1, 0x10000⟩) = false
     ∧ s.upd.rowsDone.contains (0, 0) = false ∧ s.upd.full.contains (s.homeDie 0 0) = false ∧ s.num.skip = false ∧ (s.upd.shards.find? fun x => x.1 = 0) = none
     ∧ (s.dirFind 0 0).isSome = true ∧ s.readFails 0x2000 32 = false ∧ s.rowReadFails (Table.of (s.odBytes (od 0x2200 1))) 0 = none
     ∧ ({ s with dram := { s.dram with poison := [0x400] } }.rowReadFails (Table.of (s.odBytes (od 0x2200 1))) 0).isSome = true ∧ (s.upd.journal.find? fun j => j.table = 0 && j.row = 0) = none
     ∧ { s with dram := { s.dram with poison := [0x80] } }.readFails 0x2000 32 = true
     ∧ (({ s with upd := { s.upd with shards := [(0, false)] } }.upd.shards.find? fun x => x.1 = 0) = some (0, false)))
    ∧ (let s := reducedState tableState
      s.dirFind 0 0 = none ∧ (s.emb.reduced.find? fun r => r.table = 0 && r.row = 0).isSome = true)
    ∧ (let s := (reducedState rowState).setOd (od 0x2300 0x11) (u64 0)
      s.journalRow 0 0 false = none)
    ∧ (let s := (reducedState rowState).setOd (od 0x2300 0x11) (u64 0x10000)
      (s.journalRow 0 0 false).isSome = true ∧ s.reg (2 + s.homeDie 0 0) Reg.updJournalBytes = 0
      ∧ { s with upd := { s.upd with journal := [⟨0, 0, 0, 0⟩] } }.upd.journal.find? (fun (j : JRec) => j.table = 0 && j.row = 0) = some ⟨0, 0, 0, 0⟩) := by
  decide +kernel

theorem witness_ModuleApplied :
    State.reset.refreshDue 0 = false ∧ State.reset.isApplied = false ∧ (decided State.reset).isApplied = true ∧ (decided State.reset).upd.voted = false
    ∧ (decided State.reset).stepWaits = false
    ∧ { decided State.reset with dram := { Dram.reset with window := true } }.stepWaits = true := by decide +kernel

/-- Soundness as a check. -/
def soundCheck (s : State) : Bool :=
  Memory.wf s.mem && SMap.wf 0 s.regs && SMap.wf Fret.reset s.frets && SMap.wf SLane.reset s.slanes
    && s.upd.recs.length == 2 && s.fab.ports.length == 6 && s.adm.counts.length == 26 && decide (s.dict.log.length ≤ 8192)
    && s.dict.fn.length == 5 && s.slow.length == 3 && decide (s.rst.records.length ≤ 64) && decide (s.rst.phase ≤ 7)
    && s.rst.dieState.length == 8 && s.rst.dieTarget.length == 8 && decide (s.life.log.length ≤ 65536)
theorem sound_of_check {s : State} (h : soundCheck s = true) : s.sound := by
  unfold soundCheck at h
  simp only [Bool.and_eq_true, beq_iff_eq, decide_eq_true_eq] at h
  intro p
  cases p <;> simp only [State.soundAt] <;> simp_all
theorem reset_sound : State.reset.sound := sound_of_check (by decide +kernel)

/-- The module has applied the step, and has voted. -/
def votedState : State := { State.reset with upd := { Upd.reset with voted := true, applied := true } }
def castState : State := votedState.contribute 1 votedState.voteVector
theorem cast_sound : castState.sound := sound_of_check (by decide +kernel)

theorem witness_CommitVote : castState.sound
    ∧ ((castState.sumTree 1).cast = true ∧ castState.upd.voted = true ∧ castState.upd.lost = none ∧ castState.stepWaits = false
      ∧ castState.upd.wrote.Nodup ∧ castState.rank = 0 ∧ castState.upd.late = none ∧ castState.upd.snap = none
      ∧ { castState with upd := { castState.upd with late := some 1 } }.upd.late = some (castState.curStep + 1)
      ∧ ((castState.sumArrives 1 []).sumHere 1).map (fun x => decide (countOf x 1 = Fp.ofNat castState.modules)) = some true
      ∧ (let s := State.reset.setFault 4
        (s.sumTree 1).cast = true ∧ s.upd.voted = true
        ∧ ((s.sumArrives 1 []).sumHere 1).map (fun x => decide (countOf x 1 = Fp.ofNat s.modules)) = some false)
      ∧ (let s := twoState.contribute 1 twoState.voteVector
        (s.sumTree 1).cast = true ∧ ((s.sumArrives 1 []).sumHere 1).isNone = true)
      ∧ (votedState.sumTree 1).cast = false ∧ castState.upd.journal = [])
    ∧ State.reset.upd.voted = false :=
  ⟨cast_sound, by decide +kernel, by decide +kernel⟩

theorem witness_VoteTimeLimit : State.reset.sound
    ∧ (State.reset.upd.lost = none ∧ State.reset.stepWaits = false ∧ State.reset.rank = 0 ∧ ¬ (State.reset.syncObj 1 / 4 = State.reset.curStep ∧ State.reset.syncObj 1 % 4 ≠ 0)
      ∧ { State.reset with upd := { Upd.reset with lost := some 0 } }.upd.lost ≠ none)
    ∧ (twoState.rank = 1 ∧ twoState.upd.lost = none ∧ twoState.curStep = 0)
    ∧ ((1 : Nat) / 4 = 0 ∧ 1 % 4 = 1) ∧ ((2 : Nat) / 4 = 0 ∧ 1 < 2 % 4) ∧ ¬ ((0 : Nat) / 4 = 0 ∧ 0 % 4 ≠ 0) :=
  ⟨reset_sound, by decide +kernel, by decide +kernel, by decide, by decide, by decide⟩

theorem witness_RerunAndCheckpoint : State.reset.sound
    ∧ (let s := { State.reset with upd := { Upd.reset with rerun := 3 }, dict := { Dict.reset with fn := [1, 1, 1, 1, 0] } }
      s.upd.rerun = 3 ∧ s.fnState 0 = 1 ∧ State.reset.upd.rerun < 3)
    ∧ (let n : Snap := ⟨1, some 0, none, [], [], 0⟩
      let s := { State.reset with upd := { Upd.reset with snap := some n } }
      s.upd.snap = some n ∧ n.step ≠ none ∧ State.reset.upd.snap = none) :=
  ⟨reset_sound, by decide +kernel, by decide +kernel⟩

theorem witness_MemoryRequest :
    (let s := State.reset
     let r : MemReq := ⟨0, 0, none, 64, false, false, false, .own⟩
     0 / 0x1000000000000000 = 0 ∧ bits 0 59 45 = 0 ∧ s.spansWait r.spans = false
     ∧ { s with dram := { s.dram with window := true } }.spansWait r.spans = true
     ∧ { s with dram := { s.dram with training := [(0, 0, 0)] } }.spansWait r.spans = true
     ∧ { s with dram := { s.dram with queue := [⟨0, 32, some [1#8], 0, false, false, false, .own⟩] } }.spansWait r.spans = true
     ∧ inWindows 0 = false ∧ inHotWindow 0 64 = false ∧ s.mappedRange 0 64 = true ∧ s.mappedRange 0x6BFFFFFFC0 64 = true
     ∧ s.mappedRange 0x6C00000000 64 = false ∧ s.mappedRange 0x10000000000 64 = true ∧ s.poisoned 0 64 = false
     ∧ 0 + 1 < s.odNat (od 0x2400 5) ∧ SMap.get 0 s.dram.rowErrs (placeOf 0).rowKey = 0
     ∧ (s.dram.remaps.any fun r => r.isRow (placeOf 0)) = false)
    ∧ (inWindows 0x40000000000 = true ∧ windowPlace 0x40000040000 = (some 0, 0x40000) ∧ windowOk 0x40000 4 = true ∧ windowOk 0x40000 2 = false
      ∧ (opState 0).windowBusy 0 0x40000 4 = false ∧ (inFlight (opState 0)).windowBusy 0 0x40000 4 = true
      ∧ inHotWindow 0x40100000000 64 = true ∧ inWindows 0x40100000000 = false ∧ inHotWindow 0x40105FFFFC0 64 = true
      ∧ inHotWindow 0x40106000000 64 = false ∧ State.reset.chanBusy 0x40100000000 64 = false)
    ∧ (let s := State.reset.setOd (od 0x2400 5) (u32 1)
      s.odNat (od 0x2400 5) ≤ 0 + 1
      ∧ { s with dram := { s.dram with remaps := [⟨0, 0, 0, 0, 0, false, .spare⟩] } }.dram.remaps.any (fun r => r.isRow (placeOf 0)) = true)
    ∧ { State.reset with dram := { Dram.reset with poison := [0] } }.poisoned 0 64 = true
    ∧ (let s := twoState
      bits (0x800 * 0x200000000000) 59 45 = 0x800 ∧ s.inZone 0 = true ∧ s.inZone 0x800 = false ∧ bits (0x400 * 0x200000000000) 59 45 = s.node
      ∧ 0x800 * 0x200000000000 / 0x1000000000000000 = 0 ∧ 0x800 ≠ s.node)
    ∧ (let a := 0x1000000000000000 + 0x400 * 0x200000000000
      a / 0x1000000000000000 = 1 ∧ bits a 59 45 = twoState.node ∧ a % 0x200000000000 = 0 ∧ 0xFFF8 % 8 = 0 ∧ ¬ 0xFFFC % 8 = 0
      ∧ 0x10000 ≤ 0x10000)
    ∧ (let a : MemReq := ⟨0, 0, none, 2048, false, false, false, .own⟩
      let b : MemReq := ⟨3, 64, none, 32, false, false, false, .own⟩
      nextRequest [b, a] 0 = some b ∧ nextRequest [⟨0, 0, none, 32, false, false, false, .own⟩, b] 0 ≠ some b
      ∧ (∀ x ∈ [b, a], x.cls ≤ 3 ∧ ∀ y ∈ [b, a], x ≠ y → x.meets y = false)) := by decide +kernel

theorem spare_of_bank (p : Place) (h : 0 < spareRows p.tier) (k : Config.spareBank p.tier 0 ≠ p.bank) :
    (State.reset.freeSpare p).isSome = true := by
  unfold State.freeSpare
  rw [List.find?_isSome]
  refine ⟨0, List.mem_range.mpr h, ?_⟩
  simp [k, State.spareUnused, show State.reset.dram.remaps = [] from rfl]

/-- Whichever banks the part's spares stand in, some row has a free spare. -/
theorem witness_MemoryRequest_spare : ∃ off, (State.reset.freeSpare (placeOf off)).isSome = true := by
  by_cases h : Config.spareBank 0 0 = (placeOf 0).bank
  · refine ⟨0x05000000000, spare_of_bank _ (by decide +kernel) ?_⟩
    rw [show (placeOf 0x05000000000).tier = 0 by decide +kernel, h]
    decide +kernel
  · exact ⟨0, spare_of_bank _ (by decide +kernel) (by rwa [show (placeOf 0).tier = 0 by decide +kernel])⟩

theorem witness_MemoryUpkeep :
    (let s := State.reset
     let win := { s with dram := { s.dram with window := true } }
     let tr := { s with dram := { s.dram with training := [(0, 0, 0)] } }
     (s.dram.window || s.dram.training.any fun q => q.1 = 0 && q.2.1 = 0) = false ∧ win.dram.window = true ∧ s.dram.queue = []
     ∧ (tr.dram.training.any fun q => q.1 = 0 && q.2.1 = 0) = true ∧ s.dram.training = []
     ∧ (s.dram.poison.any fun q => (placeOf (64 * q)).tier = 0 && s.mapped (64 * q)) = false
     ∧ s.laneFree (0, 0, 0, 5) = true ∧ s.laneFree (1, 0, 0, 5) = false ∧ s.dram.failed.contains (1, 0) = false
     ∧ { s with dram := { s.dram with lanes := [(0, 0, 5), (0, 0, 6)] } }.laneFree (0, 0, 0, 7) = false
     ∧ s.rst.phase < 7 ∧ { s with rst := { s.rst with phase := 7 } }.rst.phase = 7)
    ∧ (let r : MemReq := ⟨0, 0, none, 64, false, false, false, .own⟩
      let s := { State.reset with dram := { Dram.reset with window := true, queue := [r] } }
      s.dram.window = true ∧ s.dram.queue = [r] ∧ r.cls ≤ 3 ∧ s.dram.training = [] ∧ s.anyMemHeld = false)
    ∧ (let s := (State.reset.setOd (od 0x2400 0x0A) (u32 1)).setOd (od 0x2400 8) (u32 1)
      s.nextWindow - s.time ≤ s.odNat (od 0x2400 0x0A) * 1000 ∧ s.odNat (od 0x2400 0x0A) ≠ 0)
    ∧ ¬ (State.reset.setOd (od 0x2400 0x0A) (u32 0)).odNat (od 0x2400 0x0A) ≠ 0 := by decide +kernel

/-- A ring of two modules in dimension 0, with its ports in a state. -/
def ringState (st : Nat) : State :=
  let s := (twoState.setOd (od 0x2500 2) [2#8, 1#8, 1#8])
  { s with fab := { s.fab with ports := List.replicate 6 { Port.reset with state := st } } }

/-- A packet of an operation, from node 0. -/
def pktOf (op : Nat) : Packet := ⟨0x400, 0, 0, 0, op, 0, 0, zeroBytes 6⟩

theorem witness_RingJoining : (ringState 1).sound
    ∧ ((ringState 1).ringUsed 0 = true ∧ ((ringState 1).port 0).state = 1 ∧ ((ringState 1).port 3).state = 1)
    ∧ (State.reset.ringUsed 0 = false ∧ ((ringState 2).port 0).state = 2 ∧ ((ringState 0).port 0).state = 0 ∧ (ringState 0).ringUsed 0 = true
      ∧ (ringState 0).rst.phase < 5 ∧ 5 ≤ { (ringState 0).rst with phase := 7 }.phase)
    ∧ (let s := ringState 1
      (s.carryLanes 0 ⟨0xFFFFFF, 0xFFFFFF⟩).2 = true ∧ (s.carryLanes 3 ⟨0xFFFFFF, 0xFFFFFF⟩).2 = true
      ∧ (s.carryLanes 0 ⟨0xFFFFF0, 0xFFFFFF⟩).2 = true ∧ (s.carryLanes 0 ⟨0xFFFFE0, 0xFFFFFF⟩).2 = false
      ∧ (s.carryLanes 3 ⟨0xFFFFFF, 0x0FFFFE⟩).2 = false)
    ∧ (let s := { ringState 2 with fab := { (ringState 2).fab with ports := (ringState 2).fab.ports.set 1 { Port.reset with state := 4 } } }
      (s.port 1).state = 4 ∧ (s.port 0).state = 2 ∧ (∀ k, k < 6 → (ringState 2 |>.port k).state ≠ 4))
    ∧ (let s := ringState 2
      let z := s.zoneWord
      s.inZone (s.neighbour 0) = true ∧ z % 0x1000000 = s.zoneWord % 0x1000000 ∧ z + 0x1000000 ≠ z
      ∧ (z + 0x1000000) % 0x1000000 = z % 0x1000000 ∧ (z + 1) % 0x1000000 ≠ z % 0x1000000)
    ∧ (let s := (ringState 2).setOd (od 0x2500 3) [0#8, 0#8, 0#8, 1#8, 1#8, 1#8]
      s.inZone 0x400 = false ∧ ({ s.port 0 with skip := true }).skip = true)
    ∧ ((ringState 3).port 0).state = 3 :=
  ⟨sound_of_check (by decide +kernel), by decide +kernel, by decide +kernel, by decide +kernel, by decide +kernel, by decide +kernel, by decide +kernel,
    by decide⟩

theorem witness_PortFaults : (ringState 3).sound
    ∧ (((ringState 3).port 0).state = 3 ∧ ((ringState 4).port 0).state = 4 ∧ ((ringState 5).port 0).state = 5)
    ∧ ((⟨0, 1, false⟩ : PortTrouble).errors ≤ (ringState 3).odNat (od 0x2500 0x0A)
      ∧ (ringState 3).odNat (od 0x2500 0x0A) < (⟨0, (ringState 3).odNat (od 0x2500 0x0A) + 1, false⟩ : PortTrouble).errors
      ∧ (⟨0, 0, true⟩ : PortTrouble).lost = true)
    ∧ (((ringState 4).carryLanes 0 ⟨0xFFFFFF, 0xFFFFFF⟩).2 = true ∧ ((ringState 4).carryLanes 0 ⟨0, 0⟩).2 = false)
    ∧ ((ringState 3).fab.zoneFault = false ∧ (ringState 3).fab.inbox = [] ∧ (ringState 3).fnState 0 = 0
      ∧ (let q : Packet := ⟨0x400, 0, 0, 0, 7, 0, 0, u32 0 ++ u8 0 ++ u8 queueFault⟩
        let s := { ringState 3 with fab := { (ringState 3).fab with inbox := [q] } }
        let e := { ringState 3 with fab := { (ringState 3).fab with inbox := [pktOf 6, q] } }
        (s.fab.inbox.find? fun q => q.op = 7 && leAt q.data 5 1 = queueFault) = some q ∧ s.turnOfMsg q.src queueFault = true
        ∧ (e.fab.inbox.find? fun q => q.op = 7 && leAt q.data 5 1 = queueFault) = some q ∧ e.turnOfMsg q.src queueFault = false))
    ∧ (let s := { ringState 3 with dict := { (ringState 3).dict with fn := [1, 1, 1, 1, 0] } }
      s.fnState 0 ≠ 0 ∧ s.rank ≠ 0)
    ∧ (let s := { State.reset with dict := { Dict.reset with fn := [1, 1, 1, 1, 0] } }
      s.fab.zoneFault = false ∧ s.fnState 0 ≠ 0 ∧ s.rank = 0 ∧ s.modules = 1
      ∧ ({ castState with dict := s.dict }.sumTree 1).cast = true ∧ ¬ (s.syncObj 1 / 4 = s.curStep ∧ s.syncObj 1 % 4 = 1))
    ∧ { State.reset with fab := { Fab.reset with zoneFault := true } }.fab.zoneFault = true :=
  ⟨sound_of_check (by decide +kernel), by decide +kernel, by decide +kernel, by decide +kernel, by decide +kernel, by decide +kernel, by decide +kernel,
    by decide +kernel⟩

/-- Port 0 joined, with a packet that waits and one in its replay buffer. -/
def linkState (g : Port → Port) : State :=
  let s := ringState 3
  { s with fab := { s.fab with ports := s.fab.ports.modify 0 g } }
def pkt : Packet := ⟨0x400, 0, 0, 0, 7, 0, 0, [1#8]⟩

/-- Fault injection on every port. -/
def injecting (s : State) : State :=
  { (s.setOd (od 0x2580 1) (u32 1)).setOd (od 0x2580 2) (u32 0xFF) with dict := { ((s.setOd (od 0x2580 1) (u32 1)).setOd (od 0x2580 2) (u32 0xFF)).dict with fn := [0, 0, 1, 0, 0] } }

theorem witness_LinkPackets : soundCheck (linkState id) = true
    ∧ (let s := linkState fun p => { p with queue := [pkt] }
      let s1 := s.updPort 0 fun p => { p with slot := (p.slot + 1) % 64 }
      (s.port 0).state = 3 ∧ (s.port 0).ask = none ∧ s1.nextPacket 0 = some pkt ∧ s.injects 0 = false ∧ (s.port 0).holdBack = []
      ∧ (((linkState id).updPort 0 fun p => { p with slot := (p.slot + 1) % 64 }).nextPacket 0).isNone = true)
    ∧ ((injecting (linkState fun p => { p with queue := [pkt] })).injects 0 = true)
    ∧ ((linkState fun p => { p with ask := some 0 }).port 0).ask = some 0
    ∧ (let bs := envelope pkt 0
      let o := openEnvelope bs
      o.2.2 = true ∧ o.1.cls = 0 ∧ o.2.1 = 0 ∧ (openEnvelope (zeroBytes 14)).2.2 = false ∧ (openEnvelope (envelope pkt 1)).2.1 ≠ 0
      ∧ (openEnvelope (envelope { pkt with cls := 3 } 0)).1.cls = 3 ∧ badSync o.1 = false ∧ o.1.op ≠ 8
      ∧ badSync { pkt with op := 6, data := u32 0 ++ u8 0 ++ u8 9 } = true)
    ∧ (let ahead := fun (s : State) (q : Packet) => let next := SMap.get 0 s.fab.heard q.src
        decide (next ≠ 0 ∧ q.pseq ≠ next - 1 ∧ (q.pseq + 65536 - (next - 1)) % 65536 < 32768)
      let s := { linkState id with fab := { (linkState id).fab with heard := [(0, 1)], early := [{ pkt with pseq := 1 }] } }
      ahead s { pkt with pseq := 1 } = true ∧ ahead s pkt = false ∧ ahead (linkState id) pkt = false ∧ (linkState id).fab.early = []
      ∧ ∃ q ∈ s.fab.early, q.src = pkt.src ∧ q.pseq = (pkt.pseq + 1) % 65536)
    ∧ (let s := linkState id
      s.routePort s.node s.node = none ∧ (s.routePort s.node 0).isSome = true ∧ (s.port 0).boundary = false
      ∧ ((linkState fun p => { p with boundary := true }).port 0).boundary = true)
    ∧ (let s := linkState fun p => { p with replay := [⟨5, [1#8], 0, false⟩] }
      replayFrom 5 (s.port 0).replay ≠ [] ∧ replayFrom 6 (s.port 0).replay = [] ∧ (s.port 0).boundary = false ∧ (s.port 0).holdBack = []
      ∧ 1 < s.odNat (od 0x2500 0x0B) ∧ (s.setOd (od 0x2500 0x0B) [1#8]).odNat (od 0x2500 0x0B) ≤ 1) := by decide +kernel

theorem witness_HallTime : soundCheck (linkState id) = true
    ∧ (let s := linkState id
      (s.port 0).state = 3 ∧ s.timeLocked = false ∧ ((ringState 1).port 0).state ≠ 3)
    ∧ (let s := (linkState id).setReg 6 Reg.zfTimeStatus 0x8000000000000000
      s.timeLocked = true ∧ s.timeParent = 0 ∧ s.timeParent < 6)
    ∧ ((linkState id).setReg 6 Reg.zfTimeStatus 0x6000000000000000).timeParent = 6
    ∧ (let s := (linkState id).setOd (od 0x2500 0x10) (u16 0)
      s.node ≠ s.odNat (od 0x2500 0x10) ∧ s.timePorts = [0, 3] ∧ s.timePort = some 0 ∧ (s.port 3).state = 3 ∧ (ringState 1).timePort = none
      ∧ s.nextParent 0 = some 3 ∧ (ringState 1).nextParent 0 = none
      ∧ (s.setReg 6 Reg.zfTimeStatus 0x8000000000000000).nextParent (s.setReg 6 Reg.zfTimeStatus 0x8000000000000000).timeParent = some 3
      ∧ (s.setOd (od 0x2500 0x10) (u16 0x400)).timePorts = [])
    ∧ (let s := { linkState id with fab := { (linkState id).fab with lostAt := some (0, 5) } }
      s.fab.lostAt = some (0, 5) ∧ (s.port 5).state ≠ 5 ∧ s.fnState 2 ≠ 1
      ∧ { s with dict := { s.dict with fn := [0, 0, 1, 0, 0] } }.fnState 2 = 1 ∧ (linkState id).fab.lostAt = none) := by decide +kernel

theorem witness_RemoteOperations :
    (let s := ringState 3
     s.remoteRange 0 256 32 = true ∧ 256 % 32 = 0 ∧ s.remoteRange 0x6C00000000 32 32 = false ∧ s.remoteRange 0 0 32 = false
     ∧ s.remoteRange 0x6BFFFFFFF8 8 8 = true ∧ s.remoteRange 0x6BFFFFFFFC 4 4 = true ∧ s.poisoned 0 256 = false
     ∧ { s with dram := { s.dram with poison := [3] } }.poisoned 0 256 = true
     ∧ s.inZone 0 = true ∧ 0 ≠ s.node ∧ bits 0 59 45 = 0 ∧ bits (0x400 * 0x200000000000) 59 45 = s.node
     ∧ (s.routePort s.node s.node).isNone = true ∧ (s.routePort s.node 0).isSome = true
     ∧ s.turnOf 0 1 = true ∧ s.spansWait [(0, 256, false)] = false ∧ s.spansWait [(0, 32, false), (32, 32, true)] = false
     ∧ { s with dram := { s.dram with window := true } }.spansWait [(0, 256, false)] = true
     ∧ (let e := { s with fab := { s.fab with inbox := [pktOf 6] } }
       e.turnOf 0 1 = false ∧ e.turnOf 0 6 = true ∧ e.turnOfMsg 0 5 = false ∧ (e.fab.inbox.find? fun p => p.src = 0 && p.op ≠ 8) = some (pktOf 6))
     ∧ s.turnOfMsg 0 5 = true ∧ s.poisonIn 0 256 = [] ∧ { s with dram := { s.dram with poison := [3] } }.poisonIn 0 256 = [3])
    ∧ (let s := { State.reset with fab := { Fab.reset with copies := [⟨0, 7, 0, 0⟩] } }
      (s.fab.copies.find? fun j => j.id = 7 && j.left = 0) = some ⟨0, 7, 0, 0⟩ ∧ (s.fab.copies.find? fun j => j.id = 8 && j.left = 0) = none) := by
  decide +kernel

theorem witness_SyncObjects :
    (State.reset.rank = 0 ∧ (ringState 3).rank ≠ 0 ∧ 0 ≤ State.reset.syncObj 0 ∧ State.reset.syncObj 0 < 1
      ∧ State.reset.fab.waits.length < 256 ∧ State.reset.held 6 13 = false ∧ (ringState 3).turnOf 0 6 = true
      ∧ { ringState 3 with fab := { (ringState 3).fab with inbox := [pktOf 1] } }.turnOf 0 6 = false)
    ∧ (let w : Waiter := ⟨0, 0, 0, 1#64, 0, false⟩
      let s := { State.reset with fab := { Fab.reset with waits := List.replicate 256 w } }
      256 ≤ s.fab.waits.length ∧ s.fab.waits[255]? = some w ∧ s.fab.waits[256]? = none ∧ s.syncObj w.obj < w.value.toNat
      ∧ { w with value := 0#64 }.value.toNat ≤ s.syncObj w.obj) := by decide +kernel

theorem witness_StepUpdatesAndReplies :
    (let s := ringState 3
     (s.fab.inbox.find? fun p => p.op = 6 && leAt p.data 5 1 = 16) = none ∧ childLevels s.modules s.rank = [] ∧ childLevels 2 0 ≠ [])
    ∧ (let p : Packet := ⟨0, 0, 1, 0, 6, 0, 0, u32 0 ++ u8 0 ++ u8 16⟩
      ([p].find? fun p => p.op = 6 && leAt p.data 5 1 = 16) = some p)
    ∧ (let r (q : Purpose) (ph : Bool) : Request := ⟨7, 0, 1, 0, ph, q⟩
      ([r .ack false].any (fun r => r.purpose = .ack)) = true ∧ ([r .row true].find? fun r => r.id = 7) = some (r .row true)
      ∧ ([r .row true].find? fun r => r.id = 8) = none ∧ (r (.record 0) false).purpose = .record State.reset.curStep
      ∧ State.reset.turnOf 0 0 = true ∧ { State.reset with fab := { Fab.reset with inbox := [pktOf 6] } }.turnOf 0 0 = false ∧ (r (.copy 1) false).purpose = .copy 1) := by
  decide +kernel

theorem witness_BridgePackets :
    (let t : TreeOp := ⟨0, 0, 0, 0, 0, 0, 1, 1, [(0, 0, [])], [(0, [])], false⟩
     let s := { State.reset with fab := { Fab.reset with tree := [t] } }
     (s.fab.tree.find? fun t => t.is 0 0 0 0 0) = some t ∧ t.op ≠ 1 ∧ t.down.any (fun p => p.1 = 0) = true
     ∧ t.down.any (fun p => p.1 = 1) = false ∧ (t.parts.any fun p => p.1 = 0 && p.2.1 = 0) = true
     ∧ (t.parts.any fun p => p.1 = 1 && p.2.1 = 0) = false ∧ s.treeMember t = none
     ∧ (s.updBoard fun b => { b with contribs := [{ part 0 1 0 with extent := 2 }] }).treeMember t ≠ none
     ∧ ((0 :: childLevels s.modules s.rank).all fun l => t.parts.any fun p => p.1 = l && p.2.1 = 0) = true) := by decide +kernel

/-- The Vilny link is up. -/
def vlkState (st : Nat) : State := { State.reset with vlk := { Vilny.reset with state := st } }
set_option maxRecDepth 100000 in
theorem witness_VilnyLink :
    (let f := flitOf (zeroBytes 248) 0 0 0 false false
     (vlkState 2).vlk.state = 2 ∧ (vlkState 2).injects 6 = false ∧ (vlkState 2).vlk.holdRx = []
     ∧ leAt f 252 4 = (crc32 (byteSlice f 0 252)).toNat ∧ bits (leAt f 248 4) 31 31 = 0 ∧ bits (leAt f 248 4) 30 30 = 0
     ∧ bits (leAt f 248 4) 11 0 = (vlkState 2).vlk.rxSeq
     ∧ leAt (zeroBytes 256) 252 4 ≠ (crc32 (byteSlice (zeroBytes 256) 0 252)).toNat)
    ∧ (let f := flitOf [] 0 0 16 true true
      leAt f 252 4 = (crc32 (byteSlice f 0 252)).toNat ∧ bits (leAt f 248 4) 31 31 = 1 ∧ bits (leAt f 248 4) 30 30 = 1)
    ∧ (injecting (vlkState 2)).injects 6 = true ∧ (vlkState 1).vlk.state = 1 ∧ (vlkState 3).vlk.state = 3
    ∧ (vlkState 0).vlk.state = 0 ∧ (vlkState 0).vilnyOut = false ∧ (vlkState 0).rst.asserted = false
    ∧ (vlkState 0).rst.phase < 5 ∧ 5 ≤ { (vlkState 0).rst with phase := 7 }.phase
    ∧ (let r : SentPacket := ⟨0, [], 14, false⟩
      (List.any [r] fun x => decide (16 ≤ x.times + 1)) = false ∧ (List.any [{ r with times := 15 }] fun x => decide (16 ≤ x.times + 1)) = true)
    ∧ (vlkState 0).held 6 14 = false ∧ (vlkState 2).vlk.holdTx = []
    ∧ ((vlkState 1).vilnySpare (none, none) = (15, 15) ∧ (vlkState 1).vilnySpare (some 3, none) = (3, 15)
      ∧ vilnyLanesOk ⟨0xFF, 0xFF⟩ (15, 15) = true ∧ vilnyLanesOk ⟨0x1F7, 0xFF⟩ (15, 15) = false ∧ vilnyLanesOk ⟨0x1F7, 0xFF⟩ (3, 15) = true
      ∧ (let s := { vlkState 1 with life := { (vlkState 1).life with spare := { SpareRec.empty with vilny := (3, 15) } } }
        s.vilnySpare (some 5, some 5) = (3, 5))) := by decide +kernel

theorem witness_EventsAdmission :
    (let f := eventsFrame 0 1 0
     State.reset.held 6 14 = false ∧ State.reset.held 6 15 = false
     ∧ State.reset.tallying = false ∧ (State.reset.generalTurn f 1).isSome = true
     ∧ progState.generalTurn f 1 = none ∧ progState.anyClassified = false
     ∧ (progState.judge f progState.time).isRight = true
     ∧ ((progState.setOd (od 0x2600 0x20) []).judge f 0).isLeft = true ∧ progState.modules ≤ 1)
    ∧ (let h := heldOf (eventsFrame 0 1 0) 0 0 1 false
      let s := { progState with adm := { Adm.reset with frames := [h] } }
      s.tallying = true ∧ (s.adm.frames.find? fun f => f.id = 1 && f.waiting = 1) = some h ∧ s.adm.behind = []
      ∧ (((s.takeTally h).unhold 1).judge h.bytes h.tLast).isRight = true
      ∧ ((((s.setOd (od 0x2600 0x20) []).takeTally h).unhold 1).judge h.bytes h.tLast).isLeft = true)
    ∧ (let h := heldOf (eventsFrame 0 1 0) 0 0 2 true
      let s := { progState with adm := { Adm.reset with frames := [h] } }
      (s.adm.frames.find? fun f => f.id = 1 && f.waiting = 2) = some h ∧ s.postDone 1 = true
      ∧ s.rank = 0 ∧ s.fab.ackStatus = 0 ∧ { s with fab := { s.fab with ackStatus := 3 } }.fab.ackStatus ≠ 0
      ∧ { s with fab := { s.fab with reqs := [⟨0, 0, 6, 0, false, .extension 1⟩] } }.postDone 1 = false
      ∧ s.fab.away = none ∧ h.until' = none
      ∧ { s with fab := { s.fab with away := some 0 } }.fab.away = some (h.step % 0x10000000000)
      ∧ (let late := { h with until' := some 5 }
        let u := { s with time := 6, adm := { Adm.reset with frames := [late] } }
        (u.adm.frames.find? fun f => f.id = 1 && f.waiting = 2) = some late ∧ u.postDone 1 = true ∧ 5 < u.time)) := by decide +kernel

theorem witness_RefusalCauses :
    (let f := eventsFrame 0 1 0
     upState.badFrame f 2 = some 2 ∧ 48 ≤ f.length ∧ leAt f 0 2 = 0x4C56 ∧ frType f = 1 ∧ upState.badFrame (zeroBytes 48) 1 = some 0
     ∧ progState.badFrame f 1 = none ∧ (progState.setOd (od 0x2600 0x12) (u64 63)).odNat (od 0x2600 0x12) < f.length
     ∧ f.length ≤ progState.odNat (od 0x2600 0x12) ∧ progState.rst.pinWait = false ∧ progState.rst.asserted = false ∧ progState.fnState 3 = 1
     ∧ frStep f = progState.curStep ∧ (progState.judge f 0).isRight = true ∧ progState.eventsState f = false
     ∧ (progState.quote f 0).isSome = true ∧ progState.slotsShort f = false ∧ progState.dram.window = false
     ∧ ((progState.setOd (od 0x2600 0x20) []).quote f 0).isNone = true ∧ State.reset.fnState 0 ≠ 1)
    ∧ (frStep (eventsFrame 0 1 2) ≠ progState.curStep ∧ frStep (eventsFrame 0 1 2) ≠ progState.curStep + 1)
    ∧ (let s := progState.setOd (od 0x2600 1) (u64 1)
      s.odNat (od 0x2600 1) = 1 ∧ (2 : Nat) > 1 ∧ 0 + 1 ≤ s.nextWindow) := by decide +kernel

/-- Host control frames of the operations. -/
def putFrame (a : Nat) : Bytes := frameOf 2 0 1 0 0 0 0 (u8 1 ++ zeroBytes 3 ++ u64 a ++ u32 0x01020304)
def rowsFrame : Bytes := frameOf 2 0 1 0 0 0 0 (u8 2 ++ zeroBytes 3 ++ u16 0 ++ u16 0 ++ u32 1 ++ u64 0 ++ u64 0 ++ zeroBytes 64 ++ zeroBytes 4)
def restoreFrame (kind : Nat) (data : Bytes) : Bytes :=
  frameOf 2 0 1 0 0 0 0 (u8 3 ++ zeroBytes 3 ++ u8 kind ++ u8 0 ++ u16 0 ++ u32 data.length ++ u64 0 ++ data ++ zeroBytes 4)
def settleFrame (o : Nat) : Bytes := frameOf 2 0 1 0 0 0 0 (u8 4 ++ zeroBytes 3 ++ u8 o ++ zeroBytes 7 ++ u64 0 ++ zeroBytes 4)
/-- Training is stopped, admission runs. -/
def loadState (s : State) : State := { s with dict := { s.dict with fn := [0, 0, 0, 1, 0] } }
/-- A table that allows class 0. -/
def classState : State :=
  loadState (rowState.setOd (od 0x2200 1) (u16 0 ++ u16 0 ++ u16 32 ++ u8 0 ++ u8 0 ++ u64 16 ++ u8 1 ++ zeroBytes 15))
def lastTurn (s : State) (f : Bytes) (op : Nat) (more : List (Nat × Bool)) (state : Bool) : Option Turn :=
  s.controlTurn f 2 s.time (controlBad f op more) state 1000 1000

set_option maxRecDepth 100000 in
theorem witness_HostFrames_put :
    let s := loadState State.reset
    s.held 6 14 = false ∧ s.held 6 15 = false ∧ s.tallying = false ∧ lastTurn s (putFrame 0) 1 [(4, decide ((putFrame 0).length < 56))] false = none
    ∧ (lastTurn State.reset (putFrame 0) 1 [] true).isSome = true
    ∧ s.putRange 0 4 = true ∧ s.putRange 0x40000000000 4 = true ∧ s.putRange 0x6BFFFFFFFC 4 = true ∧ s.putRange 0x6C00000000 4 = false
    ∧ ((putFrame 0).take ((putFrame 0).length - 8)).drop 44 = [4#8, 3#8, 2#8, 1#8] := by decide +kernel

set_option maxRecDepth 100000 in
theorem witness_HostFrames_rows :
    let s:= classState
    let x := Table.of (s.odBytes (od 0x2200 1))
    s.table (leAt rowsFrame 36 2) = some x
    ∧ rowsOf x rowsFrame (rowsFrame.length - 8) (min (leAt rowsFrame 40 4) rowsFrame.length) 44 = ([⟨0, 0, zeroBytes 64⟩], none)
    ∧ lastTurn s rowsFrame 2 [(38, decide (leAt rowsFrame 38 2 ≠ 0))] (s.fnState 1 ≠ 0) = none ∧ s.owner 0 0 = s.rank
    ∧ (s.dirFind 0 0).isSome = true
    ∧ (let s := { s with mem := [] }
      s.dirFind 0 0 = none ∧ (s.dirFree 0 0).isSome = true ∧ (s.poolTake false 0 0 64).isSome = true)
    ∧ (let s := { s.setOd (od 0x2200 0x11) (u64 0) with mem := [] }
      s.dirFind 0 0 = none ∧ s.dirFree 0 0 = none) := by decide +kernel

set_option maxRecDepth 100000 in
theorem witness_HostFrames_restore :
    let s:= loadState State.reset
    let r : Restore := ⟨0, [], [], 0x10000, [], []⟩
    let f := restoreFrame 2 [1#8, 2#8, 3#8, 4#8, 5#8, 6#8, 7#8, 8#8]
    let kinds := fun k => (chunksOf 64 36 (((restoreFrame k [1#8, 2#8, 3#8, 4#8]).take 56).drop 36)).1.map fun c => c.kind
    (chunksOf f.length 36 ((f.take (f.length - 8)).drop 36)).2 = none
    ∧ ((chunksOf f.length 36 ((f.take (f.length - 8)).drop 36)).1.map fun c => c.kind) = [2]
    ∧ kinds 1 = [1] ∧ kinds 4 = [4] ∧ kinds 5 = [5] ∧ kinds 0xFF = [0xFF]
    ∧ lastTurn { s with upd := { s.upd with restore := some r } } f 3 [(36, false)] false = none := by decide +kernel

set_option maxRecDepth 100000 in
theorem witness_HostFrames_settle :
    let s:= { (loadState State.reset).setReg 2 Reg.updStatus 0x40 with upd := { Upd.reset with lost := some 0 } }
    bits (s.reg 2 Reg.updStatus) 6 6 = 1 ∧ s.upd.lost = some (leAt (settleFrame 1) 44 8)
    ∧ lastTurn s (settleFrame 1) 4 [(36, false), (37, decide (leAt (settleFrame 1) 37 7 ≠ 0))] false = none
    ∧ leAt (settleFrame 1) 36 1 = 1 ∧ leAt (settleFrame 2) 36 1 = 2 := by decide +kernel

set_option maxRecDepth 100000 in
theorem witness_HostFrames_readback :
    let s:= loadState State.reset
    let f := frameOf 4 0 1 0 0 0 0 (u64 0 ++ u32 32 ++ u32 0)
    s.controlTurn f 4 s.time none false 10001 10001 = none ∧ leAt f 40 4 = 32 := by decide +kernel

set_option maxRecDepth 100000 in
theorem witness_HostFrames_snapshot :
    let s:= (loadState State.reset).setOd (od 0x2300 0x15) (u64 0x1000)
    let s := { s with dict := { s.dict with fn := [1, 1, 0, 1, 1] } }
    let f := frameOf 3 0 1 0 0 0 0 (zeroBytes 8)
    s.controlTurn f 3 s.time none (s.fnState 4 ≠ 1) 10000 10000 = none ∧ s.upd.snap = none ∧ s.odNat (od 0x2300 0x15) ≠ 0
    ∧ (s.setOd (od 0x2300 0x15) (u64 0)).odNat (od 0x2300 0x15) = 0 := by decide +kernel

set_option maxRecDepth 100000 in
theorem witness_LateFrames : soundCheck State.reset = true
    ∧ (let h := heldOf (eventsFrame 0 1 0) 5 100 0 false
      let s := { progState with adm := { Adm.reset with frames := [h] } }
      (s.adm.frames.find? fun f => f.id = 1 && f.inFlight) = some h ∧ h.isEvents = true ∧ s.fab.trouble = none
      ∧ { s with fab := { s.fab with trouble := some 5 } }.fab.trouble = some 5
      ∧ (s.adm.frames.find? fun f => f.id = 2 && f.inFlight) = none ∧ h.tLast ≤ 5)
    ∧ (let h := heldOf (frameOf 1 0 1 0 0 2 0 []) 5 100 0 false
      let mine := [h].filter fun f => f.isEvents && f.step = 0 && f.waiting ≠ 1
      mine ≠ [] ∧ mine.length < (mine.map (·.mbCount)).foldl max 0 ∧ progState.curStep = 0 ∧ progState.modules ≤ 1 ∧ 1 < twoState.modules) := by
  decide +kernel

/-- An SDP message: operation, session, sequence, index, subindex, type, value. -/
def sdpMsg (op session seq index sub type : Nat) (value : Bytes) : Bytes :=
  u8 1 ++ u8 op ++ u8 0 ++ u8 6 ++ u16 session ++ u16 seq ++ u16 index ++ u8 sub ++ u8 type ++ u32 0 ++ u32 value.length ++ u32 0 ++ value
/-- The requester at address 9, port 9, who sends to the module's global address, ::1, and port. -/
def req9 : Requester := ⟨9, 9, 1, 47709⟩
/-- The management bus is linked and the module serves it, with one session of a level. -/
def busState (level : Nat) : State :=
  let s := { State.reset with rst := { State.reset.rst with phase := 7 } }.setReg 6 Reg.mgmtStatus 1
  let s := s.setOd (od 0x2900 3) (zeroBytes 15 ++ [1#8])
  { s with dict := { s.dict with sessions := [⟨1, level, true, requesterKey req9, 0, [], false⟩] } }

set_option maxRecDepth 100000 in
theorem witness_SdpRequests :
    (let s := busState 3
     let get := sdpMsg 1 1 1 0x2600 1 4 []
     let set := sdpMsg 2 1 1 0x2600 1 4 (u32 1000)
     let row := odRow (od 0x2600 1)
     s.reg 6 Reg.mgmtStatus % 2 = 1 ∧ s.addressed req9 = true ∧ s.addressed { req9 with dstPort := 1 } = false
     ∧ s.serves = true ∧ sdpMalformed true get = false ∧ sdpMalformed true set = false
     ∧ sdpMalformed true [] = true ∧ (Sdp.of get).op = 1 ∧ (Sdp.of set).op = 2 ∧ (Sdp.of get).op ≠ 2
     ∧ State.reset.reg 6 Reg.mgmtStatus % 2 = 0
     ∧ (s.dict.sessions.find? fun x => x.num = (Sdp.of get).session && x.bus && x.req = requesterKey req9)
       = some ⟨1, 3, true, requesterKey req9, 0, [], false⟩
     ∧ (s.dict.sessions.find? fun x => x.num = 2 && x.bus && x.req = requesterKey req9) = none
     ∧ SMap.get none s.dict.before (od 0x2500 1) = none
     ∧ ((odRow (od 0x2500 1)).map fun r => (valueOk r (u16 0xFFFF), valueOk r (u16 0x8000), s.setDenied r (u16 0xFFFF))) = some (true, false, false)
     ∧ ((odRows.find? fun r => r.type = 9 && r.acc ≠ .ro).map fun r => decide (r.type = 9)) ≠ some false
     ∧ (Sdp.of get).seq = (0 + 1) % 65536 ∧ (Sdp.of (sdpMsg 1 1 0 0x2600 1 4 [])).seq = 0 ∧ (Sdp.of (sdpMsg 1 1 2 0x2600 1 4 [])).seq ≠ 1
     ∧ s.entryRow (od 0x2600 1) = row ∧ row.isSome = true ∧ s.entryRow 0 = none ∧ s.entryRow (od 0x2600 1) = row
     ∧ (row.map fun r => (r.key, r.type, r.level, kept r)) = some (od 0x2600 1, 4, 1, false)
     ∧ (row.map fun r => (s.setDenied r (u32 1000), valueOk r (u32 1000), valueOk r (u32 1))) = some (false, true, false)
     ∧ (row.map fun r => decide ((busState 0).dict.sessions.all fun x => x.level < r.level)) = some true
     ∧ odSize 4 = 4 ∧ (Sdp.of set).length = 4 ∧ (Sdp.of get).length = 0)
    ∧ ((odRow (od 0x2000 6)).map (·.acc) = some .ro ∨ ∃ r ∈ odRows, r.acc = .ro)
    ∧ (let sub := sdpMsg 5 1 1 0 0 0 [1#8]
      let close := sdpMsg 4 1 1 0 0 0 []
      sdpMalformed true sub = false ∧ sdpMalformed true close = false ∧ (Sdp.of sub).value = [1#8] ∧ (Sdp.of close).length = 0
      ∧ leNat [1#8] ≤ 1 ∧ 1 < leNat [2#8] ∧ (Sdp.of (sdpMsg 4 1 1 0 0 0 [1#8])).length ≠ 0) := by decide +kernel

theorem witness_SdpSessions :
    (let s := busState 0
     let m (v : Bytes) := sdpMsg 3 0 0 0 0 0 v
     s.reg 6 Reg.mgmtStatus % 2 = 1 ∧ s.addressed req9 = true ∧ s.serves = true ∧ sdpMalformed true (m [0#8]) = false ∧ (Sdp.of (m [0#8])).op = 3
     ∧ (Sdp.of (m [0#8])).value = [0#8] ∧ (Sdp.of (m [])).value.length = 0 ∧ (Sdp.of (m [3#8])).value = [3#8]
     ∧ s.life.mgmtFailed.contains 1 = false ∧ s.dict.sessions.length < 8 ∧ s.sec.locked = false
     ∧ { s with life := { s.life with mgmtFailed := [1] } }.life.mgmtFailed.contains 1 = true
     ∧ 8 ≤ (List.replicate 8 (⟨1, 0, true, 9, 0, [], false⟩ : Session)).length)
    ∧ (let f := frameOf 2 0 7 0 0 0 0 (u8 5 ++ zeroBytes 3 ++ sdpMsg 3 0 0 0 0 0 [] ++ zeroBytes 4)
      ({ busState 0 with vlk := { Vilny.reset with arrived := [f] } }.vlk.arrived.find? fun g => frId g = 8 && frType g = 2 && frOp g = 5) = none
      ∧ State.reset.serves = false ∧ sdpMalformed false (sdpMsg 3 1 0 0 0 0 []) = true ∧ (Sdp.of (sdpMsg 3 1 0 0 0 0 [])).op = 3)
    ∧ (let s := (State.reset.setOd (od 0x2960 1) (u64 0x7F000010010)).setOd (od 0x2960 3) [8#8]
      0x7F000000000 ≤ s.odNat (od 0x2960 1) ∧ (s.regRead (s.odNat (od 0x2960 1) - 0x7F000000000) (s.odNat (od 0x2960 3)) true).isSome = true
      ∧ (s.regWrite (s.odNat (od 0x2960 1) - 0x7F000000000) (s.odNat (od 0x2960 3)) 0 true).isSome = true
      ∧ (s.setOd (od 0x2960 1) (u64 0)).odNat (od 0x2960 1) < 0x7F000000000) := by decide +kernel

/-- Some functions run. -/
def fnState (l : List Nat) : State := { State.reset with dict := { Dict.reset with fn := l } }

set_option maxRecDepth 100000 in
theorem witness_Functions :
    (let s := fnState [0, 1, 0, 1, 0]
     s.fnState 0 = 0 ∧ s.startRefusal 0 = none ∧ s.levelServes 0 = true ∧ s.modules ≤ 1 ∧ (fnState [1, 1, 0, 1, 0]).fnState 0 = 1
     ∧ (fnState [2, 1, 0, 1, 0]).fnState 0 = 2 ∧ (fnState [2, 1, 0, 1, 0]).startRefusal 0 = none ∧ soundCheck s = true ∧ s.dram.poison = []
     ∧ s.curStep = 0 ∧ (fnState [3, 1, 0, 1, 0]).fnState 0 = 3
     ∧ (fnState [0, 0, 0, 0, 0]).startRefusal 1 = none ∧ (fnState [0, 0, 0, 0, 0]).startRefusal 3 = none
     ∧ (fnState [1, 1, 0, 1, 0]).startRefusal 4 = none ∧ (fnState [0, 0, 0, 0, 0]).fnState 1 ≠ 1
     ∧ ((fnState [0, 0, 0, 0, 0]).setOd (od 0x2500 1) (u16 0)).startRefusal 2 = none)
    ∧ (let s := { fnState [0, 1, 0, 1, 0] with life := { State.reset.life with level := 1 } }
      s.levelServes 0 = false ∧ s.life.level < 2)
    ∧ ((fnState [0, 1, 0, 0, 0]).fnState 3 ≠ 1 ∧ (fnState [0, 1, 0, 0, 0]).levelServes 0 = true)
    ∧ (let s := { twoState with dict := { twoState.dict with fn := [0, 1, 0, 1, 0] } }
      1 < s.modules ∧ s.levelServes 0 = true ∧ s.fnState 2 ≠ 1 ∧ s.levelServes 2 = true ∧ s.node ≠ 0xFFFF
      ∧ (s.reg 6 Reg.zfTimeStatus).testBit 63 = false)
    ∧ ((fnState [0, 0, 0, 0, 0]).levelServes 4 = true ∧ (fnState [0, 0, 0, 0, 0]).node = 0xFFFF)
    ∧ (let s := { fnState [0, 1, 1, 1, 0] with upd := { Upd.reset with restore := some ⟨0, [], [], 0x10000, [], []⟩ } }
      s.upd.restore.isSome = true ∧ s.levelServes 0 = true ∧ s.fnState 1 = 1 ∧ s.fnState 2 = 1 ∧ s.fnState 3 = 1)
    ∧ (soundCheck (fnState [1, 1, 0, 1, 0]) = true ∧ (fnState [1, 1, 0, 1, 0]).fnState 4 = 0 ∧ (fnState [1, 1, 0, 1, 0]).stepFrames 0 = []
      ∧ 1 ∈ (fnState [1, 1, 0, 1, 0]).needed 0)
    ∧ (let h := heldOf (eventsFrame 0 1 0) 5 100 0 false
      let s := { fnState [3, 1, 0, 1, 0] with adm := { Adm.reset with frames := [h] } }
      s.stepWhole = true ∧ s.stoppingDone = false ∧ (fnState [3, 1, 0, 1, 0]).stoppingDone = true
      ∧ (fnState [3, 1, 0, 1, 0]).upd.lost = none ∧ (fnState [3, 1, 0, 1, 0]).upd.voted = false)
    ∧ (let h := heldOf (frameOf 1 0 1 0 0 2 0 []) 5 100 0 false
      let s := { fnState [1, 1, 0, 1, 0] with adm := { Adm.reset with frames := [h] } }
      s.stepWhole = false ∧ s.stepFrames s.curStep ≠ [] ∧ s.modules ≤ 1) := by decide +kernel

set_option maxRecDepth 100000 in
theorem witness_SecurityEntries :
    (State.reset.imageAccepted (zeroBytes 8) = false ∧ (zeroBytes 8).length < 9
     ∧ { State.reset with sec := { State.reset.sec with running := 0 } }.sec.running = 0
     ∧ { State.reset with sec := { State.reset.sec with running := 1 } }.sec.running = 1
     ∧ State.reset.sec.runningSvn ≤ State.reset.sec.counter
     ∧ State.reset.sec.counter < { State.reset with sec := { State.reset.sec with runningSvn := 1 } }.sec.runningSvn
     ∧ State.reset.sec.owners.findIdx? (fun x => x = []) = some 0 ∧ State.reset.sec.otp = none ∧ State.reset.ownerSlot = 0
     ∧ { State.reset with sec := { State.reset.sec with owners := [[1#8], []] } }.ownerSlot ≠ 0
     ∧ (State.reset.setReg 6 Reg.secOtpCtrl 1).reg 6 Reg.secOtpCtrl % 2 = 1 ∧ State.reset.reg 6 Reg.secOtpCtrl % 2 = 0
     ∧ { State.reset with sec := { State.reset.sec with otp := some .fuse } }.sec.otp = some .fuse)
    ∧ (let e := zeroBytes 97 ++ [1#8]
      keysOk e = true ∧ raisesKeys 2 (keyEntries (State.reset.odBytes (od 0x1040 1))) (keyEntries e) = false
      ∧ raisesKeys 1 (keyEntries (State.reset.odBytes (od 0x1040 1))) (keyEntries e) = true ∧ keysOk (zeroBytes 97) = false)
    ∧ (State.reset.sec.nonce = none ∧ State.reset.sec.report = none ∧ State.reset.life.mgmtFailed.contains 1 = false)
    ∧ (let s := State.reset.setOd (od 0x2500 0x10) (u16 State.reset.node)
      s.node = s.odNat (od 0x2500 0x10) ∧ s.fnState 2 = 0 ∧ (fnState [0, 0, 1, 0, 0]).fnState 2 ≠ 0) := by decide +kernel

theorem witness_RegisterWrites :
    (State.reset.held 0 1 = false ∧ { State.reset with rst := { State.reset.rst with asserted := true } }.held 0 1 = true
     ∧ regAccess 0x10010 8 = some (0, 1, 0x10) ∧ regAccess 0x10012 8 = none ∧ regAccess 0x10010 2 = none ∧ (7 : Nat) % 4 ≠ 0
     ∧ slowOf 0 0x10010 = none ∧ regAccess 0x10000 8 = some (0, 1, 0) ∧ regAccess 0x10008 8 = some (0, 1, 8) ∧ slowOf 0 0x10008 = none)
    ∧ (let n := Reg.fretLoadAddr
      guarded Reg.fretLoadCtrl = true ∧ State.reset.guardMode 0 0 ≠ 1 ∧ State.reset.guardMode 0 0 ≠ 0 ∧ State.reset.guardLock 0 0 = false
      ∧ (State.reset.setReg 0 (guardReg 0) 9).guardLock 0 0 = true ∧ State.reset.guardWrite 0 0 true = true
      ∧ n % 0x10000 ≠ 0 ∧ n % 0x10000 ≠ 8)
    ∧ ((slowOf 6 Reg.lifeCtrl).isSome = true ∧ (slowOf 6 Reg.lifeStatus).isSome = true ∧ Reg.lifeStatus % 0x10000 ≠ 8
      ∧ ((softBits 22 (Reg.lifeStatus % 0x10000)).1 ≠ 0 ∨ (softBits 22 (Reg.lifeStatus % 0x10000)).2 ≠ 0)
      ∧ ∃ r ∈ regRows 22, r.rw = 0 ∧ r.w1c = 0 ∧ r.off ≠ 0 ∧ r.off ≠ 8) := by decide +kernel

theorem witness_RegisterActions :
    (let s := (one { opFret 0 with run := 0 }).updBoard fun b => { b with c0 := { CDie.reset with dice := some (1#64, 2#64) } }
     (s.cdie 0).dice = some (1#64, 2#64) ∧ (State.reset.cdie 0).dice = none ∧ s.guardWrite 0 16 false = false ∧ s.guardWrite 0 16 true = true
     ∧ s.held 0 0 = false ∧ s.held 0 18 = false ∧ s.shadowCurrent 0 = true ∧ (s.fret 0).follow = []
     ∧ (s.fret 0).run = 0 ∧ (s.fret 0).active < 2 ∧ (s.fret 0).st (s.fret 0).shadow = 0
     ∧ bits 0x80000 19 19 = 1 ∧ bits 0x80000 18 18 = 0 ∧ bits 0x80000 8 0 + bits 0x80000 17 9 ≤ 383 ∧ 383 < bits 0x1FF 8 0 + 0
     ∧ bits 0xC0000 18 18 = 1 ∧ bits 0xC0000 17 9 = 0 ∧ bits 0x17F 8 0 = 383)
    ∧ ((({ opFret 0 with run := 0, st1 := 1 } : Fret).st 1 = 1) ∧ ({ opFret 0 with run := 0, st1 := 2 } : Fret).st 1 = 2)
    ∧ (let s := { State.reset with rst := { State.reset.rst with phase := 7 } }
      s.guardWrite 0 18 true = true ∧ s.guardWrite 0 18 false = false ∧ bits 0x100 8 8 = 1 ∧ s.blockIdle 0 0 = true ∧ s.blockIdle 0 6 = false
      ∧ bits 0x10F 7 0 < 16 ∧ 16 ≤ bits 0x110 7 0)
    ∧ (let s := { State.reset with rst := { State.reset.rst with blockReset := [1] } }
      1 ∈ s.rst.blockReset ∧ 1 / 32 = (0 : Fin 8).val ∧ s.dram.queue = [])
    ∧ (State.reset.guardWrite 6 22 false = false ∧ State.reset.guardWrite 6 22 true = true ∧ SMap.wf 0 State.reset.life.bk = true
      ∧ State.reset.slow.length = 3 ∧ (State.reset.slowWin 0).queue = [])
    ∧ (let q (r e : Nat) : SlowWrite := ⟨r, 0#64, 0#64, e⟩
      (q Reg.lifeCalendar 2).reg = Reg.lifeCalendar ∧ 2 ≤ (q 0x110010 2).edges ∧ (q 0x110010 2).reg / 0x10000 = 17 ∧ (q 0x110010 1).edges < 2) := by
  decide +kernel

theorem witness_ResetSources :
    (State.reset.rst.phase = 0 ∧ State.reset.rst.power = true ∧ ¬ { State.reset.rst with phase := 7 }.phase = 0 ∧ State.reset.dram.queue = []
     ∧ (let s := State.reset.powerRecord
       ¬ ({ s with rst := { s.rst with power := false } }.rst.power = true)))
    ∧ (let s := State.reset
     ¬ (s.rst.vin = false ∨ s.rst.off = true ∨ s.rst.asserted = true ∨ s.rst.pinWait = true) ∧ s.pulsing = false ∧ s.keeps = false
     ∧ { s with rst := { s.rst with pulse := some 0 } }.pulsing = true ∧ { s with rst := { s.rst with pinWait := true } }.rst.pinWait = true
     ∧ { s with rst := { s.rst with resetN := false } }.rst.resetN = false ∧ s.rst.resetN = true ∧ s.upd.journal = []
     ∧ 1960 + 40 ≤ 2000 ∧ 2000 < 1961 + 40 ∧ 2039 < 2040 ∧ 2040 ≤ 2040)
    ∧ (let s := { State.reset with rst := { State.reset.rst with keep := true, memValid := [true, true, true, true], phase := 7 } }
      s.keeps = true ∧ s.rst.phase = 7)
    ∧ (let s := { State.reset with rst := { State.reset.rst with vin := false } }
      s.rst.vin = false ∧ { State.reset with rst := { State.reset.rst with off := true } }.rst.off = true) := by decide +kernel

theorem witness_BringUp :
    (State.reset.bringing = true ∧ State.reset.rst.phase = 0 ∧ State.reset.rst.power = true ∧ State.reset.rst.lost = false
     ∧ { State.reset with rst := { State.reset.rst with phase := 7 } }.bringing = false
     ∧ { State.reset with rst := { State.reset.rst with power := false } }.rst.power = false ∧ State.reset.rst.foundLost = false
     ∧ { State.reset with rst := { State.reset.rst with power := false, foundLost := true } }.rst.foundLost = true
     ∧ { State.reset with rst := { State.reset.rst with lost := true } }.rst.lost = true)
    ∧ (let boots (s : State) (a b : ImageCheck) (i : Nat) :=
        ∃ m, s.sec.images[i]? = some m ∧ m.present = true ∧ s.bootOk (if i = 0 then a else b) = true ∧ s.sec.counter ≤ m.svn
      let good : ImageCheck := ⟨true, false, false⟩
      let bad : ImageCheck := ⟨false, false, false⟩
      let both := { State.reset with sec := { State.reset.sec with images := [⟨true, 0, zeroBytes 48⟩, ⟨true, 0, zeroBytes 48⟩] } }
      State.reset.nvNat (od 0x1030 1) = 0 ∧ boots State.reset good bad 0 ∧ boots both bad good 1
      ∧ both.bootOk bad = false
      ∧ { both with sec := { both.sec with owners := [[1#8], []] } }.bootOk good = false
      ∧ { both with sec := { both.sec with owners := [[1#8], []] } }.bootOk ⟨true, true, false⟩ = true)
    ∧ (State.reset.life.spare.failed = [] ∧ (∀ e, e < 8 → State.reset.life.shed.getD e 0 ≤ 2)
      ∧ State.reset.rst.keepOutcome ≠ 1 ∧ State.reset.rst.keepOutcome ≠ 2 ∧ State.reset.vilnyOut = false)
    ∧ (let s := (State.reset.setOd (od 0x2950 2) (u32 1))
      carries 0 0 = true ∧ bits (s.odNat (od 0x2950 2)) 0 0 = 1 ∧ s.guardMode 0 0 ≠ 0) := by decide +kernel

theorem witness_ClocksAndPower :
    (let s := State.reset.setReg 6 Reg.clkGood 0x3FF
     9 ∈ domainsOf 6 ∧ s.clockIsGood 6 9 = true ∧ refFed 4 = true ∧ 4 ∈ domainsOf 6 ∧ s.clockIsGood 6 4 = true ∧ 0 ∉ domainsOf 6
     ∧ 0 ∈ domainsOf 0 ∧ 1 ∈ domainsOf 2 ∧ State.reset.clockIsGood 0 0 = false)
    ∧ (let s := { State.reset with rst := { State.reset.rst with clockLost := [100] } }
      6 * 16 + 4 ∈ s.rst.clockLost ∧ 0 * 16 + 0 ∉ s.rst.clockLost ∧ s.dieOut 6 = false)
    ∧ (let s := { State.reset with rst := { State.reset.rst with phase := 7 } }
      ¬ (s.rst.phase ≠ 7 ∨ s.rst.asserted = true ∨ s.rst.pinWait = true ∨ s.moduleIdle = false)
      ∧ s.rst.dieTarget.getD 0 0 + 1 = 1 ∧ exitNs 1 ≤ (s.setOd (od 0x1200 1) (u32 2000)).odNat (od 0x1200 1)
      ∧ (s.setOd (od 0x1200 1) (u32 1999)).odNat (od 0x1200 1) < exitNs 1 ∧ s.reg 0 Reg.pwrCtrl % 2 ≠ 1
      ∧ (s.setReg 0 Reg.pwrCtrl 1).reg 0 Reg.pwrCtrl % 2 = 1
      ∧ s.rst.waking = false ∧ s.rst.dieTarget = s.rst.dieState ∧ (∀ x ∈ s.rst.dieTarget, x = 0))
    ∧ (let r := { State.reset.rst with dieTarget := List.replicate 8 2, phase := 7 }
      2 ∈ r.dieTarget ∧ r.waking = false ∧ r.dieTarget ≠ r.dieState
      ∧ ∀ e, e < 8 → ¬ (e < 2 ∧ r.dieState.getD e 0 ≠ 3 ∧ r.dieTarget.getD e 0 = 3))
    ∧ (let s := { State.reset with rst := { State.reset.rst with dieTarget := List.replicate 8 3, phase := 7 } }
      soundCheck s = true ∧ s.rst.dieTarget ≠ s.rst.dieState ∧ s.rst.dieState.getD 0 0 ≠ 3 ∧ s.rst.dieTarget.getD 0 0 = 3)
    ∧ { State.reset.rst with waking := true }.waking = true ∧ State.reset.rst.vin = true ∧ State.reset.rst.off = false
    ∧ (let s := (State.reset.setOd (od 0x1200 3) (u64 0)).setOd (od 0x2400 0x11) (u64 0)
      s.restConflict = true) := by decide +kernel

theorem witness_HotDie : 100 < 101 ∧ 100 ≤ 100 := by decide

theorem witness_LifeEvents :
    (7 < spareCore 0 ∧ spareCore 2 = 4 ∧ SMap.get 0 State.reset.life.spare.cores 0 = 0
     ∧ 0 ∉ State.reset.life.spare.badCores ∧ 0 ∈ { SpareRec.empty with badCores := [0] }.badCores
     ∧ SMap.get 0 { SpareRec.empty with cores := [(0, 1)] }.cores 0 ≠ 0 ∧ State.reset.held 6 17 = false)
    ∧ (State.reset.life.mgmtFailed.contains 0 = false ∧ { State.reset.life with mgmtFailed := [0] }.mgmtFailed.contains 0 = true)
    ∧ (State.reset.freeBank 0 = some 60
      ∧ { State.reset with life := { State.reset.life with spare := { SpareRec.empty with badBanks := [(0, 60)] } } }.freeBank 0 = some 61
      ∧ { State.reset with life := { State.reset.life with spare := { SpareRec.empty with banks := [(0, 61), (1, 62), (2, 63), (3, 64)] } } }.freeBank 0
        = none)
    ∧ ((7 : Nat) < State.reset.life.shed.length ∧ State.reset.life.shed.getD 0 0 + 1 ≤ 2
      ∧ 2 < { State.reset.life with shed := List.replicate 8 2 }.shed.getD 0 0 + 1)
    ∧ (State.reset.life.rewrite = false ∧ { State.reset.life with rewrite := true }.rewrite = true) := by decide +kernel

theorem witness_RepeatImages :
    State.reset.passNo 0 false = none
    ∧ (let s := passState pass0 0
      s.passNo 0 false = some 0 ∧ s.num.passes[0]? = some pass0 ∧ s.num.repeating.contains 0 = false
      ∧ s.held 6 6 = false ∧ { s with num := { s.num with repeating := [0] } }.num.repeating.contains 0 = true)
    ∧ (let s := (passState pass0 0).setLane 0 { SLane.reset with mark := some ⟨0, false, [2], [], 0⟩ }
      let s := s.setFret 0 { opFret 0 with img1 := img 0x20000 0x11 0x101 0 0 [0], st1 := 2 }
      let s := { s.updBoard fun b => { b with lib := [] } with num := { s.num with repeating := [0] } }
      let u := (s.beginRepeat 0 [0]).repeatLoad 0 2 []
      s.passNo 0 false = some 0 ∧ s.num.passes[0]? = some pass0 ∧ s.passFrets 0 false = [0]
      ∧ (s.lane 0).mark = some ⟨0, false, [2], [], 0⟩ ∧ (u.fret 0).st (s.fret 0).shadow = 2 ∧ u.shadowCurrent 0 = true) := by decide +kernel

theorem witness_StepRunsCommand : { State.reset with pending := [.wake, .timeUnlock] }.pending = .wake :: [.timeUnlock]
    ∧ State.reset.pending = [] ∧ (∀ x ∈ State.reset.dict.fn, x ≠ 2) ∧ State.reset.life.change = none ∧ State.reset.vlk.state ≠ 2
    ∧ State.reset.fab.slew = 0 ∧ (1 : Nat) ∉ (fnState [2, 0, 0, 0, 0]).dict.fn ∧ 2 ∈ (fnState [2, 0, 0, 0, 0]).dict.fn
    ∧ (let s := { State.reset with time := 40, life := { State.reset.life with change := some ⟨0, 3, 0, 0⟩ } }
      s.life.change = some ⟨0, 3, 0, 0⟩ ∧ (0 : Nat) ≠ s.idle.time / 40) := by decide +kernel

end Sys2Proof.Tests
end

/-! A step keeps a state sound. Laws/Frame*.lean says of every command's meaning, and of the idle tick, that it answers a
next state that is sound where the state before is. What is left is to gather that over the arms of `exec`, and to see that
taking a command from the queue breaks nothing. -/

namespace Sys2Proof.Machine

/-- No arm of `exec` faults or refuses, and each keeps a sound state sound: it is a meaning that has its law. -/
theorem exec_evolves (c : Instr) (s : State) : ∃ P, Outcome.evolves s P (exec c s) :=
  match c with
  | .nop f => ⟨_, execNop_evolves f s⟩
  | .loadb f supply ue => ⟨_, execLoadb_evolves f supply ue s⟩
  | .loadbDone f => ⟨_, execLoadbDone_evolves f s⟩
  | .swapb f => ⟨_, execSwapb_evolves f s⟩
  | .stream f wait ce supply ue sample => ⟨_, execStream_evolves f wait ce supply ue sample s⟩
  | .spill f slot => ⟨_, execSpill_evolves f slot s⟩
  | .sumBoundExceeded f slot => ⟨_, execSumBoundExceeded_evolves f slot s⟩
  | .epu f wait => ⟨_, execEpu_evolves f wait s⟩
  | .conv f wait busWait line block => ⟨_, execConv_evolves f wait busWait line block s⟩
  | .send f busWait => ⟨_, execSend_evolves f busWait s⟩
  | .recv f supply ue => ⟨_, execRecv_evolves f supply ue s⟩
  | .recvDone f supply => ⟨_, execRecvDone_evolves f supply s⟩
  | .bridge f wait => ⟨_, execBridge_evolves f wait s⟩
  | .bridgeResult die base => ⟨_, execBridgeResult_evolves die base s⟩
  | .push f => ⟨_, execPush_evolves f s⟩
  | .stageReady f ue => ⟨_, execStageReady_evolves f ue s⟩
  | .summary f => ⟨_, execSummary_evolves f s⟩
  | .summaryWaitEnd f => ⟨_, execSummaryWaitEnd_evolves f s⟩
  | .summaryMailboxArrival die core take => ⟨_, execSummaryMailboxArrival_evolves die core take s⟩
  | .loop f => ⟨_, execLoop_evolves f s⟩
  | .wait f => ⟨_, execWait_evolves f s⟩
  | .waitRelease f => ⟨_, execWaitRelease_evolves f s⟩
  | .switch f => ⟨_, execSwitch_evolves f s⟩
  | .switchWaitEnd f => ⟨_, execSwitchWaitEnd_evolves f s⟩
  | .halt f => ⟨_, execHalt_evolves f s⟩
  | .voicingLoad die value priv => ⟨_, execVoicingLoad_evolves die value priv s⟩
  | .voicingLoadDone die ue => ⟨_, execVoicingLoadDone_evolves die ue s⟩
  | .phaseStart die vid bound first count frame => ⟨_, execPhaseStart_evolves die vid bound first count frame s⟩
  | .overrun f => ⟨_, execOverrun_evolves f s⟩
  | .phaseAtTwiceBound f => ⟨_, execPhaseAtTwiceBound_evolves f s⟩
  | .fretFault die col physRow report => ⟨_, execFretFault_evolves die col physRow report s⟩
  | .spareVoicingReloadDone die col => ⟨_, execSpareVoicingReloadDone_evolves die col s⟩
  | .windowWrite addr width data => ⟨_, execWindowWrite_evolves addr width data s⟩
  | .windowTimeout f write0 => ⟨_, execWindowTimeout_evolves f write0 s⟩
  | .passVerdict layer backward => ⟨_, execPassVerdict_evolves layer backward s⟩
  | .repeatImagesLoaded layer backward => ⟨_, execRepeatImagesLoaded_evolves layer backward s⟩
  | .stepVerdict others => ⟨_, execStepVerdict_evolves others s⟩
  | .tallyComplete frame => ⟨_, execTallyComplete_evolves frame s⟩
  | .remoteRowRead source table row step => ⟨_, execRemoteRowRead_evolves source table row step s⟩
  | .heldReadRelease => ⟨_, execHeldReadRelease_evolves s⟩
  | .scatterTerm die table row term last => ⟨_, execScatterTerm_evolves die table row term last s⟩
  | .sortMerge die => ⟨_, execSortMerge_evolves die s⟩
  | .exchangeRecord src record => ⟨_, execExchangeRecord_evolves src record s⟩
  | .exchangeEndMarker src => ⟨_, execExchangeEndMarker_evolves src s⟩
  | .ownerReduction => ⟨_, execOwnerReduction_evolves s⟩
  | .hotsetPushRow owner table row cls removal payload => ⟨_, execHotsetPushRow_evolves owner table row cls removal payload s⟩
  | .hotsetInstallComplete step pushed entered left migrations =>
    ⟨_, execHotsetInstallComplete_evolves step pushed entered left migrations s⟩
  | .layerUpdate entry grad => ⟨_, execLayerUpdate_evolves entry grad s⟩
  | .rowUpdate table row => ⟨_, execRowUpdate_evolves table row s⟩
  | .moduleApplied => ⟨_, execModuleApplied_evolves s⟩
  | .commitVote others => ⟨_, execCommitVote_evolves others s⟩
  | .stepRerun => ⟨_, execStepRerun_evolves s⟩
  | .voteTimeLimit answer => ⟨_, execVoteTimeLimit_evolves answer s⟩
  | .checkpoint => ⟨_, execCheckpoint_evolves s⟩
  | .memoryRequest cls addr write0 len corrected uncorrectable phase =>
    ⟨_, execMemoryRequest_evolves cls addr write0 len corrected uncorrectable phase s⟩
  | .remapCopyDone tier chan bank row => ⟨_, execRemapCopyDone_evolves tier chan bank row s⟩
  | .scrubPeriod tier lastPassDone => ⟨_, execScrubPeriod_evolves tier lastPassDone s⟩
  | .maintenanceWindowStart lanes => ⟨_, execMaintenanceWindowStart_evolves lanes s⟩
  | .maintenanceWindowEnd => ⟨_, execMaintenanceWindowEnd_evolves s⟩
  | .driftCheck tier chan beyond => ⟨_, execDriftCheck_evolves tier chan beyond s⟩
  | .channelRetrainTrigger tier chan deferrable => ⟨_, execChannelRetrainTrigger_evolves tier chan deferrable s⟩
  | .channelRetrain tier chan duration lanes => ⟨_, execChannelRetrain_evolves tier chan duration lanes s⟩
  | .retrainFail tier chan => ⟨_, execRetrainFail_evolves tier chan s⟩
  | .loopbackPass ring => ⟨_, execLoopbackPass_evolves ring s⟩
  | .portJoin port coord zone lanes => ⟨_, execPortJoin_evolves port coord zone lanes s⟩
  | .joinTimeLimit ring => ⟨_, execJoinTimeLimit_evolves ring s⟩
  | .ringRetry ring => ⟨_, execRingRetry_evolves ring s⟩
  | .linkLoss port => ⟨_, execLinkLoss_evolves port s⟩
  | .packetTransmit port => ⟨_, execPacketTransmit_evolves port s⟩
  | .packetReceive port packet corrected uncorrectable => ⟨_, execPacketReceive_evolves port packet corrected uncorrectable s⟩
  | .replayRequest port seq => ⟨_, execReplayRequest_evolves port seq s⟩
  | .portRetrain port => ⟨_, execPortRetrain_evolves port s⟩
  | .portRetrainDone port lanes => ⟨_, execPortRetrainDone_evolves port lanes s⟩
  | .portFailed port => ⟨_, execPortFailed_evolves port s⟩
  | .zoneFaultMessage node port => ⟨_, execZoneFaultMessage_evolves node port s⟩
  | .read src id addr len => ⟨_, execRead_evolves src id addr len s⟩
  | .write src id addr data => ⟨_, execWrite_evolves src id addr data s⟩
  | .copy src id addr dst len => ⟨_, execCopy_evolves src id addr dst len s⟩
  | .copyDone id status => ⟨_, execCopyDone_evolves id status s⟩
  | .addI64 src id addr operand => ⟨_, execAddI64_evolves src id addr operand s⟩
  | .addF32 src id addr operand => ⟨_, execAddF32_evolves src id addr operand s⟩
  | .msg src id queue body => ⟨_, execMsg_evolves src id queue body s⟩
  | .syncGet src id obj remote => ⟨_, execSyncGet_evolves src id obj remote s⟩
  | .syncSet src id obj remote value => ⟨_, execSyncSet_evolves src id obj remote value s⟩
  | .syncAdd src id obj remote value => ⟨_, execSyncAdd_evolves src id obj remote value s⟩
  | .syncMax src id obj remote value => ⟨_, execSyncMax_evolves src id obj remote value s⟩
  | .syncCas src id obj remote expected value => ⟨_, execSyncCas_evolves src id obj remote expected value s⟩
  | .syncRecord src id obj remote value => ⟨_, execSyncRecord_evolves src id obj remote value s⟩
  | .syncStepMax src id obj remote value => ⟨_, execSyncStepMax_evolves src id obj remote value s⟩
  | .syncStepAdd src id obj remote value => ⟨_, execSyncStepAdd_evolves src id obj remote value s⟩
  | .syncWait src id obj remote value limit => ⟨_, execSyncWait_evolves src id obj remote value limit s⟩
  | .syncWaitSatisfied place => ⟨_, execSyncWaitSatisfied_evolves place s⟩
  | .syncWaitTimeout place => ⟨_, execSyncWaitTimeout_evolves place s⟩
  | .remoteReply id status data => ⟨_, execRemoteReply_evolves id status data s⟩
  | .remoteTimeout id => ⟨_, execRemoteTimeout_evolves id s⟩
  | .bridgePacket layer tensor pass mb opno chunk level op rows n data down =>
    ⟨_, execBridgePacket_evolves layer tensor pass mb opno chunk level op rows n data down s⟩
  | .stepSyncUpdate delay value => ⟨_, execStepSyncUpdate_evolves delay value s⟩
  | .stepSyncAck delay value => ⟨_, execStepSyncAck_evolves delay value s⟩
  | .extensionPosted frame => ⟨_, execExtensionPosted_evolves frame s⟩
  | .timeExchange port delay partnerLocked offset => ⟨_, execTimeExchange_evolves port delay partnerLocked offset s⟩
  | .timeLock port value => ⟨_, execTimeLock_evolves port value s⟩
  | .parentLost other => ⟨_, execParentLost_evolves other s⟩
  | .timeUnlock => ⟨_, execTimeUnlock_evolves s⟩
  | .flitReceive flit => ⟨_, execFlitReceive_evolves flit s⟩
  | .vilnyRetrain => ⟨_, execVilnyRetrain_evolves s⟩
  | .vilnyTrainDone lanes spareFor => ⟨_, execVilnyTrainDone_evolves lanes spareFor s⟩
  | .vilnyLinkDown => ⟨_, execVilnyLinkDown_evolves s⟩
  | .vilnyTrainRetry => ⟨_, execVilnyTrainRetry_evolves s⟩
  | .events frame => ⟨_, execEvents_evolves frame s⟩
  | .put frame => ⟨_, execPut_evolves frame s⟩
  | .rows frame => ⟨_, execRows_evolves frame s⟩
  | .restore frame => ⟨_, execRestore_evolves frame s⟩
  | .settle frame => ⟨_, execSettle_evolves frame s⟩
  | .snapshotReq frame => ⟨_, execSnapshotReq_evolves frame s⟩
  | .readback frame => ⟨_, execReadback_evolves frame s⟩
  | .status frame => ⟨_, execStatus_evolves frame s⟩
  | .frameWaitLimit step => ⟨_, execFrameWaitLimit_evolves step s⟩
  | .boundExpiry frame => ⟨_, execBoundExpiry_evolves frame s⟩
  | .sdpGet bus req frame message => ⟨_, execSdpGet_evolves bus req frame message s⟩
  | .sdpSet bus req frame message => ⟨_, execSdpSet_evolves bus req frame message s⟩
  | .sdpOpen bus req frame message => ⟨_, execSdpOpen_evolves bus req frame message s⟩
  | .sdpClose bus req frame message => ⟨_, execSdpClose_evolves bus req frame message s⟩
  | .sdpSubscribe bus req frame message => ⟨_, execSdpSubscribe_evolves bus req frame message s⟩
  | .nonceExpiry bus req => ⟨_, execNonceExpiry_evolves bus req s⟩
  | .sessionIdle session => ⟨_, execSessionIdle_evolves session s⟩
  | .stagingIdle entry => ⟨_, execStagingIdle_evolves entry s⟩
  | .authLockoutEnd => ⟨_, execAuthLockoutEnd_evolves s⟩
  | .functionStart fn => ⟨_, execFunctionStart_evolves fn s⟩
  | .functionStop fn => ⟨_, execFunctionStop_evolves fn s⟩
  | .stoppingComplete => ⟨_, execStoppingComplete_evolves s⟩
  | .registerDataGet level => ⟨_, execRegisterDataGet_evolves level s⟩
  | .registerDataSet level value => ⟨_, execRegisterDataSet_evolves level value s⟩
  | .imageUpload image => ⟨_, execImageUpload_evolves image s⟩
  | .antiRollbackAdvance value => ⟨_, execAntiRollbackAdvance_evolves value s⟩
  | .ownerKeyEnrolment key => ⟨_, execOwnerKeyEnrolment_evolves key s⟩
  | .enrolledKeys level entries => ⟨_, execEnrolledKeys_evolves level entries s⟩
  | .attestationNonce nonce => ⟨_, execAttestationNonce_evolves nonce s⟩
  | .attestationReportReady => ⟨_, execAttestationReportReady_evolves s⟩
  | .calendarSet ns => ⟨_, execCalendarSet_evolves ns s⟩
  | .masterTimeSet ns => ⟨_, execMasterTimeSet_evolves ns s⟩
  | .diceTestStart die ctr => ⟨_, execDiceTestStart_evolves die ctr s⟩
  | .diceTestDone die => ⟨_, execDiceTestDone_evolves die s⟩
  | .restart die value priv => ⟨_, execRestart_evolves die value priv s⟩
  | .blockReset die value priv => ⟨_, execBlockReset_evolves die value priv s⟩
  | .blockResetDone die => ⟨_, execBlockResetDone_evolves die s⟩
  | .flush priv => ⟨_, execFlush_evolves priv s⟩
  | .otpProgramDone => ⟨_, execOtpProgramDone_evolves s⟩
  | .slowWriteApply window => ⟨_, execSlowWriteApply_evolves window s⟩
  | .registerWrite addr width data priv => ⟨_, execRegisterWrite_evolves addr width data priv s⟩
  | .slowClockEdge mgmt => ⟨_, execSlowClockEdge_evolves mgmt s⟩
  | .pinReset => ⟨_, execPinReset_evolves s⟩
  | .resetNRelease low asReset => ⟨_, execResetNRelease_evolves low asReset s⟩
  | .internalReset waited => ⟨_, execInternalReset_evolves waited s⟩
  | .powerOnReset => ⟨_, execPowerOnReset_evolves s⟩
  | .vinLoss => ⟨_, execVinLoss_evolves s⟩
  | .vbakLoss => ⟨_, execVbakLoss_evolves s⟩
  | .bringupPhaseDone found => ⟨_, execBringupPhaseDone_evolves found s⟩
  | .phaseOver die block unit => ⟨_, execPhaseOver_evolves die block unit s⟩
  | .clockGood die domain => ⟨_, execClockGood_evolves die domain s⟩
  | .clockUnstable die domain => ⟨_, execClockUnstable_evolves die domain s⟩
  | .clockRecoveryLimit die domain => ⟨_, execClockRecoveryLimit_evolves die domain s⟩
  | .powerStateEntry => ⟨_, execPowerStateEntry_evolves s⟩
  | .powerStateSettled => ⟨_, execPowerStateSettled_evolves s⟩
  | .wake => ⟨_, execWake_evolves s⟩
  | .wakeComplete => ⟨_, execWakeComplete_evolves s⟩
  | .vinLow mv => ⟨_, execVinLow_evolves mv s⟩
  | .hot die temp => ⟨_, execHot_evolves die temp s⟩
  | .faultShutdown thermal => ⟨_, execFaultShutdown_evolves thermal s⟩
  | .coreFault die core => ⟨_, execCoreFault_evolves die core s⟩
  | .managementCoreFault core => ⟨_, execManagementCoreFault_evolves core s⟩
  | .hotsetBankFault die bank => ⟨_, execHotsetBankFault_evolves die bank s⟩
  | .regulatorPhaseFail die => ⟨_, execRegulatorPhaseFail_evolves die s⟩
  | .spareRecordRewrite => ⟨_, execSpareRecordRewrite_evolves s⟩
  | .counterFlush => ⟨_, execCounterFlush_evolves s⟩
  | .thermalCycle die => ⟨_, execThermalCycle_evolves die s⟩
  | .mgmtPhyLink up active => ⟨_, execMgmtPhyLink_evolves up active s⟩

/-- The invariant does not speak of the queue. -/
theorem State.sound_setPending {s : State} (h : s.sound) (rest : List Instr) : State.sound { s with pending := rest } := by
  intro p
  have hp := h p
  cases p <;> exact hp

/-- Settles O59, by cases on the queue: a command in front answers as `exec_evolves` says, and an empty queue leaves the idle tick. -/
theorem stepKeepsSound : Obligations.StepKeepsSound := by
  intro s hs
  unfold step
  cases s.pending with
  | nil => exact ⟨s.idle, rfl, (State.idle_evolves s).2 hs⟩
  | cons c rest =>
    obtain ⟨P, t, ht, -, hsound⟩ := exec_evolves c { s with pending := rest }
    exact ⟨t, ht, hsound (State.sound_setPending hs rest)⟩

end Sys2Proof.Machine

/-! Writes of a register's upper half. In the model, and in `Obligations.RegisterWrites`, the data of a 4-byte write at the upper
half of a register's slot is written `v % 0x100000000 <<< 32`. `<<<` binds tighter than `%`, so this is `v` itself and not its low
word moved up: the model writes bits of the lower half that lie outside the access, where the statement, and R420, keep them. -/

namespace Sys2Proof.Machine

/-- The data of a 4-byte write at an upper half is the whole operand, in place. -/
theorem upperHalfData_eq (v : BitVec 64) : v.toNat % 0x100000000 <<< 32 = v.toNat := Nat.mod_eq_of_lt v.isLt

/-- So a write of bytes [7:4] of CONV.DICE_CTRL on C0 reaches the register with data in bits that its mask leaves out. -/
theorem State.regWrite_upperHalf (s : State) (v : BitVec 64) (h : s.held 0 5 = false) :
    s.regWrite 0x50044 4 v.toNat false = some (s.regEffect 0 Reg.convDiceCtrl 0xFFFFFFFF00000000 v.toNat) := by
  have haccess : regAccess 0x50044 4 = some (0, 5, 0x40) := by decide
  have hguard : guarded (5 * 0x10000 + 0x40) = false := by decide
  have hput : s.regPut 0 Reg.convDiceCtrl 0xFFFFFFFF00000000 v.toNat
      = s.regEffect 0 Reg.convDiceCtrl 0xFFFFFFFF00000000 v.toNat := if_neg (by rw [Bool.not_eq_true]; exact h)
  unfold State.regWrite
  rw [haccess]
  simp only [hguard]
  exact congrArg some ((congrArg (s.regPut 0 Reg.convDiceCtrl 0xFFFFFFFF00000000) (upperHalfData_eq v)).trans hput)

/-- The counterexample: 1 is written to bytes [7:4] of CONV.DICE_CTRL, a 32-bit register, which ignores it under R420. -/
def upperHalfWrite : Instr := .registerWrite 0x7F000050044 4 1#64 false

/-- From reset the write sets bit 0 of the register. -/
theorem exec_upperHalfWrite : exec upperHalfWrite State.reset = .next (State.reset.setReg 0 Reg.convDiceCtrl 1) := by
  have hwrite := State.regWrite_upperHalf State.reset 1#64 (by decide +kernel)
  have heffect : State.reset.regEffect 0 Reg.convDiceCtrl 0xFFFFFFFF00000000 1 = State.reset.setReg 0 Reg.convDiceCtrl 1 := by
    decide +kernel
  exact congrArg (fun o : Option State => Host.Outcome.next (o.getD State.reset)) (hwrite.trans (congrArg some heffect))

/-- Refutes O50: in state `State.reset` the command `upperHalfWrite` changes bit 0 of CONV.DICE_CTRL, which its mask leaves out. -/
theorem not_registerWrites : ¬ Obligations.RegisterWrites := by
  intro h
  obtain ⟨-, -, hserved⟩ := h State.reset false 1#64 0x7F000050044 4
  obtain ⟨-, -, -, hfree⟩ := hserved 0 5 0x40 (by decide) (by decide)
  obtain ⟨-, hplain, -⟩ := hfree (by decide +kernel)
  obtain ⟨t, ht, -, -, hbits⟩ := hplain (by decide) (by decide) (by decide) (by decide) (by decide) (by decide) (by decide)
    (by decide) (by decide)
  obtain rfl : State.reset.setReg 0 Reg.convDiceCtrl 1 = t := by
    injection exec_upperHalfWrite.symm.trans ht
  have hbit := hbits 0 (by decide)
  revert hbit
  decide +kernel

end Sys2Proof.Machine

/-! The idle tick. A tick is time, the end of an MGMT cycle, the end of the starts under way, and a flit. The end of a start sets the
state of its own function only, since all that training and the fabric do as they enter Running leaves the dictionary but for its log. -/

namespace Sys2Proof.Machine

/-! ### Settings of the dictionary: operations that do no more to the dictionary than log events -/

/-- The dictionary's settings, `Dict.settings`, are the same in both states. -/
def State.keepsSettings (s t : State) : Prop := s.dict.settings t.dict

theorem State.keepsSettings_refl (s : State) : s.keepsSettings s := Dict.settings_refl _

theorem State.keepsSettings_step {s t u : State} (k : t.keepsSettings u) (h : s.keepsSettings t) : s.keepsSettings u :=
  Dict.settings_trans h k

/-- An operation that leaves the whole dictionary leaves its settings. -/
theorem State.keepsSettings_evolves {s t u : State} {P : List Part} (k : t.evolves u P)
    (hP : P.contains .dict = false) (h : s.keepsSettings t) : s.keepsSettings u := by
  have hdict : u.dict = t.dict := k.1 .dict hP
  unfold State.keepsSettings
  rw [hdict]
  exact h

theorem State.keepsSettings_ite {s a b : State} {c : Prop} [Decidable c] (ha : s.keepsSettings a)
    (hb : s.keepsSettings b) : s.keepsSettings (if c then a else b) := by
  split
  · exact ha
  · exact hb

theorem State.keepsSettings_foldl {α : Type} {g : State → α → State}
    (hg : ∀ (a : State) (x : α), a.keepsSettings (g a x)) (l : List α) {s t : State} (h : s.keepsSettings t) :
    s.keepsSettings (l.foldl g t) := by
  induction l generalizing t with
  | nil => exact h
  | cons x l ih => exact ih (State.keepsSettings_step (hg _ _) h)

section
variable {s t : State} (h : s.keepsSettings t)
include h

theorem State.keepsSettings_set_num {a : Num} : s.keepsSettings { t with num := a } := h
theorem State.keepsSettings_set_upd {a : Upd} : s.keepsSettings { t with upd := a } := h
theorem State.keepsSettings_set_dram {a : Dram} : s.keepsSettings { t with dram := a } := h
theorem State.keepsSettings_set_fab {a : Fab} : s.keepsSettings { t with fab := a } := h
theorem State.keepsSettings_set_adm {a : Adm} : s.keepsSettings { t with adm := a } := h

end

theorem State.event_keepsSettings (s : State) (code : Nat) (params : Bytes) : s.keepsSettings (s.event code params) :=
  State.event_settings _ _ _

theorem State.breakFrames_keepsSettings (s : State) (cls step : Nat) (news : List (Nat × Nat)) :
    s.keepsSettings (s.breakFrames cls step news) := by
  unfold State.breakFrames
  refine State.keepsSettings_ite (State.keepsSettings_refl _) ?_
  refine State.keepsSettings_evolves (State.releaseNever_evolves _ _) rfl ?_
  refine State.keepsSettings_set_adm ?_
  refine State.keepsSettings_evolves (State.orReg_evolves _ _ _ _) rfl ?_
  refine State.keepsSettings_evolves (State.bump_evolves _ _ _ _) rfl ?_
  exact State.keepsSettings_evolves (State.sendStatus_evolves _ _) rfl (State.event_keepsSettings _ _ _)

theorem State.breakStep_keepsSettings (s : State) (cls : Nat) (reload : Option Nat) :
    s.keepsSettings (s.breakStep cls reload) := by
  unfold State.breakStep
  cases reload with
  | none => exact State.breakFrames_keepsSettings _ _ _ _
  | some extra => exact State.keepsSettings_set_adm (State.breakFrames_keepsSettings _ _ _ _)

theorem State.jobFault_keepsSettings (s : State) (cls : Nat) (reload : Option Nat) :
    s.keepsSettings (s.jobFault cls reload) := by
  unfold State.jobFault
  exact State.keepsSettings_evolves (State.setFault_evolves _ _) rfl (State.breakStep_keepsSettings _ _ _)

theorem State.applyStepSync_keepsSettings (s : State) (step ext delay cls : Nat) :
    s.keepsSettings (s.applyStepSync step ext delay cls) := by
  have hseen := State.keepsSettings_set_fab (State.keepsSettings_refl s)
    (a := { s.fab with seen := (step, max ext (s.seenOf step).1, max delay (s.seenOf step).2) })
  unfold State.applyStepSync
  refine State.keepsSettings_ite hseen (State.keepsSettings_ite ?_ ?_)
  · exact State.keepsSettings_step (State.breakFrames_keepsSettings _ _ _ _) (State.keepsSettings_set_adm hseen)
  · exact State.keepsSettings_evolves (State.raiseFrames_evolves _ _) rfl (State.keepsSettings_set_adm hseen)

theorem State.fanOut_keepsSettings (s : State) (cls : Nat) : s.keepsSettings (s.fanOut cls) := by
  unfold State.fanOut
  refine State.keepsSettings_evolves (State.passUpdate_evolves _ _ _ _) rfl ?_
  refine State.keepsSettings_step (State.applyStepSync_keepsSettings _ _ _ _ _) ?_
  exact State.keepsSettings_evolves (State.answerUpdate_evolves _ _ _) rfl (State.keepsSettings_refl _)

theorem State.post_keepsSettings (s : State) (delay : Bool) (step ns cls : Nat) (why : Purpose) :
    s.keepsSettings (s.post delay step ns cls why) := by
  have hop : ∀ sub o a, s.keepsSettings (s.syncOp sub o a 0) := fun _ _ _ =>
    State.keepsSettings_evolves (State.syncOp_evolves _ _ _ _ _) rfl (State.keepsSettings_refl _)
  unfold State.post
  refine State.keepsSettings_ite (State.keepsSettings_refl _) (State.keepsSettings_ite ?_ ?_)
  · exact State.keepsSettings_ite (hop _ _ _) (State.keepsSettings_step (State.fanOut_keepsSettings _ _) (hop _ _ _))
  · exact State.keepsSettings_evolves (State.request_evolves _ _ _ _ _ _ _ _ _ _ _) rfl (State.keepsSettings_refl _)

theorem State.breakAll_keepsSettings (s : State) (cls ns : Nat) : s.keepsSettings (s.breakAll cls ns) := by
  unfold State.breakAll
  refine State.keepsSettings_ite (State.keepsSettings_set_adm (State.breakFrames_keepsSettings _ _ _ _)) ?_
  refine State.keepsSettings_step (State.post_keepsSettings _ _ _ _ _ _) (State.keepsSettings_set_fab ?_)
  exact State.keepsSettings_set_adm (State.breakFrames_keepsSettings _ _ _ _)

theorem State.retrainTrigger_keepsSettings (s : State) (tier chan : Nat) (deferrable : Bool) :
    s.keepsSettings (s.retrainTrigger tier chan deferrable) := by
  unfold State.retrainTrigger
  refine State.keepsSettings_ite (State.keepsSettings_refl _) (State.keepsSettings_ite ?_ ?_)
  · exact State.keepsSettings_ite (State.keepsSettings_refl _) (State.keepsSettings_set_dram (State.keepsSettings_refl _))
  · refine State.keepsSettings_evolves (State.showSuspended_evolves _) rfl ?_
    refine State.keepsSettings_evolves (State.showTraining_evolves _) rfl ?_
    refine State.keepsSettings_step (State.breakAll_keepsSettings _ _ _) ?_
    have hlisted := State.keepsSettings_refl s
    exact State.keepsSettings_ite (State.keepsSettings_set_dram hlisted)
      (State.keepsSettings_set_adm (State.keepsSettings_set_dram hlisted))

theorem State.rowEvent_keepsSettings (s : State) (kind : Nat) (p : Place) : s.keepsSettings (s.rowEvent kind p) := by
  unfold State.rowEvent
  refine State.keepsSettings_evolves (State.updSpare_evolves _ _) rfl ?_
  refine State.keepsSettings_evolves (State.lifeLog_evolves _ _ _ _ _) rfl ?_
  refine State.keepsSettings_evolves (State.errLoc_evolves _ _ _) rfl ?_
  exact State.keepsSettings_evolves (State.flag_evolves _ _ _ _) rfl (State.event_keepsSettings _ _ _)

theorem State.retireBank_keepsSettings (s : State) (p : Place) : s.keepsSettings (s.retireBank p) := by
  unfold State.retireBank
  refine State.keepsSettings_ite (State.keepsSettings_refl _) ?_
  exact State.keepsSettings_step (State.rowEvent_keepsSettings _ _ _) (State.keepsSettings_set_dram (State.keepsSettings_refl _))

theorem State.repeatFail_keepsSettings (s : State) (p : Place) (spare : Option Nat) :
    s.keepsSettings (s.repeatFail p spare) := by
  have hcounted := fun n => State.keepsSettings_step
    (State.rowEvent_keepsSettings { s with dram := { s.dram with repeats := n } } 4 p)
    (State.keepsSettings_set_dram (State.keepsSettings_refl s))
  have htold := fun n => State.keepsSettings_ite (c := p.tier = 0)
    (State.keepsSettings_evolves (State.bump_evolves _ (2 + chanDie 0 p.chan) Reg.hbmcRemapRepeatCount 1) rfl (hcounted n))
    (hcounted n)
  unfold State.repeatFail
  dsimp only
  cases spare with
  | none =>
    exact State.keepsSettings_ite (State.keepsSettings_step (State.retireBank_keepsSettings _ _) (htold _)) (htold _)
  | some k =>
    have hmoved := fun n => State.keepsSettings_evolves
      (State.flag_evolves _ (2 + chanDie p.tier p.chan) (tierStatus p.tier) (2 + p.tier)) rfl
      (State.keepsSettings_evolves (State.remapRow_evolves _ p k) rfl (htold n))
    exact State.keepsSettings_ite (State.keepsSettings_step (State.retireBank_keepsSettings _ _) (hmoved _)) (hmoved _)

theorem State.rowFails_keepsSettings (s : State) (p : Place) : s.keepsSettings (s.rowFails p) := by
  have hmarked := fun n => State.keepsSettings_set_dram (State.keepsSettings_refl s) (a := { s.dram with rowErrs := n })
  unfold State.rowFails
  refine State.keepsSettings_ite (State.keepsSettings_step (State.repeatFail_keepsSettings _ _ _) (hmarked _)) ?_
  split
  · refine State.keepsSettings_step (State.rowEvent_keepsSettings _ _ _) ?_
    exact State.keepsSettings_evolves (State.remapRow_evolves _ _ _) rfl (hmarked _)
  · exact State.keepsSettings_step (State.repeatFail_keepsSettings _ _ _) (hmarked _)

/-- One more operation, where a condition asks for it. -/
theorem State.keepsSettings_when {s t u : State} {c : Prop} [Decidable c] (k : t.keepsSettings u) (h : s.keepsSettings t) :
    s.keepsSettings (if c then u else t) := State.keepsSettings_ite (State.keepsSettings_step k h) h

theorem State.uncorrectableError_keepsSettings (s : State) (sector : Nat) :
    s.keepsSettings (s.uncorrectableError sector) := by
  have h0 := State.keepsSettings_refl s
  unfold State.uncorrectableError
  refine State.keepsSettings_when (State.retrainTrigger_keepsSettings _ _ _ _) ?_
  refine State.keepsSettings_step (State.rowFails_keepsSettings _ _) ?_
  have hcounted : ∀ t : State, s.keepsSettings t → s.keepsSettings (if t.dram.poison.contains sector then t
      else { t with dram := { t.dram with poison := t.dram.poison ++ [sector] } }) := fun _ h =>
    State.keepsSettings_ite h (State.keepsSettings_set_dram h)
  refine hcounted _ (State.keepsSettings_evolves (State.errLoc_evolves _ _ _) rfl (State.keepsSettings_ite ?_ ?_))
  · refine State.keepsSettings_evolves (State.bump_evolves _ _ _ _) rfl ?_
    exact State.keepsSettings_evolves (State.flagCount_evolves _ _ _ _ _ _) rfl h0
  · refine State.keepsSettings_evolves (State.bump_evolves _ _ _ _) rfl ?_
    refine State.keepsSettings_evolves (State.flagCount_evolves _ _ _ _ _ _) rfl ?_
    exact State.keepsSettings_evolves (State.flag_evolves _ _ _ _) rfl h0

theorem State.meetPoison_keepsSettings (s : State) (a n : Nat) : s.keepsSettings (s.meetPoison a n) := by
  unfold State.meetPoison
  exact State.keepsSettings_foldl State.uncorrectableError_keepsSettings _ (State.keepsSettings_refl _)

theorem State.memoryFault_keepsSettings (s : State) (phase : Bool) : s.keepsSettings (s.memoryFault phase) := by
  unfold State.memoryFault
  exact State.keepsSettings_ite (State.jobFault_keepsSettings _ _ _) (State.keepsSettings_refl _)

theorem State.failRead_keepsSettings (s : State) (a n : Nat) : s.keepsSettings (s.failRead a n) := by
  unfold State.failRead
  exact State.keepsSettings_step (State.memoryFault_keepsSettings _ _) (State.meetPoison_keepsSettings _ _ _)

theorem State.metCarries_keepsSettings (s : State) (step : Nat) : s.keepsSettings (s.metCarries step) := by
  unfold State.metCarries
  refine State.keepsSettings_foldl (fun a _ => ?_) _ (State.keepsSettings_refl _)
  exact State.keepsSettings_ite (State.failRead_keepsSettings _ _ _) (State.keepsSettings_refl _)

/-! ### The end of a start -/

theorem State.startNum_keepsSettings (s : State) : s.keepsSettings s.startNum := by
  have hread : ∀ a b, s.keepsSettings ((s.meetPoison a 0x12C000).meetPoison b 0x12C000) := fun _ _ =>
    State.keepsSettings_step (State.meetPoison_keepsSettings _ _ _) (State.meetPoison_keepsSettings _ _ _)
  unfold State.startNum
  refine State.keepsSettings_set_num (State.keepsSettings_ite ?_ ?_)
  · exact State.keepsSettings_evolves (State.setCube_evolves _ _) rfl
      (State.keepsSettings_set_num (State.keepsSettings_set_num (hread _ _)))
  · split
    · refine State.keepsSettings_evolves (State.takeCarries_evolves _ _) rfl ?_
      have hclean : ∀ x : State, s.keepsSettings x → ∀ c v w,
          s.keepsSettings (if c = true then x.setCube v else x.setCube w) :=
        fun _ h _ _ _ => State.keepsSettings_ite (State.keepsSettings_evolves (State.setCube_evolves _ _) rfl h)
          (State.keepsSettings_evolves (State.setCube_evolves _ _) rfl h)
      refine hclean _ (State.keepsSettings_evolves (State.setReg_evolves _ _ _ _) rfl ?_) _ _ _
      exact State.keepsSettings_set_num (State.keepsSettings_set_num (hread _ _))
    · refine State.keepsSettings_step (State.event_keepsSettings _ _ _) ?_
      refine State.keepsSettings_evolves (State.orReg_evolves _ _ _ _) rfl ?_
      refine State.keepsSettings_evolves (State.setReg_evolves _ _ _ _) rfl ?_
      refine State.keepsSettings_evolves (State.setReg_evolves _ _ _ _) rfl ?_
      refine State.keepsSettings_evolves (State.setCube_evolves _ _) rfl ?_
      refine State.keepsSettings_evolves (State.takeCarries_evolves _ _) rfl ?_
      exact State.keepsSettings_set_num (State.keepsSettings_set_num (hread _ _))

theorem State.startTraining_keepsSettings (s : State) : s.keepsSettings s.startTraining := by
  unfold State.startTraining
  refine State.keepsSettings_evolves (State.syncOp_evolves _ _ _ _ _) rfl ?_
  refine State.keepsSettings_evolves (State.syncOp_evolves _ _ _ _ _) rfl ?_
  refine State.keepsSettings_evolves (State.syncOp_evolves _ _ _ _ _) rfl ?_
  refine State.keepsSettings_evolves (State.syncOp_evolves _ _ _ _ _) rfl ?_
  refine State.keepsSettings_step (State.metCarries_keepsSettings _ _) ?_
  refine State.keepsSettings_set_fab (State.keepsSettings_set_upd ?_)
  refine State.keepsSettings_step (State.startNum_keepsSettings _) ?_
  exact State.keepsSettings_evolves (State.recheckSlots_evolves _) rfl (State.keepsSettings_refl _)

theorem State.startFabric_keepsSettings (s : State) : s.keepsSettings s.startFabric := by
  have hready := State.keepsSettings_set_fab (State.keepsSettings_refl s)
    (a := { s.fab with zoneFault := false, trouble := none })
  unfold State.startFabric
  refine State.keepsSettings_ite hready (State.keepsSettings_when (State.keepsSettings_evolves (State.flag_evolves _ _ _ _) rfl
    (State.keepsSettings_refl _)) ?_)
  refine State.keepsSettings_step (State.event_keepsSettings _ _ _) ?_
  exact State.keepsSettings_evolves (State.flag_evolves _ _ _ _) rfl hready

theorem State.fn_of_keepsSettings {s t : State} (h : s.keepsSettings t) : t.dict.fn = s.dict.fn := by
  obtain ⟨-, -, -, hfn, -⟩ := h
  exact hfn

/-- A function that is Starting ends Stopped or Running; every other function stays as it is (R404). -/
theorem State.finishStart_fn (s : State) (fn : Nat) (h : s.fnState fn = 2) :
    (s.finishStart fn).dict.fn = s.dict.fn.set fn 0 ∨ (s.finishStart fn).dict.fn = s.dict.fn.set fn 1 := by
  unfold State.finishStart
  rw [if_neg (by simp [h])]
  dsimp only
  split
  · exact .inl rfl
  · right
    split
    · exact State.fn_of_keepsSettings (State.startTraining_keepsSettings _)
    · exact State.fn_of_keepsSettings (State.startFabric_keepsSettings _)
    · rfl
    · rfl

theorem State.finishStart_of_not_starting (s : State) (fn : Nat) (h : s.fnState fn ≠ 2) : s.finishStart fn = s := by
  unfold State.finishStart
  rw [if_pos h]

theorem getD_set_ne_two {l : List Nat} {fn v j : Nat} (hv : v ≠ 2) (h : j = fn ∨ l.getD j 0 ≠ 2) :
    (l.set fn v).getD j 0 ≠ 2 := by
  rw [List.getD_eq_getElem?_getD, List.getElem?_set]
  split
  · split
    · exact hv
    · decide
  · next hne =>
    rw [← List.getD_eq_getElem?_getD]
    exact h.resolve_left (Ne.symm hne)

/-- After the end of a function's start it is not Starting, and none that was not is. -/
theorem State.finishStart_not_starting (s : State) (fn j : Nat) (h : j = fn ∨ s.fnState j ≠ 2) :
    (s.finishStart fn).fnState j ≠ 2 := by
  by_cases hfn : s.fnState fn = 2
  · unfold State.fnState at h ⊢
    rcases State.finishStart_fn s fn hfn with e | e
    · rw [e]
      exact getD_set_ne_two (by decide) h
    · rw [e]
      exact getD_set_ne_two (by decide) h
  · rw [State.finishStart_of_not_starting s fn hfn]
    rcases h with rfl | h
    · exact hfn
    · exact h

theorem State.finishStart_foldl_not_starting (l : List Nat) (s : State) (j : Nat) (h : j ∈ l ∨ s.fnState j ≠ 2) :
    (l.foldl (fun s fn => s.finishStart fn) s).fnState j ≠ 2 := by
  induction l generalizing s with
  | nil => exact h.resolve_left List.not_mem_nil
  | cons fn l ih =>
    refine ih _ ?_
    rcases h with h | h
    · rcases List.mem_cons.mp h with rfl | h
      · exact .inr (State.finishStart_not_starting s _ _ (.inl rfl))
      · exact .inl h
    · exact .inr (State.finishStart_not_starting s _ _ (.inr h))

theorem State.finishStarts_of_none_starting (s : State) (h : ∀ x ∈ s.dict.fn, x ≠ 2) : s.finishStarts = s := by
  unfold State.finishStarts
  rw [if_pos (by simpa using h)]

theorem State.finishStarts_not_starting (s : State) (fn : Nat) (hfn : fn < 5) : s.finishStarts.fnState fn ≠ 2 := by
  unfold State.finishStarts
  split
  · next h =>
    have hall : ∀ x ∈ s.dict.fn, x ≠ 2 := by simpa using h
    unfold State.fnState
    by_cases hlen : fn < s.dict.fn.length
    · rw [List.getD_eq_getElem _ _ hlen]
      exact hall _ (List.getElem_mem hlen)
    · rw [List.getD_eq_default _ _ (by omega)]
      decide
  · exact State.finishStart_foldl_not_starting _ s fn (.inl (by simp; omega))

/-! ### The idle tick -/

theorem State.tickTime_time (s : State) :
    s.time ≤ s.tickTime.time ∧ s.tickTime.time ≤ s.time + 2 ∧ (s.fab.slew = 0 → s.tickTime.time = s.time + 1) := by
  unfold State.tickTime
  split
  · next h => exact ⟨Nat.le_add_right _ _, Nat.le_refl _, fun h0 => by omega⟩
  · split
    · next h => exact ⟨Nat.le_refl _, Nat.le_add_right _ _, fun h0 => by omega⟩
    · exact ⟨Nat.le_add_right _ _, Nat.le_succ _, fun _ => rfl⟩

theorem State.idle_time (s : State) : s.idle.time = s.tickTime.time := by
  have hsend := (State.sendFlit_evolves s.tickTime.endCycle.finishStarts).1 .time (by decide)
  have hstart := (State.finishStarts_evolves s.tickTime.endCycle).1 .time (by decide)
  have hcycle := (State.endCycle_evolves s.tickTime).1 .time (by decide)
  exact hsend.trans (hstart.trans hcycle)

theorem State.sendFlit_of_not_up (s : State) (h : s.vlk.state ≠ 2) : s.sendFlit = s := by
  unfold State.sendFlit
  rw [if_pos h]

theorem State.endCycle_keepsSettings (s : State) : s.keepsSettings s.endCycle := by
  unfold State.endCycle
  split
  · refine State.keepsSettings_ite (State.keepsSettings_refl _) ?_
    unfold State.tellLevel
    split
    · exact State.keepsSettings_refl _
    · refine State.keepsSettings_ite (Dict.settings_refl _) ?_
      exact State.keepsSettings_evolves (State.lifeLog_evolves _ _ _ _ _) rfl
        (State.keepsSettings_step (State.event_keepsSettings _ _ _) (Dict.settings_refl _))
  · exact State.keepsSettings_refl _

/-- While no function is Starting and the link is not up, a tick is time and the end of the MGMT cycle. -/
theorem State.idle_quiet (s : State) (hfn : ∀ x ∈ s.dict.fn, x ≠ 2) (hvlk : s.vlk.state ≠ 2) :
    s.idle = s.tickTime.endCycle := by
  have hdict := State.fn_of_keepsSettings (State.endCycle_keepsSettings s.tickTime)
  have htick : s.tickTime.dict = s.dict := (State.tickTime_evolves s).1 .dict (by decide)
  have hstart : s.tickTime.endCycle.finishStarts = s.tickTime.endCycle :=
    State.finishStarts_of_none_starting _ (by rw [hdict, htick]; exact hfn)
  have hup : s.tickTime.endCycle.vlk = s.vlk :=
    Eq.trans ((State.endCycle_evolves s.tickTime).1 .vlk (by decide)) ((State.tickTime_evolves s).1 .vlk (by decide))
  unfold State.idle
  rw [hstart]
  exact State.sendFlit_of_not_up _ (by rw [hup]; exact hvlk)

theorem State.lifeLog_change (s : State) (kind die unit detail : Nat) :
    (s.lifeLog kind die unit detail).life.change = s.life.change := by
  have hwrite : ∀ t : State, t.framWrite.life = t.life := fun t => (State.framWrite_evolves t).1 .life (by decide)
  unfold State.lifeLog
  dsimp only
  rw [hwrite]
  split <;> rfl

/-- Once told, a change of the level waits no longer (R468). -/
theorem State.tellLevel_change (s : State) : s.tellLevel.life.change = none := by
  unfold State.tellLevel
  split
  · assumption
  · dsimp only
    split
    · rfl
    · rw [State.lifeLog_change, (State.event_evolves _ _ _).1 .life (by decide)]

theorem State.endCycle_of_no_change (s : State) (h : s.life.change = none) : s.endCycle = s := by
  unfold State.endCycle
  rw [h]

theorem State.endCycle_change (s : State) (c : LevelChange) (h : s.life.change = some c) (hc : c.cycle ≠ s.time / 40) :
    s.endCycle.life.change = none := by
  unfold State.endCycle
  rw [h]
  exact (congrArg (fun t : State => t.life.change) (if_neg hc)).trans (State.tellLevel_change s)

end Sys2Proof.Machine

/-! A step and its queue. The laws of Laws/Frame*.lean list the parts that a command may change; the queue is among them for the
resets only, which replace every part and put the queue of before. -/

namespace Sys2Proof.Machine

/-! ### The queue of commands -/

/-- Where the outcome is a next state, its queue is that of `s`. -/
def Outcome.keepsQueue (s : State) (o : Host.Outcome State Fault Refusal) : Prop := ∀ t, o = .next t → t.pending = s.pending

theorem Outcome.keepsQueue_evolves {s : State} {P : List Part} {o : Host.Outcome State Fault Refusal}
    (h : Outcome.evolves s P o) (hP : P.contains .pending = false) : Outcome.keepsQueue s o := by
  obtain ⟨t, rfl, hchanges, -⟩ := h
  intro u hu
  obtain rfl : t = u := by injection hu
  exact hchanges .pending hP

/-- An operation that does not list the queue among what it may change keeps it. -/
theorem State.pending_evolves {s t : State} {P : List Part} (k : s.evolves t P)
    (hP : P.contains .pending = false) : t.pending = s.pending := k.1 .pending hP

/-! A reset replaces every part of the state, so its laws list the queue; what it puts there is the queue of before. -/

theorem State.cleared_pending (s : State) (power : Bool) : (s.cleared power).pending = s.pending := rfl

theorem State.internalReset_pending (s : State) (delay : Nat) : (s.internalReset delay).pending = s.pending := by
  unfold State.internalReset
  dsimp only
  rw [State.cleared_pending, State.pending_evolves (State.flushCounters_evolves _) rfl,
    State.pending_evolves (State.wear_evolves _ _ _) rfl, State.pending_evolves (State.bump_evolves _ _ _ _) rfl,
    State.pending_evolves (State.completeWrites_evolves _) rfl, State.pending_evolves (State.resetRecord_evolves _ _ _ _) rfl,
    State.pending_evolves (State.tellLevel_evolves _) rfl]
  split
  · exact State.pending_evolves (State.powerRecord_evolves s) rfl
  · rfl

theorem State.pinStart_pending (s : State) : s.pinStart.pending = s.pending := by
  have hstop : ((s.stopFrets [0, 1]).suspendErases (s.stopFrets [0, 1]).time true).pending = s.pending :=
    (State.pending_evolves (State.suspendErases_evolves _ _ _) rfl).trans (State.pending_evolves (State.stopFrets_evolves _ _) rfl)
  unfold State.pinStart
  split
  · rfl
  · dsimp only
    split
    · exact hstop
    · exact (State.internalReset_pending _ _).trans hstop

theorem State.railsFall_pending (s : State) : s.railsFall.pending = s.pending := by
  unfold State.railsFall State.unpowered
  dsimp only
  rw [State.cleared_pending, State.pending_evolves (State.suspendErases_evolves _ _ _) rfl,
    State.pending_evolves (State.flushCounters_evolves _) rfl, State.pending_evolves (State.tellLevel_evolves _) rfl]

theorem Outcome.keepsQueue_next {s t : State} (h : t.pending = s.pending) : Outcome.keepsQueue s (.next t) := by
  intro u hu
  obtain rfl : t = u := by injection hu
  exact h

theorem execPinReset_keepsQueue (s : State) : Outcome.keepsQueue s (execPinReset s) :=
  Outcome.keepsQueue_next (State.pinStart_pending _)

theorem execInternalReset_keepsQueue (waited : Nat) (s : State) : Outcome.keepsQueue s (execInternalReset waited s) := by
  refine Outcome.keepsQueue_next ?_
  split
  · exact State.internalReset_pending _ _
  · rfl

theorem execResetNRelease_keepsQueue (low : Nat) (asReset : Bool) (s : State) :
    Outcome.keepsQueue s (execResetNRelease low asReset s) := by
  refine Outcome.keepsQueue_next ?_
  split
  · rfl
  · split
    · rfl
    · split
      · exact State.pending_evolves (State.glitch_evolves _ _) rfl
      · exact State.pinStart_pending _

theorem execPowerOnReset_keepsQueue (s : State) : Outcome.keepsQueue s (execPowerOnReset s) := by
  refine Outcome.keepsQueue_next ?_
  split
  · rfl
  · exact State.cleared_pending s true

theorem execVinLoss_keepsQueue (s : State) : Outcome.keepsQueue s (execVinLoss s) := by
  refine Outcome.keepsQueue_next ?_
  split
  · rfl
  · dsimp only
    split
    · rfl
    · exact State.railsFall_pending _

theorem execFaultShutdown_keepsQueue (thermal : Bool) (s : State) : Outcome.keepsQueue s (execFaultShutdown thermal s) := by
  refine Outcome.keepsQueue_next ?_
  split
  · rfl
  · dsimp only
    rw [State.railsFall_pending, State.pending_evolves (State.resetRecord_evolves _ _ _ _) rfl]
    split
    · exact State.pending_evolves (State.powerRecord_evolves s) rfl
    · rfl

/-- No arm of `exec` changes the queue: its law does not list it, or the arm is a reset. -/
theorem exec_keepsQueue (c : Instr) (s : State) : Outcome.keepsQueue s (exec c s) :=
  match c with
  | .nop f => Outcome.keepsQueue_evolves (execNop_evolves f s) rfl
  | .loadb f supply ue => Outcome.keepsQueue_evolves (execLoadb_evolves f supply ue s) rfl
  | .loadbDone f => Outcome.keepsQueue_evolves (execLoadbDone_evolves f s) rfl
  | .swapb f => Outcome.keepsQueue_evolves (execSwapb_evolves f s) rfl
  | .stream f wait ce supply ue sample => Outcome.keepsQueue_evolves (execStream_evolves f wait ce supply ue sample s) rfl
  | .spill f slot => Outcome.keepsQueue_evolves (execSpill_evolves f slot s) rfl
  | .sumBoundExceeded f slot => Outcome.keepsQueue_evolves (execSumBoundExceeded_evolves f slot s) rfl
  | .epu f wait => Outcome.keepsQueue_evolves (execEpu_evolves f wait s) rfl
  | .conv f wait busWait line block => Outcome.keepsQueue_evolves (execConv_evolves f wait busWait line block s) rfl
  | .send f busWait => Outcome.keepsQueue_evolves (execSend_evolves f busWait s) rfl
  | .recv f supply ue => Outcome.keepsQueue_evolves (execRecv_evolves f supply ue s) rfl
  | .recvDone f supply => Outcome.keepsQueue_evolves (execRecvDone_evolves f supply s) rfl
  | .bridge f wait => Outcome.keepsQueue_evolves (execBridge_evolves f wait s) rfl
  | .bridgeResult die base => Outcome.keepsQueue_evolves (execBridgeResult_evolves die base s) rfl
  | .push f => Outcome.keepsQueue_evolves (execPush_evolves f s) rfl
  | .stageReady f ue => Outcome.keepsQueue_evolves (execStageReady_evolves f ue s) rfl
  | .summary f => Outcome.keepsQueue_evolves (execSummary_evolves f s) rfl
  | .summaryWaitEnd f => Outcome.keepsQueue_evolves (execSummaryWaitEnd_evolves f s) rfl
  | .summaryMailboxArrival die core take => Outcome.keepsQueue_evolves (execSummaryMailboxArrival_evolves die core take s) rfl
  | .loop f => Outcome.keepsQueue_evolves (execLoop_evolves f s) rfl
  | .wait f => Outcome.keepsQueue_evolves (execWait_evolves f s) rfl
  | .waitRelease f => Outcome.keepsQueue_evolves (execWaitRelease_evolves f s) rfl
  | .switch f => Outcome.keepsQueue_evolves (execSwitch_evolves f s) rfl
  | .switchWaitEnd f => Outcome.keepsQueue_evolves (execSwitchWaitEnd_evolves f s) rfl
  | .halt f => Outcome.keepsQueue_evolves (execHalt_evolves f s) rfl
  | .voicingLoad die value priv => Outcome.keepsQueue_evolves (execVoicingLoad_evolves die value priv s) rfl
  | .voicingLoadDone die ue => Outcome.keepsQueue_evolves (execVoicingLoadDone_evolves die ue s) rfl
  | .phaseStart die vid bound first count frame =>
    Outcome.keepsQueue_evolves (execPhaseStart_evolves die vid bound first count frame s) rfl
  | .overrun f => Outcome.keepsQueue_evolves (execOverrun_evolves f s) rfl
  | .phaseAtTwiceBound f => Outcome.keepsQueue_evolves (execPhaseAtTwiceBound_evolves f s) rfl
  | .fretFault die col physRow report => Outcome.keepsQueue_evolves (execFretFault_evolves die col physRow report s) rfl
  | .spareVoicingReloadDone die col => Outcome.keepsQueue_evolves (execSpareVoicingReloadDone_evolves die col s) rfl
  | .windowWrite addr width data => Outcome.keepsQueue_evolves (execWindowWrite_evolves addr width data s) rfl
  | .windowTimeout f write0 => Outcome.keepsQueue_evolves (execWindowTimeout_evolves f write0 s) rfl
  | .passVerdict layer backward => Outcome.keepsQueue_evolves (execPassVerdict_evolves layer backward s) rfl
  | .repeatImagesLoaded layer backward => Outcome.keepsQueue_evolves (execRepeatImagesLoaded_evolves layer backward s) rfl
  | .stepVerdict others => Outcome.keepsQueue_evolves (execStepVerdict_evolves others s) rfl
  | .tallyComplete frame => Outcome.keepsQueue_evolves (execTallyComplete_evolves frame s) rfl
  | .remoteRowRead source table row step => Outcome.keepsQueue_evolves (execRemoteRowRead_evolves source table row step s) rfl
  | .heldReadRelease => Outcome.keepsQueue_evolves (execHeldReadRelease_evolves s) rfl
  | .scatterTerm die table row term last => Outcome.keepsQueue_evolves (execScatterTerm_evolves die table row term last s) rfl
  | .sortMerge die => Outcome.keepsQueue_evolves (execSortMerge_evolves die s) rfl
  | .exchangeRecord src record => Outcome.keepsQueue_evolves (execExchangeRecord_evolves src record s) rfl
  | .exchangeEndMarker src => Outcome.keepsQueue_evolves (execExchangeEndMarker_evolves src s) rfl
  | .ownerReduction => Outcome.keepsQueue_evolves (execOwnerReduction_evolves s) rfl
  | .hotsetPushRow owner table row cls removal payload =>
    Outcome.keepsQueue_evolves (execHotsetPushRow_evolves owner table row cls removal payload s) rfl
  | .hotsetInstallComplete step pushed entered left migrations =>
    Outcome.keepsQueue_evolves (execHotsetInstallComplete_evolves step pushed entered left migrations s) rfl
  | .layerUpdate entry grad => Outcome.keepsQueue_evolves (execLayerUpdate_evolves entry grad s) rfl
  | .rowUpdate table row => Outcome.keepsQueue_evolves (execRowUpdate_evolves table row s) rfl
  | .moduleApplied => Outcome.keepsQueue_evolves (execModuleApplied_evolves s) rfl
  | .commitVote others => Outcome.keepsQueue_evolves (execCommitVote_evolves others s) rfl
  | .stepRerun => Outcome.keepsQueue_evolves (execStepRerun_evolves s) rfl
  | .voteTimeLimit answer => Outcome.keepsQueue_evolves (execVoteTimeLimit_evolves answer s) rfl
  | .checkpoint => Outcome.keepsQueue_evolves (execCheckpoint_evolves s) rfl
  | .memoryRequest cls addr write0 len corrected uncorrectable phase =>
    Outcome.keepsQueue_evolves (execMemoryRequest_evolves cls addr write0 len corrected uncorrectable phase s) rfl
  | .remapCopyDone tier chan bank row => Outcome.keepsQueue_evolves (execRemapCopyDone_evolves tier chan bank row s) rfl
  | .scrubPeriod tier lastPassDone => Outcome.keepsQueue_evolves (execScrubPeriod_evolves tier lastPassDone s) rfl
  | .maintenanceWindowStart lanes => Outcome.keepsQueue_evolves (execMaintenanceWindowStart_evolves lanes s) rfl
  | .maintenanceWindowEnd => Outcome.keepsQueue_evolves (execMaintenanceWindowEnd_evolves s) rfl
  | .driftCheck tier chan beyond => Outcome.keepsQueue_evolves (execDriftCheck_evolves tier chan beyond s) rfl
  | .channelRetrainTrigger tier chan deferrable =>
    Outcome.keepsQueue_evolves (execChannelRetrainTrigger_evolves tier chan deferrable s) rfl
  | .channelRetrain tier chan duration lanes =>
    Outcome.keepsQueue_evolves (execChannelRetrain_evolves tier chan duration lanes s) rfl
  | .retrainFail tier chan => Outcome.keepsQueue_evolves (execRetrainFail_evolves tier chan s) rfl
  | .loopbackPass ring => Outcome.keepsQueue_evolves (execLoopbackPass_evolves ring s) rfl
  | .portJoin port coord zone lanes => Outcome.keepsQueue_evolves (execPortJoin_evolves port coord zone lanes s) rfl
  | .joinTimeLimit ring => Outcome.keepsQueue_evolves (execJoinTimeLimit_evolves ring s) rfl
  | .ringRetry ring => Outcome.keepsQueue_evolves (execRingRetry_evolves ring s) rfl
  | .linkLoss port => Outcome.keepsQueue_evolves (execLinkLoss_evolves port s) rfl
  | .packetTransmit port => Outcome.keepsQueue_evolves (execPacketTransmit_evolves port s) rfl
  | .packetReceive port packet corrected uncorrectable =>
    Outcome.keepsQueue_evolves (execPacketReceive_evolves port packet corrected uncorrectable s) rfl
  | .replayRequest port seq => Outcome.keepsQueue_evolves (execReplayRequest_evolves port seq s) rfl
  | .portRetrain port => Outcome.keepsQueue_evolves (execPortRetrain_evolves port s) rfl
  | .portRetrainDone port lanes => Outcome.keepsQueue_evolves (execPortRetrainDone_evolves port lanes s) rfl
  | .portFailed port => Outcome.keepsQueue_evolves (execPortFailed_evolves port s) rfl
  | .zoneFaultMessage node port => Outcome.keepsQueue_evolves (execZoneFaultMessage_evolves node port s) rfl
  | .read src id addr len => Outcome.keepsQueue_evolves (execRead_evolves src id addr len s) rfl
  | .write src id addr data => Outcome.keepsQueue_evolves (execWrite_evolves src id addr data s) rfl
  | .copy src id addr dst len => Outcome.keepsQueue_evolves (execCopy_evolves src id addr dst len s) rfl
  | .copyDone id status => Outcome.keepsQueue_evolves (execCopyDone_evolves id status s) rfl
  | .addI64 src id addr operand => Outcome.keepsQueue_evolves (execAddI64_evolves src id addr operand s) rfl
  | .addF32 src id addr operand => Outcome.keepsQueue_evolves (execAddF32_evolves src id addr operand s) rfl
  | .msg src id queue body => Outcome.keepsQueue_evolves (execMsg_evolves src id queue body s) rfl
  | .syncGet src id obj remote => Outcome.keepsQueue_evolves (execSyncGet_evolves src id obj remote s) rfl
  | .syncSet src id obj remote value => Outcome.keepsQueue_evolves (execSyncSet_evolves src id obj remote value s) rfl
  | .syncAdd src id obj remote value => Outcome.keepsQueue_evolves (execSyncAdd_evolves src id obj remote value s) rfl
  | .syncMax src id obj remote value => Outcome.keepsQueue_evolves (execSyncMax_evolves src id obj remote value s) rfl
  | .syncCas src id obj remote expected value =>
    Outcome.keepsQueue_evolves (execSyncCas_evolves src id obj remote expected value s) rfl
  | .syncRecord src id obj remote value => Outcome.keepsQueue_evolves (execSyncRecord_evolves src id obj remote value s) rfl
  | .syncStepMax src id obj remote value => Outcome.keepsQueue_evolves (execSyncStepMax_evolves src id obj remote value s) rfl
  | .syncStepAdd src id obj remote value => Outcome.keepsQueue_evolves (execSyncStepAdd_evolves src id obj remote value s) rfl
  | .syncWait src id obj remote value limit =>
    Outcome.keepsQueue_evolves (execSyncWait_evolves src id obj remote value limit s) rfl
  | .syncWaitSatisfied place => Outcome.keepsQueue_evolves (execSyncWaitSatisfied_evolves place s) rfl
  | .syncWaitTimeout place => Outcome.keepsQueue_evolves (execSyncWaitTimeout_evolves place s) rfl
  | .remoteReply id status data => Outcome.keepsQueue_evolves (execRemoteReply_evolves id status data s) rfl
  | .remoteTimeout id => Outcome.keepsQueue_evolves (execRemoteTimeout_evolves id s) rfl
  | .bridgePacket layer tensor pass mb opno chunk level op rows n data down =>
    Outcome.keepsQueue_evolves (execBridgePacket_evolves layer tensor pass mb opno chunk level op rows n data down s) rfl
  | .stepSyncUpdate delay value => Outcome.keepsQueue_evolves (execStepSyncUpdate_evolves delay value s) rfl
  | .stepSyncAck delay value => Outcome.keepsQueue_evolves (execStepSyncAck_evolves delay value s) rfl
  | .extensionPosted frame => Outcome.keepsQueue_evolves (execExtensionPosted_evolves frame s) rfl
  | .timeExchange port delay partnerLocked offset =>
    Outcome.keepsQueue_evolves (execTimeExchange_evolves port delay partnerLocked offset s) rfl
  | .timeLock port value => Outcome.keepsQueue_evolves (execTimeLock_evolves port value s) rfl
  | .parentLost other => Outcome.keepsQueue_evolves (execParentLost_evolves other s) rfl
  | .timeUnlock => Outcome.keepsQueue_evolves (execTimeUnlock_evolves s) rfl
  | .flitReceive flit => Outcome.keepsQueue_evolves (execFlitReceive_evolves flit s) rfl
  | .vilnyRetrain => Outcome.keepsQueue_evolves (execVilnyRetrain_evolves s) rfl
  | .vilnyTrainDone lanes spareFor => Outcome.keepsQueue_evolves (execVilnyTrainDone_evolves lanes spareFor s) rfl
  | .vilnyLinkDown => Outcome.keepsQueue_evolves (execVilnyLinkDown_evolves s) rfl
  | .vilnyTrainRetry => Outcome.keepsQueue_evolves (execVilnyTrainRetry_evolves s) rfl
  | .events frame => Outcome.keepsQueue_evolves (execEvents_evolves frame s) rfl
  | .put frame => Outcome.keepsQueue_evolves (execPut_evolves frame s) rfl
  | .rows frame => Outcome.keepsQueue_evolves (execRows_evolves frame s) rfl
  | .restore frame => Outcome.keepsQueue_evolves (execRestore_evolves frame s) rfl
  | .settle frame => Outcome.keepsQueue_evolves (execSettle_evolves frame s) rfl
  | .snapshotReq frame => Outcome.keepsQueue_evolves (execSnapshotReq_evolves frame s) rfl
  | .readback frame => Outcome.keepsQueue_evolves (execReadback_evolves frame s) rfl
  | .status frame => Outcome.keepsQueue_evolves (execStatus_evolves frame s) rfl
  | .frameWaitLimit step => Outcome.keepsQueue_evolves (execFrameWaitLimit_evolves step s) rfl
  | .boundExpiry frame => Outcome.keepsQueue_evolves (execBoundExpiry_evolves frame s) rfl
  | .sdpGet bus req frame message => Outcome.keepsQueue_evolves (execSdpGet_evolves bus req frame message s) rfl
  | .sdpSet bus req frame message => Outcome.keepsQueue_evolves (execSdpSet_evolves bus req frame message s) rfl
  | .sdpOpen bus req frame message => Outcome.keepsQueue_evolves (execSdpOpen_evolves bus req frame message s) rfl
  | .sdpClose bus req frame message => Outcome.keepsQueue_evolves (execSdpClose_evolves bus req frame message s) rfl
  | .sdpSubscribe bus req frame message => Outcome.keepsQueue_evolves (execSdpSubscribe_evolves bus req frame message s) rfl
  | .nonceExpiry bus req => Outcome.keepsQueue_evolves (execNonceExpiry_evolves bus req s) rfl
  | .sessionIdle session => Outcome.keepsQueue_evolves (execSessionIdle_evolves session s) rfl
  | .stagingIdle entry => Outcome.keepsQueue_evolves (execStagingIdle_evolves entry s) rfl
  | .authLockoutEnd => Outcome.keepsQueue_evolves (execAuthLockoutEnd_evolves s) rfl
  | .functionStart fn => Outcome.keepsQueue_evolves (execFunctionStart_evolves fn s) rfl
  | .functionStop fn => Outcome.keepsQueue_evolves (execFunctionStop_evolves fn s) rfl
  | .stoppingComplete => Outcome.keepsQueue_evolves (execStoppingComplete_evolves s) rfl
  | .registerDataGet level => Outcome.keepsQueue_evolves (execRegisterDataGet_evolves level s) rfl
  | .registerDataSet level value => Outcome.keepsQueue_evolves (execRegisterDataSet_evolves level value s) rfl
  | .imageUpload image => Outcome.keepsQueue_evolves (execImageUpload_evolves image s) rfl
  | .antiRollbackAdvance value => Outcome.keepsQueue_evolves (execAntiRollbackAdvance_evolves value s) rfl
  | .ownerKeyEnrolment key => Outcome.keepsQueue_evolves (execOwnerKeyEnrolment_evolves key s) rfl
  | .enrolledKeys level entries => Outcome.keepsQueue_evolves (execEnrolledKeys_evolves level entries s) rfl
  | .attestationNonce nonce => Outcome.keepsQueue_evolves (execAttestationNonce_evolves nonce s) rfl
  | .attestationReportReady => Outcome.keepsQueue_evolves (execAttestationReportReady_evolves s) rfl
  | .calendarSet ns => Outcome.keepsQueue_evolves (execCalendarSet_evolves ns s) rfl
  | .masterTimeSet ns => Outcome.keepsQueue_evolves (execMasterTimeSet_evolves ns s) rfl
  | .diceTestStart die ctr => Outcome.keepsQueue_evolves (execDiceTestStart_evolves die ctr s) rfl
  | .diceTestDone die => Outcome.keepsQueue_evolves (execDiceTestDone_evolves die s) rfl
  | .restart die value priv => Outcome.keepsQueue_evolves (execRestart_evolves die value priv s) rfl
  | .blockReset die value priv => Outcome.keepsQueue_evolves (execBlockReset_evolves die value priv s) rfl
  | .blockResetDone die => Outcome.keepsQueue_evolves (execBlockResetDone_evolves die s) rfl
  | .flush priv => Outcome.keepsQueue_evolves (execFlush_evolves priv s) rfl
  | .otpProgramDone => Outcome.keepsQueue_evolves (execOtpProgramDone_evolves s) rfl
  | .slowWriteApply window => Outcome.keepsQueue_evolves (execSlowWriteApply_evolves window s) rfl
  | .registerWrite addr width data priv => Outcome.keepsQueue_evolves (execRegisterWrite_evolves addr width data priv s) rfl
  | .slowClockEdge mgmt => Outcome.keepsQueue_evolves (execSlowClockEdge_evolves mgmt s) rfl
  | .pinReset => execPinReset_keepsQueue s
  | .resetNRelease low asReset => execResetNRelease_keepsQueue low asReset s
  | .internalReset waited => execInternalReset_keepsQueue waited s
  | .powerOnReset => execPowerOnReset_keepsQueue s
  | .vinLoss => execVinLoss_keepsQueue s
  | .vbakLoss => Outcome.keepsQueue_evolves (execVbakLoss_evolves s) rfl
  | .bringupPhaseDone found => Outcome.keepsQueue_evolves (execBringupPhaseDone_evolves found s) rfl
  | .phaseOver die block unit => Outcome.keepsQueue_evolves (execPhaseOver_evolves die block unit s) rfl
  | .clockGood die domain => Outcome.keepsQueue_evolves (execClockGood_evolves die domain s) rfl
  | .clockUnstable die domain => Outcome.keepsQueue_evolves (execClockUnstable_evolves die domain s) rfl
  | .clockRecoveryLimit die domain => Outcome.keepsQueue_evolves (execClockRecoveryLimit_evolves die domain s) rfl
  | .powerStateEntry => Outcome.keepsQueue_evolves (execPowerStateEntry_evolves s) rfl
  | .powerStateSettled => Outcome.keepsQueue_evolves (execPowerStateSettled_evolves s) rfl
  | .wake => Outcome.keepsQueue_evolves (execWake_evolves s) rfl
  | .wakeComplete => Outcome.keepsQueue_evolves (execWakeComplete_evolves s) rfl
  | .vinLow mv => Outcome.keepsQueue_evolves (execVinLow_evolves mv s) rfl
  | .hot die temp => Outcome.keepsQueue_evolves (execHot_evolves die temp s) rfl
  | .faultShutdown thermal => execFaultShutdown_keepsQueue thermal s
  | .coreFault die core => Outcome.keepsQueue_evolves (execCoreFault_evolves die core s) rfl
  | .managementCoreFault core => Outcome.keepsQueue_evolves (execManagementCoreFault_evolves core s) rfl
  | .hotsetBankFault die bank => Outcome.keepsQueue_evolves (execHotsetBankFault_evolves die bank s) rfl
  | .regulatorPhaseFail die => Outcome.keepsQueue_evolves (execRegulatorPhaseFail_evolves die s) rfl
  | .spareRecordRewrite => Outcome.keepsQueue_evolves (execSpareRecordRewrite_evolves s) rfl
  | .counterFlush => Outcome.keepsQueue_evolves (execCounterFlush_evolves s) rfl
  | .thermalCycle die => Outcome.keepsQueue_evolves (execThermalCycle_evolves die s) rfl
  | .mgmtPhyLink up active => Outcome.keepsQueue_evolves (execMgmtPhyLink_evolves up active s) rfl

/-- Settles O57: `exec_keepsQueue` for a command in front; for an empty queue the laws of the idle tick's parts, of which the end
of the starts leaves no function Starting. -/
theorem stepRunsCommand : Obligations.StepRunsCommand := by
  intro s
  have hstep : ∀ c rest, s.pending = c :: rest → step s = exec c { s with pending := rest } := by
    intro c rest h
    unfold step
    rw [h]
  refine ⟨hstep, fun c t h => exec_keepsQueue c s t h, fun hempty => ?_⟩
  have hidle : step s = .next s.idle := by
    unfold step
    rw [hempty]
  obtain ⟨hlo, hhi, heven⟩ := State.tickTime_time s
  rw [← State.idle_time s] at hlo hhi heven
  have hlife : s.tickTime.life = s.life := (State.tickTime_evolves s).1 .life (by decide)
  refine ⟨hidle, (State.idle_evolves s).1, hlo, hhi, heven, fun hfn hchange hvlk => ?_, fun hfn hvlk c hc hcycle => ?_,
    s.tickTime.endCycle.finishStarts, rfl, State.sendFlit_of_not_up _, State.finishStarts_not_starting _⟩
  · rw [State.idle_quiet s hfn hvlk, State.endCycle_of_no_change _ (by rw [hlife]; exact hchange)]
    exact (State.tickTime_evolves s).1
  · rw [State.idle_time] at hcycle
    rw [State.idle_quiet s hfn hvlk]
    exact State.endCycle_change _ c (by rw [hlife]; exact hc) hcycle

end Sys2Proof.Machine

/-! One fret takes part in a phase. `State.armFret` changes one fret only, and what it does to that fret rests on the fret, the time
and the rungs in force; so the frets of a PHASE_START, armed one after another, do not disturb one another. -/

namespace Sys2Proof.Machine

/-! ### Which frets an operation touches -/

theorem State.onlyFret_step {s t u : State} {i : Nat} (k : t.onlyFret u i) (h : s.onlyFret t i) : s.onlyFret u i :=
  fun j hj => (k j hj).trans (h j hj)

theorem State.fret_evolves {s t : State} {P : List Part} (k : s.evolves t P)
    (hP : P.contains .frets = false) (i : Nat) : t.fret i = s.fret i := State.fret_of_frets (k.1 .frets hP) i

theorem State.onlyFret_evolves {s t u : State} {i : Nat} {P : List Part} (k : t.evolves u P)
    (hP : P.contains .frets = false) (h : s.onlyFret t i) : s.onlyFret u i := State.onlyFret_of_frets h (k.1 .frets hP)

theorem State.onlyFret_updFret {s t : State} {i : Nat} (h : s.onlyFret t i) (g : Fret → Fret) : s.onlyFret (t.updFret i g) i :=
  State.onlyFret_setFret h _

/-! ### Loads of a shadow slot -/

@[simp] theorem Fret.setSt_armed (f : Fret) (k v : Nat) : (f.setSt k v).armed = f.armed := by unfold Fret.setSt; split <;> rfl
@[simp] theorem Fret.setSt_active (f : Fret) (k v : Nat) : (f.setSt k v).active = f.active := by unfold Fret.setSt; split <;> rfl
@[simp] theorem Fret.setImg_armed (f : Fret) (k : Nat) (m : Img) : (f.setImg k m).armed = f.armed := by
  unfold Fret.setImg; split <;> rfl
@[simp] theorem Fret.setImg_active (f : Fret) (k : Nat) (m : Img) : (f.setImg k m).active = f.active := by
  unfold Fret.setImg; split <;> rfl
@[simp] theorem Fret.setLast_armed (f : Fret) (k a : Nat) : (f.setLast k a).armed = f.armed := by
  unfold Fret.setLast; split <;> rfl
@[simp] theorem Fret.setLast_active (f : Fret) (k a : Nat) : (f.setLast k a).active = f.active := by
  unfold Fret.setLast; split <;> rfl
@[simp] theorem Fret.emptySlot_armed (f : Fret) (k : Nat) : (f.emptySlot k).armed = f.armed := by simp [Fret.emptySlot]
@[simp] theorem Fret.emptySlot_active (f : Fret) (k : Nat) : (f.emptySlot k).active = f.active := by simp [Fret.emptySlot]
@[simp] theorem Fret.startLoad_armed (f : Fret) : f.startLoad.armed = f.armed := by simp [Fret.startLoad]
@[simp] theorem Fret.startLoad_active (f : Fret) : f.startLoad.active = f.active := by simp [Fret.startLoad]

/-- The end of a load changes one fret, by what it puts into the slot. -/
theorem State.finishLoad_fret (s : State) (i slot addr : Nat) (img : Img) (ue : Bool) :
    s.onlyFret (s.finishLoad i slot addr img ue).2 i
    ∧ ((s.finishLoad i slot addr img ue).2.fret i = (s.fret i).emptySlot slot
      ∨ (s.finishLoad i slot addr img ue).2.fret i = (((s.fret i).setImg slot img).setSt slot 2).setLast slot addr) := by
  have hupd := fun (t : State) g (h : s.onlyFret t i) => State.onlyFret_updFret h g
  have h0 := State.onlyFret_refl s i
  unfold State.finishLoad
  dsimp only
  split
  · refine ⟨State.onlyFret_evolves (State.flag_evolves _ _ _ _) rfl (hupd _ _ h0), .inl ?_⟩
    rw [State.fret_evolves (State.flag_evolves _ _ _ _) rfl, State.fret_updFret_same]
  · split
    · refine ⟨State.onlyFret_evolves (State.bump_evolves _ _ _ _) rfl
        (State.onlyFret_evolves (State.flag_evolves _ _ _ _) rfl (hupd _ _ h0)), .inl ?_⟩
      rw [State.fret_evolves (State.bump_evolves _ _ _ _) rfl, State.fret_evolves (State.flag_evolves _ _ _ _) rfl,
        State.fret_updFret_same]
    · have htables : ∀ c, s.onlyFret (if (Voicing.of img).tableSet = 0 then s else s.setCDie (i / 384) c) i
          ∧ (if (Voicing.of img).tableSet = 0 then s else s.setCDie (i / 384) c).fret i = s.fret i := by
        intro c
        split
        · exact ⟨h0, rfl⟩
        · exact ⟨State.onlyFret_evolves (State.setCDie_evolves _ _ _) rfl h0,
            State.fret_evolves (State.setCDie_evolves _ _ _) rfl i⟩
      refine ⟨State.onlyFret_evolves (State.updBoard_evolves _ _) rfl (hupd _ _ (htables _).1), .inr ?_⟩
      rw [State.fret_evolves (State.updBoard_evolves _ _) rfl, State.fret_updFret_same, (htables _).2]

/-- A load by the supervisor changes one fret, and neither its active slot nor what is armed for it. -/
theorem State.loadShadow_fret (s : State) (i vid : Nat) : s.onlyFret (s.loadShadow i vid) i
    ∧ ((s.loadShadow i vid).fret i).armed = (s.fret i).armed ∧ ((s.loadShadow i vid).fret i).active = (s.fret i).active := by
  unfold State.loadShadow
  split
  · exact ⟨State.onlyFret_refl s i, rfl, rfl⟩
  · next a _ =>
    let r := ((s.updFret i Fret.startLoad).sweepTables (i / 384)).meetPoison a 16384
    have hread : r.frets = (s.updFret i Fret.startLoad).frets :=
      Eq.trans ((State.meetPoison_evolves _ _ _).1 .frets rfl) ((State.sweepTables_evolves _ _).1 .frets rfl)
    have hmine : r.fret i = (s.fret i).startLoad := (State.fret_of_frets hread i).trans (State.fret_updFret_same _ _ _)
    have hrest : s.onlyFret r i := State.onlyFret_of_frets (State.onlyFret_updFret (State.onlyFret_refl s i) _) hread
    obtain ⟨honly, hloaded⟩ := State.finishLoad_fret r i (s.fret i).shadow a (s.imageAt a) false
    refine ⟨State.onlyFret_step honly hrest, ?_⟩
    rcases hloaded with h | h <;> rw [h, hmine] <;> simp

theorem State.followShadow_onlyFret (s : State) (i : Nat) : s.onlyFret (s.followShadow i) i := by
  unfold State.followShadow
  dsimp only
  split
  · exact State.onlyFret_refl s i
  · exact (State.loadShadow_fret _ _ _).1

theorem State.loadNext_onlyFret (s : State) (i : Nat) : s.onlyFret (s.loadNext i) i := by
  unfold State.loadNext
  split
  · exact State.onlyFret_step (State.loadShadow_fret _ _ _).1 (State.onlyFret_updFret (State.onlyFret_refl s i) _)
  · exact State.onlyFret_refl s i

theorem State.switchFret_onlyFret (s : State) (i : Nat) (halted : Bool) : s.onlyFret (s.switchFret i halted) i := by
  have hfollow := State.followShadow_onlyFret s i
  unfold State.switchFret
  dsimp only
  split
  · refine State.onlyFret_step (State.loadNext_onlyFret _ _) (State.onlyFret_evolves (State.markLane_evolves _ _ _) rfl ?_)
    refine State.onlyFret_evolves (State.beginPhase_evolves _ _) rfl (State.onlyFret_setFret ?_ _)
    exact State.onlyFret_evolves (State.leavePhase_evolves _ _) rfl hfollow
  · exact State.onlyFret_evolves (State.bump_evolves _ _ _ _) rfl (State.onlyFret_setFret hfollow _)
  · refine State.onlyFret_evolves (State.flag_evolves _ _ _ _) rfl ?_
    split
    · exact hfollow
    · exact State.onlyFret_setFret hfollow _

/-! ### The rungs in force -/

/-- What the rungs in force rest on is the same: the images of the library, and the pass records (R212). -/
def State.sameRungs (s t : State) : Prop :=
  t.mem = s.mem ∧ t.board.lib = s.board.lib ∧ t.num.passes = s.num.passes

theorem State.rungVid_of_sameRungs {s t : State} (h : s.sameRungs t) (vid : Nat) :
    t.rungVid t.library vid = s.rungVid s.library vid := by
  obtain ⟨hmem, hlib, hpasses⟩ := h
  have himage : ∀ a, t.imageAt a = s.imageAt a := fun a => by unfold State.imageAt; rw [hmem]
  have hlibrary : t.library = s.library := by
    unfold State.library
    simp only [hlib, himage]
  unfold State.rungVid State.inputRung State.rungOfPass
  simp only [hlibrary, hpasses]

theorem State.sameRungs_refl (s : State) : s.sameRungs s := ⟨rfl, rfl, rfl⟩

theorem State.sameRungs_step {s t u : State} (k : t.sameRungs u) (h : s.sameRungs t) : s.sameRungs u := by
  obtain ⟨kmem, klib, kpasses⟩ := k
  obtain ⟨hmem, hlib, hpasses⟩ := h
  exact ⟨kmem.trans hmem, klib.trans hlib, kpasses.trans hpasses⟩

theorem State.sameRungs_evolves {s t u : State} {P : List Part} (k : t.evolves u P)
    (hP : (P.contains .mem || P.contains .board || P.contains .num) = false) (h : s.sameRungs t) : s.sameRungs u := by
  simp only [Bool.or_eq_false_iff] at hP
  obtain ⟨⟨hmem, hboard⟩, hnum⟩ := hP
  exact State.sameRungs_step ⟨k.1 .mem hmem, congrArg Board.lib (k.1 .board hboard), congrArg Num.passes (k.1 .num hnum)⟩ h

theorem State.sameRungs_ite {s a b : State} {c : Prop} [Decidable c] (ha : s.sameRungs a) (hb : s.sameRungs b) :
    s.sameRungs (if c then a else b) := by
  split
  · exact ha
  · exact hb

theorem State.recordTime_sameRungs (s : State) (die vid cycles bound : Nat) : s.sameRungs (s.recordTime die vid cycles bound) :=
  State.sameRungs_ite ⟨rfl, rfl, rfl⟩ (State.sameRungs_refl s)

theorem State.leavePhase_sameRungs (s : State) (i : Nat) : s.sameRungs (s.leavePhase i) := by
  unfold State.leavePhase
  dsimp only
  split
  · exact State.sameRungs_refl s
  · next p _ =>
    refine State.sameRungs_ite ?_ ⟨rfl, rfl, rfl⟩
    refine State.sameRungs_step (State.recordTime_sameRungs _ _ _ _ _) ?_
    have htold : ∀ (t : State) n code params, s.sameRungs t → s.sameRungs (if n = 0 then t else t.event code params) :=
      fun _ _ _ _ h => State.sameRungs_ite h (State.sameRungs_evolves (State.event_evolves _ _ _) rfl h)
    exact htold _ _ _ _ (htold _ _ _ _ ⟨rfl, rfl, rfl⟩)

theorem State.beginPhase_sameRungs (s : State) (i : Nat) : s.sameRungs (s.beginPhase i) := by
  unfold State.beginPhase
  dsimp only
  split <;> exact ⟨rfl, rfl, rfl⟩

/-! ### A switch without a load -/

theorem State.followShadow_of_current (s : State) (i : Nat) (h : s.shadowCurrent i = true) : s.followShadow i = s := by
  unfold State.followShadow
  exact if_pos h

theorem State.loadNext_of_none (s : State) (i : Nat) (h : (s.fret i).follow = []) : s.loadNext i = s := by
  unfold State.loadNext
  rw [h]

/-- What the parts of a switch do to the accumulators: only counts of terms and spills, and bound events, are dropped (R121). -/
theorem switchAcc_eq (f : Fret) (o : Option Voicing) (n : Voicing) : ∃ terms spills bounded,
    switchAcc f o n = { f with terms := terms, spills := spills, bounded := bounded } := by
  cases o with
  | none => exact ⟨_, _, _, rfl⟩
  | some o => exact ⟨_, _, _, rfl⟩

theorem Fret.swapBanks_eq (f : Fret) : ∃ bankA bankB cur,
    f.swapBanks = { f with bankA := bankA, bankB := bankB, cur := cur } := by
  unfold Fret.swapBanks Fret.setIdle
  dsimp only
  split
  · exact ⟨_, _, _, rfl⟩
  · exact ⟨_, _, _, rfl⟩

/-- The phase of a fret that switches into its shadow slot: what was armed, without a bound for a voicing that has no cost (R110). -/
def Fret.armedPhase (f : Fret) (time : Nat) : FretPhase :=
  let new := Voicing.of (f.img f.shadow)
  match f.armed.find? fun a => new.answers a.1.vid with
  | some a => { a.1 with
      vid := new.vid, start := time, bound := if (Descr.of (f.img f.shadow)).fixed ≠ 0 then a.1.bound else none }
  | none => ⟨new.vid, none, false, time⟩

/-- The frame of that phase. -/
def Fret.armedFrame (f : Fret) : Option (Nat × Nat) :=
  match f.armed.find? fun a => (Voicing.of (f.img f.shadow)).answers a.1.vid with
  | some a => a.2
  | none => none

/-- The fret runs in `g` what stood in the shadow slot of `f`, in the phase that was armed, with the data of `f` (R102). -/
def Fret.runsShadow (f : Fret) (time : Nat) (g : Fret) : Prop :=
  g.active = f.shadow ∧ g.run = 1 ∧ f.sameData g ∧ g.phase = some (f.armedPhase time) ∧ g.frame = f.armedFrame
    ∧ g.follow = f.follow

/-- A SWAPB at the start of the program changes none of that (R92). -/
theorem Fret.runsShadow_swapBanks {f g : Fret} {time : Nat} (h : f.runsShadow time g) :
    f.runsShadow time g.swapBanks.advance := by
  obtain ⟨bankA, bankB, cur, hswap⟩ := Fret.swapBanks_eq g
  rw [hswap]
  exact h

theorem Fret.switched_runsShadow (f : Fret) (time : Nat) : f.runsShadow time (f.switched time) := by
  have hfirst : ∀ (g : Fret) (c : Bool), f.runsShadow time g →
      f.runsShadow time (if c = true then g.swapBanks.advance else g) := by
    intro g c h
    cases c with
    | true => exact Fret.runsShadow_swapBanks h
    | false => exact h
  obtain ⟨terms, spills, bounded, hacc⟩ :=
    switchAcc_eq f (if f.active < 2 then some f.voicing else none) (Voicing.of (f.img f.shadow))
  unfold Fret.switched
  simp only [hacc]
  exact hfirst _ _ ⟨rfl, rfl, ⟨rfl, rfl, rfl, rfl, rfl, rfl, rfl, rfl, rfl⟩, rfl, rfl, rfl⟩

/-- Where the shadow slot holds the image at the rungs in force and no repeat is under way, a switch loads nothing. -/
theorem State.switchFret_of_current (s : State) (i : Nat) (halted : Bool) (hcur : s.shadowCurrent i = true)
    (hfollow : (s.fret i).follow = []) (hloaded : (s.fret i).st (s.fret i).shadow = 2) :
    ∃ v, s.switchFret i halted
      = (((s.leavePhase i).setFret i ((s.fret i).switched s.time)).beginPhase i).markLane i v := by
  have htime : (s.leavePhase i).time = s.time := (State.leavePhase_evolves s i).1 .time (by decide)
  have hfret : ∀ v, ((((s.leavePhase i).setFret i ((s.fret i).switched s.time)).beginPhase i).markLane i v).fret i
      = (s.fret i).switched s.time := by
    intro v
    rw [State.fret_evolves (State.markLane_evolves _ _ _) rfl, State.fret_evolves (State.beginPhase_evolves _ _) rfl,
      State.fret_setFret_same]
  unfold State.switchFret
  simp only [State.followShadow_of_current s i hcur, hloaded, htime]
  obtain ⟨-, -, -, -, -, hnext⟩ := Fret.switched_runsShadow (s.fret i) s.time
  exact ⟨_, State.loadNext_of_none _ _ (by rw [hfret, hnext, hfollow])⟩

theorem State.switchFret_fret_of_current (s : State) (i : Nat) (halted : Bool) (hcur : s.shadowCurrent i = true)
    (hfollow : (s.fret i).follow = []) (hloaded : (s.fret i).st (s.fret i).shadow = 2) :
    (s.switchFret i halted).fret i = (s.fret i).switched s.time := by
  obtain ⟨v, h⟩ := State.switchFret_of_current s i halted hcur hfollow hloaded
  rw [h, State.fret_evolves (State.markLane_evolves _ _ _) rfl, State.fret_evolves (State.beginPhase_evolves _ _) rfl,
    State.fret_setFret_same]

theorem State.switchFret_sameRungs (s : State) (i : Nat) (halted : Bool) (hcur : s.shadowCurrent i = true)
    (hfollow : (s.fret i).follow = []) : s.sameRungs (s.switchFret i halted) := by
  have h0 := State.sameRungs_refl s
  have hset := fun f => State.sameRungs_evolves (State.setFret_evolves s i f) rfl h0
  by_cases hloaded : (s.fret i).st (s.fret i).shadow = 2
  · obtain ⟨v, h⟩ := State.switchFret_of_current s i halted hcur hfollow hloaded
    rw [h]
    refine State.sameRungs_evolves (State.markLane_evolves _ _ _) rfl (State.sameRungs_step (State.beginPhase_sameRungs _ _) ?_)
    exact State.sameRungs_evolves (State.setFret_evolves _ _ _) rfl (State.leavePhase_sameRungs s i)
  · unfold State.switchFret
    simp only [State.followShadow_of_current s i hcur]
    split
    · exact absurd ‹_› hloaded
    · exact State.sameRungs_evolves (State.bump_evolves _ _ _ _) rfl (hset _)
    · exact State.sameRungs_evolves (State.flag_evolves _ _ _ _) rfl (State.sameRungs_ite h0 (hset _))

/-! ### One fret takes part in a phase -/

theorem Fret.shadows_iff (f : Fret) (vid : Nat) :
    f.shadows vid = true ↔ f.st f.shadow = 1 ∨ (f.st f.shadow = 2 ∧ (Voicing.of (f.img f.shadow)).vid = vid) := by
  simp [Fret.shadows]

/-- A shadow slot that holds or receives the voicing holds no other image of its ladder set. -/
theorem State.shadowsSet_of_shadows (s : State) (i vid : Nat) (h : (s.fret i).shadows vid = true) :
    s.shadowsSet i vid = false := by
  unfold State.shadowsSet
  rcases (Fret.shadows_iff _ _).mp h with h | ⟨-, h⟩
  · simp [h]
  · simp [h]

/-- Such a slot is current while the voicing is the one at the rungs in force (R212). -/
theorem State.shadowCurrent_of_shadows (s : State) (i vid : Nat) (h : (s.fret i).shadows vid = true)
    (hrungs : s.rungVid s.library vid = vid) : s.shadowCurrent i = true := by
  unfold State.shadowCurrent
  rcases (Fret.shadows_iff _ _).mp h with h | ⟨-, h⟩
  · simp [h]
  · simp [h, hrungs]

/-- When the phase that a fret runs began: now, where it runs none. -/
def Fret.phaseStart (f : Fret) (time : Nat) : Nat :=
  match f.phase with
  | some p => p.start
  | none => time

/-- A fret that runs the voicing without a bound gets the phase's, or none where the voicing has no cost (R110). -/
theorem State.armFret_of_awaits (s : State) (i vid bound : Nat) (frame : Option (Nat × Nat))
    (h : (s.fret i).awaitsBound vid = true) : s.armFret i vid bound frame = s.setFret i { s.fret i with
      phase := some ⟨vid, if (Descr.of (s.fret i).aimg).fixed = 0 then none else some bound, false,
        (s.fret i).phaseStart s.time⟩
      frame := frame } := by
  unfold State.armFret
  exact if_pos h

/-- A fret whose shadow slot holds or receives the voicing is armed, and switches where it is halted (R111). -/
theorem State.armFret_of_shadows (s : State) (i vid bound : Nat) (frame : Option (Nat × Nat))
    (hawaits : (s.fret i).awaitsBound vid = false) (h : (s.fret i).shadows vid = true) : s.armFret i vid bound frame =
      if (s.fret i).run = 0 then (s.updFret i (·.arm (⟨vid, some bound, false, s.time⟩, frame))).switchFret i true
      else s.updFret i (·.arm (⟨vid, some bound, false, s.time⟩, frame)) := by
  unfold State.armFret
  simp only [hawaits, State.shadowsSet_of_shadows s i vid h]
  rfl

theorem State.armFret_onlyFret (s : State) (i vid bound : Nat) (frame : Option (Nat × Nat)) :
    s.onlyFret (s.armFret i vid bound frame) i := by
  have hload : s.onlyFret (if s.shadowsSet i vid then s.loadShadow i vid else s) i := by
    split
    · exact (State.loadShadow_fret s i vid).1
    · exact State.onlyFret_refl s i
  unfold State.armFret
  dsimp only
  split
  · exact State.onlyFret_setFret (State.onlyFret_refl s i) _
  · split
    · exact State.onlyFret_step (State.switchFret_onlyFret _ _ _) (State.onlyFret_updFret hload _)
    · exact State.onlyFret_updFret hload _

/-- A running fret that runs another voicing is armed, whether or not its shadow slot is loaded first (R212). -/
theorem State.armFret_running (s : State) (i vid bound : Nat) (frame : Option (Nat × Nat))
    (hawaits : (s.fret i).awaitsBound vid = false) (hrun : (s.fret i).run ≠ 0) :
    ((s.armFret i vid bound frame).fret i).armed = ((s.fret i).arm (⟨vid, some bound, false, s.time⟩, frame)).armed
    ∧ ((s.armFret i vid bound frame).fret i).active = (s.fret i).active := by
  obtain ⟨-, harmed, hactive⟩ := State.loadShadow_fret s i vid
  have htime : (s.loadShadow i vid).time = s.time := (State.loadShadow_evolves s i vid).1 .time (by decide)
  unfold State.armFret
  simp only [hawaits, hrun, if_false, State.fret_updFret_same, Fret.arm, Bool.false_eq_true]
  split
  · exact ⟨by rw [harmed, htime], hactive⟩
  · exact ⟨rfl, rfl⟩

/-- Arming a fret leaves what its shadow slot holds, so the slot stays current. -/
theorem State.shadowCurrent_updFret_arm (s : State) (i vid : Nat) (a : FretPhase × Option (Nat × Nat))
    (h : (s.fret i).shadows vid = true) (hrungs : s.rungVid s.library vid = vid) :
    (s.updFret i (·.arm a)).shadowCurrent i = true := by
  have hfret := State.fret_updFret_same s i (·.arm a)
  exact State.shadowCurrent_of_shadows _ _ vid (by rw [hfret]; exact h) hrungs

/-- A halted fret that is armed for the voicing in its shadow slot, at the rungs in force, switches into it (R111). -/
theorem State.armFret_halted (s : State) (i vid bound : Nat) (frame : Option (Nat × Nat)) (hrun : (s.fret i).run = 0)
    (hloaded : (s.fret i).st (s.fret i).shadow = 2) (hvid : (Voicing.of ((s.fret i).img (s.fret i).shadow)).vid = vid)
    (hfollow : (s.fret i).follow = []) (hrungs : s.rungVid s.library vid = vid) :
    (s.armFret i vid bound frame).fret i = ((s.fret i).arm (⟨vid, some bound, false, s.time⟩, frame)).switched s.time := by
  have hshadows : (s.fret i).shadows vid = true := (Fret.shadows_iff _ _).mpr (.inr ⟨hloaded, hvid⟩)
  have hawaits : (s.fret i).awaitsBound vid = false := by simp [Fret.awaitsBound, hrun]
  have hfret := State.fret_updFret_same s i (·.arm (⟨vid, some bound, false, s.time⟩, frame))
  have hswitch := State.switchFret_fret_of_current _ i true
    (State.shadowCurrent_updFret_arm s i vid (⟨vid, some bound, false, s.time⟩, frame) hshadows hrungs)
    (by rw [hfret]; exact hfollow) (by rw [hfret]; exact hloaded)
  rw [State.armFret_of_shadows s i vid bound frame hawaits hshadows, if_pos hrun, hswitch, hfret]
  rfl

/-- What a fret with nothing armed runs once it is armed for the voicing in its shadow slot and switches (R110, R111). -/
theorem Fret.arm_armedPhase (f : Fret) (bound time : Nat) (frame : Option (Nat × Nat)) (harmed : f.armed = []) :
    let a : FretPhase × Option (Nat × Nat) := (⟨(Voicing.of (f.img f.shadow)).vid, some bound, false, time⟩, frame)
    (f.arm a).armedPhase time = ⟨(Voicing.of (f.img f.shadow)).vid,
        if (Descr.of (f.img f.shadow)).fixed = 0 then none else some bound, false, time⟩
    ∧ (f.arm a).armedFrame = frame := by
  intro a
  have hfind : (f.arm a).armed.find? (fun x => (Voicing.of ((f.arm a).img (f.arm a).shadow)).answers x.1.vid) = some a := by
    show ((f.armed.filter _) ++ [a]).find? (fun x => (Voicing.of (f.img f.shadow)).answers x.1.vid) = some a
    simp [harmed, a, Voicing.answers]
  unfold Fret.armedPhase Fret.armedFrame
  simp only [hfind]
  refine ⟨?_, rfl⟩
  show (⟨_, if (Descr.of (f.img f.shadow)).fixed ≠ 0 then some bound else none, false, time⟩ : FretPhase) = _
  simp only [ne_eq, ite_not]
  rfl

/-- Does a fret join a phase of the voicing at once, or by its shadow slot as it is? No load by the supervisor comes first. -/
def Fret.joins (f : Fret) (vid : Nat) : Prop := (f.awaitsBound vid = true ∨ f.shadows vid = true) ∧ f.follow = []

theorem State.armFret_sameRungs (s : State) (i vid bound : Nat) (frame : Option (Nat × Nat)) (h : (s.fret i).joins vid)
    (hrungs : s.rungVid s.library vid = vid) : s.sameRungs (s.armFret i vid bound frame) := by
  have h0 := State.sameRungs_refl s
  obtain ⟨hjoins, hfollow⟩ := h
  cases hawaits : (s.fret i).awaitsBound vid with
  | true =>
    rw [State.armFret_of_awaits s i vid bound frame hawaits]
    exact State.sameRungs_evolves (State.setFret_evolves _ _ _) rfl h0
  | false =>
    have hshadows : (s.fret i).shadows vid = true := hjoins.resolve_left (by simp [hawaits])
    have harmed := State.sameRungs_evolves
      (State.updFret_evolves s i (·.arm (⟨vid, some bound, false, s.time⟩, frame))) rfl h0
    rw [State.armFret_of_shadows s i vid bound frame hawaits hshadows]
    refine State.sameRungs_ite (State.sameRungs_step (State.switchFret_sameRungs _ _ _ ?_ ?_) harmed) harmed
    · exact State.shadowCurrent_updFret_arm s i vid _ hshadows hrungs
    · rw [State.fret_updFret_same]
      exact hfollow

/-! ### The frets of a phase -/

/-- The frets at a die's places `first` up that take part in a phase (R24, R111). -/
def State.phaseFrets (s : State) (d v first count : Nat) : List Nat :=
  (((List.range 384).filter fun k => first ≤ k && k < first + count).map fun k => d * 384 + k).filter fun i =>
    (s.fret i).run ≠ 2 && ((s.fret i).awaitsBound v || (s.fret i).shadows v || s.shadowsSet i v)

theorem State.mem_phaseFrets (s : State) (d v first count k : Nat) (hk : k < 384) :
    d * 384 + k ∈ s.phaseFrets d v first count ↔ (first ≤ k ∧ k < first + count) ∧ (s.fret (d * 384 + k)).run ≠ 2
      ∧ ((s.fret (d * 384 + k)).awaitsBound v = true ∨ (s.fret (d * 384 + k)).shadows v = true
        ∨ s.shadowsSet (d * 384 + k) v = true) := by
  simp [State.phaseFrets, hk, or_assoc]

theorem State.phaseFrets_nodup (s : State) (d v first count : Nat) : (s.phaseFrets d v first count).Nodup :=
  ((List.nodup_range.filter _).map fun _ _ h => Nat.add_left_cancel h).filter _

/-- Each fret of a list takes part in a phase. -/
def State.armFrets (s : State) (v bound : Nat) (frame : Option (Nat × Nat)) (idx : List Nat) : State :=
  idx.foldl (fun s i => s.armFret i v bound frame) s

theorem execPhaseStart_eq (die : Fin 2) (vid : BitVec 16) (bound first count : Nat) (frame : Option (Nat × Nat)) (s : State) :
    let v := s.rungVid s.library vid.toNat
    let idx := s.phaseFrets die.val v first count
    execPhaseStart die vid bound first count frame s =
      .next (if idx.isEmpty || s.dieOut die.val || s.held die.val 0 || !s.frameAccepted frame then s
        else (s.openPhase die.val v bound idx).armFrets v bound frame idx) := rfl

theorem State.armFrets_fret_other (s : State) (v bound : Nat) (frame : Option (Nat × Nat)) (idx : List Nat) (i : Nat)
    (hi : i ∉ idx) : (s.armFrets v bound frame idx).fret i = s.fret i := by
  unfold State.armFrets
  induction idx generalizing s with
  | nil => rfl
  | cons j idx ih =>
    obtain ⟨hij, hi⟩ := not_or.mp (mt List.mem_cons.mpr hi)
    exact (ih _ hi).trans (State.armFret_onlyFret s j v bound frame i hij)

/-- A fret of the list takes part in a state `t` with the fret, the time and, where no load comes first, the rungs of before. -/
theorem State.armFrets_fret_mem (s : State) (v bound : Nat) (frame : Option (Nat × Nat)) (idx : List Nat) (i : Nat)
    (hi : i ∈ idx) (hnodup : idx.Nodup) : ∃ t : State, t.fret i = s.fret i ∧ t.time = s.time
      ∧ ((∀ j ∈ idx, (s.fret j).joins v) → s.rungVid s.library v = v → t.rungVid t.library v = v)
      ∧ (s.armFrets v bound frame idx).fret i = (t.armFret i v bound frame).fret i := by
  induction idx generalizing s with
  | nil => exact absurd hi List.not_mem_nil
  | cons j idx ih =>
    obtain ⟨hj, hnodup⟩ := List.nodup_cons.mp hnodup
    by_cases hij : i = j
    · subst hij
      exact ⟨s, rfl, rfl, fun _ h => h, State.armFrets_fret_other _ v bound frame idx i hj⟩
    · have hother := State.armFret_onlyFret s j v bound frame
      obtain ⟨t, hfret, htime, hrungs, hres⟩ := ih (s.armFret j v bound frame) ((List.mem_cons.mp hi).resolve_left hij) hnodup
      refine ⟨t, hfret.trans (hother i hij), htime.trans ((State.armFret_evolves s j v bound frame).1 .time (by decide)),
        fun hjoins hr => hrungs (fun k hk => ?_) ?_, hres⟩
      · rw [hother k fun h => hj (h ▸ hk)]
        exact hjoins k (List.mem_cons_of_mem _ hk)
      · rw [State.rungVid_of_sameRungs (State.armFret_sameRungs s j v bound frame (hjoins j List.mem_cons_self) hr)]
        exact hr

end Sys2Proof.Machine

/-! PHASE_START over its frets, and OVERRUN (R24, R110, R111). -/

namespace Sys2Proof.Machine

/-! ### PHASE_START -/

theorem State.openPhase_sameRungs (s : State) (d vid bound : Nat) (idx : List Nat) : s.sameRungs (s.openPhase d vid bound idx) :=
  ⟨rfl, rfl, rfl⟩

/-- The state that a PHASE_START leaves where its frame is accepted, over the frets that take part (`execPhaseStart_accepted`). -/
def State.phaseStarted (s : State) (d v bound : Nat) (frame : Option (Nat × Nat)) (idx : List Nat) : State :=
  if idx.isEmpty then s else (s.openPhase d v bound idx).armFrets v bound frame idx

theorem execPhaseStart_refused (die : Fin 2) (vid : BitVec 16) (bound first count : Nat) (frame : Option (Nat × Nat)) (s : State)
    (h : s.dieOut die.val = true ∨ s.held die.val 0 = true ∨ s.frameAccepted frame = false) :
    s.stays (.phaseStart die vid bound first count frame) := by
  refine (execPhaseStart_eq die vid bound first count frame s).trans (congrArg _ (if_pos ?_))
  rcases h with h | h | h <;> simp [h]

theorem execPhaseStart_accepted (die : Fin 2) (vid : BitVec 16) (bound first count : Nat) (frame : Option (Nat × Nat))
    (s : State) (hdie : s.dieOut die.val = false) (hheld : s.held die.val 0 = false) (hframe : s.frameAccepted frame = true) :
    let v := s.rungVid s.library vid.toNat
    execPhaseStart die vid bound first count frame s
      = .next (s.phaseStarted die.val v bound frame (s.phaseFrets die.val v first count)) := by
  intro v
  refine (execPhaseStart_eq die vid bound first count frame s).trans ?_
  simp only [hdie, hheld, hframe, Bool.or_false, Bool.not_true]
  rfl

theorem State.phaseStarted_fret_other (s : State) (d v bound : Nat) (frame : Option (Nat × Nat)) (idx : List Nat) (i : Nat)
    (hi : i ∉ idx) : (s.phaseStarted d v bound frame idx).fret i = s.fret i := by
  unfold State.phaseStarted
  split
  · rfl
  · exact State.armFrets_fret_other _ v bound frame idx i hi

/-- `State.armFrets_fret_mem` for the frets of a PHASE_START: opening the phase changes no fret, no time and no rung. -/
theorem State.phaseStarted_fret_mem (s : State) (d v bound : Nat) (frame : Option (Nat × Nat)) (idx : List Nat) (i : Nat)
    (hi : i ∈ idx) (hnodup : idx.Nodup) : ∃ t : State, t.fret i = s.fret i ∧ t.time = s.time
      ∧ ((∀ j ∈ idx, (s.fret j).joins v) → s.rungVid s.library v = v → t.rungVid t.library v = v)
      ∧ (s.phaseStarted d v bound frame idx).fret i = (t.armFret i v bound frame).fret i := by
  obtain ⟨t, hfret, htime, hrungs, hres⟩ := State.armFrets_fret_mem (s.openPhase d v bound idx) v bound frame idx i hi hnodup
  refine ⟨t, hfret, htime, fun hjoins hr => hrungs hjoins ?_, ?_⟩
  · exact (State.rungVid_of_sameRungs (State.openPhase_sameRungs s d v bound idx) v).trans hr
  · unfold State.phaseStarted
    rw [if_neg (by simpa using List.ne_nil_of_mem hi)]
    exact hres

section
variable (s : State) (d v bound : Nat) (frame : Option (Nat × Nat)) {idx : List Nat} {i : Nat} (hi : i ∈ idx)
  (hnodup : idx.Nodup)
include hi hnodup

/-- A fret that runs the voicing without a bound gets the bound and the frame (R110). -/
theorem State.phaseStarted_fret_of_awaits (hawaits : (s.fret i).awaitsBound v = true) :
    (s.phaseStarted d v bound frame idx).fret i = { s.fret i with
      phase := some ⟨v, if (Descr.of (s.fret i).aimg).fixed = 0 then none else some bound, false,
        (s.fret i).phaseStart s.time⟩
      frame := frame } := by
  obtain ⟨t, hfret, htime, -, hres⟩ := State.phaseStarted_fret_mem s d v bound frame idx i hi hnodup
  rw [hres, State.armFret_of_awaits t i v bound frame (by rw [hfret]; exact hawaits), State.fret_setFret_same, hfret, htime]

/-- A running fret whose shadow slot holds or receives the voicing is armed (R111). -/
theorem State.phaseStarted_fret_of_shadows (hrun : (s.fret i).run ≠ 0) (hawaits : (s.fret i).awaitsBound v = false)
    (hshadows : (s.fret i).shadows v = true) :
    (s.phaseStarted d v bound frame idx).fret i = (s.fret i).arm (⟨v, some bound, false, s.time⟩, frame) := by
  obtain ⟨t, hfret, htime, -, hres⟩ := State.phaseStarted_fret_mem s d v bound frame idx i hi hnodup
  rw [hres, State.armFret_of_shadows t i v bound frame (by rw [hfret]; exact hawaits) (by rw [hfret]; exact hshadows),
    if_neg (by rw [hfret]; exact hrun), State.fret_updFret_same, hfret, htime]

/-- Any running fret that runs another voicing is armed, and goes on in the slot that is active (R111, R212). -/
theorem State.phaseStarted_fret_of_running (hrun : (s.fret i).run ≠ 0) (hawaits : (s.fret i).awaitsBound v = false) :
    ((s.phaseStarted d v bound frame idx).fret i).armed = ((s.fret i).arm (⟨v, some bound, false, s.time⟩, frame)).armed
    ∧ ((s.phaseStarted d v bound frame idx).fret i).active = (s.fret i).active := by
  obtain ⟨t, hfret, htime, -, hres⟩ := State.phaseStarted_fret_mem s d v bound frame idx i hi hnodup
  have harm := State.armFret_running t i v bound frame (by rw [hfret]; exact hawaits) (by rw [hfret]; exact hrun)
  rw [hfret, htime] at harm
  rw [hres]
  exact harm

/-- A halted fret with nothing armed, whose shadow slot holds the voicing at the rungs in force, starts it (R110, R111). -/
theorem State.phaseStarted_fret_of_halted (hjoins : ∀ j ∈ idx, (s.fret j).joins v) (hrungs : s.rungVid s.library v = v)
    (hrun : (s.fret i).run = 0) (harmed : (s.fret i).armed = []) (hloaded : (s.fret i).st (s.fret i).shadow = 2)
    (hvid : (Voicing.of ((s.fret i).img (s.fret i).shadow)).vid = v) :
    let g := (s.phaseStarted d v bound frame idx).fret i
    g.active = (s.fret i).shadow ∧ g.run = 1 ∧ (s.fret i).sameData g
    ∧ g.phase = some
        ⟨v, if (Descr.of ((s.fret i).img (s.fret i).shadow)).fixed = 0 then none else some bound, false, s.time⟩
    ∧ g.frame = frame := by
  obtain ⟨t, hfret, htime, hmid, hres⟩ := State.phaseStarted_fret_mem s d v bound frame idx i hi hnodup
  have hswitched : (s.phaseStarted d v bound frame idx).fret i
      = ((s.fret i).arm (⟨v, some bound, false, s.time⟩, frame)).switched s.time := by
    rw [hres, State.armFret_halted t i v bound frame (by rw [hfret]; exact hrun) (by rw [hfret]; exact hloaded)
      (by rw [hfret]; exact hvid) (by rw [hfret]; exact (hjoins i hi).2) (hmid hjoins hrungs), hfret, htime]
  obtain ⟨hphase, hframe⟩ := Fret.arm_armedPhase (s.fret i) bound s.time frame harmed
  rw [hvid] at hphase hframe
  obtain ⟨hactive, hruns, hdata, hnow, hwhose, -⟩ :=
    Fret.switched_runsShadow ((s.fret i).arm (⟨v, some bound, false, s.time⟩, frame)) s.time
  intro g
  rw [show g = _ from hswitched]
  exact ⟨hactive, hruns, hdata, hnow.trans (congrArg some hphase), hwhose.trans hframe⟩

end

/-- Where no shadow slot needs a load first and no repeat is under way, every fret that takes part joins as it is. -/
theorem State.phaseFrets_joins (s : State) (d v first count : Nat)
    (hplain : ∀ j, s.shadowsSet j v = false ∧ (s.fret j).follow = []) :
    ∀ j ∈ s.phaseFrets d v first count, (s.fret j).joins v := by
  intro j hj
  obtain ⟨hset, hfollow⟩ := hplain j
  have htakes := (List.mem_filter.mp hj).2
  simp only [hset, Bool.or_false, Bool.and_eq_true, Bool.or_eq_true] at htakes
  exact ⟨htakes.2, hfollow⟩

/-! ### OVERRUN -/

theorem State.onlyRegs_evolves {s t u : State} {P : List Part} {ks : List Nat} (k : t.evolves u P)
    (hP : P.contains .regs = false) (h : s.onlyRegs t ks) : s.onlyRegs u ks := State.onlyRegs_of_regs h (k.1 .regs hP)

section
variable {s t : State} {ks : List Nat} (h : s.onlyRegs t ks)
include h

theorem State.onlyRegs_set_adm {a : Adm} : s.onlyRegs { t with adm := a } ks := h

theorem State.onlyRegs_orReg (die : Nat) (n : RegName) (mask : Nat) (hk : ks.contains (regKey die n) = true) :
    s.onlyRegs (t.orReg die n mask) ks := State.onlyRegs_setReg h die n _ hk

theorem State.onlyRegs_bump (die : Nat) (n : RegName) (k : Nat) (hk : ks.contains (regKey die n) = true) :
    s.onlyRegs (t.bump die n k) ks := State.onlyRegs_setReg h die n _ hk

end

theorem State.breakFrames_onlyRegs (s : State) (cls step : Nat) (news : List (Nat × Nat)) :
    s.onlyRegs (s.breakFrames cls step news) [regKey 6 Reg.mgmtStatus, regKey 6 Reg.auBrokenCount, regKey 6 Reg.auStatus] := by
  unfold State.breakFrames
  dsimp only
  split
  · exact State.onlyRegs_refl _ _
  · refine State.onlyRegs_evolves (State.releaseNever_evolves _ _) rfl (State.onlyRegs_set_adm ?_)
    refine State.onlyRegs_orReg (State.onlyRegs_bump ?_ _ _ _ (by decide)) _ _ _ (by decide)
    refine State.onlyRegs_evolves (State.sendStatus_evolves _ _) rfl (State.onlyRegs_wider (State.event_onlyRegs _ _ _) ?_)
    simp

/-- Reporting promises broken leaves the registers of the compute dies. -/
theorem State.breakFrames_reg (s : State) (cls step : Nat) (news : List (Nat × Nat)) (d : Fin 2) (n : Nat) (hn : n < 0x200000) :
    (s.breakFrames cls step news).reg d.val n = s.reg d.val n := by
  have hlow : regKey d.val n < 0x400000 := by
    have hd := d.isLt
    unfold regKey
    omega
  have hother :
      [regKey 6 Reg.mgmtStatus, regKey 6 Reg.auBrokenCount, regKey 6 Reg.auStatus].contains (regKey d.val n) = false := by
    cases hc : List.contains _ (regKey d.val n) with
    | false => rfl
    | true =>
      have hmem := List.contains_iff_mem.mp hc
      simp only [List.mem_cons, List.not_mem_nil, or_false] at hmem
      have hhigh : 0x400000 ≤ regKey d.val n := by
        rcases hmem with h | h | h <;> rw [h] <;> decide
      omega
  unfold State.reg
  rw [State.breakFrames_onlyRegs s cls step news _ hother]

/-- A flag is set once it has been set (R429). -/
theorem State.flag_testBit (s : State) (d : Nat) (n : RegName) (bit : Nat) (hbit : bit < 64) :
    ((s.flag d n bit).reg d n).testBit bit = true := by
  unfold State.flag State.orReg
  rw [State.reg_setReg_same, show (18446744073709551616 : Nat) = 2 ^ 64 from rfl, Nat.testBit_mod_two_pow]
  simp [hbit]

/-- A phase that runs past its bound is marked, flagged and counted (R111). -/
def State.overran (s : State) (f : FretId) (p : FretPhase) : State :=
  let i := fretIdx f
  let s := s.updBoard fun b => { b with phases := b.phases.map fun q => if q.runs i then { q with told := true } else q }
  let s := s.setFret i { s.fret i with phase := some { p with overran := true } }
  (s.flag f.die.val Reg.fretStatus 2).bump f.die.val Reg.fretOverrunCount 1

theorem State.overran_evolves (s : State) (f : FretId) (p : FretPhase) : s.evolves (s.overran f p) [.regs, .frets, .board] := by
  unfold State.overran
  refine State.evolves_step (State.bump_evolves _ _ _ _) (State.evolves_step (State.flag_evolves _ _ _ _) ?_ rfl) rfl
  refine State.evolves_step (State.setFret_evolves _ _ _) (State.evolves_wider (State.updBoard_evolves _ _) rfl) rfl

theorem State.overran_fret (s : State) (f : FretId) (p : FretPhase) : s.onlyFret (s.overran f p) (fretIdx f)
    ∧ (s.overran f p).fret (fretIdx f) = { s.fret (fretIdx f) with phase := some { p with overran := true } } := by
  have hset := State.onlyFret_setFret (State.onlyFret_refl s (fretIdx f))
    { s.fret (fretIdx f) with phase := some { p with overran := true } }
  exact ⟨State.onlyFret_of_frets hset rfl, (State.fret_of_frets rfl _).trans (State.fret_setFret_same s _ _)⟩

theorem State.overran_regs (s : State) (f : FretId) (p : FretPhase) :
    s.onlyRegs (s.overran f p) [regKey f.die.val Reg.fretStatus, regKey f.die.val Reg.fretOverrunCount]
    ∧ ((s.overran f p).reg f.die.val Reg.fretStatus).testBit 2
    ∧ (s.overran f p).reg f.die.val Reg.fretOverrunCount = cap32 (s.reg f.die.val Reg.fretOverrunCount + 1) := by
  have hcount : regKey f.die.val Reg.fretStatus ≠ regKey f.die.val Reg.fretOverrunCount := by
    rw [ne_eq, regKey_same]
    decide
  have hfirst : ∀ t : State, t.regs = s.regs →
      s.onlyRegs t [regKey f.die.val Reg.fretStatus, regKey f.die.val Reg.fretOverrunCount] :=
    fun _ ht => State.onlyRegs_of_regs (State.onlyRegs_refl s _) ht
  unfold State.overran
  dsimp only
  refine ⟨?_, ?_, ?_⟩
  · exact State.onlyRegs_bump (State.onlyRegs_orReg (hfirst _ rfl) _ _ _ (by simp)) _ _ _ (by simp)
  · rw [State.bump, State.reg_setReg_other _ _ _ _ _ _ hcount]
    exact State.flag_testBit _ _ _ 2 (by decide)
  · rw [State.reg_bump_same, State.flag, State.orReg, State.reg_setReg_other _ _ _ _ _ _ hcount.symm]
    rfl

/-- OVERRUN for a phase that has no bound, or that it has marked already, does nothing. -/
theorem execOverrun_stays (s : State) (f : FretId)
    (h : ∀ p, (s.fret (fretIdx f)).phase = some p → p.bound = none ∨ p.overran = true) : s.stays (.overrun f) := by
  refine congrArg Host.Outcome.next ?_
  split
  · rfl
  · next p hp =>
    rcases h p hp with h | h <;> simp [h]

/-- Else it marks the phase; where a frame runs the phase, it may report the promises in flight broken besides (R385). -/
theorem execOverrun_marks (s : State) (f : FretId) (p : FretPhase) (hphase : (s.fret (fretIdx f)).phase = some p)
    (hbound : p.bound ≠ none) (hfirst : p.overran = false) : ∃ quiet step news,
      exec (.overrun f) s = .next (if quiet = true ∨ (s.fret (fretIdx f)).frame = none then s.overran f p
        else (s.overran f p).breakFrames 0x0D step news) := by
  have hmarks : (p.bound.isNone || p.overran) = false := by
    rw [hfirst, Bool.or_false, Option.isNone_eq_false_iff, Option.isSome_iff_ne_none]
    exact hbound
  have hexec : ∀ (o : Option FretPhase), o = some p → ∀ (stay : State) (mark : FretPhase → State),
      (match o with | none => stay | some q => if (q.bound.isNone || q.overran) = true then stay else mark q) = mark p := by
    intro o ho stay mark
    subst ho
    exact if_neg (by simp [hmarks])
  have hquiet : ∀ a b : Bool, (a || b || (s.fret (fretIdx f)).frame.isNone) = true
      ↔ (a || b) = true ∨ (s.fret (fretIdx f)).frame = none := by simp
  let t := s.overran f p
  exact ⟨(s.board.phases.any fun q => q.runs (fretIdx f) && q.told) || t.faultInFlight, t.curStep,
    (t.adm.frames.filter fun h => h.inFlight && h.isEvents).map fun h => (h.id, h.bound + Config.overrunRise p.vid t.curStep),
    congrArg Host.Outcome.next ((hexec _ hphase s _).trans (if_congr (hquiet _ _) rfl rfl))⟩

/-- What OVERRUN leaves of a phase that it marks. -/
theorem State.runs_overrun (s : State) (f : FretId) (p : FretPhase) (hphase : (s.fret (fretIdx f)).phase = some p)
    (hbound : p.bound ≠ none) (hfirst : p.overran = false) :
    s.runs (.overrun f) [.regs, .frets, .board, .vlk, .adm, .dict] fun t => s.onlyFret t (fretIdx f)
      ∧ t.fret (fretIdx f) = { s.fret (fretIdx f) with phase := some { p with overran := true } }
      ∧ (t.reg f.die.val Reg.fretStatus).testBit 2
      ∧ t.reg f.die.val Reg.fretOverrunCount = cap32 (s.reg f.die.val Reg.fretOverrunCount + 1) := by
  obtain ⟨quiet, step, news, hexec⟩ := execOverrun_marks s f p hphase hbound hfirst
  obtain ⟨honly, hfret⟩ := State.overran_fret s f p
  obtain ⟨-, hbit, hcount⟩ := State.overran_regs s f p
  refine State.runs_of (execOverrun_evolves f s) rfl hexec rfl ?_
  split
  · exact ⟨honly, hfret, hbit, hcount⟩
  · have hfrets := (State.breakFrames_evolves (s.overran f p) 0x0D step news).1 .frets rfl
    refine ⟨State.onlyFret_of_frets honly hfrets, (State.fret_of_frets hfrets _).trans hfret, ?_, ?_⟩
    · rw [State.breakFrames_reg _ _ _ _ f.die Reg.fretStatus (by decide)]
      exact hbit
    · rw [State.breakFrames_reg _ _ _ _ f.die Reg.fretOverrunCount (by decide)]
      exact hcount

/-- Where no frame runs the phase, no promise is broken: two registers change. -/
theorem State.runs_overrun_unframed (s : State) (f : FretId) (p : FretPhase) (hphase : (s.fret (fretIdx f)).phase = some p)
    (hbound : p.bound ≠ none) (hfirst : p.overran = false) (hframe : (s.fret (fretIdx f)).frame = none) :
    s.runs (.overrun f) [.regs, .frets, .board] fun t => s.onlyFret t (fretIdx f)
      ∧ t.fret (fretIdx f) = { s.fret (fretIdx f) with phase := some { p with overran := true } }
      ∧ s.onlyRegs t [regKey f.die.val Reg.fretStatus, regKey f.die.val Reg.fretOverrunCount]
      ∧ (t.reg f.die.val Reg.fretStatus).testBit 2
      ∧ t.reg f.die.val Reg.fretOverrunCount = cap32 (s.reg f.die.val Reg.fretOverrunCount + 1) := by
  obtain ⟨quiet, step, news, hexec⟩ := execOverrun_marks s f p hphase hbound hfirst
  rw [if_pos (.inr hframe)] at hexec
  obtain ⟨honly, hfret⟩ := State.overran_fret s f p
  exact State.runs_evolves hexec (State.overran_evolves s f p) rfl ⟨honly, hfret, State.overran_regs s f p⟩

/-- Settles O15: what a PHASE_START does to one fret is what `State.armFret` does to it in a state that has the fret, the time
and the rungs of before, and a fret that does not take part is not touched; OVERRUN has the law `State.runs_overrun`. -/
theorem phaseStartAndOverrun : Obligations.PhaseStartAndOverrun := by
  intro s
  refine ⟨fun die vid bound first count frame => ?_, fun f => ?_⟩
  · intro d v c plain boundOf
    refine ⟨execPhaseStart_refused die vid bound first count frame s, fun hdie hheld hframe => ?_⟩
    refine State.runs_of (execPhaseStart_evolves die vid bound first count frame s) rfl
      (execPhaseStart_accepted die vid bound first count frame s hdie hheld hframe) rfl fun k hk => ?_
    have hmem := State.mem_phaseFrets s d v first count k hk
    have hnodup := State.phaseFrets_nodup s d v first count
    have hother := State.phaseStarted_fret_other s d v bound frame (s.phaseFrets d v first count) (d * 384 + k)
    intro i fr mine
    have htakes : mine → fr.run ≠ 2 → _ → i ∈ s.phaseFrets d v first count := fun hmine hrun h =>
      hmem.mpr ⟨hmine, hrun, h⟩
    refine ⟨fun hmine => hother fun hi => hmine (hmem.mp hi).1, fun hmine hrun hawaits => ?_,
      fun hmine ⟨hrungs, hquiet⟩ hrun harmed hloaded hvid => ?_, fun hmine hrun hawaits hshadows => ?_,
      fun hmine hrun hawaits hset => ?_, fun hnone => hother fun hi => ?_⟩
    · exact State.phaseStarted_fret_of_awaits s d v bound frame (htakes hmine (by omega) (.inl hawaits)) hnodup hawaits
    · have hshadows : fr.shadows v = true := (Fret.shadows_iff _ _).mpr (.inr ⟨hloaded, hvid⟩)
      obtain ⟨hactive, hruns, hdata, hphase, hwhose⟩ := State.phaseStarted_fret_of_halted s d v bound frame
        (htakes hmine (by omega) (.inr (.inl hshadows))) hnodup (State.phaseFrets_joins s d v first count hquiet) hrungs
        hrun harmed hloaded hvid
      exact ⟨hactive, hruns, hdata, hphase, hwhose⟩
    · exact State.phaseStarted_fret_of_shadows s d v bound frame (htakes hmine (by omega) (.inr (.inl hshadows))) hnodup
        (fun h => absurd (hrun.symm.trans h) (by decide)) hawaits hshadows
    · exact State.phaseStarted_fret_of_running s d v bound frame (htakes hmine (by omega) (.inr (.inr hset))) hnodup
        (fun h => absurd (hrun.symm.trans h) (by decide)) hawaits
    · obtain ⟨-, hrun, hjoins⟩ := hmem.mp hi
      rcases hnone with h | ⟨hawaits, hshadows, hset⟩
      · exact hrun h
      · rcases hjoins with h | h | h
        · exact Bool.false_ne_true (hawaits.symm.trans h)
        · exact Bool.false_ne_true (hshadows.symm.trans h)
        · exact Bool.false_ne_true (hset.symm.trans h)
  · intro i fr
    exact ⟨fun p hphase hbound hfirst hframe => State.runs_overrun_unframed s f p hphase hbound hfirst hframe,
      fun p hphase hbound hfirst _ => State.runs_overrun s f p hphase hbound hfirst, execOverrun_stays s f⟩

end Sys2Proof.Machine

/-! The values of N3 (R41). -/

namespace Sys2Proof.Fmt

/-- Only UA4 has a zero point (R43). -/
theorem decode_zeroPoint {f : Nat} (hf : f ≠ 10) (code scale z : Nat) : decode f code scale z = decode f code scale 0 := by
  unfold decode value
  simp only [hf, if_false]

/-- Settles O60: N3 has no zero point, so its values are the eight at zero point 0. -/
theorem n3Values : Obligations.N3Values := by
  intro z
  simp only [decode_zeroPoint (show n3 ≠ 10 by decide) _ _ z]
  decide

end Sys2Proof.Fmt

/-! The NUM window. A gate that opens switches frets, and a switch may load an image, meet poison on the way and break promises; of all
that, nothing writes a register of the NUM window, and nothing of the supervisor's state changes but its phase times. So the counts and
flags that PASS_VERDICT sets are still there when the command ends. -/

namespace Sys2Proof.Machine

/-! ### Registers of the NUM window -/

/-- The registers of block 6, on every die, are the same in both states. -/
def State.keepsNumRegs (s t : State) : Prop := ∀ k, k / 0x10000 % 32 = 6 → SMap.get 0 t.regs k = SMap.get 0 s.regs k

theorem State.reg_of_keepsNumRegs {s t : State} (h : s.keepsNumRegs t) (die : Nat) {n : Nat} (hn : n / 0x10000 = 6) :
    t.reg die n = s.reg die n := by
  have hkey : regKey die n / 0x10000 % 32 = 6 := by
    unfold regKey
    omega
  exact congrArg BitVec.toNat (h _ hkey)

theorem State.keepsNumRegs_refl (s : State) : s.keepsNumRegs s := fun _ _ => rfl

theorem State.keepsNumRegs_step {s t u : State} (k : t.keepsNumRegs u) (h : s.keepsNumRegs t) : s.keepsNumRegs u :=
  fun x hx => (k x hx).trans (h x hx)

/-- An operation that leaves all registers leaves these. -/
theorem State.keepsNumRegs_evolves {s t u : State} {P : List Part} (k : t.evolves u P) (hP : P.contains .regs = false)
    (h : s.keepsNumRegs t) : s.keepsNumRegs u := by
  have hregs : u.regs = t.regs := k.1 .regs hP
  unfold State.keepsNumRegs
  rw [hregs]
  exact h

/-- So does one that writes listed registers of other blocks only. -/
theorem State.keepsNumRegs_onlyRegs {s t : State} {ks : List Nat} (h : s.onlyRegs t ks)
    (hks : ∀ k ∈ ks, k / 0x10000 % 32 ≠ 6) : s.keepsNumRegs t := by
  intro k hk
  refine h k ?_
  cases hc : ks.contains k with
  | false => rfl
  | true => exact absurd hk (hks k (List.contains_iff_mem.mp hc))

theorem State.keepsNumRegs_ite {s a b : State} {c : Prop} [Decidable c] (ha : s.keepsNumRegs a) (hb : s.keepsNumRegs b) :
    s.keepsNumRegs (if c then a else b) := by
  split
  · exact ha
  · exact hb

theorem State.keepsNumRegs_foldl {α : Type} {g : State → α → State} (hg : ∀ (a : State) (x : α), a.keepsNumRegs (g a x))
    (l : List α) {s t : State} (h : s.keepsNumRegs t) : s.keepsNumRegs (l.foldl g t) := by
  induction l generalizing t with
  | nil => exact h
  | cons x l ih => exact ih (State.keepsNumRegs_step (hg _ _) h)

section
variable {s t : State} (h : s.keepsNumRegs t)
include h

theorem State.keepsNumRegs_set_num {a : Num} : s.keepsNumRegs { t with num := a } := h
theorem State.keepsNumRegs_set_dram {a : Dram} : s.keepsNumRegs { t with dram := a } := h
theorem State.keepsNumRegs_set_fab {a : Fab} : s.keepsNumRegs { t with fab := a } := h
theorem State.keepsNumRegs_set_adm {a : Adm} : s.keepsNumRegs { t with adm := a } := h
theorem State.keepsNumRegs_set_life {a : Life} : s.keepsNumRegs { t with life := a } := h

/-- A write of a register of another block. -/
theorem State.keepsNumRegs_setReg (die : Nat) (n : Nat) (v : Nat) (hn : n / 0x10000 % 32 ≠ 6) :
    s.keepsNumRegs (t.setReg die n v) := by
  refine State.keepsNumRegs_step (fun k hk => SMap.get_set_other _ _ _ _ _ ?_) h
  rintro rfl
  unfold regKey at hk
  omega

theorem State.keepsNumRegs_orReg (die : Nat) (n : Nat) (mask : Nat) (hn : n / 0x10000 % 32 ≠ 6) :
    s.keepsNumRegs (t.orReg die n mask) := State.keepsNumRegs_setReg h die n _ hn

theorem State.keepsNumRegs_clearReg (die : Nat) (n : Nat) (mask : Nat) (hn : n / 0x10000 % 32 ≠ 6) :
    s.keepsNumRegs (t.clearReg die n mask) := State.keepsNumRegs_setReg h die n _ hn

theorem State.keepsNumRegs_flag (die : Nat) (n : Nat) (bit : Nat) (hn : n / 0x10000 % 32 ≠ 6) :
    s.keepsNumRegs (t.flag die n bit) := State.keepsNumRegs_orReg h die n _ hn

theorem State.keepsNumRegs_bump (die : Nat) (n : Nat) (k : Nat) (hn : n / 0x10000 % 32 ≠ 6) :
    s.keepsNumRegs (t.bump die n k) := State.keepsNumRegs_setReg h die n _ hn

theorem State.keepsNumRegs_flagCount (die : Nat) (f bit c k : Nat) (hf : f / 0x10000 % 32 ≠ 6)
    (hc : c / 0x10000 % 32 ≠ 6) : s.keepsNumRegs (t.flagCount die f bit c k) :=
  State.keepsNumRegs_ite h (State.keepsNumRegs_bump (State.keepsNumRegs_flag h die f bit hf) die c k hc)

end

/-! ### Events, promises and the step's sync objects -/

theorem State.event_keepsNumRegs (s : State) (code : Nat) (params : Bytes) : s.keepsNumRegs (s.event code params) :=
  State.keepsNumRegs_onlyRegs (State.event_onlyRegs s code params) (by decide)

theorem State.breakFrames_keepsNumRegs (s : State) (cls step : Nat) (news : List (Nat × Nat)) :
    s.keepsNumRegs (s.breakFrames cls step news) :=
  State.keepsNumRegs_onlyRegs (State.breakFrames_onlyRegs s cls step news) (by decide)

theorem State.applyStepSync_keepsNumRegs (s : State) (step ext delay cls : Nat) :
    s.keepsNumRegs (s.applyStepSync step ext delay cls) := by
  have hseen := State.keepsNumRegs_set_fab (State.keepsNumRegs_refl s)
    (a := { s.fab with seen := (step, max ext (s.seenOf step).1, max delay (s.seenOf step).2) })
  unfold State.applyStepSync
  refine State.keepsNumRegs_ite hseen (State.keepsNumRegs_ite ?_ ?_)
  · exact State.keepsNumRegs_step (State.breakFrames_keepsNumRegs _ _ _ _) (State.keepsNumRegs_set_adm hseen)
  · exact State.keepsNumRegs_evolves (State.raiseFrames_evolves _ _) rfl (State.keepsNumRegs_set_adm hseen)

theorem State.fanOut_keepsNumRegs (s : State) (cls : Nat) : s.keepsNumRegs (s.fanOut cls) := by
  unfold State.fanOut
  refine State.keepsNumRegs_evolves (State.passUpdate_evolves _ _ _ _) rfl ?_
  refine State.keepsNumRegs_step (State.applyStepSync_keepsNumRegs _ _ _ _ _) ?_
  exact State.keepsNumRegs_evolves (State.answerUpdate_evolves _ _ _) rfl (State.keepsNumRegs_refl s)

theorem State.post_keepsNumRegs (s : State) (delay : Bool) (step ns cls : Nat) (why : Purpose) :
    s.keepsNumRegs (s.post delay step ns cls why) := by
  have h0 := State.keepsNumRegs_refl s
  have hop : ∀ sub o a, s.keepsNumRegs (s.syncOp sub o a 0) := fun sub o a =>
    State.keepsNumRegs_bump (State.keepsNumRegs_evolves (State.setSync_evolves s o _) rfl h0) 6 _ 1 (by decide)
  unfold State.post
  refine State.keepsNumRegs_ite h0 (State.keepsNumRegs_ite ?_ ?_)
  · exact State.keepsNumRegs_ite (hop _ _ _) (State.keepsNumRegs_step (State.fanOut_keepsNumRegs _ _) (hop _ _ _))
  · exact State.keepsNumRegs_evolves (State.request_evolves _ _ _ _ _ _ _ _ _ _ _) rfl h0

theorem State.breakAll_keepsNumRegs (s : State) (cls ns : Nat) : s.keepsNumRegs (s.breakAll cls ns) := by
  have hbroken := fun news => State.breakFrames_keepsNumRegs s cls s.curStep news
  unfold State.breakAll
  refine State.keepsNumRegs_ite (State.keepsNumRegs_set_adm (hbroken _)) ?_
  exact State.keepsNumRegs_step (State.post_keepsNumRegs _ _ _ _ _ _)
    (State.keepsNumRegs_set_fab (State.keepsNumRegs_set_adm (hbroken _)))

/-! ### Memory errors -/

theorem tierStatus_block (tier : Nat) : tierStatus tier / 0x10000 % 32 ≠ 6 := by
  unfold tierStatus
  split <;> decide

theorem tierErrLoc_block (tier : Nat) : tierErrLoc tier / 0x10000 % 32 ≠ 6 := by
  unfold tierErrLoc
  split <;> decide

theorem State.errLoc_keepsNumRegs (s : State) (kind : Nat) (p : Place) : s.keepsNumRegs (s.errLoc kind p) :=
  State.keepsNumRegs_setReg (State.keepsNumRegs_refl s) _ _ _ (tierErrLoc_block p.tier)

theorem State.showTraining_keepsNumRegs (s : State) : s.keepsNumRegs s.showTraining := by
  unfold State.showTraining
  refine State.keepsNumRegs_foldl (fun a d => State.keepsNumRegs_foldl (fun b tier => ?_) _ (State.keepsNumRegs_refl a)) _
    (State.keepsNumRegs_refl s)
  have h0 := State.keepsNumRegs_refl b
  exact State.keepsNumRegs_ite (State.keepsNumRegs_flag h0 _ _ _ (tierStatus_block tier))
    (State.keepsNumRegs_clearReg h0 _ _ _ (tierStatus_block tier))

theorem State.showSuspended_keepsNumRegs (s : State) : s.keepsNumRegs s.showSuspended :=
  State.keepsNumRegs_ite (State.keepsNumRegs_flag (State.keepsNumRegs_refl s) _ _ _ (by decide))
    (State.keepsNumRegs_clearReg (State.keepsNumRegs_refl s) _ _ _ (by decide))

theorem State.retrainTrigger_keepsNumRegs (s : State) (tier chan : Nat) (deferrable : Bool) :
    s.keepsNumRegs (s.retrainTrigger tier chan deferrable) := by
  have h0 := State.keepsNumRegs_refl s
  unfold State.retrainTrigger
  refine State.keepsNumRegs_ite h0 (State.keepsNumRegs_ite ?_ ?_)
  · exact State.keepsNumRegs_ite h0 (State.keepsNumRegs_set_dram h0)
  · refine State.keepsNumRegs_step (State.showSuspended_keepsNumRegs _) ?_
    refine State.keepsNumRegs_step (State.showTraining_keepsNumRegs _) ?_
    refine State.keepsNumRegs_step (State.breakAll_keepsNumRegs _ _ _) ?_
    exact State.keepsNumRegs_ite (State.keepsNumRegs_set_dram h0) (State.keepsNumRegs_set_adm (State.keepsNumRegs_set_dram h0))

theorem State.lifeLog_keepsNumRegs (s : State) (kind die unit detail : Nat) : s.keepsNumRegs (s.lifeLog kind die unit detail) := by
  have hflag : ∀ (t : State) (c : Prop) [Decidable c] (bit : Nat), t.keepsNumRegs (if c then t.flag 6 Reg.lifeStatus bit else t) :=
    fun t _ _ bit => State.keepsNumRegs_ite (State.keepsNumRegs_flag (State.keepsNumRegs_refl t) 6 _ bit (by decide))
      (State.keepsNumRegs_refl t)
  unfold State.lifeLog State.framWrite
  exact State.keepsNumRegs_set_life (State.keepsNumRegs_step (hflag _ _ _) (hflag s _ _))

theorem State.rowEvent_keepsNumRegs (s : State) (kind : Nat) (p : Place) : s.keepsNumRegs (s.rowEvent kind p) := by
  unfold State.rowEvent
  refine State.keepsNumRegs_evolves (State.updSpare_evolves _ _) rfl ?_
  refine State.keepsNumRegs_step (State.lifeLog_keepsNumRegs _ _ _ _ _) ?_
  refine State.keepsNumRegs_step (State.errLoc_keepsNumRegs _ _ _) ?_
  exact State.keepsNumRegs_flag (State.event_keepsNumRegs _ _ _) _ _ _ (tierStatus_block _)

theorem State.remapRow_keepsNumRegs (s : State) (p : Place) (n : Nat) : s.keepsNumRegs (s.remapRow p n) := by
  unfold State.remapRow
  refine State.keepsNumRegs_bump (State.keepsNumRegs_set_dram (State.keepsNumRegs_refl s)) _ _ _ ?_
  split <;> decide

theorem State.retireBank_keepsNumRegs (s : State) (p : Place) : s.keepsNumRegs (s.retireBank p) :=
  State.keepsNumRegs_ite (State.keepsNumRegs_refl s)
    (State.keepsNumRegs_step (State.rowEvent_keepsNumRegs _ _ _) (State.keepsNumRegs_set_dram (State.keepsNumRegs_refl s)))

theorem State.repeatFail_keepsNumRegs (s : State) (p : Place) (spare : Option Nat) : s.keepsNumRegs (s.repeatFail p spare) := by
  have hcounted := fun n => State.keepsNumRegs_step
    (State.rowEvent_keepsNumRegs { s with dram := { s.dram with repeats := n } } 4 p)
    (State.keepsNumRegs_set_dram (State.keepsNumRegs_refl s))
  have htold := fun n => State.keepsNumRegs_ite (c := p.tier = 0)
    (State.keepsNumRegs_bump (hcounted n) (2 + chanDie 0 p.chan) Reg.hbmcRemapRepeatCount 1 (by decide)) (hcounted n)
  unfold State.repeatFail
  dsimp only
  cases spare with
  | none =>
    exact State.keepsNumRegs_ite (State.keepsNumRegs_step (State.retireBank_keepsNumRegs _ _) (htold _)) (htold _)
  | some k =>
    have hmoved := fun n => State.keepsNumRegs_flag (State.keepsNumRegs_step (State.remapRow_keepsNumRegs _ p k) (htold n))
      (2 + chanDie p.tier p.chan) (tierStatus p.tier) (2 + p.tier) (tierStatus_block _)
    exact State.keepsNumRegs_ite (State.keepsNumRegs_step (State.retireBank_keepsNumRegs _ _) (hmoved _)) (hmoved _)

theorem State.rowFails_keepsNumRegs (s : State) (p : Place) : s.keepsNumRegs (s.rowFails p) := by
  have hmarked := fun n => State.keepsNumRegs_set_dram (State.keepsNumRegs_refl s) (a := { s.dram with rowErrs := n })
  unfold State.rowFails
  refine State.keepsNumRegs_ite (State.keepsNumRegs_step (State.repeatFail_keepsNumRegs _ _ _) (hmarked _)) ?_
  split
  · refine State.keepsNumRegs_step (State.rowEvent_keepsNumRegs _ _ _) ?_
    exact State.keepsNumRegs_step (State.remapRow_keepsNumRegs _ _ _) (hmarked _)
  · exact State.keepsNumRegs_step (State.repeatFail_keepsNumRegs _ _ _) (hmarked _)

theorem State.uncorrectableError_keepsNumRegs (s : State) (sector : Nat) : s.keepsNumRegs (s.uncorrectableError sector) := by
  have h0 := State.keepsNumRegs_refl s
  have hpoison : ∀ t : State, s.keepsNumRegs t → s.keepsNumRegs (if t.dram.poison.contains sector then t
      else { t with dram := { t.dram with poison := t.dram.poison ++ [sector] } }) := fun _ h =>
    State.keepsNumRegs_ite h (State.keepsNumRegs_set_dram h)
  have htrigger : ∀ (t : State) (c : Prop) [Decidable c] (tier chan : Nat), s.keepsNumRegs t →
      s.keepsNumRegs (if c then t.retrainTrigger tier chan false else t) := fun _ _ _ _ _ h =>
    State.keepsNumRegs_ite (State.keepsNumRegs_step (State.retrainTrigger_keepsNumRegs _ _ _ _) h) h
  unfold State.uncorrectableError
  refine htrigger _ _ _ _ (State.keepsNumRegs_step (State.rowFails_keepsNumRegs _ _) (hpoison _ ?_))
  refine State.keepsNumRegs_step (State.errLoc_keepsNumRegs _ _ _) (State.keepsNumRegs_ite ?_ ?_)
  · exact State.keepsNumRegs_bump (State.keepsNumRegs_flagCount h0 _ _ _ _ _ (by decide) (by decide)) _ _ _ (by decide)
  · refine State.keepsNumRegs_bump (State.keepsNumRegs_flagCount ?_ _ _ _ _ _ (by decide) (by decide)) _ _ _ (by decide)
    exact State.keepsNumRegs_flag h0 _ _ _ (by decide)

theorem State.meetPoison_keepsNumRegs (s : State) (a n : Nat) : s.keepsNumRegs (s.meetPoison a n) :=
  State.keepsNumRegs_foldl State.uncorrectableError_keepsNumRegs _ (State.keepsNumRegs_refl s)

/-! ### Loads and switches -/

theorem State.finishLoad_keepsNumRegs (s : State) (i slot addr : Nat) (img : Img) (ue : Bool) :
    s.keepsNumRegs (s.finishLoad i slot addr img ue).2 := by
  have h0 := State.keepsNumRegs_refl s
  have hfret := fun g => State.keepsNumRegs_evolves (State.updFret_evolves s i g) rfl h0
  unfold State.finishLoad
  dsimp only
  split
  · exact State.keepsNumRegs_flag (hfret _) _ _ _ (by decide)
  · split
    · exact State.keepsNumRegs_bump (State.keepsNumRegs_flag (hfret _) _ _ _ (by decide)) _ _ _ (by decide)
    · refine State.keepsNumRegs_evolves (State.updBoard_evolves _ _) rfl ?_
      refine State.keepsNumRegs_evolves (State.updFret_evolves _ _ _) rfl (State.keepsNumRegs_ite h0 ?_)
      exact State.keepsNumRegs_evolves (State.setCDie_evolves _ _ _) rfl h0

theorem State.loadShadow_keepsNumRegs (s : State) (i vid : Nat) : s.keepsNumRegs (s.loadShadow i vid) := by
  unfold State.loadShadow
  split
  · exact State.keepsNumRegs_refl s
  · refine State.keepsNumRegs_step (State.finishLoad_keepsNumRegs _ _ _ _ _ _) ?_
    refine State.keepsNumRegs_step (State.meetPoison_keepsNumRegs _ _ _) ?_
    refine State.keepsNumRegs_evolves (State.sweepTables_evolves _ _) rfl ?_
    exact State.keepsNumRegs_evolves (State.updFret_evolves _ _ _) rfl (State.keepsNumRegs_refl s)

theorem State.followShadow_keepsNumRegs (s : State) (i : Nat) : s.keepsNumRegs (s.followShadow i) :=
  State.keepsNumRegs_ite (State.keepsNumRegs_refl s) (State.loadShadow_keepsNumRegs _ _ _)

theorem State.loadNext_keepsNumRegs (s : State) (i : Nat) : s.keepsNumRegs (s.loadNext i) := by
  unfold State.loadNext
  split
  · refine State.keepsNumRegs_step (State.loadShadow_keepsNumRegs _ _ _) ?_
    exact State.keepsNumRegs_evolves (State.updFret_evolves _ _ _) rfl (State.keepsNumRegs_refl s)
  · exact State.keepsNumRegs_refl s

theorem State.leavePhase_keepsNumRegs (s : State) (i : Nat) : s.keepsNumRegs (s.leavePhase i) := by
  have h0 := State.keepsNumRegs_refl s
  have htold : ∀ (t : State) n code params, s.keepsNumRegs t → s.keepsNumRegs (if n = 0 then t else t.event code params) :=
    fun _ _ _ _ h => State.keepsNumRegs_ite h (State.keepsNumRegs_step (State.event_keepsNumRegs _ _ _) h)
  unfold State.leavePhase
  dsimp only
  split
  · exact h0
  · refine State.keepsNumRegs_ite ?_ (State.keepsNumRegs_evolves (State.updBoard_evolves _ _) rfl h0)
    refine State.keepsNumRegs_evolves (State.recordTime_evolves _ _ _ _ _) rfl (htold _ _ _ _ (htold _ _ _ _ ?_))
    exact State.keepsNumRegs_evolves (State.updBoard_evolves _ _) rfl h0

theorem State.switchFret_keepsNumRegs (s : State) (i : Nat) (halted : Bool) : s.keepsNumRegs (s.switchFret i halted) := by
  have hfollow := State.followShadow_keepsNumRegs s i
  have hset : ∀ (t : State) f, s.keepsNumRegs t → s.keepsNumRegs (t.setFret i f) := fun _ _ h =>
    State.keepsNumRegs_evolves (State.setFret_evolves _ _ _) rfl h
  unfold State.switchFret
  dsimp only
  split
  · refine State.keepsNumRegs_step (State.loadNext_keepsNumRegs _ _) ?_
    refine State.keepsNumRegs_evolves (State.markLane_evolves _ _ _) rfl ?_
    refine State.keepsNumRegs_evolves (State.beginPhase_evolves _ _) rfl (hset _ _ ?_)
    exact State.keepsNumRegs_step (State.leavePhase_keepsNumRegs _ _) hfollow
  · exact State.keepsNumRegs_bump (hset _ _ hfollow) _ _ _ (by decide)
  · exact State.keepsNumRegs_flag (State.keepsNumRegs_ite hfollow (hset _ _ hfollow)) _ _ _ (by decide)

/-! ### The supervisor's own state -/

/-- Of the numerics supervisor only the phase times may differ (R233). -/
def State.onlyTimes (s t : State) : Prop := ∃ times, t.num = { s.num with times := times }

theorem State.onlyTimes_refl (s : State) : s.onlyTimes s := ⟨_, rfl⟩

theorem State.onlyTimes_step {s t u : State} (k : t.onlyTimes u) (h : s.onlyTimes t) : s.onlyTimes u := by
  obtain ⟨times, hu⟩ := k
  obtain ⟨_, ht⟩ := h
  exact ⟨times, by rw [hu, ht]⟩

theorem State.onlyTimes_evolves {s t u : State} {P : List Part} (k : t.evolves u P) (hP : P.contains .num = false)
    (h : s.onlyTimes t) : s.onlyTimes u := by
  have hnum : u.num = t.num := k.1 .num hP
  unfold State.onlyTimes
  rw [hnum]
  exact h

theorem State.onlyTimes_ite {s a b : State} {c : Prop} [Decidable c] (ha : s.onlyTimes a) (hb : s.onlyTimes b) :
    s.onlyTimes (if c then a else b) := by
  split
  · exact ha
  · exact hb

theorem State.onlyTimes_foldl {α : Type} {g : State → α → State} (hg : ∀ (a : State) (x : α), a.onlyTimes (g a x))
    (l : List α) {s t : State} (h : s.onlyTimes t) : s.onlyTimes (l.foldl g t) := by
  induction l generalizing t with
  | nil => exact h
  | cons x l ih => exact ih (State.onlyTimes_step (hg _ _) h)

theorem State.leavePhase_onlyTimes (s : State) (i : Nat) : s.onlyTimes (s.leavePhase i) := by
  have htold : ∀ (t : State) n code params, s.onlyTimes t → s.onlyTimes (if n = 0 then t else t.event code params) :=
    fun _ _ _ _ h => State.onlyTimes_ite h (State.onlyTimes_evolves (State.event_evolves _ _ _) rfl h)
  have hrecord : ∀ (t : State) die vid cycles bound, t.onlyTimes (t.recordTime die vid cycles bound) := fun t _ _ _ _ =>
    State.onlyTimes_ite ⟨_, rfl⟩ (State.onlyTimes_refl t)
  unfold State.leavePhase
  dsimp only
  split
  · exact State.onlyTimes_refl s
  · refine State.onlyTimes_ite ?_ ⟨_, rfl⟩
    exact State.onlyTimes_step (hrecord _ _ _ _ _) (htold _ _ _ _ (htold _ _ _ _ ⟨_, rfl⟩))

theorem State.switchFret_onlyTimes (s : State) (i : Nat) (halted : Bool) : s.onlyTimes (s.switchFret i halted) := by
  have hload : ∀ (t : State) vid, s.onlyTimes t → s.onlyTimes (t.loadShadow i vid) := fun _ _ h =>
    State.onlyTimes_evolves (State.loadShadow_evolves _ _ _) rfl h
  have hfollow : s.onlyTimes (s.followShadow i) := State.onlyTimes_ite (State.onlyTimes_refl s) (hload s _ (State.onlyTimes_refl s))
  have hset : ∀ (t : State) f, s.onlyTimes t → s.onlyTimes (t.setFret i f) := fun _ _ h =>
    State.onlyTimes_evolves (State.setFret_evolves _ _ _) rfl h
  have hnext : ∀ t : State, s.onlyTimes t → s.onlyTimes (t.loadNext i) := by
    intro t h
    unfold State.loadNext
    split
    · exact hload _ _ (hset _ _ h)
    · exact h
  unfold State.switchFret
  dsimp only
  split
  · refine hnext _ (State.onlyTimes_evolves (State.markLane_evolves _ _ _) rfl ?_)
    refine State.onlyTimes_evolves (State.beginPhase_evolves _ _) rfl (hset _ _ ?_)
    exact State.onlyTimes_step (State.leavePhase_onlyTimes _ _) hfollow
  · exact State.onlyTimes_evolves (State.bump_evolves _ _ _ _) rfl (hset _ _ hfollow)
  · exact State.onlyTimes_evolves (State.flag_evolves _ _ _ _) rfl (State.onlyTimes_ite hfollow (hset _ _ hfollow))

end Sys2Proof.Machine

/-! PASS_VERDICT (R65, R213, R215, R216, R218): what its three outcomes leave of the supervisor's state and of the NUM window. -/

namespace Sys2Proof.Machine

/-! ### Flags and counts -/

/-- A bit of the mask is set in a register that the mask has been added to (R429). -/
theorem State.orReg_testBit (s : State) (d : Nat) (n : RegName) {mask bit : Nat} (hbit : bit < 64) (hmask : mask.testBit bit = true) :
    ((s.orReg d n mask).reg d n).testBit bit = true := by
  unfold State.orReg
  rw [State.reg_setReg_same, show (18446744073709551616 : Nat) = 2 ^ 64 from rfl, Nat.testBit_mod_two_pow]
  simp [hbit, hmask]

theorem State.reg_orReg_other (s : State) (d d' : Nat) (n n' : RegName) (mask : Nat) (h : regKey d' n' ≠ regKey d n) :
    (s.orReg d n mask).reg d' n' = s.reg d' n' := State.reg_setReg_other _ _ _ _ _ _ h

theorem State.reg_flag_other (s : State) (d d' : Nat) (n n' : RegName) (bit : Nat) (h : regKey d' n' ≠ regKey d n) :
    (s.flag d n bit).reg d' n' = s.reg d' n' := State.reg_orReg_other _ _ _ _ _ _ h

theorem State.reg_bump_other (s : State) (d d' : Nat) (n n' : RegName) (k : Nat) (h : regKey d' n' ≠ regKey d n) :
    (s.bump d n k).reg d' n' = s.reg d' n' := State.reg_setReg_other _ _ _ _ _ _ h

/-! ### Pass records -/

/-- Where neither the supervisor's state nor the commit records have changed yet, a pass record changes as it does in `s`. -/
theorem State.updPass_num {s u : State} (P : List Part) (hu : s.evolves u P) (hnum : P.contains .num = false)
    (hupd : P.contains .upd = false) (q : Nat) (g : Nat → PassRec → PassRec) :
    (u.updPass q (g u.curStep)).num = { s.num with passes := s.num.passes.modify q (g s.curStep) } := by
  have hstep : u.curStep = s.curStep := by
    unfold State.curStep State.committed
    rw [show u.upd = s.upd from hu.1 .upd hupd]
  unfold State.updPass
  rw [hstep, show u.num = s.num from hu.1 .num hnum]

/-! ### The gate opens -/

theorem State.openGate_keepsNumRegs (s : State) (layer : Nat) (backward : Bool) (mbs : List Nat) :
    s.keepsNumRegs (s.openGate layer backward mbs) := by
  unfold State.openGate
  refine State.keepsNumRegs_foldl (fun t i => ?_) _ (State.keepsNumRegs_refl s)
  have hlane := fun l => State.keepsNumRegs_evolves (State.setLane_evolves t i l) rfl (State.keepsNumRegs_refl t)
  refine State.keepsNumRegs_ite (State.keepsNumRegs_step (State.switchFret_keepsNumRegs _ _ _) ?_) (hlane _)
  exact State.keepsNumRegs_evolves (State.setFret_evolves _ _ _) rfl (hlane _)

/-- The gate of the pass opens for its micro-batches; of the supervisor's state only phase times may change besides. -/
theorem State.openGate_num (s : State) (layer : Nat) (backward : Bool) (mbs : List Nat) :
    ∃ times, (s.openGate layer backward mbs).num =
      { s.num with gates := s.num.gates ++ mbs.map (fun m => (layer, backward, m)), times := times } := by
  suffices h : State.onlyTimes
      { s with num := { s.num with gates := s.num.gates ++ mbs.map fun m => (layer, backward, m) } }
      (s.openGate layer backward mbs) from h
  unfold State.openGate
  refine State.onlyTimes_foldl (fun t i => ?_) _ ⟨_, rfl⟩
  have hlane := fun l => State.onlyTimes_evolves (State.setLane_evolves t i l) rfl (State.onlyTimes_refl t)
  refine State.onlyTimes_ite (State.onlyTimes_step (State.switchFret_onlyTimes _ _ _) ?_) (hlane _)
  exact State.onlyTimes_evolves (State.setFret_evolves _ _ _) rfl (hlane _)

/-! ### A repeat starts -/

/-- The pass's record after a repeat at the rung `new` has started (R215, R218). -/
def PassRec.repeating (p : PassRec) (new step : Nat) : PassRec :=
  { p with
    current := new, repeatsStep := min 255 (p.repeatsStep + 1), repeats := cap32 (p.repeats + 1), repeated := true, step := step
    overflowed := true, topNow := p.topNow + if p.current = 5 then 1 else 0 }

theorem State.lateRepeat_keepsNumRegs (s : State) (cost : Nat) : s.keepsNumRegs (s.lateRepeat cost) :=
  State.keepsNumRegs_set_adm (State.breakFrames_keepsNumRegs _ _ _ _)

/-- A repeat is reported, flagged and counted first (R218). -/
def State.repeatTold (s : State) (params : Bytes) : State :=
  ((s.event 0x0101 params).orReg 6 Reg.numStatus 3).bump 6 Reg.numRepeatCount 1

theorem State.repeatTold_evolves (s : State) (params : Bytes) : s.evolves (s.repeatTold params) [.regs, .dict] :=
  State.evolves_step (State.bump_evolves _ _ _ _)
    (State.evolves_step (State.orReg_evolves _ _ _ _) (State.event_evolves s 0x0101 params) rfl) rfl

theorem State.repeatTold_regs (s : State) (params : Bytes) :
    (s.repeatTold params).reg 6 Reg.numRepeatCount = cap32 (s.reg 6 Reg.numRepeatCount + 1)
    ∧ ((s.repeatTold params).reg 6 Reg.numStatus).testBit 0 ∧ ((s.repeatTold params).reg 6 Reg.numStatus).testBit 1 := by
  have hevent := State.reg_of_keepsNumRegs (State.event_keepsNumRegs s 0x0101 params) 6
    (show Reg.numRepeatCount / 0x10000 = 6 by decide)
  unfold State.repeatTold
  rw [State.reg_bump_same, State.reg_orReg_other _ _ _ _ _ _ (by decide), hevent,
    State.reg_bump_other _ _ _ _ _ _ (by decide)]
  exact ⟨rfl, State.orReg_testBit _ _ _ (by decide) (by decide), State.orReg_testBit _ _ _ (by decide) (by decide)⟩

theorem State.startRepeat_keepsNumRegs (s : State) (q : Nat) (p : PassRec) (new mb : Nat) (c : ConvStat) :
    ∃ params, (s.repeatTold params).keepsNumRegs (s.startRepeat q p new mb c) := by
  refine ⟨u16 p.layer ++ u8 (if p.backward then 1 else 0) ++ u8 mb ++ u8 p.current ++ u8 new ++ c32 c.sats ++ c32 c.nonfin, ?_⟩
  unfold State.startRepeat
  refine State.keepsNumRegs_set_num (State.keepsNumRegs_evolves (State.updPass_evolves _ _ _) rfl ?_)
  refine State.keepsNumRegs_evolves (State.updBoard_evolves _ _) rfl ?_
  refine State.keepsNumRegs_foldl (fun t i => ?_) _ ?_
  · exact State.keepsNumRegs_evolves (State.rewindLane_evolves t i) rfl (State.keepsNumRegs_refl t)
  · exact State.keepsNumRegs_ite (State.lateRepeat_keepsNumRegs _ _) (State.keepsNumRegs_refl _)

theorem State.startRepeat_regs (s : State) (q : Nat) (p : PassRec) (new mb : Nat) (c : ConvStat) :
    let t := s.startRepeat q p new mb c
    t.reg 6 Reg.numRepeatCount = cap32 (s.reg 6 Reg.numRepeatCount + 1)
    ∧ (t.reg 6 Reg.numStatus).testBit 0 ∧ (t.reg 6 Reg.numStatus).testBit 1 := by
  obtain ⟨params, hkeeps⟩ := State.startRepeat_keepsNumRegs s q p new mb c
  dsimp only
  rw [State.reg_of_keepsNumRegs hkeeps 6 (show Reg.numRepeatCount / 0x10000 = 6 by decide),
    State.reg_of_keepsNumRegs hkeeps 6 (show Reg.numStatus / 0x10000 = 6 by decide)]
  exact State.repeatTold_regs s params

theorem State.startRepeat_num (s : State) (q : Nat) (p : PassRec) (new mb : Nat) (c : ConvStat) :
    (s.startRepeat q p new mb c).num = { s.num with
      passes := s.num.passes.modify q (·.repeating new s.curStep)
      stepRepeats := s.num.stepRepeats + 1, repeating := s.num.repeating ++ [q] } := by
  let parts : List Part := [.mem, .regs, .slanes, .board, .dram, .vlk, .adm, .dict]
  have htold := fun params => State.evolves_wider (P := parts) (State.repeatTold_evolves s params) rfl
  unfold State.startRepeat
  refine congrArg (fun n : Num => { n with stepRepeats := n.stepRepeats + 1, repeating := n.repeating ++ [q] })
    (State.updPass_num parts ?_ rfl rfl q fun step p => p.repeating new step)
  refine State.evolves_step (State.updBoard_evolves _ _) (State.evolves_foldl ?_ fun t i h => ?_) rfl
  · exact State.evolves_ite (State.evolves_step (State.lateRepeat_evolves _ _) (htold _) rfl) (htold _)
  · exact State.evolves_step (State.rewindLane_evolves t i) h rfl

/-! ### An overflow survives -/

/-- The pass's record after an overflow has survived (R216). -/
def PassRec.surviving (p : PassRec) (step : Nat) : PassRec :=
  { p with
    pending := p.higher p.pending ((p.up p.current).getD 5), survived := cap32 (p.survived + 1), survivedNow := true, step := step
    overflowed := true, topNow := p.topNow + if p.current = 5 then 1 else 0 }

theorem State.survive_num (s : State) (q : Nat) (p : PassRec) (mb : Nat) :
    (s.survive q p mb).num = { s.num with passes := s.num.passes.modify q (·.surviving s.curStep) } := by
  have hcounted : s.evolves ((s.orReg 6 Reg.numStatus 5).bump 6 Reg.numSurviveCount 1) [.regs, .dict] :=
    State.evolves_step (State.bump_evolves _ _ _ _) (State.evolves_wider (State.orReg_evolves _ _ _ _) rfl) rfl
  unfold State.survive
  refine State.updPass_num [.regs, .dict] (State.evolves_ite ?_ hcounted) rfl rfl q fun step p => p.surviving step
  exact State.evolves_step (State.event_evolves _ _ _) (State.evolves_step (State.flag_evolves _ _ _ _) hcounted rfl) rfl

theorem State.survive_reg (s : State) (q : Nat) (p : PassRec) (mb : Nat) :
    (s.survive q p mb).reg 6 Reg.numSurviveCount = cap32 (s.reg 6 Reg.numSurviveCount + 1) := by
  have hcounted : ((s.orReg 6 Reg.numStatus 5).bump 6 Reg.numSurviveCount 1).reg 6 Reg.numSurviveCount
      = cap32 (s.reg 6 Reg.numSurviveCount + 1) := by
    rw [State.reg_bump_same, State.reg_orReg_other _ _ _ _ _ _ (by decide)]
  unfold State.survive
  split
  · refine Eq.trans ?_ hcounted
    exact (State.reg_of_keepsNumRegs (State.event_keepsNumRegs _ _ _) 6 (by decide)).trans
      (State.reg_flag_other _ _ _ _ _ _ (by decide))
  · exact hcounted

/-! ### The command -/

theorem execPassVerdict_stays (s : State) (layer : Nat) (backward : Bool) (h : s.passNo layer backward = none
    ∨ (s.passStat layer backward).1 = [] ∨ s.held 6 6 = true
    ∨ ∃ q, s.passNo layer backward = some q ∧ s.num.repeating.contains q = true) : s.stays (.passVerdict layer backward) := by
  refine congrArg Host.Outcome.next ?_
  split
  · rfl
  · next q hq =>
    split
    · rfl
    · refine if_pos ?_
      simp only [hq, Option.some.injEq, exists_eq_left', reduceCtorEq, false_or] at h
      rcases h with h | h | h <;> simp only [h, List.isEmpty_nil, Bool.or_true, Bool.true_or]

section
variable {s : State} {layer : Nat} {backward : Bool} {q : Nat} {p : PassRec} (hq : s.passNo layer backward = some q)
  (hp : s.num.passes[q]? = some p) (hruns : (s.passStat layer backward).1 ≠ []) (hheld : s.held 6 6 = false)
  (hrep : s.num.repeating.contains q = false)
include hq hp hruns hheld hrep

/-- The verdict of a pass's runs, where there are any and no repeat of the pass is under way (R213). -/
theorem execPassVerdict_eq : exec (.passVerdict layer backward) s = .next
    (if !s.overflows (s.passStat layer backward).2 then s.openGate layer backward (s.passStat layer backward).1
    else match (if p.repeatsStep < s.odNat (od 0x2100 4) then p.up p.current else none) with
      | some new => s.startRepeat q p new ((s.passStat layer backward).1.headD 0) (s.passStat layer backward).2
      | none => (s.survive q p ((s.passStat layer backward).1.headD 0)).openGate layer backward
          (s.passStat layer backward).1) := by
  have hdecides : ¬ (s.held 6 6 || (s.passStat layer backward).1.isEmpty || s.num.repeating.contains q) = true := by
    rw [hheld, hrep]
    simpa using hruns
  refine congrArg Host.Outcome.next ?_
  simp only [hq, hp]
  exact if_neg hdecides

/-- Without overflow the gate opens (R213). -/
theorem execPassVerdict_clean (hclean : s.overflows (s.passStat layer backward).2 = false) :
    exec (.passVerdict layer backward) s = .next (s.openGate layer backward (s.passStat layer backward).1) := by
  rw [execPassVerdict_eq hq hp hruns hheld hrep, hclean]
  rfl

/-- With overflow the pass repeats at a higher rung (R215). -/
theorem execPassVerdict_repeats {new : Nat} (hover : s.overflows (s.passStat layer backward).2 = true)
    (hnext : (if p.repeatsStep < s.odNat (od 0x2100 4) then p.up p.current else none) = some new) :
    exec (.passVerdict layer backward) s = .next
      (s.startRepeat q p new ((s.passStat layer backward).1.headD 0) (s.passStat layer backward).2) := by
  rw [execPassVerdict_eq hq hp hruns hheld hrep, hover, hnext]
  rfl

/-- With overflow and no rung left it survives, and the gate opens (R216). -/
theorem execPassVerdict_survives (hover : s.overflows (s.passStat layer backward).2 = true)
    (hnext : (if p.repeatsStep < s.odNat (od 0x2100 4) then p.up p.current else none) = none) :
    exec (.passVerdict layer backward) s = .next
      ((s.survive q p ((s.passStat layer backward).1.headD 0)).openGate layer backward (s.passStat layer backward).1) := by
  rw [execPassVerdict_eq hq hp hruns hheld hrep, hover, hnext]
  rfl

end

/-- The record that stands at a place of a list, changed, is the list with the changed record there. -/
theorem modify_eq_set_of_some {α : Type} {l : List α} {q : Nat} {p : α} (h : l[q]? = some p) (g : α → α) :
    l.modify q g = l.set q (g p) := by
  rw [List.modify_eq_set_getElem?, h]
  rfl

/-- Settles O18: each outcome of the verdict is one operation of the supervisor, and what it does to the supervisor's state and to the
NUM window is said once for each. -/
theorem passVerdict : Obligations.PassVerdict := by
  intro s layer backward
  refine ⟨fun h => execPassVerdict_stays s layer backward (h.imp_right (Or.imp_right .inl)), fun q p hq hp => ⟨fun hrep => ?_, ?_⟩⟩
  · exact execPassVerdict_stays s layer backward (.inr (.inr (.inr ⟨q, hq, hrep⟩)))
  intro hruns hheld hrep
  refine ⟨fun hclean => ?_, fun new hover hnext => ?_, fun hover hnext => ?_⟩
  · obtain ⟨times, hnum⟩ := State.openGate_num s layer backward (s.passStat layer backward).1
    refine State.runs_evolves (execPassVerdict_clean hq hp hruns hheld hrep hclean) (State.openGate_evolves _ _ _ _) rfl ?_
    rw [hnum]
    exact ⟨rfl, rfl, rfl⟩
  · refine State.runs_evolves (execPassVerdict_repeats hq hp hruns hheld hrep hover hnext)
      (State.startRepeat_evolves _ _ _ _ _ _) rfl ?_
    rw [State.startRepeat_num, modify_eq_set_of_some hp]
    exact ⟨rfl, rfl, rfl, rfl, State.startRepeat_regs _ _ _ _ _ _⟩
  · refine State.runs_evolves (execPassVerdict_survives hq hp hruns hheld hrep hover hnext)
      (State.evolves_step (State.openGate_evolves _ _ _ _) (State.evolves_wider (State.survive_evolves _ _ _ _) rfl)
        (State.within_self _)) rfl ?_
    obtain ⟨times, hnum⟩ := State.openGate_num (s.survive q p ((s.passStat layer backward).1.headD 0)) layer backward
      (s.passStat layer backward).1
    rw [hnum, State.survive_num, modify_eq_set_of_some hp,
      State.reg_of_keepsNumRegs (State.openGate_keepsNumRegs _ _ _ _) 6 (show Reg.numSurviveCount / 0x10000 = 6 by decide),
      State.survive_reg]
    exact ⟨rfl, rfl, rfl⟩

end Sys2Proof.Machine

/-! BLOCK_RESET of BRIDGE. In the model it drops the die's undelivered contributions and then serves the window accesses that wait, those
of the other die's frets with them. `Obligations.RegisterActions` has every fret of the other die stay as it is. An access can wait on a
fret with no operation in flight at its slot: a reset of FRET leaves the fret without an active voicing, and serves no window. -/

namespace Sys2Proof.Machine

/-- A fret of C0 that has halted in a voicing of 1 × 1 tiles, with a BRIDGE on its slot 0 that is not delivered yet. -/
def bridgeUndelivered : State :=
  let halted : Fret := { Fret.reset with img0 := [(16, 1), (17, 1)], st0 := 2, active := 0 }
  let part : Contribution :=
    { die := 0, index := 0, pos := 0, base := 0, size := 2, ordinal := 0, runNo := 0, vid := 0, op := 0, deliver := 0, extent := 0
      norm := false, k := 1, rows := 1, cols := 1, slot := 0, int := false, layer := 0, tensor := 0, pass := 0, mb := 0
      vals := [0#32], mutes := [false] }
  { State.reset with
    frets := [(0, halted)], board := { Board.reset with contribs := [part] }, rst := { State.reset.rst with phase := 7 } }

/-- A write of 1 to the slot waits (R130); then FRET of C0 is reset (R445). -/
def writeWaits : State := (bridgeUndelivered.windowWrite 0x40000040000 4 1).blockResetCtrl 0 0x100

/-- The counterexample: BRIDGE of C1 is reset. -/
def bridgeReset : Instr := .blockReset 1 0x102#32 true

theorem exec_bridgeReset : exec bridgeReset writeWaits = .next (writeWaits.blockResetCtrl 1 0x102) :=
  congrArg Host.Outcome.next (if_pos (by decide +kernel))

/-- Before it the write waits, with nothing in flight at its slot any more; the reset serves it. -/
theorem bridgeReset_servesWrite :
    writeWaits.board.waits = [⟨0, 0x40000, 4, some 1, 2, 0x40000040000⟩] ∧ writeWaits.windowBusy 0 0x40000 4 = false
    ∧ (writeWaits.fret 0).acc = [] ∧ ((writeWaits.blockResetCtrl 1 0x102).fret 0).acc = [(0, 1)] := by decide +kernel

/-- Refutes O51: in state `writeWaits` a reset of BRIDGE on C1 changes fret 0, which is a fret of C0. -/
theorem not_registerActions : ¬ Obligations.RegisterActions := by
  intro h
  obtain ⟨-, -, -, -, -, -, -, -, hblock, -⟩ := h writeWaits
  obtain ⟨-, -, hreset⟩ := hblock 1 0x102#32 true (by decide +kernel) (by decide +kernel)
  obtain ⟨t, ht, -, -, -, hfrets, -⟩ := hreset (by decide) (by decide) (by decide +kernel)
  obtain rfl : writeWaits.blockResetCtrl 1 0x102 = t := by
    injection exec_bridgeReset.symm.trans ht
  obtain ⟨-, -, hbefore, hafter⟩ := bridgeReset_servesWrite
  have hacc := congrArg Fret.acc (hfrets 0 (by decide))
  rw [hbefore, hafter] at hacc
  exact List.cons_ne_nil _ _ hacc

end Sys2Proof.Machine

/-! What a fret's operations read and write. Frets after operations on registers and on the dies' shared units, the corrected errors
that an operation meets (R84), and where a fret stands. -/

namespace Sys2Proof.Machine

/-! ### Where a fret stands (R135, R181) -/

theorem fretIdx_die (f : FretId) : fretIdx f / 384 = f.die.val := by
  unfold fretIdx
  omega

@[simp] theorem fretCol_fretIdx (f : FretId) : fretCol (fretIdx f) = f.col.val := by
  unfold fretCol fretIdx
  omega

@[simp] theorem fretRow_fretIdx (f : FretId) : fretRow (fretIdx f) = f.row.val := by
  unfold fretRow fretIdx
  omega

/-! ### Frets and registers after other operations -/

section
variable (s : State) (i j d n b k v : Nat)

@[simp] theorem State.fret_setReg : (s.setReg d n v).fret i = s.fret i := rfl
@[simp] theorem State.fret_flag : (s.flag d n b).fret i = s.fret i := rfl
@[simp] theorem State.fret_bump : (s.bump d n k).fret i = s.fret i := rfl
@[simp] theorem State.fret_updBoard (g : Board → Board) : (s.updBoard g).fret i = s.fret i := rfl
@[simp] theorem State.fret_setCDie (c : CDie) : (s.setCDie d c).fret i = s.fret i := rfl
@[simp] theorem State.fret_setLane (l : SLane) : (s.setLane j l).fret i = s.fret i := rfl
@[simp] theorem State.fret_flagCount (c : RegName) : (s.flagCount d n b c k).fret i = s.fret i :=
  State.fret_evolves (State.flagCount_evolves _ _ _ _ _ _) rfl i
@[simp] theorem State.fret_sramCe : (s.sramCe d k).fret i = s.fret i := State.fret_evolves (State.sramCe_evolves _ _ _) rfl i
@[simp] theorem State.fret_aliasWait : (s.aliasWait j k).fret i = s.fret i :=
  State.fret_evolves (State.aliasWait_evolves _ _ _) rfl i
@[simp] theorem State.fret_sourceWait : (s.sourceWait j d k).fret i = s.fret i :=
  State.fret_evolves (State.sourceWait_evolves _ _ _ _) rfl i

@[simp] theorem State.reg_setFret (f : Fret) : (s.setFret i f).reg d n = s.reg d n := rfl
@[simp] theorem State.reg_updFret (g : Fret → Fret) : (s.updFret i g).reg d n = s.reg d n := rfl
@[simp] theorem State.reg_updBoard (g : Board → Board) : (s.updBoard g).reg d n = s.reg d n := rfl
@[simp] theorem State.reg_setCDie (c : CDie) : (s.setCDie k c).reg d n = s.reg d n := rfl
@[simp] theorem State.reg_setLane (l : SLane) : (s.setLane i l).reg d n = s.reg d n := rfl

end

/-! ### Registers after flags and counts -/

theorem regKey_ne (d : Nat) {n n' : Nat} (h : n ≠ n') : regKey d n ≠ regKey d n' := by
  rw [ne_eq, regKey_same]
  exact h

theorem State.onlyRegs_ite {s a b : State} {ks : List Nat} {c : Prop} [Decidable c] (ha : s.onlyRegs a ks)
    (hb : s.onlyRegs b ks) : s.onlyRegs (if c then a else b) ks := by
  split
  · exact ha
  · exact hb

theorem State.onlyRegs_flagCount {s t : State} {ks : List Nat} (h : s.onlyRegs t ks) (d f bit c k : Nat)
    (hf : ks.contains (regKey d f) = true) (hc : ks.contains (regKey d c) = true) : s.onlyRegs (t.flagCount d f bit c k) ks :=
  State.onlyRegs_ite h (State.onlyRegs_bump (State.onlyRegs_orReg h d f _ hf) d c k hc)

/-- A register that is none of those an operation writes. -/
theorem State.reg_of_onlyRegs {s t : State} {ks : List Nat} (h : s.onlyRegs t ks) {d n : Nat} (hk : regKey d n ∉ ks) :
    t.reg d n = s.reg d n :=
  congrArg BitVec.toNat (h _ (by simpa using hk))

/-- A flag that is set stays set (R429). -/
theorem State.flag_testBit_keep {s : State} {d n bit : Nat} (d' n' bit' : Nat) (hbit : bit < 64)
    (h : (s.reg d n).testBit bit = true) : ((s.flag d' n' bit').reg d n).testBit bit = true := by
  unfold State.flag State.orReg
  rw [State.reg_setReg]
  split
  · next hk =>
    have hsame : s.reg d' n' = s.reg d n := by unfold State.reg; rw [hk]
    rw [hsame, show pow2 64 = 2 ^ 64 from rfl, Nat.testBit_mod_two_pow, Nat.testBit_or, h]
    simpa using hbit
  · exact h

/-- A counter after a flagged count: unchanged where nothing occurred. -/
theorem State.reg_flagCount_count (s : State) (d f bit c k : Nat) (hne : c ≠ f) :
    (s.flagCount d f bit c k).reg d c = if k = 0 then s.reg d c else cap32 (s.reg d c + k) := by
  unfold State.flagCount
  split
  · rfl
  · rw [State.reg_bump_same, State.reg_flag_other _ _ _ _ _ _ (regKey_ne d hne)]

/-! ### Corrected errors (R84) -/

theorem State.sramCe_onlyRegs (s : State) (d ce : Nat) :
    s.onlyRegs (s.sramCe d ce) [regKey d Reg.fretStatus, regKey d Reg.fretSramCeCount] :=
  State.onlyRegs_flagCount (State.onlyRegs_refl _ _) _ _ _ _ _ (by simp) (by simp)

/-- The errors are counted where all that was written before are other listed registers. -/
theorem State.metErrors_sramCe {s t : State} {d : Nat} {ks : List Nat} (ce : Nat) (h : s.onlyRegs t ks)
    (hcount : regKey d Reg.fretSramCeCount ∉ ks) : s.metErrors (t.sramCe d ce) d ce ks := by
  have hsame := State.reg_of_onlyRegs h hcount
  refine ⟨State.onlyRegs_trans (State.onlyRegs_wider h (by simp +contextual))
    (State.onlyRegs_wider (State.sramCe_onlyRegs t d ce) (by simp)), ?_, fun hce => ?_⟩
  · unfold State.sramCe
    rw [State.reg_flagCount_count _ _ _ _ _ _ (by decide), hsame]
  · unfold State.sramCe State.flagCount
    rw [if_neg hce, State.reg_bump_other _ _ _ _ _ _ (regKey_ne d (by decide))]
    exact State.flag_testBit _ _ _ _ (by decide)

theorem State.metErrors_of_regs {s t u : State} {d ce : Nat} {ks : List Nat} (h : s.metErrors t d ce ks)
    (hu : u.regs = t.regs) : s.metErrors u d ce ks := by
  obtain ⟨honly, hcount, hflag⟩ := h
  refine ⟨State.onlyRegs_of_regs honly hu, ?_, ?_⟩
  · rw [State.reg_of_regs hu]; exact hcount
  · rw [State.reg_of_regs hu]; exact hflag

/-- What is written after the errors were counted are other registers. -/
theorem State.metErrors_step {s t u : State} {d ce : Nat} {ks ls : List Nat} (k : t.onlyRegs u ls) (h : s.metErrors t d ce ks)
    (hls : ∀ x ∈ ls, x ∈ ks) (hstatus : regKey d Reg.fretStatus ∉ ls) (hcount : regKey d Reg.fretSramCeCount ∉ ls) :
    s.metErrors u d ce ks := by
  obtain ⟨honly, hc, hflag⟩ := h
  refine ⟨State.onlyRegs_trans honly (State.onlyRegs_wider k fun x hx => by simp [hls x hx]), ?_, ?_⟩
  · rw [State.reg_of_onlyRegs k hcount]; exact hc
  · rw [State.reg_of_onlyRegs k hstatus]; exact hflag

/-- Another flag of the same status register joins the one for corrected errors. -/
theorem State.metErrors_flagStatus {s t : State} {d ce : Nat} {ks : List Nat} (h : s.metErrors t d ce ks) (bit : Nat) :
    s.metErrors (t.flag d Reg.fretStatus bit) d ce ks := by
  obtain ⟨honly, hc, hflag⟩ := h
  refine ⟨State.onlyRegs_orReg honly _ _ _ (by simp), ?_, fun hce => State.flag_testBit_keep _ _ _ (by decide) (hflag hce)⟩
  rw [State.reg_flag_other _ _ _ _ _ _ (regKey_ne d (by decide))]
  exact hc

end Sys2Proof.Machine

/-! NOP and LOOP (R104 to R106). -/

namespace Sys2Proof.Machine

section
variable {s : State} {f : Issue} {w : Nat}

theorem execNop_issued (h : s.issues f.toFretId 0 w) :
    exec (.nop f) s = .next ((s.updFret (fretIdx f.toFretId) (·.advance)).sramCe f.die.val f.ce) := by
  refine congrArg Host.Outcome.next ?_
  simp only [h]

theorem execLoop_issued (h : s.issues f.toFretId 0x0B w) :
    exec (.loop f) s = .next ((s.setFret (fretIdx f.toFretId) ((s.fret (fretIdx f.toFretId)).enterLoop w)).sramCe f.die.val f.ce) := by
  refine congrArg Host.Outcome.next ?_
  simp only [h]

end

/-- A fret replaced, and its corrected errors counted. -/
theorem State.setFret_sramCe_frame (s : State) (i d ce : Nat) (g : Fret) :
    s.onlyFret ((s.setFret i g).sramCe d ce) i ∧ ((s.setFret i g).sramCe d ce).fret i = g
    ∧ s.metErrors ((s.setFret i g).sramCe d ce) d ce [] := by
  refine ⟨fun j hj => ?_, ?_, State.metErrors_sramCe ce (State.onlyRegs_refl s []) List.not_mem_nil⟩
  · rw [State.fret_sramCe, State.fret_setFret_other _ _ _ _ hj]
  · rw [State.fret_sramCe, State.fret_setFret_same]

/-- Settles O1: both replace the issuing fret and count the errors that it met. -/
theorem nopAndLoop : Obligations.NopAndLoop := by
  intro s f w
  refine ⟨fun h => ?_, fun h => ?_⟩
  · exact State.runs_of (execNop_evolves f s) rfl (execNop_issued h) rfl (State.setFret_sramCe_frame s _ _ _ _)
  · obtain ⟨honly, hfret, hmet⟩ := State.setFret_sramCe_frame s (fretIdx f.toFretId) f.die.val f.ce
      ((s.fret (fretIdx f.toFretId)).enterLoop w)
    refine State.runs_of (execLoop_evolves f s) rfl (execLoop_issued h) rfl ⟨honly, hmet, fun hcount => ?_, fun hcount => ?_⟩
    · rw [hfret]
      exact if_pos hcount
    · rw [hfret]
      exact if_neg hcount

end Sys2Proof.Machine

/-! The two stationary banks (R92, R102, R103): LOADB, LOADB_DONE and SWAPB. -/

namespace Sys2Proof.Machine

/-! ### The banks -/

section
variable (f : Fret) (b : Bank) (pc : Nat)

@[simp] theorem Fret.setIdle_idle : (f.setIdle b).idle = b := by
  unfold Fret.setIdle Fret.idle
  split <;> simp [*]

@[simp] theorem Fret.setIdle_current : (f.setIdle b).current = f.current := by
  unfold Fret.setIdle Fret.current
  split <;> simp [*]

@[simp] theorem Fret.setIdle_stall : (f.setIdle b).stall = f.stall := by
  unfold Fret.setIdle
  split <;> rfl

@[simp] theorem Fret.swapBanks_idle : f.swapBanks.idle = f.current := by
  unfold Fret.swapBanks Fret.setIdle Fret.idle Fret.current
  by_cases h : f.cur = 0
  · simp [h]
  · simp [h, show 1 - f.cur = 0 by omega]

@[simp] theorem Fret.swapBanks_current : f.swapBanks.current = { f.idle with next := false } := by
  unfold Fret.swapBanks Fret.setIdle Fret.idle Fret.current
  by_cases h : f.cur = 0
  · simp [h]
  · simp [h, show 1 - f.cur = 0 by omega]

@[simp] theorem Fret.advance_idle : f.advance.idle = f.idle := rfl
@[simp] theorem Fret.advance_current : f.advance.current = f.current := rfl
@[simp] theorem Fret.advance_stall : f.advance.stall = f.stall := rfl

end

/-! ### Operands that come and are passed on (R93, R94) -/

/-- The neighbours that an operand is passed to are other frets. -/
theorem State.passOn_fret_same (s : State) (i mask : Nat) (bs : Bytes) : (s.passOn i mask bs).fret i = s.fret i := by
  have hgo : ∀ (t : State) (c : Bool) (j src : Nat), (c = true → j ≠ i) →
      (if c then t.updFret j (·.arrive src bs) else t).fret i = t.fret i := by
    intro t c j src hj
    split
    · next hc => exact State.fret_updFret_other _ _ _ _ (hj hc).symm
    · rfl
  have hnorth : 0 < fretRow i → i - 1 ≠ i := by unfold fretRow; omega
  have hwest : 0 < fretCol i → i - 24 ≠ i := by unfold fretCol; omega
  unfold State.passOn
  dsimp only
  rw [hgo _ _ _ _ (by simpa using fun _ => hwest), hgo _ _ _ _ (by simp), hgo _ _ _ _ (by simp),
    hgo _ _ _ _ (by simpa using fun _ => hnorth)]

theorem State.passOperand_fret_same (s : State) (i src : Nat) (bs : Bytes) : (s.passOperand i src bs).fret i = s.fret i := by
  unfold State.passOperand
  split
  · rfl
  · exact State.passOn_fret_same _ _ _ _

/-- An operand from the fret's own SRAM is not passed on, and waits for no slot. -/
theorem State.passOperand_sram (s : State) (i : Nat) (bs : Bytes) : s.passOperand i 0 bs = s := rfl

theorem State.sourceWait_sram (s : State) (i cycles : Nat) : s.sourceWait i 0 cycles = s := rfl

theorem State.takeTile_sram (s : State) (i path : Nat) (loadb : Bool) (fmt lines blocks off line block : Nat) (supply : Bytes)
    (ue : Bool) : s.takeTile i 0 path loadb fmt lines blocks off line block supply ue
      = .got s (Tile.of fmt lines blocks ((s.fret i).sramBytes off (tileBytes fmt lines blocks))) := rfl

/-! ### LOADB -/

/-- What the source of a LOADB gives. -/
def State.loadbSource (s : State) (f : Issue) (w : Nat) (supply : Supply) (ue : Bool) : Source :=
  let fr := s.fret (fretIdx f.toFretId)
  s.takeTile (fretIdx f.toFretId) (bits w 55 52) fr.voicing.capoB true fr.voicing.fmtB (bits w 33 27) (bits w 37 34)
    (fr.sramOff w (16 * bits w 51 38)) supply.line supply.block supply.bytes ue

/-- What a LOADB does with the tile that it got. -/
def State.loadbTake (s : State) (f : Issue) (w : Nat) (supply : Supply) (t : Tile) : State :=
  let i := fretIdx f.toFretId
  let s := (s.updFret i fun fr => (fr.setIdle ⟨1, bits w 26 26 = 1, t⟩).advance).sramCe f.die.val f.ce
  (s.sourceWait i (bits w 55 52) supply.wait).passOperand i (bits w 55 52) t.bytes

theorem State.loadbTake_fret (s : State) (f : Issue) (w : Nat) (supply : Supply) (t : Tile) :
    (s.loadbTake f w supply t).fret (fretIdx f.toFretId)
      = ((s.fret (fretIdx f.toFretId)).setIdle ⟨1, bits w 26 26 = 1, t⟩).advance := by
  unfold State.loadbTake
  simp [State.passOperand_fret_same]

section
variable {s : State} {f : Issue} {w : Nat} {supply : Supply} {ue : Bool} (h : s.issues f.toFretId 1 w)
include h

/-- Does a LOADB wait: while the idle bank loads, or for a slot that it reads (R92, R133)? -/
theorem execLoadb_stays (hwait : (s.fret (fretIdx f.toFretId)).idle.status = 1 ∨ s.sourceBusy (fretIdx f.toFretId) (bits w 55 52)
    ((s.fret (fretIdx f.toFretId)).sramOff w (16 * bits w 51 38)) = true) : s.stays (.loadb f supply ue) := by
  refine congrArg Host.Outcome.next ?_
  simp only [h]
  exact if_pos (by simpa using hwait)

variable (hidle : (s.fret (fretIdx f.toFretId)).idle.status ≠ 1) (hbusy : s.sourceBusy (fretIdx f.toFretId) (bits w 55 52)
    ((s.fret (fretIdx f.toFretId)).sramOff w (16 * bits w 51 38)) = false)
include hidle hbusy

theorem execLoadb_got {s1 : State} {b : Tile} (htile : s.loadbSource f w supply ue = .got s1 b) :
    exec (.loadb f supply ue) s = .next (s1.loadbTake f w supply b) := by
  unfold State.loadbSource at htile
  refine congrArg Host.Outcome.next ?_
  simp only [h, hidle, hbusy, htile]
  rfl

theorem execLoadb_not_got {s1 : State} (htile : s.loadbSource f w supply ue = .notYet s1 ∨ s.loadbSource f w supply ue = .failed s1) :
    exec (.loadb f supply ue) s = .next s1 := by
  unfold State.loadbSource at htile
  refine congrArg Host.Outcome.next ?_
  rcases htile with htile | htile
  · simp only [h, hidle, hbusy, htile]
    rfl
  · simp only [h, hidle, hbusy, htile]
    rfl

end

/-! ### SWAPB and the end of a LOADB -/

theorem execLoadbDone_stays {s : State} {f : FretId}
    (h : (s.fret (fretIdx f)).idle.status ≠ 1 ∨ s.held f.die.val 0 = true) : s.stays (.loadbDone f) := by
  refine congrArg Host.Outcome.next (if_neg ?_)
  rcases h with h | h <;> simp [h]

/-- The loading bank is full; a SWAPB that waits takes effect (R92). -/
theorem execLoadbDone_loads {s : State} {f : FretId} (hidle : (s.fret (fretIdx f)).idle.status = 1) (hheld : s.held f.die.val 0 = false) :
    let full := (s.fret (fretIdx f)).setIdle { (s.fret (fretIdx f)).idle with status := 2 }
    exec (.loadbDone f) s = .next (s.setFret (fretIdx f)
      (if full.stall = .swapb then { full.swapBanks with stall := .none }.advance else full)) :=
  congrArg Host.Outcome.next (if_pos (by simp [hidle, hheld]))

theorem execSwapb_issued {s : State} {f : Issue} {w : Nat} (h : s.issues f.toFretId 2 w) :
    let fr := s.fret (fretIdx f.toFretId)
    exec (.swapb f) s = .next ((s.setFret (fretIdx f.toFretId)
      (if fr.idle.status = 1 then { fr with stall := .swapb } else fr.swapBanks.advance)).sramCe f.die.val f.ce) := by
  refine congrArg Host.Outcome.next ?_
  simp only [h]

/-- Settles O2: the source decides what a LOADB does, and each of the others replaces one fret by what R92 says of its banks. -/
theorem stationaryBank : Obligations.StationaryBank := by
  intro s f w supply ue i fr v src off tile
  refine ⟨fun h hidle hbusy => ⟨fun hsrc => ?_, fun s1 b htile => ?_, fun s1 htile => execLoadb_not_got h hidle hbusy htile⟩,
    fun h hwait => execLoadb_stays h hwait, execLoadbDone_stays, fun hidle hheld hstall => ?_, fun hidle hheld hstall => ?_,
    fun h hidle => ?_, fun h hidle => ?_⟩
  · have htile : s.loadbSource f w supply ue = .got s (Tile.of v.fmtB (bits w 33 27) (bits w 37 34)
        (fr.sramBytes off (tileBytes v.fmtB (bits w 33 27) (bits w 37 34)))) := by
      unfold State.loadbSource
      rw [show bits w 55 52 = 0 from hsrc]
      exact State.takeTile_sram _ _ _ _ _ _ _ _ _ _ _ _
    have hexec := execLoadb_got h hidle hbusy htile
    unfold State.loadbTake at hexec
    simp only [show bits w 55 52 = 0 from hsrc, State.passOperand_sram, State.sourceWait_sram] at hexec
    obtain ⟨honly, hfret, hmet⟩ := State.setFret_sramCe_frame s i f.die.val f.ce _
    exact State.runs_evolves hexec (State.evolves_step (State.sramCe_evolves _ _ _)
      (State.evolves_wider (State.updFret_evolves _ _ _) rfl) rfl) (State.within_self _) ⟨honly, hmet, hfret⟩
  · refine State.runs_of (execLoadb_evolves f supply ue s) rfl (execLoadb_got h hidle hbusy htile) (State.within_self _) ?_
    rw [State.loadbTake_fret]
    exact ⟨Fret.setIdle_idle _ _, Fret.setIdle_current _ _⟩
  · refine State.runs_of (execLoadbDone_evolves f.toFretId s) rfl (execLoadbDone_loads hidle hheld) rfl
      ⟨State.onlyFret_setFret (State.onlyFret_refl s _) _, ?_⟩
    rw [State.fret_setFret_same, if_neg (by rw [Fret.setIdle_stall]; exact hstall)]
  · refine State.runs_of (execLoadbDone_evolves f.toFretId s) rfl (execLoadbDone_loads hidle hheld) rfl
      ⟨State.onlyFret_setFret (State.onlyFret_refl s _) _, ?_⟩
    rw [State.fret_setFret_same, if_pos (by rw [Fret.setIdle_stall]; exact hstall)]
    have hbanks := Fret.swapBanks_current (fr.setIdle { fr.idle with status := 2 })
    have hold := Fret.swapBanks_idle (fr.setIdle { fr.idle with status := 2 })
    simp only [Fret.setIdle_idle, Fret.setIdle_current] at hbanks hold
    exact ⟨rfl, hbanks, hold⟩
  · obtain ⟨honly, hfret, hmet⟩ := State.setFret_sramCe_frame s i f.die.val f.ce
      (if fr.idle.status = 1 then { fr with stall := .swapb } else fr.swapBanks.advance)
    refine State.runs_of (execSwapb_evolves f s) rfl (execSwapb_issued h) rfl ⟨honly, hmet, ?_⟩
    rw [hfret, if_neg hidle]
    simp
  · obtain ⟨honly, hfret, hmet⟩ := State.setFret_sramCe_frame s i f.die.val f.ce
      (if fr.idle.status = 1 then { fr with stall := .swapb } else fr.swapBanks.advance)
    refine State.runs_of (execSwapb_evolves f s) rfl (execSwapb_issued h) rfl ⟨honly, hmet, ?_⟩
    rw [hfret, if_pos hidle]

end Sys2Proof.Machine

/-! STREAM (R85 to R91, R118 to R124, R133), and the watcher's second stream (R230). -/

namespace Sys2Proof.Machine

/-! ### States that differ on the fretboard only -/

/-- A state that differs in registers, frets and the dies' shared units only is the other one with these replaced. -/
theorem State.eq_of_onlyChanges_fretboard {s t : State} (h : s.onlyChanges t [.regs, .frets, .board]) :
    t = { s with regs := t.regs, frets := t.frets, board := t.board } := by
  have hpending := h .pending rfl
  have htime := h .time rfl
  have hfree := h .free rfl
  have hmem := h .mem rfl
  have hslanes := h .slanes rfl
  have hnum := h .num rfl
  have hemb := h .emb rfl
  have hupd := h .upd rfl
  have hdram := h .dram rfl
  have hfab := h .fab rfl
  have hvlk := h .vlk rfl
  have hadm := h .adm rfl
  have hdict := h .dict rfl
  have hslow := h .slow rfl
  have hrst := h .rst rfl
  have hlife := h .life rfl
  have hsec := h .sec rfl
  cases t
  simp only [State.agrees] at *
  subst_vars
  rfl

section
variable {s t : State} (h : s.onlyChanges t [.regs, .frets, .board])
include h

theorem State.odNat_of_fretboard (k : Nat) : t.odNat k = s.odNat k := by
  rw [State.eq_of_onlyChanges_fretboard h]
  rfl

theorem State.sampled_of_fretboard (f : Fret) (r b : Nat) : t.sampled f r b = s.sampled f r b := by
  rw [State.eq_of_onlyChanges_fretboard h]
  rfl

theorem State.weights_of_fretboard (v : Voicing) (B : Tile) (q : SampleAt) : t.weights v B q = s.weights v B q := by
  rw [State.eq_of_onlyChanges_fretboard h]
  rfl

theorem State.masterFails_of_fretboard (p : Param) (q : SampleAt) (B : Tile) : t.masterFails p q B = s.masterFails p q B := by
  rw [State.eq_of_onlyChanges_fretboard h]
  rfl

theorem State.masterTile_of_fretboard (p : Param) (q : SampleAt) (B : Tile) : t.masterTile p q B = s.masterTile p q B := by
  rw [State.eq_of_onlyChanges_fretboard h]
  rfl

end

/-! ### What waits and counts write -/

theorem State.onlyRegs_setFret {s t : State} {ks : List Nat} (h : s.onlyRegs t ks) (i : Nat) (f : Fret) :
    s.onlyRegs (t.setFret i f) ks := h

theorem State.onlyRegs_updFret {s t : State} {ks : List Nat} (h : s.onlyRegs t ks) (i : Nat) (g : Fret → Fret) :
    s.onlyRegs (t.updFret i g) ks := h

/-- The registers that an operation's wait at its slot is shown in (R133). -/
def aliasRegs (d : Nat) : List Nat :=
  [regKey d Reg.accStatus, regKey d Reg.accAliasWaitCount, regKey d Reg.accAliasWaitCycles]

theorem State.aliasWait_onlyRegs (s : State) (i cycles : Nat) : s.onlyRegs (s.aliasWait i cycles) (aliasRegs (i / 384)) := by
  unfold State.aliasWait aliasRegs
  refine State.onlyRegs_ite (State.onlyRegs_refl _ _) (State.onlyRegs_evolves (State.updBoard_evolves _ _) rfl ?_)
  refine State.onlyRegs_bump (State.onlyRegs_bump (State.onlyRegs_orReg (State.onlyRegs_refl _ _) _ _ _ ?_) _ _ _ ?_) _ _ _ ?_ <;> simp

/-- The registers that count what a STREAM met (R42, R118, R119). -/
def streamRegs (d : Nat) : List Nat :=
  [regKey d Reg.accStatus, regKey d Reg.accSatCount, regKey d Reg.accIntSatCount, regKey d Reg.convStatus, regKey d Reg.convN2RsvdCount]

theorem State.countStream_onlyRegs (s : State) (d : Nat) (c : StreamCount) : s.onlyRegs (s.countStream d c) (streamRegs d) := by
  unfold State.countStream streamRegs
  refine State.onlyRegs_flagCount (State.onlyRegs_flagCount (State.onlyRegs_flagCount (State.onlyRegs_refl _ _) _ _ _ _ _ ?_ ?_)
    _ _ _ _ _ ?_ ?_) _ _ _ _ _ ?_ ?_ <;> simp

/-- The saturations of a STREAM are counted (R118). -/
theorem State.countStream_sat (s : State) (d : Nat) (c : StreamCount) : (s.countStream d c).reg d Reg.accSatCount
    = if c.sat = 0 then s.reg d Reg.accSatCount else cap32 (s.reg d Reg.accSatCount + c.sat) := by
  have hother : ∀ (t : State) f bit n k, f ≠ Reg.accSatCount → n ≠ Reg.accSatCount →
      (t.flagCount d f bit n k).reg d Reg.accSatCount = t.reg d Reg.accSatCount := by
    intro t f bit n k hf hn
    refine State.reg_of_onlyRegs (State.onlyRegs_flagCount (ks := [regKey d f, regKey d n]) (State.onlyRegs_refl _ _) _ _ _ _ _
      (by simp) (by simp)) ?_
    simp only [List.mem_cons, regKey_same, List.not_mem_nil, or_false, not_or]
    exact ⟨hf.symm, hn.symm⟩
  unfold State.countStream
  rw [hother _ _ _ _ _ (by decide) (by decide), hother _ _ _ _ _ (by decide) (by decide),
    State.reg_flagCount_count _ _ _ _ _ _ (by decide)]

@[simp] theorem State.fret_countStream (s : State) (i d : Nat) (c : StreamCount) : (s.countStream d c).fret i = s.fret i :=
  State.fret_evolves (State.countStream_evolves _ _ _) rfl i

/-! ### The stream -/

/-- What the source of a STREAM gives. -/
def State.streamSource (s : State) (f : FretId) (w : Nat) (supply : Supply) (ue : Bool) : Source :=
  let fr := s.fret (fretIdx f)
  s.takeTile (fretIdx f) (bits w 55 52) fr.voicing.capoA false fr.voicing.fmtA (bits w 37 31) fr.current.tile.blocks
    (fr.sramOff w (16 * bits w 51 38)) supply.line supply.block supply.bytes ue

/-- The state `s1` that the source left, with the waits and the errors that the STREAM met, and the tile `A` streamed into the slot
against the current bank of before. -/
def State.streamTaken (s s1 : State) (f : FretId) (w wait ce : Nat) (supply : Supply) (A : Tile) : State :=
  let fr := s.fret (fretIdx f)
  let met := ((s1.aliasWait (fretIdx f) wait).sourceWait (fretIdx f) (bits w 55 52) supply.wait).sramCe f.die.val ce
  let r := streamSlot (met.fret (fretIdx f)) fr.voicing (s.odNat (od 0x2100 5)) (bits w 30 27) (bits w 26 26 = 1) A fr.current.tile
  (met.setFret (fretIdx f) r.1).countStream f.die.val r.2

/-- The tensor that the watcher samples, where it does (R230). -/
def State.watched (s : State) (fr : Fret) (B : Tile) (q : SampleAt) : Option Param :=
  if s.sampled fr q.rowTile q.colTile then s.weights fr.voicing B q else none

theorem State.watched_of_fretboard {s t : State} (h : s.onlyChanges t [.regs, .frets, .board]) (fr : Fret) (B : Tile) (q : SampleAt) :
    t.watched fr B q = s.watched fr B q := by
  unfold State.watched
  rw [State.sampled_of_fretboard h, State.weights_of_fretboard h]

/-- Must a STREAM wait: for its slot's spill, or for a slot that an undelivered BRIDGE names (R122, R133)? -/
def State.streamBusy (s : State) (f : FretId) (w : Nat) : Bool :=
  let fr := s.fret (fretIdx f)
  spillDue fr fr.voicing (s.odNat (od 0x2100 5)) (bits w 30 27) || s.slotBusy (fretIdx f) (bits w 30 27)
    || s.sourceBusy (fretIdx f) (bits w 55 52) (fr.sramOff w (16 * bits w 51 38))

section
variable {s : State} {f : FretId} {w : Nat} {wait ce : Nat} {supply : Supply} {ue : Bool} {sample : Option SampleAt}
  (h : s.issues f 3 w)
include h

theorem execStream_stays (hbusy : s.streamBusy f w = true) : s.stays (.stream f wait ce supply ue sample) := by
  refine congrArg Host.Outcome.next ?_
  simp only [h]
  exact if_pos hbusy

variable (hbusy : s.streamBusy f w = false)
include hbusy

theorem execStream_not_got {s1 : State} (htile : s.streamSource f w supply ue = .notYet s1 ∨ s.streamSource f w supply ue = .failed s1) :
    exec (.stream f wait ce supply ue sample) s = .next s1 := by
  unfold State.streamSource at htile
  unfold State.streamBusy at hbusy
  refine congrArg Host.Outcome.next ?_
  rcases htile with htile | htile
  · simp only [h, hbusy, htile]
    rfl
  · simp only [h, hbusy, htile]
    rfl

/-- A STREAM whose tile is there and that the watcher does not sample. -/
theorem execStream_unwatched {s1 : State} {A : Tile} (htile : s.streamSource f w supply ue = .got s1 A)
    (hsample : ∀ q, sample = some q → (s.streamTaken s1 f w wait ce supply A).watched (s.fret (fretIdx f))
      (s.fret (fretIdx f)).current.tile q = none) :
    exec (.stream f wait ce supply ue sample) s
      = .next (((s.streamTaken s1 f w wait ce supply A).updFret (fretIdx f) (·.advance)).passOperand (fretIdx f) (bits w 55 52)
          A.bytes) := by
  unfold State.streamSource at htile
  unfold State.streamBusy at hbusy
  unfold State.watched State.streamTaken at hsample
  refine congrArg Host.Outcome.next ?_
  simp only [h, hbusy, htile, Bool.false_eq_true, if_false]
  cases sample with
  | none => rfl
  | some q =>
    simp only [hsample q rfl]
    rfl

/-- One whose tile it samples. -/
theorem execStream_watched {s1 : State} {A : Tile} (htile : s.streamSource f w supply ue = .got s1 A) {q : SampleAt} {p : Param}
    (hp : (s.streamTaken s1 f w wait ce supply A).watched (s.fret (fretIdx f)) (s.fret (fretIdx f)).current.tile q = some p) :
    exec (.stream f wait ce supply ue (some q)) s
      = .next ((((s.streamTaken s1 f w wait ce supply A).watchStream (fretIdx f) w A (s.fret (fretIdx f)).current.tile q p).updFret
          (fretIdx f) (·.advance)).passOperand (fretIdx f) (bits w 55 52) A.bytes) := by
  unfold State.streamSource at htile
  unfold State.streamBusy at hbusy
  unfold State.watched State.streamTaken at hp
  refine congrArg Host.Outcome.next ?_
  simp only [h, hbusy, htile, Bool.false_eq_true, if_false, hp]
  rfl

end

/-! ### What a STREAM leaves -/

/-- The registers that a STREAM may write. -/
def streamCounts (d : Nat) : List Nat :=
  [regKey d Reg.accStatus, regKey d Reg.accAliasWaitCount, regKey d Reg.accAliasWaitCycles, regKey d Reg.fretStatus,
    regKey d Reg.fretSramCeCount, regKey d Reg.accSatCount, regKey d Reg.accIntSatCount, regKey d Reg.convStatus,
    regKey d Reg.convN2RsvdCount]

theorem State.sourceWait_onlyRegs (s : State) (i src cycles : Nat) : s.onlyRegs (s.sourceWait i src cycles) (aliasRegs (i / 384)) :=
  State.onlyRegs_ite (State.aliasWait_onlyRegs _ _ _) (State.onlyRegs_refl _ _)

section
variable (s s1 : State) (f : FretId) (w wait ce : Nat) (supply : Supply) (A : Tile)

theorem State.streamTaken_evolves : s1.evolves (s.streamTaken s1 f w wait ce supply A) [.regs, .frets, .board] := by
  unfold State.streamTaken
  refine State.evolves_step (State.countStream_evolves _ _ _) (State.evolves_step (State.setFret_evolves _ _ _) ?_ rfl) rfl
  refine State.evolves_step (State.sramCe_evolves _ _ _) (State.evolves_step (State.sourceWait_evolves _ _ _ _) ?_ rfl) rfl
  exact State.evolves_wider (State.aliasWait_evolves _ _ _) rfl

theorem State.streamTaken_onlyFret : s1.onlyFret (s.streamTaken s1 f w wait ce supply A) (fretIdx f) := by
  intro j hj
  unfold State.streamTaken
  simp [State.fret_setFret_other _ _ _ _ hj]

theorem State.streamTaken_fret : (s.streamTaken s1 f w wait ce supply A).fret (fretIdx f)
    = (streamSlot (s1.fret (fretIdx f)) (s.fret (fretIdx f)).voicing (s.odNat (od 0x2100 5)) (bits w 30 27) (bits w 26 26 = 1) A
        (s.fret (fretIdx f)).current.tile).1 := by
  unfold State.streamTaken
  simp

theorem State.streamMet_onlyRegs : s1.onlyRegs
    (((s1.aliasWait (fretIdx f) wait).sourceWait (fretIdx f) (bits w 55 52) supply.wait).sramCe f.die.val ce)
    (aliasRegs f.die.val ++ [regKey f.die.val Reg.fretStatus, regKey f.die.val Reg.fretSramCeCount]) := by
  have hwait := State.aliasWait_onlyRegs s1 (fretIdx f) wait
  have hsource := State.sourceWait_onlyRegs (s1.aliasWait (fretIdx f) wait) (fretIdx f) (bits w 55 52) supply.wait
  rw [fretIdx_die] at hwait hsource
  exact State.onlyRegs_trans (State.onlyRegs_wider (State.onlyRegs_trans hwait hsource) fun _ h => List.mem_append_left _ h)
    (State.onlyRegs_wider (State.sramCe_onlyRegs _ _ _) fun _ h => List.mem_append_right _ h)

theorem State.streamTaken_onlyRegs : s1.onlyRegs (s.streamTaken s1 f w wait ce supply A) (streamCounts f.die.val) := by
  unfold State.streamTaken
  refine State.onlyRegs_trans (State.onlyRegs_setFret (State.onlyRegs_wider (State.streamMet_onlyRegs s1 f w wait ce supply) ?_) _ _)
    (State.onlyRegs_wider (State.countStream_onlyRegs _ _ _) ?_)
  · simp +contextual [aliasRegs, streamCounts]
  · simp +contextual [streamRegs, streamCounts]

theorem State.streamTaken_sat :
    let r := streamSlot (s1.fret (fretIdx f)) (s.fret (fretIdx f)).voicing (s.odNat (od 0x2100 5)) (bits w 30 27) (bits w 26 26 = 1) A
        (s.fret (fretIdx f)).current.tile
    (s.streamTaken s1 f w wait ce supply A).reg f.die.val Reg.accSatCount
      = if r.2.sat = 0 then s1.reg f.die.val Reg.accSatCount else cap32 (s1.reg f.die.val Reg.accSatCount + r.2.sat) := by
  have hmet := State.reg_of_onlyRegs (State.streamMet_onlyRegs s1 f w wait ce supply) (d := f.die.val) (n := Reg.accSatCount)
    (by simp [aliasRegs, regKey_same, Reg.accSatCount, Reg.accStatus, Reg.accAliasWaitCount, Reg.accAliasWaitCycles, Reg.fretStatus,
      Reg.fretSramCeCount])
  unfold State.streamTaken
  dsimp only
  rw [State.countStream_sat, State.reg_setFret, hmet]
  simp

end

/-! ### The second stream -/

/-- The registers that a test of the watcher may write (R230). -/
def agreeRegs : List Nat :=
  [regKey 6 Reg.numAgreeSampleCount, regKey 6 Reg.numStatus, regKey 6 Reg.numAgreeFailCount, regKey 6 Reg.mgmtStatus]

theorem State.agree_onlyRegs (s : State) (i k rows row tile : Nat) : s.onlyRegs (s.agree i k rows row tile) agreeRegs := by
  unfold State.agree agreeRegs
  have hsample := State.onlyRegs_bump (State.onlyRegs_refl s agreeRegs) 6 Reg.numAgreeSampleCount 1 (by decide)
  refine State.onlyRegs_ite ?_ (State.onlyRegs_of_regs hsample rfl)
  refine State.onlyRegs_trans ?_ (State.onlyRegs_wider (State.event_onlyRegs _ _ _) (by simp))
  exact State.onlyRegs_bump (State.onlyRegs_orReg (State.onlyRegs_of_regs hsample rfl) _ _ _ (by decide)) _ _ _ (by decide)

section
variable {s : State} {i w : Nat} {A B : Tile} {q : SampleAt} {p : Param} (h : s.masterFails p q B = none)
include h

/-- Where the master's tile reads well, the second stream puts it into the free slot; a test may follow (R230). -/
theorem State.watchStream_reads :
    let f := s.fret i
    let r := streamSlot f f.voicing (s.odNat (od 0x2100 5)) f.voicing.freeSlot (bits w 26 26 = 1) A (s.masterTile p q B)
    let t := (s.setFret i r.1).countStream (i / 384) r.2
    s.watchStream i w A B q p = t
      ∨ s.watchStream i w A B q p = t.agree i (bits w 30 27) (bits w 37 31) q.rowTile q.colTile := by
  unfold State.watchStream
  simp only [h]
  split
  · exact .inr rfl
  · exact .inl rfl

theorem State.watchStream_frame : s.evolves (s.watchStream i w A B q p) [.regs, .frets, .num, .dict]
    ∧ s.onlyFret (s.watchStream i w A B q p) i ∧ s.onlyRegs (s.watchStream i w A B q p) (streamRegs (i / 384) ++ agreeRegs)
    ∧ (s.watchStream i w A B q p).fret i = (streamSlot (s.fret i) (s.fret i).voicing (s.odNat (od 0x2100 5))
        (s.fret i).voicing.freeSlot (bits w 26 26 = 1) A (s.masterTile p q B)).1 := by
  have hset : ∀ f c, s.evolves ((s.setFret i f).countStream (i / 384) c) [.regs, .frets, .num, .dict]
      ∧ s.onlyFret ((s.setFret i f).countStream (i / 384) c) i
      ∧ s.onlyRegs ((s.setFret i f).countStream (i / 384) c) (streamRegs (i / 384) ++ agreeRegs)
      ∧ ((s.setFret i f).countStream (i / 384) c).fret i = f := fun f c =>
    ⟨State.evolves_step (State.countStream_evolves _ _ _) (State.evolves_wider (State.setFret_evolves _ _ _) rfl) rfl,
      State.onlyFret_evolves (State.countStream_evolves _ _ _) rfl (State.onlyFret_setFret (State.onlyFret_refl _ _) _),
      State.onlyRegs_wider (State.onlyRegs_trans (State.onlyRegs_setFret (State.onlyRegs_refl _ _) _ _)
        (State.countStream_onlyRegs _ _ _)) fun _ h => List.mem_append_left _ h,
      by simp⟩
  obtain ⟨hevolves, honly, hregs, hfret⟩ := hset _ _
  rcases State.watchStream_reads (i := i) (w := w) (A := A) h with ht | ht
  · rw [ht]
    exact ⟨hevolves, honly, hregs, hfret⟩
  · have hagree := State.agree_evolves
    rw [ht]
    refine ⟨State.evolves_step (hagree _ _ _ _ _ _) hevolves rfl, State.onlyFret_evolves (hagree _ _ _ _ _ _) rfl honly,
      State.onlyRegs_trans hregs (State.onlyRegs_wider (State.agree_onlyRegs _ _ _ _ _ _) fun _ h => List.mem_append_right _ h),
      (State.fret_evolves (hagree _ _ _ _ _ _) rfl i).trans hfret⟩

end

/-! ### From SRAM -/

/-- A tile from SRAM is the bytes at its offset (R87). -/
theorem State.streamSource_sram {s : State} {f : FretId} {w : Nat} (supply : Supply) (ue : Bool) (hsrc : bits w 55 52 = 0) :
    let fr := s.fret (fretIdx f)
    let lines := bits w 37 31
    let blocks := fr.current.tile.blocks
    s.streamSource f w supply ue = .got s (Tile.of fr.voicing.fmtA lines blocks
      (fr.sramBytes (fr.sramOff w (16 * bits w 51 38)) (tileBytes fr.voicing.fmtA lines blocks))) := by
  unfold State.streamSource
  rw [hsrc]
  exact State.takeTile_sram _ _ _ _ _ _ _ _ _ _ _ _

section
variable {s : State} {f : FretId} {w wait ce : Nat} {supply : Supply} {ue : Bool} {sample : Option SampleAt}
  (h : s.issues f 3 w) (hbusy : s.streamBusy f w = false)
include h hbusy

/-- A STREAM from SRAM that the watcher does not sample. -/
theorem execStream_sram_unwatched {A : Tile} (htile : s.streamSource f w supply ue = .got s A) (hsrc : bits w 55 52 = 0)
    (hsample : sample = none ∨ ∃ q, sample = some q ∧ s.watched (s.fret (fretIdx f)) (s.fret (fretIdx f)).current.tile q = none) :
    exec (.stream f wait ce supply ue sample) s
      = .next ((s.streamTaken s f w wait ce supply A).updFret (fretIdx f) (·.advance)) := by
  have hexec := execStream_unwatched (wait := wait) (ce := ce) (sample := sample) h hbusy htile fun q hq => by
    rw [State.watched_of_fretboard (State.streamTaken_evolves _ _ _ _ _ _ _ _).1]
    rcases hsample with hsample | ⟨q', hq', hnone⟩
    · rw [hsample] at hq
      cases hq
    · rw [hq'] at hq
      cases hq
      exact hnone
  rwa [hsrc, State.passOperand_sram] at hexec

/-- One from SRAM that it samples. -/
theorem execStream_sram_watched {A : Tile} (htile : s.streamSource f w supply ue = .got s A) (hsrc : bits w 55 52 = 0) {q : SampleAt}
    {p : Param} (hp : s.watched (s.fret (fretIdx f)) (s.fret (fretIdx f)).current.tile q = some p) :
    exec (.stream f wait ce supply ue (some q)) s
      = .next (((s.streamTaken s f w wait ce supply A).watchStream (fretIdx f) w A (s.fret (fretIdx f)).current.tile q p).updFret
          (fretIdx f) (·.advance)) := by
  have hexec := execStream_watched (wait := wait) (ce := ce) h hbusy htile
    ((State.watched_of_fretboard (State.streamTaken_evolves s s f w wait ce supply A).1 _ _ _).trans hp)
  rwa [hsrc, State.passOperand_sram] at hexec

end

theorem watchRegs_subset (d : Nat) : ∀ x ∈ streamRegs d ++ agreeRegs, x ∈ streamCounts d ++ agreeRegs := by
  simp +contextual [streamRegs, streamCounts]

/-- Settles O3: the state that the source leaves takes the waits and the stream; the watcher's stream, where there is one, starts from
that state, whose parameters are those of before. -/
theorem streamAddsTerms : Obligations.StreamAddsTerms := by
  intro s f w wait ce supply ue sample i d fr v T B slot src off busy tile c h
  refine ⟨fun hbusy => execStream_stays h hbusy, fun hbusy s1 htile => execStream_not_got h hbusy htile, fun hbusy s1 A htile => ?_,
    fun hbusy hsrc => ?_⟩
  · obtain ⟨t, ht, hchanges, -⟩ := execStream_evolves f wait ce supply ue sample s
    refine State.runs_of (execStream_evolves f wait ce supply ue sample s) rfl ht (State.within_self _) fun hnone => ?_
    have hexec := execStream_unwatched (wait := wait) (ce := ce) (sample := sample) h hbusy htile (by simp [hnone])
    have htaken := Host.Outcome.next.inj (ht.symm.trans hexec)
    rw [htaken, State.passOperand_fret_same, State.fret_updFret_same, State.streamTaken_fret]
  · intro A r counts watched
    have htile : s.streamSource f w supply ue = .got s A := State.streamSource_sram supply ue hsrc
    have hevolves := State.streamTaken_evolves s s f w wait ce supply A
    have honly := State.streamTaken_onlyFret s s f w wait ce supply A
    have hregs := State.streamTaken_onlyRegs s s f w wait ce supply A
    have hfret := State.streamTaken_fret s s f w wait ce supply A
    refine ⟨fun hsample => ⟨_, execStream_sram_unwatched h hbusy htile hsrc hsample, ?_, State.onlyFret_updFret honly _, ?_,
      State.onlyRegs_updFret hregs _ _, ?_⟩, fun q p hq hp hgood => ?_⟩
    · exact (State.evolves_step (State.updFret_evolves _ _ _) (State.evolves_wider hevolves rfl) rfl).1
    · rw [State.fret_updFret_same, hfret]
    · rw [State.reg_updFret]
      exact State.streamTaken_sat s s f w wait ce supply A
    · subst hq
      have hsame := hevolves.1
      obtain ⟨hwatch, hwatchFret, hwatchRegs, hwatched⟩ := State.watchStream_frame (i := i) (w := w) (A := A)
        ((State.masterFails_of_fretboard hsame p q B).trans hgood)
      refine ⟨_, execStream_sram_watched h hbusy htile hsrc hp, ?_,
        State.onlyFret_updFret (fun j hj => (hwatchFret j hj).trans (honly j hj)) _, ?_, ?_⟩
      · exact (State.evolves_step (State.updFret_evolves _ _ _) (State.evolves_step hwatch (State.evolves_wider hevolves rfl) rfl) rfl).1
      · rw [State.fret_updFret_same, hwatched, State.odNat_of_fretboard hsame, State.masterTile_of_fretboard hsame, hfret]
      · refine State.onlyRegs_updFret ?_ _ _
        refine State.onlyRegs_trans (State.onlyRegs_wider hregs fun _ h => List.mem_append_left _ h)
          (State.onlyRegs_wider hwatchRegs ?_)
        rw [show i / 384 = f.die.val from fretIdx_die f]
        exact watchRegs_subset f.die.val

end Sys2Proof.Machine

/-! BRIDGE (R133, R140, R145): a fret's contribution. -/

namespace Sys2Proof.Machine

/-- Must a BRIDGE wait: an undelivered one names its slot, or the companion that a norm writes (R133)? -/
def State.bridgeBusy (s : State) (f : Issue) (w : Nat) : Bool :=
  let i := fretIdx f.toFretId
  s.slotBusy i (bits w 55 52) || ((s.fret i).voicing.op ≤ 4 && s.slotBusy i (bits w 55 52 + 1))

/-- The contribution of fret `i` by a BRIDGE whose word is `w`. -/
def State.bridgeContribution (s : State) (i d w : Nat) : Contribution :=
  let fr := s.fret i
  let v := fr.voicing
  let slot := bits w 55 52
  let rows := bits w 51 45
  { die := d, index := i % 384, pos := v.position, base := i % 384 - v.position, size := v.size
    ordinal := fr.bridgeIssued + fr.barIssued, runNo := SMap.get 0 s.board.runs (i * 65536 + v.vid) - 1, vid := v.vid, op := v.op
    deliver := v.deliver, extent := v.extent, norm := v.norm, k := v.k, rows := rows, cols := v.n, slot := slot, int := v.int
    layer := v.layer, tensor := v.tensor, pass := v.pass, mb := (s.frameOf fr).2
    vals := slotValues fr v (s.odNat (od 0x2100 5)) slot (rows * v.n), mutes := slotMutes fr v slot (rows * v.n) }

/-- A fret that has issued one BRIDGE more; a barrier is counted apart (R145). -/
def Fret.bridged (f : Fret) (op : Nat) : Fret :=
  let f := f.advance
  if op = 5 then { f with barIssued := f.barIssued + 1 } else { f with bridgeIssued := f.bridgeIssued + 1 }

theorem Fret.bridged_barrier (f : Fret) : f.bridged 5 = { f.advance with barIssued := f.barIssued + 1 } := rfl

theorem Fret.bridged_other (f : Fret) {op : Nat} (hop : op ≠ 5) :
    f.bridged op = { f.advance with bridgeIssued := f.bridgeIssued + 1 } := by
  unfold Fret.bridged
  rw [if_neg hop]
  rfl

/-- The wait, the corrected errors and the flag of a BRIDGE, for a norm over a NaN (R142). -/
def State.bridgeMet (s : State) (f : Issue) (wait : Nat) (nan : Bool) : State :=
  let s := (s.aliasWait (fretIdx f.toFretId) wait).sramCe f.die.val f.ce
  if nan then s.flag f.die.val Reg.bridgeStatus 1 else s

theorem State.bridgeMet_fret (s : State) (f : Issue) (wait : Nat) (nan : Bool) (i : Nat) :
    (s.bridgeMet f wait nan).fret i = s.fret i := by
  unfold State.bridgeMet
  split <;> simp

theorem State.bridgeMet_board (s : State) (f : Issue) (wait : Nat) (nan : Bool) :
    (s.bridgeMet f wait nan).board.contribs = s.board.contribs := by
  have hwait : (s.aliasWait (fretIdx f.toFretId) wait).board.contribs = s.board.contribs := by
    unfold State.aliasWait
    split <;> rfl
  have hmet : ((s.aliasWait (fretIdx f.toFretId) wait).sramCe f.die.val f.ce).board = (s.aliasWait (fretIdx f.toFretId) wait).board :=
    (State.sramCe_evolves _ _ _).1 .board rfl
  unfold State.bridgeMet
  dsimp only
  split
  · exact (congrArg Board.contribs hmet).trans hwait
  · exact (congrArg Board.contribs hmet).trans hwait

theorem State.bridgeMet_metErrors (s : State) (f : Issue) (wait : Nat) (nan : Bool) :
    s.metErrors (s.bridgeMet f wait nan) f.die.val f.ce [regKey f.die.val Reg.accStatus, regKey f.die.val Reg.accAliasWaitCount,
      regKey f.die.val Reg.accAliasWaitCycles, regKey f.die.val Reg.bridgeStatus] := by
  have hwait := State.aliasWait_onlyRegs s (fretIdx f.toFretId) wait
  rw [fretIdx_die] at hwait
  have hmet := State.metErrors_sramCe (d := f.die.val) f.ce (State.onlyRegs_wider hwait (ls := [regKey f.die.val Reg.accStatus,
    regKey f.die.val Reg.accAliasWaitCount, regKey f.die.val Reg.accAliasWaitCycles, regKey f.die.val Reg.bridgeStatus])
    (by simp +contextual [aliasRegs]))
    (by simp [regKey_same, Reg.fretSramCeCount, Reg.accStatus, Reg.accAliasWaitCount, Reg.accAliasWaitCycles, Reg.bridgeStatus])
  unfold State.bridgeMet
  dsimp only
  split
  · refine State.metErrors_step (ls := [regKey f.die.val Reg.bridgeStatus])
      (State.onlyRegs_orReg (State.onlyRegs_refl _ _) _ _ _ (by simp)) hmet (by simp) ?_ ?_ <;>
        simp [regKey_same, Reg.fretStatus, Reg.fretSramCeCount, Reg.bridgeStatus]
  · exact hmet

/-- The state after a BRIDGE issued. -/
def State.bridgeIssued (s : State) (f : Issue) (w wait : Nat) (nan : Bool) : State :=
  let i := fretIdx f.toFretId
  let c := s.bridgeContribution i f.die.val w
  ((s.bridgeMet f wait nan).updFret i (·.bridged (s.fret i).voicing.op)).updBoard fun b => { b with contribs := b.contribs ++ [c] }

section
variable (s : State) (f : Issue) (w wait : Nat) (nan : Bool)

theorem State.bridgeIssued_onlyFret : s.onlyFret (s.bridgeIssued f w wait nan) (fretIdx f.toFretId) := by
  intro j hj
  unfold State.bridgeIssued
  rw [State.fret_updBoard, State.fret_updFret_other _ _ _ _ hj, State.bridgeMet_fret]

theorem State.bridgeIssued_fret : (s.bridgeIssued f w wait nan).fret (fretIdx f.toFretId)
    = (s.fret (fretIdx f.toFretId)).bridged (s.fret (fretIdx f.toFretId)).voicing.op := by
  unfold State.bridgeIssued
  rw [State.fret_updBoard, State.fret_updFret_same, State.bridgeMet_fret]

theorem State.bridgeIssued_contribs : (s.bridgeIssued f w wait nan).board.contribs
    = s.board.contribs ++ [s.bridgeContribution (fretIdx f.toFretId) f.die.val w] := by
  rw [← State.bridgeMet_board s f wait nan]
  rfl

theorem State.bridgeIssued_metErrors : s.metErrors (s.bridgeIssued f w wait nan) f.die.val f.ce
    [regKey f.die.val Reg.accStatus, regKey f.die.val Reg.accAliasWaitCount, regKey f.die.val Reg.accAliasWaitCycles,
      regKey f.die.val Reg.bridgeStatus] :=
  State.metErrors_of_regs (State.bridgeMet_metErrors s f wait nan) rfl

end

section
variable {s : State} {f : Issue} {w wait : Nat} (h : s.issues f.toFretId 8 w)
include h

theorem execBridge_stays (hbusy : s.bridgeBusy f w = true) : s.stays (.bridge f wait) := by
  refine congrArg Host.Outcome.next ?_
  simp only [h]
  exact if_pos hbusy

theorem execBridge_issued (hbusy : s.bridgeBusy f w = false) :
    ∃ nan, exec (.bridge f wait) s = .next (s.bridgeIssued f w wait nan) := by
  unfold State.bridgeBusy at hbusy
  refine Exists.imp (fun _ => congrArg Host.Outcome.next) ?_
  simp only [h, hbusy, Bool.false_eq_true, if_false]
  split
  · exact ⟨true, rfl⟩
  · exact ⟨false, rfl⟩

end

/-- Settles O11: the issuing fret is one BRIDGE on, and its contribution joins the others. -/
theorem bridgeContributes : Obligations.BridgeContributes := by
  intro s f w wait i d fr v slot busy
  refine ⟨fun h hbusy => ?_, fun h hbusy => ?_⟩
  · exact execBridge_stays h hbusy
  · obtain ⟨nan, hexec⟩ := execBridge_issued (wait := wait) h hbusy
    have hfret := State.bridgeIssued_fret s f w wait nan
    refine State.runs_of (execBridge_evolves f wait s) rfl hexec rfl ⟨State.bridgeIssued_onlyFret s f w wait nan, ?_, ?_, ?_,
      State.bridgeIssued_metErrors s f w wait nan⟩
    · exact ⟨_, State.bridgeIssued_contribs s f w wait nan, rfl, rfl, rfl, rfl, rfl, rfl, rfl, rfl, rfl, rfl, rfl⟩
    · intro hop
      rw [hfret, show (s.fret (fretIdx f.toFretId)).voicing.op = 5 from hop, Fret.bridged_barrier]
    · intro hop
      rw [hfret, Fret.bridged_other _ hop]

end Sys2Proof.Machine

/-! The windows on a fret's SRAM and accumulators (R83, R129 to R131). -/

namespace Sys2Proof.Machine

/-- The place of a fret's window (R83). -/
theorem windowPlace_fret (f : FretId) {o : Nat} (ho : o < 0x100000) :
    windowPlace (0x40000000000 + (f.die.val * 512 + f.col.val * 32 + f.row.val) * 0x100000 + o) = (some (fretIdx f), o) := by
  have hdie := f.die.isLt
  have hcol := f.col.isLt
  have hrow := f.row.isLt
  generalize hslot : f.die.val * 512 + f.col.val * 32 + f.row.val = slot
  have hlocal : (0x40000000000 + slot * 0x100000 + o) % 0x40000000 = slot * 0x100000 + o := by omega
  unfold windowPlace
  dsimp only
  rw [hlocal, show (slot * 0x100000 + o) / 0x100000 = slot by omega, show (slot * 0x100000 + o) % 0x100000 = o by omega,
    if_pos (by omega)]
  unfold fretIdx
  rw [show slot / 512 = f.die.val by omega, show slot % 512 / 32 = f.col.val by omega, show slot % 32 = f.row.val by omega]

/-! ### What a write stores -/

theorem natLE_length (n v : Nat) : (natLE n v).length = n := by
  induction n generalizing v with
  | zero => rfl
  | succ n ih => exact congrArg (· + 1) (ih _)

theorem Fret.writeSram_within (f : Fret) {o : Nat} {bs : Bytes} (ho : o < 262144) (h : o + bs.length ≤ 262144) :
    f.writeSram o bs = { f with sram := SMap.setMany 0 f.sram o bs } := by
  unfold Fret.writeSram
  dsimp only
  rw [Nat.mod_eq_of_lt ho, List.take_of_length_le (by omega), List.drop_of_length_le (by omega)]
  rfl

/-- The accumulator word that an element is. -/
theorem slotBase_div_mod (v : Voicing) (w : Nat) : slotBase v (w / (v.m * v.n)) + w % (v.m * v.n) = w := by
  unfold slotBase
  rw [Nat.mul_assoc, Nat.mul_comm]
  exact Nat.div_add_mod w _

section
variable (f : Fret) (v : Voicing) (T k e : Nat) (x : F32) (mu : Bool)

theorem writeElem_acc : (writeElem f v T k e x mu).acc = SMap.set 0 f.acc (slotBase v k + e) x := by
  unfold writeElem
  dsimp only
  split <;> rfl

theorem writeElem_terms : (writeElem f v T k e x mu).terms = SMap.set 0 f.terms (slotBase v k + e) 0 := by
  unfold writeElem
  dsimp only
  split <;> rfl

theorem writeElem_mute : (writeElem f v T k e x mu).mute = SMap.set false f.mute (slotBase v k + e) mu := by
  unfold writeElem
  dsimp only
  split <;> rfl

theorem writeElem_spills : (writeElem f v T k e x mu).spills = f.spills := by
  unfold writeElem
  dsimp only
  split <;> rfl

theorem writeElem_bounded : (writeElem f v T k e x mu).bounded = f.bounded.filter (· ≠ k) := by
  unfold writeElem
  dsimp only
  split <;> rfl

/-- The spill pair of an element that owns one is clear (R123, R131). -/
theorem writeElem_spill (h : ownsPairs v T k = true) : SMap.get 0 (writeElem f v T k e x mu).spill (pairWord v k e) = 0
    ∧ SMap.get 0 (writeElem f v T k e x mu).spill (pairWord v k e + 1) = 0 := by
  unfold writeElem
  dsimp only
  rw [if_pos h]
  constructor <;> simp [SMap.get_setMany]

end

section
variable (s : State) (i w : Nat) (x : F32)

theorem State.windowWord_fret_elem (hactive : (s.fret i).active < 2)
    (hw : w < slotsOf (s.fret i).voicing.m (s.fret i).voicing.n * ((s.fret i).voicing.m * (s.fret i).voicing.n)) :
    let v := (s.fret i).voicing
    (s.windowWord i w x).fret i
      = writeElem (s.fret i) v (s.odNat (od 0x2100 5)) (w / (v.m * v.n)) (w % (v.m * v.n)) x false := by
  unfold State.windowWord
  rw [State.fret_updFret_same]
  exact if_pos (by simp [hactive, hw])

theorem State.windowWord_acc : ((s.windowWord i w x).fret i).acc = SMap.set 0 (s.fret i).acc w x := by
  unfold State.windowWord
  rw [State.fret_updFret_same]
  dsimp only
  split
  · rw [writeElem_acc, slotBase_div_mod]
  · rfl

theorem State.windowWord_onlyFret : s.onlyFret (s.windowWord i w x) i := State.onlyFret_updFret (State.onlyFret_refl s i) _

end

theorem State.windowPut_onlyFret (s : State) (i o width x : Nat) : s.onlyFret (s.windowPut i o width x) i := by
  unfold State.windowPut
  split
  · exact State.onlyFret_updFret (State.onlyFret_refl s i) _
  split
  · dsimp only
    split
    · exact State.onlyFret_updFret (State.windowWord_onlyFret s i _ _) _
    · exact State.windowWord_onlyFret s i _ _
  · exact State.onlyFret_refl s i

/-- Two words written one after the other (R131). -/
theorem State.windowWords_acc (s : State) (i k : Nat) (x y : F32) :
    (((s.windowWord i k x).windowWord i (k + 1) y).fret i).acc = SMap.set 0 (SMap.set 0 (s.fret i).acc k x) (k + 1) y := by
  rw [State.windowWord_acc, State.windowWord_acc]

/-! ### What a write does -/

theorem windowOk_below {o : Nat} (h : o < 0x40000) (width : Nat) : windowOk o width = true := by
  unfold windowOk windowWords
  rw [decide_eq_false (by omega : ¬ 0x40000 ≤ o)]
  rfl

theorem State.windowBusy_outside (s : State) (i : Nat) {o : Nat} (h : o < 0x40000 ∨ 0x88000 ≤ o) (width : Nat) :
    s.windowBusy i o width = false := by
  unfold State.windowBusy
  rcases h with h | h
  · simp [decide_eq_false (by omega : ¬ 0x40000 ≤ o)]
  · simp [decide_eq_false (by omega : ¬ o < 0x88000)]

section
variable {s : State} {i o width x addr : Nat}

theorem State.windowAccess_refused (hok : windowOk o width = false) :
    s.windowAccess ⟨i, o, width, some x, 2, addr⟩ = s.answer 2 addr [] true := by
  unfold State.windowAccess
  exact if_pos (by simp [hok])

theorem State.windowAccess_waits (hok : windowOk o width = true) (hbusy : s.windowBusy i o width = true) :
    s.windowAccess ⟨i, o, width, some x, 2, addr⟩
      = s.updBoard fun b => { b with waits := b.waits ++ [⟨i, o, width, some x, 2, addr⟩] } := by
  unfold State.windowAccess
  exact (if_neg (by simp [hok])).trans (if_pos hbusy)

theorem State.windowAccess_puts (hok : windowOk o width = true) (hbusy : s.windowBusy i o width = false) :
    s.windowAccess ⟨i, o, width, some x, 2, addr⟩ = s.windowPut i o width x := by
  unfold State.windowAccess
  exact (if_neg (by simp [hok])).trans (if_neg (by simp [hbusy]))

theorem State.windowPut_sram (ho : o < 0x40000) :
    s.windowPut i o width x = s.updFret i (·.writeSram o (natLE (min width (0x40000 - o)) x)) :=
  if_pos ho

theorem State.windowPut_readOnly (ho : 0x88000 ≤ o) : s.windowPut i o width x = s :=
  (if_neg (by omega)).trans (if_neg (by omega))

theorem State.windowPut_words (hlo : 0x40000 ≤ o) (hhi : o < 0x88000) : s.windowPut i o width x
    = if width = 8 then (s.windowWord i ((o - 0x40000) / 4) (BitVec.ofNat 32 x)).windowWord i ((o - 0x40000) / 4 + 1)
        (BitVec.ofNat 32 (x / 0x100000000)) else s.windowWord i ((o - 0x40000) / 4) (BitVec.ofNat 32 x) :=
  (if_neg (by omega)).trans (if_pos hhi)

theorem execWindowWrite_stays {data : WindowData} (h : inWindows addr = false ∨ (windowPlace addr).1 = none) :
    s.stays (.windowWrite addr width data) := by
  refine congrArg Host.Outcome.next ?_
  split
  · rfl
  · next j hj =>
    rcases h with h | h
    · exact if_neg (by simp [h])
    · rw [h] at hj
      cases hj

theorem execWindowWrite_held {data : WindowData} (hplace : windowPlace addr = (some i, o)) (hheld : s.held (i / 384) 0 = true) :
    s.stays (.windowWrite addr width data) := by
  refine congrArg Host.Outcome.next ?_
  simp only [hplace]
  exact if_neg (by simp [hheld])

theorem execWindowWrite_serves {data : WindowData} (hin : inWindows addr = true) (hplace : windowPlace addr = (some i, o))
    (hheld : s.held (i / 384) 0 = false) : exec (.windowWrite addr width data) s
      = .next ((s.windowAccess ⟨i, o, width, some data.value.toNat, 2, addr⟩).sramCe (i / 384) data.ce) := by
  have hwrite : s.windowWrite addr width data.value.toNat = s.windowAccess ⟨i, o, width, some data.value.toNat, 2, addr⟩ := by
    unfold State.windowWrite
    simp only [hplace]
  refine congrArg Host.Outcome.next ?_
  simp only [hplace]
  rw [hwrite]
  exact if_pos (by simp [hin, hheld])

end

/-- What a write of accumulator words leaves (R131): every other word as it was, and one element of its slot without terms, mute or
spill pair. -/
theorem State.windowPut_elements (s : State) (i o width x : Nat) (hlo : 0x40000 ≤ o) (hhi : o < 0x88000) :
    let fr := s.fret i
    let v := fr.voicing
    let E := v.m * v.n
    let T := s.odNat (od 0x2100 5)
    let k := (o - 0x40000) / 4
    let t := (s.windowPut i o width x).fret i
    SMap.get 0 t.acc k = BitVec.ofNat 32 x
      ∧ (width = 8 → SMap.get 0 t.acc (k + 1) = BitVec.ofNat 32 (x / 0x100000000))
      ∧ (∀ y, y ≠ k → (width = 8 → y ≠ k + 1) → SMap.get 0 t.acc y = SMap.get 0 fr.acc y)
      ∧ (width = 4 → fr.active < 2 → k < slotsOf v.m v.n * E →
        SMap.get 0 t.terms k = 0 ∧ SMap.get false t.mute k = false ∧ t.spills = fr.spills ∧ t.bounded = fr.bounded.filter (· ≠ k / E)
        ∧ (ownsPairs v T (k / E) = true → SMap.get 0 t.spill (pairWord v (k / E) (k % E)) = 0
          ∧ SMap.get 0 t.spill (pairWord v (k / E) (k % E) + 1) = 0)) := by
  intro fr v E T k t
  have ht : t = (s.windowPut i o width x).fret i := rfl
  rw [State.windowPut_words hlo hhi] at ht
  by_cases h8 : width = 8
  · rw [if_pos h8] at ht
    have hacc : t.acc = SMap.set 0 (SMap.set 0 fr.acc k (BitVec.ofNat 32 x)) (k + 1) (BitVec.ofNat 32 (x / 0x100000000)) := by
      rw [ht, State.windowWords_acc]
    refine ⟨?_, fun _ => ?_, fun y hk hk1 => ?_, fun h4 => absurd (h4.symm.trans h8) (by decide)⟩
    · rw [hacc, SMap.get_set_other _ _ _ _ _ (by omega), SMap.get_set_same]
    · rw [hacc, SMap.get_set_same]
    · rw [hacc, SMap.get_set_other _ _ _ _ _ (hk1 h8), SMap.get_set_other _ _ _ _ _ hk]
  · rw [if_neg h8] at ht
    have hacc : t.acc = SMap.set 0 fr.acc k (BitVec.ofNat 32 x) := by rw [ht, State.windowWord_acc]
    refine ⟨?_, fun h => absurd h h8, fun y hk _ => ?_, fun _ hactive hk => ?_⟩
    · rw [hacc, SMap.get_set_same]
    · rw [hacc, SMap.get_set_other _ _ _ _ _ hk]
    · rw [State.windowWord_fret_elem s i k _ hactive hk] at ht
      rw [ht]
      have hword : slotBase v (k / E) + k % E = k := slotBase_div_mod v k
      refine ⟨?_, ?_, writeElem_spills _ _ _ _ _ _ _, writeElem_bounded _ _ _ _ _ _ _, writeElem_spill _ _ _ _ _ _ _⟩
      · rw [writeElem_terms, hword, SMap.get_set_same]
      · rw [writeElem_mute, hword, SMap.get_set_same]

/-! ### Time-outs -/

theorem execWindowTimeout_stays {s : State} {f : FretId} {write0 : Bool}
    (h : (s.board.waits.find? fun x => x.fret = fretIdx f && x.data.isSome = write0) = none) : s.stays (.windowTimeout f write0) := by
  refine congrArg Host.Outcome.next ?_
  unfold State.windowTimeout
  rw [h]

/-- The oldest access that waits ends; a read is answered with all ones (R130). -/
theorem execWindowTimeout_ends {s : State} {f : FretId} {write0 : Bool} {y : WindowWait}
    (h : (s.board.waits.find? fun x => x.fret = fretIdx f && x.data.isSome = write0) = some y) :
    let t := (s.updBoard fun b => { b with waits := b.waits.erase y }).flag f.die.val Reg.accStatus 4
    exec (.windowTimeout f write0) s
      = .next (if write0 then t else t.answer y.cls y.addr (List.replicate y.width 0xFF) false) := by
  refine congrArg Host.Outcome.next ?_
  unfold State.windowTimeout
  rw [h, fretIdx_die]

/-- What a write leaves of the rest, and the errors that it met. -/
theorem State.sramCe_frame {s t : State} {P : List Part} (d ce : Nat) (h : s.evolves t P) (hP : P.contains .regs = false) :
    s.metErrors (t.sramCe d ce) d ce [] :=
  State.metErrors_sramCe ce (State.onlyRegs_evolves h hP (State.onlyRegs_refl s [])) List.not_mem_nil

theorem State.sramCe_after {s t : State} {P : List Part} (d ce : Nat) (h : s.evolves t P) : s.evolves (t.sramCe d ce) (.regs :: P) :=
  State.evolves_step (State.sramCe_evolves t d ce) (State.evolves_wider h (List.all_eq_true.mpr fun p hp => by simp [hp])) rfl

/-- Settles O17: the window's place, width and slot decide what an access does; the oldest that waits ends at its time-out. -/
theorem fretWindow : Obligations.FretWindow := by
  intro s addr width i o data fr v x E T k c
  refine ⟨fun h => execWindowWrite_stays h, fun hplace hheld => execWindowWrite_held hplace hheld, fun hin hplace hheld => ?_,
    fun f o ho => windowPlace_fret f ho, fun f write0 h => execWindowTimeout_stays h, fun f write0 y h => ?_⟩
  · have hexec := execWindowWrite_serves (width := width) (data := data) hin hplace hheld
    refine ⟨fun ho => ?_, fun hok => ?_, fun hok hbusy => ?_, fun ho hok => ?_, fun hlo hhi hok hbusy => ?_⟩
    · rw [State.windowAccess_puts (windowOk_below ho width) (State.windowBusy_outside s i (.inl ho) width), State.windowPut_sram ho]
        at hexec
      have hput := State.updFret_evolves s i (·.writeSram o (natLE (min width (0x40000 - o)) data.value.toNat))
      refine State.runs_evolves hexec (State.sramCe_after _ _ hput) rfl
        ⟨State.onlyFret_evolves (State.sramCe_evolves _ _ _) rfl (State.onlyFret_updFret (State.onlyFret_refl s i) _),
          State.sramCe_frame _ _ hput rfl, ?_⟩
      rw [State.fret_sramCe, State.fret_updFret_same, Fret.writeSram_within _ ho (by rw [natLE_length]; omega)]
    · rw [State.windowAccess_refused hok] at hexec
      have hanswer := State.answer_evolves s 2 addr [] true
      exact State.runs_evolves hexec (State.sramCe_after _ _ hanswer) rfl
        ⟨State.sramCe_frame _ _ hanswer rfl, (State.sramCe_evolves _ _ _).1 .dram rfl⟩
    · rw [State.windowAccess_waits hok hbusy] at hexec
      have hwaits := State.updBoard_evolves s fun b => { b with waits := b.waits ++ [⟨i, o, width, some x, 2, addr⟩] }
      exact State.runs_evolves hexec (State.sramCe_after _ _ hwaits) rfl
        ⟨State.sramCe_frame _ _ hwaits rfl, (State.sramCe_evolves _ _ _).1 .board rfl⟩
    · rw [State.windowAccess_puts hok (State.windowBusy_outside s i (.inr ho) width), State.windowPut_readOnly ho] at hexec
      exact State.runs_evolves hexec (State.sramCe_evolves _ _ _) rfl
        (State.sramCe_frame _ _ (State.evolves_refl s []) rfl)
    · rw [State.windowAccess_puts hok hbusy] at hexec
      have hput := State.windowPut_evolves s i o width data.value.toNat
      refine State.runs_evolves hexec (State.sramCe_after _ _ hput) rfl
        ⟨State.onlyFret_evolves (State.sramCe_evolves _ _ _) rfl (State.windowPut_onlyFret s i o width _),
          State.sramCe_frame _ _ hput rfl, ?_⟩
      rw [State.fret_sramCe]
      exact State.windowPut_elements s i o width _ hlo hhi
  · have hends := execWindowTimeout_ends h
    refine State.runs_of (execWindowTimeout_evolves f write0 s) rfl hends rfl ?_
    have hcount := State.onlyRegs_orReg (State.onlyRegs_refl (s.updBoard fun b => { b with waits := b.waits.erase y })
      [regKey f.die.val Reg.accStatus]) f.die.val Reg.accStatus (pow2 4) (by simp)
    cases write0 with
    | true => exact ⟨hcount, State.flag_testBit _ _ _ _ (by decide), rfl, fun _ => rfl, fun h => absurd h (by decide)⟩
    | false => exact ⟨hcount, State.flag_testBit _ _ _ _ (by decide), rfl, fun h => absurd h (by decide), fun _ => rfl⟩

end Sys2Proof.Machine

/-! SPILL and the accumulation bound (R122 to R124, R128). -/

namespace Sys2Proof.Machine

/-! ### Spilling a slot -/

/-- Where the pairs of a list of pairs stand. -/
theorem getD_flatMap_pair {α β : Type} (g h : α → β) (d : β) (l : List α) (e : Nat) (he : e < l.length) :
    (l.flatMap fun p => [g p, h p]).getD (2 * e) d = g l[e] ∧ (l.flatMap fun p => [g p, h p]).getD (2 * e + 1) d = h l[e] := by
  induction l generalizing e with
  | nil => cases he
  | cons p l ih =>
    cases e with
    | zero => exact ⟨rfl, rfl⟩
    | succ e => exact ih e (by simpa using he)

theorem length_flatMap_pair {α β : Type} (g h : α → β) (l : List α) : (l.flatMap fun p => [g p, h p]).length = 2 * l.length := by
  induction l with
  | nil => rfl
  | cons p l ih =>
    rw [List.flatMap_cons, List.length_append, ih, List.length_cons]
    simp only [List.length_cons, List.length_nil]
    omega

/-- What a spill of the value `a` makes of a pair, and its saturations (R122). -/
def spillPair (hi lo a : F32) : F32 × F32 × Nat :=
  if Fp.isFinite hi && Fp.isFinite a then
    let t := twoSum hi a
    if t.2.2 then (t.1, (0#32), 1) else (t.1, Fp.add lo t.2.1, 0)
  else ((Fp.addSat hi a).1, (0#32), 0)

theorem low_of_ite (finite saturated : Bool) (x y : F32) (z : F32) :
    (if finite then (if saturated then (x, z, 1) else (x, y, 0)) else (x, z, 0) : F32 × F32 × Nat).2.1
      = if finite && !saturated then y else z := by
  cases finite with
  | false => rfl
  | true => cases saturated with
    | false => rfl
    | true => rfl

theorem spillPair_hi (hi lo a : F32) : (spillPair hi lo a).1 = (Fp.addSat hi a).1 := by
  unfold spillPair twoSum
  dsimp only
  split
  · split <;> rfl
  · rfl

/-- The low word takes the exact error of the sum, where the sum is finite (R122). -/
theorem spillPair_lo (hi lo a : F32) :
    let sum := Fp.addSat hi a
    let bb := Fp.sub sum.1 hi
    let err := Fp.add (Fp.sub hi (Fp.sub sum.1 bb)) (Fp.sub a bb)
    (spillPair hi lo a).2.1 = if Fp.isFinite hi && Fp.isFinite a && !sum.2 then Fp.add lo err else 0 := by
  intro sum bb err
  have hpair : spillPair hi lo a = if Fp.isFinite hi && Fp.isFinite a then
      (if sum.2 then (sum.1, (0#32), 1) else (sum.1, Fp.add lo err, 0)) else (sum.1, (0#32), 0) := rfl
  rw [hpair]
  exact low_of_ite _ _ _ _ _

section
variable (f : Fret) (v : Voicing) (k : Nat)

/-- The pairs of a slot after its spill. -/
def spillPairs : List (F32 × F32 × Nat) :=
  (List.range (v.m * v.n)).map fun e => spillPair (SMap.get 0 f.spill (pairWord v k e)) (SMap.get 0 f.spill (pairWord v k e + 1))
    (SMap.get 0 f.acc (slotBase v k + e))

theorem spillSlot_spill : (spillSlot f v k).1.spill
    = SMap.setMany 0 f.spill (pairWord v k 0) ((spillPairs f v k).flatMap fun p => [p.1, p.2.1]) := rfl

theorem spillSlot_acc (x : Nat) : SMap.get 0 (spillSlot f v k).1.acc x
    = if slotBase v k ≤ x ∧ x < slotBase v k + v.m * v.n then 0 else SMap.get 0 f.acc x :=
  SMap.get_eraseRange 0 f.acc _ _ x

theorem spillSlot_terms (x : Nat) : SMap.get 0 (spillSlot f v k).1.terms x
    = if slotBase v k ≤ x ∧ x < slotBase v k + v.m * v.n then 0 else SMap.get 0 f.terms x :=
  SMap.get_eraseRange 0 f.terms _ _ x

variable {e : Nat} (he : e < v.m * v.n)
include he

theorem spillSlot_pair : SMap.get 0 (spillSlot f v k).1.spill (pairWord v k e)
      = (spillPair (SMap.get 0 f.spill (pairWord v k e)) (SMap.get 0 f.spill (pairWord v k e + 1))
          (SMap.get 0 f.acc (slotBase v k + e))).1
    ∧ SMap.get 0 (spillSlot f v k).1.spill (pairWord v k e + 1)
      = (spillPair (SMap.get 0 f.spill (pairWord v k e)) (SMap.get 0 f.spill (pairWord v k e + 1))
          (SMap.get 0 f.acc (slotBase v k + e))).2.1 := by
  have hlength : (spillPairs f v k).length = v.m * v.n := by simp [spillPairs]
  have hword : pairWord v k e = pairWord v k 0 + 2 * e := by
    unfold pairWord
    omega
  obtain ⟨hhi, hlo⟩ := getD_flatMap_pair (fun p : F32 × F32 × Nat => p.1) (fun p => p.2.1) (0 : F32) (spillPairs f v k) e
    (by rw [hlength]; exact he)
  have hpair : (spillPairs f v k)[e]'(by rw [hlength]; exact he) = spillPair (SMap.get 0 f.spill (pairWord v k e))
      (SMap.get 0 f.spill (pairWord v k e + 1)) (SMap.get 0 f.acc (slotBase v k + e)) := by
    simp [spillPairs]
  rw [hpair] at hhi hlo
  rw [spillSlot_spill, SMap.get_setMany, SMap.get_setMany, length_flatMap_pair, hlength, if_pos (by omega), if_pos (by omega),
    ← hhi, ← hlo, hword]
  constructor <;> congr 1 <;> omega

theorem spillSlot_spills : SMap.get 0 (spillSlot f v k).1.spills (slotBase v k + e) = SMap.get 0 f.spills (slotBase v k + e) + 1 := by
  have hspills : (spillSlot f v k).1.spills
      = SMap.setMany 0 f.spills (slotBase v k) ((SMap.getMany 0 f.spills (slotBase v k) (v.m * v.n)).map (· + 1)) := rfl
  rw [hspills, SMap.get_setMany]
  unfold SMap.getMany
  simp [he]

end

/-! ### SPILL -/

/-- The state after a slot is spilled, with what the fret counts (R122). -/
def State.spilled (s : State) (f : Issue) (slot : Nat) : State :=
  let fr := s.fret (fretIdx f.toFretId)
  let r := spillSlot fr fr.voicing slot
  (((s.setFret (fretIdx f.toFretId) r.1).bump f.die.val Reg.accSpillCount 1).flagCount f.die.val Reg.accStatus 1 Reg.accSatCount
    r.2).sramCe f.die.val f.ce

section
variable (s : State) (f : Issue) (slot : Nat)

theorem State.spilled_fret (j : Nat) : (s.spilled f slot).fret j = if j = fretIdx f.toFretId then
    (spillSlot (s.fret (fretIdx f.toFretId)) (s.fret (fretIdx f.toFretId)).voicing slot).1 else s.fret j := by
  unfold State.spilled
  rw [State.fret_sramCe, State.fret_flagCount, State.fret_bump, State.fret_setFret]

/-- The registers that a SPILL writes besides the errors that it met. -/
def spillRegs (d : Nat) : List Nat := [regKey d Reg.accSpillCount, regKey d Reg.accStatus, regKey d Reg.accSatCount]

theorem State.spilled_metErrors : s.metErrors (s.spilled f slot) f.die.val f.ce (spillRegs f.die.val) := by
  unfold State.spilled
  refine State.metErrors_sramCe _ (State.onlyRegs_flagCount (State.onlyRegs_bump (State.onlyRegs_setFret (State.onlyRegs_refl s _) _ _)
    _ _ _ ?_) _ _ _ _ _ ?_ ?_) ?_
  all_goals simp [spillRegs, regKey_same, Reg.fretSramCeCount, Reg.accSpillCount, Reg.accStatus, Reg.accSatCount]

theorem State.spilled_count : (s.spilled f slot).reg f.die.val Reg.accSpillCount
    = cap32 (s.reg f.die.val Reg.accSpillCount + 1) := by
  have hsat : ∀ (t : State) n, (t.flagCount f.die.val Reg.accStatus 1 Reg.accSatCount n).reg f.die.val Reg.accSpillCount
      = t.reg f.die.val Reg.accSpillCount := fun t n =>
    State.reg_of_onlyRegs (State.onlyRegs_flagCount (ks := [regKey f.die.val Reg.accStatus, regKey f.die.val Reg.accSatCount])
      (State.onlyRegs_refl t _) _ _ _ _ _ (by simp) (by simp))
      (by simp [regKey_same, Reg.accSpillCount, Reg.accStatus, Reg.accSatCount])
  unfold State.spilled
  rw [State.reg_of_onlyRegs (State.sramCe_onlyRegs _ _ _)
    (by simp [regKey_same, Reg.accSpillCount, Reg.fretStatus, Reg.fretSramCeCount]), hsat, State.reg_bump_same, State.reg_setFret]

variable {s} {f}

theorem execSpill_due {slot : Fin 16} (hactive : (s.fret (fretIdx f.toFretId)).active < 2) (hheld : s.held f.die.val 1 = false)
    (hdue : spillDue (s.fret (fretIdx f.toFretId)) (s.fret (fretIdx f.toFretId)).voicing (s.odNat (od 0x2100 5)) slot.val = true) :
    exec (.spill f slot) s = .next (s.spilled f slot.val) :=
  congrArg Host.Outcome.next (if_pos (by simp [hactive, hheld, hdue]))

theorem execSpill_stays {slot : Fin 16} (h : spillDue (s.fret (fretIdx f.toFretId)) (s.fret (fretIdx f.toFretId)).voicing
    (s.odNat (od 0x2100 5)) slot.val = false ∨ s.held f.die.val 1 = true) : s.stays (.spill f slot) := by
  refine congrArg Host.Outcome.next (if_neg ?_)
  rcases h with h | h <;> simp [h]

end

/-! ### The bound -/

/-- One event of at most 16 parameter bytes is one record (R416). -/
theorem State.event_logged (s : State) (code : Nat) {params : Bytes} (hne : params ≠ []) (hlen : params.length ≤ 16) :
    s.logged (s.event code params) code params := by
  have hchunks : chunks 16 params = [params] := by
    cases params with
    | nil => exact absurd rfl hne
    | cons b bs =>
      unfold chunks
      rw [List.length_cons, chunk, List.take_of_length_le hlen, List.drop_of_length_le hlen]
      cases bs <;> rfl
  have hparts : (if params.isEmpty then [[]] else chunks 16 params) = [params] := by
    rw [hchunks, if_neg (by simpa using hne)]
  unfold State.logged State.records State.event
  dsimp only
  rw [hparts]
  dsimp only [List.zipIdx, List.foldl, List.map, List.length]
  rw [State.logRecord_dict]
  rfl

theorem regKey_ne_die {d d' n n' : Nat} (hd : d ≠ d') (hn : n < 0x200000) (hn' : n' < 0x200000) : regKey d n ≠ regKey d' n' := by
  unfold regKey
  omega

/-- An event writes no register of a compute die. -/
theorem State.reg_event_die (s : State) (code : Nat) (params : Bytes) {d n : Nat} (hd : d ≠ 6) (hn : n < 0x200000) :
    (s.event code params).reg d n = s.reg d n :=
  State.reg_of_onlyRegs (State.event_onlyRegs s code params) (by simpa using regKey_ne_die hd hn (by decide))

theorem boundPassed_le {f : Fret} {v : Voicing} {k kind : Nat} (h : boundPassed f v k = some kind) : kind ≤ 1 := by
  unfold boundPassed at h
  dsimp only at h
  split at h
  · cases h
  split at h
  · cases h
    decide
  split at h
  · cases h
    decide
  · cases h

/-- The fret and the registers that report a slot's bound (R128). -/
def State.boundMarked (s : State) (f : FretId) (slot kind : Nat) : State :=
  let fr := s.fret (fretIdx f)
  ((((s.setFret (fretIdx f) { fr with bounded := slot :: fr.bounded }).flag f.die.val Reg.accStatus 3).bump f.die.val
    Reg.accBoundCount 1)).setReg f.die.val Reg.accBoundLoc
      (0x80000000 + kind * 65536 + slot * 4096 + f.col.val * 256 + f.row.val)

def boundParams (f : FretId) (slot kind : Nat) : Bytes := u8 f.die.val ++ u8 f.col.val ++ u8 f.row.val ++ u8 slot ++ u8 kind

theorem boundParams_length (f : FretId) (slot kind : Nat) : (boundParams f slot kind).length = 5 := by
  simp [boundParams, u8, natLE_length]

section
variable (s : State) (f : FretId) (slot kind : Nat)

theorem State.boundMarked_count : (s.boundMarked f slot kind).reg f.die.val Reg.accBoundCount
    = cap32 (s.reg f.die.val Reg.accBoundCount + 1) := by
  unfold State.boundMarked
  rw [State.reg_setReg_other _ _ _ _ _ _ (regKey_ne _ (by decide)), State.reg_bump_same,
    State.reg_flag_other _ _ _ _ _ _ (regKey_ne _ (by decide)), State.reg_setFret]

theorem State.boundMarked_status : ((s.boundMarked f slot kind).reg f.die.val Reg.accStatus).testBit 3 = true := by
  unfold State.boundMarked
  rw [State.reg_setReg_other _ _ _ _ _ _ (regKey_ne _ (by decide)), State.reg_bump_other _ _ _ _ _ _ (regKey_ne _ (by decide))]
  exact State.flag_testBit _ _ _ _ (by decide)

theorem State.boundMarked_loc (hkind : kind ≤ 1) (hslot : slot < 16) : (s.boundMarked f slot kind).reg f.die.val Reg.accBoundLoc
    = 0x80000000 + kind * 65536 + slot * 4096 + f.col.val * 256 + f.row.val := by
  have hcol := f.col.isLt
  have hrow := f.row.isLt
  unfold State.boundMarked
  rw [State.reg_setReg_same]
  exact Nat.mod_eq_of_lt (by omega)

theorem State.boundMarked_fret : (s.boundMarked f slot kind).fret (fretIdx f)
    = { s.fret (fretIdx f) with bounded := slot :: (s.fret (fretIdx f)).bounded } := by
  unfold State.boundMarked
  rw [State.fret_setReg, State.fret_bump, State.fret_flag, State.fret_setFret_same]

theorem State.boundMarked_logged :
    s.logged ((s.boundMarked f slot kind).event 0x010A (boundParams f slot kind)) 0x010A (boundParams f slot kind) :=
  State.event_logged (s.boundMarked f slot kind) 0x010A (params := boundParams f slot kind)
    (List.ne_nil_of_length_eq_add_one (n := 4) (boundParams_length f slot kind)) (by rw [boundParams_length]; decide)

variable {s f}

theorem execSumBoundExceeded_reports {slot : Fin 16} {kind : Nat} (hactive : (s.fret (fretIdx f)).active < 2)
    (hheld : s.held f.die.val 1 = false) (harmed : (s.fret (fretIdx f)).bounded.contains slot.val = false)
    (hpassed : boundPassed (s.fret (fretIdx f)) (s.fret (fretIdx f)).voicing slot.val = some kind) :
    exec (.sumBoundExceeded f slot) s = .next ((s.boundMarked f slot.val kind).event 0x010A (boundParams f slot.val kind)) := by
  refine congrArg Host.Outcome.next ?_
  simp only [hactive, hheld, harmed, hpassed]
  rfl

theorem execSumBoundExceeded_stays {slot : Fin 16} (h : (s.fret (fretIdx f)).bounded.contains slot.val = true) :
    s.stays (.sumBoundExceeded f slot) := by
  refine congrArg Host.Outcome.next ?_
  simp only [h, Bool.not_true, Bool.and_false, Bool.false_eq_true, if_false]

end

/-- Settles O4: a spilled slot is the exact two-term sums of before, and a passed bound is marked before its event is logged. -/
theorem spillAndBound : Obligations.SpillAndBound := by
  intro s f slot i d fr v T at' hiAt
  refine ⟨fun hactive hheld hdue => ?_, fun h => execSpill_stays h, fun kind hactive hheld harmed hpassed => ?_,
    fun h => execSumBoundExceeded_stays h⟩
  · have hfret : (s.spilled f slot.val).fret i = (spillSlot fr v slot.val).1 := by rw [State.spilled_fret, if_pos rfl]
    refine State.runs_of (execSpill_evolves f slot s) rfl (execSpill_due hactive hheld hdue) rfl ⟨fun j hj => ?_,
      State.spilled_metErrors s f slot.val, State.spilled_count s f slot.val, fun e he => ?_, fun x hx => ?_⟩
    · rw [State.spilled_fret, if_neg hj]
    · intro a hi lo sum bb err
      obtain ⟨hhi, hlo⟩ := spillSlot_pair fr v slot.val he
      rw [hfret]
      refine ⟨?_, ?_, spillSlot_spills fr v slot.val he, hhi.trans (spillPair_hi _ _ _), hlo.trans (spillPair_lo _ _ _)⟩
      · exact (spillSlot_acc fr v slot.val _).trans (if_pos ⟨Nat.le_add_right _ _, Nat.add_lt_add_left he _⟩)
      · exact (spillSlot_terms fr v slot.val _).trans (if_pos ⟨Nat.le_add_right _ _, Nat.add_lt_add_left he _⟩)
    · rw [hfret, spillSlot_acc, if_neg (by simp only [at'] at hx; omega)]
  · have hexec := execSumBoundExceeded_reports hactive hheld harmed hpassed
    have hdie : f.die.val ≠ 6 := by omega
    refine State.runs_of (execSumBoundExceeded_evolves f.toFretId slot s) rfl hexec rfl ⟨?_, ?_, ?_, ?_, ?_,
      State.boundMarked_logged s f.toFretId slot.val kind⟩
    · exact State.onlyFret_evolves (State.event_evolves _ _ _) rfl (State.onlyFret_setFret (State.onlyFret_refl s i) _)
    · rw [State.fret_evolves (State.event_evolves _ _ _) rfl]
      exact State.boundMarked_fret s f.toFretId slot.val kind
    · rw [State.reg_event_die _ _ _ hdie (by decide), State.boundMarked_count]
    · rw [State.reg_event_die _ _ _ hdie (by decide), State.boundMarked_status]
    · rw [State.reg_event_die _ _ _ hdie (by decide), State.boundMarked_loc _ _ _ _ (boundPassed_le hpassed) slot.isLt]

end Sys2Proof.Machine

/-! CONV and SEND (R93 to R95, R104, R133). -/

namespace Sys2Proof.Machine

/-! ### The buses of a die -/

/-- Writes to distinct frets, but for the one that drives, reach each of them once. -/
theorem State.fret_foldl_updFret (place : Nat → Nat) (hplace : ∀ a b, place a = place b → a = b) (i : Nat) (g : Fret → Fret)
    (l : List Nat) (hl : l.Nodup) (s : State) (j : Nat) :
    (l.foldl (fun s c => if place c = i then s else s.updFret (place c) g) s).fret j
      = if j ≠ i ∧ j ∈ l.map place then g (s.fret j) else s.fret j := by
  induction l generalizing s with
  | nil => simp
  | cons c l ih =>
    obtain ⟨hc, hl⟩ := List.nodup_cons.mp hl
    rw [List.foldl_cons, ih hl]
    by_cases hj : j = place c
    · have hout : j ∉ l.map place := by
        rintro hmem
        obtain ⟨b, hb, hbj⟩ := List.mem_map.mp hmem
        exact hc (hplace b c (hbj.trans hj) ▸ hb)
      by_cases hi : place c = i
      · simp [hi, hj]
      · simp [hi, hj ▸ hout, hj, State.fret_updFret_same]
    · have hother : (if place c = i then s else s.updFret (place c) g).fret j = s.fret j := by
        split
        · rfl
        · exact State.fret_updFret_other _ _ _ _ hj
      rw [hother]
      simp [hj]

section
variable (s : State) (i j : Nat) (bs : Bytes)

theorem State.driveRow_fret_same : (s.driveRow i bs).fret i = s.fret i := by
  unfold State.driveRow
  rw [State.fret_foldl_updFret (fun c => i / 384 * 384 + c * 24 + fretRow i) (fun a b h => by omega) i _ _ List.nodup_range]
  simp

/-- Every other fret of the row takes the bytes (R95). -/
theorem State.driveRow_fret (hj : j ≠ i) (hdie : j / 384 = i / 384) (hrow : fretRow j = fretRow i) :
    (s.driveRow i bs).fret j = (s.fret j).arrive 5 bs := by
  unfold State.driveRow
  rw [State.fret_foldl_updFret (fun c => i / 384 * 384 + c * 24 + fretRow i) (fun a b h => by omega) i _ _ List.nodup_range, if_pos]
  refine ⟨hj, List.mem_map.mpr ⟨fretCol j, ?_, ?_⟩⟩
  · unfold fretCol
    rw [List.mem_range]
    omega
  · unfold fretCol
    rw [← hrow, ← hdie]
    unfold fretRow
    omega

theorem State.driveCol_fret_same : (s.driveCol i bs).fret i = s.fret i := by
  unfold State.driveCol
  rw [State.fret_foldl_updFret (fun r => i / 384 * 384 + fretCol i * 24 + r) (fun a b h => by omega) i _ _ List.nodup_range]
  simp

/-- Every other fret of the column takes the bytes (R95). -/
theorem State.driveCol_fret (hj : j ≠ i) (hdie : j / 384 = i / 384) (hcol : fretCol j = fretCol i) :
    (s.driveCol i bs).fret j = (s.fret j).arrive 6 bs := by
  unfold State.driveCol
  rw [State.fret_foldl_updFret (fun r => i / 384 * 384 + fretCol i * 24 + r) (fun a b h => by omega) i _ _ List.nodup_range, if_pos]
  refine ⟨hj, List.mem_map.mpr ⟨fretRow j, ?_, ?_⟩⟩
  · unfold fretRow
    rw [List.mem_range]
    omega
  · rw [← hcol, ← hdie]
    unfold fretRow fretCol
    omega

end

/-! ### The bytes of a conversion -/

/-- What CONV hands on: the slot's words as they are, or its converted rows, with the conversion's statistics (R93, R187). -/
def State.conversion (s : State) (raw : Bool) (i slot rows line block : Nat) : Bytes × State :=
  if raw then (s.rawWords i slot rows, s) else s.convRow i slot rows line block

theorem State.conversion_evolves (s : State) (raw : Bool) (i slot rows line block : Nat) :
    s.evolves (s.conversion raw i slot rows line block).2 [.regs, .board] := by
  unfold State.conversion
  split
  · exact State.evolves_refl s _
  · exact State.convRow_evolves s i slot rows line block

theorem State.diceKey_of_fretboard {s t : State} (h : s.onlyChanges t [.regs, .frets, .board]) (f : Fret) (tensor : Nat) :
    t.diceKey f tensor = s.diceKey f tensor := by
  rw [State.eq_of_onlyChanges_fretboard h]
  rfl

/-- A fret that moved on converts to the same bytes. -/
theorem State.conversion_bytes {s t : State} (h : s.onlyChanges t [.regs, .frets, .board]) (raw : Bool) {i : Nat}
    (hi : t.fret i = (s.fret i).advance) (slot rows line block : Nat) :
    (t.conversion raw i slot rows line block).1 = (s.conversion raw i slot rows line block).1 := by
  unfold State.conversion
  split
  · unfold State.rawWords
    rw [hi, State.odNat_of_fretboard h]
    rfl
  · unfold State.convRow
    dsimp only
    rw [hi, State.odNat_of_fretboard h, State.diceKey_of_fretboard h]
    rfl

/-! ### CONV and SEND -/

/-- What the issue of a CONV leaves before it converts: its wait, its errors, and the fret one word on. -/
def State.convMet (s : State) (f : Issue) (wait : Nat) : State :=
  ((s.aliasWait (fretIdx f.toFretId) wait).sramCe f.die.val f.ce).updFret (fretIdx f.toFretId) (·.advance)

/-- A wait for the column bus is counted (R95). -/
def State.countBusWait (s : State) (d dst cycles : Nat) : State := if dst = 2 then s.bump d Reg.fretBusWaitCount cycles else s

theorem State.countBusWait_evolves (s : State) (d dst cycles : Nat) : s.evolves (s.countBusWait d dst cycles) [.regs] :=
  State.evolves_ite (State.bump_evolves s d _ _) (State.evolves_refl s _)

@[simp] theorem State.fret_countBusWait (s : State) (d dst cycles j : Nat) : (s.countBusWait d dst cycles).fret j = s.fret j :=
  State.fret_evolves (State.countBusWait_evolves s d dst cycles) rfl j

section
variable (s : State) (f : Issue) (wait busWait dst : Nat)

theorem State.convMet_evolves : s.evolves (s.convMet f wait) [.regs, .frets, .board] :=
  State.evolves_step (State.updFret_evolves _ _ _) (State.evolves_step (State.sramCe_evolves _ _ _)
    (State.evolves_wider (State.aliasWait_evolves _ _ _) rfl) rfl) rfl

theorem State.convMet_fret (j : Nat) : (s.convMet f wait).fret j = if j = fretIdx f.toFretId then (s.fret j).advance else s.fret j := by
  unfold State.convMet
  split
  · next hj => rw [hj, State.fret_updFret_same, State.fret_sramCe, State.fret_aliasWait]
  · next hj => rw [State.fret_updFret_other _ _ _ _ hj, State.fret_sramCe, State.fret_aliasWait]

/-- The state whose slot a CONV converts. -/
def State.convReady : State := (s.convMet f wait).countBusWait f.die.val dst busWait

theorem State.convReady_evolves : s.evolves (s.convReady f wait busWait dst) [.regs, .frets, .board] :=
  State.evolves_step (State.countBusWait_evolves _ _ _ _) (State.convMet_evolves s f wait) rfl

/-- What CONV hands on, and where it leaves the frets. -/
def State.converted (w line block : Nat) : Bytes × State :=
  (s.convReady f wait busWait (bits w 51 48)).conversion (decide ((s.fret (fretIdx f.toFretId)).voicing.role = 7))
    (fretIdx f.toFretId) (bits w 55 52) (bits w 33 27) line block

variable (w line block : Nat)

theorem State.converted_evolves : s.evolves (s.converted f wait busWait w line block).2 [.regs, .frets, .board] :=
  State.evolves_step (State.conversion_evolves _ _ _ _ _ _ _) (State.convReady_evolves s f wait busWait _) rfl

theorem State.converted_fret (j : Nat) : (s.converted f wait busWait w line block).2.fret j
    = if j = fretIdx f.toFretId then (s.fret j).advance else s.fret j := by
  unfold State.converted State.convReady
  rw [State.fret_evolves (State.conversion_evolves _ _ _ _ _ _ _) rfl, State.fret_countBusWait, State.convMet_fret]

theorem State.converted_bytes : (s.converted f wait busWait w line block).1
    = if (s.fret (fretIdx f.toFretId)).voicing.role = 7 then s.rawWords (fretIdx f.toFretId) (bits w 55 52) (bits w 33 27)
      else (s.convRow (fretIdx f.toFretId) (bits w 55 52) (bits w 33 27) line block).1 := by
  have hbytes := State.conversion_bytes (State.convReady_evolves s f wait busWait (bits w 51 48)).1
    (decide ((s.fret (fretIdx f.toFretId)).voicing.role = 7)) (i := fretIdx f.toFretId)
    (by unfold State.convReady; rw [State.fret_countBusWait, State.convMet_fret, if_pos rfl])
    (bits w 55 52) (bits w 33 27) line block
  refine hbytes.trans ?_
  unfold State.conversion
  simp only [decide_eq_true_eq]
  split <;> rfl

end

section
variable {s : State} {f : Issue} {w wait busWait line block : Nat} (h : s.issues f.toFretId 5 w)
include h

theorem execConv_stays (hbusy : s.slotBusy (fretIdx f.toFretId) (bits w 55 52) = true) :
    s.stays (.conv f wait busWait line block) := by
  refine congrArg Host.Outcome.next ?_
  simp only [h]
  exact if_pos hbusy

/-- A CONV to SRAM or to a bus. -/
theorem execConv_delivers (hbusy : s.slotBusy (fretIdx f.toFretId) (bits w 55 52) = false) (hdst : bits w 51 48 ≠ 3) :
    let r := s.converted f wait busWait w line block
    exec (.conv f wait busWait line block) s = .next (r.2.deliver (fretIdx f.toFretId) (bits w 51 48)
      ((s.fret (fretIdx f.toFretId)).sramOff w (16 * bits w 47 34)) r.1) := by
  refine congrArg Host.Outcome.next ?_
  simp only [h, hbusy, hdst, Bool.false_eq_true, if_false]
  unfold State.converted State.conversion
  simp only [decide_eq_true_eq]
  rfl

end

/-- What the issue of a SEND leaves before its bytes are handed on. -/
def State.sendMet (s : State) (f : Issue) (dst busWait : Nat) : State :=
  ((s.updFret (fretIdx f.toFretId) (·.advance)).sramCe f.die.val f.ce).countBusWait f.die.val dst busWait

section
variable (s : State) (f : Issue) (dst busWait : Nat)

theorem State.sendMet_evolves : s.evolves (s.sendMet f dst busWait) [.regs, .frets] :=
  State.evolves_step (State.countBusWait_evolves _ _ _ _)
    (State.evolves_step (State.sramCe_evolves _ _ _) (State.evolves_wider (State.updFret_evolves _ _ _) rfl) rfl) rfl

theorem State.sendMet_fret (j : Nat) : (s.sendMet f dst busWait).fret j
    = if j = fretIdx f.toFretId then (s.fret j).advance else s.fret j := by
  unfold State.sendMet
  rw [State.fret_countBusWait, State.fret_sramCe]
  split
  · next hj => rw [hj, State.fret_updFret_same]
  · next hj => rw [State.fret_updFret_other _ _ _ _ hj]

/-- Where the bus is not the column's, only the corrected errors are counted. -/
theorem State.sendMet_metErrors (hdst : dst ≠ 2) : s.metErrors (s.sendMet f dst busWait) f.die.val f.ce [] := by
  unfold State.sendMet State.countBusWait
  rw [if_neg hdst]
  exact State.sramCe_frame _ _ (State.updFret_evolves s _ _) rfl

theorem State.sendMet_metErrors_column :
    s.metErrors (s.sendMet f 2 busWait) f.die.val f.ce [regKey f.die.val Reg.fretBusWaitCount]
    ∧ (s.sendMet f 2 busWait).reg f.die.val Reg.fretBusWaitCount = cap32 (s.reg f.die.val Reg.fretBusWaitCount + busWait) := by
  have hmet : s.metErrors ((s.updFret (fretIdx f.toFretId) (·.advance)).sramCe f.die.val f.ce) f.die.val f.ce
      [regKey f.die.val Reg.fretBusWaitCount] :=
    State.metErrors_sramCe _ (State.onlyRegs_updFret (State.onlyRegs_refl s _) _ _)
      (by simp [regKey_same, Reg.fretSramCeCount, Reg.fretBusWaitCount])
  unfold State.sendMet State.countBusWait
  rw [if_pos rfl]
  refine ⟨State.metErrors_step (ls := [regKey f.die.val Reg.fretBusWaitCount])
    (State.onlyRegs_bump (State.onlyRegs_refl _ _) _ _ _ (by simp)) hmet (by simp) ?_ ?_, ?_⟩
  · simp [regKey_same, Reg.fretStatus, Reg.fretBusWaitCount]
  · simp [regKey_same, Reg.fretSramCeCount, Reg.fretBusWaitCount]
  · rw [State.reg_bump_same, State.reg_of_onlyRegs (State.sramCe_onlyRegs _ _ _)
      (by simp [regKey_same, Reg.fretStatus, Reg.fretSramCeCount, Reg.fretBusWaitCount]), State.reg_updFret]

end

theorem execSend_delivers {s : State} {f : Issue} {w busWait : Nat} (h : s.issues f.toFretId 6 w) (hdst : bits w 55 52 ≠ 3) :
    let fr := s.fret (fretIdx f.toFretId)
    exec (.send f busWait) s = .next ((s.sendMet f (bits w 55 52) busWait).deliver (fretIdx f.toFretId) (bits w 55 52) 0
      (fr.sramBytes (fr.sramOff w (16 * bits w 51 38)) (bits w 37 18))) := by
  refine congrArg Host.Outcome.next ?_
  simp only [h, hdst, if_false]
  rfl

/-- Settles O6: what is handed on was converted, or read, before the fret moved on; each other fret of the row or column takes it
once. -/
theorem convertAndSend : Obligations.ConvertAndSend := by
  intro s f w wait busWait line block i d fr v slot rows bs sent conv
  have hdie : i / 384 = d := fretIdx_die f.toFretId
  have hrow : fretRow i = f.row.val := fretRow_fretIdx f.toFretId
  have hcol : fretCol i = f.col.val := fretCol_fretIdx f.toFretId
  refine ⟨fun h hbusy => execConv_stays h hbusy, fun h hbusy => ?_, fun h hdst => ?_, fun h hdst => ?_⟩
  · have hbytes : (s.converted f wait busWait w line block).1 = bs := State.converted_bytes s f wait busWait w line block
    have hconv := State.converted_evolves s f wait busWait w line block
    have hfret := State.converted_fret s f wait busWait w line block
    have hdelivers := execConv_delivers (wait := wait) (busWait := busWait) (line := line) (block := block) h hbusy
    dsimp only at hdelivers
    rw [hbytes] at hdelivers
    generalize (s.converted f wait busWait w line block).2 = u at hdelivers hconv hfret
    have hall : ∀ dst off, s.evolves (u.deliver i dst off bs) [.regs, .frets, .board] := fun dst off =>
      State.evolves_step (State.deliver_evolves u i dst off bs) hconv rfl
    have hsame : u.fret i = fr.advance := by rw [hfret, if_pos rfl]
    refine ⟨fun hdst => ?_, fun hdst => ?_, fun hdst => ?_⟩
    · rw [hdst] at hdelivers
      refine State.runs_evolves (hdelivers (by decide)) (hall _ _) rfl
        ⟨State.onlyFret_updFret (fun j hj => (hfret j).trans (if_neg hj)) _, ?_⟩
      have hwritten := State.fret_updFret_same u i (·.writeSram (fr.sramOff w (16 * bits w 47 34)) bs)
      rw [hsame] at hwritten
      exact hwritten
    · rw [hdst] at hdelivers
      refine State.runs_evolves (hdelivers (by decide)) (hall _ _) rfl
        ⟨(State.driveRow_fret_same u i bs).trans hsame, fun j hj _ hne hj' => ?_⟩
      exact (State.driveRow_fret u i j bs hne (hj.trans hdie.symm) (hj'.trans hrow.symm)).trans
        (congrArg (·.arrive 5 bs) ((hfret j).trans (if_neg hne)))
    · rw [hdst] at hdelivers
      refine State.runs_evolves (hdelivers (by decide)) (hall _ _) rfl
        ⟨(State.driveCol_fret_same u i bs).trans hsame, fun j hj hne hj' => ?_⟩
      exact (State.driveCol_fret u i j bs hne (hj.trans hdie.symm) (hj'.trans hcol.symm)).trans
        (congrArg (·.arrive 6 bs) ((hfret j).trans (if_neg hne)))
  · have hdelivers := execSend_delivers (busWait := busWait) h (by rw [hdst]; decide)
    have hfret := State.sendMet_fret s f 1 busWait
    have hbus := State.driveRow_evolves (s.sendMet f 1 busWait) i sent
    dsimp only at hdelivers
    rw [hdst] at hdelivers
    refine State.runs_evolves hdelivers (State.evolves_step hbus (State.sendMet_evolves s f 1 busWait) rfl) rfl
      ⟨State.metErrors_of_regs (State.sendMet_metErrors s f 1 busWait (by decide)) (hbus.1 .regs rfl),
        (State.driveRow_fret_same _ i sent).trans ((hfret i).trans (if_pos rfl)), fun j hj hne hj' => ?_⟩
    exact (State.driveRow_fret _ i j sent hne (hj.trans hdie.symm) (hj'.trans hrow.symm)).trans
      (congrArg (·.arrive 5 sent) ((hfret j).trans (if_neg hne)))
  · have hdelivers := execSend_delivers (busWait := busWait) h (by rw [hdst]; decide)
    have hfret := State.sendMet_fret s f 2 busWait
    have hbus := State.driveCol_evolves (s.sendMet f 2 busWait) i sent
    obtain ⟨hmet, hcount⟩ := State.sendMet_metErrors_column s f busWait
    dsimp only at hdelivers
    rw [hdst] at hdelivers
    refine State.runs_evolves hdelivers (State.evolves_step hbus (State.sendMet_evolves s f 2 busWait) rfl) rfl
      ⟨State.metErrors_of_regs hmet (hbus.1 .regs rfl), (State.reg_of_regs (hbus.1 .regs rfl) _ _).trans hcount,
        (State.driveCol_fret_same _ i sent).trans ((hfret i).trans (if_pos rfl)), fun j hj hne hj' => ?_⟩
    exact (State.driveCol_fret _ i j sent hne (hj.trans hdie.symm) (hj'.trans hcol.symm)).trans
      (congrArg (·.arrive 6 sent) ((hfret j).trans (if_neg hne)))

end Sys2Proof.Machine

/-! Registers of the compute dies and of the stack engines: events, broken promises, votes and memory errors write none of them, so a
flag or count that a fret's operation sets there is still there when the fault that it met has run its course. -/

namespace Sys2Proof.Machine

/-! ### The registers meant -/

/-- A register of a compute die, or of a stack engine's window. -/
def nearKey (k : Nat) : Bool := k / 0x200000 < 2 || k / 0x10000 % 32 = 7

theorem nearKey_eq_false_iff (k : Nat) : nearKey k = false ↔ 2 ≤ k / 0x200000 ∧ k / 0x10000 % 32 ≠ 7 := by
  unfold nearKey
  simp only [Bool.or_eq_false_iff, decide_eq_false_iff_not, Nat.not_lt, ne_eq]

/-- A register of a memory-side die or of X0, of another block. -/
theorem nearKey_far {d n : Nat} (hd : 2 ≤ d) (hn : n / 0x10000 % 32 ≠ 7) : nearKey (regKey d n) = false := by
  rw [nearKey_eq_false_iff]
  unfold regKey
  omega

theorem nearKey_compute {d n : Nat} (hd : d < 2) (hn : n < 0x200000) : nearKey (regKey d n) = true := by
  unfold nearKey regKey
  rw [decide_eq_true (by omega), Bool.true_or]

theorem nearKey_stack (d : Nat) {n : Nat} (hn : n / 0x10000 = 7) : nearKey (regKey d n) = true := by
  unfold nearKey regKey
  rw [decide_eq_true (p := _ % 32 = 7) (by omega), Bool.or_true]

/-- Both states hold the same in these registers. -/
def State.keepsNear (s t : State) : Prop := ∀ k, nearKey k = true → SMap.get 0 t.regs k = SMap.get 0 s.regs k

theorem State.reg_of_keepsNear {s t : State} (h : s.keepsNear t) {d n : Nat} (hk : nearKey (regKey d n) = true) :
    t.reg d n = s.reg d n :=
  congrArg BitVec.toNat (h _ hk)

theorem State.keepsNear_refl (s : State) : s.keepsNear s := fun _ _ => rfl

theorem State.keepsNear_step {s t u : State} (k : t.keepsNear u) (h : s.keepsNear t) : s.keepsNear u :=
  fun x hx => (k x hx).trans (h x hx)

theorem State.keepsNear_of_regs {s t u : State} (hregs : u.regs = t.regs) (h : s.keepsNear t) : s.keepsNear u := by
  unfold State.keepsNear
  rw [hregs]
  exact h

theorem State.keepsNear_evolves {s t u : State} {P : List Part} (k : t.evolves u P) (hP : P.contains .regs = false)
    (h : s.keepsNear t) : s.keepsNear u := State.keepsNear_of_regs (k.1 .regs hP) h

theorem State.keepsNear_onlyRegs {s t : State} {ks : List Nat} (h : s.onlyRegs t ks) (hks : ∀ k ∈ ks, nearKey k = false) :
    s.keepsNear t := by
  intro k hk
  refine h k ?_
  cases hc : ks.contains k with
  | false => rfl
  | true => exact absurd (hks k (List.contains_iff_mem.mp hc)) (by simp [hk])

theorem State.keepsNear_ite {s a b : State} {c : Prop} [Decidable c] (ha : s.keepsNear a) (hb : s.keepsNear b) :
    s.keepsNear (if c then a else b) := by
  split
  · exact ha
  · exact hb

theorem State.keepsNear_foldl {α : Type} {g : State → α → State} (hg : ∀ (a : State) (x : α), a.keepsNear (g a x)) (l : List α)
    {s t : State} (h : s.keepsNear t) : s.keepsNear (l.foldl g t) := by
  induction l generalizing t with
  | nil => exact h
  | cons x l ih => exact ih (State.keepsNear_step (hg _ _) h)

section
variable {s t : State} (h : s.keepsNear t)
include h

theorem State.keepsNear_set_dram {a : Dram} : s.keepsNear { t with dram := a } := h
theorem State.keepsNear_set_fab {a : Fab} : s.keepsNear { t with fab := a } := h
theorem State.keepsNear_set_adm {a : Adm} : s.keepsNear { t with adm := a } := h
theorem State.keepsNear_set_upd {a : Upd} : s.keepsNear { t with upd := a } := h
theorem State.keepsNear_set_life {a : Life} : s.keepsNear { t with life := a } := h

variable (d n : Nat) (hd : 2 ≤ d) (hn : n / 0x10000 % 32 ≠ 7)
include hd hn

/-- A write of a register that is none of these. -/
theorem State.keepsNear_setReg (v : Nat) : s.keepsNear (t.setReg d n v) := by
  refine State.keepsNear_step (fun k hk => SMap.get_set_other _ _ _ _ _ ?_) h
  rintro rfl
  rw [nearKey_far hd hn] at hk
  cases hk

theorem State.keepsNear_orReg (mask : Nat) : s.keepsNear (t.orReg d n mask) := State.keepsNear_setReg h d n hd hn _

theorem State.keepsNear_clearReg (mask : Nat) : s.keepsNear (t.clearReg d n mask) := State.keepsNear_setReg h d n hd hn _

theorem State.keepsNear_flag (bit : Nat) : s.keepsNear (t.flag d n bit) := State.keepsNear_orReg h d n hd hn _

theorem State.keepsNear_bump (k : Nat) : s.keepsNear (t.bump d n k) := State.keepsNear_setReg h d n hd hn _

theorem State.keepsNear_flagCount (bit c k : Nat) (hc : c / 0x10000 % 32 ≠ 7) : s.keepsNear (t.flagCount d n bit c k) :=
  State.keepsNear_ite h (State.keepsNear_bump (State.keepsNear_flag h d n hd hn bit) d c hd hc k)

end

/-! ### Events, promises and votes -/

theorem State.event_keepsNear (s : State) (code : Nat) (params : Bytes) : s.keepsNear (s.event code params) :=
  State.keepsNear_onlyRegs (State.event_onlyRegs s code params) (by decide)

theorem State.breakFrames_keepsNear (s : State) (cls step : Nat) (news : List (Nat × Nat)) :
    s.keepsNear (s.breakFrames cls step news) :=
  State.keepsNear_onlyRegs (State.breakFrames_onlyRegs s cls step news) (by decide)

theorem State.breakStep_keepsNear (s : State) (cls : Nat) (reload : Option Nat) : s.keepsNear (s.breakStep cls reload) := by
  unfold State.breakStep
  cases reload with
  | none => exact State.breakFrames_keepsNear _ _ _ _
  | some extra => exact State.keepsNear_set_adm (State.breakFrames_keepsNear _ _ _ _)

theorem State.syncOp_keepsNear (s : State) (sub o a b : Nat) : s.keepsNear (s.syncOp sub o a b) :=
  State.keepsNear_bump (State.keepsNear_evolves (State.setSync_evolves s o _) rfl (State.keepsNear_refl s)) 6 _ (by decide)
    (by decide) 1

theorem State.sumUp_keepsNear (s : State) (t : TreeOp) (chunk : Nat) : s.keepsNear (s.sumUp t chunk) := by
  have h0 := State.keepsNear_refl s
  have hdown : ∀ (u : State) data, s.keepsNear u → s.keepsNear (u.chunkDown t chunk data) := fun u data h =>
    State.keepsNear_evolves (State.chunkDown_evolves u t chunk data) rfl h
  unfold State.sumUp
  refine State.keepsNear_ite h0 (State.keepsNear_ite ?_ (State.keepsNear_evolves (State.sendChunk_evolves _ _ _ _ _ _ _) rfl h0))
  unfold State.sumFormed
  refine State.keepsNear_ite (hdown s _ h0) (State.keepsNear_ite h0 (hdown _ _ ?_))
  exact State.keepsNear_ite (State.syncOp_keepsNear s _ _ _ _) h0

theorem State.contribute_keepsNear (s : State) (kind : Nat) (vec : List F32) : s.keepsNear (s.contribute kind vec) :=
  State.keepsNear_ite (State.keepsNear_refl s) (State.keepsNear_foldl (fun _ _ => State.sumUp_keepsNear _ _ _) _
    (State.keepsNear_evolves (State.setTree_evolves _ _) rfl (State.keepsNear_refl s)))

theorem State.castVote_keepsNear (s : State) : s.keepsNear s.castVote :=
  State.keepsNear_step (State.contribute_keepsNear _ _ _) (State.keepsNear_set_upd (State.keepsNear_refl s))

theorem State.setFault_keepsNear (s : State) (cls : Nat) : s.keepsNear (s.setFault cls) :=
  State.keepsNear_step (State.castVote_keepsNear _) (State.keepsNear_set_upd (State.keepsNear_refl s))

theorem State.jobFault_keepsNear (s : State) (cls : Nat) (reload : Option Nat) : s.keepsNear (s.jobFault cls reload) :=
  State.keepsNear_step (State.setFault_keepsNear _ _) (State.breakStep_keepsNear _ _ _)

/-- The module has voted (R290). -/
theorem State.castVote_voted (s : State) : s.castVote.upd.voted = true := by
  unfold State.castVote
  rw [(State.contribute_evolves _ _ _).1 .upd rfl]

theorem State.setFault_voted (s : State) (cls : Nat) : (s.setFault cls).upd.voted = true := State.castVote_voted _

theorem State.jobFault_voted (s : State) (cls : Nat) (reload : Option Nat) : (s.jobFault cls reload).upd.voted = true :=
  State.setFault_voted _ _

/-! ### Memory errors -/

theorem tierStatus_far (tier : Nat) : tierStatus tier / 0x10000 % 32 ≠ 7 := by
  unfold tierStatus
  split <;> decide

theorem tierErrLoc_far (tier : Nat) : tierErrLoc tier / 0x10000 % 32 ≠ 7 := by
  unfold tierErrLoc
  split <;> decide

theorem State.applyStepSync_keepsNear (s : State) (step ext delay cls : Nat) : s.keepsNear (s.applyStepSync step ext delay cls) := by
  have hseen := State.keepsNear_set_fab (State.keepsNear_refl s)
    (a := { s.fab with seen := (step, max ext (s.seenOf step).1, max delay (s.seenOf step).2) })
  unfold State.applyStepSync
  refine State.keepsNear_ite hseen (State.keepsNear_ite ?_ ?_)
  · exact State.keepsNear_step (State.breakFrames_keepsNear _ _ _ _) (State.keepsNear_set_adm hseen)
  · exact State.keepsNear_evolves (State.raiseFrames_evolves _ _) rfl (State.keepsNear_set_adm hseen)

theorem State.fanOut_keepsNear (s : State) (cls : Nat) : s.keepsNear (s.fanOut cls) := by
  unfold State.fanOut
  refine State.keepsNear_evolves (State.passUpdate_evolves _ _ _ _) rfl ?_
  refine State.keepsNear_step (State.applyStepSync_keepsNear _ _ _ _ _) ?_
  exact State.keepsNear_evolves (State.answerUpdate_evolves _ _ _) rfl (State.keepsNear_refl s)

theorem State.post_keepsNear (s : State) (delay : Bool) (step ns cls : Nat) (why : Purpose) :
    s.keepsNear (s.post delay step ns cls why) := by
  have h0 := State.keepsNear_refl s
  have hop := fun sub o a => State.syncOp_keepsNear s sub o a 0
  unfold State.post
  refine State.keepsNear_ite h0 (State.keepsNear_ite ?_ ?_)
  · exact State.keepsNear_ite (hop _ _ _) (State.keepsNear_step (State.fanOut_keepsNear _ _) (hop _ _ _))
  · exact State.keepsNear_evolves (State.request_evolves _ _ _ _ _ _ _ _ _ _ _) rfl h0

theorem State.breakAll_keepsNear (s : State) (cls ns : Nat) : s.keepsNear (s.breakAll cls ns) := by
  have hbroken := fun news => State.breakFrames_keepsNear s cls s.curStep news
  unfold State.breakAll
  refine State.keepsNear_ite (State.keepsNear_set_adm (hbroken _)) ?_
  exact State.keepsNear_step (State.post_keepsNear _ _ _ _ _ _) (State.keepsNear_set_fab (State.keepsNear_set_adm (hbroken _)))

theorem State.errLoc_keepsNear (s : State) (kind : Nat) (p : Place) : s.keepsNear (s.errLoc kind p) :=
  State.keepsNear_setReg (State.keepsNear_refl s) _ _ (by omega) (tierErrLoc_far p.tier) _

theorem State.showTraining_keepsNear (s : State) : s.keepsNear s.showTraining := by
  unfold State.showTraining
  refine State.keepsNear_foldl (fun a d => State.keepsNear_foldl (fun b tier => ?_) _ (State.keepsNear_refl a)) _
    (State.keepsNear_refl s)
  have h0 := State.keepsNear_refl b
  exact State.keepsNear_ite (State.keepsNear_flag h0 _ _ (by omega) (tierStatus_far tier) _)
    (State.keepsNear_clearReg h0 _ _ (by omega) (tierStatus_far tier) _)

theorem State.showSuspended_keepsNear (s : State) : s.keepsNear s.showSuspended :=
  State.keepsNear_ite (State.keepsNear_flag (State.keepsNear_refl s) _ _ (by decide) (by decide) _)
    (State.keepsNear_clearReg (State.keepsNear_refl s) _ _ (by decide) (by decide) _)

theorem State.retrainTrigger_keepsNear (s : State) (tier chan : Nat) (deferrable : Bool) :
    s.keepsNear (s.retrainTrigger tier chan deferrable) := by
  have h0 := State.keepsNear_refl s
  unfold State.retrainTrigger
  refine State.keepsNear_ite h0 (State.keepsNear_ite ?_ ?_)
  · exact State.keepsNear_ite h0 (State.keepsNear_set_dram h0)
  · refine State.keepsNear_step (State.showSuspended_keepsNear _) ?_
    refine State.keepsNear_step (State.showTraining_keepsNear _) ?_
    refine State.keepsNear_step (State.breakAll_keepsNear _ _ _) ?_
    exact State.keepsNear_ite (State.keepsNear_set_dram h0) (State.keepsNear_set_adm (State.keepsNear_set_dram h0))

theorem State.lifeLog_keepsNear (s : State) (kind die unit detail : Nat) : s.keepsNear (s.lifeLog kind die unit detail) := by
  have hflag : ∀ (t : State) (c : Prop) [Decidable c] (bit : Nat), t.keepsNear (if c then t.flag 6 Reg.lifeStatus bit else t) :=
    fun t _ _ bit => State.keepsNear_ite (State.keepsNear_flag (State.keepsNear_refl t) 6 _ (by decide) (by decide) bit)
      (State.keepsNear_refl t)
  unfold State.lifeLog State.framWrite
  exact State.keepsNear_set_life (State.keepsNear_step (hflag _ _ _) (hflag s _ _))

theorem State.rowEvent_keepsNear (s : State) (kind : Nat) (p : Place) : s.keepsNear (s.rowEvent kind p) := by
  unfold State.rowEvent
  refine State.keepsNear_evolves (State.updSpare_evolves _ _) rfl ?_
  refine State.keepsNear_step (State.lifeLog_keepsNear _ _ _ _ _) ?_
  refine State.keepsNear_step (State.errLoc_keepsNear _ _ _) ?_
  exact State.keepsNear_flag (State.event_keepsNear _ _ _) _ _ (by omega) (tierStatus_far _) _

theorem State.remapRow_keepsNear (s : State) (p : Place) (n : Nat) : s.keepsNear (s.remapRow p n) := by
  unfold State.remapRow
  refine State.keepsNear_bump (State.keepsNear_set_dram (State.keepsNear_refl s)) _ _ (by omega) ?_ _
  split <;> decide

theorem State.retireBank_keepsNear (s : State) (p : Place) : s.keepsNear (s.retireBank p) :=
  State.keepsNear_ite (State.keepsNear_refl s)
    (State.keepsNear_step (State.rowEvent_keepsNear _ _ _) (State.keepsNear_set_dram (State.keepsNear_refl s)))

theorem State.repeatFail_keepsNear (s : State) (p : Place) (spare : Option Nat) : s.keepsNear (s.repeatFail p spare) := by
  have hcounted := fun n => State.keepsNear_step (State.rowEvent_keepsNear { s with dram := { s.dram with repeats := n } } 4 p)
    (State.keepsNear_set_dram (State.keepsNear_refl s))
  have htold := fun n => State.keepsNear_ite (c := p.tier = 0)
    (State.keepsNear_bump (hcounted n) (2 + chanDie 0 p.chan) Reg.hbmcRemapRepeatCount (by omega) (by decide) 1) (hcounted n)
  unfold State.repeatFail
  dsimp only
  cases spare with
  | none => exact State.keepsNear_ite (State.keepsNear_step (State.retireBank_keepsNear _ _) (htold _)) (htold _)
  | some k =>
    have hmoved := fun n => State.keepsNear_flag (State.keepsNear_step (State.remapRow_keepsNear _ p k) (htold n))
      (2 + chanDie p.tier p.chan) (tierStatus p.tier) (by omega) (tierStatus_far _) (2 + p.tier)
    exact State.keepsNear_ite (State.keepsNear_step (State.retireBank_keepsNear _ _) (hmoved _)) (hmoved _)

theorem State.rowFails_keepsNear (s : State) (p : Place) : s.keepsNear (s.rowFails p) := by
  have hmarked := fun n => State.keepsNear_set_dram (State.keepsNear_refl s) (a := { s.dram with rowErrs := n })
  unfold State.rowFails
  refine State.keepsNear_ite (State.keepsNear_step (State.repeatFail_keepsNear _ _ _) (hmarked _)) ?_
  split
  · refine State.keepsNear_step (State.rowEvent_keepsNear _ _ _) ?_
    exact State.keepsNear_step (State.remapRow_keepsNear _ _ _) (hmarked _)
  · exact State.keepsNear_step (State.repeatFail_keepsNear _ _ _) (hmarked _)

theorem State.uncorrectableError_keepsNear (s : State) (sector : Nat) : s.keepsNear (s.uncorrectableError sector) := by
  have h0 := State.keepsNear_refl s
  have hpoison : ∀ t : State, s.keepsNear t → s.keepsNear (if t.dram.poison.contains sector then t
      else { t with dram := { t.dram with poison := t.dram.poison ++ [sector] } }) := fun _ h =>
    State.keepsNear_ite h (State.keepsNear_set_dram h)
  have htrigger : ∀ (t : State) (c : Prop) [Decidable c] (tier chan : Nat), s.keepsNear t →
      s.keepsNear (if c then t.retrainTrigger tier chan false else t) := fun _ _ _ _ _ h =>
    State.keepsNear_ite (State.keepsNear_step (State.retrainTrigger_keepsNear _ _ _ _) h) h
  unfold State.uncorrectableError
  refine htrigger _ _ _ _ (State.keepsNear_step (State.rowFails_keepsNear _ _) (hpoison _ ?_))
  refine State.keepsNear_step (State.errLoc_keepsNear _ _ _) (State.keepsNear_ite ?_ ?_)
  · exact State.keepsNear_bump (State.keepsNear_flagCount h0 _ _ (by omega) (by decide) _ _ _ (by decide)) _ _ (by omega)
      (by decide) _
  · refine State.keepsNear_bump (State.keepsNear_flagCount ?_ _ _ (by omega) (by decide) _ _ _ (by decide)) _ _ (by omega)
      (by decide) _
    exact State.keepsNear_flag h0 _ _ (by omega) (by decide) _

theorem State.meetPoison_keepsNear (s : State) (a n : Nat) : s.keepsNear (s.meetPoison a n) :=
  State.keepsNear_foldl State.uncorrectableError_keepsNear _ (State.keepsNear_refl s)

/-! ### A stack fault (R194) -/

/-- A stack fault is counted and flagged, and the module votes; the fault that follows leaves the engine's registers. -/
theorem State.stackFault_marks (s : State) (i : Nat) {bit : Nat} (hbit : bit < 64) :
    ((s.stackFault i bit).reg (laneDie i) Reg.stackStatus).testBit bit = true
    ∧ (s.stackFault i bit).reg (laneDie i) Reg.stackFaultCount = cap32 (s.reg (laneDie i) Reg.stackFaultCount + 1)
    ∧ (s.stackFault i bit).upd.voted = true := by
  have hmarked : (s.flag (laneDie i) Reg.stackStatus bit |>.bump (laneDie i) Reg.stackFaultCount 1).keepsNear (s.stackFault i bit) :=
    State.keepsNear_step (State.jobFault_keepsNear _ _ _)
      (State.keepsNear_evolves (State.stopFrets_evolves _ _) rfl (State.keepsNear_refl _))
  refine ⟨?_, ?_, State.jobFault_voted _ _ _⟩
  · rw [State.reg_of_keepsNear hmarked (nearKey_stack _ (by decide)), State.reg_bump_other _ _ _ _ _ _ (regKey_ne _ (by decide))]
    exact State.flag_testBit _ _ _ _ hbit
  · rw [State.reg_of_keepsNear hmarked (nearKey_stack _ (by decide)), State.reg_bump_same,
      State.reg_flag_other _ _ _ _ _ _ (regKey_ne _ (by decide))]

end Sys2Proof.Machine

/-! RECV, WAIT and their ends (R84, R103, R104, R106, R191, R194). -/

namespace Sys2Proof.Machine

theorem State.lane_sramCe (s : State) (d ce j : Nat) : (s.sramCe d ce).lane j = s.lane j := by
  unfold State.lane
  rw [(State.sramCe_evolves s d ce).1 .slanes rfl]

/-- Corrected errors counted, and a fret replaced. -/
theorem State.sramCe_setFret_frame (s : State) (i d ce : Nat) (g : Fret) :
    s.evolves ((s.sramCe d ce).setFret i g) [.regs, .frets] ∧ s.onlyFret ((s.sramCe d ce).setFret i g) i
    ∧ s.metErrors ((s.sramCe d ce).setFret i g) d ce [] ∧ ((s.sramCe d ce).setFret i g).fret i = g :=
  ⟨State.evolves_step (State.setFret_evolves _ _ _) (State.evolves_wider (State.sramCe_evolves _ _ _) rfl) rfl,
    State.onlyFret_setFret (State.onlyFret_evolves (State.sramCe_evolves _ _ _) rfl (State.onlyFret_refl s i)) _,
    State.metErrors_of_regs (State.sramCe_frame d ce (State.evolves_refl s []) rfl) rfl, State.fret_setFret_same _ _ _⟩

/-! ### RECV -/

/-- Taking bytes from an arrival queue changes the queue only (R93). -/
theorem Fret.takeIn_keeps {f rest : Fret} {src : Nat} {supply data : Bytes} {n : Nat} (h : f.takeIn src supply n = some (data, rest)) :
    rest.sram = f.sram ∧ rest.stall = f.stall ∧ rest.pc = f.pc := by
  unfold Fret.takeIn at h
  split at h <;>
  · obtain ⟨p, -, hp⟩ := Option.map_eq_some_iff.mp h
    cases hp
    exact ⟨rfl, rfl, rfl⟩

theorem Fret.writeSram_sram {f g : Fret} (h : f.sram = g.sram) (o : Nat) (bs : Bytes) :
    (f.writeSram o bs).sram = (g.writeSram o bs).sram := by
  unfold Fret.writeSram
  dsimp only
  rw [h]

/-- What the end of a RECV makes of the fret: the bytes stored, and a wait for it over (R104). -/
def Fret.received (f : Fret) (o : Nat) (bs : Bytes) : Fret :=
  let f := { f.writeSram o bs with recv := none }
  if f.stall = .wait 2 then { f with stall := .none }.advance else f

section
variable (f : Fret) (o : Nat) (bs : Bytes)

theorem Fret.received_waiting (h : f.stall = .wait 2) :
    f.received o bs = { f.writeSram o bs with recv := none, stall := .none }.advance := if_pos h

theorem Fret.received_running (h : f.stall ≠ .wait 2) : f.received o bs = { f.writeSram o bs with recv := none } := if_neg h

theorem Fret.received_recv : (f.received o bs).recv = none := by
  by_cases h : f.stall = .wait 2
  · rw [Fret.received_waiting _ _ _ h]
    rfl
  · rw [Fret.received_running _ _ _ h]

theorem Fret.received_sram : (f.received o bs).sram = (f.writeSram o bs).sram := by
  by_cases h : f.stall = .wait 2
  · rw [Fret.received_waiting _ _ _ h]
    rfl
  · rw [Fret.received_running _ _ _ h]

end

/-! Sources 1 to 6 are the arrival queues (R93). -/

section
variable {s : State} {i src o n : Nat} {supply : Bytes} {ue : Bool} (hlo : 1 ≤ src) (hhi : src ≤ 6)
include hlo hhi

theorem State.sourceBusy_queue (s : State) (i o : Nat) : s.sourceBusy i src o = false := by
  unfold State.sourceBusy
  rw [decide_eq_false (by omega : ¬ src = 8), Bool.false_and]

theorem State.recvBytes_taken {data : Bytes} {rest : Fret} (htake : (s.fret i).takeIn src supply n = some (data, rest)) :
    s.recvBytes i src o n supply ue = .got (s.setFret i rest) { Tile.empty with plane := data } := by
  unfold State.recvBytes
  dsimp only
  rw [if_neg (by omega), if_neg (by omega), if_neg (by omega), htake]

theorem State.recvBytes_none (htake : (s.fret i).takeIn src supply n = none) : s.recvBytes i src o n supply ue = .notYet s := by
  unfold State.recvBytes
  dsimp only
  rw [if_neg (by omega), if_neg (by omega), if_neg (by omega), htake]

end

section
variable {s : State} {f : Issue} {w : Nat} {supply : Supply}

theorem execRecv_issued (h : s.issues f.toFretId 7 w) (hrecv : (s.fret (fretIdx f.toFretId)).recv = none) (hsrc : bits w 55 52 ≠ 7)
    (hnone : supply.bytes = []) :
    let fr := s.fret (fretIdx f.toFretId)
    exec (.recv f supply false) s = .next ((s.setFret (fretIdx f.toFretId) { fr.advance with
      recv := some (bits w 55 52, fr.sramOff w (16 * bits w 51 38), bits w 37 18), recvWait := true }).sramCe f.die.val f.ce) := by
  refine congrArg Host.Outcome.next ?_
  simp only [h, hrecv, Option.isSome_none, Bool.false_eq_true, if_false]
  exact if_neg (by simp [hsrc, hnone])

theorem execRecv_stays (h : s.issues f.toFretId 7 w) (hrecv : (s.fret (fretIdx f.toFretId)).recv ≠ none) :
    s.stays (.recv f supply false) := by
  refine congrArg Host.Outcome.next ?_
  simp only [h]
  exact if_pos (Option.isSome_iff_ne_none.mpr hrecv)

variable {src o n : Nat} (hrecv : (s.fret (fretIdx f.toFretId)).recv = some (src, o, n)) (hlo : 1 ≤ src) (hhi : src ≤ 6)
include hrecv hlo hhi

theorem execRecvDone_takes {data : Bytes} {rest : Fret} (hheld : s.held f.die.val 0 = false)
    (htake : (s.fret (fretIdx f.toFretId)).takeIn src supply.bytes n = some (data, rest)) :
    exec (.recvDone f supply) s
      = .next (((s.setFret (fretIdx f.toFretId) rest).updFret (fretIdx f.toFretId) (·.received o data)).sramCe f.die.val f.ce) := by
  have hwait : s.sourceWait (fretIdx f.toFretId) src supply.wait = s := if_neg (by omega)
  refine congrArg Host.Outcome.next ?_
  unfold State.finishRecv
  simp only [hrecv, hwait, fretIdx_die, hheld, State.sourceBusy_queue hlo hhi s _ o, Bool.or_self,
    Bool.false_eq_true, if_false, State.recvBytes_taken hlo hhi htake]
  rfl

theorem execRecvDone_stays (htake : (s.fret (fretIdx f.toFretId)).takeIn src supply.bytes n = none) :
    s.stays (.recvDone f supply) := by
  have hwait : s.sourceWait (fretIdx f.toFretId) src supply.wait = s := if_neg (by omega)
  refine congrArg Host.Outcome.next ?_
  unfold State.finishRecv
  simp only [hrecv, hwait, State.recvBytes_none hlo hhi htake, ite_self]

end

/-! ### WAIT -/

theorem State.waitHolds_sramCe (s : State) (d ce i c : Nat) : (s.sramCe d ce).waitHolds i c = s.waitHolds i c := by
  unfold State.waitHolds
  rw [State.fret_sramCe, State.lane_sramCe]

section
variable {s : State} {f : Issue} {w : Nat} (h : s.issues f.toFretId 0x0C w)
include h

theorem execWait_holds (hholds : s.waitHolds (fretIdx f.toFretId) (bits w 3 0) = true) :
    exec (.wait f) s = .next ((s.sramCe f.die.val f.ce).setFret (fretIdx f.toFretId) (s.fret (fretIdx f.toFretId)).advance) := by
  refine congrArg Host.Outcome.next ?_
  simp only [h]
  exact if_pos ((State.waitHolds_sramCe _ _ _ _ _).trans hholds)

variable (hwaits : s.waitHolds (fretIdx f.toFretId) (bits w 3 0) = false)
include hwaits

theorem execWait_stalls (hcond : bits w 3 0 ≠ 3) : exec (.wait f) s
    = .next ((s.sramCe f.die.val f.ce).setFret (fretIdx f.toFretId) { s.fret (fretIdx f.toFretId) with stall := .wait (bits w 3 0) }) := by
  refine congrArg Host.Outcome.next ?_
  simp only [h, State.waitHolds_sramCe, hwaits, hcond]
  rfl

theorem execWait_asks (hcond : bits w 3 0 = 3) (hrecs : (s.lane (fretIdx f.toFretId)).recs ≠ []) : exec (.wait f) s
    = .next (((s.sramCe f.die.val f.ce).setLane (fretIdx f.toFretId) { s.lane (fretIdx f.toFretId) with asked := true }).setFret
        (fretIdx f.toFretId) { s.fret (fretIdx f.toFretId) with stall := .wait 3 }) := by
  have hsome : (s.lane (fretIdx f.toFretId)).recs.isEmpty = false := by simpa using hrecs
  rw [hcond] at hwaits
  refine congrArg Host.Outcome.next ?_
  simp only [h, State.waitHolds_sramCe, State.lane_sramCe, hcond, hwaits, hsome]
  rfl

theorem execWait_faults (hcond : bits w 3 0 = 3) (hrecs : (s.lane (fretIdx f.toFretId)).recs = []) :
    exec (.wait f) s = .next ((s.sramCe f.die.val f.ce).stackFault (fretIdx f.toFretId) 0) := by
  rw [hcond] at hwaits
  refine congrArg Host.Outcome.next ?_
  simp only [h, State.waitHolds_sramCe, State.lane_sramCe, hcond, hwaits, hrecs]
  rfl

end

section
variable {s : State} {f : FretId} {c : Nat} (hstall : (s.fret (fretIdx f)).stall = .wait c)
include hstall

theorem execWaitRelease_releases (hrun : (s.fret (fretIdx f)).run = 1) (hheld : s.held f.die.val 0 = false)
    (hholds : s.waitHolds (fretIdx f) c = true) : exec (.waitRelease f) s
      = .next (s.setFret (fretIdx f) { s.fret (fretIdx f) with stall := .none }.advance) := by
  refine congrArg Host.Outcome.next ?_
  simp only [hstall]
  exact if_pos (by simp [hrun, hheld, hholds])

theorem execWaitRelease_stays (hwaits : s.waitHolds (fretIdx f) c = false) : s.stays (.waitRelease f) := by
  refine congrArg Host.Outcome.next ?_
  simp only [hstall]
  exact if_neg (by simp [hwaits])

end

/-- Settles O8: each outcome replaces the issuing fret, and a stack fault's marks outlive the fault that follows. -/
theorem receiveAndWait : Obligations.ReceiveAndWait := by
  intro s f w supply i fr cond off issued
  refine ⟨fun h hrecv hsrc hnone => ?_, fun h hrecv => execRecv_stays h hrecv, fun src o n data rest hrecv hlo hhi hheld htake => ?_,
    fun src o n hrecv hlo hhi htake => execRecvDone_stays hrecv hlo hhi htake, fun h hholds => ?_, fun h hwaits hcond => ?_,
    fun h hwaits hcond hrecs => ?_, fun h hwaits hcond hrecs => ?_, fun c hrun hheld hstall hholds => ?_,
    fun c hstall hwaits => execWaitRelease_stays hstall hwaits, rfl, rfl, rfl, rfl⟩
  · obtain ⟨honly, hfret, hmet⟩ := State.setFret_sramCe_frame s i f.die.val f.ce issued
    exact State.runs_evolves (execRecv_issued h hrecv hsrc hnone)
      (State.evolves_step (State.sramCe_evolves _ _ _) (State.evolves_wider (State.setFret_evolves _ _ _) rfl) rfl)
      (State.within_self _) ⟨honly, hmet, hfret⟩
  · obtain ⟨hsram, hstall, hpc⟩ := Fret.takeIn_keeps htake
    have htaken : s.evolves ((s.setFret i rest).updFret i (·.received o data)) [.frets] :=
      State.evolves_step (State.updFret_evolves _ _ _) (State.setFret_evolves _ _ _) rfl
    refine State.runs_evolves (execRecvDone_takes hrecv hlo hhi hheld htake) (State.sramCe_after _ _ htaken) rfl
      ⟨State.onlyFret_evolves (State.sramCe_evolves _ _ _) rfl
        (State.onlyFret_updFret (State.onlyFret_setFret (State.onlyFret_refl s i) _) _), State.sramCe_frame _ _ htaken rfl, ?_⟩
    rw [State.fret_sramCe, State.fret_updFret_same, State.fret_setFret_same]
    refine ⟨Fret.received_recv _ _ _, (Fret.received_sram _ _ _).trans (Fret.writeSram_sram hsram _ _), fun hwait => ?_,
      fun hwait => ?_⟩
    · rw [Fret.received_waiting _ _ _ (hstall.trans hwait)]
      rfl
    · rw [Fret.received_running _ _ _ (by rw [hstall]; exact hwait)]
      exact hpc
  · obtain ⟨hevolves, honly, hmet, hfret⟩ := State.sramCe_setFret_frame s i f.die.val f.ce fr.advance
    exact State.runs_evolves (execWait_holds h hholds) hevolves rfl ⟨honly, hmet, hfret⟩
  · obtain ⟨hevolves, honly, hmet, hfret⟩ := State.sramCe_setFret_frame s i f.die.val f.ce { fr with stall := .wait cond }
    exact State.runs_evolves (execWait_stalls h hwaits hcond) hevolves rfl ⟨honly, hmet, hfret⟩
  · have hasked := State.setLane_evolves (s.sramCe f.die.val f.ce) i { s.lane i with asked := true }
    have hmet : s.evolves ((s.sramCe f.die.val f.ce).setLane i { s.lane i with asked := true }) [.regs, .slanes] :=
      State.evolves_step hasked (State.evolves_wider (State.sramCe_evolves _ _ _) rfl) rfl
    refine State.runs_evolves (execWait_asks h hwaits hcond hrecs)
      (State.evolves_step (State.setFret_evolves _ _ _) (State.evolves_wider hmet rfl) rfl) (State.within_self _)
      ⟨State.onlyFret_setFret (State.onlyFret_evolves hmet rfl (State.onlyFret_refl s i)) _, fun j hj => ?_,
        State.metErrors_of_regs (State.sramCe_frame f.die.val f.ce (State.evolves_refl s []) rfl) rfl,
        State.fret_setFret_same _ _ _, State.lane_setLane_same (s.sramCe f.die.val f.ce) i _⟩
    exact (State.lane_setLane_other (s.sramCe f.die.val f.ce) i j _ hj).trans (State.lane_sramCe s _ _ j)
  · obtain ⟨hflag, -, hvoted⟩ := State.stackFault_marks (s.sramCe f.die.val f.ce) i (bit := 0) (by decide)
    exact State.runs_evolves (execWait_faults h hwaits hcond hrecs)
      (State.evolves_step (State.stackFault_evolves _ _ _) (State.evolves_wider (State.sramCe_evolves _ _ _) rfl) rfl)
      (State.within_self _) ⟨hflag, hvoted⟩
  · exact State.runs_of (execWaitRelease_evolves f.toFretId s) rfl (execWaitRelease_releases hstall hrun hheld hholds) rfl
      ⟨State.onlyFret_setFret (State.onlyFret_refl s i) _, State.fret_setFret_same _ _ _⟩

end Sys2Proof.Machine

/-! SWITCH and HALT (R102, R104, R110, R116, R213). -/

namespace Sys2Proof.Machine

/-! ### Loads leave the banks and the repeat that is under way -/

/-- Both banks, and the voicings that a repeat still runs. -/
def Fret.sameBanks (f g : Fret) : Prop := g.bankA = f.bankA ∧ g.bankB = f.bankB ∧ g.follow = f.follow

theorem Fret.sameBanks_setSt (f : Fret) (k v : Nat) : f.sameBanks (f.setSt k v) := by
  unfold Fret.setSt
  split <;> exact ⟨rfl, rfl, rfl⟩

theorem Fret.sameBanks_setImg (f : Fret) (k : Nat) (m : Img) : f.sameBanks (f.setImg k m) := by
  unfold Fret.setImg
  split <;> exact ⟨rfl, rfl, rfl⟩

theorem Fret.sameBanks_setLast (f : Fret) (k a : Nat) : f.sameBanks (f.setLast k a) := by
  unfold Fret.setLast
  split <;> exact ⟨rfl, rfl, rfl⟩

theorem Fret.sameBanks_trans {f g h : Fret} (hfg : f.sameBanks g) (hgh : g.sameBanks h) : f.sameBanks h := by
  obtain ⟨ha, hb, hfollow⟩ := hfg
  obtain ⟨ka, kb, kfollow⟩ := hgh
  exact ⟨ka.trans ha, kb.trans hb, kfollow.trans hfollow⟩

theorem Fret.sameBanks_emptySlot (f : Fret) (k : Nat) : f.sameBanks (f.emptySlot k) :=
  Fret.sameBanks_trans (Fret.sameBanks_setImg _ _ _) (Fret.sameBanks_setSt _ _ _)

theorem Fret.sameBanks_startLoad (f : Fret) : f.sameBanks f.startLoad :=
  Fret.sameBanks_trans (Fret.sameBanks_setImg f _ _) (Fret.sameBanks_setSt _ f.shadow 1)

theorem State.loadShadow_sameBanks (s : State) (i vid : Nat) : (s.fret i).sameBanks ((s.loadShadow i vid).fret i) := by
  unfold State.loadShadow
  split
  · exact ⟨rfl, rfl, rfl⟩
  · next a _ =>
    have hread : (((s.updFret i Fret.startLoad).sweepTables (i / 384)).meetPoison a 16384).fret i = (s.fret i).startLoad := by
      rw [State.fret_evolves (State.meetPoison_evolves _ _ _) rfl, State.fret_evolves (State.sweepTables_evolves _ _) rfl,
        State.fret_updFret_same]
    have hstart := Fret.sameBanks_startLoad (s.fret i)
    rw [← hread] at hstart
    refine Fret.sameBanks_trans hstart ?_
    rcases (State.finishLoad_fret _ i (s.fret i).shadow a (s.imageAt a) false).2 with h | h
    · rw [h]
      exact Fret.sameBanks_emptySlot _ _
    · rw [h]
      exact Fret.sameBanks_trans (Fret.sameBanks_trans (Fret.sameBanks_setImg _ _ _) (Fret.sameBanks_setSt _ _ _))
        (Fret.sameBanks_setLast _ _ _)

theorem State.followShadow_sameBanks (s : State) (i : Nat) : (s.fret i).sameBanks ((s.followShadow i).fret i) := by
  unfold State.followShadow
  dsimp only
  split
  · exact ⟨rfl, rfl, rfl⟩
  · exact State.loadShadow_sameBanks _ _ _

/-! ### Whose image is current -/

/-- The shadow slot is as current in a state whose rungs and slot are the same. -/
theorem State.shadowCurrent_of_sameRungs {s t : State} (h : s.sameRungs t) (i : Nat) (hst : (t.fret i).st = (s.fret i).st)
    (hactive : (t.fret i).active = (s.fret i).active) (himg : (t.fret i).img = (s.fret i).img) :
    t.shadowCurrent i = s.shadowCurrent i := by
  have hshadow : (t.fret i).shadow = (s.fret i).shadow := by
    unfold Fret.shadow
    rw [hactive]
  unfold State.shadowCurrent
  dsimp only
  rw [hst, hshadow, himg, State.rungVid_of_sameRungs h]

/-- A slot that holds no image is as it should be. -/
theorem State.shadowCurrent_of_not_loaded {s : State} {i : Nat} (h : (s.fret i).st (s.fret i).shadow ≠ 2) :
    s.shadowCurrent i = true := by
  unfold State.shadowCurrent
  simp [h]

theorem State.shadowCurrent_sramCe (s : State) (d ce i : Nat) : (s.sramCe d ce).shadowCurrent i = s.shadowCurrent i := by
  have hrungs : s.sameRungs (s.sramCe d ce) := State.sameRungs_evolves (State.sramCe_evolves _ _ _) rfl (State.sameRungs_refl s)
  exact State.shadowCurrent_of_sameRungs hrungs i (by rw [State.fret_sramCe]) (by rw [State.fret_sramCe]) (by rw [State.fret_sramCe])

/-! ### The switch -/

/-- A first word that is no SWAPB, or one without a promised bank, swaps nothing. -/
theorem Fret.swapFirst_none (f g : Fret) (long : Bool) (himg : g.aimg = f.img f.shadow) (hidle : g.idle = f.idle)
    (h : opcode (seqWord (f.img f.shadow) 0) ≠ 2 ∨ f.idle.next = false) :
    (if decide (opcode (seqWord g.aimg 0) = 2) && long && decide (g.idle.status = 2) && g.idle.next then g.swapBanks.advance else g)
      = g := by
  refine if_neg ?_
  rw [himg, hidle]
  rcases h with h | h <;> simp [h]

/-- The program of a switched fret starts at its first word, with the banks of before, unless that word is a SWAPB that takes effect
(R92, R102). -/
theorem Fret.switched_start (f : Fret) (time : Nat) (h : opcode (seqWord (f.img f.shadow) 0) ≠ 2 ∨ f.idle.next = false) :
    (f.switched time).pc = 0 ∧ (f.switched time).bankA = f.bankA ∧ (f.switched time).bankB = f.bankB := by
  obtain ⟨terms, spills, bounded, hacc⟩ :=
    switchAcc_eq f (if f.active < 2 then some f.voicing else none) (Voicing.of (f.img f.shadow))
  unfold Fret.switched
  simp only [hacc]
  rw [Fret.swapFirst_none f _ _ ?_ ?_ h]
  · exact ⟨rfl, rfl, rfl⟩
  · rfl
  · rfl

/-- A switch into a loaded slot, where no repeat is under way. -/
theorem State.switchFret_loaded (s : State) (i : Nat) (halted : Bool)
    (hloaded : ((s.followShadow i).fret i).st ((s.followShadow i).fret i).shadow = 2)
    (hfollow : ((s.followShadow i).fret i).follow = []) :
    (s.switchFret i halted).fret i = ((s.followShadow i).fret i).switched (s.followShadow i).time := by
  generalize hu : s.followShadow i = u at *
  have htime : (u.leavePhase i).time = u.time := (State.leavePhase_evolves u i).1 .time (by decide)
  obtain ⟨-, -, -, -, -, hnext⟩ := Fret.switched_runsShadow (u.fret i) u.time
  have hfret : ∀ v, ((((u.leavePhase i).setFret i ((u.fret i).switched u.time)).beginPhase i).markLane i v).fret i
      = (u.fret i).switched u.time := by
    intro v
    rw [State.fret_evolves (State.markLane_evolves _ _ _) rfl, State.fret_evolves (State.beginPhase_evolves _ _) rfl,
      State.fret_setFret_same]
  unfold State.switchFret
  simp only [hu, hloaded, htime]
  rw [State.loadNext_of_none _ _ (by rw [hfret, hnext, hfollow]), hfret]

theorem State.switchFret_loading (s : State) (i : Nat) (halted : Bool) (hloading : (s.fret i).st (s.fret i).shadow = 1) :
    s.switchFret i halted
      = (s.setFret i { s.fret i with stall := .switch, run := 1 }).bump (i / 384) Reg.fretSwitchWaitCount 1 := by
  unfold State.switchFret
  simp only [State.followShadow_of_current s i (State.shadowCurrent_of_not_loaded (by rw [hloading]; decide)), hloading]

theorem State.switchFret_empty (s : State) (i : Nat) (hempty : ((s.followShadow i).fret i).st ((s.followShadow i).fret i).shadow = 0) :
    s.switchFret i false = ((s.followShadow i).setFret i { (s.followShadow i).fret i with run := 2 }).flag (i / 384) Reg.fretStatus 1 := by
  unfold State.switchFret
  simp only [hempty]
  rfl

/-! ### The operations -/

/-- A fret that issues runs, and nothing stalls it (R103). -/
theorem State.issues_run {s : State} {f : FretId} {op w : Nat} (h : s.issues f op w) : (s.fret (fretIdx f)).run = 1 := by
  unfold State.issues State.nextIs at h
  split at h
  · cases h
  · unfold Fret.nextIs at h
    split at h
    · next hnext =>
      unfold Fret.next at hnext
      split at hnext
      · next hcond =>
        simp only [Bool.and_eq_true, decide_eq_true_eq] at hcond
        exact hcond.1.1.1
      · cases hnext
    · cases h

section
variable {s : State} {f : Issue} {w : Nat}

theorem execSwitch_stays (h : s.issues f.toFretId 0x0D w) (hretire : s.unretired (fretIdx f.toFretId) = true) :
    s.stays (.switch f) := by
  refine congrArg Host.Outcome.next ?_
  simp only [h]
  exact if_pos hretire

theorem State.gated_sramCe (s : State) (d ce : Nat) (fr : Fret) : (s.sramCe d ce).gated fr = s.gated fr := by
  have hnum : (s.sramCe d ce).num = s.num := (State.sramCe_evolves s d ce).1 .num rfl
  unfold State.gated State.inPass
  rw [hnum]

theorem execSwitch_gated (h : s.issues f.toFretId 0x0D w) (hready : s.unretired (fretIdx f.toFretId) = false)
    (hgate : s.gated (s.fret (fretIdx f.toFretId)) = true) : exec (.switch f) s
      = .next ((s.sramCe f.die.val f.ce).setFret (fretIdx f.toFretId) { s.fret (fretIdx f.toFretId) with stall := .gate }) := by
  refine congrArg Host.Outcome.next ?_
  simp only [h, hready, State.gated_sramCe, hgate, Bool.false_eq_true, if_false, if_true]

theorem execSwitch_switches (h : s.issues f.toFretId 0x0D w) (hready : s.unretired (fretIdx f.toFretId) = false)
    (hgate : s.gated (s.fret (fretIdx f.toFretId)) = false) :
    exec (.switch f) s = .next ((s.sramCe f.die.val f.ce).switchFret (fretIdx f.toFretId) false) := by
  refine congrArg Host.Outcome.next ?_
  simp only [h, hready, State.gated_sramCe, hgate, Bool.false_eq_true, if_false]

theorem execHalt_stays (h : s.issues f.toFretId 0x0E w) (hretire : s.unretired (fretIdx f.toFretId) = true) : s.stays (.halt f) := by
  refine congrArg Host.Outcome.next ?_
  simp only [h]
  exact if_pos hretire

/-- A HALT in a phase that has a bound (R110). -/
theorem execHalt_costed (h : s.issues f.toFretId 0x0E w) (hready : s.unretired (fretIdx f.toFretId) = false) {p : FretPhase}
    (hphase : (s.fret (fretIdx f.toFretId)).phase = some p) (hbound : p.bound ≠ none) : exec (.halt f) s
      = .next ((s.sramCe f.die.val f.ce).setFret (fretIdx f.toFretId) { (s.fret (fretIdx f.toFretId)).advance with run := 0 }) := by
  have hcosted : p.bound.isNone = false := by
    cases hp : p.bound with
    | none => exact absurd hp hbound
    | some n => rfl
  refine congrArg Host.Outcome.next ?_
  simp only [h, hready, hphase, hcosted, Bool.false_eq_true, if_false]
  rw [← hphase]
  rfl

theorem execHalt_uncosted (h : s.issues f.toFretId 0x0E w) (hready : s.unretired (fretIdx f.toFretId) = false)
    (hphase : ∀ p, (s.fret (fretIdx f.toFretId)).phase = some p → p.bound = none) : exec (.halt f) s
      = .next (((s.leavePhase (fretIdx f.toFretId)).sramCe f.die.val f.ce).setFret (fretIdx f.toFretId)
          { (s.fret (fretIdx f.toFretId)).advance with run := 0, phase := none }) := by
  refine congrArg Host.Outcome.next ?_
  simp only [h, hready, Bool.false_eq_true, if_false]
  split
  · next p hp => simp only [hphase p hp, Option.isNone_none, if_true]
  · rfl

end

section
variable {s : State} {f : FretId}

theorem execSwitchWaitEnd_stays (h : (s.fret (fretIdx f)).st (s.fret (fretIdx f)).shadow = 1 ∨ s.held f.die.val 0 = true) :
    s.stays (.switchWaitEnd f) := by
  refine congrArg Host.Outcome.next (if_neg ?_)
  rcases h with h | h <;> simp [h]

theorem execSwitchWaitEnd_switches (hrun : (s.fret (fretIdx f)).run = 1) (hheld : s.held f.die.val 0 = false)
    (hstall : (s.fret (fretIdx f)).stall = .switch) (hloaded : (s.fret (fretIdx f)).st (s.fret (fretIdx f)).shadow ≠ 1) :
    exec (.switchWaitEnd f) s
      = .next ((s.setFret (fretIdx f) { s.fret (fretIdx f) with stall := .none }).switchFret (fretIdx f) false) :=
  congrArg Host.Outcome.next (if_pos (by simp [hrun, hheld, hstall, hloaded]))

end

/-- Settles O9: the shadow slot, as the rungs in force leave it, decides what a switch does. -/
theorem switchAndHalt : Obligations.SwitchAndHalt := by
  intro s f w i d fr ready
  have hsram : s.metErrors (s.sramCe d f.ce) d f.ce [] := State.sramCe_frame d f.ce (State.evolves_refl s []) rfl
  have hfret : ((s.sramCe d f.ce).fret i) = fr := State.fret_sramCe s i d f.ce
  have hother : s.onlyFret (s.sramCe d f.ce) i := State.onlyFret_evolves (State.sramCe_evolves _ _ _) rfl (State.onlyFret_refl s i)
  have hdie : i / 384 = d := fretIdx_die f.toFretId
  refine ⟨fun h hretire => execSwitch_stays h hretire, fun h hready hgate => ?_, fun h hready hgate hloaded hfollow => ?_,
    fun h hready hgate hloading => ?_, fun h hready hgate hempty => ?_, fun hrun hheld hstall hloaded hfollow hcurrent => ?_,
    fun h => execSwitchWaitEnd_stays h, fun h hretire => execHalt_stays h hretire, fun h hready hphase => ?_, fun h hready hphase => ?_⟩
  · obtain ⟨hevolves, honly, hmet, hnew⟩ := State.sramCe_setFret_frame s i d f.ce { fr with stall := .gate }
    exact State.runs_evolves (execSwitch_gated h hready hgate) hevolves rfl ⟨honly, hmet, hnew⟩
  · refine State.runs_of (execSwitch_evolves f s) rfl (execSwitch_switches h hready hgate) (State.within_self _)
      ⟨State.onlyFret_step (State.switchFret_onlyFret _ i false) hother, fun hcurrent => ?_, fun hloaded' => ?_, fun hempty => ?_⟩
    · rw [State.followShadow_of_current _ _ ((State.shadowCurrent_sramCe s d f.ce i).trans hcurrent), hfret]
    · have hbanks := State.followShadow_sameBanks (s.sramCe d f.ce) i
      rw [hfret] at hbanks
      obtain ⟨ha, hb, hnext⟩ := hbanks
      rw [State.switchFret_loaded _ i false hloaded' (hnext.trans hfollow)]
      obtain ⟨hactive, hrun, hdata, -⟩ := Fret.switched_runsShadow (((s.sramCe d f.ce).followShadow i).fret i)
        ((s.sramCe d f.ce).followShadow i).time
      refine ⟨hactive, hrun, hdata, fun hfirst => ?_⟩
      rw [← ha, ← hb]
      exact Fret.switched_start _ _ hfirst
    · rw [State.switchFret_empty _ i hempty, hdie, State.fret_flag, State.fret_setFret_same]
      exact ⟨rfl, State.flag_testBit _ _ _ _ (by decide)⟩
  · have hexec := execSwitch_switches h hready hgate
    rw [State.switchFret_loading _ i false (by rw [hfret]; exact hloading), hdie, hfret] at hexec
    obtain ⟨hevolves, honly, -, hnew⟩ := State.sramCe_setFret_frame s i d f.ce { fr with stall := .switch, run := 1 }
    have hmet : s.metErrors ((s.sramCe d f.ce).setFret i { fr with stall := .switch, run := 1 }) d f.ce
        [regKey d Reg.fretSwitchWaitCount] :=
      State.metErrors_of_regs (State.metErrors_sramCe f.ce (State.onlyRegs_refl s _)
        (by simp [regKey_same, Reg.fretSramCeCount, Reg.fretSwitchWaitCount])) rfl
    have hrun : fr.run = 1 := State.issues_run h
    refine State.runs_evolves hexec (State.evolves_step (State.bump_evolves _ _ _ _) hevolves rfl) rfl ⟨honly, ?_,
      State.metErrors_step (ls := [regKey d Reg.fretSwitchWaitCount]) (State.onlyRegs_bump (State.onlyRegs_refl _ _) _ _ _ (by simp))
        hmet (by simp) ?_ ?_, ?_⟩
    · rw [State.fret_bump, hnew]
      exact congrArg (fun r : Nat => { fr with stall := .switch, run := r }) hrun.symm
    · simp [regKey_same, Reg.fretStatus, Reg.fretSwitchWaitCount]
    · simp [regKey_same, Reg.fretSramCeCount, Reg.fretSwitchWaitCount]
    · rw [State.reg_bump_same, State.reg_setFret, State.reg_of_onlyRegs (State.sramCe_onlyRegs s d f.ce)
        (by simp [regKey_same, Reg.fretStatus, Reg.fretSramCeCount, Reg.fretSwitchWaitCount])]
  · have hexec := execSwitch_switches h hready hgate
    have hcurrent : (s.sramCe d f.ce).followShadow i = s.sramCe d f.ce :=
      State.followShadow_of_current _ _ (State.shadowCurrent_of_not_loaded (by rw [hfret, hempty]; decide))
    rw [State.switchFret_empty _ i (by rw [hcurrent, hfret]; exact hempty), hcurrent, hdie, hfret] at hexec
    obtain ⟨hevolves, honly, hmet, hnew⟩ := State.sramCe_setFret_frame s i d f.ce { fr with run := 2 }
    exact State.runs_evolves hexec (State.evolves_step (State.flag_evolves _ _ _ _) hevolves rfl) rfl ⟨honly, hnew,
      State.metErrors_flagStatus hmet 1, State.flag_testBit _ _ _ _ (by decide)⟩
  · have hset : (s.setFret i { fr with stall := .none }).fret i = { fr with stall := .none } := State.fret_setFret_same _ _ _
    have hrungs : s.sameRungs (s.setFret i { fr with stall := .none }) :=
      State.sameRungs_evolves (State.setFret_evolves _ _ _) rfl (State.sameRungs_refl s)
    have hcur := (State.shadowCurrent_of_sameRungs hrungs i (by rw [hset]; rfl) (by rw [hset]) (by rw [hset]; rfl)).trans hcurrent
    refine State.runs_of (execSwitchWaitEnd_evolves f.toFretId s) rfl
      (execSwitchWaitEnd_switches hrun hheld hstall (by rw [show _ = 2 from hloaded]; decide)) (State.within_self _)
      ⟨State.onlyFret_step (State.switchFret_onlyFret _ i false) (State.onlyFret_setFret (State.onlyFret_refl s i) _), ?_⟩
    rw [State.switchFret_fret_of_current _ i false hcur (by rw [hset]; exact hfollow) (by rw [hset]; exact hloaded), hset]
    obtain ⟨hactive, hrun', hdata, -⟩ := Fret.switched_runsShadow { fr with stall := .none }
      (s.setFret i { fr with stall := .none }).time
    exact ⟨hactive, hrun', hdata⟩
  · obtain ⟨p, hp, hbound⟩ := hphase
    obtain ⟨hevolves, honly, hmet, hnew⟩ := State.sramCe_setFret_frame s i d f.ce { fr.advance with run := 0 }
    exact State.runs_evolves (execHalt_costed h hready hp hbound) hevolves rfl ⟨honly, hmet, hnew⟩
  · have hleft : s.onlyFret ((s.leavePhase i).sramCe d f.ce) i := State.onlyFret_evolves (State.sramCe_evolves _ _ _) rfl
      (State.onlyFret_evolves (State.leavePhase_evolves s i) rfl (State.onlyFret_refl s i))
    exact State.runs_of (execHalt_evolves f s) rfl (execHalt_uncosted h hready hphase) (State.within_self _)
      ⟨State.onlyFret_setFret hleft _, State.fret_setFret_same _ _ _⟩

end Sys2Proof.Machine

/-! SUMMARY, its mailbox, and the staging of records (R84, R172 to R174, R191, R194, R302, R311). -/

namespace Sys2Proof.Machine

/-! ### Fields of a byte string -/

theorem leNat_natLE (n v : Nat) : leNat (natLE n v) = v % 256 ^ n := by
  induction n generalizing v with
  | zero => exact (Nat.mod_one v).symm
  | succ n ih =>
    have hbyte : (BitVec.ofNat 8 v).toNat = v % 256 := by simp
    rw [natLE, leNat, ih, hbyte, Nat.pow_succ', Nat.mod_mul]

/-- The first field of a byte string. -/
theorem leAt_field (n v : Nat) (b : Bytes) : leAt (natLE n v ++ b) 0 n = v % 256 ^ n := by
  have hslice : byteSlice (natLE n v ++ b) 0 n = natLE n v := by
    refine List.ext_getElem (by simp [byteSlice, natLE_length]) fun i hi _ => ?_
    have hi : i < n := by simpa [byteSlice] using hi
    have hlength : i < (natLE n v).length := by rw [natLE_length]; exact hi
    simp [byteSlice, List.getElem?_append_left hlength, List.getElem?_eq_getElem hlength]
  rw [leAt, hslice, leNat_natLE]

/-- A field behind another one. -/
theorem leAt_skip (a b : Bytes) {o n : Nat} (h : a.length ≤ o) : leAt (a ++ b) o n = leAt b (o - a.length) n := by
  refine congrArg leNat (List.map_congr_left fun i _ => ?_)
  rw [List.getD_append_right _ _ _ _ (by omega), Nat.sub_add_comm h]

/-! ### The summary accumulators (R172) -/

/-- An accumulator back at its kind's identity. -/
def SumAcc.clear (a : SumAcc) : SumAcc := ⟨a.kind, List.replicate 64 (sumIdentity a.kind)⟩

theorem Fret.sum_setSum (f : Fret) {j k : Nat} (a : SumAcc) (hj : j < 4) :
    (f.setSum k a).sum j = if j = k then a else f.sum j := by
  unfold Fret.setSum
  change (((List.range 4).map f.sum).set k a).getD j _ = _
  by_cases h : j = k
  · subst h
    simp [hj]
  · simp [h, hj, Ne.symm h]

/-- One step of a reset. -/
def Fret.clearSum (f : Fret) (mask k : Nat) : Fret := if (mask >>> k) % 2 = 0 then f else f.setSum k (f.sum k).clear

theorem Fret.clearSum_sum (f : Fret) (mask k : Nat) {j : Nat} (hj : j < 4) :
    (f.clearSum mask k).sum j = if j = k ∧ (mask >>> k) % 2 ≠ 0 then (f.sum j).clear else f.sum j := by
  unfold Fret.clearSum
  by_cases h : (mask >>> k) % 2 = 0
  · simp [h]
  · rw [if_neg h, Fret.sum_setSum _ _ hj]
    by_cases hjk : j = k
    · rw [if_pos hjk, if_pos ⟨hjk, h⟩, hjk]
    · rw [if_neg hjk, if_neg (fun hc => hjk hc.1)]

/-- Every accumulator of the mask is back at its identity. -/
theorem Fret.resetSums_sum (f : Fret) (mask : Nat) {k : Nat} (hk : k < 4) (hmask : (mask >>> k) % 2 = 1) :
    (f.resetSums mask).sum k = (f.sum k).clear := by
  have hfold : ∀ (l : List Nat), l.Nodup → ∀ g : Fret, (l.foldl (fun g j => g.clearSum mask j) g).sum k
      = if k ∈ l then (g.sum k).clear else g.sum k := by
    intro l
    induction l with
    | nil => simp
    | cons j l ih =>
      intro hl g
      obtain ⟨hj, hl⟩ := List.nodup_cons.mp hl
      rw [List.foldl_cons, ih hl, Fret.clearSum_sum _ _ _ hk]
      by_cases hkj : k = j
      · subst hkj
        simp [hj, hmask]
      · simp [hkj]
  exact (hfold (List.range 4) List.nodup_range f).trans (if_pos (List.mem_range.mpr hk))

/-! ### The mailbox -/

theorem State.cdie_setCDie_same (s : State) (d : Nat) (c : CDie) : (s.setCDie d c).cdie d = c := by
  unfold State.cdie State.setCDie
  split <;> rfl

theorem State.cdie_setCDie_other (s : State) {d : Nat} (hd : d < 2) (c : CDie) : (s.setCDie d c).cdie (1 - d) = s.cdie (1 - d) := by
  unfold State.cdie State.setCDie
  by_cases h : d = 0
  · simp [h]
  · simp [h, show 1 - d = 0 by omega]

theorem State.cdie_of_board {s t : State} (h : t.board = s.board) (d : Nat) : t.cdie d = s.cdie d := by
  unfold State.cdie
  rw [h]

/-- The record says what the fret and the time are. -/
theorem State.summaryRecord_congr {s t : State} (w : Nat) {i : Nat} (hfret : t.fret i = s.fret i) (htime : t.time = s.time) :
    t.summaryRecord i w = s.summaryRecord i w := by
  unfold State.summaryRecord
  rw [hfret, htime]

theorem bits_lt (v hi lo : Nat) : bits v hi lo < 2 ^ (hi + 1 - lo) := by
  unfold bits pow2
  rw [Nat.one_shiftLeft]
  exact Nat.mod_lt _ (Nat.two_pow_pos _)

/-- An accumulator's word in a record (R173). -/
def State.summaryWord (s : State) (i w k : Nat) : Bytes :=
  if (bits w 55 52 >>> k) % 2 = 0 then u32 0
  else u32 ((treeUp (sumCombine ((s.fret i).sum k).kind) 6 ((s.fret i).sum k).parts).getD 0).toNat

theorem State.summaryWord_length (s : State) (i w k : Nat) : (s.summaryWord i w k).length = 4 := by
  unfold State.summaryWord
  split <;> exact natLE_length 4 _

/-- The fields of a SUMMARY's record: voicing, operation, fret, die, mask and time (R173). -/
theorem State.summaryRecord_fields (s : State) {i : Nat} (w : Nat) (hi : i / 384 < 256) :
    let record := s.summaryRecord i w
    leAt record 0 2 = (s.fret i).voicing.vid % 65536 ∧ leAt record 2 1 = bits w 51 44 ∧ leAt record 4 2 = i % 384
      ∧ leAt record 6 1 = i / 384 ∧ leAt record 7 1 = bits w 55 52 ∧ leAt record 24 8 = s.time % pow2 64 := by
  intro record
  have hsums : ((List.range 4).flatMap (s.summaryWord i w)).length = 16 := by
    rw [List.length_flatMap]
    simp [State.summaryWord_length]
  have hrecord : record = u16 (s.fret i).voicing.vid ++ u8 (bits w 51 44)
      ++ u8 ((List.range 4).map fun k => ((s.fret i).sum k).kind <<< (2 * k)).sum ++ u16 (i % 384) ++ u8 (i / 384)
      ++ u8 (bits w 55 52) ++ (List.range 4).flatMap (s.summaryWord i w) ++ (u64 s.time ++ []) := by
    rw [List.append_nil]
    rfl
  have htime : leAt (natLE 8 s.time) 0 8 = s.time % pow2 64 := by
    rw [← List.append_nil (natLE 8 s.time), leAt_field]
    rfl
  have hop := bits_lt w 51 44
  have hmask := bits_lt w 55 52
  rw [hrecord]
  simp [u8, u16, u64, leAt_skip, leAt_field, natLE_length, hsums, htime]
  omega

/-- What a SUMMARY that goes leaves of its fret. -/
def Fret.summed (f : Fret) (w : Nat) : Fret :=
  let f := if w % 2 = 1 then f.resetSums (bits w 55 52) else f
  { f with stall := .none }.advance

theorem Fret.summed_stall (f : Fret) (w : Nat) : (f.summed w).stall = .none := rfl

theorem Fret.summed_kept (f : Fret) {w : Nat} (hw : w % 2 = 0) : (f.summed w).sums = f.sums := by
  unfold Fret.summed
  rw [if_neg (by omega)]
  rfl

theorem Fret.summed_sum (f : Fret) {w k : Nat} (hk : k < 4) (hw : w % 2 = 1) (hmask : (bits w 55 52 >>> k) % 2 = 1) :
    (f.summed w).sum k = (f.sum k).clear := by
  rw [← Fret.resetSums_sum f (bits w 55 52) hk hmask]
  unfold Fret.summed
  rw [if_pos hw]
  rfl

section
variable (s : State) {i : Nat} (w : Nat)

theorem State.sendSummary_fret (j : Nat) : (s.sendSummary i w).fret j = if j = i then (s.fret i).summed w else s.fret j := by
  unfold State.sendSummary
  by_cases hj : j = i
  · rw [if_pos hj, hj, State.fret_updFret_same]
    rfl
  · rw [if_neg hj, State.fret_updFret_other _ _ _ _ hj]
    rfl

theorem State.sendSummary_flight : ((s.sendSummary i w).cdie (i / 384)).flight
    = (s.cdie (i / 384)).flight ++ [(mailCore i, s.summaryRecord i w)] := by
  unfold State.sendSummary
  rw [State.cdie_of_board ((State.updFret_evolves _ _ _).1 .board rfl), State.cdie_setCDie_same]

theorem State.sendSummary_cdie (hi : i / 384 < 2) : (s.sendSummary i w).cdie (1 - i / 384) = s.cdie (1 - i / 384) := by
  unfold State.sendSummary
  rw [State.cdie_of_board ((State.updFret_evolves _ _ _).1 .board rfl), State.cdie_setCDie_other _ hi]

end

/-! ### SUMMARY -/

theorem State.cdie_sramCe (s : State) (d ce k : Nat) : (s.sramCe d ce).cdie k = s.cdie k :=
  State.cdie_of_board ((State.sramCe_evolves s d ce).1 .board rfl) k

section
variable {s : State} {f : Issue} {w : Nat} (h : s.issues f.toFretId 0x0A w)
include h

theorem execSummary_sends (hfree : (s.cdie f.die.val).mailFull (mailCore (fretIdx f.toFretId)) = false) :
    exec (.summary f) s = .next ((s.sramCe f.die.val f.ce).sendSummary (fretIdx f.toFretId) w) := by
  refine congrArg Host.Outcome.next ?_
  simp only [h, State.cdie_sramCe, hfree]
  rfl

theorem execSummary_waits (hfull : (s.cdie f.die.val).mailFull (mailCore (fretIdx f.toFretId)) = true) :
    exec (.summary f) s = .next ((((s.sramCe f.die.val f.ce).setFret (fretIdx f.toFretId)
      { s.fret (fretIdx f.toFretId) with stall := .summary }).bump f.die.val Reg.epuSummaryWaitCount 1).flag f.die.val
        Reg.epuStatus 3) := by
  refine congrArg Host.Outcome.next ?_
  simp only [h, State.cdie_sramCe, hfull]
  rfl

end

section
variable {s : State} {f : FretId}

theorem execSummaryWaitEnd_sends (hrun : (s.fret (fretIdx f)).run = 1) (hheld : s.held f.die.val 3 = false)
    (hstall : (s.fret (fretIdx f)).stall = .summary) (hfree : (s.cdie f.die.val).mailFull (mailCore (fretIdx f)) = false) :
    exec (.summaryWaitEnd f) s
      = .next (s.sendSummary (fretIdx f) (seqWord (s.fret (fretIdx f)).aimg (s.fret (fretIdx f)).pc)) :=
  congrArg Host.Outcome.next (if_pos (by simp [hrun, hheld, hstall, hfree]))

theorem execSummaryWaitEnd_stays
    (h : (s.cdie f.die.val).mailFull (mailCore (fretIdx f)) = true ∨ s.held f.die.val 3 = true) : s.stays (.summaryWaitEnd f) := by
  refine congrArg Host.Outcome.next (if_neg ?_)
  rcases h with h | h <;> simp [h]

end

/-! ### STAGE_READY -/

section
variable {s : State} {f : FretId} {ue : Bool} {r : Nat × Nat} {rest : List (Nat × Nat)}
  (hnext : (s.lane (fretIdx f)).recs.drop (s.lane (fretIdx f)).staged = r :: rest)
include hnext

theorem execStageReady_stays (h : s.held (2 + stackDie (fretIdx f)) 7 = true
    ∨ s.spansWait [(s.laneAddr (fretIdx f) r.1, r.2, false)] = true) : s.stays (.stageReady f ue) := by
  refine congrArg Host.Outcome.next ?_
  simp only [hnext]
  exact if_pos (by rcases h with h | h <;> simp [h])

variable (hasked : (s.lane (fretIdx f)).asked = true) (hheld : s.held (2 + stackDie (fretIdx f)) 7 = false)
  (hfree : s.spansWait [(s.laneAddr (fretIdx f) r.1, r.2, false)] = false)
include hasked hheld hfree

theorem execStageReady_stages (hreads : s.readFails (s.laneAddr (fretIdx f) r.1) r.2 = false) : exec (.stageReady f false) s
    = .next (s.setLane (fretIdx f) { s.lane (fretIdx f) with staged := (s.lane (fretIdx f)).staged + 1, asked := false }) := by
  refine congrArg Host.Outcome.next ?_
  simp only [hnext, hasked, hheld, hfree, hreads]
  rfl

theorem execStageReady_fails (hfails : (ue || s.readFails (s.laneAddr (fretIdx f) r.1) r.2) = true) :
    exec (.stageReady f ue) s = .next (s.laneError (fretIdx f) r) := by
  refine congrArg Host.Outcome.next ?_
  simp only [hnext, hasked, hheld, hfree, hfails]
  rfl

end

/-- What a failed staging leaves in its stack engine (R194): the memory errors on the way write none of its registers. -/
theorem State.laneError_marks (s : State) (i : Nat) (r : Nat × Nat) :
    ((s.laneError i r).reg (laneDie i) Reg.stackStatus).testBit 1 = true
    ∧ (s.laneError i r).reg (laneDie i) Reg.stackFaultCount = cap32 (s.reg (laneDie i) Reg.stackFaultCount + 1)
    ∧ (s.laneError i r).upd.voted = true := by
  have hread : s.keepsNear (if s.poisoned (s.laneAddr i r.1) r.2 then s.meetPoison (s.laneAddr i r.1) r.2
      else if s.mappedRange (s.laneAddr i r.1) r.2 then s.uncorrectableError (s.laneAddr i r.1 / 64) else s) :=
    State.keepsNear_ite (State.meetPoison_keepsNear _ _ _)
      (State.keepsNear_ite (State.uncorrectableError_keepsNear _ _) (State.keepsNear_refl s))
  obtain ⟨hflag, hcount, hvoted⟩ := State.stackFault_marks (if s.poisoned (s.laneAddr i r.1) r.2 then s.meetPoison (s.laneAddr i r.1) r.2
      else if s.mappedRange (s.laneAddr i r.1) r.2 then s.uncorrectableError (s.laneAddr i r.1 / 64) else s) i (bit := 1) (by decide)
  rw [State.reg_of_keepsNear hread (nearKey_stack _ (by decide))] at hcount
  exact ⟨hflag, hcount, hvoted⟩

/-- The mailbox of the core after an arrival, and after firmware has taken records (R174). -/
theorem execSummaryMailboxArrival_takes (s : State) (die : Fin 2) (core : Fin 8) (take : Nat) :
    let c := s.cdie die.val
    let came := c.flight.find? fun m => m.1 = core.val
    ∃ c' : CDie, c'.mail = c.mail ++ came.toList ∧ c'.taken = c.taken
      ∧ c'.flight = (match came with | some m => c.flight.erase m | none => c.flight)
      ∧ exec (.summaryMailboxArrival die core take) s = .next (s.setCDie die.val (c'.takeMail core.val take)) := by
  intro c came
  have hcame : came = c.flight.find? fun m => m.1 = core.val := rfl
  cases hc : came with
  | none =>
    refine ⟨c, (List.append_nil _).symm, rfl, rfl, congrArg Host.Outcome.next ?_⟩
    rw [hcame] at hc
    simp only [c] at hc ⊢
    rw [hc]
  | some m =>
    refine ⟨{ c with flight := c.flight.erase m, mail := c.mail ++ [m] }, rfl, rfl, rfl, congrArg Host.Outcome.next ?_⟩
    rw [hcame] at hc
    simp only [c] at hc ⊢
    rw [hc]

/-- Settles O10: a record that goes leaves the issuing fret and joins the flight of its die; a failed staging is a stack fault. -/
theorem summariesAndStaging : Obligations.SummariesAndStaging := by
  intro s f w i d fr core record l
  have hdie : i / 384 = d := fretIdx_die f.toFretId
  have hcore : mailCore i = core := congrArg (· / 2) (fretCol_fretIdx f.toFretId)
  have hlt : i / 384 < 2 := by rw [hdie]; exact f.die.isLt
  refine ⟨fun h hfree => ?_, fun h hfull => ?_, fun hrun hheld hstall hfree => ?_, fun h => ?_, ?_, fun core take => ?_,
    fun r rest ue hnext h => execStageReady_stays hnext h, fun r rest hnext hasked hheld hfree hreads => ?_,
    fun r rest ue hnext hasked hheld hfree hfails => ?_⟩
  · have hsent := State.sendSummary_evolves (s.sramCe d f.ce) i w
    have hfret := State.sendSummary_fret (s.sramCe d f.ce) (i := i) w
    have hflight := State.sendSummary_flight (s.sramCe d f.ce) (i := i) w
    have hcdie := State.sendSummary_cdie (s.sramCe d f.ce) w hlt
    rw [hdie, State.cdie_sramCe, hcore, State.summaryRecord_congr w (State.fret_sramCe s i d f.ce)
      ((State.sramCe_evolves s d f.ce).1 .time rfl)] at hflight
    rw [hdie, State.cdie_sramCe] at hcdie
    have hsummed : ((s.sramCe d f.ce).sendSummary i w).fret i = fr.summed w := by rw [hfret, if_pos rfl, State.fret_sramCe]
    refine State.runs_evolves (execSummary_sends h (by rw [hcore]; exact hfree))
      (State.evolves_step hsent (State.evolves_wider (State.sramCe_evolves _ _ _) rfl) rfl) (State.within_self _)
      ⟨fun j hj => ?_, State.metErrors_of_regs (State.sramCe_frame d f.ce (State.evolves_refl s []) rfl) (hsent.1 .regs rfl), hflight,
        hcdie, fun hw => ?_, fun k hk hw hmask => ?_⟩
    · rw [hfret, if_neg hj, State.fret_sramCe]
    · rw [hsummed]
      exact Fret.summed_kept fr hw
    · rw [hsummed]
      exact Fret.summed_sum fr hk hw hmask
  · obtain ⟨hevolves, honly, -, hnew⟩ := State.sramCe_setFret_frame s i d f.ce { fr with stall := .summary }
    have hmet : s.metErrors ((s.sramCe d f.ce).setFret i { fr with stall := .summary }) d f.ce
        [regKey d Reg.epuSummaryWaitCount, regKey d Reg.epuStatus] :=
      State.metErrors_of_regs (State.metErrors_sramCe f.ce (State.onlyRegs_refl s _)
        (by simp [regKey_same, Reg.fretSramCeCount, Reg.epuSummaryWaitCount, Reg.epuStatus])) rfl
    refine State.runs_evolves (execSummary_waits h (by rw [hcore]; exact hfull))
      (State.evolves_step (State.flag_evolves _ _ _ _) (State.evolves_step (State.bump_evolves _ _ _ _) hevolves rfl) rfl) rfl
      ⟨honly, hnew, State.metErrors_step (ls := [regKey d Reg.epuSummaryWaitCount, regKey d Reg.epuStatus])
        (State.onlyRegs_orReg (State.onlyRegs_bump (State.onlyRegs_refl _ _) _ _ _ ?_) _ _ _ ?_) hmet (fun _ hx => hx) ?_ ?_, ?_,
        State.flag_testBit _ _ _ _ (by decide)⟩
    · simp [d]
    · simp [d]
    · simp [regKey_same, Reg.fretStatus, Reg.epuSummaryWaitCount, Reg.epuStatus]
    · simp [regKey_same, Reg.fretSramCeCount, Reg.epuSummaryWaitCount, Reg.epuStatus]
    · rw [State.reg_flag_other _ _ _ _ _ _ (regKey_ne d (by decide)), State.reg_bump_same, State.reg_setFret,
        State.reg_of_onlyRegs (State.sramCe_onlyRegs s d f.ce) (d := f.die.val)
          (by simp [d, regKey_same, Reg.fretStatus, Reg.fretSramCeCount, Reg.epuSummaryWaitCount])]
  · have hfret := State.sendSummary_fret s (i := i) (seqWord fr.aimg fr.pc)
    have hflight := State.sendSummary_flight s (i := i) (seqWord fr.aimg fr.pc)
    rw [hdie, hcore] at hflight
    refine State.runs_evolves (execSummaryWaitEnd_sends hrun hheld hstall (by rw [hcore]; exact hfree))
      (State.sendSummary_evolves s i _) (State.within_self _) ⟨fun j hj => ?_, ?_, hflight⟩
    · rw [hfret, if_neg hj]
    · rw [hfret, if_pos rfl]
      exact Fret.summed_stall _ _
  · refine execSummaryWaitEnd_stays ?_
    rw [hcore]
    exact h
  · obtain ⟨hvid, hop, hfret, hd, hmask, htime⟩ := State.summaryRecord_fields s (i := i) w (Nat.lt_trans hlt (by decide))
    exact ⟨hvid, hop, hfret, hd.trans hdie, hmask, htime⟩
  · obtain ⟨c, hmail, htaken, hflight, hexec⟩ := execSummaryMailboxArrival_takes s f.die core take
    refine State.runs_evolves hexec (State.setCDie_evolves _ _ _) rfl ?_
    rw [State.cdie_setCDie_same, State.cdie_setCDie_other _ f.die.isLt]
    unfold CDie.takeMail
    rw [hmail, htaken]
    exact ⟨rfl, rfl, hflight, rfl⟩
  · exact State.runs_evolves (execStageReady_stages hnext hasked hheld hfree hreads) (State.setLane_evolves _ _ _) rfl
      ⟨fun j hj => State.lane_setLane_other s i j _ hj, State.lane_setLane_same s i _⟩
  · exact State.runs_evolves (execStageReady_fails hnext hasked hheld hfree hfails) (State.laneError_evolves s i r)
      (State.within_self _) (State.laneError_marks s i r)

end Sys2Proof.Machine

/-! Voicing loads (R100, R101, R114, R311): what a poisoned read leaves of the memories' map, fields of a register, and the three ends
of the load of one slot. -/

namespace Sys2Proof.Machine

/-! ### What a poisoned read leaves of the memories' map -/

/-- The poisoned sectors and the bands and tiers in the map are the same. -/
def Dram.sameMap (d e : Dram) : Prop :=
  e.poison = d.poison ∧ e.failed = d.failed ∧ ∀ tier band,
    (e.retired.any fun b => b.tier = tier && b.band = band && b.out) = d.retired.any fun b => b.tier = tier && b.band = band && b.out

theorem Dram.sameMap_refl (d : Dram) : d.sameMap d := ⟨rfl, rfl, fun _ _ => rfl⟩

theorem Dram.sameMap_trans {a b c : Dram} (h : a.sameMap b) (k : b.sameMap c) : a.sameMap c := by
  obtain ⟨hpoison, hfailed, hretired⟩ := h
  obtain ⟨kpoison, kfailed, kretired⟩ := k
  exact ⟨kpoison.trans hpoison, kfailed.trans hfailed, fun tier band => (kretired tier band).trans (hretired tier band)⟩

/-- A band that has just retired stays in the map until the next bring-up (R317). -/
theorem Dram.sameMap_retire (d : Dram) (tier band time : Nat) :
    d.sameMap { d with retired := d.retired ++ [⟨tier, band, time, false⟩] } :=
  ⟨rfl, rfl, fun _ _ => by simp⟩

/-- Both states agree in the memories' map. -/
def State.keepsMap (s t : State) : Prop := s.dram.sameMap t.dram

theorem State.keepsMap_refl (s : State) : s.keepsMap s := Dram.sameMap_refl _

theorem State.keepsMap_step {s t u : State} (k : t.keepsMap u) (h : s.keepsMap t) : s.keepsMap u := Dram.sameMap_trans h k

theorem State.keepsMap_evolves {s t u : State} {P : List Part} (k : t.evolves u P) (hP : P.contains .dram = false)
    (h : s.keepsMap t) : s.keepsMap u := by
  unfold State.keepsMap
  rw [k.1 .dram hP]
  exact h

theorem State.keepsMap_ite {s a b : State} {c : Prop} [Decidable c] (ha : s.keepsMap a) (hb : s.keepsMap b) :
    s.keepsMap (if c then a else b) := by
  split
  · exact ha
  · exact hb

theorem State.keepsMap_set_dram {s t : State} {d : Dram} (hd : t.dram.sameMap d) (h : s.keepsMap t) :
    s.keepsMap { t with dram := d } := Dram.sameMap_trans h hd

theorem State.rowEvent_keepsMap (s : State) (kind : Nat) (p : Place) : s.keepsMap (s.rowEvent kind p) :=
  State.keepsMap_evolves (State.rowEvent_evolves _ _ _) rfl (State.keepsMap_refl s)

theorem State.remapRow_keepsMap (s : State) (p : Place) (n : Nat) : s.keepsMap (s.remapRow p n) := by
  unfold State.remapRow
  refine State.keepsMap_evolves (State.bump_evolves _ _ _ _) rfl ?_
  exact State.keepsMap_set_dram ⟨rfl, rfl, fun _ _ => rfl⟩ (State.keepsMap_refl s)

theorem State.retireBank_keepsMap (s : State) (p : Place) : s.keepsMap (s.retireBank p) :=
  State.keepsMap_ite (State.keepsMap_refl s) (State.keepsMap_step (State.rowEvent_keepsMap _ _ _)
    (State.keepsMap_set_dram (Dram.sameMap_retire _ _ _ _) (State.keepsMap_refl s)))

theorem State.repeatFail_keepsMap (s : State) (p : Place) (spare : Option Nat) : s.keepsMap (s.repeatFail p spare) := by
  have hcounted := fun n => State.keepsMap_step (State.rowEvent_keepsMap { s with dram := { s.dram with repeats := n } } 4 p)
    (State.keepsMap_set_dram ⟨rfl, rfl, fun _ _ => rfl⟩ (State.keepsMap_refl s))
  have htold := fun n => State.keepsMap_ite (c := p.tier = 0)
    (State.keepsMap_evolves (State.bump_evolves _ (2 + chanDie 0 p.chan) Reg.hbmcRemapRepeatCount 1) rfl (hcounted n)) (hcounted n)
  unfold State.repeatFail
  dsimp only
  cases spare with
  | none => exact State.keepsMap_ite (State.keepsMap_step (State.retireBank_keepsMap _ _) (htold _)) (htold _)
  | some k =>
    have hmoved := fun n => State.keepsMap_evolves
      (State.flag_evolves _ (2 + chanDie p.tier p.chan) (tierStatus p.tier) (2 + p.tier)) rfl
      (State.keepsMap_step (State.remapRow_keepsMap _ p k) (htold n))
    exact State.keepsMap_ite (State.keepsMap_step (State.retireBank_keepsMap _ _) (hmoved _)) (hmoved _)

theorem State.rowFails_keepsMap (s : State) (p : Place) : s.keepsMap (s.rowFails p) := by
  have hmarked := fun n => State.keepsMap_set_dram (d := { s.dram with rowErrs := n }) ⟨rfl, rfl, fun _ _ => rfl⟩
    (State.keepsMap_refl s)
  unfold State.rowFails
  refine State.keepsMap_ite (State.keepsMap_step (State.repeatFail_keepsMap _ _ _) (hmarked _)) ?_
  split
  · exact State.keepsMap_step (State.rowEvent_keepsMap _ _ _) (State.keepsMap_step (State.remapRow_keepsMap _ _ _) (hmarked _))
  · exact State.keepsMap_step (State.repeatFail_keepsMap _ _ _) (hmarked _)

theorem State.retrainTrigger_keepsMap (s : State) (tier chan : Nat) (deferrable : Bool) :
    s.keepsMap (s.retrainTrigger tier chan deferrable) := by
  have h0 := State.keepsMap_refl s
  have hlisted : ∀ d : Dram, s.dram.sameMap d → s.keepsMap { s with dram := d } := fun _ hd => State.keepsMap_set_dram hd h0
  unfold State.retrainTrigger
  refine State.keepsMap_ite h0 (State.keepsMap_ite ?_ ?_)
  · exact State.keepsMap_ite h0 (hlisted _ ⟨rfl, rfl, fun _ _ => rfl⟩)
  · refine State.keepsMap_evolves (State.showSuspended_evolves _) rfl ?_
    refine State.keepsMap_evolves (State.showTraining_evolves _) rfl ?_
    refine State.keepsMap_evolves (State.breakAll_evolves _ _ _) rfl ?_
    exact State.keepsMap_ite (hlisted _ ⟨rfl, rfl, fun _ _ => rfl⟩) (hlisted _ ⟨rfl, rfl, fun _ _ => rfl⟩)

/-- An uncorrectable error of a sector that is poisoned already. -/
theorem State.uncorrectableError_keepsMap (s : State) {sector : Nat} (hsector : sector ∈ s.dram.poison) :
    s.keepsMap (s.uncorrectableError sector) := by
  have hmet : ∀ t : State, t.dram = s.dram → s.keepsMap (if t.dram.poison.contains sector then t
      else { t with dram := { t.dram with poison := t.dram.poison ++ [sector] } }) := by
    intro t ht
    rw [ht, if_pos (List.contains_iff_mem.mpr hsector)]
    unfold State.keepsMap
    rw [ht]
    exact Dram.sameMap_refl _
  have htrigger : ∀ (t : State) (c : Prop) [Decidable c] (tier chan : Nat), s.keepsMap t →
      s.keepsMap (if c then t.retrainTrigger tier chan false else t) := fun _ _ _ _ _ h =>
    State.keepsMap_ite (State.keepsMap_step (State.retrainTrigger_keepsMap _ _ _ _) h) h
  unfold State.uncorrectableError
  refine htrigger _ _ _ _ (State.keepsMap_step (State.rowFails_keepsMap _ _) (hmet _ ?_))
  have hcounted : ∀ (c : Prop) [Decidable c] (a b : State) , s.evolves a [.regs] → s.evolves b [.regs] →
      ∀ kind p, s.evolves ((if c then a else b).errLoc kind p) [.regs] := fun _ _ _ _ ha hb kind p =>
    State.evolves_step (State.errLoc_evolves _ kind p) (State.evolves_ite ha hb) rfl
  refine (hcounted _ _ _ ?_ ?_ _ _).1 .dram rfl
  · exact State.evolves_step (State.bump_evolves _ _ _ _) (State.flagCount_evolves _ _ _ _ _ _) rfl
  · exact State.evolves_step (State.bump_evolves _ _ _ _) (State.evolves_step (State.flagCount_evolves _ _ _ _ _ _)
      (State.flag_evolves _ _ _ _) rfl) rfl

theorem State.meetPoison_keepsMap (s : State) (a n : Nat) : s.keepsMap (s.meetPoison a n) := by
  have hmeet : ∀ (l : List Nat) (t : State), s.keepsMap t → (∀ q ∈ l, q ∈ s.dram.poison) →
      s.keepsMap (l.foldl State.uncorrectableError t) := by
    intro l
    induction l with
    | nil => exact fun t h _ => h
    | cons q l ih =>
      intro t h hl
      have hpoison := h.1
      refine ih _ (State.keepsMap_step (State.uncorrectableError_keepsMap t ?_) h) fun x hx => hl x (List.mem_cons_of_mem _ hx)
      rw [hpoison]
      exact hl q List.mem_cons_self
  exact hmeet _ s (State.keepsMap_refl s) fun q hq => (List.mem_filter.mp hq).1

section
variable {s t : State} (h : s.keepsMap t)
include h

theorem State.poisoned_of_keepsMap (a n : Nat) : t.poisoned a n = s.poisoned a n := by
  obtain ⟨hpoison, -, -⟩ := h
  unfold State.poisoned
  rw [hpoison]

theorem State.mappedRange_of_keepsMap (a n : Nat) : t.mappedRange a n = s.mappedRange a n := by
  obtain ⟨-, hfailed, hretired⟩ := h
  unfold State.mappedRange State.mapped State.bandOk
  simp only [hfailed, hretired]

end

theorem State.odNat_of_keepsSettings {s t : State} (h : s.keepsSettings t) (k : Nat) : t.odNat k = s.odNat k := by
  obtain ⟨hod, hbefore, -⟩ := h
  unfold State.odNat State.odBytes State.odWritten
  rw [hod, hbefore]

theorem State.imageAt_of_mem {s t : State} (h : t.mem = s.mem) (a : Nat) : t.imageAt a = s.imageAt a := by
  unfold State.imageAt
  rw [h]

/-! ### Fields of a register -/

theorem bits_testBit (v hi lo j : Nat) : (bits v hi lo).testBit j = (decide (j < hi + 1 - lo) && v.testBit (lo + j)) := by
  unfold bits pow2
  rw [Nat.one_shiftLeft, Nat.testBit_mod_two_pow, Nat.testBit_shiftRight]

/-- The bits of a field take the value's, and the others stay (R7). -/
theorem State.setField_testBit (s : State) (d n : Nat) {hi : Nat} (lo v j : Nat) (hhi : hi < 64) :
    ((s.setField d n hi lo v).reg d n).testBit j =
      if lo ≤ j ∧ j ≤ hi then v.testBit (j - lo) else (s.reg d n).testBit j := by
  have hlt := State.reg_lt s d n
  have hold : 64 ≤ j → (s.reg d n).testBit j = false := fun hj =>
    Nat.testBit_lt_two_pow (Nat.lt_of_lt_of_le (by simpa [pow2] using hlt) (Nat.pow_le_pow_right (by decide) hj))
  have hones : Nat.testBit 0xFFFFFFFFFFFFFFFF j = decide (j < 64) := Nat.testBit_two_pow_sub_one 64 j
  unfold State.setField
  simp only [pow2, Nat.one_shiftLeft]
  rw [State.reg_setReg_same, show (18446744073709551616 : Nat) = 2 ^ 64 from rfl, Nat.testBit_mod_two_pow, Nat.testBit_or,
    Nat.testBit_and, Nat.testBit_xor, hones, Nat.testBit_shiftLeft, Nat.testBit_shiftLeft, Nat.testBit_two_pow_sub_one,
    Nat.testBit_mod_two_pow]
  by_cases hin : lo ≤ j ∧ j ≤ hi
  · rw [if_pos hin]
    simp [show j < 64 by omega, show lo ≤ j by omega, show j - lo < hi + 1 - lo by omega]
  · rw [if_neg hin]
    have hout : (decide (j ≥ lo) && decide (j - lo < hi + 1 - lo)) = false := by
      rw [Bool.and_eq_false_iff, decide_eq_false_iff_not, decide_eq_false_iff_not]
      omega
    by_cases hj : j < 64
    · rw [hout, ← Bool.and_assoc, hout]
      simp [hj]
    · rw [hold (by omega)]
      simp [hj]

theorem State.bits_setField_same (s : State) (d n : Nat) {hi lo : Nat} (v : Nat) (hhi : hi < 64) (hlo : lo ≤ hi) :
    bits ((s.setField d n hi lo v).reg d n) hi lo = v % 2 ^ (hi + 1 - lo) := by
  refine Nat.eq_of_testBit_eq fun j => ?_
  rw [bits_testBit, State.setField_testBit _ _ _ _ _ _ hhi, Nat.testBit_mod_two_pow]
  by_cases hj : j < hi + 1 - lo
  · rw [if_pos (by omega), Nat.add_sub_cancel_left]
  · simp [hj]

theorem State.bits_setField_other (s : State) (d n : Nat) {hi lo hi' lo' : Nat} (v : Nat) (hhi : hi < 64)
    (h : hi' < lo ∨ hi < lo') : bits ((s.setField d n hi lo v).reg d n) hi' lo' = bits (s.reg d n) hi' lo' := by
  refine Nat.eq_of_testBit_eq fun j => ?_
  rw [bits_testBit, bits_testBit, State.setField_testBit _ _ _ _ _ _ hhi]
  by_cases hj : j < hi' + 1 - lo'
  · rw [if_neg (by omega)]
  · simp [hj]

theorem State.setField_onlyRegs {s t : State} {ks : List Nat} (h : s.onlyRegs t ks) (d n hi lo v : Nat) (hk : regKey d n ∈ ks) :
    s.onlyRegs (t.setField d n hi lo v) ks := State.onlyRegs_setReg h d n _ (List.contains_iff_mem.mpr hk)

/-! ### The slots of a fret -/

section
variable (f : Fret) (k : Nat)

@[simp] theorem Fret.st_setSt_same (v : Nat) : (f.setSt k v).st k = v := by
  unfold Fret.setSt Fret.st
  split <;> rfl

@[simp] theorem Fret.img_setSt (j v : Nat) : (f.setSt k v).img j = f.img j := by
  unfold Fret.setSt Fret.img
  split <;> split <;> rfl

@[simp] theorem Fret.st_setImg (j : Nat) (m : Img) : (f.setImg k m).st j = f.st j := by
  unfold Fret.setImg Fret.st
  split <;> split <;> rfl

@[simp] theorem Fret.img_setImg_same (m : Img) : (f.setImg k m).img k = m := by
  unfold Fret.setImg Fret.img
  split <;> rfl

@[simp] theorem Fret.st_setLast (j a : Nat) : (f.setLast k a).st j = f.st j := by
  unfold Fret.setLast Fret.st
  split <;> split <;> rfl

@[simp] theorem Fret.img_setLast (j a : Nat) : (f.setLast k a).img j = f.img j := by
  unfold Fret.setLast Fret.img
  split <;> split <;> rfl

/-- The other slot, of the two. -/
theorem Fret.st_setSt_other {j k : Nat} (hj : j < 2) (hk : k < 2) (hne : j ≠ k) (v : Nat) : (f.setSt k v).st j = f.st j := by
  obtain ⟨rfl, rfl⟩ | ⟨rfl, rfl⟩ : j = 0 ∧ k = 1 ∨ j = 1 ∧ k = 0 := by omega
  · rfl
  · rfl

theorem Fret.img_setImg_other {j k : Nat} (hj : j < 2) (hk : k < 2) (hne : j ≠ k) (m : Img) : (f.setImg k m).img j = f.img j := by
  obtain ⟨rfl, rfl⟩ | ⟨rfl, rfl⟩ : j = 0 ∧ k = 1 ∨ j = 1 ∧ k = 0 := by omega
  · rfl
  · rfl

end

/-- What a load leaves of a fret: the active slot's number and the data (R101, R102). -/
def Fret.loadFrame (f g : Fret) : Prop := g.active = f.active ∧ g.sram = f.sram ∧ g.acc = f.acc

theorem Fret.loadFrame_trans {f g h : Fret} (hfg : f.loadFrame g) (hgh : g.loadFrame h) : f.loadFrame h := by
  obtain ⟨hactive, hsram, hacc⟩ := hfg
  obtain ⟨kactive, ksram, kacc⟩ := hgh
  exact ⟨kactive.trans hactive, ksram.trans hsram, kacc.trans hacc⟩

theorem Fret.loadFrame_setSt (f : Fret) (k v : Nat) : f.loadFrame (f.setSt k v) := by
  unfold Fret.setSt
  split <;> exact ⟨rfl, rfl, rfl⟩

theorem Fret.loadFrame_setImg (f : Fret) (k : Nat) (m : Img) : f.loadFrame (f.setImg k m) := by
  unfold Fret.setImg
  split <;> exact ⟨rfl, rfl, rfl⟩

theorem Fret.loadFrame_setLast (f : Fret) (k a : Nat) : f.loadFrame (f.setLast k a) := by
  unfold Fret.setLast
  split <;> exact ⟨rfl, rfl, rfl⟩

/-- A slot takes an image. -/
def Fret.takeImage (f : Fret) (k a : Nat) (m : Img) : Fret := ((f.setImg k m).setSt k 2).setLast k a

theorem Fret.loadFrame_emptySlot (f : Fret) (k : Nat) : f.loadFrame (f.emptySlot k) :=
  Fret.loadFrame_trans (Fret.loadFrame_setImg f k []) (Fret.loadFrame_setSt _ k 0)

theorem Fret.loadFrame_takeImage (f : Fret) (k a : Nat) (m : Img) : f.loadFrame (f.takeImage k a m) :=
  Fret.loadFrame_trans (Fret.loadFrame_trans (Fret.loadFrame_setImg f k m) (Fret.loadFrame_setSt _ k 2)) (Fret.loadFrame_setLast _ k a)

theorem Fret.st_emptySlot (f : Fret) (k : Nat) : (f.emptySlot k).st k = 0 := Fret.st_setSt_same _ _ _

theorem Fret.st_takeImage (f : Fret) (k a : Nat) (m : Img) : (f.takeImage k a m).st k = 2 := by simp [Fret.takeImage]

theorem Fret.img_takeImage (f : Fret) (k a : Nat) (m : Img) : (f.takeImage k a m).img k = m := by simp [Fret.takeImage]

/-! ### The three ends of the load of one slot (R100, R178) -/

/-- The first check of a load that fails, 0 for none. -/
def State.loadBad (s : State) (i addr : Nat) (img : Img) (ue : Bool) : Nat :=
  loadCheck img (s.odNat (od 0x2100 5)) (fretCol i) (fretRow i) (ue || s.poisoned addr 16384 || !s.mappedRange addr 16384)

/-- Does a table of the image clash with the one that the die holds for its table_set? -/
def State.tableClash (s : State) (i : Nat) (img : Img) : Prop :=
  (Voicing.of img).tableSet ≠ 0 ∧ SMap.get 0 (s.cdie (i / 384)).tables (Voicing.of img).tableSet ≠ 0
    ∧ SMap.get 0 (s.cdie (i / 384)).tables (Voicing.of img).tableSet ≠ tableCrc img + 1

/-- The library is none of the dies' units. -/
theorem State.cdie_updBoard_lib (s : State) (lib : Board → SMap Nat) (d : Nat) :
    (s.updBoard fun b => { b with lib := lib b }).cdie d = s.cdie d := rfl

theorem State.cdie_load_setTables (s : State) (d e : Nat) (tables : SMap Nat) :
    ((s.setCDie d { s.cdie d with tables := tables }).cdie e).load = (s.cdie e).load := by
  unfold State.cdie State.setCDie
  by_cases hd : d = 0 <;> by_cases he : e = 0 <;> simp [hd, he]

theorem State.sweepTables_load (s : State) (d e : Nat) : ((s.sweepTables d).cdie e).load = (s.cdie e).load :=
  State.cdie_load_setTables _ _ _ _

section
variable {s : State} {i k addr : Nat} {img : Img} {ue : Bool}

theorem State.finishLoad_bad (h : s.loadBad i addr img ue ≠ 0) : s.finishLoad i k addr img ue =
    (s.loadBad i addr img ue, (s.updFret i (·.emptySlot k)).flag (i / 384) Reg.fretStatus 0) := if_pos h

theorem State.finishLoad_clash (h : s.loadBad i addr img ue = 0) (hclash : s.tableClash i img) : s.finishLoad i k addr img ue =
    (0, ((s.updFret i (·.emptySlot k)).flag (i / 384) Reg.epuStatus 1).bump (i / 384) Reg.epuTableMismatchCount 1) := by
  obtain ⟨hset, hentry, hcrc⟩ := hclash
  refine (if_neg (by simpa [State.loadBad] using h)).trans (if_pos ?_)
  simp [hset, hentry, hcrc]

/-- A clean load: the slot takes the image, and no register changes. -/
theorem State.finishLoad_clean (h : s.loadBad i addr img ue = 0) (hclash : ¬ s.tableClash i img) :
    (s.finishLoad i k addr img ue).1 = 0 ∧ (s.finishLoad i k addr img ue).2.fret i = (s.fret i).takeImage k addr img := by
  have hgood : ¬ loadCheck img (s.odNat (od 0x2100 5)) (fretCol i) (fretRow i)
      (ue || s.poisoned addr 16384 || !s.mappedRange addr 16384) ≠ 0 := by simpa [State.loadBad] using h
  unfold State.tableClash at hclash
  unfold State.finishLoad
  simp only [if_neg hgood]
  rw [if_neg (by simpa [and_assoc] using hclash)]
  refine ⟨rfl, ?_⟩
  rw [State.fret_updBoard, State.fret_updFret_same]
  split
  · rfl
  · rw [State.fret_setCDie]
    rfl

theorem State.finishLoad_frame : (s.fret i).loadFrame ((s.finishLoad i k addr img ue).2.fret i) := by
  rcases (State.finishLoad_fret s i k addr img ue).2 with h | h
  · rw [h]
    exact Fret.loadFrame_emptySlot _ _
  · rw [h]
    exact Fret.loadFrame_takeImage _ _ _ _

/-- The load that the die has in progress stays, whatever the load of one slot ends in. -/
theorem State.finishLoad_load (d : Nat) : ((s.finishLoad i k addr img ue).2.cdie d).load = (s.cdie d).load := by
  unfold State.finishLoad
  dsimp only
  split
  · rfl
  · split
    · rfl
    · rw [State.cdie_updBoard_lib, State.cdie_of_board ((State.updFret_evolves _ _ _).1 .board rfl)]
      split
      · rfl
      · exact State.cdie_load_setTables _ _ _ _

end

end Sys2Proof.Machine

/-! VOICING_LOAD and VOICING_LOAD_DONE (R100, R101, R114, R311, R425). -/

namespace Sys2Proof.Machine

/-! ### Starts of loads -/

/-- A load has started into the shadow slot: the slot loads, the other slot and the active slot's number stay. -/
def Fret.shadowLoads (f g : Fret) : Prop :=
  g.st f.shadow = 1 ∧ g.active = f.active ∧ g.img (1 - f.shadow) = f.img (1 - f.shadow)

theorem Fret.shadow_lt (f : Fret) : f.shadow < 2 := by
  unfold Fret.shadow
  split <;> decide

theorem Fret.shadow_of_active {f g : Fret} (h : g.active = f.active) : g.shadow = f.shadow := by
  unfold Fret.shadow
  rw [h]

theorem Fret.startLoad_shadowLoads (f : Fret) : f.shadowLoads f.startLoad := by
  have hlt := f.shadow_lt
  refine ⟨?_, Fret.startLoad_active f, ?_⟩
  · exact Fret.st_setSt_same _ _ _
  · have hreload : f.startLoad.img (1 - f.shadow) = ((f.setImg f.shadow []).setSt f.shadow 1).img (1 - f.shadow) := rfl
    rw [hreload, Fret.img_setSt, Fret.img_setImg_other _ (by omega) hlt (by omega)]

/-- Loads start for every fret of a list, and for no other. -/
theorem State.fret_foldl_startLoad (l : List (Nat × Nat)) (s : State) (i : Nat) :
    (i ∉ l.map (·.1) → (l.foldl (fun s x => s.updFret x.1 Fret.startLoad) s).fret i = s.fret i)
    ∧ (i ∈ l.map (·.1) → (s.fret i).shadowLoads ((l.foldl (fun s x => s.updFret x.1 Fret.startLoad) s).fret i)) := by
  induction l generalizing s with
  | nil => simp
  | cons x l ih =>
    obtain ⟨hout, hin⟩ := ih (s.updFret x.1 Fret.startLoad)
    simp only [List.foldl_cons, List.map_cons, List.mem_cons, not_or]
    by_cases hx : i = x.1
    · subst hx
      rw [State.fret_updFret_same] at hout hin
      refine ⟨fun h => absurd rfl h.1, fun _ => ?_⟩
      by_cases hl : x.1 ∈ l.map (·.1)
      · obtain ⟨kst, kactive, kimg⟩ := hin hl
        obtain ⟨hst, hactive, himg⟩ := (s.fret x.1).startLoad_shadowLoads
        rw [Fret.shadow_of_active hactive] at kst kimg
        exact ⟨kst, kactive.trans hactive, kimg.trans himg⟩
      · rw [hout hl]
        exact Fret.startLoad_shadowLoads _
    · rw [State.fret_updFret_other _ _ _ _ hx] at hout hin
      exact ⟨fun h => hout h.2, fun h => hin (h.resolve_left hx)⟩

theorem State.foldl_startLoad_evolves (l : List (Nat × Nat)) (s : State) :
    s.evolves (l.foldl (fun s x => s.updFret x.1 Fret.startLoad) s) [.frets] :=
  State.evolves_foldl (State.evolves_refl _ _) fun _ _ h => State.evolves_step (State.updFret_evolves _ _ _) h rfl

/-- The load that a write of FRET.LOAD_CTRL asks for. -/
def State.loadOf (s : State) (d v : Nat) : VLoad :=
  let a := s.reg d Reg.fretLoadAddr
  ⟨a, bits v 1 1 = 1, bits v 12 9, bits v 8 4, s.time, s.imageAt a, (loadTargets d v).map fun i => (i, (s.fret i).shadow)⟩

/-- The load is in progress, and its slots load. -/
def State.loadStarted (s : State) (d v : Nat) : State :=
  let l := s.loadOf d v
  let m := (s.setReg d Reg.fretLoadCtrl (v &&& 0x1FF2)).flag d Reg.fretLoadStatus 0
  (l.slots.foldl (fun s x => s.updFret x.1 Fret.startLoad) (m.setCDie d { m.cdie d with load := some l })).sweepTables d

section
variable {s : State} {d v : Nat} (hheld : s.held d 0 = false)
include hheld

theorem State.loadCtrl_busy (hstart : v % 2 = 1) (hbusy : s.reg d Reg.fretLoadStatus % 2 = 1) :
    s.loadCtrl d v = s.flag d Reg.fretLoadStatus 2 := by
  unfold State.loadCtrl
  rw [hheld, if_neg Bool.false_ne_true, if_pos (by simp [hstart, hbusy])]

variable (hfree : ¬ (v % 2 = 1 ∧ s.reg d Reg.fretLoadStatus % 2 = 1))
include hfree

theorem State.loadCtrl_written (hno : v % 2 = 0 ∨ ((s.loadOf d v).broadcast = false ∧ 24 ≤ (s.loadOf d v).row)) :
    s.loadCtrl d v = s.setReg d Reg.fretLoadCtrl (v &&& 0x1FF2) := by
  unfold State.loadCtrl
  rw [hheld, if_neg Bool.false_ne_true, if_neg (by simpa using hfree)]
  refine if_pos ?_
  simpa [State.loadOf] using hno

theorem State.loadCtrl_starts (hstart : v % 2 = 1) (hrow : (s.loadOf d v).broadcast = true ∨ (s.loadOf d v).row < 24) :
    s.loadCtrl d v = s.loadStarted d v := by
  have haddr : (s.setReg d Reg.fretLoadCtrl (v &&& 0x1FF2)).reg d Reg.fretLoadAddr = s.reg d Reg.fretLoadAddr :=
    State.reg_setReg_other _ _ _ _ _ _ (regKey_ne d (by decide))
  have hload : (s.setReg d Reg.fretLoadCtrl (v &&& 0x1FF2)).loadOf d v = s.loadOf d v := by
    unfold State.loadOf
    rw [haddr]
    rfl
  unfold State.loadCtrl
  rw [hheld, if_neg Bool.false_ne_true, if_neg (by simpa using hfree)]
  refine (if_neg ?_).trans ?_
  · simp [State.loadOf] at hrow
    simp [hstart]
    exact fun h => (hrow.resolve_left h)
  · unfold State.loadStarted
    rw [← hload]
    rfl

end

section
variable (s : State) (d v : Nat)

theorem State.loadStarted_evolves : s.evolves (s.loadStarted d v) [.regs, .frets, .board] := by
  unfold State.loadStarted
  refine State.evolves_step (State.sweepTables_evolves _ _) ?_ rfl
  refine State.evolves_step (State.foldl_startLoad_evolves _ _) ?_ rfl
  refine State.evolves_step (State.setCDie_evolves _ _ _) ?_ rfl
  exact State.evolves_step (State.flag_evolves _ _ _ _) (State.evolves_wider (State.setReg_evolves _ _ _ _) rfl) rfl

theorem State.loadStarted_load : ((s.loadStarted d v).cdie d).load = some (s.loadOf d v) := by
  unfold State.loadStarted
  rw [State.sweepTables_load, State.cdie_of_board ((State.foldl_startLoad_evolves _ _).1 .board rfl), State.cdie_setCDie_same]

theorem State.loadStarted_cdie (hd : d < 2) : (s.loadStarted d v).cdie (1 - d) = s.cdie (1 - d) := by
  unfold State.loadStarted State.sweepTables
  dsimp only
  rw [State.cdie_setCDie_other _ hd, State.cdie_of_board ((State.foldl_startLoad_evolves _ _).1 .board rfl),
    State.cdie_setCDie_other _ hd]
  rfl

theorem State.loadStarted_regs :
    (s.loadStarted d v).regs = ((s.setReg d Reg.fretLoadCtrl (v &&& 0x1FF2)).flag d Reg.fretLoadStatus 0).regs := by
  unfold State.loadStarted
  rw [(State.sweepTables_evolves _ _).1 .regs rfl, (State.foldl_startLoad_evolves _ _).1 .regs rfl]
  rfl

theorem State.loadStarted_fret (i : Nat) : (i ∉ loadTargets d v → (s.loadStarted d v).fret i = s.fret i)
    ∧ (i ∈ loadTargets d v → (s.fret i).shadowLoads ((s.loadStarted d v).fret i)) := by
  have hfold := State.fret_foldl_startLoad (s.loadOf d v).slots
    (((s.setReg d Reg.fretLoadCtrl (v &&& 0x1FF2)).flag d Reg.fretLoadStatus 0).setCDie d
      { ((s.setReg d Reg.fretLoadCtrl (v &&& 0x1FF2)).flag d Reg.fretLoadStatus 0).cdie d with load := some (s.loadOf d v) }) i
  have hslots : (s.loadOf d v).slots.map (·.1) = loadTargets d v := by simp [State.loadOf, Function.comp_def]
  rw [hslots] at hfold
  unfold State.loadStarted
  rw [State.fret_evolves (State.sweepTables_evolves _ _) rfl]
  exact hfold

end

/-! ### Ends of loads -/

/-- The load is in progress no more, and its image's bytes have been read (R101, R311). -/
def State.loadRead (s : State) (d : Nat) (l : VLoad) : State :=
  (s.setCDie d { s.cdie d with load := none }).meetPoison l.addr 16384

/-- FRET.LOAD_STATUS after a load: ended, not busy, and the first check that failed with its place (R114). -/
def State.loadTold (s : State) (d : Nat) (bad : Option (Nat × Nat)) : State :=
  let s := (s.setField d Reg.fretLoadStatus 0 0 0).flag d Reg.fretLoadStatus 1
  match bad with
  | none => s.setField d Reg.fretLoadStatus 19 16 0
  | some e =>
    ((s.setField d Reg.fretLoadStatus 19 16 e.1).setField d Reg.fretLoadStatus 11 8 (fretCol e.2)).setField d
      Reg.fretLoadStatus 7 3 (fretRow e.2)

/-- The image that the end of the load reads. -/
def State.loadImg (s : State) (l : VLoad) : Img := readImage l.start l.read (s.imageAt l.addr)

/-- The load of one slot ends: the first check that fails, and the state. -/
def State.slotEnd (s : State) (d i k : Nat) (l : VLoad) (ue : Bool) : Nat × State :=
  (s.loadRead d l).finishLoad i k l.addr (s.loadImg l) ue

/-- The end of a load of one slot of one fret. -/
def State.loadEnded (s : State) (d i k : Nat) (l : VLoad) (ue : Bool) : State :=
  ((s.slotEnd d i k l ue).2.sweepTables d).loadTold d
    (if (s.slotEnd d i k l ue).1 = 0 then none else some ((s.slotEnd d i k l ue).1, i))

theorem execVoicingLoadDone_stays (s : State) (die : Fin 2) (ue : Bool)
    (h : ∀ l, (s.cdie die.val).load = some l → s.held die.val 0 = true ∨ s.spansWait [(l.addr, 16384, false)] = true) :
    s.stays (.voicingLoadDone die ue) := by
  refine congrArg Host.Outcome.next ?_
  dsimp only
  split
  · rfl
  · next l hl => exact if_pos (by simpa using h l hl)

theorem State.loadRead_fret (s : State) (d : Nat) (l : VLoad) (i : Nat) : (s.loadRead d l).fret i = s.fret i :=
  State.fret_evolves (State.meetPoison_evolves _ _ _) rfl i

theorem State.loadRead_imageAt (s : State) (d : Nat) (l : VLoad) (a : Nat) : (s.loadRead d l).imageAt a = s.imageAt a :=
  State.imageAt_of_mem ((State.meetPoison_evolves (s.setCDie d { s.cdie d with load := none }) l.addr 16384).1 .mem rfl) a

section
variable {s : State} {die : Fin 2} {l : VLoad} {i k : Nat} (ue : Bool) (hload : (s.cdie die.val).load = some l)
  (hslots : l.slots = [(i, k)]) (hheld : s.held die.val 0 = false) (hwait : s.spansWait [(l.addr, 16384, false)] = false)
  (hst : (s.fret i).st k = 1) (hreload : (s.fret i).reload.contains k = false)

include hload hslots hheld hwait hst hreload in
theorem execVoicingLoadDone_ends : exec (.voicingLoadDone die ue) s = .next (s.loadEnded die.val i k l ue) := by
  refine congrArg Host.Outcome.next ?_
  have hfret := State.loadRead_fret s die.val l i
  have himg := State.loadRead_imageAt s die.val l l.addr
  unfold State.loadRead at hfret himg
  simp only [hload, hheld, hwait, hslots, Bool.or_self, Bool.false_eq_true, if_false, List.foldl_cons, List.foldl_nil, hfret, hst,
    hreload, ne_eq, not_true_eq_false, decide_false, Option.isSome_none, Bool.false_or, decide_eq_true_eq, himg]
  unfold State.loadEnded State.slotEnd State.loadImg State.loadTold State.loadRead
  generalize (if _ = 0 then none else some _ : Option (Nat × Nat)) = bad
  cases bad <;> rfl

end

theorem State.flag_testBit_other (s : State) (d n : Nat) {bit j : Nat} (hj : j < 64) (hne : j ≠ bit) :
    ((s.flag d n bit).reg d n).testBit j = (s.reg d n).testBit j := by
  unfold State.flag State.orReg
  rw [State.reg_setReg_same, show (18446744073709551616 : Nat) = 2 ^ 64 from rfl, Nat.testBit_mod_two_pow, Nat.testBit_or, pow2,
    Nat.one_shiftLeft, Nat.testBit_two_pow_of_ne (Ne.symm hne)]
  simp [hj]

section
variable (s : State) (d : Nat) (bad : Option (Nat × Nat))

theorem State.loadTold_evolves : s.evolves (s.loadTold d bad) [.regs] := by
  have hended : s.evolves ((s.setField d Reg.fretLoadStatus 0 0 0).flag d Reg.fretLoadStatus 1) [.regs] :=
    State.evolves_step (State.flag_evolves _ _ _ _) (State.setField_evolves _ _ _ _ _ _) rfl
  have hfield := fun {t : State} hi lo v (h : s.evolves t [.regs]) =>
    State.evolves_step (State.setField_evolves t d Reg.fretLoadStatus hi lo v) h rfl
  unfold State.loadTold
  cases bad with
  | none => exact hfield 19 16 0 hended
  | some e => exact hfield _ _ _ (hfield _ _ _ (hfield _ _ _ hended))

theorem State.loadTold_onlyRegs : s.onlyRegs (s.loadTold d bad) [regKey d Reg.fretLoadStatus] := by
  have hfield := fun {t : State} hi lo v (h : s.onlyRegs t [regKey d Reg.fretLoadStatus]) =>
    State.setField_onlyRegs h d Reg.fretLoadStatus hi lo v List.mem_cons_self
  have hended := State.onlyRegs_orReg (hfield 0 0 0 (State.onlyRegs_refl s _)) d Reg.fretLoadStatus (pow2 1)
    (List.contains_iff_mem.mpr List.mem_cons_self)
  unfold State.loadTold
  cases bad with
  | none => exact hfield 19 16 0 hended
  | some e => exact hfield _ _ _ (hfield _ _ _ (hfield _ _ _ hended))

/-- The end of a load: the load is not busy and has ended. -/
theorem State.loadTold_bits : ((s.loadTold d bad).reg d Reg.fretLoadStatus).testBit 0 = false
    ∧ ((s.loadTold d bad).reg d Reg.fretLoadStatus).testBit 1 = true := by
  have hended := State.flag_testBit (s.setField d Reg.fretLoadStatus 0 0 0) d Reg.fretLoadStatus 1 (by decide)
  have hfree : (((s.setField d Reg.fretLoadStatus 0 0 0).flag d Reg.fretLoadStatus 1).reg d Reg.fretLoadStatus).testBit 0 = false := by
    rw [State.flag_testBit_other _ _ _ (by decide) (by decide), State.setField_testBit _ _ _ _ _ _ (by decide)]
    rfl
  have hfield : ∀ (t : State) (hi lo v j : Nat), hi < 64 → j < lo →
      ((t.setField d Reg.fretLoadStatus hi lo v).reg d Reg.fretLoadStatus).testBit j = (t.reg d Reg.fretLoadStatus).testBit j :=
    fun t hi lo v j hhi hlo => (State.setField_testBit t d _ lo v j hhi).trans (if_neg (by omega))
  unfold State.loadTold
  cases bad with
  | none =>
    dsimp only
    exact ⟨(hfield _ _ _ _ _ (by decide) (by decide)).trans hfree, (hfield _ _ _ _ _ (by decide) (by decide)).trans hended⟩
  | some e =>
    dsimp only
    have hkeep := fun j (hj : j < 3) => (hfield (((((s.setField d Reg.fretLoadStatus 0 0 0).flag d Reg.fretLoadStatus 1).setField d
      Reg.fretLoadStatus 19 16 e.1).setField d Reg.fretLoadStatus 11 8 (fretCol e.2))) 7 3 (fretRow e.2) j (by decide) hj).trans
      ((hfield _ 11 8 _ j (by decide) (by omega)).trans (hfield _ 19 16 _ j (by decide) (by omega)))
    exact ⟨(hkeep 0 (by decide)).trans hfree, (hkeep 1 (by decide)).trans hended⟩

theorem State.loadTold_clean : bits ((s.loadTold d none).reg d Reg.fretLoadStatus) 19 16 = 0 :=
  State.bits_setField_same _ _ _ _ (by decide) (by decide)

/-- The first check that failed, and the column and the row of its fret. -/
theorem State.loadTold_bad (code i : Nat) :
    bits ((s.loadTold d (some (code, i))).reg d Reg.fretLoadStatus) 19 16 = code % 16
    ∧ bits ((s.loadTold d (some (code, i))).reg d Reg.fretLoadStatus) 11 8 = fretCol i
    ∧ bits ((s.loadTold d (some (code, i))).reg d Reg.fretLoadStatus) 7 3 = fretRow i := by
  have hcol : fretCol i < 16 := by
    unfold fretCol
    omega
  have hrow : fretRow i < 24 := by
    unfold fretRow
    omega
  unfold State.loadTold
  dsimp only
  refine ⟨?_, ?_, ?_⟩
  · rw [State.bits_setField_other _ _ _ _ (by decide) (by decide), State.bits_setField_other _ _ _ _ (by decide) (by decide)]
    exact State.bits_setField_same _ _ _ _ (by decide) (by decide)
  · rw [State.bits_setField_other _ _ _ _ (by decide) (by decide), State.bits_setField_same _ _ _ _ (by decide) (by decide)]
    exact Nat.mod_eq_of_lt hcol
  · rw [State.bits_setField_same _ _ _ _ (by decide) (by decide)]
    exact Nat.mod_eq_of_lt (by omega)

end

section
variable (s : State) (d : Nat) (l : VLoad)

theorem State.loadRead_evolves : s.evolves (s.loadRead d l) [.regs, .board, .dram, .fab, .vlk, .adm, .dict, .life] :=
  State.evolves_step (State.meetPoison_evolves _ _ _) (State.evolves_wider (State.setCDie_evolves _ _ _) rfl) rfl

theorem State.loadRead_cdie : (s.loadRead d l).cdie d = { s.cdie d with load := none } := by
  unfold State.loadRead
  rw [State.cdie_of_board ((State.meetPoison_evolves _ _ _).1 .board rfl), State.cdie_setCDie_same]

theorem State.loadRead_reg {n : Nat} (hd : d < 2) (hn : n < 0x200000) : (s.loadRead d l).reg d n = s.reg d n :=
  State.reg_of_keepsNear (State.meetPoison_keepsNear (s.setCDie d { s.cdie d with load := none }) _ _) (nearKey_compute hd hn)

/-- The reading meets poison, and the checks see the same bytes, settings and map as before. -/
theorem State.loadRead_loadBad (i : Nat) (img : Img) (ue : Bool) :
    (s.loadRead d l).loadBad i l.addr img ue = s.loadBad i l.addr img ue := by
  have hmap : s.keepsMap (s.loadRead d l) := State.meetPoison_keepsMap (s.setCDie d { s.cdie d with load := none }) _ _
  have hset : s.keepsSettings (s.loadRead d l) :=
    State.meetPoison_keepsSettings (s.setCDie d { s.cdie d with load := none }) _ _
  unfold State.loadBad
  rw [State.odNat_of_keepsSettings hset, State.poisoned_of_keepsMap hmap, State.mappedRange_of_keepsMap hmap]

theorem State.loadRead_tableClash {i : Nat} (hi : i / 384 = d) (img : Img) :
    (s.loadRead d l).tableClash i img ↔ s.tableClash i img := by
  unfold State.tableClash
  rw [hi, State.loadRead_cdie]

end

section
variable (s : State) {d i : Nat} (k : Nat) (l : VLoad) (ue : Bool)

theorem State.loadEnded_evolves : s.evolves (s.loadEnded d i k l ue)
    [.regs, .frets, .board, .dram, .fab, .vlk, .adm, .dict, .life] := by
  unfold State.loadEnded
  refine State.evolves_step (State.loadTold_evolves _ _ _) ?_ rfl
  refine State.evolves_step (State.sweepTables_evolves _ _) ?_ rfl
  exact State.evolves_step (State.finishLoad_evolves _ _ _ _ _ _) (State.evolves_wider (State.loadRead_evolves _ _ _) rfl) rfl

theorem State.loadEnded_load : ((s.loadEnded d i k l ue).cdie d).load = none := by
  unfold State.loadEnded
  rw [State.cdie_of_board ((State.loadTold_evolves _ _ _).1 .board rfl), State.sweepTables_load, State.slotEnd,
    State.finishLoad_load,
    State.loadRead_cdie]

theorem State.loadEnded_fret (j : Nat) : (s.loadEnded d i k l ue).fret j
    = (s.slotEnd d i k l ue).2.fret j := by
  unfold State.loadEnded
  rw [State.fret_evolves (State.loadTold_evolves _ _ _) rfl, State.fret_evolves (State.sweepTables_evolves _ _) rfl]

theorem State.loadEnded_onlyFret : s.onlyFret (s.loadEnded d i k l ue) i := by
  intro j hj
  rw [State.loadEnded_fret, State.slotEnd, (State.finishLoad_fret _ i k l.addr _ ue).1 j hj, State.loadRead_fret]

theorem State.loadEnded_frame : (s.fret i).loadFrame ((s.loadEnded d i k l ue).fret i) := by
  rw [State.loadEnded_fret, ← State.loadRead_fret s d l i]
  exact State.finishLoad_frame

/-- Of the registers, FRET.LOAD_STATUS is written after the slot's load has ended. -/
theorem State.loadEnded_reg {n : Nat} (hn : n ≠ Reg.fretLoadStatus) : (s.loadEnded d i k l ue).reg d n
    = (s.slotEnd d i k l ue).2.reg d n := by
  unfold State.loadEnded
  rw [State.reg_of_onlyRegs (State.loadTold_onlyRegs _ _ _) (by simpa [regKey_same] using hn),
    State.reg_of_regs ((State.sweepTables_evolves _ _).1 .regs rfl)]

theorem State.loadEnded_bits : (s.loadEnded d i k l ue).reg d Reg.fretLoadStatus % 2 = 0
    ∧ ((s.loadEnded d i k l ue).reg d Reg.fretLoadStatus).testBit 1 = true := by
  obtain ⟨hbusy, hended⟩ := State.loadTold_bits ((s.slotEnd d i k l ue).2.sweepTables d) d
    (if (s.slotEnd d i k l ue).1 = 0 then none else some ((s.slotEnd d i k l ue).1, i))
  exact ⟨Nat.mod_two_eq_zero_iff_testBit_zero.mpr hbusy, hended⟩

theorem State.loadEnded_bad (hbad : s.loadBad i l.addr (s.loadImg l) ue ≠ 0) (hi : i / 384 = d) :
    bits ((s.loadEnded d i k l ue).reg d Reg.fretLoadStatus) 19 16 = s.loadBad i l.addr (s.loadImg l) ue % 16
    ∧ ((s.loadEnded d i k l ue).fret i).st k = 0 ∧ ((s.loadEnded d i k l ue).reg d Reg.fretStatus).testBit 0 = true
    ∧ bits ((s.loadEnded d i k l ue).reg d Reg.fretLoadStatus) 11 8 = fretCol i
    ∧ bits ((s.loadEnded d i k l ue).reg d Reg.fretLoadStatus) 7 3 = fretRow i := by
  have hmet : (s.loadRead d l).loadBad i l.addr (s.loadImg l) ue ≠ 0 := by
    rw [State.loadRead_loadBad]
    exact hbad
  have hend : s.slotEnd d i k l ue = (s.loadBad i l.addr (s.loadImg l) ue,
      ((s.loadRead d l).updFret i (·.emptySlot k)).flag (i / 384) Reg.fretStatus 0) := by
    rw [← State.loadRead_loadBad s d]
    exact State.finishLoad_bad hmet
  have hended : s.loadEnded d i k l ue = ((s.slotEnd d i k l ue).2.sweepTables d).loadTold d
      (some (s.loadBad i l.addr (s.loadImg l) ue, i)) := by
    unfold State.loadEnded
    rw [hend, if_neg hbad]
  obtain ⟨hcode, hcol, hrow⟩ := State.loadTold_bad ((s.slotEnd d i k l ue).2.sweepTables d) d
    (s.loadBad i l.addr (s.loadImg l) ue) i
  rw [← hended] at hcode hcol hrow
  refine ⟨hcode, ?_, ?_, hcol, hrow⟩
  · rw [State.loadEnded_fret, hend, State.fret_flag, State.fret_updFret_same]
    exact Fret.st_emptySlot _ _
  · rw [State.loadEnded_reg _ _ _ _ (by decide), hend, hi]
    exact State.flag_testBit _ _ _ _ (by decide)

theorem State.loadEnded_good (hbad : s.loadBad i l.addr (s.loadImg l) ue = 0) :
    bits ((s.loadEnded d i k l ue).reg d Reg.fretLoadStatus) 19 16 = 0 := by
  have hcode : (s.slotEnd d i k l ue).1 = 0 := by
    unfold State.slotEnd
    have hmet := (State.loadRead_loadBad s d l i (s.loadImg l) ue).trans hbad
    by_cases hclash : (s.loadRead d l).tableClash i (s.loadImg l)
    · rw [State.finishLoad_clash hmet hclash]
    · exact (State.finishLoad_clean hmet hclash).1
  rw [State.loadEnded, if_pos hcode]
  exact State.loadTold_clean _ _

theorem State.loadEnded_clash (hbad : s.loadBad i l.addr (s.loadImg l) ue = 0) (hclash : s.tableClash i (s.loadImg l))
    (hi : i / 384 = d) (hd : d < 2) : ((s.loadEnded d i k l ue).fret i).st k = 0
    ∧ ((s.loadEnded d i k l ue).reg d Reg.epuStatus).testBit 1 = true
    ∧ (s.loadEnded d i k l ue).reg d Reg.epuTableMismatchCount = cap32 (s.reg d Reg.epuTableMismatchCount + 1) := by
  have hmet := (State.loadRead_loadBad s d l i (s.loadImg l) ue).trans hbad
  rw [State.loadEnded_fret, State.loadEnded_reg _ _ _ _ (by decide), State.loadEnded_reg _ _ _ _ (by decide),
    State.slotEnd, State.finishLoad_clash hmet ((State.loadRead_tableClash s d l hi _).mpr hclash), hi]
  refine ⟨?_, ?_, ?_⟩
  · rw [State.fret_bump, State.fret_flag, State.fret_updFret_same]
    exact Fret.st_emptySlot _ _
  · rw [State.reg_bump_other _ _ _ _ _ _ (regKey_ne d (by decide))]
    exact State.flag_testBit _ _ _ _ (by decide)
  · rw [State.reg_bump_same, State.reg_flag_other _ _ _ _ _ _ (regKey_ne d (by decide)), State.reg_updFret,
      State.loadRead_reg s d l hd (by decide)]

theorem State.loadEnded_clean (hbad : s.loadBad i l.addr (s.loadImg l) ue = 0) (hclash : ¬ s.tableClash i (s.loadImg l))
    (hi : i / 384 = d) : ((s.loadEnded d i k l ue).fret i).st k = 2 ∧ ((s.loadEnded d i k l ue).fret i).img k = s.loadImg l := by
  have hmet := (State.loadRead_loadBad s d l i (s.loadImg l) ue).trans hbad
  rw [State.loadEnded_fret, State.slotEnd, (State.finishLoad_clean hmet (mt (State.loadRead_tableClash s d l hi _).mp hclash)).2]
  exact ⟨Fret.st_takeImage _ _ _ _, Fret.img_takeImage _ _ _ _⟩

end

/-- Settles O14: a load starts into the shadow slots of its targets, and its end leaves the slot with the image, or empty. -/
theorem voicingLoad : Obligations.VoicingLoad := by
  unfold Obligations.VoicingLoad
  refine ⟨fun s die value priv => ?_, fun s die ue => ⟨?_, ?_⟩⟩
  · intro d v a l ok busy
    have hexec : ∀ t, ok = true → s.loadCtrl d v = t → exec (.voicingLoad die value priv) s = .next t := by
      intro t hok ht
      refine congrArg Host.Outcome.next ?_
      rw [if_pos hok]
      exact ht
    refine ⟨fun hok => ?_, fun hok hheld => ?_, fun hok hheld hstart hbusy => ?_, fun hok hheld hno => ?_,
      fun hok hheld hstart hfree hrow => ?_⟩
    · refine State.runs_evolves (congrArg Host.Outcome.next (if_neg (by simp [show s.guardWrite die.val 0 priv = false from hok])))
        (State.flag_evolves _ _ _ _) rfl ⟨?_, State.flag_testBit _ _ _ _ (by decide)⟩
      exact State.onlyRegs_orReg (State.onlyRegs_refl s _) _ _ _ (List.contains_iff_mem.mpr List.mem_cons_self)
    · refine hexec s hok ?_
      unfold State.loadCtrl
      rw [if_pos hheld]
    · refine State.runs_evolves (hexec _ hok (State.loadCtrl_busy hheld hstart hbusy)) (State.flag_evolves _ _ _ _) rfl
        ⟨State.onlyRegs_orReg (State.onlyRegs_refl s _) _ _ _ (by simp), State.flag_testBit _ _ _ _ (by decide)⟩
    · have hfree : ¬ (v % 2 = 1 ∧ s.reg d Reg.fretLoadStatus % 2 = 1) := by
        rintro ⟨hstart, hbusy⟩
        rcases hno with h | ⟨h, -⟩
        · omega
        · exact h hbusy
      refine State.runs_evolves (hexec _ hok (State.loadCtrl_written hheld hfree (hno.imp_right fun h => h.2)))
        (State.setReg_evolves _ _ _ _) rfl ⟨State.onlyRegs_setReg (State.onlyRegs_refl s _) _ _ _ (by simp), ?_⟩
      rw [State.reg_setReg_same]
      exact Nat.mod_eq_of_lt (Nat.lt_of_le_of_lt Nat.and_le_right (by decide))
    · refine State.runs_evolves (hexec _ hok (State.loadCtrl_starts hheld (fun h => hfree h.2) hstart hrow))
        (State.loadStarted_evolves s d v) rfl ?_
      have hd := die.isLt
      have hreg := fun n => State.reg_of_regs (State.loadStarted_regs s d v) d n
      refine ⟨State.loadStarted_load s d v, State.loadStarted_cdie s d v hd, ?_, ?_, ?_, fun i => ?_⟩
      · refine State.onlyRegs_of_regs ?_ (State.loadStarted_regs s d v)
        exact State.onlyRegs_orReg (State.onlyRegs_setReg (State.onlyRegs_refl s _) _ _ _ (by simp)) _ _ _ (by simp)
      · rw [hreg, State.reg_flag_other _ _ _ _ _ _ (regKey_ne d (by decide)), State.reg_setReg_same]
        exact Nat.mod_eq_of_lt (Nat.lt_of_le_of_lt Nat.and_le_right (by decide))
      · rw [hreg]
        exact State.flag_testBit _ _ _ _ (by decide)
      · obtain ⟨hout, hin⟩ := State.loadStarted_fret s d v i
        refine ⟨hout, fun hi => ?_⟩
        obtain ⟨hst, hactive, himg⟩ := hin hi
        rw [Fret.shadow_of_active hactive]
        exact ⟨hst, hactive, himg⟩
  · intro hnone
    exact execVoicingLoadDone_stays s die ue fun l hl => absurd (hl.symm.trans hnone) (by simp)
  · intro l hload
    refine ⟨fun hwait => execVoicingLoadDone_stays s die ue fun l' hl' => ?_, ?_⟩
    · obtain rfl : l' = l := Option.some.inj (hl'.symm.trans hload)
      exact hwait
    · intro i k hslots hi hk hheld hwait fr img bad set clash hst hreload
      obtain ⟨hbusy, hended⟩ := State.loadEnded_bits s (d := die.val) (i := i) k l ue
      obtain ⟨hactive, hsram, hacc⟩ := State.loadEnded_frame s (d := die.val) (i := i) k l ue
      have hclash : clash ↔ s.tableClash i (s.loadImg l) := by
        unfold State.tableClash
        rw [hi]
        exact Iff.rfl
      refine State.runs_evolves (execVoicingLoadDone_ends ue hload hslots hheld hwait hst hreload)
        (State.loadEnded_evolves s k l ue) rfl
        ⟨State.loadEnded_onlyFret s k l ue, State.loadEnded_load s k l ue, hbusy, hended, ?_, fun h => ?_, fun h hc => ?_,
          fun h hc => ?_, hactive, hsram, hacc⟩
      · by_cases hb : s.loadBad i l.addr (s.loadImg l) ue = 0
        · rw [State.loadEnded_good s k l ue hb]
          exact (congrArg (· % 16) hb).symm
        · exact (State.loadEnded_bad s k l ue hb hi).1
      · obtain ⟨-, hempty, hflag, hcol, hrow⟩ := State.loadEnded_bad s k l ue h hi
        exact ⟨hempty, hflag, hcol, hrow⟩
      · exact State.loadEnded_clash s k l ue h (hclash.mp hc) hi die.isLt
      · exact State.loadEnded_clean s k l ue h (mt hclash.mpr hc) hi

end Sys2Proof.Machine

/-! FRET_FAULT, PHASE_AT_TWICE_BOUND and SPARE_VOICING_RELOAD_DONE (R81, R82, R114). -/

namespace Sys2Proof.Machine

/-! ### The spare record and the units out of service -/

/-- The spare maps and the units out of service are the same. -/
def State.keepsSpare (s t : State) : Prop := t.life.spare = s.life.spare ∧ t.life.units = s.life.units

theorem State.keepsSpare_refl (s : State) : s.keepsSpare s := ⟨rfl, rfl⟩

theorem State.keepsSpare_step {s t u : State} (k : t.keepsSpare u) (h : s.keepsSpare t) : s.keepsSpare u :=
  ⟨k.1.trans h.1, k.2.trans h.2⟩

theorem State.keepsSpare_evolves {s t u : State} {P : List Part} (k : t.evolves u P) (hP : P.contains .life = false)
    (h : s.keepsSpare t) : s.keepsSpare u := by
  unfold State.keepsSpare
  rw [k.1 .life hP]
  exact h

theorem State.lifeLog_keepsSpare (s : State) (kind die unit detail : Nat) : s.keepsSpare (s.lifeLog kind die unit detail) := by
  have hwrite : ∀ t : State, t.framWrite.life = t.life := fun t => (State.framWrite_evolves t).1 .life (by decide)
  unfold State.keepsSpare State.lifeLog
  dsimp only
  rw [hwrite]
  constructor <;> split <;> rfl

theorem State.logSubst_keepsSpare (s : State) (die block unit detail : Nat) : s.keepsSpare (s.logSubst die block unit detail) :=
  State.lifeLog_keepsSpare _ _ _ _ _

theorem State.tellLevel_keepsSpare (s : State) : s.keepsSpare s.tellLevel := by
  unfold State.tellLevel
  split
  · exact State.keepsSpare_refl s
  · next c _ =>
    dsimp only
    split
    · exact ⟨rfl, rfl⟩
    · exact State.keepsSpare_step (State.lifeLog_keepsSpare _ _ _ _ _)
        (State.keepsSpare_evolves (State.event_evolves _ _ _) rfl ⟨rfl, rfl⟩)

/-- A change of the level is logged; the level and its change are no part of the spare record. -/
theorem State.relevel_keepsSpare (s : State) (die block : Nat) : s.keepsSpare (s.relevel die block) := by
  have hlevel : ∀ (t : State) (l : Nat), s.keepsSpare t → s.keepsSpare { t with life := { t.life with level := l } } :=
    fun _ _ h => h
  have hchange : ∀ (t : State) (c : Option LevelChange), s.keepsSpare t →
      s.keepsSpare { t with life := { t.life with change := c } } := fun _ _ h => h
  have h0 := State.keepsSpare_refl s
  unfold State.relevel
  dsimp only
  split
  · exact h0
  · refine hlevel _ _ ?_
    split
    · exact hchange _ _ h0
    · split
      · split
        · exact hchange _ _ h0
        · exact h0
      · exact hchange _ _ (State.tellLevel_keepsSpare s)

section
variable {s t : State} (h : s.keepsSpare t)
include h

theorem State.bypassed_of_keepsSpare (die col : Nat) : t.bypassed die col = s.bypassed die col := by
  unfold State.bypassed
  rw [h.1]

theorem State.spareFree_of_keepsSpare (die col : Nat) : t.spareFree die col = s.spareFree die col := by
  unfold State.spareFree
  rw [State.bypassed_of_keepsSpare h, h.1]

theorem State.logicalRow_of_keepsSpare (die col phys : Nat) : t.logicalRow die col phys = s.logicalRow die col phys := by
  unfold State.logicalRow
  rw [State.bypassed_of_keepsSpare h]

end

section
variable (s : State) (die col phys : Nat)

theorem State.markFailed_failed : (s.markFailed die col phys).life.spare.failed.contains (die, col, phys) = true := by
  unfold State.markFailed
  split
  · assumption
  · exact List.contains_iff_mem.mpr (List.mem_append_right _ List.mem_cons_self)

theorem State.markFailed_bypassed (d c : Nat) : (s.markFailed die col phys).bypassed d c = s.bypassed d c := by
  unfold State.markFailed
  split <;> rfl

/-- The spare that failed itself is not free. -/
theorem State.spareFree_of_failed {t : State} (h : t.life.spare.failed.contains (die, col, 24) = true) :
    t.spareFree die col = false := by
  unfold State.spareFree
  rw [h, Bool.not_true, Bool.and_false]

theorem State.bypassFret_bypassed : (s.bypassFret die col phys).bypassed die col = some phys := by
  unfold State.bypassFret
  rw [State.bypassed_of_keepsSpare (State.logSubst_keepsSpare _ _ _ _ _),
    State.bypassed_of_keepsSpare (State.keepsSpare_evolves (State.event_evolves _ _ _) rfl (State.keepsSpare_refl _)),
    State.markFailed_bypassed]
  unfold State.bypassed State.updSpare
  rw [SMap.get_set_same]

theorem State.bypassFret_keepsNear : s.keepsNear (s.bypassFret die col phys) := by
  unfold State.bypassFret
  refine State.keepsNear_step (State.lifeLog_keepsNear _ _ _ _ _) (State.keepsNear_step (State.event_keepsNear _ _ _) ?_)
  exact State.keepsNear_evolves (State.markFailed_evolves _ _ _ _) rfl
    (State.keepsNear_evolves (State.updSpare_evolves _ _) rfl (State.keepsNear_refl s))

/-- The die's units are out of service, and stay so (R82). -/
theorem State.leaveService_units (block unit : Nat) :
    (s.leaveService die block unit).life.units.contains (die, block, unit) = true := by
  unfold State.leaveService
  split
  · assumption
  · rw [(State.relevel_keepsSpare _ _ _).2]
    exact List.contains_iff_mem.mpr (List.mem_append_right _ List.mem_cons_self)

theorem State.leaveService_spare (block unit : Nat) : (s.leaveService die block unit).life.spare = s.life.spare := by
  unfold State.leaveService
  split
  · rfl
  · exact (State.relevel_keepsSpare _ _ _).1

theorem State.dieLeaves_out : (s.dieLeaves die).dieOut die = true := State.leaveService_units _ _ _ _

theorem State.dieLeaves_spare : (s.dieLeaves die).life.spare = s.life.spare := by
  unfold State.dieLeaves
  rw [State.leaveService_spare]
  split <;> rfl

end

/-! ### What a die's leaving keeps of the compute dies' registers -/

theorem State.tellLevel_keepsNear (s : State) : s.keepsNear s.tellLevel := by
  unfold State.tellLevel
  split
  · exact State.keepsNear_refl s
  · next c _ =>
    exact State.keepsNear_ite (State.keepsNear_refl s)
      (State.keepsNear_step (State.lifeLog_keepsNear _ _ _ _ _) (State.event_keepsNear { s with life := { s.life with change := none } } _ _))

theorem State.relevel_keepsNear (s : State) (die block : Nat) : s.keepsNear (s.relevel die block) := by
  unfold State.relevel
  dsimp only
  refine State.keepsNear_ite (State.keepsNear_refl s) (State.keepsNear_set_life ?_)
  split
  · exact State.keepsNear_refl s
  · exact State.keepsNear_ite (State.keepsNear_ite (State.keepsNear_refl s) (State.keepsNear_refl s))
      (State.keepsNear_set_life (State.tellLevel_keepsNear s))

theorem State.dieLeaves_keepsNear (s : State) (die : Nat) : s.keepsNear (s.dieLeaves die) := by
  have hout : s.keepsNear (if die < 2 then s.setCDie die { s.cdie die with out := true } else s) :=
    State.keepsNear_ite (State.keepsNear_refl s) (State.keepsNear_refl s)
  unfold State.dieLeaves State.leaveService
  exact State.keepsNear_ite hout (State.keepsNear_step (State.relevel_keepsNear _ _ _) hout)

/-! ### The location of a fret fault -/

/-- A fret fault of a cause is flagged, with its place (R114). -/
def State.faultMarked (s : State) (die col phys cause : Nat) : State :=
  (if cause = 1 then s.flag die Reg.fretStatus 3 else s).faultLoc die col phys cause

section
variable (s : State) (die col phys cause : Nat)

theorem State.faultMarked_evolves : s.evolves (s.faultMarked die col phys cause) [.regs] := by
  unfold State.faultMarked
  exact State.evolves_step (State.faultLoc_evolves _ _ _ _ _)
    (State.evolves_ite (State.flag_evolves _ _ _ _) (State.evolves_refl _ _)) rfl

theorem State.faultMarked_loc (hcause : cause ≤ 3) (hcol : col < 16) (hphys : phys < 256) :
    (s.faultMarked die col phys cause).reg die Reg.fretFaultLoc = 0x10000 + cause * 4096 + col * 256 + phys := by
  unfold State.faultMarked State.faultLoc
  rw [State.reg_setReg_same]
  exact Nat.mod_eq_of_lt (by omega)

theorem State.faultMarked_flag : ((s.faultMarked die col phys cause).reg die Reg.fretStatus).testBit 5 = true := by
  unfold State.faultMarked State.faultLoc
  rw [State.reg_setReg_other _ _ _ _ _ _ (regKey_ne die (by decide))]
  exact State.flag_testBit _ _ _ _ (by decide)

theorem State.faultMarked_keepsSpare : s.keepsSpare (s.faultMarked die col phys cause) :=
  State.keepsSpare_evolves (State.faultMarked_evolves _ _ _ _ _) rfl (State.keepsSpare_refl s)

end

/-! ### The three ends of a fret fault (R81, R82) -/

/-- A fret without a logical position: a life-log entry, and the spare that failed is marked. -/
def State.faultUnplaced (s : State) (die col phys : Nat) : State :=
  if phys = 24 && ((s.logSubst die 0 col phys).bypassed die col).isNone then (s.logSubst die 0 col phys).markFailed die col phys
  else s.logSubst die 0 col phys

/-- The spare takes the fret's place. -/
def State.faultSubstituted (s : State) (die col phys row : Nat) : State :=
  ((((((s.stopFrets [die]).jobFault 2 (some 4096)).bypassFret die col phys).updFret (die * 384 + col * 24 + row)
    Fret.substitute).dropLoad (die * 384 + col * 24 + row)).sweepTables die)

/-- No spare is left: the die leaves service. -/
def State.faultLeaves (s : State) (die col phys : Nat) : State :=
  ((((((s.stopFrets [die]).breakStep 2 none).setFault 2).flag die Reg.fretStatus 6).markFailed die col phys).logSubst die 0 col
    phys).dieLeaves die

section
variable {s : State} {die col phys cause row : Nat}

theorem State.fretFault_unplaced (h : s.logicalRow die col phys = none) :
    s.fretFault die col phys cause = (s.faultMarked die col phys cause).faultUnplaced die col phys := by
  have hrow := (State.logicalRow_of_keepsSpare (State.faultMarked_keepsSpare s die col phys cause) die col phys).trans h
  unfold State.faultMarked at hrow
  unfold State.fretFault State.faultMarked
  dsimp only
  rw [hrow]
  rfl

theorem State.fretFault_substituted (h : s.logicalRow die col phys = some row) (hfree : s.spareFree die col = true) :
    s.fretFault die col phys cause = (s.faultMarked die col phys cause).faultSubstituted die col phys row := by
  have hspare := State.faultMarked_keepsSpare s die col phys cause
  have hrow := (State.logicalRow_of_keepsSpare hspare die col phys).trans h
  have hfree' : ((s.faultMarked die col phys cause).stopFrets [die]).spareFree die col = true :=
    (State.spareFree_of_keepsSpare (State.keepsSpare_evolves (State.stopFrets_evolves _ _) rfl hspare) die col).trans hfree
  unfold State.faultMarked at hrow hfree'
  unfold State.fretFault State.faultMarked
  dsimp only
  rw [hrow]
  exact if_pos hfree'

theorem State.fretFault_leaves (h : s.logicalRow die col phys = some row) (hfree : s.spareFree die col = false) :
    s.fretFault die col phys cause = (s.faultMarked die col phys cause).faultLeaves die col phys := by
  have hspare := State.faultMarked_keepsSpare s die col phys cause
  have hrow := (State.logicalRow_of_keepsSpare hspare die col phys).trans h
  have hfree' : ((s.faultMarked die col phys cause).stopFrets [die]).spareFree die col = false :=
    (State.spareFree_of_keepsSpare (State.keepsSpare_evolves (State.stopFrets_evolves _ _) rfl hspare) die col).trans hfree
  unfold State.faultMarked at hrow hfree'
  unfold State.fretFault State.faultMarked
  dsimp only
  rw [hrow]
  exact if_neg (by rw [hfree']; decide)

end

section
variable (s : State) (die col phys : Nat)

theorem State.faultUnplaced_evolves : s.evolves (s.faultUnplaced die col phys) [.regs, .life] := by
  unfold State.faultUnplaced
  exact State.evolves_ite (State.evolves_step (State.markFailed_evolves _ _ _ _) (State.logSubst_evolves _ _ _ _ _) rfl)
    (State.logSubst_evolves _ _ _ _ _)

theorem State.faultUnplaced_keepsNear : s.keepsNear (s.faultUnplaced die col phys) :=
  have hlog := State.lifeLog_keepsNear s 1 die (0 * 256 + col % 256) phys
  State.keepsNear_ite (State.keepsNear_evolves (State.markFailed_evolves _ _ _ _) rfl hlog) hlog

/-- A spare that fails while it stands in for nothing. -/
theorem State.faultUnplaced_spare (hphys : phys = 24) (h : s.bypassed die col = none) :
    (s.faultUnplaced die col phys).spareFree die col = false := by
  have hnone : (s.logSubst die 0 col phys).bypassed die col = none :=
    (State.bypassed_of_keepsSpare (State.logSubst_keepsSpare _ _ _ _ _) _ _).trans h
  unfold State.faultUnplaced
  subst hphys
  rw [if_pos (by simp [hnone])]
  exact State.spareFree_of_failed _ _ (State.markFailed_failed _ _ _ _)

variable (row : Nat)

theorem State.faultSubstituted_keepsNear : s.keepsNear (s.faultSubstituted die col phys row) := by
  unfold State.faultSubstituted
  refine State.keepsNear_evolves (State.sweepTables_evolves _ _) rfl ?_
  refine State.keepsNear_evolves (State.dropLoad_evolves _ _) rfl (State.keepsNear_evolves (State.updFret_evolves _ _ _) rfl ?_)
  refine State.keepsNear_step (State.bypassFret_keepsNear _ _ _ _) (State.keepsNear_step (State.jobFault_keepsNear _ _ _) ?_)
  exact State.keepsNear_evolves (State.stopFrets_evolves _ _) rfl (State.keepsNear_refl s)

theorem State.faultSubstituted_voted : (s.faultSubstituted die col phys row).upd.voted = true := by
  unfold State.faultSubstituted
  rw [(State.sweepTables_evolves _ _).1 .upd rfl, (State.dropLoad_evolves _ _).1 .upd rfl, (State.updFret_evolves _ _ _).1 .upd rfl,
    (State.bypassFret_evolves _ _ _ _).1 .upd rfl]
  exact State.jobFault_voted _ _ _

theorem State.faultSubstituted_bypassed : (s.faultSubstituted die col phys row).bypassed die col = some phys := by
  unfold State.faultSubstituted
  rw [State.bypassed_of_keepsSpare (State.keepsSpare_evolves (State.sweepTables_evolves _ _) rfl (State.keepsSpare_evolves
    (State.dropLoad_evolves _ _) rfl (State.keepsSpare_evolves (State.updFret_evolves _ _ _) rfl (State.keepsSpare_refl _))))]
  exact State.bypassFret_bypassed _ _ _ _

/-- The substitute stands stopped, and none of the old contents is left (R81). -/
theorem State.faultSubstituted_fret :
    ∃ f, (s.faultSubstituted die col phys row).fret (die * 384 + col * 24 + row) = Fret.substitute f := by
  unfold State.faultSubstituted
  rw [State.fret_evolves (State.sweepTables_evolves _ _) rfl, State.fret_evolves (State.dropLoad_evolves _ _) rfl,
    State.fret_updFret_same]
  exact ⟨_, rfl⟩

/-- The vote is cast and the mark of the die set, before the die leaves. -/
def State.faultVoted (s : State) (die : Nat) : State :=
  (((s.stopFrets [die]).breakStep 2 none).setFault 2).flag die Reg.fretStatus 6

theorem State.faultLeaves_keepsNear : (s.faultVoted die).keepsNear (s.faultLeaves die col phys) := by
  unfold State.faultLeaves State.faultVoted
  refine State.keepsNear_step (State.dieLeaves_keepsNear _ _) (State.keepsNear_step (State.lifeLog_keepsNear _ _ _ _ _) ?_)
  exact State.keepsNear_evolves (State.markFailed_evolves _ _ _ _) rfl (State.keepsNear_refl _)

theorem State.faultLeaves_voted : (s.faultLeaves die col phys).upd.voted = true := by
  unfold State.faultLeaves
  rw [(State.dieLeaves_evolves _ _).1 .upd rfl, (State.logSubst_evolves _ _ _ _ _).1 .upd rfl,
    (State.markFailed_evolves _ _ _ _).1 .upd rfl, (State.flag_evolves _ _ _ _).1 .upd rfl]
  exact State.setFault_voted _ _

theorem State.faultLeaves_failed : (s.faultLeaves die col phys).life.spare.failed.contains (die, col, phys) = true := by
  unfold State.faultLeaves
  rw [State.dieLeaves_spare, (State.logSubst_keepsSpare _ _ _ _ _).1]
  exact State.markFailed_failed _ _ _ _

theorem State.faultVoted_keepsNear : ∃ t, s.keepsNear t ∧ s.faultVoted die = t.flag die Reg.fretStatus 6 :=
  ⟨_, State.keepsNear_step (State.setFault_keepsNear _ _) (State.keepsNear_step (State.breakStep_keepsNear _ _ _)
    (State.keepsNear_evolves (State.stopFrets_evolves _ _) rfl (State.keepsNear_refl s))), rfl⟩

end

/-! ### What every fret fault does -/

section
variable (s : State) {die col phys cause : Nat}

/-- Each end keeps the fault's marks of the die. -/
theorem State.fretFault_marks (hdie : die < 2) (hcol : col < 16) (hphys : phys < 256) (hcause : cause ≤ 3) :
    (s.fretFault die col phys cause).reg die Reg.fretFaultLoc = 0x10000 + cause * 4096 + col * 256 + phys
    ∧ ((s.fretFault die col phys cause).reg die Reg.fretStatus).testBit 5 = true := by
  have hloc := State.faultMarked_loc s die col phys cause hcause hcol hphys
  have hflag := State.faultMarked_flag s die col phys cause
  have hkept : ∀ t, (s.faultMarked die col phys cause).keepsNear t →
      t.reg die Reg.fretFaultLoc = 0x10000 + cause * 4096 + col * 256 + phys ∧ (t.reg die Reg.fretStatus).testBit 5 = true := by
    intro t ht
    rw [State.reg_of_keepsNear ht (nearKey_compute hdie (by decide)), State.reg_of_keepsNear ht (nearKey_compute hdie (by decide))]
    exact ⟨hloc, hflag⟩
  cases hrow : s.logicalRow die col phys with
  | none =>
    rw [State.fretFault_unplaced hrow]
    exact hkept _ (State.faultUnplaced_keepsNear _ _ _ _)
  | some row =>
    cases hfree : s.spareFree die col with
    | true =>
      rw [State.fretFault_substituted hrow hfree]
      exact hkept _ (State.faultSubstituted_keepsNear _ _ _ _ _)
    | false =>
      have hleft := State.faultLeaves_keepsNear (s.faultMarked die col phys cause) die col phys
      obtain ⟨t, ht, hvoted⟩ := State.faultVoted_keepsNear (s.faultMarked die col phys cause) die
      obtain ⟨kloc, kflag⟩ := hkept t ht
      rw [hvoted] at hleft
      rw [State.fretFault_leaves hrow hfree, State.reg_of_keepsNear hleft (nearKey_compute hdie (by decide)),
        State.reg_of_keepsNear hleft (nearKey_compute hdie (by decide)),
        State.reg_flag_other _ _ _ _ _ _ (regKey_ne die (by decide))]
      exact ⟨kloc, State.flag_testBit_keep _ _ _ (by decide) kflag⟩

/-- A fret with a logical position ends the step: the module votes (R290). -/
theorem State.fretFault_voted {row : Nat} (hrow : s.logicalRow die col phys = some row) :
    (s.fretFault die col phys cause).upd.voted = true := by
  cases hfree : s.spareFree die col with
  | true =>
    rw [State.fretFault_substituted hrow hfree]
    exact State.faultSubstituted_voted _ _ _ _ _
  | false =>
    rw [State.fretFault_leaves hrow hfree]
    exact State.faultLeaves_voted _ _ _ _

/-- Each logical row has a physical row, which stands for a logical row (R78). -/
theorem State.logicalRow_physicalRow (row : Nat) : s.logicalRow die col (s.physicalRow die col row) ≠ none := by
  unfold State.logicalRow State.physicalRow
  generalize (s.bypassed die col).getD 24 = b
  dsimp only
  split <;> rw [if_neg (by omega)] <;> simp

theorem State.spareFree_of_bypassed {row : Nat} (h : s.bypassed die col = some row) : s.spareFree die col = false := by
  unfold State.spareFree
  rw [h]
  rfl

end

/-- The code of a cause in FRET.FAULT_LOC (R114). -/
def faultCode : FaultCause → Nat
  | .sram => 1
  | .selfCheck => 2
  | .twiceBound => 3

theorem faultCode_le (c : FaultCause) : faultCode c ≤ 3 := by cases c <;> decide

/-- The command ends the fault of its cause, where the third cause is one (R81). -/
theorem execFretFault_faults (s : State) (die : Fin 2) (col : Fin 16) (phys : Fin 25) (report : FretReport)
    (h : report.cause = .twiceBound → s.bounded die.val col.val phys.val = true) :
    exec (.fretFault die col phys report) s = .next ((s.sramCe die.val report.ce).fretFault die.val col.val phys.val
      (faultCode report.cause)) := by
  refine congrArg Host.Outcome.next ?_
  dsimp only
  cases hcause : report.cause with
  | sram => rfl
  | selfCheck => rfl
  | twiceBound => exact if_pos (h hcause)

theorem execPhaseAtTwiceBound_faults (s : State) (f : FretId) {p : FretPhase} (hphase : (s.fret (fretIdx f)).phase = some p)
    (hbound : p.bound ≠ none) : exec (.phaseAtTwiceBound f) s =
      .next (s.fretFault f.die.val f.col.val (s.physicalRow f.die.val f.col.val f.row.val) 3) := by
  refine congrArg Host.Outcome.next ?_
  rw [hphase]
  exact if_pos (Option.isSome_iff_ne_none.mpr hbound)

/-! ### The reload of a substitute (R81 step 5) -/

/-- A slot that is to be reloaded takes the image at its last address, or stays empty on a bad one. -/
def State.reloadSlot (s : State) (i slot : Nat) (last : Option Nat) : State :=
  match last with
  | some a =>
    if (s.fret i).reload.contains slot then ((s.meetPoison a 16384).finishLoad i slot a (s.imageAt a) false).2 else s
  | none => s

/-- The slots of one fret that are to be reloaded. -/
def State.reloadFret (s : State) (i : Nat) : State :=
  if (s.fret i).reload.isEmpty then s
  else ((s.reloadSlot i 0 (s.fret i).last0).reloadSlot i 1 (s.fret i).last1).updFret i fun f => { f with reload := [] }

/-- One slot after the reload. -/
def Fret.slotReloaded (f g : Fret) (k : Nat) (last : Option Nat) (image : Nat → Img) : Prop :=
  (f.reload.contains k = false → g.st k = f.st k ∧ g.img k = f.img k)
  ∧ (f.reload.contains k = true → ∀ a, last = some a → (g.st k = 0 ∨ g.st k = 2) ∧ (g.st k = 2 → g.img k = image a))

/-- What the reload of one slot leaves: the other slot, and which slots are to be reloaded. -/
def Fret.otherSlot (f g : Fret) (k : Nat) : Prop :=
  g.reload = f.reload ∧ ∀ j, j < 2 → j ≠ k → g.st j = f.st j ∧ g.img j = f.img j

theorem Fret.otherSlot_emptySlot (f : Fret) {k : Nat} (hk : k < 2) : f.otherSlot (f.emptySlot k) k := by
  refine ⟨?_, fun j hj hne => ⟨?_, ?_⟩⟩
  · unfold Fret.emptySlot Fret.setSt Fret.setImg
    split <;> rfl
  · exact (Fret.st_setSt_other _ hj hk hne _).trans (Fret.st_setImg _ _ _ _)
  · exact (Fret.img_setSt _ _ _ _).trans (Fret.img_setImg_other _ hj hk hne _)

theorem Fret.otherSlot_takeImage (f : Fret) {k : Nat} (hk : k < 2) (a : Nat) (m : Img) : f.otherSlot (f.takeImage k a m) k := by
  refine ⟨?_, fun j hj hne => ⟨?_, ?_⟩⟩
  · unfold Fret.takeImage Fret.setLast Fret.setSt Fret.setImg
    split <;> rfl
  · exact (Fret.st_setLast _ _ _ _).trans ((Fret.st_setSt_other _ hj hk hne _).trans (Fret.st_setImg _ _ _ _))
  · exact (Fret.img_setLast _ _ _ _).trans ((Fret.img_setSt _ _ _ _).trans (Fret.img_setImg_other _ hj hk hne _))

section
variable (s : State) (i : Nat) {k : Nat} (last : Option Nat)

theorem State.reloadSlot_onlyFret : s.onlyFret (s.reloadSlot i k last) i := by
  unfold State.reloadSlot
  split
  · next a =>
    split
    · exact State.onlyFret_step (State.finishLoad_fret _ _ _ _ _ _).1
        (State.onlyFret_evolves (State.meetPoison_evolves _ _ _) rfl (State.onlyFret_refl s i))
    · exact State.onlyFret_refl s i
  · exact State.onlyFret_refl s i

theorem State.reloadSlot_mem : (s.reloadSlot i k last).mem = s.mem := by
  unfold State.reloadSlot
  split
  · split
    · rw [(State.finishLoad_evolves _ _ _ _ _ _).1 .mem rfl, (State.meetPoison_evolves _ _ _).1 .mem rfl]
    · rfl
  · rfl

theorem State.reloadSlot_fret (hk : k < 2) : (s.fret i).slotReloaded ((s.reloadSlot i k last).fret i) k last s.imageAt
    ∧ (s.fret i).otherSlot ((s.reloadSlot i k last).fret i) k := by
  have hsame : (s.fret i).otherSlot (s.fret i) k := ⟨rfl, fun _ _ _ => ⟨rfl, rfl⟩⟩
  unfold State.reloadSlot
  split
  · next a =>
    split
    · next hreload =>
      have hread := State.fret_evolves (State.meetPoison_evolves s a 16384) rfl i
      rcases (State.finishLoad_fret (s.meetPoison a 16384) i k a (s.imageAt a) false).2 with h | h
      · rw [h, hread]
        refine ⟨⟨fun hno => absurd (hreload.symm.trans hno) (by decide), fun _ b _ => ?_⟩, Fret.otherSlot_emptySlot _ hk⟩
        rw [Fret.st_emptySlot]
        exact ⟨.inl rfl, fun h2 => absurd h2 (by decide)⟩
      · rw [h, hread]
        refine ⟨⟨fun hno => absurd (hreload.symm.trans hno) (by decide), fun _ b hb => ?_⟩, Fret.otherSlot_takeImage _ hk _ _⟩
        obtain rfl : a = b := Option.some.inj hb
        exact ⟨.inr (Fret.st_takeImage _ _ _ _), fun _ => Fret.img_takeImage _ _ _ _⟩
    · next hno => exact ⟨⟨fun _ => ⟨rfl, rfl⟩, fun h => absurd h hno⟩, hsame⟩
  · exact ⟨⟨fun _ => ⟨rfl, rfl⟩, fun _ _ h => absurd h (by simp)⟩, hsame⟩

end

/-- One fret after the reload. -/
def Fret.reloaded (f g : Fret) (image : Nat → Img) : Prop :=
  (f.reload = [] → g = f)
  ∧ (f.reload ≠ [] → g.reload = [] ∧ ∀ k, k < 2 → f.slotReloaded g k (if k = 0 then f.last0 else f.last1) image)

section
variable (s : State) (i : Nat)

theorem State.reloadFret_onlyFret : s.onlyFret (s.reloadFret i) i := by
  unfold State.reloadFret
  split
  · exact State.onlyFret_refl s i
  · exact State.onlyFret_updFret (State.onlyFret_step (State.reloadSlot_onlyFret _ _ _) (State.reloadSlot_onlyFret _ _ _)) _

theorem State.reloadFret_mem : (s.reloadFret i).mem = s.mem := by
  unfold State.reloadFret
  split
  · rfl
  · rw [(State.updFret_evolves _ _ _).1 .mem rfl, State.reloadSlot_mem, State.reloadSlot_mem]

theorem State.reloadFret_fret : (s.fret i).reloaded ((s.reloadFret i).fret i) s.imageAt := by
  unfold State.reloadFret
  split
  · next hempty =>
    have hnil : (s.fret i).reload = [] := List.isEmpty_iff.mp hempty
    exact ⟨fun _ => rfl, fun h => absurd hnil h⟩
  · next hsome =>
    rw [State.fret_updFret_same]
    refine ⟨fun h => absurd (List.isEmpty_iff.mpr h) hsome, fun _ => ⟨rfl, fun k hk => ?_⟩⟩
    obtain ⟨hslot0, hreload0, hother0⟩ := State.reloadSlot_fret s i (s.fret i).last0 (k := 0) (by decide)
    obtain ⟨hslot1, hreload1, hother1⟩ := State.reloadSlot_fret (s.reloadSlot i 0 (s.fret i).last0) i (s.fret i).last1 (k := 1)
      (by decide)
    obtain rfl | rfl : k = 0 ∨ k = 1 := by omega
    · obtain ⟨hst, himg⟩ := hother1 0 (by decide) (by decide)
      unfold Fret.slotReloaded at hslot0 ⊢
      rw [← hst, ← himg] at hslot0
      exact hslot0
    · obtain ⟨hst, himg⟩ := hother0 1 (by decide) (by decide)
      have himage : (s.reloadSlot i 0 (s.fret i).last0).imageAt = s.imageAt :=
        funext fun a => State.imageAt_of_mem (State.reloadSlot_mem _ _ _) a
      unfold Fret.slotReloaded at hslot1 ⊢
      rw [hreload0, hst, himg, himage] at hslot1
      exact hslot1

end

/-- The frets of a list are reloaded one after another, none twice. -/
theorem State.fret_foldl_reload (l : List Nat) (hl : l.Nodup) (s : State) (i : Nat) :
    (i ∉ l → (l.foldl State.reloadFret s).fret i = s.fret i)
    ∧ (i ∈ l → (s.fret i).reloaded ((l.foldl State.reloadFret s).fret i) s.imageAt) := by
  induction l generalizing s with
  | nil => simp
  | cons j l ih =>
    obtain ⟨hj, hl⟩ := List.nodup_cons.mp hl
    obtain ⟨hout, hin⟩ := ih hl (s.reloadFret j)
    have himage : (s.reloadFret j).imageAt = s.imageAt := funext fun a => State.imageAt_of_mem (State.reloadFret_mem s j) a
    rw [List.foldl_cons, List.mem_cons, not_or]
    by_cases hij : i = j
    · subst hij
      rw [hout hj]
      exact ⟨fun h => absurd rfl h.1, fun _ => State.reloadFret_fret s i⟩
    · rw [State.reloadFret_onlyFret s j i hij] at hout hin
      rw [himage] at hin
      exact ⟨fun h => hout h.2, fun h => hin (h.resolve_left hij)⟩

/-- The frets of a column of a die. -/
def columnFrets (d col : Nat) : List Nat := (List.range 24).map fun j => d * 384 + col * 24 + j

theorem columnFrets_nodup (d col : Nat) : (columnFrets d col).Nodup :=
  List.Nodup.map (fun a b (h : _ + a = _ + b) => by omega) List.nodup_range

theorem mem_columnFrets {d col i : Nat} (hcol : col < 16) : i ∈ columnFrets d col ↔ i / 384 = d ∧ fretCol i = col := by
  unfold columnFrets fretCol
  rw [List.mem_map]
  constructor
  · rintro ⟨j, hj, rfl⟩
    rw [List.mem_range] at hj
    constructor <;> omega
  · rintro ⟨rfl, rfl⟩
    exact ⟨i % 24, List.mem_range.mpr (by omega), by omega⟩

theorem execSpareVoicingReloadDone_reloads (s : State) (die : Fin 2) (col : Fin 16) (hheld : s.held die.val 0 = false) :
    exec (.spareVoicingReloadDone die col) s =
      .next (((columnFrets die.val col.val).foldl State.reloadFret s).sweepTables die.val) := by
  refine congrArg Host.Outcome.next ?_
  dsimp only
  rw [if_neg (by rw [hheld]; decide), columnFrets, List.foldl_map]
  rfl

/-- Settles O16: what a fret fault writes, the substitute or the die out of service that it ends in, and the reload. -/
theorem fretFaults : Obligations.FretFaults := by
  unfold Obligations.FretFaults
  refine fun s => ⟨fun die col phys report => ⟨fun hcause hbound => ?_, fun hcause => ?_⟩, fun f => ⟨fun p hphase hbound => ?_,
    fun hnone => ?_⟩, fun die col => ⟨fun hheld => ?_, fun hheld => ?_⟩⟩
  · refine congrArg Host.Outcome.next ?_
    rw [hcause]
    exact if_neg (by rw [hbound]; decide)
  · have hexec := execFretFault_faults s die col phys report hcause
    have hspare : s.keepsSpare (s.sramCe die.val report.ce) :=
      State.keepsSpare_evolves (State.sramCe_evolves _ _ _) rfl (State.keepsSpare_refl s)
    obtain ⟨hloc, hflag⟩ := State.fretFault_marks (s.sramCe die.val report.ce) die.isLt col.isLt
      (Nat.lt_trans phys.isLt (by decide)) (faultCode_le report.cause)
    have hrow := State.logicalRow_of_keepsSpare hspare die.val col.val phys.val
    have hfree := State.spareFree_of_keepsSpare hspare die.val col.val
    have hcode : faultCode report.cause = match report.cause with | .sram => 1 | .selfCheck => 2 | .twiceBound => 3 := by
      cases report.cause <;> rfl
    refine State.runs_evolves hexec (State.evolves_step (State.fretFault_evolves _ _ _ _ _)
      (State.evolves_wider (State.sramCe_evolves _ _ _) rfl) (State.within_self _)) (State.within_self _)
      ⟨hcode ▸ hloc, hflag, fun hnone => ?_, fun row hsome hyes => ?_, fun row hsome hno => ?_⟩
    · rw [State.fretFault_unplaced (hrow.trans hnone)]
      have hmarked := State.evolves_step (State.faultMarked_evolves _ die.val col.val phys.val (faultCode report.cause))
        (State.sramCe_evolves s die.val report.ce) rfl
      have hkept := State.evolves_step (State.faultUnplaced_evolves _ die.val col.val phys.val)
        (State.evolves_wider hmarked (Q := [.regs]) (P := [.regs, .life]) rfl) rfl
      refine ⟨hkept.1 .frets rfl, hkept.1 .upd rfl, hkept.1 .adm rfl, hkept.1 .vlk rfl, fun hphys hbypassed => ?_⟩
      refine State.faultUnplaced_spare _ _ _ _ hphys ?_
      rw [State.bypassed_of_keepsSpare (State.faultMarked_keepsSpare _ _ _ _ _), State.bypassed_of_keepsSpare hspare]
      exact hbypassed
    · refine ⟨State.fretFault_voted _ (hrow.trans hsome), ?_⟩
      rw [State.fretFault_substituted (hrow.trans hsome) (hfree.trans hyes)]
      have hbypassed := State.faultSubstituted_bypassed ((s.sramCe die.val report.ce).faultMarked die.val col.val phys.val
        (faultCode report.cause)) die.val col.val phys.val row
      obtain ⟨g, hfret⟩ := State.faultSubstituted_fret ((s.sramCe die.val report.ce).faultMarked die.val col.val phys.val
        (faultCode report.cause)) die.val col.val phys.val row
      rw [hfret]
      exact ⟨hbypassed, State.spareFree_of_bypassed _ hbypassed, rfl, rfl, rfl, rfl⟩
    · refine ⟨State.fretFault_voted _ (hrow.trans hsome), ?_⟩
      rw [State.fretFault_leaves (hrow.trans hsome) (hfree.trans hno)]
      refine ⟨State.dieLeaves_out _ _, ?_, State.faultLeaves_failed _ _ _ _⟩
      obtain ⟨t, -, hvoted⟩ := State.faultVoted_keepsNear ((s.sramCe die.val report.ce).faultMarked die.val col.val phys.val
        (faultCode report.cause)) die.val
      rw [State.reg_of_keepsNear (State.faultLeaves_keepsNear _ _ _ _) (nearKey_compute die.isLt (by decide)), hvoted]
      exact State.flag_testBit _ _ _ _ (by decide)
  · obtain ⟨row, hrow⟩ := Option.ne_none_iff_exists'.mp (State.logicalRow_physicalRow s (die := f.die.val) (col := f.col.val) f.row.val)
    have hphys : s.physicalRow f.die.val f.col.val f.row.val < 256 := by
      have hlt := f.row.isLt
      unfold State.physicalRow
      split <;> omega
    obtain ⟨hloc, hflag⟩ := State.fretFault_marks s (cause := 3) f.die.isLt f.col.isLt hphys (Nat.le_refl 3)
    exact State.runs_evolves (execPhaseAtTwiceBound_faults s f hphase hbound) (State.fretFault_evolves _ _ _ _ _) rfl
      ⟨hloc, hflag, State.fretFault_voted _ hrow⟩
  · refine congrArg Host.Outcome.next ?_
    split
    · next p hphase => exact if_neg (by rw [hnone p hphase]; decide)
    · rfl
  · exact congrArg Host.Outcome.next (if_pos hheld)
  · refine State.runs_of (execSpareVoicingReloadDone_evolves die col s) rfl
      (execSpareVoicingReloadDone_reloads s die col hheld) (State.within_self _) fun i => ?_
    rw [State.fret_evolves (State.sweepTables_evolves _ _) rfl]
    obtain ⟨hout, hin⟩ := State.fret_foldl_reload _ (columnFrets_nodup die.val col.val) s i
    rw [mem_columnFrets col.isLt] at hout hin
    refine ⟨fun h => ?_, fun hdie hcol hreload => (hin ⟨hdie, hcol⟩).2 hreload⟩
    by_cases hmem : i / 384 = die.val ∧ fretCol i = col.val
    · obtain ⟨hdie, hcol⟩ := hmem
      exact (hin ⟨hdie, hcol⟩).1 ((h.resolve_left (· hdie)).resolve_left (· hcol))
    · exact hout hmem

end Sys2Proof.Machine

/-! Starts of functions (R117, R211, R343, R358, R401, R403, R404, R406, R407). -/

namespace Sys2Proof.Machine

/-! ### Refusals (R404) -/

section
variable {s : State}

theorem State.levelServes_of_low (fn : Nat) (h : s.life.level < 2) : s.levelServes fn = false := by
  unfold State.levelServes
  rw [decide_eq_false (by omega), Bool.false_and]

theorem State.startRefusal_level {fn : Nat} (h : s.levelServes fn = false) : s.startRefusal fn = some 0x12100107 := by
  unfold State.startRefusal
  rw [h]
  rfl

/-- The first function that is needed and not Running is named. -/
theorem State.startRefusal_needed {fn k : Nat} (hlevel : s.levelServes fn = true)
    (h : (s.needed fn).find? (fun k => s.fnState k ≠ 1) = some k) :
    s.startRefusal fn = some (refusalWord (od 0x2000 (k + 1)) 4) := by
  unfold State.startRefusal
  rw [hlevel, h]
  rfl

theorem State.needed_training_alone (h : s.modules ≤ 1) : s.needed 0 = [1, 3] := by
  unfold State.needed
  exact if_neg (by omega)

theorem State.needed_training_joined (h : 1 < s.modules) : s.needed 0 = [1, 2, 3] := by
  unfold State.needed
  exact if_pos h

theorem State.startRefusal_embedding (hlevel : s.levelServes 0 = true) (h : s.fnState 1 ≠ 1) :
    s.startRefusal 0 = some 0x20000204 := by
  refine State.startRefusal_needed (k := 1) hlevel ?_
  by_cases hm : 1 < s.modules
  · rw [State.needed_training_joined hm]
    simp [h]
  · rw [State.needed_training_alone (by omega)]
    simp [h]

theorem State.startRefusal_alone (hlevel : s.levelServes 0 = true) (hm : s.modules ≤ 1) (hemb : s.fnState 1 = 1) (h : s.fnState 3 ≠ 1) :
    s.startRefusal 0 = some 0x20000404 := by
  refine State.startRefusal_needed (k := 3) hlevel ?_
  rw [State.needed_training_alone hm]
  simp [hemb, h]

theorem State.startRefusal_joined (hlevel : s.levelServes 0 = true) (hm : 1 < s.modules) (hemb : s.fnState 1 = 1) (h : s.fnState 2 ≠ 1) :
    s.startRefusal 0 = some 0x20000304 := by
  refine State.startRefusal_needed (k := 2) hlevel ?_
  rw [State.needed_training_joined hm]
  simp [hemb, h]

theorem State.startRefusal_snapshot (hlevel : s.levelServes 4 = true) (h : s.fnState 0 ≠ 1) : s.startRefusal 4 = some 0x20000104 :=
  State.startRefusal_needed (k := 0) hlevel (by simp [State.needed, h])

theorem State.startRefusal_node (hlevel : s.levelServes 2 = true) (h : s.node = 0xFFFF) : s.startRefusal 2 = some 0x25000106 := by
  unfold State.startRefusal
  rw [hlevel]
  simp only [State.needed, List.find?_nil, h]
  rfl

theorem State.startRefusal_clock (hlevel : s.levelServes 2 = true) (hnode : s.node ≠ 0xFFFF) (hm : 1 < s.modules)
    (h : (s.reg 6 Reg.zfTimeStatus).testBit 63 = false) : s.startRefusal 2 = some 0x25001006 := by
  have hbit : bits (s.reg 6 Reg.zfTimeStatus) 63 63 = 0 := by
    refine Nat.eq_of_testBit_eq fun j => ?_
    rw [bits_testBit, Nat.zero_testBit]
    by_cases hj : j = 0
    · subst hj
      simp [h]
    · simp [show ¬ j < 1 by omega]
  unfold State.startRefusal
  rw [hlevel]
  simp only [State.needed, List.find?_nil, hnode, hm, hbit]
  rfl

theorem State.startRefusal_restore (hlevel : s.levelServes 0 = true) (hemb : s.fnState 1 = 1) (hfab : s.fnState 2 = 1)
    (hhost : s.fnState 3 = 1) (h : s.upd.restore.isSome = true) : s.startRefusal 0 = some 5 := by
  have hnone : (s.needed 0).find? (fun k => s.fnState k ≠ 1) = none := by
    by_cases hm : 1 < s.modules
    · rw [State.needed_training_joined hm]
      simp [hemb, hfab, hhost]
    · rw [State.needed_training_alone (by omega)]
      simp [hemb, hhost]
  unfold State.startRefusal
  rw [hlevel, hnone, h]
  rfl

end

/-! ### The end of a start -/

/-- The configuration hash is over the values as they were written (R407). -/
theorem State.configHash_of_od {s t : State} (h : t.dict.od = s.dict.od) : t.configHash = s.configHash := by
  have hitem : t.hashItem = s.hashItem := by
    funext r
    unfold State.hashItem State.odWritten
    rw [h]
  unfold State.configHash
  rw [hitem]

/-- The function is Starting. -/
def State.starting (s : State) (fn : Nat) : State := s.setFn fn 2

/-- A start that is refused leaves the function Stopped (R404). -/
def State.startRefused (s : State) (fn w : Nat) : State :=
  { s with dict := { s.dict with
      fn := s.dict.fn.set fn 0, refusal := s.dict.refusal.set fn w, hash := s.configHash, hashTime := s.time } }

/-- The function is Running, with the values of its entries in use, before its own work starts (R406). -/
def State.startEntered (s : State) (fn : Nat) : State :=
  { s with dict := { s.dict with
      fn := s.dict.fn.set fn 1, refusal := s.dict.refusal.set fn 0, hash := s.configHash, hashTime := s.time
      before := s.dict.before.filter fun e => ownerOf e.1 ≠ fn } }

/-- What a function does as it enters Running (R117, R343, R358, R376). -/
def State.startWork (s : State) (fn : Nat) : State :=
  match fn with
  | 0 => s.startTraining
  | 2 => s.startFabric
  | 3 => { s with adm := { s.adm with counts := List.replicate 26 0 } }
  | _ => s

section
variable {s : State} {fn : Nat} (hfn : fn < s.dict.fn.length)

theorem State.functionStart_stays (fn : Fin 5) (h : s.fnState fn.val = 1 ∨ s.fnState fn.val = 3) : s.stays (.functionStart fn) := by
  refine congrArg Host.Outcome.next ?_
  have hwrite : (s.startWrite fn.val).2 = s := by
    unfold State.startWrite
    rcases h with h | h <;> simp [h]
  rw [hwrite]
  exact State.finishStart_of_not_starting s _ (by rcases h with h | h <;> rw [h] <;> decide)

include hfn

theorem State.startWrite_starting (h : s.fnState fn = 0 ∨ s.fnState fn = 2) : (s.startWrite fn).2 = s.starting fn := by
  unfold State.startWrite
  rcases h with h | h
  · simp [h]
    rfl
  · have hset : s.dict.fn.set fn 2 = s.dict.fn := by
      have hget : s.dict.fn[fn] = 2 := by
        unfold State.fnState at h
        rw [← h, List.getD_eq_getElem _ _ hfn]
      rw [← hget, List.set_getElem_self]
    unfold State.starting State.setFn
    rw [hset]
    simp [h]

theorem State.starting_fnState : (s.starting fn).fnState fn = 2 := by
  unfold State.starting State.setFn State.fnState
  simp [hfn]

theorem State.finishStart_refused {w : Nat}
    (h : ({ s with dict := { s.dict with fn := s.dict.fn.set fn 2, before := [] } } : State).startRefusal fn = some w) :
    (s.starting fn).finishStart fn = s.startRefused fn w := by
  have hfound : ({ s.starting fn with dict := { (s.starting fn).dict with before := [] } } : State).startRefusal fn = some w := h
  unfold State.finishStart
  rw [if_neg (by rw [State.starting_fnState hfn]; decide), hfound]
  simp only [Option.isSome_some, if_true, Option.getD_some]
  unfold State.startRefused State.setFn State.rehash State.starting
  rw [State.configHash_of_od (s := s)]
  · simp only [State.setFn, List.set_set]
  · rfl

theorem State.finishStart_enters
    (h : ({ s with dict := { s.dict with fn := s.dict.fn.set fn 2, before := [] } } : State).startRefusal fn = none) :
    (s.starting fn).finishStart fn = (s.startEntered fn).startWork fn := by
  have hfound : ({ s.starting fn with dict := { (s.starting fn).dict with before := [] } } : State).startRefusal fn = none := h
  have hentered : ((({ s.starting fn with dict := { (s.starting fn).dict with
      refusal := (s.starting fn).dict.refusal.set fn 0 } } : State).rehash.useWritten fn).setFn fn 1) = s.startEntered fn := by
    unfold State.startEntered State.setFn State.rehash State.useWritten State.starting
    rw [State.configHash_of_od (s := s)]
    · simp only [State.setFn, List.set_set]
    · rfl
  unfold State.finishStart
  rw [if_neg (by rw [State.starting_fnState hfn]; decide), hfound]
  simp only [Option.isSome_none, Bool.false_eq_true, if_false, Option.getD_none, hentered]
  rfl

end

/-! ### Sync objects (R343, R345) -/

section
variable (s : State) (sub o v : Nat)

theorem State.syncObj_syncOp_same (a b : Nat) :
    (s.syncOp sub o a b).syncObj o = syncApply sub (s.syncObj o) a b % pow2 64 := by
  have hobj : (s.syncOp sub o a b).syncObj o = (s.setSync o (syncApply sub (s.syncObj o) a b)).syncObj o := rfl
  rw [hobj]
  unfold State.setSync State.syncObj
  rw [SMap.get_set_same, BitVec.toNat_ofNat]
  rfl

theorem State.syncObj_syncOp_other {p : Nat} (a b : Nat) (h : p ≠ o) : (s.syncOp sub o a b).syncObj p = s.syncObj p := by
  have hobj : (s.syncOp sub o a b).syncObj p = (s.setSync o (syncApply sub (s.syncObj o) a b)).syncObj p := rfl
  rw [hobj]
  unfold State.setSync State.syncObj
  rw [SMap.get_set_other _ _ _ _ _ h]

end

theorem State.reg_syncOp (s : State) (sub o a b : Nat) {n : Nat} (hn : n ≠ Reg.syncOpCount) :
    (s.syncOp sub o a b).reg 6 n = s.reg 6 n :=
  State.reg_bump_other (s.setSync o (syncApply sub (s.syncObj o) a b)) 6 6 Reg.syncOpCount n 1 (regKey_ne 6 hn)

/-! ### The commit records and the counts of rollbacks -/

/-- The commit records, the rollbacks of the step and of the job, and the run's kind are the same. -/
def State.keepsRolls (s t : State) : Prop :=
  t.upd.recs = s.upd.recs ∧ t.upd.rolls = s.upd.rolls ∧ t.upd.rollbacks = s.upd.rollbacks ∧ t.upd.rerun = s.upd.rerun

theorem State.keepsRolls_refl (s : State) : s.keepsRolls s := ⟨rfl, rfl, rfl, rfl⟩

theorem State.keepsRolls_step {s t u : State} (k : t.keepsRolls u) (h : s.keepsRolls t) : s.keepsRolls u := by
  obtain ⟨hrecs, hrolls, hrollbacks, hrerun⟩ := h
  obtain ⟨krecs, krolls, krollbacks, krerun⟩ := k
  exact ⟨krecs.trans hrecs, krolls.trans hrolls, krollbacks.trans hrollbacks, krerun.trans hrerun⟩

theorem State.keepsRolls_evolves {s t u : State} {P : List Part} (k : t.evolves u P) (hP : P.contains .upd = false)
    (h : s.keepsRolls t) : s.keepsRolls u := by
  unfold State.keepsRolls
  rw [k.1 .upd hP]
  exact h

theorem State.keepsRolls_ite {s a b : State} {c : Prop} [Decidable c] (ha : s.keepsRolls a) (hb : s.keepsRolls b) :
    s.keepsRolls (if c then a else b) := by
  split
  · exact ha
  · exact hb

theorem State.setFault_keepsRolls (s : State) (cls : Nat) : s.keepsRolls (s.setFault cls) := by
  unfold State.setFault State.castVote
  exact State.keepsRolls_evolves (State.contribute_evolves _ _ _) rfl ⟨rfl, rfl, rfl, rfl⟩

theorem State.jobFault_keepsRolls (s : State) (cls : Nat) (reload : Option Nat) : s.keepsRolls (s.jobFault cls reload) :=
  State.keepsRolls_step (State.setFault_keepsRolls _ _)
    (State.keepsRolls_evolves (State.breakStep_evolves _ _ _) rfl (State.keepsRolls_refl s))

theorem State.failRead_keepsRolls (s : State) (a n : Nat) : s.keepsRolls (s.failRead a n) :=
  State.keepsRolls_step (State.jobFault_keepsRolls _ _ _)
    (State.keepsRolls_evolves (State.meetPoison_evolves _ _ _) rfl (State.keepsRolls_refl s))

theorem State.metCarries_keepsRolls (s : State) (step : Nat) : s.keepsRolls (s.metCarries step) := by
  unfold State.metCarries
  refine List.foldlRecOn (motive := s.keepsRolls) _ _ (State.keepsRolls_refl s) fun t h p _ => ?_
  exact State.keepsRolls_ite (State.keepsRolls_step (State.failRead_keepsRolls _ _ _) h) h

/-- The step in progress rests on the commit records. -/
theorem State.committed_of_recs {s t : State} (h : t.upd.recs = s.upd.recs) : t.committed = s.committed := by
  unfold State.committed Upd.live
  rw [h]

/-! ### Memory without poison -/

theorem State.meetPoison_of_clean {s : State} (h : s.dram.poison = []) (a n : Nat) : s.meetPoison a n = s := by
  unfold State.meetPoison State.poisonIn
  rw [h]
  rfl

theorem State.metCarries_of_clean {s : State} (h : s.dram.poison = []) (step : Nat) : s.metCarries step = s := by
  have hclean : ∀ a n, s.poisoned a n = false := by
    intro a n
    unfold State.poisoned
    rw [h]
    rfl
  unfold State.metCarries
  refine List.foldlRecOn (motive := fun t => t = s) _ _ rfl fun t ht p _ => ?_
  subst ht
  simp [hclean]

/-! ### The supervisor at the start of training (R211, R236, R237) -/

theorem State.setCube_cube (s : State) (c : Int) : (s.setCube c).reg 6 Reg.numCube = (c % 256).toNat % pow2 64 := by
  unfold State.setCube
  rw [State.reg_of_regs ((State.placeSeed_evolves _).1 .regs rfl), State.reg_setReg_same]
  rfl

section
variable {s : State} (h : s.dram.poison = [])
include h

/-- With no poison met, the supervisor's start breaks no promise. -/
theorem State.startNum_evolves_clean : s.evolves s.startNum [.regs, .frets, .num, .dict] := by
  have hnum : ∀ {t : State} (n : Num), s.evolves t [.regs, .frets, .num, .dict] →
      s.evolves { t with num := n } [.regs, .frets, .num, .dict] := fun n ht => State.evolves_set_num rfl ht
  have hcube : ∀ {t : State} (c : Int), s.evolves t [.regs, .frets, .num, .dict] →
      s.evolves (t.setCube c) [.regs, .frets, .num, .dict] := fun c ht => State.evolves_step (State.setCube_evolves _ c) ht rfl
  have hreg : ∀ {t : State} (n v : Nat), s.evolves t [.regs, .frets, .num, .dict] →
      s.evolves (t.setReg 6 n v) [.regs, .frets, .num, .dict] := fun n v ht => State.evolves_step (State.setReg_evolves _ 6 n v) ht rfl
  have hcarry : ∀ {t : State} (c : Int), s.evolves t [.regs, .frets, .num, .dict] →
      s.evolves (t.takeCarries c) [.regs, .frets, .num, .dict] := fun c ht => State.evolves_step (State.takeCarries_evolves _ c) ht rfl
  have h0 := State.evolves_refl s [.regs, .frets, .num, .dict]
  unfold State.startNum
  dsimp only
  rw [State.meetPoison_of_clean h, State.meetPoison_of_clean h]
  refine hnum _ (State.evolves_ite (hcube _ (hnum _ (hnum _ h0))) ?_)
  split
  · exact hcarry _ (State.evolves_ite (hcube _ (hreg _ _ (hnum _ (hnum _ h0)))) (hcube _ (hreg _ _ (hnum _ (hnum _ h0)))))
  · refine State.evolves_step (State.event_evolves _ _ _) ?_ rfl
    refine State.evolves_step (State.orReg_evolves _ _ _ _) ?_ rfl
    exact hreg _ _ (hreg _ _ (hcube _ (hcarry _ (hnum _ (hnum _ h0)))))

/-- Before the first step the passes are those of the loaded images, and the cube is the entry's. -/
theorem State.startNum_first (hstep : s.curStep = 0) : s.startNum.num.passes = s.foundPasses
    ∧ s.startNum.reg 6 Reg.numCube = (s.setCube (Fmt.signed 8 (leNat (s.odBytes (od 0x2100 1))))).reg 6 Reg.numCube := by
  unfold State.startNum
  dsimp only
  rw [State.meetPoison_of_clean h, State.meetPoison_of_clean h]
  have hcur : ∀ n : Num, ({ s with num := n } : State).curStep = 0 := fun _ => hstep
  rw [if_pos (hcur _)]
  refine ⟨?_, ?_⟩
  · exact congrArg Num.passes ((State.setCube_evolves _ _).1 .num rfl)
  · rw [State.setCube_cube]
    exact State.setCube_cube _ _

end

/-! ### The passes that are found (R211) -/

/-- The passes rest on where the images stand, the memory and the settings. -/
theorem State.foundPasses_congr {s t : State} (hlib : t.board.lib = s.board.lib) (hmem : t.mem = s.mem)
    (hod : t.odNat (od 0x2100 3) = s.odNat (od 0x2100 3)) : t.foundPasses = s.foundPasses := by
  have hlibrary : t.library = s.library := by
    unfold State.library
    rw [hlib]
    have himage : t.imageAt = s.imageAt := funext fun a => State.imageAt_of_mem hmem a
    rw [himage]
  unfold State.foundPasses
  rw [hlibrary, hod]

theorem State.sweepTables_lib (s : State) (d : Nat) : (s.sweepTables d).board.lib = s.board.lib := by
  unfold State.sweepTables State.setCDie
  dsimp only
  split <;> rfl

theorem State.recheckSlots_lib (s : State) : s.recheckSlots.board.lib = s.board.lib := by
  unfold State.recheckSlots
  dsimp only
  rw [State.sweepTables_lib, State.sweepTables_lib, (State.mapFrets_evolves _ _ _).1 .board rfl]

theorem State.recheckSlots_foundPasses {s t : State} (hlib : t.board.lib = s.board.lib) (hmem : t.mem = s.mem)
    (hod : t.odNat (od 0x2100 3) = s.odNat (od 0x2100 3)) : t.recheckSlots.foundPasses = s.recheckSlots.foundPasses := by
  have hset := fun u : State => State.odNat_of_keepsSettings
    (State.keepsSettings_evolves (State.recheckSlots_evolves u) rfl (State.keepsSettings_refl u)) (od 0x2100 3)
  refine State.foundPasses_congr ?_ ?_ ?_
  · rw [State.recheckSlots_lib, State.recheckSlots_lib]
    exact hlib
  · rw [(State.recheckSlots_evolves t).1 .mem rfl, (State.recheckSlots_evolves s).1 .mem rfl]
    exact hmem
  · rw [hset, hset]
    exact hod

/-! ### Training enters Running -/

/-- The update unit and the fabric at the start of training. -/
def State.trainingReset (s : State) : State :=
  { s with
    upd := { s.upd with
      rejects := [], rollbacks := 0, replays := 0, recomputes := 0, fault := none, voted := false, applied := false, lost := none
      rolls := 0, rerun := 0, late := none }
    fab := { s.fab with zoneFault := false, seen := (0, 0, 0), tree := [] } }

/-- Training is ready: what it carries has been read. -/
def State.trainingReady (s : State) : State :=
  s.recheckSlots.startNum.trainingReset.metCarries s.recheckSlots.startNum.trainingReset.curStep

theorem State.startTraining_eq (s : State) : s.startTraining =
    (((s.trainingReady.syncOp 1 0 s.trainingReady.committedWord 0).syncOp 1 1 0 0).syncOp 1 2 0 0).syncOp 1 3 0 0 := rfl

theorem State.startTraining_ready (s : State) : s.trainingReady.evolves s.startTraining [.regs, .fab] := by
  rw [State.startTraining_eq]
  refine State.evolves_step (State.syncOp_evolves _ _ _ _ _) (State.evolves_step (State.syncOp_evolves _ _ _ _ _)
    (State.evolves_step (State.syncOp_evolves _ _ _ _ _) (State.syncOp_evolves _ _ _ _ _) rfl) rfl) rfl

theorem State.trainingReady_upd (s : State) : s.trainingReady.upd.recs = s.upd.recs ∧ s.trainingReady.upd.rollbacks = 0 := by
  obtain ⟨hrecs, -, hrollbacks, -⟩ := State.metCarries_keepsRolls s.recheckSlots.startNum.trainingReset
    s.recheckSlots.startNum.trainingReset.curStep
  have hupd : s.recheckSlots.startNum.upd = s.upd := by
    rw [(State.startNum_evolves _).1 .upd rfl, (State.recheckSlots_evolves _).1 .upd rfl]
  exact ⟨hrecs.trans (congrArg (·.recs) hupd : s.recheckSlots.startNum.upd.recs = s.upd.recs), hrollbacks⟩

/-- The sync objects of a step start afresh (R343). -/
theorem State.startTraining_sync (s : State) : s.startTraining.syncObj 0 = s.committedWord % pow2 64
    ∧ s.startTraining.syncObj 1 = 0 ∧ s.startTraining.syncObj 2 = 0 ∧ s.startTraining.syncObj 3 = 0 := by
  have hword : s.trainingReady.committedWord = s.committedWord := by
    unfold State.committedWord
    rw [State.committed_of_recs (State.trainingReady_upd s).1]
  rw [State.startTraining_eq, hword]
  have hother := fun {t : State} {o p : Nat} (hne : p ≠ o) => State.syncObj_syncOp_other t 1 o 0 0 hne
  have hsame := fun (t : State) (o v : Nat) => State.syncObj_syncOp_same t 1 o v 0
  refine ⟨?_, ?_, ?_, ?_⟩
  · rw [hother (by decide), hother (by decide), hother (by decide)]
    exact hsame _ 0 _
  · rw [hother (by decide), hother (by decide)]
    exact hsame _ 1 0
  · rw [hother (by decide)]
    exact hsame _ 2 0
  · exact hsame _ 3 0

section
variable {s : State} (h : s.dram.poison = [])
include h

/-- With no poison met, training is ready as it was set. -/
theorem State.trainingReady_clean : s.trainingReady = s.recheckSlots.startNum.trainingReset := by
  have hpoison : s.recheckSlots.dram.poison = [] := by
    rw [(State.recheckSlots_evolves s).1 .dram rfl]
    exact h
  refine State.metCarries_of_clean ?_ _
  have hdram : s.recheckSlots.startNum.trainingReset.dram = s.recheckSlots.startNum.dram := rfl
  rw [hdram, (State.startNum_evolves_clean hpoison).1 .dram rfl]
  exact hpoison

theorem State.startTraining_clean : s.startTraining.upd.fault = none ∧ s.startTraining.vlk = s.vlk
    ∧ s.startTraining.adm = s.adm := by
  have hpoison : s.recheckSlots.dram.poison = [] := by
    rw [(State.recheckSlots_evolves s).1 .dram rfl]
    exact h
  have hready := State.startTraining_ready s
  have hnum := State.startNum_evolves_clean hpoison
  have hslots := State.recheckSlots_evolves s
  rw [hready.1 .upd rfl, hready.1 .vlk rfl, hready.1 .adm rfl, State.trainingReady_clean h]
  exact ⟨rfl, (hnum.1 .vlk rfl).trans (hslots.1 .vlk rfl), (hnum.1 .adm rfl).trans (hslots.1 .adm rfl)⟩

theorem State.startTraining_first (hstep : s.curStep = 0) : s.startTraining.num.passes = s.recheckSlots.foundPasses
    ∧ s.startTraining.reg 6 Reg.numCube = (s.setCube (Fmt.signed 8 (leNat (s.odBytes (od 0x2100 1))))).reg 6 Reg.numCube := by
  have hpoison : s.recheckSlots.dram.poison = [] := by
    rw [(State.recheckSlots_evolves s).1 .dram rfl]
    exact h
  have hcur : s.recheckSlots.curStep = 0 := by
    unfold State.curStep at hstep ⊢
    rw [State.committed_of_recs (s := s) (by rw [(State.recheckSlots_evolves s).1 .upd rfl])]
    exact hstep
  obtain ⟨hpasses, hcube⟩ := State.startNum_first hpoison hcur
  have hdict : s.recheckSlots.dict = s.dict := (State.recheckSlots_evolves s).1 .dict rfl
  have hbytes : s.recheckSlots.odBytes (od 0x2100 1) = s.odBytes (od 0x2100 1) := by
    unfold State.odBytes State.odWritten
    rw [hdict]
  refine ⟨?_, ?_⟩
  · rw [(State.startTraining_ready s).1 .num rfl, State.trainingReady_clean h]
    exact hpasses
  · rw [State.startTraining_eq, State.reg_syncOp _ _ _ _ _ (by decide), State.reg_syncOp _ _ _ _ _ (by decide),
      State.reg_syncOp _ _ _ _ _ (by decide), State.reg_syncOp _ _ _ _ _ (by decide), State.trainingReady_clean h]
    rw [State.setCube_cube] at hcube ⊢
    rw [← hbytes]
    exact hcube

end

/-! ### The fabric enters Running (R358, R359) -/

theorem State.startFabric_zoneFault (s : State) : s.startFabric.fab.zoneFault = false := by
  unfold State.startFabric
  dsimp only
  split
  · rfl
  · split
    · rw [(State.flag_evolves _ _ _ _).1 .fab rfl, (State.event_evolves _ _ _).1 .fab rfl, (State.flag_evolves _ _ _ _).1 .fab rfl]
    · rw [(State.event_evolves _ _ _).1 .fab rfl, (State.flag_evolves _ _ _ _).1 .fab rfl]

/-- Injection that is armed shows in ZF.STATUS. -/
theorem State.startFabric_injects {s : State} (h : s.odNat (od 0x2580 1) ≠ 0) :
    (s.startFabric.reg 6 Reg.zfStatus).testBit 5 = true := by
  have hshown : ∀ (t : State) (code : Nat) (params : Bytes),
      (((t.flag 6 Reg.zfStatus 5).event code params).reg 6 Reg.zfStatus).testBit 5 = true := by
    intro t code params
    rw [State.reg_of_onlyRegs (State.event_onlyRegs _ _ _) (by decide)]
    exact State.flag_testBit _ _ _ _ (by decide)
  unfold State.startFabric
  dsimp only
  split
  · next hzero => exact absurd hzero h
  · split
    · rw [State.reg_flag_other _ _ _ _ _ _ (regKey_ne 6 (by decide))]
      exact hshown _ _ _
    · exact hshown _ _ _

/-! ### A start that passes -/

theorem State.startWork_keepsSettings (s : State) (fn : Nat) : s.keepsSettings (s.startWork fn) := by
  unfold State.startWork
  split
  · exact State.startTraining_keepsSettings s
  · exact State.startFabric_keepsSettings s
  · exact State.keepsSettings_refl s
  · exact State.keepsSettings_refl s

theorem State.odBytes_of_dict {s t : State} (hod : t.dict.od = s.dict.od) (hbefore : t.dict.before = s.dict.before) (k : Nat) :
    t.odBytes k = s.odBytes k := by
  unfold State.odBytes State.odWritten
  rw [hod, hbefore]

section
variable (s : State) (fn : Nat)

theorem State.startRefused_evolves (w : Nat) : s.evolves (s.startRefused fn w) [.dict] :=
  State.evolves_set_dict rfl (fun ⟨hlog, hlen⟩ => ⟨hlog, (List.length_set ..).trans hlen⟩) (State.evolves_refl s _)

theorem State.startEntered_evolves : s.evolves (s.startEntered fn) [.dict] :=
  State.evolves_set_dict rfl (fun ⟨hlog, hlen⟩ => ⟨hlog, (List.length_set ..).trans hlen⟩) (State.evolves_refl s _)

/-- Training's start, after the values written are in use. -/
theorem State.startTraining_entered : (s.startEntered 0).startTraining.syncObj 0 = s.committedWord % pow2 64
    ∧ (s.startEntered 0).startTraining.syncObj 1 = 0 ∧ (s.startEntered 0).startTraining.syncObj 2 = 0
    ∧ (s.startEntered 0).startTraining.syncObj 3 = 0 ∧ (s.startEntered 0).startTraining.upd.rollbacks = 0
    ∧ (s.startEntered 0).startTraining.upd.recs = s.upd.recs := by
  obtain ⟨hcommit, hstep, hext, hdelay⟩ := State.startTraining_sync (s.startEntered 0)
  obtain ⟨hrecs, hrollbacks⟩ := State.trainingReady_upd (s.startEntered 0)
  have hupd := (State.startTraining_ready (s.startEntered 0)).1 .upd rfl
  refine ⟨hcommit, hstep, hext, hdelay, ?_, ?_⟩
  · rw [hupd]
    exact hrollbacks
  · rw [hupd]
    exact hrecs

end

/-- The state in which the values that were written for a function are in use (R406). -/
theorem State.startTraining_entered_first {s : State} (h : s.dram.poison = []) (hstep : s.curStep = 0) :
    (s.startEntered 0).startTraining.num.passes = (s.useWritten 0).recheckSlots.foundPasses
    ∧ (s.startEntered 0).startTraining.reg 6 Reg.numCube
      = (s.setCube (Fmt.signed 8 (leNat ((s.useWritten 0).odBytes (od 0x2100 1))))).reg 6 Reg.numCube := by
  obtain ⟨hpasses, hcube⟩ := State.startTraining_first (s := s.startEntered 0) h hstep
  have hbytes := State.odBytes_of_dict (s := s.useWritten 0) (t := s.startEntered 0) rfl rfl
  refine ⟨hpasses.trans ?_, hcube.trans ?_⟩
  · refine State.recheckSlots_foundPasses rfl rfl ?_
    unfold State.odNat
    rw [hbytes]
  · rw [hbytes, State.setCube_cube, State.setCube_cube]

/-- What a start that passes does, function by function. -/
theorem execFunctionStart_enters {s : State} (hsound : s.sound) (fn : Fin 5) (hstate : s.fnState fn.val = 0 ∨ s.fnState fn.val = 2)
    (hfound : ({ s with dict := { s.dict with fn := s.dict.fn.set fn.val 2, before := [] } } : State).startRefusal fn.val = none) :
    exec (.functionStart fn) s = .next ((s.startEntered fn.val).startWork fn.val) := by
  have hlen : fn.val < s.dict.fn.length := by
    obtain ⟨-, hlen⟩ := hsound .dict
    rw [hlen]
    exact fn.isLt
  refine congrArg Host.Outcome.next ?_
  rw [State.startWrite_starting hlen hstate]
  exact State.finishStart_enters hlen hfound

theorem execFunctionStart_refuses {s : State} (hsound : s.sound) (fn : Fin 5) (hstate : s.fnState fn.val = 0 ∨ s.fnState fn.val = 2)
    {w : Nat}
    (hfound : ({ s with dict := { s.dict with fn := s.dict.fn.set fn.val 2, before := [] } } : State).startRefusal fn.val = some w) :
    exec (.functionStart fn) s = .next (s.startRefused fn.val w) := by
  have hlen : fn.val < s.dict.fn.length := by
    obtain ⟨-, hlen⟩ := hsound .dict
    rw [hlen]
    exact fn.isLt
  refine congrArg Host.Outcome.next ?_
  rw [State.startWrite_starting hlen hstate]
  exact State.finishStart_refused hlen hfound

end Sys2Proof.Machine

/-! Stops of functions (R110, R299, R401, R403, R405). -/

namespace Sys2Proof.Machine

/-! ### Frames that leave the store -/

/-- Each frame of the later list has the type, the step and the wait of one of the earlier. -/
def framesFrom (a b : List HeldFrame) : Prop :=
  ∀ g ∈ b, ∃ f ∈ a, g.isEvents = f.isEvents ∧ g.step = f.step ∧ g.waiting = f.waiting

theorem framesFrom_refl (a : List HeldFrame) : framesFrom a a := fun g hg => ⟨g, hg, rfl, rfl, rfl⟩

/-- No EVENTS frame of a step of which this holds is left, but those that wait for admission's decision. -/
def noFrames (a : List HeldFrame) (p : Nat → Prop) : Prop := ∀ f ∈ a, f.isEvents = true → f.waiting ≠ 1 → ¬ p f.step

theorem noFrames_subset {a b : List HeldFrame} {p : Nat → Prop} (h : b ⊆ a) (ha : noFrames a p) : noFrames b p :=
  fun f hf => ha f (h hf)

theorem State.sendStatus_frames (s : State) (recs : List (Nat × Nat × Nat × Nat × Nat × Nat)) :
    (s.sendStatus recs).adm.frames = s.adm.frames := by
  unfold State.sendStatus State.sendStatusFor
  dsimp only
  split
  · rfl
  · rw [(State.sendFrame_evolves _ _ _ _ _ _ _ _).1 .adm rfl]

/-- A broken promise gives frames new bounds; one that will not complete leaves. -/
theorem State.breakFrames_frames (s : State) (cls step : Nat) (news : List (Nat × Nat)) :
    framesFrom s.adm.frames (s.breakFrames cls step news).adm.frames := by
  unfold State.breakFrames State.releaseNever
  dsimp only
  split
  · exact framesFrom_refl _
  · intro g hg
    obtain ⟨f, hf, rfl⟩ := List.mem_map.mp (List.mem_filter.mp hg).1
    refine ⟨f, ?_, ?_⟩
    · have hsent : f ∈ ((s.event _ _).sendStatus _).adm.frames := hf
      rw [State.sendStatus_frames, (State.event_evolves s _ _).1 .adm rfl] at hsent
      exact hsent
    · split <;> exact ⟨rfl, rfl, rfl⟩

theorem State.refuse_frames (s : State) (f : Bytes) (r : Turn) : (s.refuse f r).adm.frames = s.adm.frames := by
  unfold State.refuse State.refuseId
  dsimp only
  rw [(State.sendFrame_evolves _ _ _ _ _ _ _ _).1 .adm rfl]
  exact congrArg (·.frames) ((State.event_evolves s 0x0502 (u8 r.cause ++ u8 (frType f) ++ u32 (frId f) ++ u64 (frStep f))).1 .adm rfl)

theorem State.discardFrames_frames (s : State) (step : Nat) :
    (s.discardFrames step).adm.frames = s.adm.frames.filter fun f => !(f.isEvents && f.step = step && f.waiting ≠ 1) := by
  have hrefused : ∀ (l : List HeldFrame) (t : State),
      (l.foldl (fun s f => s.refuse f.bytes ⟨cLength, cap32 f.ext, 0⟩) t).adm.frames = t.adm.frames := by
    intro l
    induction l with
    | nil => exact fun _ => rfl
    | cons f l ih => exact fun t => (ih _).trans (State.refuse_frames _ _ _)
  unfold State.discardFrames
  dsimp only
  rw [hrefused]

/-- The frames of every step of a list are discarded. -/
theorem State.foldl_discardFrames (ks : List Nat) (s : State) :
    (ks.foldl (fun s k => s.discardFrames k) s).adm.frames ⊆ s.adm.frames
    ∧ noFrames (ks.foldl (fun s k => s.discardFrames k) s).adm.frames (· ∈ ks) := by
  induction ks generalizing s with
  | nil => exact ⟨fun _ h => h, fun _ _ _ _ h => absurd h List.not_mem_nil⟩
  | cons k ks ih =>
    obtain ⟨hsub, hnone⟩ := ih (s.discardFrames k)
    rw [State.discardFrames_frames] at hsub
    refine ⟨fun f hf => (List.mem_filter.mp (hsub hf)).1, fun f hf hevents hwait hmem => ?_⟩
    rcases List.mem_cons.mp hmem with hk | hk
    · have hkeep := (List.mem_filter.mp (hsub hf)).2
      simp [hevents, hwait, hk] at hkeep
    · exact hnone f hf hevents hwait hk

/-- No frame of the step or of a later one is left (R405). -/
theorem State.dropFrom_frames (s : State) (step : Nat) : noFrames (s.dropFrom step).adm.frames (step ≤ ·) := by
  intro f hf hevents hwait hstep
  unfold State.dropFrom at hf
  dsimp only at hf
  obtain ⟨hsub, hnone⟩ := State.foldl_discardFrames
    (((s.adm.frames.filter fun f => f.isEvents && decide (step ≤ f.step)).map (·.step)).eraseDups)
    (s.breakFrames 0x0B step (((s.adm.frames.filter fun f => f.isEvents && decide (step ≤ f.step)).filter HeldFrame.inFlight).map
      fun f => (f.id, never)))
  obtain ⟨f0, hf0, hevents0, hstep0, -⟩ := State.breakFrames_frames s 0x0B step _ f (hsub hf)
  refine hnone f hf hevents hwait (List.mem_eraseDups.mpr (List.mem_map.mpr ⟨f0, List.mem_filter.mpr ⟨hf0, ?_⟩, hstep0.symm⟩))
  rw [← hevents0, ← hstep0, hevents]
  simpa using hstep

/-! ### Settings that a stop keeps -/

theorem State.refuse_keepsSettings (s : State) (f : Bytes) (r : Turn) : s.keepsSettings (s.refuse f r) := by
  unfold State.refuse State.refuseId
  refine State.keepsSettings_evolves (State.sendFrame_evolves _ _ _ _ _ _ _ _) rfl (State.keepsSettings_set_adm ?_)
  refine State.keepsSettings_evolves (State.setReg_evolves _ _ _ _) rfl ?_
  refine State.keepsSettings_evolves (State.flag_evolves _ _ _ _) rfl ?_
  exact State.keepsSettings_evolves (State.bump_evolves _ _ _ _) rfl (State.event_keepsSettings _ _ _)

theorem State.discardFrames_keepsSettings (s : State) (step : Nat) : s.keepsSettings (s.discardFrames step) :=
  State.keepsSettings_set_adm (State.keepsSettings_foldl (fun _ _ => State.refuse_keepsSettings _ _ _) _ (State.keepsSettings_refl s))

theorem State.dropFrom_keepsSettings (s : State) (step : Nat) : s.keepsSettings (s.dropFrom step) :=
  State.keepsSettings_foldl State.discardFrames_keepsSettings _ (State.breakFrames_keepsSettings _ _ _ _)

theorem State.recordTime_keepsSettings (s : State) (die vid cycles bound : Nat) : s.keepsSettings (s.recordTime die vid cycles bound) :=
  State.keepsSettings_ite (State.keepsSettings_set_num (State.keepsSettings_refl s)) (State.keepsSettings_refl s)

theorem State.leavePhase_keepsSettings (s : State) (i : Nat) : s.keepsSettings (s.leavePhase i) := by
  have htold : ∀ (t : State) (c : Prop) [Decidable c] (code : Nat) (params : Bytes), s.keepsSettings t →
      s.keepsSettings (if c then t else t.event code params) := fun _ _ _ _ _ h =>
    State.keepsSettings_ite h (State.keepsSettings_step (State.event_keepsSettings _ _ _) h)
  have hboard := fun g => State.keepsSettings_evolves (State.updBoard_evolves s g) rfl (State.keepsSettings_refl s)
  unfold State.leavePhase
  dsimp only
  split
  · exact State.keepsSettings_refl s
  · split
    · exact State.keepsSettings_step (State.recordTime_keepsSettings _ _ _ _ _) (htold _ _ _ _ (htold _ _ _ _ (hboard _)))
    · exact hboard _

theorem State.endUncosted_keepsSettings (s : State) : s.keepsSettings s.endUncosted :=
  State.keepsSettings_foldl (fun _ _ => State.keepsSettings_ite
    (State.keepsSettings_evolves (State.updFret_evolves _ _ _) rfl (State.leavePhase_keepsSettings _ _)) (State.keepsSettings_refl _))
    _ (State.keepsSettings_refl s)

/-! ### The end of training -/

theorem State.abandonSnap_upd (s : State) : s.abandonSnap.upd = { s.upd with snap := none } := by
  have hclear : ∀ (l : List Nat) (t : State), (l.foldl (fun s d => s.clearReg d Reg.updStatus 2) t).upd = t.upd := by
    intro l
    induction l with
    | nil => exact fun _ => rfl
    | cons d l ih => exact fun t => ih _
  unfold State.abandonSnap
  split
  · next h =>
    rw [← h]
  · dsimp only
    rw [hclear, (State.sendStatus_evolves _ _).1 .upd rfl]

theorem State.abandonSnap_frames (s : State) : s.abandonSnap.adm.frames ⊆ s.adm.frames := by
  have hclear : ∀ (l : List Nat) (t : State), (l.foldl (fun s d => s.clearReg d Reg.updStatus 2) t).adm = t.adm := by
    intro l
    induction l with
    | nil => exact fun _ => rfl
    | cons d l ih => exact fun t => ih _
  unfold State.abandonSnap
  split
  · exact fun _ h => h
  · dsimp only
    rw [hclear, State.sendStatus_frames]
    exact fun f hf => (List.mem_filter.mp hf).1

theorem State.stopTraining_fn (s : State) : s.stopTraining.dict.fn = s.dict.fn.set 0 0 := by
  unfold State.stopTraining
  rw [(State.abandonSnap_evolves _).1 .dict rfl]
  exact congrArg (·.set 0 0) (State.fn_of_keepsSettings (State.endUncosted_keepsSettings s))

theorem State.stopTraining_upd (s : State) : s.stopTraining.upd = { s.upd with snap := none } := by
  unfold State.stopTraining
  rw [State.abandonSnap_upd]
  exact congrArg (fun u : Upd => { u with snap := none }) ((State.endUncosted_evolves s).1 .upd rfl)

theorem State.stopTraining_frames (s : State) : s.stopTraining.adm.frames ⊆ s.adm.frames := by
  have hadm : (s.endUncosted.setFn 0 0).adm = s.adm := (State.endUncosted_evolves s).1 .adm rfl
  rw [← hadm]
  exact State.abandonSnap_frames _

theorem State.stopTraining_keepsRolls (s : State) : s.keepsRolls s.stopTraining := by
  unfold State.keepsRolls
  rw [State.stopTraining_upd]
  exact ⟨rfl, rfl, rfl, rfl⟩

/-! ### Operations over the listed frets -/

/-- In the canonical form each key stands once, with the value that reads there. -/
theorem SMap.keys_of_wf {β : Type} [DecidableEq β] (d : β) (m : SMap β) (lo : Nat) (h : SMap.wfFrom d lo m = true) :
    (m.map (·.1)).Nodup ∧ (∀ q ∈ m, lo ≤ q.1) ∧ ∀ q ∈ m, SMap.get d m q.1 = q.2 := by
  induction m generalizing lo with
  | nil => simp
  | cons p m ih =>
    obtain ⟨k, v⟩ := p
    simp only [SMap.wfFrom, Bool.and_eq_true, decide_eq_true_eq] at h
    obtain ⟨⟨hlo, -⟩, hrest⟩ := h
    obtain ⟨hnodup, hlow, hget⟩ := ih (k + 1) hrest
    refine ⟨List.nodup_cons.mpr ⟨fun hmem => ?_, hnodup⟩, fun q hq => ?_, fun q hq => ?_⟩
    · obtain ⟨q, hq, hqk⟩ := List.mem_map.mp hmem
      have hge := hlow q hq
      dsimp only at hqk
      omega
    · rcases List.mem_cons.mp hq with rfl | hq
      · exact hlo
      · exact Nat.le_trans (by omega) (hlow q hq)
    · rcases List.mem_cons.mp hq with rfl | hq
      · exact if_pos rfl
      · have hge := hlow q hq
        exact (if_neg (by omega)).trans (hget q hq)

/-- An operation on each listed fret, which touches that fret only, does so once. -/
theorem State.fret_foldl_listed (op : State → Nat × Fret → State) (e : Nat → Fret → Fret)
    (hother : ∀ t q j, j ≠ q.1 → (op t q).fret j = t.fret j)
    (hsame : ∀ t q, t.fret q.1 = q.2 → (op t q).fret q.1 = e q.1 q.2)
    (l : List (Nat × Fret)) (hl : (l.map (·.1)).Nodup) (t : State) (ht : ∀ q ∈ l, t.fret q.1 = q.2) (j : Nat) :
    (l.foldl op t).fret j = if j ∈ l.map (·.1) then e j (t.fret j) else t.fret j := by
  induction l generalizing t with
  | nil => simp
  | cons q l ih =>
    obtain ⟨hq, hl⟩ := List.nodup_cons.mp hl
    have hrest : ∀ x ∈ l, (op t q).fret x.1 = x.2 := fun x hx => by
      rw [hother _ _ _ fun heq => hq (List.mem_map.mpr ⟨x, hx, heq⟩)]
      exact ht x (List.mem_cons_of_mem _ hx)
    rw [List.foldl_cons, ih hl _ hrest]
    by_cases hj : j = q.1
    · subst hj
      have hread := ht q List.mem_cons_self
      rw [if_neg hq, hsame _ _ hread, hread, if_pos (by simp)]
    · rw [hother _ _ _ hj]
      simp only [List.map_cons, List.mem_cons, hj, false_or]

theorem State.fret_foldl_frets {s : State} (h : s.sound) (op : State → Nat × Fret → State) (e : Nat → Fret → Fret)
    (hother : ∀ t q j, j ≠ q.1 → (op t q).fret j = t.fret j)
    (hsame : ∀ t q, t.fret q.1 = q.2 → (op t q).fret q.1 = e q.1 q.2)
    (hreset : ∀ j, e j Fret.reset = Fret.reset) (j : Nat) : (s.frets.foldl op s).fret j = e j (s.fret j) := by
  have hwf : SMap.wfFrom Fret.reset 0 s.frets = true := h .frets
  obtain ⟨hnodup, -, hget⟩ := SMap.keys_of_wf Fret.reset s.frets 0 hwf
  rw [State.fret_foldl_listed op e hother hsame s.frets hnodup s hget]
  split
  · rfl
  · next hout =>
    have hnone : s.fret j = Fret.reset := SMap.get_none _ _ _ fun p hp heq => hout (List.mem_map.mpr ⟨p, hp, heq⟩)
    rw [hnone, hreset]

/-- Every fret that meets the test is changed, and no other. -/
theorem State.mapFrets_fret {s : State} (h : s.sound) (p : Nat → Fret → Bool) (g : Nat → Fret → Fret)
    (hreset : ∀ j, p j Fret.reset = false) (j : Nat) :
    (s.mapFrets p g).fret j = if p j (s.fret j) = true then g j (s.fret j) else s.fret j := by
  refine State.fret_foldl_frets h (fun s q => if p q.1 q.2 then s.setFret q.1 (g q.1 q.2) else s)
    (fun j f => if p j f = true then g j f else f) (fun t q j hj => ?_) (fun t q hq => ?_) (fun j => ?_) j
  · split
    · exact State.fret_setFret_other _ _ _ _ hj
    · rfl
  · split
    · exact State.fret_setFret_same _ _ _
    · exact hq
  · rw [hreset]
    rfl

/-- The fret after the end of its uncosted phase (R110). -/
def Fret.costEnded (f : Fret) : Fret :=
  if f.uncosted then { f with run := 0, stall := .none, recv := none, phase := none } else f

theorem State.stopTraining_fret {s : State} (h : s.sound) (j : Nat) : s.stopTraining.fret j = (s.fret j).costEnded := by
  have hended : s.endUncosted.fret j = (s.fret j).costEnded := by
    refine State.fret_foldl_frets h (fun s q => if q.2.uncosted then
      (s.leavePhase q.1).updFret q.1 fun f => { f with run := 0, stall := .none, recv := none, phase := none } else s)
      (fun _ f => f.costEnded) (fun t q j hj => ?_) (fun t q hq => ?_) (fun j => ?_) j
    · split
      · rw [State.fret_updFret_other _ _ _ _ hj, State.fret_evolves (State.leavePhase_evolves _ _) rfl]
      · rfl
    · unfold Fret.costEnded
      split
      · rw [State.fret_updFret_same, State.fret_evolves (State.leavePhase_evolves _ _) rfl, hq]
      · exact hq
    · rfl
  rw [← hended]
  exact State.fret_evolves (State.abandonSnap_evolves _) rfl j

end Sys2Proof.Machine

/-! FUNCTION_START, FUNCTION_STOP and STOPPING_COMPLETE (R110, R401, R403 to R407). -/

namespace Sys2Proof.Machine

/-! ### The rollback of a step that lacks frames (R293, R405) -/

theorem State.keepsRolls_set_emb {s t : State} {e : Emb} (h : s.keepsRolls t) : s.keepsRolls { t with emb := e } := h

theorem State.keepsRolls_set_fab {s t : State} {a : Fab} (h : s.keepsRolls t) : s.keepsRolls { t with fab := a } := h

theorem State.emptyJournals_keepsRolls (s : State) : s.keepsRolls s.emptyJournals := by
  have hregs : ∀ (l : List Nat) (t : State), (l.foldl (fun s d => s.setReg d Reg.updJournalBytes 0) t).upd = t.upd := by
    intro l
    induction l with
    | nil => exact fun _ => rfl
    | cons d l ih => exact fun t => ih _
  unfold State.emptyJournals State.keepsRolls
  dsimp only
  rw [hregs]
  exact ⟨rfl, rfl, rfl, rfl⟩

/-- A rollback counts as one of the step, and the commit records stay. The names are those of the model's stages: the frets stop,
promises are broken, the journal is written back, and each unit takes back what it holds of the step. -/
theorem State.rollback_rolls (s : State) (cause lowest : Nat) :
    (s.rollback cause 1 lowest).upd.recs = s.upd.recs ∧ (s.rollback cause 1 lowest).upd.rolls = s.upd.rolls + 1 := by
  unfold State.rollback
  extract_lets step stopped told broken back rewound emptied reverted restored cleared served fab untreed upd counted logged
  have hstopped : s.keepsRolls stopped := State.keepsRolls_evolves (State.stopFrets_evolves _ _) rfl (State.keepsRolls_refl s)
  have hbroken : s.keepsRolls broken :=
    State.keepsRolls_ite hstopped (State.keepsRolls_evolves (State.breakStep_evolves _ _ _) rfl hstopped)
  have hback : s.keepsRolls back.1 := State.keepsRolls_evolves (State.rewind_evolves _) rfl hbroken
  have hrewound : s.keepsRolls rewound :=
    State.keepsRolls_ite hback (State.keepsRolls_step (State.stopTraining_keepsRolls _) hback)
  have hemptied : s.keepsRolls emptied := State.keepsRolls_step (State.emptyJournals_keepsRolls _) hrewound
  have hreverted : s.keepsRolls reverted :=
    State.keepsRolls_evolves (State.revertNum_evolves _ _) rfl (State.keepsRolls_set_emb hemptied)
  have hrestored : s.keepsRolls restored := State.keepsRolls_evolves (State.restoreCarries_evolves _ _ _) rfl hreverted
  have hcleared : s.keepsRolls cleared := State.keepsRolls_evolves (State.updBoard_evolves _ _) rfl
    (State.keepsRolls_evolves (State.emptyLanes_evolves _) rfl hrestored)
  have hserved : s.keepsRolls served := State.keepsRolls_evolves (State.serveWindows_evolves _) rfl hcleared
  have huntreed : s.keepsRolls untreed := State.keepsRolls_set_fab hserved
  obtain ⟨hrecs, hrolls, -⟩ := huntreed
  have hlogged : logged.upd = counted.upd := (State.event_evolves _ _ _).1 .upd rfl
  rw [if_neg (by decide), hlogged]
  exact ⟨hrecs, congrArg (· + 1) hrolls⟩

/-! ### Training moves to Stopping (R405) -/

section
variable {s : State}

theorem getD_set_zero {fn : List Nat} (h : fn.getD 0 0 = 1) (v : Nat) : (fn.set 0 v).getD 0 0 = v := by
  cases fn with
  | nil => cases h
  | cons a l => rfl

theorem State.beginStopping_whole (h : s.stepWhole = true) : s.beginStopping = (s.setFn 0 3).dropFrom (s.curStep + 1) :=
  if_pos h

theorem State.stepWhole_of_none (h : s.stepFrames s.curStep = []) : s.stepWhole = false := by
  unfold State.stepWhole
  rw [h]
  rfl

theorem State.beginStopping_idle (h : s.stepFrames s.curStep = []) :
    s.beginStopping = ((s.setFn 0 3).dropFrom s.curStep).stopTraining := by
  have hwhole : ¬ (s.setFn 0 3).stepWhole = true := by
    rw [show (s.setFn 0 3).stepWhole = s.stepWhole from rfl, State.stepWhole_of_none h]
    decide
  have hnone : ((s.setFn 0 3).stepFrames (s.setFn 0 3).curStep).isEmpty = true := List.isEmpty_iff.mpr h
  unfold State.beginStopping
  dsimp only
  rw [if_neg hwhole, if_pos hnone]
  rfl

end

/-- The frets that stand stopped halt, and nothing of the step runs again (R405). -/
def State.haltStopped (s : State) (tree : List TreeOp) : State :=
  let s : State := s.mapFrets (fun _ f => f.run = 2) fun _ f => { f with run := 0 }
  { s with upd := { s.upd with rerun := 0 }, fab := { s.fab with tree := if 1 < s.modules then tree else [] } }

section
variable (s : State) (tree : List TreeOp)

theorem State.haltStopped_evolves : s.evolves (s.haltStopped tree) [.frets, .upd, .fab] :=
  State.evolves_set_upd_fab rfl (fun h => h) (fun h => h) (State.evolves_wider (State.mapFrets_evolves _ _ _) rfl)

theorem State.haltStopped_upd : (s.haltStopped tree).upd = { s.upd with rerun := 0 } :=
  congrArg (fun u : Upd => { u with rerun := 0 }) ((State.mapFrets_evolves s _ _).1 .upd rfl)

theorem State.haltStopped_run (h : s.sound) (i : Nat) : ((s.haltStopped tree).fret i).run ≠ 2 := by
  have hfret : (s.haltStopped tree).fret i = (s.mapFrets (fun _ f => f.run = 2) fun _ f => { f with run := 0 }).fret i := rfl
  rw [hfret, State.mapFrets_fret h _ _ (fun _ => rfl)]
  split
  · exact (by decide : (0 : Nat) ≠ 2)
  · next hne => exact fun hr => hne (decide_eq_true hr)

end

/-- The fault of a step that lacks frames, which rolls it back. -/
def State.lackFault (s : State) : State := ((s.setFn 0 3).dropFrom (s.setFn 0 3).curStep).setFault 0x0B

/-- The step that lacks frames is rolled back. -/
def State.lackRolled (s : State) (step : Nat) : State := (s.rollback 0x0B 1 s.rank).metCarries step

theorem State.beginStopping_lacks {s : State} (h : s.stepWhole = false) (hsome : s.stepFrames s.curStep ≠ []) :
    s.beginStopping = ((s.lackFault.lackRolled (s.setFn 0 3).curStep).haltStopped s.lackFault.fab.tree).stopTraining := by
  have hwhole : ¬ (s.setFn 0 3).stepWhole = true := by
    rw [show (s.setFn 0 3).stepWhole = s.stepWhole from rfl, h]
    decide
  have hnone : ¬ ((s.setFn 0 3).stepFrames (s.setFn 0 3).curStep).isEmpty = true := fun he => hsome (List.isEmpty_iff.mp he)
  unfold State.beginStopping State.lackFault State.lackRolled State.haltStopped
  dsimp only
  rw [if_neg hwhole, if_neg hnone]

section
variable (s : State) (step : Nat)

theorem State.lackRolled_rolls : (s.lackRolled step).upd.recs = s.upd.recs ∧ (s.lackRolled step).upd.rolls = s.upd.rolls + 1 := by
  obtain ⟨hmet, hmetRolls, -⟩ := State.metCarries_keepsRolls (s.rollback 0x0B 1 s.rank) step
  obtain ⟨hroll, hrolls⟩ := State.rollback_rolls s 0x0B s.rank
  unfold State.lackRolled
  rw [hmet, hroll, hmetRolls, hrolls]
  exact ⟨rfl, rfl⟩

theorem State.lackRolled_sound (h : s.sound) : (s.lackRolled step).sound :=
  (State.metCarries_evolves _ _).2 ((State.rollback_evolves _ _ _ _).2 h)

theorem State.lackFault_rolls : s.lackFault.upd.recs = s.upd.recs ∧ s.lackFault.upd.rolls = s.upd.rolls := by
  obtain ⟨hrecs, hrolls, -⟩ := State.setFault_keepsRolls ((s.setFn 0 3).dropFrom (s.setFn 0 3).curStep) 0x0B
  have hdrop : ((s.setFn 0 3).dropFrom (s.setFn 0 3).curStep).upd = s.upd := (State.dropFrom_evolves _ _).1 .upd rfl
  rw [hdrop] at hrecs hrolls
  exact ⟨hrecs, hrolls⟩

theorem State.lackFault_sound (h : s.sound) : s.lackFault.sound :=
  (State.setFault_evolves _ _).2 ((State.dropFrom_evolves _ _).2 ((State.setFn_evolves _ _ _).2 h))

end

theorem State.stopTraining_fnState (s : State) : s.stopTraining.fnState 0 = 0 := by
  unfold State.fnState
  rw [State.stopTraining_fn]
  cases s.dict.fn <;> rfl

theorem State.stopTraining_run {s : State} (h : s.sound) {i : Nat} (hrun : (s.fret i).run ≠ 2) : (s.stopTraining.fret i).run ≠ 2 := by
  rw [State.stopTraining_fret h]
  unfold Fret.costEnded
  split
  · exact (by decide : (0 : Nat) ≠ 2)
  · exact hrun

/-! ### FUNCTION_STOP (R401, R403, R405) -/

section
variable {s : State}

/-- A function that another one in use needs does not stop, nor one that does not run. -/
theorem execFunctionStop_stays (fn : Fin 5) (h : s.fnState fn.val = 0 ∨ s.fnState fn.val = 2 ∨ s.fnState fn.val = 3
    ∨ ∃ k, k < 5 ∧ fn.val ∈ s.needed k ∧ s.fnState k ≠ 0) : s.stays (.functionStop fn) := by
  refine congrArg Host.Outcome.next ?_
  unfold State.functionStop
  split
  · rfl
  · next hrun =>
    split
    · rfl
    · next hfree =>
      split
      · rfl
      · next hstarting =>
        rcases h with h | h | h | ⟨k, hk, hneeds, hstate⟩
        · exact absurd (by simp [h]) hrun
        · exact absurd h hstarting
        · exact absurd (by simp [h]) hrun
        · refine absurd ?_ hfree
          unfold State.dependants
          refine List.any_eq_true.mpr ⟨k, List.mem_filter.mpr ⟨List.mem_range.mpr hk, List.contains_iff_mem.mpr hneeds⟩, ?_⟩
          exact decide_eq_true hstate

/-- Else its work ends. -/
theorem execFunctionStop_stops (fn : Fin 5) (hrun : s.fnState fn.val = 1)
    (hfree : ∀ k, k < 5 → fn.val ∈ s.needed k → s.fnState k = 0) :
    exec (.functionStop fn) s = .next (if fn.val = 0 then s.beginStopping else s.stopOther fn.val) := by
  refine congrArg Host.Outcome.next ?_
  have hnone : ¬ ((s.dependants fn.val).any fun k => s.fnState k ≠ 0) = true := by
    intro hany
    obtain ⟨k, hk, hstate⟩ := List.any_eq_true.mp hany
    obtain ⟨hrange, hneeds⟩ := List.mem_filter.mp hk
    exact of_decide_eq_true hstate (hfree k (List.mem_range.mp hrange) (List.contains_iff_mem.mp hneeds))
  unfold State.functionStop
  rw [if_neg (by simp [hrun]), if_neg hnone, if_neg (by rw [hrun]; decide)]

/-- Only the snapshot needs training. -/
theorem State.needed_mem_training {k : Nat} (h : 0 ∈ s.needed k) : k = 4 := by
  unfold State.needed at h
  split at h
  · split at h <;> simp at h
  · rfl
  · exact absurd h List.not_mem_nil

/-- Each function but training becomes Stopped. -/
theorem State.stopOther_fn (fn : Nat) : (s.stopOther fn).dict.fn = s.dict.fn.set fn 0 := by
  unfold State.stopOther
  dsimp only
  split
  · rfl
  · exact State.fn_of_keepsSettings (State.breakFrames_keepsSettings _ _ _ _)
  · rw [(State.abandonSnap_evolves _).1 .dict rfl]
    rfl
  · rfl

theorem State.stopOther_upd {fn : Nat} (hfn : fn ≠ 4) : (s.stopOther fn).upd = s.upd := by
  unfold State.stopOther
  dsimp only
  split
  · rfl
  · exact (State.breakFrames_evolves _ _ _ _).1 .upd rfl
  · exact absurd rfl hfn
  · rfl

theorem State.stopOther_snapshot : (s.stopOther 4).upd = { s.upd with snap := none } :=
  State.abandonSnap_upd (s.setFn 4 0)

/-- The fabric forgets its requests, its copies and what came in, and the waits of other modules. -/
theorem State.stopOther_fabric : (s.stopOther 2).fab.reqs = [] ∧ (s.stopOther 2).fab.copies = [] ∧ (s.stopOther 2).fab.inbox = []
    ∧ (∀ w ∈ (s.stopOther 2).fab.waits, w.remote = false) ∧ (s.stopOther 2).fab.ports = s.fab.ports := by
  refine ⟨rfl, rfl, rfl, fun w hw => ?_, rfl⟩
  have hkept : w ∈ s.fab.waits.filter fun w => !w.remote := hw
  simpa using (List.mem_filter.mp hkept).2

/-- Stopping: the frames of later steps leave, and nothing else of the step in progress. -/
theorem State.beginStopping_stopping (hstate : s.fnState 0 = 1) (h : s.stepWhole = true) : s.beginStopping.fnState 0 = 3
    ∧ s.beginStopping.mem = s.mem ∧ s.beginStopping.frets = s.frets ∧ s.beginStopping.upd = s.upd
    ∧ noFrames s.beginStopping.adm.frames (s.curStep + 1 ≤ ·) := by
  rw [State.beginStopping_whole h]
  have hdrop := State.dropFrom_evolves (s.setFn 0 3) (s.curStep + 1)
  refine ⟨?_, hdrop.1 .mem rfl, hdrop.1 .frets rfl, hdrop.1 .upd rfl, State.dropFrom_frames _ _⟩
  unfold State.fnState
  rw [State.fn_of_keepsSettings (State.dropFrom_keepsSettings _ _)]
  exact getD_set_zero hstate 3

/-- With no frame of the step, training is Stopped at once. -/
theorem State.beginStopping_stopped (hsound : s.sound) (h : s.stepFrames s.curStep = []) : s.beginStopping.fnState 0 = 0
    ∧ s.beginStopping.mem = s.mem ∧ (∀ i, s.beginStopping.fret i = (s.fret i).costEnded)
    ∧ noFrames s.beginStopping.adm.frames (s.curStep ≤ ·) := by
  rw [State.beginStopping_idle h]
  have hdrop := State.dropFrom_evolves (s.setFn 0 3) s.curStep
  have hdropped := hdrop.2 ((State.setFn_evolves s 0 3).2 hsound)
  refine ⟨State.stopTraining_fnState _, ?_, fun i => ?_,
    noFrames_subset (State.stopTraining_frames _) (State.dropFrom_frames _ _)⟩
  · rw [(State.stopTraining_evolves _).1 .mem rfl, hdrop.1 .mem rfl]
    rfl
  · rw [State.stopTraining_fret hdropped, State.fret_evolves hdrop rfl]
    rfl

/-- A step that lacks frames is rolled back, and training is Stopped. -/
theorem State.beginStopping_rolledBack (hsound : s.sound) (h : s.stepWhole = false) (hsome : s.stepFrames s.curStep ≠ []) :
    s.beginStopping.fnState 0 = 0 ∧ s.beginStopping.upd.rerun = 0 ∧ s.beginStopping.upd.rolls = s.upd.rolls + 1
    ∧ s.beginStopping.committed = s.committed ∧ ∀ i, (s.beginStopping.fret i).run ≠ 2 := by
  have hrolled := State.lackRolled_sound s.lackFault (s.setFn 0 3).curStep (State.lackFault_sound s hsound)
  obtain ⟨hrecs, hrolls⟩ := State.lackRolled_rolls s.lackFault (s.setFn 0 3).curStep
  obtain ⟨hfault, hfaultRolls⟩ := State.lackFault_rolls s
  rw [hfault] at hrecs
  rw [hfaultRolls] at hrolls
  have hupd : s.beginStopping.upd = { (s.lackFault.lackRolled (s.setFn 0 3).curStep).upd with rerun := 0, snap := none } := by
    rw [State.beginStopping_lacks h hsome, State.stopTraining_upd, State.haltStopped_upd]
  generalize (s.lackFault.lackRolled (s.setFn 0 3).curStep).upd = rolled at hupd hrecs hrolls
  refine ⟨?_, ?_, ?_, State.committed_of_recs ?_, fun i => ?_⟩
  · rw [State.beginStopping_lacks h hsome]
    exact State.stopTraining_fnState _
  · rw [hupd]
  · rw [hupd]
    exact hrolls
  · rw [hupd]
    exact hrecs
  · rw [State.beginStopping_lacks h hsome]
    exact State.stopTraining_run ((State.haltStopped_evolves _ _).2 hrolled) (State.haltStopped_run _ _ hrolled i)

end

/-! ### STOPPING_COMPLETE (R405) -/

section
variable {s : State}

/-- The step is at its end, and training becomes Stopped. -/
def State.stoppingEnded (s : State) : State :=
  let s := (s.dropFrom s.curStep).stopTraining
  let s : State := s.mapFrets (fun _ f => f.run = 2 && decide (3 ≤ s.upd.rerun)) fun _ f => { f with run := 0 }
  { s with upd := { s.upd with rerun := 0 } }

theorem execStoppingComplete_ends (hstate : s.fnState 0 = 3) (hdone : s.stoppingDone = true) (hlost : s.upd.lost = none)
    (hvoted : s.upd.voted = false) : exec .stoppingComplete s = .next s.stoppingEnded := by
  refine congrArg Host.Outcome.next ?_
  exact if_pos (by simp [hstate, hdone, hlost, hvoted])

theorem execStoppingComplete_stays
    (h : ¬ (s.fnState 0 = 3 ∧ s.stoppingDone = true ∧ s.upd.lost = none ∧ s.upd.voted = false)) : s.stays .stoppingComplete := by
  refine congrArg Host.Outcome.next ?_
  exact if_neg (by simpa [and_assoc] using h)

theorem State.stoppingEnded_fn : s.stoppingEnded.dict.fn = s.dict.fn.set 0 0 := by
  have hstop : s.stoppingEnded.dict = (s.dropFrom s.curStep).stopTraining.dict := (State.mapFrets_evolves _ _ _).1 .dict rfl
  rw [hstop, State.stopTraining_fn, State.fn_of_keepsSettings (State.dropFrom_keepsSettings _ _)]

theorem State.stoppingEnded_snap : s.stoppingEnded.upd.snap = none := by
  have hstop : s.stoppingEnded.upd = { (s.dropFrom s.curStep).stopTraining.upd with rerun := 0 } :=
    congrArg (fun u : Upd => { u with rerun := 0 })
      ((State.mapFrets_evolves (s.dropFrom s.curStep).stopTraining (fun _ f => f.run = 2
        && decide (3 ≤ (s.dropFrom s.curStep).stopTraining.upd.rerun)) fun _ f => { f with run := 0 }).1 .upd rfl)
  rw [hstop, State.stopTraining_upd]

theorem State.stoppingEnded_frames : noFrames s.stoppingEnded.adm.frames (s.curStep ≤ ·) := by
  have hstop : s.stoppingEnded.adm = (s.dropFrom s.curStep).stopTraining.adm := (State.mapFrets_evolves _ _ _).1 .adm rfl
  rw [hstop]
  exact noFrames_subset (State.stopTraining_frames _) (State.dropFrom_frames _ _)

end

/-! ### FUNCTION_START (R401, R404, R406, R407) -/

/-- What a start that passes leaves of the dictionary. -/
theorem State.startWork_dict (s : State) (fn : Nat) : ((s.startEntered fn).startWork fn).dict.fn = s.dict.fn.set fn 1
    ∧ ((s.startEntered fn).startWork fn).dict.refusal = s.dict.refusal.set fn 0
    ∧ ((s.startEntered fn).startWork fn).dict.hash = s.configHash ∧ ((s.startEntered fn).startWork fn).dict.hashTime = s.time
    ∧ ((s.startEntered fn).startWork fn).dict.od = s.dict.od
    ∧ ((s.startEntered fn).startWork fn).dict.before = (s.useWritten fn).dict.before := by
  obtain ⟨hod, hbefore, -, hfn, hrefusal, hhash, htime, -⟩ := State.startWork_keepsSettings (s.startEntered fn) fn
  exact ⟨hfn, hrefusal, hhash, htime, hod, hbefore⟩

theorem State.startWork_evolves (s : State) (fn : Nat) : s.evolves ((s.startEntered fn).startWork fn)
    [.regs, .frets, .board, .num, .upd, .dram, .fab, .vlk, .adm, .dict, .life] := by
  have hentered : s.evolves (s.startEntered fn) [.regs, .frets, .board, .num, .upd, .dram, .fab, .vlk, .adm, .dict, .life] :=
    State.evolves_wider (State.startEntered_evolves s fn) rfl
  unfold State.startWork
  split
  · exact State.evolves_step (State.startTraining_evolves _) hentered rfl
  · exact State.evolves_step (State.startFabric_evolves _) hentered rfl
  · exact State.evolves_set_adm rfl (fun _ => List.length_replicate) hentered
  · exact hentered

/-- The fabric's start. -/
theorem State.startFabric_entered (s : State) : s.evolves (s.startEntered 2).startFabric [.regs, .fab, .vlk, .dict]
    ∧ (s.startEntered 2).startFabric.fab.zoneFault = false
    ∧ ((s.useWritten 2).odNat (od 0x2580 1) ≠ 0 → ((s.startEntered 2).startFabric.reg 6 Reg.zfStatus).testBit 5 = true) := by
  refine ⟨State.evolves_step (State.startFabric_evolves _) (State.evolves_wider (State.startEntered_evolves s 2) rfl) rfl,
    State.startFabric_zoneFault _, fun h => State.startFabric_injects ?_⟩
  have hbytes := State.odBytes_of_dict (s := s.useWritten 2) (t := s.startEntered 2) rfl rfl
  unfold State.odNat at h ⊢
  rw [hbytes]
  exact h

/-- The host link's start sets its counts to 0. -/
theorem State.startHost_entered (s : State) : s.evolves ((s.startEntered 3).startWork 3) [.adm, .dict]
    ∧ ((s.startEntered 3).startWork 3).adm = { s.adm with counts := List.replicate 26 0 } :=
  ⟨State.evolves_set_adm rfl (fun _ => List.length_replicate) (State.evolves_wider (State.startEntered_evolves s 3) rfl), rfl⟩

/-- Settles O48: the checks of a start in their order, its two ends, and the stops. -/
theorem functions : Obligations.Functions := by
  unfold Obligations.Functions
  intro s
  refine ⟨State.functionStart_stays, fun hsound fn hstate => ?_, fun fn h => State.startRefusal_level h,
    fun fn h => State.levelServes_of_low fn h, fun hlevel h => State.startRefusal_embedding hlevel h,
    fun hlevel hm hemb h => State.startRefusal_alone hlevel hm hemb h,
    fun hlevel hm hemb h => State.startRefusal_joined hlevel hm hemb h, fun hlevel h => State.startRefusal_snapshot hlevel h,
    fun hlevel h => State.startRefusal_node hlevel h, fun hlevel hnode hm h => State.startRefusal_clock hlevel hnode hm h,
    fun r hlevel hemb hfab hhost h => State.startRefusal_restore hlevel hemb hfab hhost (Option.isSome_of_eq_some h),
    fun fn h => execFunctionStop_stays fn h, fun fn hfn hrun hfree => ?_, fun hsound hrun hsnap => ?_, ?_⟩
  · intro found used
    refine ⟨fun w hfound => ?_, fun hfound => ?_⟩
    · exact State.runs_evolves (execFunctionStart_refuses hsound fn hstate hfound) (State.startRefused_evolves s fn.val w) rfl rfl
    · obtain ⟨hfn, hrefusal, hhash, htime, hod, hbefore⟩ := State.startWork_dict s fn.val
      refine State.runs_evolves (execFunctionStart_enters hsound fn hstate hfound) (State.startWork_evolves s fn.val) rfl
        ⟨hfn, hrefusal, hhash, htime, hod, hbefore, fun h => ?_, fun h => ?_, fun h => ?_, fun h => ?_⟩
      · rw [h]
        obtain ⟨hcommit, hstep, hext, hdelay, hrollbacks, hrecs⟩ := State.startTraining_entered s
        refine ⟨hcommit, hstep, hext, hdelay, hrollbacks, hrecs, fun hclean => ?_⟩
        obtain ⟨hfault, hvlk, hadm⟩ := State.startTraining_clean (s := s.startEntered 0) hclean
        refine ⟨hfault, hvlk, hadm, fun hfirst => ?_⟩
        obtain ⟨hpasses, hcube⟩ := State.startTraining_entered_first hclean hfirst
        have hused : used = s.useWritten 0 := by
          unfold State.useWritten
          rw [← h]
        rw [hused]
        exact ⟨hpasses, hcube⟩
      · rcases h with h | h
        · rw [h]
          exact (State.startEntered_evolves s 1).1
        · rw [h]
          exact (State.startEntered_evolves s 4).1
      · obtain ⟨hevolves, hzone, hinject⟩ := State.startFabric_entered s
        have hused : used = s.useWritten 2 := by
          unfold State.useWritten
          rw [← h]
        rw [h, hused]
        exact ⟨hevolves.1, hzone, hinject⟩
      · obtain ⟨hevolves, hadm⟩ := State.startHost_entered s
        rw [h]
        exact ⟨hevolves.1, hadm⟩
  · have hexec := execFunctionStop_stops fn hrun hfree
    rw [if_neg (by omega)] at hexec
    refine State.runs_evolves hexec (State.stopOther_evolves s fn.val) rfl
      ⟨State.stopOther_fn fn.val, fun h => ?_, fun h => ?_, fun h => State.stopOther_upd h⟩
    · rw [h]
      exact State.stopOther_fabric
    · rw [h]
      exact State.stopOther_snapshot
  · have hexec := execFunctionStop_stops (s := s) 0 hrun fun k _ hneeds => by
      rw [State.needed_mem_training hneeds]
      exact hsnap
    refine State.runs_evolves hexec (State.beginStopping_evolves s) rfl ⟨fun hwhole => ?_, fun hnone => ?_, fun hwhole hsome => ?_⟩
    · obtain ⟨hfn, hmem, hfrets, hupd, hframes⟩ := State.beginStopping_stopping hrun hwhole
      exact ⟨hfn, hmem, hfrets, hupd, fun f hf hevents hwait => Nat.le_of_lt_succ (Nat.lt_of_not_le (hframes f hf hevents hwait))⟩
    · obtain ⟨hfn, hmem, hfret, hframes⟩ := State.beginStopping_stopped hsound hnone
      exact ⟨hfn, hmem, hfret, fun f hf hevents hwait => Nat.lt_of_not_le (hframes f hf hevents hwait)⟩
    · obtain ⟨hfn, hrerun, hrolls, hcommitted, hhalted⟩ := State.beginStopping_rolledBack hsound hwhole hsome
      exact ⟨hfn, hrerun, hrolls, hcommitted, fun i _ => hhalted i⟩
  · intro done
    refine ⟨fun h => execStoppingComplete_stays h, fun h => ?_⟩
    obtain ⟨hstate, hdone, hlost, hvoted⟩ := h
    exact State.runs_of (execStoppingComplete_evolves s) rfl (execStoppingComplete_ends hstate hdone hlost hvoted)
      (State.within_self _) ⟨State.stoppingEnded_fn, rfl, State.stoppingEnded_snap,
        fun f hf hevents hwait => Nat.lt_of_not_le (State.stoppingEnded_frames f hf hevents hwait)⟩

end Sys2Proof.Machine

/-! PUSH (R182 to R190, R306, R311). -/

namespace Sys2Proof.Machine

/-! ### Bytes padded, and numbers read where bytes were written -/

theorem padTo_length (n : Nat) (bs : Bytes) : (padTo n bs).length = n := by
  unfold padTo zeroBytes
  simp
  omega

theorem padTo_getD {n k : Nat} (bs : Bytes) (hk : k < n) : (padTo n bs).getD k 0 = bs.getD k 0 := by
  have hpad : (bs ++ zeroBytes (n - bs.length)).getD k 0 = bs.getD k 0 := by
    by_cases hin : k < bs.length
    · exact List.getD_append _ _ _ _ hin
    · rw [List.getD_append_right _ _ _ _ (by omega), List.getD_eq_default bs _ (by omega)]
      unfold zeroBytes
      rw [List.getD_eq_getElem?_getD, List.getElem?_replicate]
      split <;> rfl
  rw [← hpad]
  simp [padTo, List.getD_eq_getElem?_getD, hk]

theorem leAt_padTo {n o k : Nat} (bs : Bytes) (h : o + k ≤ n) : leAt (padTo n bs) o k = leAt bs o k := by
  refine congrArg leNat (List.map_congr_left fun i hi => padTo_getD bs ?_)
  have := List.mem_range.mp hi
  omega

/-- A number inside the bytes just written. -/
theorem State.memNat_writeMem (s : State) (a o n : Nat) (bs : Bytes) (h : o + n ≤ bs.length) :
    (s.writeMem a bs).memNat (a + o) n = leAt bs o n := by
  refine congrArg leNat (List.map_congr_left fun i hi => ?_)
  have hi := List.mem_range.mp hi
  refine (State.byte_writeMem s a bs (a + o + i)).trans ?_
  rw [if_pos (by omega), show a + o + i - a = o + i by omega]

theorem le_roundUp (a : Nat) : a ≤ roundUp a 256 := by
  unfold roundUp ceilDiv
  simp only [show ¬ (256 = 0) by decide, if_false]
  omega

/-! ### A record's place, and the counts of a push -/

/-- The end of a lane's newest record. -/
def SLane.top (l : SLane) : Nat := match l.recs with | [] => 0 | r :: _ => r.1 + r.2

/-- Where a record of `size` bytes begins: at the top, or at the bench share where it would lie across both shares (R187, R189). -/
def State.pushPlace (s : State) (i size : Nat) : Nat :=
  let hbm := (s.laneShares i).2.1
  let top := (s.lane i).top
  if top < hbm ∧ hbm < top + size then hbm else top

/-- The bytes of a push are counted, those on the bench apart (R190). -/
def State.countPush (s : State) (i hbm o size : Nat) : State :=
  let d := laneDie i
  let s := s.setReg d Reg.stackPushBytes (s.reg d Reg.stackPushBytes + size)
  if o < hbm then s
  else (s.flag d Reg.stackStatus 4).setReg d Reg.stackSpillBytes (s.reg d Reg.stackSpillBytes + size)

/-- The lane with a record listed on top. -/
def SLane.listed (l : SLane) (o size : Nat) : SLane :=
  { l with recs := (o, size) :: l.recs, pushes := l.pushes + 1, staged := 0, high := max l.high (o + size) }

def pushRegs (i : Nat) : List Nat :=
  [regKey (laneDie i) Reg.stackPushBytes, regKey (laneDie i) Reg.stackStatus, regKey (laneDie i) Reg.stackSpillBytes]

theorem State.countPush_onlyRegs (s : State) (i hbm o size : Nat) : s.onlyRegs (s.countPush i hbm o size) (pushRegs i) := by
  unfold State.countPush
  have hbytes := State.onlyRegs_setReg (State.onlyRegs_refl s (pushRegs i)) (laneDie i) Reg.stackPushBytes
    (s.reg (laneDie i) Reg.stackPushBytes + size) (by simp [pushRegs])
  refine State.onlyRegs_ite hbytes (State.onlyRegs_setReg (State.onlyRegs_orReg hbytes _ _ _ ?_) _ _ _ ?_) <;> simp [pushRegs]

theorem State.countPush_evolves (s : State) (i hbm o size : Nat) : s.evolves (s.countPush i hbm o size) [.regs] :=
  State.evolves_ite (State.setReg_evolves _ _ _ _) (State.evolves_step (State.setReg_evolves _ _ _ _)
    (State.evolves_step (State.flag_evolves _ _ _ _) (State.setReg_evolves _ _ _ _) rfl) rfl)

/-- The first 48 bytes of a ROW record's header (R184, R186). -/
def State.pushHead (s : State) (i rows fmt size : Nat) (bs : Bytes) : Bytes :=
  let v := (s.fret i).voicing
  let fr := s.frameOf (s.fret i)
  let prev := match (s.lane i).recs with | [] => 0xFFFFFFFF | r :: _ => r.1 / 256
  u16 0x5354 ++ u8 1 ++ u8 0 ++ u16 v.vid ++ u16 v.layer ++ u8 v.tensor ++ u8 v.pass ++ u8 fr.2
    ++ u8 fmt ++ u16 rows ++ u16 v.n ++ u64 fr.1 ++ u32 prev ++ u32 (s.lane i).pushes ++ u32 bs.length ++ u32 0 ++ u32 size ++ u32 0

theorem State.pushHead_fields (s : State) (i rows fmt size : Nat) (bs : Bytes) :
    (s.pushHead i rows fmt size bs).length = 48
    ∧ ∀ rest : Bytes, leAt (s.pushHead i rows fmt size bs ++ rest) 0 2 = 0x5354
      ∧ leAt (s.pushHead i rows fmt size bs ++ rest) 4 2 = (s.fret i).voicing.vid % 65536 := by
  unfold State.pushHead
  refine ⟨by simp [u8, u16, u32, u64, natLE_length], fun rest => ⟨?_, ?_⟩⟩ <;> simp only [u8, u16, List.append_assoc]
  · rw [leAt_field]
    decide
  · rw [leAt_skip _ _ (by simp [natLE_length]), leAt_skip _ _ (by simp [natLE_length]), leAt_skip _ _ (by simp [natLE_length])]
    simp only [natLE_length]
    exact leAt_field _ _ _

/-- A ROW record: its header with the CRC, and its payload. -/
def State.rowRecord (s : State) (i rows fmt size : Nat) (bs : Bytes) : Bytes :=
  let h := s.pushHead i rows fmt size bs
  h ++ u32 (crc32 (h ++ bs)).toNat ++ zeroBytes 12 ++ bs

theorem State.rowRecord_payload (s : State) (i rows fmt size k : Nat) (bs : Bytes) :
    (s.rowRecord i rows fmt size bs).getD (64 + k) 0 = bs.getD k 0 := by
  obtain ⟨hlength, -⟩ := s.pushHead_fields i rows fmt size bs
  unfold State.rowRecord
  rw [List.getD_append_right _ _ _ _ (by simp [hlength, u32, natLE_length, zeroBytes])]
  simp [hlength, u32, natLE_length, zeroBytes]

theorem State.rowRecord_fields (s : State) (i rows fmt size : Nat) (bs : Bytes) :
    leAt (s.rowRecord i rows fmt size bs) 0 2 = 0x5354
    ∧ leAt (s.rowRecord i rows fmt size bs) 4 2 = (s.fret i).voicing.vid % 65536 := by
  unfold State.rowRecord
  simp only [List.append_assoc]
  exact (s.pushHead_fields i rows fmt size bs).2 _

/-- A push that fits, where no channel trains under it, stores the record and lists it. -/
theorem State.pushRecord_fits {s : State} {i size : Nat} (rows fmt : Nat) (bs : Bytes)
    (hsize : size = roundUp (64 + bs.length) 256)
    (hfits : s.pushPlace i size + size ≤ (s.laneShares i).2.1 + (s.laneShares i).2.2.2)
    (hfree : s.spansWait [(s.laneAddr i (s.pushPlace i size), size, true)] = false) :
    s.pushRecord i 0 rows fmt bs []
        = ((s.store (s.laneAddr i (s.pushPlace i size)) (padTo size (s.rowRecord i rows fmt size bs))).setLane i
            ((s.lane i).listed (s.pushPlace i size) size)).countPush i (s.laneShares i).2.1 (s.pushPlace i size) size := by
  have hstore : s.storeSoon (s.laneAddr i (s.pushPlace i size)) (padTo size (s.rowRecord i rows fmt size bs))
      = s.store (s.laneAddr i (s.pushPlace i size)) (padTo size (s.rowRecord i rows fmt size bs)) := by
    unfold State.storeSoon
    rw [padTo_length, hfree]
    exact if_pos (by simp)
  rw [← hstore]
  subst hsize
  unfold State.pushRecord
  simp only [List.append_nil, Bool.and_eq_true, decide_eq_true_eq, show ¬ (0 = 2) by decide, if_false]
  exact if_neg (Nat.not_lt.mpr hfits)

/-- A push that does not fit is a stack overflow (R190, R194). -/
theorem State.pushRecord_overflows {s : State} {i size : Nat} (rows fmt : Nat) (bs : Bytes)
    (hsize : size = roundUp (64 + bs.length) 256)
    (hover : (s.laneShares i).2.1 + (s.laneShares i).2.2.2 < s.pushPlace i size + size) :
    s.pushRecord i 0 rows fmt bs [] = (s.flag (laneDie i) Reg.stackStatus 2).stackFault i 0 := by
  subst hsize
  unfold State.pushRecord
  simp only [List.append_nil, Bool.and_eq_true, decide_eq_true_eq, show ¬ (0 = 2) by decide, if_false]
  exact if_pos hover

/-- Nothing a push reads of the module but the fret's place changes when the operation is issued. -/
theorem State.laneShares_sramCe (s : State) (d ce i : Nat) : (s.sramCe d ce).laneShares i = s.laneShares i := by
  unfold State.sramCe State.flagCount
  split <;> rfl

/-- Whether a block is held is read from its resets, its supply and its clock domain. -/
theorem State.held_congr {s t : State} (hrst : t.rst = s.rst) (hlife : t.life = s.life)
    (hclk : ∀ die, t.reg die Reg.clkHeld = s.reg die Reg.clkHeld) (die block : Nat) : t.held die block = s.held die block := by
  unfold State.held State.domainHeld State.asleep
  rw [hrst, hlife, hclk]

theorem State.spansWait_congr {s t : State} (hdram : t.dram = s.dram) (hheld : ∀ die block, t.held die block = s.held die block)
    (xs : List (Nat × Nat × Bool)) : t.spansWait xs = s.spansWait xs := by
  unfold State.spansWait State.chanBusy State.anyMemHeld
  simp only [hdram, hheld]

theorem State.clkHeld_sramCe (s : State) (d ce die : Nat) : (s.sramCe d ce).reg die Reg.clkHeld = s.reg die Reg.clkHeld := by
  refine State.reg_of_onlyRegs (State.sramCe_onlyRegs s d ce) ?_
  simp only [List.mem_cons, List.not_mem_nil, or_false, not_or]
  by_cases hd : die = d
  · subst hd
    exact ⟨regKey_ne _ (by decide), regKey_ne _ (by decide)⟩
  · exact ⟨regKey_ne_die hd (by decide) (by decide), regKey_ne_die hd (by decide) (by decide)⟩

theorem State.spansWait_sramCe (s : State) (d ce : Nat) (xs : List (Nat × Nat × Bool)) :
    (s.sramCe d ce).spansWait xs = s.spansWait xs := by
  have hce := (State.sramCe_evolves s d ce).1
  exact State.spansWait_congr (hce .dram rfl) (State.held_congr (hce .rst rfl) (hce .life rfl) (State.clkHeld_sramCe s d ce)) xs

theorem State.laneAddr_sramCe (s : State) (d ce i o : Nat) : (s.sramCe d ce).laneAddr i o = s.laneAddr i o := by
  unfold State.laneAddr
  rw [State.laneShares_sramCe]

theorem State.pushPlace_sramCe (s : State) (d ce i size : Nat) : (s.sramCe d ce).pushPlace i size = s.pushPlace i size := by
  unfold State.pushPlace
  rw [State.lane_sramCe, State.laneShares_sramCe]

/-- The fret goes on and its corrected errors are counted. -/
def State.pushIssued (s : State) (f : Issue) : State := (s.updFret (fretIdx f.toFretId) (·.advance)).sramCe f.die.val f.ce

theorem execPush_issued {s : State} {f : Issue} {w : Nat} (h : s.issues f.toFretId 9 w) :
    let fr := s.fret (fretIdx f.toFretId)
    let bs := fr.sramBytes (fr.sramOff w (16 * bits w 51 38)) (bits w 37 18)
    exec (.push f) s = .next ((s.pushIssued f).pushRecord (fretIdx f.toFretId) 0
      ((rowsOfBytes fr.voicing.fmtOut fr.voicing.n bs.length).getD 0) fr.voicing.fmtOut bs []) := by
  refine congrArg Host.Outcome.next ?_
  simp only [h]
  rfl

theorem State.pushIssued_evolves (s : State) (f : Issue) : s.evolves (s.pushIssued f) [.regs, .frets] :=
  State.evolves_step (State.sramCe_evolves _ _ _) (State.evolves_wider (State.updFret_evolves _ _ _) rfl) rfl

/-- A flag of the stack engine that stands before a stack fault still stands after it. -/
theorem State.stackFault_keepsStatus (s : State) (i bit : Nat) {j : Nat} (hj : j < 64)
    (h : (s.reg (laneDie i) Reg.stackStatus).testBit j = true) :
    ((s.stackFault i bit).reg (laneDie i) Reg.stackStatus).testBit j = true := by
  have hmarked : ((s.flag (laneDie i) Reg.stackStatus bit).bump (laneDie i) Reg.stackFaultCount 1).keepsNear (s.stackFault i bit) :=
    State.keepsNear_step (State.jobFault_keepsNear _ _ _)
      (State.keepsNear_evolves (State.stopFrets_evolves _ _) rfl (State.keepsNear_refl _))
  rw [State.reg_of_keepsNear hmarked (nearKey_stack _ (by decide)), State.reg_bump_other _ _ _ _ _ _ (regKey_ne _ (by decide))]
  exact State.flag_testBit_keep _ _ _ hj h

/-- The registers of the memory-side dies are untouched. -/
theorem State.pushIssued_reg (s : State) (f : Issue) (i : Nat) {n : Nat} (hn : n < 0x200000) :
    (s.pushIssued f).reg (laneDie i) n = s.reg (laneDie i) n := by
  have hdie : laneDie i ≠ f.die.val := by unfold laneDie; omega
  refine State.reg_of_onlyRegs (State.sramCe_onlyRegs _ _ _) ?_
  simp only [List.mem_cons, List.not_mem_nil, or_false, not_or]
  exact ⟨regKey_ne_die hdie hn (by decide), regKey_ne_die hdie hn (by decide)⟩

/-- What the push of a record leaves in the memory, the lane and the poison. -/
theorem State.stored_record (s : State) (i hbm o size a : Nat) (bs : Bytes) (hlen : bs.length = size) (l : SLane) :
    let t := ((s.store a bs).setLane i l).countPush i hbm o size
    s.evolves t [.mem, .regs, .slanes, .dram] ∧ s.onlyLane t i ∧ t.lane i = l ∧ s.onlyBytes t a size
    ∧ (∀ k, k < size → t.byte (a + k) = bs.getD k 0) ∧ (∀ k n, k + n ≤ size → t.memNat (a + k) n = leAt bs k n)
    ∧ t.dram = { s.dram with poison := s.dram.poison.filter fun q => !(a ≤ q * 64 && q * 64 + 64 ≤ a + size) }
    ∧ s.onlyRegs t (pushRegs i) := by
  intro t
  have hcount := State.countPush_evolves ((s.store a bs).setLane i l) i hbm o size
  have hmem : t.mem = (s.writeMem a bs).mem := hcount.1 .mem rfl
  have hlanes : t.slanes = ((s.store a bs).setLane i l).slanes := hcount.1 .slanes rfl
  have hlane : ∀ j, t.lane j = (s.setLane i l).lane j := fun j => by unfold State.lane; rw [hlanes]; rfl
  subst hlen
  refine ⟨State.evolves_step hcount (State.evolves_step (State.setLane_evolves _ _ _)
      (State.evolves_wider (State.store_evolves _ _ _) rfl) rfl) rfl,
    fun j hj => (hlane j).trans (State.lane_setLane_other s i j l hj), (hlane i).trans (State.lane_setLane_same s i l),
    fun b hb => ?_, fun k hk => ?_, fun k n hk => ?_, hcount.1 .dram rfl, State.countPush_onlyRegs _ i hbm o _⟩
  · rw [State.byte_of_mem hmem, State.byte_writeMem, if_neg (by omega)]
  · rw [State.byte_of_mem hmem, State.byte_writeMem, if_pos (by omega), Nat.add_sub_cancel_left]
  · rw [← State.memNat_writeMem s a k n bs hk]
    unfold State.memNat State.readMem
    rw [hmem]

theorem Fret.voicing_vid_lt (f : Fret) : f.voicing.vid < 65536 := bits_lt _ 31 16

theorem pushRegs_far {i d n : Nat} (hd : d < 2) (hn : n < 0x200000) : regKey d n ∉ pushRegs i := by
  have hdie : ∀ {n'}, n' < 0x200000 → regKey d n ≠ regKey (laneDie i) n' := fun hn' =>
    regKey_ne_die (by unfold laneDie; omega) hn hn'
  simp only [pushRegs, List.mem_cons, List.not_mem_nil, or_false, not_or]
  exact ⟨hdie (by decide), hdie (by decide), hdie (by decide)⟩

/-- What the issued push finds is what the module held before. -/
theorem State.pushIssued_sees (s : State) (f : Issue) (i : Nat) :
    (s.pushIssued f).laneShares i = s.laneShares i ∧ (∀ o, (s.pushIssued f).laneAddr i o = s.laneAddr i o)
    ∧ (s.pushIssued f).lane i = s.lane i ∧ (∀ size, (s.pushIssued f).pushPlace i size = s.pushPlace i size)
    ∧ ∀ xs, (s.pushIssued f).spansWait xs = s.spansWait xs :=
  ⟨State.laneShares_sramCe _ _ _ _, fun _ => State.laneAddr_sramCe _ _ _ _ _, State.lane_sramCe _ _ _ _,
    fun _ => State.pushPlace_sramCe _ _ _ _ _, fun _ => State.spansWait_sramCe _ _ _ _⟩

/-- The tile that a PUSH names. -/
def State.pushTile (s : State) (f : Issue) (w : Nat) : Bytes :=
  let fr := s.fret (fretIdx f.toFretId)
  fr.sramBytes (fr.sramOff w (16 * bits w 51 38)) (bits w 37 18)

section
variable {s : State} {f : Issue} {w : Nat} (h : s.issues f.toFretId 9 w)
include h

theorem execPush_fits {i size o : Nat} (hi : i = fretIdx f.toFretId) (hsize : size = roundUp (64 + (s.pushTile f w).length) 256)
    (ho : o = s.pushPlace i size) (hfits : o + size ≤ (s.laneShares i).2.1 + (s.laneShares i).2.2.2)
    (hfree : s.spansWait [(s.laneAddr i o, size, true)] = false) : ∃ rows fmt,
    exec (.push f) s = .next ((((s.pushIssued f).store (s.laneAddr i o)
      (padTo size ((s.pushIssued f).rowRecord i rows fmt size (s.pushTile f w)))).setLane i
      ((s.lane i).listed o size)).countPush i (s.laneShares i).2.1 o size) := by
  obtain ⟨hshares, haddr, hlane, hplace, hspans⟩ := s.pushIssued_sees f i
  subst hi ho
  have hpush := State.pushRecord_fits (s := s.pushIssued f) (i := fretIdx f.toFretId)
    ((rowsOfBytes (s.fret (fretIdx f.toFretId)).voicing.fmtOut (s.fret (fretIdx f.toFretId)).voicing.n (s.pushTile f w).length).getD 0)
    (s.fret (fretIdx f.toFretId)).voicing.fmtOut (s.pushTile f w) hsize (by rw [hshares, hplace]; exact hfits)
    (by rw [hplace, haddr, hspans]; exact hfree)
  rw [hshares, hplace, haddr, hlane] at hpush
  exact ⟨_, _, (execPush_issued h).trans (congrArg Host.Outcome.next hpush)⟩

theorem execPush_overflows {i size : Nat} (hi : i = fretIdx f.toFretId) (hsize : size = roundUp (64 + (s.pushTile f w).length) 256)
    (hover : (s.laneShares i).2.1 + (s.laneShares i).2.2.2 < s.pushPlace i size + size) :
    exec (.push f) s = .next (((s.pushIssued f).flag (laneDie i) Reg.stackStatus 2).stackFault i 0) := by
  obtain ⟨hshares, -, -, hplace, -⟩ := s.pushIssued_sees f i
  subst hi
  exact (execPush_issued h).trans (congrArg Host.Outcome.next
    (State.pushRecord_overflows _ _ (s.pushTile f w) hsize (by rw [hshares, hplace]; exact hover)))

end

/-- Settles O7: a record that fits is stored behind its header and listed; one that does not marks the stack before its fault. -/
theorem stackPush : Obligations.StackPush := by
  intro s f w i fr l sh bs size top o d a
  have hissued := s.pushIssued_evolves f
  refine ⟨fun h hfits hfree => ?_, fun h hover => ?_⟩
  · obtain ⟨rows, fmt, hexec⟩ := execPush_fits (o := o) h rfl rfl rfl hfits hfree
    have hfret : (s.pushIssued f).fret i = fr.advance := (State.fret_sramCe _ _ _ _).trans (State.fret_updFret_same _ _ _)
    have hsize : 64 + bs.length ≤ size := le_roundUp _
    have hvid : ((s.pushIssued f).fret i).voicing.vid % 65536 = fr.voicing.vid := by
      rw [hfret]
      exact Nat.mod_eq_of_lt fr.voicing_vid_lt
    have hpayload : ∀ k, k < bs.length →
        (padTo size ((s.pushIssued f).rowRecord i rows fmt size bs)).getD (64 + k) 0 = bs.getD k 0 := fun k hk =>
      (padTo_getD _ (by omega)).trans (State.rowRecord_payload _ _ _ _ _ _ _)
    obtain ⟨hmagic, hvidAt⟩ := (s.pushIssued f).rowRecord_fields i rows fmt size bs
    rw [← leAt_padTo (n := size) _ (by omega)] at hmagic hvidAt
    obtain ⟨hevolves, honly, hl, hbytes, hread, hnat, hdram, hregs⟩ := (s.pushIssued f).stored_record i sh.2.1 o size a
      (padTo size ((s.pushIssued f).rowRecord i rows fmt size bs)) (padTo_length _ _) (l.listed o size)
    refine State.runs_evolves hexec (State.evolves_step hevolves (State.evolves_wider hissued rfl) rfl) (State.within_self _)
      ⟨?_, (State.fret_evolves hevolves rfl i).trans hfret, fun j hj => (honly j hj).trans (State.lane_sramCe _ _ _ _), hl,
        fun b hb => (hbytes b hb).trans (State.byte_of_mem (hissued.1 .mem rfl) b), fun k hk => ?_, (hnat 0 2 (by omega)).trans hmagic,
        (hnat 4 2 (by omega)).trans (hvidAt.trans hvid), hdram.trans ?_, ?_⟩
    · exact State.onlyFret_evolves hevolves rfl (State.onlyFret_evolves (State.sramCe_evolves _ _ _) rfl
        (State.onlyFret_updFret (State.onlyFret_refl s i) _))
    · exact (congrArg _ (Nat.add_assoc a 64 k)).trans ((hread (64 + k) (by omega)).trans (hpayload k hk))
    · rw [hissued.1 .dram rfl]
    · exact State.metErrors_step hregs
        (State.metErrors_sramCe f.ce (State.onlyRegs_refl s _) (pushRegs_far (i := i) f.die.isLt (by decide)))
        (fun _ hx => hx) (pushRegs_far f.die.isLt (by decide)) (pushRegs_far f.die.isLt (by decide))
  · obtain ⟨hfault, hcount, hvoted⟩ := State.stackFault_marks
      ((s.pushIssued f).flag (laneDie i) Reg.stackStatus 2) i (bit := 0) (by decide)
    refine State.runs_evolves (execPush_overflows h rfl rfl hover)
      (State.evolves_step (State.stackFault_evolves _ _ _) (State.evolves_step (State.flag_evolves _ _ _ _)
        (State.evolves_wider hissued rfl) rfl) rfl) (State.within_self _) ⟨hfault, ?_, hvoted, hcount.trans ?_⟩
    · exact State.stackFault_keepsStatus _ _ _ (by decide) (State.flag_testBit _ _ _ _ (by decide))
    · exact congrArg (fun n => cap32 (n + 1)) ((State.reg_flag_other _ _ _ _ _ _ (regKey_ne _ (by decide))).trans
        (State.pushIssued_reg s f i (by decide)))

end Sys2Proof.Machine

/-! The update units, the embedding engines and the frame store while a step ends (R268, R289 to R299, R384). -/

namespace Sys2Proof.Machine

/-! ### What faults, a snapshot and carried sums leave of the update units -/

/-- Only the pending fault and its vote, the snapshot and the list of carried sums differ. -/
def Upd.sameStep (a b : Upd) : Prop := b = { a with fault := b.fault, voted := b.voted, snap := b.snap, carried := b.carried }

theorem Upd.sameStep_trans {a b c : Upd} (h : a.sameStep b) (k : b.sameStep c) : a.sameStep c :=
  k.trans (congrArg (fun u : Upd => { u with fault := c.fault, voted := c.voted, snap := c.snap, carried := c.carried }) h)

/-- The two states hold the same step in their update units. -/
def State.keepsStep (s t : State) : Prop := s.upd.sameStep t.upd

theorem State.keepsStep_refl (s : State) : s.keepsStep s := rfl

theorem State.keepsStep_step {s t u : State} (k : t.keepsStep u) (h : s.keepsStep t) : s.keepsStep u := Upd.sameStep_trans h k

theorem State.keepsStep_evolves {s t u : State} {P : List Part} (k : t.evolves u P) (hP : P.contains .upd = false)
    (h : s.keepsStep t) : s.keepsStep u := by
  unfold State.keepsStep
  rw [k.1 .upd hP]
  exact h

theorem State.keepsStep_ite {s a b : State} {c : Prop} [Decidable c] (ha : s.keepsStep a) (hb : s.keepsStep b) :
    s.keepsStep (if c then a else b) := by
  split
  · exact ha
  · exact hb

theorem State.keepsStep_foldl {α : Type} {g : State → α → State} (hg : ∀ (a : State) (x : α), a.keepsStep (g a x)) (l : List α)
    {s t : State} (h : s.keepsStep t) : s.keepsStep (l.foldl g t) :=
  List.foldlRecOn (motive := s.keepsStep) l g h fun _ ht x _ => State.keepsStep_step (hg _ x) ht

theorem State.keepsStep_set_emb {s t : State} {e : Emb} (h : s.keepsStep t) : s.keepsStep { t with emb := e } := h

theorem State.keepsStep_set_snap {s t : State} (h : s.keepsStep t) (n : Option Snap) :
    s.keepsStep { t with upd := { t.upd with snap := n } } := Upd.sameStep_trans h rfl

theorem State.keepsStep_set_carried {s t : State} (h : s.keepsStep t) (l : List (Nat × Nat × Nat)) :
    s.keepsStep { t with upd := { t.upd with carried := l } } := Upd.sameStep_trans h rfl

/-- What a vote leaves of the update units. -/
theorem State.castVote_upd (s : State) : s.castVote.upd = { s.upd with voted := true } := (State.contribute_evolves _ _ _).1 .upd rfl

theorem State.setFault_upd (s : State) (cls : Nat) :
    (s.setFault cls).upd = { s.upd with fault := some (s.upd.fault.getD cls), voted := true } := State.castVote_upd _

theorem State.jobFault_upd (s : State) (cls : Nat) (reload : Option Nat) :
    (s.jobFault cls reload).upd = { s.upd with fault := some (s.upd.fault.getD cls), voted := true } := by
  unfold State.jobFault
  rw [State.setFault_upd, (State.breakStep_evolves _ _ _).1 .upd rfl]

theorem State.failRead_keepsStep (s : State) (a n : Nat) : s.keepsStep (s.failRead a n) := by
  unfold State.failRead State.memoryFault State.keepsStep
  rw [if_pos rfl, State.jobFault_upd, (State.meetPoison_evolves _ _ _).1 .upd rfl]
  rfl

theorem State.metCarries_keepsStep (s : State) (step : Nat) : s.keepsStep (s.metCarries step) := by
  unfold State.metCarries
  exact State.keepsStep_foldl (fun t p => State.keepsStep_ite (State.failRead_keepsStep _ _ _) (State.keepsStep_refl t)) _
    (State.keepsStep_refl s)

theorem State.snapCopy_keepsStep (s : State) (key : Nat) : s.keepsStep (s.snapCopy key) := by
  unfold State.snapCopy
  split
  · exact State.keepsStep_refl s
  · refine State.keepsStep_ite (State.keepsStep_refl s) ?_
    refine State.keepsStep_evolves (State.setReg_evolves _ _ _ _) rfl ?_
    exact State.keepsStep_evolves (State.store_evolves _ _ _) rfl rfl

theorem State.put_keepsStep (s : State) (a : Nat) (bs : Bytes) : s.keepsStep (s.put a bs) := by
  unfold State.put
  refine State.keepsStep_evolves (State.store_evolves _ _ _) rfl ?_
  split
  · exact State.keepsStep_ite (State.keepsStep_refl s) (State.keepsStep_foldl State.snapCopy_keepsStep _ (State.keepsStep_refl s))
  · exact State.keepsStep_refl s

theorem State.saveCarries_keepsStep (s : State) (step : Nat) : s.keepsStep (s.saveCarries step) := by
  unfold State.saveCarries
  exact State.keepsStep_set_carried (State.keepsStep_foldl (fun _ _ => State.put_keepsStep _ _ _) _ (State.keepsStep_refl s)) _

theorem State.commitChoice_keepsStep (s : State) : s.keepsStep s.commitChoice := by
  unfold State.commitChoice
  split
  · exact State.keepsStep_refl s
  · refine State.keepsStep_foldl (fun t e => ?_) _ (State.keepsStep_foldl (fun t e => ?_) _ (State.keepsStep_refl s))
    · exact State.keepsStep_evolves (State.setDir_evolves _ _ _) rfl (State.snapCopy_keepsStep _ _)
    · exact State.keepsStep_ite (State.failRead_keepsStep _ _ _) (State.keepsStep_refl t)

theorem State.flipCopies_keepsStep (s : State) (step : Nat) : s.keepsStep (s.flipCopies step) := by
  unfold State.flipCopies
  exact State.keepsStep_set_emb (State.snapCopy_keepsStep s _)

theorem State.commitData_keepsStep (s : State) (step : Nat) : s.keepsStep (s.commitData step) := by
  have hchosen : s.keepsStep (s.flipCopies step).commitChoice :=
    State.keepsStep_step (State.commitChoice_keepsStep _) (State.flipCopies_keepsStep s step)
  unfold State.commitData
  refine State.keepsStep_ite (State.keepsStep_step (State.saveCarries_keepsStep _ _) ?_) hchosen
  exact State.keepsStep_step (State.metCarries_keepsStep _ _) (State.keepsStep_evolves (State.restoreCarries_evolves _ _ _) rfl hchosen)

end Sys2Proof.Machine

/-! What broken and raised promises leave of admission: the frames of the store, the ACCEPTs and the frames that arrived
(R207, R312, R322, R346, R379, R385). -/

namespace Sys2Proof.Machine

/-! ### The frames, the frames that wait to leave, and the frames that arrived -/

theorem framesFrom_trans {a b c : List HeldFrame} (h : framesFrom a b) (k : framesFrom b c) : framesFrom a c := by
  intro g hg
  obtain ⟨f, hf, hevents, hstep, hwait⟩ := k g hg
  obtain ⟨e, he, hevents', hstep', hwait'⟩ := h f hf
  exact ⟨e, he, hevents.trans hevents', hstep.trans hstep', hwait.trans hwait'⟩

/-- No frame enters the store or is accepted, nothing that waits to leave is lost, and no host frame is taken or decided. -/
def State.keepsStore (s t : State) : Prop :=
  framesFrom s.adm.frames t.adm.frames ∧ t.adm.highId = s.adm.highId ∧ s.vlk.out ⊆ t.vlk.out ∧ t.vlk.arrived = s.vlk.arrived
    ∧ t.adm.behind = s.adm.behind

theorem State.keepsStore_refl (s : State) : s.keepsStore s := ⟨framesFrom_refl _, rfl, fun _ h => h, rfl, rfl⟩

theorem State.keepsStore_step {s t u : State} (k : t.keepsStore u) (h : s.keepsStore t) : s.keepsStore u := by
  obtain ⟨hframes, hhigh, hout, harrived, hbehind⟩ := h
  obtain ⟨kframes, khigh, kout, karrived, kbehind⟩ := k
  exact ⟨framesFrom_trans hframes kframes, khigh.trans hhigh, fun _ hx => kout (hout hx), karrived.trans harrived,
    kbehind.trans hbehind⟩

theorem State.keepsStore_evolves {s t u : State} {P : List Part} (k : t.evolves u P) (hvlk : P.contains .vlk = false)
    (hadm : P.contains .adm = false) (h : s.keepsStore t) : s.keepsStore u := by
  unfold State.keepsStore
  rw [k.1 .vlk hvlk, k.1 .adm hadm]
  exact h

theorem State.keepsStore_ite {s a b : State} {c : Prop} [Decidable c] (ha : s.keepsStore a) (hb : s.keepsStore b) :
    s.keepsStore (if c then a else b) := by
  split
  · exact ha
  · exact hb

theorem State.keepsStore_foldl {α : Type} {g : State → α → State} (hg : ∀ (a : State) (x : α), a.keepsStore (g a x)) (l : List α)
    {s t : State} (h : s.keepsStore t) : s.keepsStore (l.foldl g t) :=
  List.foldlRecOn (motive := s.keepsStore) l g h fun _ ht x _ => State.keepsStore_step (hg _ x) ht

section
variable {s t : State} (h : s.keepsStore t)
include h

theorem State.keepsStore_set_dram {a : Dram} : s.keepsStore { t with dram := a } := h
theorem State.keepsStore_set_fab {a : Fab} : s.keepsStore { t with fab := a } := h
theorem State.keepsStore_set_upd {a : Upd} : s.keepsStore { t with upd := a } := h

/-- Admission changes, but for its frames, those that wait for a decision, and the highest frame_id that it accepted. -/
theorem State.keepsStore_set_adm {a : Adm} (hframes : framesFrom t.adm.frames a.frames) (hhigh : a.highId = t.adm.highId)
    (hbehind : a.behind = t.adm.behind) : s.keepsStore { t with adm := a } :=
  State.keepsStore_step ⟨hframes, hhigh, fun _ hx => hx, rfl, hbehind⟩ h

end

/-! ### Frames to the host -/

theorem State.sendFrame_keepsStore (s : State) (prio due type flags id step : Nat) (body : Bytes) :
    s.keepsStore (s.sendFrame prio due type flags id step body) :=
  ⟨framesFrom_refl _, rfl, List.subset_append_left _ _, rfl, rfl⟩

theorem State.sendStatus_keepsStore (s : State) (recs : List (Nat × Nat × Nat × Nat × Nat × Nat)) :
    s.keepsStore (s.sendStatus recs) := by
  unfold State.sendStatus State.sendStatusFor
  refine State.keepsStore_ite (State.keepsStore_refl s) (State.keepsStore_step (State.sendFrame_keepsStore _ _ _ _ _ _ _ _) ?_)
  exact State.keepsStore_set_adm (State.keepsStore_refl s) (framesFrom_refl _) rfl rfl

/-- New bounds leave a frame's type, step and wait as they are. -/
theorem framesFrom_map {l : List HeldFrame} {g : HeldFrame → HeldFrame}
    (hg : ∀ f, (g f).isEvents = f.isEvents ∧ (g f).step = f.step ∧ (g f).waiting = f.waiting) : framesFrom l (l.map g) := by
  intro x hx
  obtain ⟨f, hf, rfl⟩ := List.mem_map.mp hx
  exact ⟨f, hf, hg f⟩

theorem State.event_keepsStore (s : State) (code : Nat) (params : Bytes) : s.keepsStore (s.event code params) :=
  State.keepsStore_evolves (State.event_evolves _ _ _) rfl rfl (State.keepsStore_refl s)

theorem State.raiseFrames_keepsStore (s : State) (news : List (Nat × Nat)) : s.keepsStore (s.raiseFrames news) := by
  unfold State.raiseFrames
  refine State.keepsStore_set_adm (State.sendStatus_keepsStore _ _) (framesFrom_map fun f => ?_) rfl rfl
  split <;> exact ⟨rfl, rfl, rfl⟩

theorem State.breakFrames_keepsStore (s : State) (cls step : Nat) (news : List (Nat × Nat)) :
    s.keepsStore (s.breakFrames cls step news) := by
  refine ⟨State.breakFrames_frames s cls step news, ?_⟩
  have htold : ∀ code params recs, s.keepsStore ((s.event code params).sendStatus recs) := fun _ _ _ =>
    State.keepsStore_step (State.sendStatus_keepsStore _ _) (State.event_keepsStore _ _ _)
  unfold State.breakFrames
  dsimp only
  split
  · exact ⟨rfl, fun _ h => h, rfl, rfl⟩
  · exact (htold _ _ _).2

theorem State.applyStepSync_keepsStore (s : State) (step ext delay cls : Nat) : s.keepsStore (s.applyStepSync step ext delay cls) := by
  have hseen := State.keepsStore_set_fab (State.keepsStore_refl s)
    (a := { s.fab with seen := (step, max ext (s.seenOf step).1, max delay (s.seenOf step).2) })
  have hrisen := fun l => State.keepsStore_set_adm hseen (a := { s.adm with steps := l }) (framesFrom_refl _) rfl rfl
  unfold State.applyStepSync
  refine State.keepsStore_ite hseen (State.keepsStore_ite ?_ ?_)
  · exact State.keepsStore_step (State.breakFrames_keepsStore _ _ _ _) (hrisen _)
  · exact State.keepsStore_step (State.raiseFrames_keepsStore _ _) (hrisen _)

theorem State.fanOut_keepsStore (s : State) (cls : Nat) : s.keepsStore (s.fanOut cls) := by
  unfold State.fanOut
  refine State.keepsStore_evolves (State.passUpdate_evolves _ _ _ _) rfl rfl ?_
  refine State.keepsStore_step (State.applyStepSync_keepsStore _ _ _ _ _) ?_
  exact State.keepsStore_evolves (State.answerUpdate_evolves _ _ _) rfl rfl (State.keepsStore_refl s)

theorem State.post_keepsStore (s : State) (delay : Bool) (step ns cls : Nat) (why : Purpose) :
    s.keepsStore (s.post delay step ns cls why) := by
  have h0 := State.keepsStore_refl s
  have hop : ∀ sub o a, s.keepsStore (s.syncOp sub o a 0) := fun _ _ _ => State.keepsStore_evolves (State.syncOp_evolves _ _ _ _ _) rfl rfl h0
  unfold State.post
  refine State.keepsStore_ite h0 (State.keepsStore_ite ?_ ?_)
  · exact State.keepsStore_ite (hop _ _ _) (State.keepsStore_step (State.fanOut_keepsStore _ _) (hop _ _ _))
  · exact State.keepsStore_evolves (State.request_evolves _ _ _ _ _ _ _ _ _ _ _) rfl rfl h0

theorem State.breakAll_keepsStore (s : State) (cls ns : Nat) : s.keepsStore (s.breakAll cls ns) := by
  have hlater := fun news l => State.keepsStore_set_adm (State.breakFrames_keepsStore s cls s.curStep news)
    (a := { (s.breakFrames cls s.curStep news).adm with steps := l }) (framesFrom_refl _) rfl rfl
  unfold State.breakAll
  refine State.keepsStore_ite (hlater _ _) ?_
  exact State.keepsStore_step (State.post_keepsStore _ _ _ _ _ _) (State.keepsStore_set_fab (hlater _ _))

/-! ### Memory errors and the faults of the job -/

theorem State.retrainTrigger_keepsStore (s : State) (tier chan : Nat) (deferrable : Bool) :
    s.keepsStore (s.retrainTrigger tier chan deferrable) := by
  have h0 := State.keepsStore_refl s
  unfold State.retrainTrigger
  refine State.keepsStore_ite h0 (State.keepsStore_ite ?_ ?_)
  · exact State.keepsStore_ite h0 (State.keepsStore_set_dram h0)
  · refine State.keepsStore_evolves (State.showSuspended_evolves _) rfl rfl ?_
    refine State.keepsStore_evolves (State.showTraining_evolves _) rfl rfl ?_
    refine State.keepsStore_step (State.breakAll_keepsStore _ _ _) (State.keepsStore_ite (State.keepsStore_set_dram h0) ?_)
    exact State.keepsStore_set_adm (State.keepsStore_set_dram h0) (framesFrom_refl _) rfl rfl

theorem State.uncorrectableError_keepsStore (s : State) (sector : Nat) : s.keepsStore (s.uncorrectableError sector) := by
  unfold State.uncorrectableError
  extract_lets p die counted located marked poisoned failed
  have hcounted : s.evolves counted [.regs] := State.evolves_ite
    (State.evolves_step (State.bump_evolves _ _ _ _) (State.flagCount_evolves _ _ _ _ _ _) rfl)
    (State.evolves_step (State.bump_evolves _ _ _ _) (State.evolves_step (State.flagCount_evolves _ _ _ _ _ _)
      (State.flag_evolves _ _ _ _) rfl) rfl)
  have hlocated : s.keepsStore located := State.keepsStore_evolves (State.errLoc_evolves _ _ _) rfl rfl
    (State.keepsStore_evolves hcounted rfl rfl (State.keepsStore_refl s))
  have hpoisoned : s.keepsStore poisoned := State.keepsStore_ite hlocated (State.keepsStore_set_dram hlocated)
  have hfailed : s.keepsStore failed := State.keepsStore_evolves (State.rowFails_evolves _ _) rfl rfl hpoisoned
  exact State.keepsStore_ite (State.keepsStore_step (State.retrainTrigger_keepsStore _ _ _ _) hfailed) hfailed

theorem State.meetPoison_keepsStore (s : State) (a n : Nat) : s.keepsStore (s.meetPoison a n) :=
  State.keepsStore_foldl State.uncorrectableError_keepsStore _ (State.keepsStore_refl s)

theorem State.breakStep_keepsStore (s : State) (cls : Nat) (reload : Option Nat) : s.keepsStore (s.breakStep cls reload) := by
  unfold State.breakStep
  cases reload with
  | none => exact State.breakFrames_keepsStore _ _ _ _
  | some extra => exact State.keepsStore_set_adm (State.breakFrames_keepsStore _ _ _ _) (framesFrom_refl _) rfl rfl

theorem State.jobFault_keepsStore (s : State) (cls : Nat) (reload : Option Nat) : s.keepsStore (s.jobFault cls reload) :=
  State.keepsStore_evolves (State.setFault_evolves _ _) rfl rfl (State.breakStep_keepsStore _ _ _)

theorem State.failRead_keepsStore (s : State) (a n : Nat) : s.keepsStore (s.failRead a n) :=
  State.keepsStore_step (State.jobFault_keepsStore _ _ _) (State.meetPoison_keepsStore s a n)

end Sys2Proof.Machine

/-! COMMIT_VOTE: the commit (R291). -/

namespace Sys2Proof.Machine

/-! ### The commit record (R291 step 1) -/

/-- The record written for the step after the live one is the live one then. -/
theorem Upd.live_written {u : Upd} (hlen : u.recs.length = 2) {step : Nat}
    (hstep : step = match u.live.step with | some c => c + 1 | none => 0) (b : SMap Nat) (j : List JRec) :
    Upd.live { u with recs := u.recs.set (step % 2) ⟨some step, b⟩, journal := j } = ⟨some step, b⟩ := by
  obtain ⟨x, y, hrecs⟩ : ∃ x y, u.recs = [x, y] := List.length_eq_two.mp hlen
  obtain ⟨xs, xb⟩ := x
  obtain ⟨ys, yb⟩ := y
  unfold Upd.live at hstep ⊢
  simp only [hrecs] at hstep ⊢
  rcases Nat.mod_two_eq_zero_or_one step with hpar | hpar <;> rw [hpar] <;>
    cases xs <;> cases ys <;> simp at hstep ⊢ <;> grind

/-- Which half is live once the step's written halves have changed places. -/
def Upd.flippedBits (u : Upd) : SMap Nat := u.wrote.foldl (fun m e => SMap.modify 0 m e fun h => 1 - h) u.live.bits

theorem SMap.get_modify {β : Type} [DecidableEq β] (d : β) (m : SMap β) (k j : Nat) (f : β → β) :
    SMap.get d (SMap.modify d m k f) j = if j = k then f (SMap.get d m k) else SMap.get d m j := by
  unfold SMap.modify
  split
  · next h => rw [h, SMap.get_set_same]
  · next h => exact SMap.get_set_other _ _ _ _ _ h

/-- Each listed key, listed once, is changed once. -/
theorem SMap.get_foldl_modify {β : Type} [DecidableEq β] (d : β) (f : β → β) (l : List Nat) (hl : l.Nodup) (m : SMap β) (j : Nat) :
    SMap.get d (l.foldl (fun m e => SMap.modify d m e f) m) j = if l.contains j then f (SMap.get d m j) else SMap.get d m j := by
  induction l generalizing m with
  | nil => rfl
  | cons k l ih =>
    obtain ⟨hk, hl⟩ := List.nodup_cons.mp hl
    rw [List.foldl_cons, ih hl, SMap.get_modify]
    by_cases hj : j = k
    · subst hj
      simp [hk]
    · simp [hj]

/-! ### The update units through a commit -/

/-- The update units once the step's record is written and the journals are empty. -/
def Upd.recorded (u : Upd) (step : Nat) : Upd :=
  { u with recs := u.recs.set (step % 2) ⟨some step, u.flippedBits⟩, journal := [] }

/-- A fault of the step that now begins, which came late, is pending; a pending fault votes (log 32). -/
def Upd.settled (u : Upd) (step : Nat) : Upd :=
  let v : Upd := if u.late = some step then { u with late := none, fault := some (u.fault.getD 0x0B) } else u
  if v.fault.isSome then { v with voted := true } else v

/-- The update units as the next step begins. -/
def Upd.begun (u : Upd) (step : Nat) (n : Option Snap) : Upd := Upd.settled { (u.recorded step).committed with snap := n } (step + 1)

theorem Upd.settled_eq (u : Upd) (k : Nat) :
    u.settled k = { u with late := (u.settled k).late, fault := (u.settled k).fault, voted := (u.settled k).voted } := by
  unfold Upd.settled
  dsimp only
  split <;> split <;> rfl

theorem Upd.settled_fault {u : Upd} {k : Nat} (h : u.late ≠ some k) : (u.settled k).fault = u.fault := by
  unfold Upd.settled
  rw [if_neg h]
  dsimp only
  split <;> rfl

theorem Upd.settled_late {u : Upd} {k : Nat} (h : u.late = some k) : (u.settled k).fault ≠ none ∧ (u.settled k).late = none := by
  unfold Upd.settled
  rw [if_pos h]
  exact ⟨Option.some_ne_none _, rfl⟩

theorem Upd.settled_voted {u : Upd} (h : u.voted = false) (k : Nat) : (u.settled k).voted = (u.settled k).fault.isSome := by
  unfold Upd.settled
  dsimp only
  split
  · rfl
  · split
    · next hsome => exact hsome.symm
    · next hnone => exact h.trans (Bool.eq_false_of_not_eq_true hnone).symm

theorem Upd.begun_keeps (u : Upd) (step : Nat) (n : Option Snap) : (u.begun step n).recs = (u.recorded step).recs
    ∧ (u.begun step n).applied = false ∧ (u.begun step n).wrote = [] ∧ (u.begun step n).rowsDone = [] ∧ (u.begun step n).full = []
    ∧ (u.begun step n).journal = [] ∧ (u.begun step n).lost = none := by
  unfold Upd.begun
  rw [Upd.settled_eq]
  exact ⟨rfl, rfl, rfl, rfl, rfl, rfl, rfl⟩

theorem State.curStep_of_upd {s t : State} (h : t.upd = s.upd) : t.curStep = s.curStep := by
  unfold State.curStep State.committed
  rw [h]

theorem State.emptyJournals_upd (s : State) : s.emptyJournals.upd = { s.upd with journal := [] } := by
  have hregs : s.evolves ([2, 3, 4, 5].foldl (fun s d => s.setReg d Reg.updJournalBytes 0) s) [.regs] :=
    State.evolves_foldl (State.evolves_refl _ _) fun _ _ h => State.evolves_step (State.setReg_evolves _ _ _ _) h rfl
  exact congrArg (fun u : Upd => { u with journal := [] }) (hregs.1 .upd rfl)

theorem State.commitRecords_upd (s : State) (step : Nat) : (s.commitRecords step).upd = s.upd.recorded step := by
  have hnum : (s.commitNum step).upd = s.upd := (State.commitNum_evolves s step).1 .upd rfl
  have hlanes := (State.discardLanes_evolves ((s.commitNum step).writeRecord step).emptyJournals).1 .upd rfl
  have hrecord : ((s.commitNum step).writeRecord step).emptyJournals.upd = (s.commitNum step).upd.recorded step :=
    State.emptyJournals_upd _
  rw [hnum] at hrecord
  exact hlanes.trans hrecord

theorem State.snapBegin_upd (s : State) (step : Nat) (h : History) : ∃ n, (s.snapBegin step h).upd = { s.upd with snap := n } := by
  unfold State.snapBegin
  split
  · next n _ =>
    split
    · exact ⟨s.upd.snap, rfl⟩
    · extract_lets flagged items met
      have hmet : s.evolves met [.regs, .dram, .fab, .vlk, .adm, .dict, .life] :=
        State.evolves_foldl (State.evolves_foldl (State.evolves_refl s _)
          fun _ _ h => State.evolves_step (State.flag_evolves _ _ _ _) h rfl)
          fun _ _ h => State.evolves_step (State.meetPoison_evolves _ _ _) h rfl
      exact ⟨some { n with step := some step, history := some h, items := items },
        congrArg (fun u : Upd => { u with snap := some { n with step := some step, history := some h, items := items } })
          (hmet.1 .upd rfl)⟩
  · exact ⟨s.upd.snap, rfl⟩

theorem State.commitEvent_upd (s : State) (step tensors : Nat) (skipped : Bool) :
    (s.commitEvent step tensors skipped).upd = s.upd.committed := by
  have hevent : ∀ q, ({ s.event 0x0601 q with
      upd := (s.event 0x0601 q).upd.committed, fab := { (s.event 0x0601 q).fab with tree := [] } } : State).upd = s.upd.committed :=
    fun q => congrArg Upd.committed ((State.event_evolves s 0x0601 q).1 .upd rfl)
  exact hevent _

theorem State.commitNews_eq (s : State) (step tensors : Nat) (skipped : Bool) : s.commitNews step tensors skipped =
    (((s.storeSoon (s.historyAt (step % 2)) (s.historyNow step).bytes).commitEvent step tensors skipped).commitFrames step
      skipped).snapBegin step (s.historyNow step) := rfl

theorem State.commitNews_upd (s : State) (step tensors : Nat) (skipped : Bool) :
    ∃ n, (s.commitNews step tensors skipped).upd = { s.upd.committed with snap := n } := by
  rw [State.commitNews_eq]
  generalize hframes : ((s.storeSoon _ _).commitEvent step tensors skipped).commitFrames step skipped = framed
  obtain ⟨n, hn⟩ := State.snapBegin_upd framed step (s.historyNow step)
  refine ⟨n, hn.trans ?_⟩
  rw [← hframes, (State.commitFrames_evolves _ _ _).1 .upd rfl, State.commitEvent_upd, (State.storeSoon_evolves _ _ _).1 .upd rfl]

/-- A fault of the step that now begins, which came late, is pending. -/
def State.lateTaken (s : State) : State :=
  if s.upd.late = some s.curStep then { s with upd := { s.upd with late := none, fault := some (s.upd.fault.getD 0x0B) } } else s

theorem State.lateTaken_upd (s : State) : s.lateTaken.upd =
    if s.upd.late = some s.curStep then { s.upd with late := none, fault := some (s.upd.fault.getD 0x0B) } else s.upd := by
  unfold State.lateTaken
  split <;> rfl

/-- A pending fault votes. -/
def State.lateVoted (s : State) : State := if s.lateTaken.upd.fault.isSome then s.lateTaken.castVote else s.lateTaken

theorem State.lateVoted_upd (s : State) : s.lateVoted.upd = s.upd.settled s.curStep := by
  unfold State.lateVoted Upd.settled
  rw [← State.lateTaken_upd]
  dsimp only
  split
  · exact State.castVote_upd _
  · rfl

theorem State.lateVoted_evolves (s : State) : s.evolves s.lateVoted [.regs, .upd, .fab] := by
  have hlate : s.evolves s.lateTaken [.regs, .upd, .fab] := by
    unfold State.lateTaken
    exact State.evolves_ite (State.evolves_set_upd rfl (fun h => h) (State.evolves_refl _ _)) (State.evolves_refl _ _)
  exact State.evolves_ite (State.evolves_step (State.castVote_evolves _) hlate rfl) hlate

theorem State.afterCommit_eq (s : State) (step : Nat) :
    s.afterCommit step = (if s.refreshDue step then s.startPush else s).lateVoted := rfl

theorem State.afterCommit_upd (s : State) (step : Nat) : (s.afterCommit step).upd = s.upd.settled s.curStep := by
  have hpush : (if s.refreshDue step then s.startPush else s).upd = s.upd := by
    split
    · exact (State.startPush_evolves s).1 .upd rfl
    · rfl
  rw [State.afterCommit_eq, State.lateVoted_upd, State.curStep_of_upd hpush, hpush]

theorem State.curStep_of_live {s : State} {k : Nat} (h : s.upd.live.step = some k) : s.curStep = k + 1 := by
  unfold State.curStep State.committed
  rw [h]

/-- What the commit record says once the step is committed. -/
theorem State.live_recorded {s t : State} (h : s.sound) (hkeep : s.keepsStep t) :
    (t.upd.recorded s.curStep).live = ⟨some s.curStep, s.upd.flippedBits⟩ := by
  have hrecs : t.upd.recs = s.upd.recs := by rw [hkeep]
  have hwrote : t.upd.wrote = s.upd.wrote := by rw [hkeep]
  have hlive : t.upd.live = s.upd.live := by
    unfold Upd.live
    rw [hrecs]
  have hbits : t.upd.flippedBits = s.upd.flippedBits := by
    unfold Upd.flippedBits
    rw [hwrote, hlive]
  have hlen : t.upd.recs.length = 2 := by
    rw [hrecs]
    exact h .upd
  rw [← hbits]
  refine Upd.live_written hlen ?_ _ _
  rw [hlive]
  rfl

theorem State.commit_eq (s : State) : s.commit = (((s.commitData s.curStep).commitRecords s.curStep).commitNews s.curStep
    (if s.num.skip then 0 else s.upd.wrote.length) s.num.skip).afterCommit s.curStep := rfl

/-- The update units after a commit. -/
theorem State.commit_upd {s : State} (h : s.sound) : ∃ n, s.commit.upd = (s.commitData s.curStep).upd.begun s.curStep n := by
  obtain ⟨n, hn⟩ := State.commitNews_upd ((s.commitData s.curStep).commitRecords s.curStep) s.curStep
    (if s.num.skip then 0 else s.upd.wrote.length) s.num.skip
  rw [State.commitRecords_upd] at hn
  have hlive := congrArg CommitRec.step (State.live_recorded h (State.commitData_keepsStep s s.curStep))
  have hnext := State.curStep_of_live ((congrArg (fun u : Upd => u.live.step) hn).trans hlive)
  refine ⟨n, ?_⟩
  rw [State.commit_eq, State.afterCommit_upd, hnext, hn]
  rfl

theorem State.commit_recs {s : State} (h : s.sound) : s.commit.upd.recs = ((s.commitData s.curStep).upd.recorded s.curStep).recs := by
  obtain ⟨n, hn⟩ := State.commit_upd h
  rw [hn]
  exact (Upd.begun_keeps _ _ _).1

theorem Upd.live_congr {u v : Upd} (h : u.recs = v.recs) : u.live = v.live := by
  unfold Upd.live
  rw [h]

theorem State.commit_live {s : State} (h : s.sound) : s.commit.upd.live = ⟨some s.curStep, s.upd.flippedBits⟩ :=
  (Upd.live_congr (State.commit_recs h)).trans (State.live_recorded h (State.commitData_keepsStep s s.curStep))

/-- The step that begins votes at once when a fault is pending. -/
theorem State.commit_begun {s : State} (h : s.sound) : s.commit.upd.applied = false ∧ s.commit.upd.wrote = []
    ∧ s.commit.upd.rowsDone = [] ∧ s.commit.upd.full = [] ∧ s.commit.upd.journal = []
    ∧ s.commit.upd.voted = s.commit.upd.fault.isSome := by
  obtain ⟨n, hn⟩ := State.commit_upd h
  rw [hn]
  obtain ⟨-, happlied, hwrote, hrows, hfull, hjournal, -⟩ := Upd.begun_keeps (s.commitData s.curStep).upd s.curStep n
  exact ⟨happlied, hwrote, hrows, hfull, hjournal, Upd.settled_voted rfl _⟩

/-- A fault that came late is pending in its own step. -/
theorem State.commit_late {s : State} (h : s.sound) (hlate : s.upd.late = some (s.curStep + 1)) :
    s.commit.upd.fault ≠ none ∧ s.commit.upd.late = none := by
  obtain ⟨n, hn⟩ := State.commit_upd h
  have hkeep : s.keepsStep (s.commitData s.curStep) := State.commitData_keepsStep s s.curStep
  rw [hn]
  refine Upd.settled_late (?_ : (s.commitData s.curStep).upd.late = _)
  rw [hkeep]
  exact hlate

theorem State.snapCopy_of_none {s : State} (h : s.upd.snap = none) (key : Nat) : s.snapCopy key = s := by
  unfold State.snapCopy
  rw [h]

theorem State.commitChoice_of_none {s : State} (h : s.emb.choice = none) : s.commitChoice = s := by
  unfold State.commitChoice
  rw [h]

/-- With no snapshot, no new hot set and no skipped step, the commit reads and copies nothing. -/
theorem State.commitData_upd {s : State} (hskip : s.num.skip = false) (hchoice : s.emb.choice = none) (hsnap : s.upd.snap = none)
    (step : Nat) : (s.commitData step).upd = s.upd := by
  have hflip : (s.flipCopies step).upd = s.upd ∧ (s.flipCopies step).emb.choice = none ∧ (s.flipCopies step).num = s.num := by
    unfold State.flipCopies
    rw [State.snapCopy_of_none hsnap]
    exact ⟨rfl, hchoice, rfl⟩
  obtain ⟨hupd, hchosen, hnum⟩ := hflip
  unfold State.commitData
  rw [State.commitChoice_of_none hchosen]
  dsimp only
  rw [hnum, hskip]
  exact hupd

theorem State.commit_fault {s : State} (h : s.sound) (hskip : s.num.skip = false) (hchoice : s.emb.choice = none)
    (hsnap : s.upd.snap = none) (hlate : s.upd.late ≠ some (s.curStep + 1)) : s.commit.upd.fault = s.upd.fault := by
  obtain ⟨n, hn⟩ := State.commit_upd h
  rw [hn, State.commitData_upd hskip hchoice hsnap]
  exact Upd.settled_fault hlate

/-! ### The lanes, the supervisor and the embedding engines after a commit -/

/-- A value is one that is listed, or the default. -/
theorem SMap.get_of_all {β : Type} {p : β → Prop} (d : β) (m : SMap β) (k : Nat) (hd : p d) (h : ∀ q ∈ m, p q.2) :
    p (SMap.get d m k) := by
  induction m with
  | nil => exact hd
  | cons q m ih =>
    unfold SMap.get
    split
    · exact h q List.mem_cons_self
    · exact ih fun r hr => h r (List.mem_cons_of_mem _ hr)

theorem State.lane_of_slanes {s t : State} (h : t.slanes = s.slanes) (i : Nat) : t.lane i = s.lane i := by
  unfold State.lane
  rw [h]

theorem State.emptyLanes_recs (s : State) (i : Nat) : (s.emptyLanes.lane i).recs = [] := by
  refine SMap.get_of_all (p := fun l : SLane => l.recs = []) SLane.reset _ i rfl fun q hq => ?_
  obtain ⟨l, -, rfl⟩ := List.mem_map.mp hq
  rfl

theorem State.discardLanes_recs (s : State) (i : Nat) : (s.discardLanes.lane i).recs = [] := State.emptyLanes_recs _ i

/-- What a step of the commit leaves of the units that hold the step's work. -/
theorem State.commitRecords_parts (s : State) (step : Nat) : (s.commitRecords step).num = (s.commitNum step).num
    ∧ (s.commitRecords step).emb = s.emb.committed step ∧ (∀ i, ((s.commitRecords step).lane i).recs = []) := by
  have hnum := (State.discardLanes_evolves ((s.commitNum step).writeRecord step).emptyJournals).1
  have hjournals := (State.emptyJournals_evolves ((s.commitNum step).writeRecord step)).1
  have hsup := (State.commitNum_evolves s step).1
  refine ⟨?_, ?_, fun i => State.discardLanes_recs ((s.commitNum step).writeRecord step).emptyJournals i⟩
  · exact (hnum .num rfl).trans (hjournals .num rfl)
  · exact congrArg (Emb.committed · step) ((hnum .emb rfl).trans ((hjournals .emb rfl).trans (hsup .emb rfl)))

/-- The embedding engines hold the same rows of the step. -/
def State.keepsReduced (s t : State) : Prop := t.emb.reduced = s.emb.reduced ∧ t.emb.done = s.emb.done

theorem State.keepsReduced_step {s t u : State} (k : t.keepsReduced u) (h : s.keepsReduced t) : s.keepsReduced u :=
  ⟨k.1.trans h.1, k.2.trans h.2⟩

theorem State.keepsReduced_evolves {s t u : State} {P : List Part} (k : t.evolves u P) (hP : P.contains .emb = false)
    (h : s.keepsReduced t) : s.keepsReduced u := by
  unfold State.keepsReduced
  rw [k.1 .emb hP]
  exact h

theorem State.keepsReduced_foldl {α : Type} {g : State → α → State} (hg : ∀ (a : State) (x : α), a.keepsReduced (g a x)) (l : List α)
    {s t : State} (h : s.keepsReduced t) : s.keepsReduced (l.foldl g t) :=
  List.foldlRecOn (motive := s.keepsReduced) l g h fun _ ht x _ => State.keepsReduced_step (hg _ x) ht

theorem State.hotInstall_keepsReduced (s : State) (owner table row cls : Nat) (removal : Bool) (payload : Bytes) :
    s.keepsReduced (s.hotInstall owner table row cls removal payload) := by
  unfold State.hotInstall
  dsimp only
  split
  · exact ⟨rfl, rfl⟩
  · refine State.keepsReduced_foldl (fun a p => ?_) _ ⟨rfl, rfl⟩
    split
    · exact State.keepsReduced_evolves (State.hotWrite_evolves _ _ _ _) rfl ⟨rfl, rfl⟩
    · exact ⟨rfl, rfl⟩

theorem State.startPush_keepsReduced (s : State) : s.keepsReduced s.startPush := by
  unfold State.startPush
  extract_lets recs installed pushed
  have hinstalled : s.keepsReduced installed :=
    State.keepsReduced_foldl (fun _ _ => State.hotInstall_keepsReduced _ _ _ _ _ _ _) _ ⟨rfl, rfl⟩
  have hpushed : installed.evolves pushed [.fab] := State.evolves_foldl (State.evolves_refl _ _) fun a k h =>
    State.evolves_ite h (State.evolves_step (State.sendMsg_evolves _ _ _ _)
      (State.evolves_foldl h fun _ _ h => State.evolves_step (State.sendMsg_evolves _ _ _ _) h rfl) rfl)
  exact (State.keepsReduced_evolves hpushed rfl hinstalled : s.keepsReduced pushed)

theorem State.afterCommit_keepsReduced (s : State) (step : Nat) : s.keepsReduced (s.afterCommit step) := by
  have hpush : s.keepsReduced (if s.refreshDue step then s.startPush else s) := by
    split
    · exact State.startPush_keepsReduced s
    · exact ⟨rfl, rfl⟩
  rw [State.afterCommit_eq]
  exact State.keepsReduced_evolves (State.lateVoted_evolves _) rfl hpush

/-! ### The supervisor after a commit (R220) -/

theorem State.countClean_passes (s : State) (step : Nat) : (s.countClean step).num.passes = s.num.passes := by
  unfold State.countClean
  dsimp only
  split
  · rfl
  · split
    · rfl
    · split
      · rfl
      · split
        · rfl
        · rw [(State.rescalePins_evolves _ _).1 .num rfl]
          dsimp only
          rw [(State.event_evolves _ _ _).1 .num rfl, (State.flag_evolves _ _ _ _).1 .num rfl, (State.setCube_evolves _ _).1 .num rfl]
          rfl

theorem State.commitNum_num (s : State) (step : Nat) : (s.commitNum step).num.decided = none ∧ (s.commitNum step).num.skip = false
    ∧ (s.commitNum step).num.passes = s.advancePasses := by
  unfold State.commitNum
  extract_lets passes num advanced counted left spent told
  have hcounted : counted.num.passes = s.advancePasses := State.countClean_passes advanced _
  have htold : told.num = counted.num := by
    refine (State.evolves_ite (P := [.regs]) ?_ ?_ : counted.evolves told [.regs]).1 .num rfl
    · exact State.evolves_step (State.clearReg_evolves _ _ _ _) (State.setReg_evolves _ _ _ _) rfl
    · exact State.setReg_evolves _ _ _ _
  exact ⟨rfl, rfl, (congrArg Num.passes htold).trans hcounted⟩

/-- Each pass takes its next rung. -/
theorem State.advancePasses_get {s : State} {q : Nat} {p : PassRec} (h : s.num.passes[q]? = some p) :
    ∃ p' : PassRec, s.advancePasses[q]? = some p' ∧ p'.base = p.next ∧ p'.current = p.next ∧ p'.next = p.pending
      ∧ p'.repeatsStep = 0 := by
  unfold State.advancePasses
  dsimp only
  rw [List.getElem?_map, h]
  exact ⟨_, rfl, rfl, rfl, rfl, rfl⟩

/-- What the commit leaves of these units. -/
theorem State.commit_parts (s : State) : s.commit.num.decided = none ∧ s.commit.num.skip = false
    ∧ s.commit.num.passes = (s.commitData s.curStep).advancePasses ∧ s.commit.emb.reduced = [] ∧ s.commit.emb.done = false
    ∧ (∀ i, (s.commit.lane i).recs = []) := by
  obtain ⟨hnum, hemb, hlanes⟩ := State.commitRecords_parts (s.commitData s.curStep) s.curStep
  obtain ⟨hdecided, hskip, hpasses⟩ := State.commitNum_num (s.commitData s.curStep) s.curStep
  rw [State.commit_eq]
  have hnews := State.commitNews_evolves ((s.commitData s.curStep).commitRecords s.curStep) s.curStep
    (if s.num.skip then 0 else s.upd.wrote.length) s.num.skip
  generalize ((s.commitData s.curStep).commitRecords s.curStep).commitNews s.curStep
    (if s.num.skip then 0 else s.upd.wrote.length) s.num.skip = told at hnews ⊢
  have hafter := State.afterCommit_evolves told s.curStep
  obtain ⟨hreduced, hdone⟩ := State.afterCommit_keepsReduced told s.curStep
  rw [hafter.1 .num rfl, hnews.1 .num rfl, hnum, hreduced, hdone, hnews.1 .emb rfl, hemb]
  refine ⟨hdecided, hskip, hpasses, rfl, rfl, fun i => ?_⟩
  rw [State.lane_of_slanes ((hafter.1 .slanes rfl).trans (hnews.1 .slanes rfl))]
  exact hlanes i

theorem State.commit_passes (s : State) : s.commit.num.passes.length = s.num.passes.length
    ∧ ∀ (q : Nat) (p : PassRec), s.num.passes[q]? = some p → ∃ p' : PassRec, s.commit.num.passes[q]? = some p' ∧ p'.base = p.next
      ∧ p'.current = p.next ∧ p'.next = p.pending ∧ p'.repeatsStep = 0 := by
  obtain ⟨-, -, hpasses, -⟩ := State.commit_parts s
  have hnum : (s.commitData s.curStep).num = s.num := (State.commitData_evolves s s.curStep).1 .num rfl
  rw [hpasses]
  refine ⟨?_, fun q p h => State.advancePasses_get ?_⟩
  · unfold State.advancePasses
    rw [List.length_map, hnum]
  · rw [hnum]
    exact h

/-! ### The frame store after a commit (R379) -/

theorem noFrames_from {a b : List HeldFrame} {p : Nat → Prop} (h : framesFrom a b) (ha : noFrames a p) : noFrames b p := by
  intro g hg hevents hwait hstep
  obtain ⟨f, hf, hevents', hstep', hwait'⟩ := h g hg
  exact ha f hf (hevents' ▸ hevents) (hwait' ▸ hwait) (hstep' ▸ hstep)

theorem State.commitFrames_frames (s : State) (step : Nat) (skipped : Bool) :
    noFrames (s.commitFrames step skipped).adm.frames (· ≤ step) := by
  intro f hf hevents hwait hstep
  unfold State.commitFrames at hf
  rw [State.sendStatus_frames] at hf
  have hkeep := (List.mem_filter.mp hf).2
  simp [hevents, hwait, hstep] at hkeep

theorem State.snapBegin_keepsStore (s : State) (step : Nat) (h : History) : s.keepsStore (s.snapBegin step h) := by
  unfold State.snapBegin
  split
  · refine State.keepsStore_ite (State.keepsStore_refl s) ?_
    extract_lets flagged items met
    have hflagged : s.evolves flagged [.regs] :=
      State.evolves_foldl (State.evolves_refl s _) fun _ _ h => State.evolves_step (State.flag_evolves _ _ _ _) h rfl
    have hmet : s.keepsStore met := State.keepsStore_foldl (fun _ _ => State.meetPoison_keepsStore _ _ _) _
      (State.keepsStore_evolves hflagged rfl rfl (State.keepsStore_refl s))
    exact State.keepsStore_set_upd hmet
  · exact State.keepsStore_refl s

theorem State.commit_frames (s : State) : noFrames s.commit.adm.frames (· ≤ s.curStep) := by
  rw [State.commit_eq, (State.afterCommit_evolves _ _).1 .adm rfl, State.commitNews_eq]
  obtain ⟨hframes, -⟩ := State.snapBegin_keepsStore (State.commitFrames _ s.curStep s.num.skip) s.curStep
    (((s.commitData s.curStep).commitRecords s.curStep).historyNow s.curStep)
  exact noFrames_from hframes (State.commitFrames_frames _ _ _)

end Sys2Proof.Machine

/-! The rollback of the step in progress (R293, R296). -/

namespace Sys2Proof.Machine

/-! ### The stages of a rollback -/

/-- The frets stop, and promises are broken unless the module told of its own fault before. -/
def State.rollHalted (s : State) (cause decision : Nat) : State :=
  let s := s.stopFrets [0, 1]
  let told := s.upd.fault.isSome && (decision ≠ 2 || (s.adm.frames.all fun f => !f.inFlight || f.bound = never))
  if told then s else s.breakStep cause (if decision = 2 then none else some 0)

/-- The journal is written back; training stops where a record fails its check. -/
def State.rewound (s : State) : State := if s.rewind.2 then s.rewind.1 else s.rewind.1.stopTraining

/-- The supervisor, the carried sums and the embedding engines return to the step's start. -/
def State.unitsBack (s : State) (step cause : Nat) : State :=
  let t := ({ s.emptyJournals with emb := (s.emptyJournals.emb.discard step).revertShards step } : State).revertNum cause
  t.restoreCarries step t.num.carry

/-- The lanes are empty, the phases and what they contributed are forgotten, and accesses that waited happen. -/
def State.boardCleared (s : State) : State :=
  ((s.emptyLanes).updBoard fun b => { b with contribs := [], phases := [], norms := [], runs := [], convs := [] }).serveWindows

/-- The update units as the step runs again. -/
def Upd.rolledBack (u : Upd) (decision : Nat) : Upd :=
  { u with
    wrote := [], handled := [], passed := [], failed := [], shards := [], rowsUpdated := 0, checksFailed := 0
    rowsDone := [], full := [], applied := false, voted := false, fault := none
    rolls := u.rolls + 1, rollbacks := cap32 (u.rollbacks + 1), rerun := if decision = 0 then 3 else 4 }

/-- The rollback counts, and its event is logged. -/
def State.rollCounted (s : State) (step cause decision lowest : Nat) : State :=
  ({ s with fab := { s.fab with tree := [] }, upd := s.upd.rolledBack decision } : State).event 0x0602
    (u64 step ++ u8 cause ++ u8 decision ++ u32 lowest)

/-- The rollback up to its event. -/
def State.rolledBack (s : State) (cause decision lowest : Nat) : State :=
  (((s.rollHalted cause decision).rewound.unitsBack s.curStep cause).boardCleared).rollCounted s.curStep cause decision lowest

theorem State.rollback_eq (s : State) (cause decision lowest : Nat) : s.rollback cause decision lowest =
    if decision = 2 then (s.rolledBack cause decision lowest).stopTraining else s.rolledBack cause decision lowest := rfl

/-! ### What the stages change -/

section
variable (s : State)

theorem State.rollHalted_evolves (cause decision : Nat) :
    s.evolves (s.rollHalted cause decision) [.regs, .frets, .vlk, .adm, .dict] :=
  State.evolves_ite (State.evolves_wider (State.stopFrets_evolves _ _) rfl)
    (State.evolves_step (State.breakStep_evolves _ _ _) (State.evolves_wider (State.stopFrets_evolves _ _) rfl) rfl)

theorem State.unitsBack_evolves (step cause : Nat) : s.evolves (s.unitsBack step cause) [.regs, .frets, .num, .emb, .upd] := by
  have hemptied : s.evolves s.emptyJournals [.regs, .frets, .num, .emb, .upd] := State.evolves_wider (State.emptyJournals_evolves s) rfl
  exact State.evolves_step (State.restoreCarries_evolves _ _ _)
    (State.evolves_step (State.revertNum_evolves _ _) (State.evolves_set_emb rfl hemptied) rfl) rfl

theorem State.boardCleared_evolves : s.evolves s.boardCleared [.frets, .slanes, .board, .dram] :=
  State.evolves_step (State.serveWindows_evolves _) (State.evolves_step (State.updBoard_evolves _ _)
    (State.evolves_wider (State.emptyLanes_evolves _) rfl) rfl) rfl

theorem State.rollCounted_evolves (step cause decision lowest : Nat) :
    s.evolves (s.rollCounted step cause decision lowest) [.regs, .upd, .fab, .dict] :=
  State.evolves_step (State.event_evolves _ _ _) (State.evolves_set_upd_fab rfl (fun h => h) (fun h => h) (State.evolves_refl s _)) rfl

end

theorem State.rollCounted_upd (s : State) (step cause decision lowest : Nat) :
    (s.rollCounted step cause decision lowest).upd = s.upd.rolledBack decision := (State.event_evolves _ _ _).1 .upd rfl

/-! ### Running, phases and poison while units return to the step's start -/

/-- The frets run as they did, the phases and what they contributed are the same, and so is the poison of memory. -/
def State.keepsRuns (s t : State) : Prop := (∀ i, (t.fret i).run = (s.fret i).run) ∧ t.board.phases = s.board.phases
  ∧ t.board.contribs = s.board.contribs ∧ t.dram.poison = s.dram.poison

theorem State.keepsRuns_refl (s : State) : s.keepsRuns s := ⟨fun _ => rfl, rfl, rfl, rfl⟩

theorem State.keepsRuns_step {s t u : State} (k : t.keepsRuns u) (h : s.keepsRuns t) : s.keepsRuns u := by
  obtain ⟨hrun, hphases, hcontribs, hpoison⟩ := h
  obtain ⟨krun, kphases, kcontribs, kpoison⟩ := k
  exact ⟨fun i => (krun i).trans (hrun i), kphases.trans hphases, kcontribs.trans hcontribs, kpoison.trans hpoison⟩

theorem State.keepsRuns_evolves {s t u : State} {P : List Part} (k : t.evolves u P) (hfrets : P.contains .frets = false)
    (hboard : P.contains .board = false) (hdram : P.contains .dram = false) (h : s.keepsRuns t) : s.keepsRuns u := by
  refine State.keepsRuns_step ⟨fun i => ?_, ?_, ?_, ?_⟩ h
  · rw [State.fret_of_frets (k.1 .frets hfrets)]
  · rw [k.1 .board hboard]
  · rw [k.1 .board hboard]
  · rw [k.1 .dram hdram]

theorem State.keepsRuns_ite {s a b : State} {c : Prop} [Decidable c] (ha : s.keepsRuns a) (hb : s.keepsRuns b) :
    s.keepsRuns (if c then a else b) := by
  split
  · exact ha
  · exact hb

theorem State.keepsRuns_foldl {α : Type} {g : State → α → State} (hg : ∀ (a : State) (x : α), a.keepsRuns (g a x)) (l : List α)
    {s t : State} (h : s.keepsRuns t) : s.keepsRuns (l.foldl g t) :=
  List.foldlRecOn (motive := s.keepsRuns) l g h fun _ ht x _ => State.keepsRuns_step (hg _ x) ht

theorem State.keepsRuns_set_emb {s t : State} {e : Emb} (h : s.keepsRuns t) : s.keepsRuns { t with emb := e } := h

/-- One fret changes and runs as it did. -/
theorem State.setFret_keepsRuns {s : State} {i : Nat} {f : Fret} (hf : f.run = (s.fret i).run) : s.keepsRuns (s.setFret i f) := by
  refine ⟨fun j => ?_, rfl, rfl, rfl⟩
  by_cases hj : j = i
  · subst hj
    rw [State.fret_setFret_same]
    exact hf
  · rw [State.fret_setFret_other _ _ _ _ hj]

theorem State.updFret_keepsRuns {s : State} {i : Nat} {g : Fret → Fret} (hg : ∀ f, (g f).run = f.run) : s.keepsRuns (s.updFret i g) := by
  refine ⟨fun j => ?_, rfl, rfl, rfl⟩
  by_cases hj : j = i
  · subst hj
    rw [State.fret_updFret_same]
    exact hg _
  · rw [State.fret_updFret_other _ _ _ _ hj]

theorem writeElems_run (f : Fret) (v : Voicing) (T k e : Nat) (xs : List (F32 × Bool)) : (writeElems f v T k e xs).run = f.run := by
  unfold writeElems
  dsimp only
  split <;> rfl

theorem writeElem_run (f : Fret) (v : Voicing) (T k e : Nat) (x : F32) (mu : Bool) : (writeElem f v T k e x mu).run = f.run := by
  unfold writeElem
  dsimp only
  split <;> rfl

theorem State.restoreCarries_keepsRuns (s : State) (step : Nat) (scale : Int) : s.keepsRuns (s.restoreCarries step scale) := by
  unfold State.restoreCarries
  exact State.keepsRuns_foldl (fun _ _ => State.setFret_keepsRuns (writeElems_run _ _ _ _ _ _)) _ (State.keepsRuns_refl s)

theorem State.placeSeed_keepsRuns (s : State) : s.keepsRuns s.placeSeed := by
  unfold State.placeSeed
  exact State.keepsRuns_foldl (fun _ _ => State.updFret_keepsRuns fun f => (rfl : (f.writeSram _ _).run = f.run)) _ (State.keepsRuns_refl s)

theorem State.revertNum_keepsRuns (s : State) (cause : Nat) : s.keepsRuns (s.revertNum cause) := by
  have hcube : ∀ c, s.keepsRuns (s.setCube c) := fun c => State.keepsRuns_step (State.placeSeed_keepsRuns _)
    (State.keepsRuns_evolves (State.setReg_evolves _ _ _ _) rfl rfl rfl (State.keepsRuns_refl s))
  have hback : ∀ c v (n : Num), s.keepsRuns { (s.setCube c).setReg 6 Reg.numCleanSteps v with num := n } := fun c v n =>
    State.keepsRuns_step ⟨fun _ => rfl, rfl, rfl, rfl⟩ (hcube c)
  unfold State.revertNum
  split
  · split
    · exact State.keepsRuns_refl s
    · exact hback _ _ _
  · exact State.keepsRuns_refl s

theorem State.windowWord_keepsRuns (s : State) (i w : Nat) (x : F32) : s.keepsRuns (s.windowWord i w x) := by
  refine State.updFret_keepsRuns fun f => ?_
  dsimp only
  split
  · exact writeElem_run _ _ _ _ _ _ _
  · rfl

theorem State.windowPut_keepsRuns (s : State) (i w width data : Nat) : s.keepsRuns (s.windowPut i w width data) := by
  unfold State.windowPut
  refine State.keepsRuns_ite (State.updFret_keepsRuns fun _ => rfl) (State.keepsRuns_ite (State.keepsRuns_ite ?_ ?_) ?_)
  · exact State.keepsRuns_step (State.windowWord_keepsRuns _ _ _ _) (State.windowWord_keepsRuns _ _ _ _)
  · exact State.windowWord_keepsRuns _ _ _ _
  · exact State.keepsRuns_refl s

theorem State.windowAccess_keepsRuns (s : State) (x : WindowWait) : s.keepsRuns (s.windowAccess x) := by
  unfold State.windowAccess
  refine State.keepsRuns_ite ⟨fun _ => rfl, rfl, rfl, rfl⟩ (State.keepsRuns_ite ⟨fun _ => rfl, rfl, rfl, rfl⟩ ?_)
  split
  · exact State.windowPut_keepsRuns _ _ _ _ _
  · exact ⟨fun _ => rfl, rfl, rfl, rfl⟩

theorem State.serveWindows_keepsRuns (s : State) : s.keepsRuns s.serveWindows :=
  State.keepsRuns_foldl State.windowAccess_keepsRuns _ ⟨fun _ => rfl, rfl, rfl, rfl⟩

/-- A running fret of the job: nothing runs where there is none. -/
def State.halted (s : State) : Prop := ∀ i, i < 768 → (s.fret i).run ≠ 1

theorem State.halted_of_keepsRuns {s t : State} (h : s.keepsRuns t) (hs : s.halted) : t.halted := fun i hi => by
  rw [h.1 i]
  exact hs i hi

theorem State.halted_of_frets {s t : State} (h : t.frets = s.frets) (hs : s.halted) : t.halted := fun i hi => by
  rw [State.fret_of_frets h]
  exact hs i hi

theorem State.stopFrets_halted {s : State} (h : s.sound) : (s.stopFrets [0, 1]).halted := by
  intro i hi
  have hdie : i / 384 = 0 ∨ i / 384 = 1 := by omega
  unfold State.stopFrets
  rw [State.mapFrets_fret h _ _ fun _ => rfl]
  split
  · exact (by decide : (2 : Nat) ≠ 1)
  · next hne =>
    intro hrun
    rcases hdie with hd | hd <;> simp [hrun, hd] at hne

theorem State.endUncosted_halted {s : State} (h : s.halted) : s.endUncosted.halted := by
  unfold State.endUncosted
  refine List.foldlRecOn (motive := State.halted) _ _ h fun t ht q _ => ?_
  split
  · intro i hi
    by_cases hiq : i = q.1
    · subst hiq
      rw [State.fret_updFret_same]
      exact (by decide : (0 : Nat) ≠ 1)
    · rw [State.fret_updFret_other _ _ _ _ hiq, State.fret_of_frets ((State.leavePhase_evolves _ _).1 .frets rfl)]
      exact ht i hi
  · exact ht

theorem State.stopTraining_halted {s : State} (h : s.halted) : s.stopTraining.halted :=
  State.halted_of_frets (s := s.endUncosted) ((State.abandonSnap_evolves _).1 .frets rfl) (State.endUncosted_halted h)

/-- With no phase that runs, the end of training leaves the phases and the supervisor alone. -/
theorem State.stopTraining_idle {s : State} (h : s.board.phases = []) : s.stopTraining.board = s.board ∧ s.stopTraining.num = s.num := by
  have hended : s.endUncosted.board = s.board ∧ s.endUncosted.num = s.num := by
    unfold State.endUncosted
    refine List.foldlRecOn (motive := fun t : State => t.board = s.board ∧ t.num = s.num) _ _ ⟨rfl, rfl⟩ fun t ht q _ => ?_
    have hleave : t.leavePhase q.1 = t := by
      unfold State.leavePhase
      rw [ht.1, h]
      rfl
    rw [hleave]
    split <;> exact ht
  have hsnap := (State.abandonSnap_evolves (s.endUncosted.setFn 0 0)).1
  exact ⟨(hsnap .board rfl).trans hended.1, (hsnap .num rfl).trans hended.2⟩

/-! ### The state that a rollback leaves -/

section
variable (s : State) (cause decision lowest : Nat)

theorem State.rewound_keepsRolls : s.keepsRolls s.rewound := by
  have hback : s.keepsRolls s.rewind.1 := State.keepsRolls_evolves (State.rewind_evolves _) rfl (State.keepsRolls_refl s)
  exact State.keepsRolls_ite hback (State.keepsRolls_step (State.stopTraining_keepsRolls _) hback)

theorem State.unitsBack_upd (step : Nat) : (s.unitsBack step cause).upd = { s.upd with journal := [] } := by
  have hnum : ∀ (t : State), ((t.revertNum cause).restoreCarries step (t.revertNum cause).num.carry).upd = t.upd := fun t =>
    ((State.restoreCarries_evolves _ _ _).1 .upd rfl).trans ((State.revertNum_evolves t cause).1 .upd rfl)
  exact (hnum _).trans (State.emptyJournals_upd s)

/-- The update units after a rollback: the rest of them stands as it was before the step's work was discarded. -/
theorem State.rollback_upd : ∃ u : Upd, u.recs = s.upd.recs ∧ u.rolls = s.upd.rolls ∧ u.rollbacks = s.upd.rollbacks ∧ u.journal = []
    ∧ (s.rollback cause decision lowest).upd = u.rolledBack decision := by
  have hupd : (s.rolledBack cause decision lowest).upd
      = Upd.rolledBack { (s.rollHalted cause decision).rewound.upd with journal := [] } decision := by
    unfold State.rolledBack
    rw [State.rollCounted_upd, (State.boardCleared_evolves _).1 .upd rfl, State.unitsBack_upd]
  have hhalted : s.keepsRolls (s.rollHalted cause decision) :=
    State.keepsRolls_evolves (State.rollHalted_evolves s cause decision) rfl (State.keepsRolls_refl s)
  obtain ⟨hrecs, hrolls, hrollbacks, -⟩ := State.keepsRolls_step (State.rewound_keepsRolls (s.rollHalted cause decision)) hhalted
  generalize (s.rollHalted cause decision).rewound.upd = u at hupd hrecs hrolls hrollbacks
  rw [State.rollback_eq]
  split
  · refine ⟨{ u with journal := [], snap := none }, hrecs, hrolls, hrollbacks, rfl, ?_⟩
    rw [State.stopTraining_upd, hupd]
    rfl
  · exact ⟨{ u with journal := [] }, hrecs, hrolls, hrollbacks, rfl, hupd⟩

theorem State.emptyLanes_cleared (i : Nat) : (s.boardCleared.lane i).recs = [] := by
  unfold State.boardCleared
  rw [State.lane_of_slanes ((State.serveWindows_evolves _).1 .slanes rfl)]
  exact State.emptyLanes_recs s i

theorem State.boardCleared_phases : s.boardCleared.board.phases = [] ∧ s.boardCleared.board.contribs = [] := by
  obtain ⟨-, hphases, hcontribs, -⟩ := State.serveWindows_keepsRuns ((s.emptyLanes).updBoard fun b =>
    { b with contribs := [], phases := [], norms := [], runs := [], convs := [] })
  exact ⟨hphases, hcontribs⟩

theorem State.unitsBack_num (step : Nat) : (s.unitsBack step cause).num.decided = none ∧ (s.unitsBack step cause).num.skip = false := by
  have hnum : ∀ (t : State), (t.revertNum cause).num.decided = none ∧ (t.revertNum cause).num.skip = false := fun _ => ⟨rfl, rfl⟩
  unfold State.unitsBack
  dsimp only
  rw [(State.restoreCarries_evolves _ _ _).1 .num rfl]
  exact hnum _

/-- The units after the rollback's event. -/
theorem State.rolledBack_units : (∀ i, ((s.rolledBack cause decision lowest).lane i).recs = [])
    ∧ (s.rolledBack cause decision lowest).num.decided = none ∧ (s.rolledBack cause decision lowest).num.skip = false
    ∧ (s.rolledBack cause decision lowest).board.phases = [] ∧ (s.rolledBack cause decision lowest).board.contribs = [] := by
  unfold State.rolledBack
  generalize hback : (s.rollHalted cause decision).rewound.unitsBack s.curStep cause = back
  obtain ⟨hdecided, hskip⟩ := State.unitsBack_num (s.rollHalted cause decision).rewound cause s.curStep
  rw [hback] at hdecided hskip
  obtain ⟨hphases, hcontribs⟩ := State.boardCleared_phases back
  have hclear := (State.boardCleared_evolves back).1
  have hcount := (State.rollCounted_evolves back.boardCleared s.curStep cause decision lowest).1
  rw [hcount .num rfl, hclear .num rfl, hcount .board rfl]
  refine ⟨fun i => ?_, hdecided, hskip, hphases, hcontribs⟩
  rw [State.lane_of_slanes (hcount .slanes rfl)]
  exact State.emptyLanes_cleared back i

/-- The units after the rollback, the end of training included. -/
theorem State.rollback_units : (∀ i, ((s.rollback cause decision lowest).lane i).recs = [])
    ∧ (s.rollback cause decision lowest).num.decided = none ∧ (s.rollback cause decision lowest).num.skip = false
    ∧ (s.rollback cause decision lowest).board.phases = [] ∧ (s.rollback cause decision lowest).board.contribs = [] := by
  have hunits := State.rolledBack_units s cause decision lowest
  rw [State.rollback_eq]
  split
  · obtain ⟨hboard, hnum⟩ := State.stopTraining_idle hunits.2.2.2.1
    rw [hboard, hnum]
    refine ⟨fun i => ?_, hunits.2⟩
    rw [State.lane_of_slanes ((State.stopTraining_evolves _).1 .slanes rfl)]
    exact hunits.1 i
  · exact hunits

theorem State.unitsBack_keepsRuns (step : Nat) : s.keepsRuns (s.unitsBack step cause) := by
  have hunits : ∀ t : State, s.keepsRuns t → s.keepsRuns ((t.revertNum cause).restoreCarries step (t.revertNum cause).num.carry) :=
    fun _ h => State.keepsRuns_step (State.restoreCarries_keepsRuns _ _ _) (State.keepsRuns_step (State.revertNum_keepsRuns _ _) h)
  refine hunits _ (State.keepsRuns_set_emb ?_)
  exact State.keepsRuns_evolves (State.emptyJournals_evolves s) rfl rfl rfl (State.keepsRuns_refl s)

theorem State.boardCleared_run : (∀ i, (s.boardCleared.fret i).run = (s.fret i).run) ∧ s.boardCleared.dram.poison = s.dram.poison := by
  obtain ⟨hrun, -, -, hpoison⟩ := State.serveWindows_keepsRuns ((s.emptyLanes).updBoard fun b =>
    { b with contribs := [], phases := [], norms := [], runs := [], convs := [] })
  exact ⟨hrun, hpoison⟩

theorem State.rewound_halted (h : s.halted) : s.rewound.halted := by
  have hback : s.rewind.1.halted := State.halted_of_frets ((State.rewind_evolves s).1 .frets rfl) h
  unfold State.rewound
  split
  · exact hback
  · exact State.stopTraining_halted hback

theorem State.rollHalted_halted (h : s.sound) : (s.rollHalted cause decision).halted := by
  unfold State.rollHalted
  dsimp only
  split
  · exact State.stopFrets_halted h
  · exact State.halted_of_frets ((State.breakStep_evolves _ _ _).1 .frets rfl) (State.stopFrets_halted h)

theorem State.rollback_halted (h : s.sound) : (s.rollback cause decision lowest).halted := by
  have hback := State.halted_of_keepsRuns (State.unitsBack_keepsRuns (s.rollHalted cause decision).rewound cause s.curStep)
    (State.rewound_halted _ (State.rollHalted_halted s cause decision h))
  have hrolled : (s.rolledBack cause decision lowest).halted := by
    refine State.halted_of_frets ((State.rollCounted_evolves _ _ _ _ _).1 .frets rfl) fun i hi => ?_
    rw [(State.boardCleared_run _).1 i]
    exact hback i hi
  rw [State.rollback_eq]
  split
  · exact State.stopTraining_halted hrolled
  · exact hrolled

end

/-! ### Memory after a rollback -/

theorem State.rewindOne_clean {s t : State} {j : JRec} (h : s.dram.poison = []) (ht : s.rewindOne j = some t) : t.dram.poison = [] := by
  have hstore : ∀ (x : State) (a : Nat) (bs : Bytes), x.dram.poison = [] → (x.store a bs).dram.poison = [] := by
    intro x a bs hx
    unfold State.store State.writeMem
    dsimp only
    rw [hx]
    rfl
  unfold State.rewindOne at ht
  dsimp only at ht
  split at ht
  · split at ht
    · split at ht
      · cases ht
        exact hstore _ _ _ (hstore _ _ _ h)
      · cases ht
        exact hstore _ _ _ h
    · cases ht
      exact hstore _ _ _ h
  · cases ht

theorem State.rewind_clean {s : State} (h : s.dram.poison = []) : s.rewind.1.dram.poison = [] := by
  unfold State.rewind
  refine List.foldlRecOn (motive := fun p : State × Bool => p.1.dram.poison = []) _ _ h fun p hp j _ => ?_
  split
  · next t ht => exact State.rewindOne_clean hp ht
  · exact hp

theorem State.rewound_clean {s : State} (h : s.dram.poison = []) : s.rewound.dram.poison = [] := by
  unfold State.rewound
  split
  · exact State.rewind_clean h
  · rw [(State.stopTraining_evolves _).1 .dram rfl]
    exact State.rewind_clean h

section
variable {s : State} (cause decision lowest : Nat)

theorem State.rollback_clean (h : s.dram.poison = []) : (s.rollback cause decision lowest).dram.poison = [] := by
  have hhalted : (s.rollHalted cause decision).dram.poison = [] := by
    rw [(State.rollHalted_evolves s _ _).1 .dram rfl]
    exact h
  obtain ⟨-, -, -, hback⟩ := State.unitsBack_keepsRuns (s.rollHalted cause decision).rewound cause s.curStep
  have hrolled : (s.rolledBack cause decision lowest).dram.poison = [] := by
    unfold State.rolledBack
    rw [(State.rollCounted_evolves _ _ _ _ _).1 .dram rfl, (State.boardCleared_run _).2, hback]
    exact State.rewound_clean hhalted
  rw [State.rollback_eq]
  split
  · rw [(State.stopTraining_evolves _).1 .dram rfl]
    exact hrolled
  · exact hrolled

/-- With an empty journal a rollback writes nothing back. -/
theorem State.rollback_mem (h : s.upd.journal = []) : (s.rollback cause decision lowest).mem = s.mem := by
  have hhalted := (State.rollHalted_evolves s cause decision).1
  have hrewind : ∀ t : State, t.upd.journal = [] → t.rewound.mem = t.mem := by
    intro t ht
    unfold State.rewound State.rewind
    rw [ht]
    rfl
  have hrolled : (s.rolledBack cause decision lowest).mem = s.mem := by
    unfold State.rolledBack
    rw [(State.rollCounted_evolves _ _ _ _ _).1 .mem rfl, (State.boardCleared_evolves _).1 .mem rfl,
      (State.unitsBack_evolves _ _ _).1 .mem rfl, hrewind _ (by rw [hhalted .upd rfl]; exact h)]
    exact hhalted .mem rfl
  rw [State.rollback_eq]
  split
  · rw [(State.stopTraining_evolves _).1 .mem rfl]
    exact hrolled
  · exact hrolled

theorem State.rollback_stops : (s.rollback cause 2 lowest).fnState 0 = 0 := by
  rw [State.rollback_eq, if_pos rfl]
  exact State.stopTraining_fnState _

end

end Sys2Proof.Machine

/-! COMMIT_VOTE (R290, R291, R293). -/

namespace Sys2Proof.Machine

/-! ### The rollback that a vote decides -/

section
variable (s : State) (decision lowest : Nat)

/-- The update units after a rollback, but for a fault that the carried sums meet. -/
theorem State.rollBackTo_upd : ∃ u : Upd, u.recs = s.upd.recs ∧ u.rolls = s.upd.rolls ∧ u.rollbacks = s.upd.rollbacks ∧ u.journal = []
    ∧ (u.rolledBack decision).sameStep (s.rollBackTo decision lowest).upd := by
  obtain ⟨u, hrecs, hrolls, hrollbacks, hjournal, hu⟩ := State.rollback_upd s (s.upd.fault.getD 9) decision lowest
  refine ⟨u, hrecs, hrolls, hrollbacks, hjournal, ?_⟩
  rw [← hu]
  exact State.metCarries_keepsStep _ _

theorem State.rollBackTo_step : (s.rollBackTo decision lowest).upd.recs = s.upd.recs
    ∧ (s.rollBackTo decision lowest).upd.rolls = s.upd.rolls + 1
    ∧ (s.rollBackTo decision lowest).upd.rollbacks = cap32 (s.upd.rollbacks + 1)
    ∧ (s.rollBackTo decision lowest).upd.rerun = (if decision = 0 then 3 else 4)
    ∧ (s.rollBackTo decision lowest).upd.applied = false ∧ (s.rollBackTo decision lowest).upd.wrote = []
    ∧ (s.rollBackTo decision lowest).upd.rowsDone = [] ∧ (s.rollBackTo decision lowest).upd.full = []
    ∧ (s.rollBackTo decision lowest).upd.journal = [] := by
  obtain ⟨u, hrecs, hrolls, hrollbacks, hjournal, hu⟩ := State.rollBackTo_upd s decision lowest
  rw [hu]
  exact ⟨hrecs, congrArg (· + 1) hrolls, congrArg (fun n => cap32 (n + 1)) hrollbacks, rfl, rfl, rfl, rfl, rfl, hjournal⟩

/-- With no poison met, nothing is pending when the step runs again. -/
theorem State.rollBackTo_clean (h : s.dram.poison = []) :
    (s.rollBackTo decision lowest).upd.voted = false ∧ (s.rollBackTo decision lowest).upd.fault = none := by
  obtain ⟨u, -, -, -, -, hu⟩ := State.rollback_upd s (s.upd.fault.getD 9) decision lowest
  unfold State.rollBackTo
  rw [State.metCarries_of_clean (State.rollback_clean _ _ _ h), hu]
  exact ⟨rfl, rfl⟩

theorem State.rollBackTo_units : (∀ i, ((s.rollBackTo decision lowest).lane i).recs = [])
    ∧ (s.rollBackTo decision lowest).num.decided = none ∧ (s.rollBackTo decision lowest).num.skip = false
    ∧ (s.rollBackTo decision lowest).board.phases = [] ∧ (s.rollBackTo decision lowest).board.contribs = [] := by
  have hmet := (State.metCarries_evolves (s.rollback (s.upd.fault.getD 9) decision lowest) s.curStep).1
  obtain ⟨hlanes, hunits⟩ := State.rollback_units s (s.upd.fault.getD 9) decision lowest
  unfold State.rollBackTo
  rw [hmet .num rfl, hmet .board rfl]
  refine ⟨fun i => ?_, hunits⟩
  rw [State.lane_of_slanes (hmet .slanes rfl)]
  exact hlanes i

theorem State.rollBackTo_halted (h : s.sound) : (s.rollBackTo decision lowest).halted :=
  State.halted_of_frets ((State.metCarries_evolves _ _).1 .frets rfl) (State.rollback_halted _ _ _ _ h)

theorem State.rollBackTo_mem (h : s.upd.journal = []) : (s.rollBackTo decision lowest).mem = s.mem := by
  unfold State.rollBackTo
  rw [(State.metCarries_evolves _ _).1 .mem rfl]
  exact State.rollback_mem _ _ _ h

/-- A rollback that is to stop the job ends training. -/
theorem State.rollBackTo_stops : (s.rollBackTo 2 lowest).fnState 0 = 0 := by
  unfold State.rollBackTo State.fnState
  rw [State.fn_of_keepsSettings (State.metCarries_keepsSettings _ _)]
  exact State.rollback_stops _ _

end

/-! ### What COMMIT_VOTE does -/

section
variable {s : State} {arrival : VoteArrival}

theorem execCommitVote_stays (h : ¬ ((s.sumTree 1).cast = true ∧ s.upd.lost = none ∧ s.stepWaits = false)) :
    s.stays (.commitVote arrival) := by
  refine congrArg Host.Outcome.next (if_pos (by_contra fun hready => h ?_))
  simpa [and_assoc] using hready

/-- The rollback that the sum asks for (R290): stop, replay or recompute. -/
def State.rollDecision (s : State) (sum : List F32) : Nat :=
  if anyOf sum 3 then 2 else if countOf sum 2 = Fp.ofNat s.modules then 0 else 1

theorem State.rollDecision_rerun (s : State) (sum : List F32) : (if s.rollDecision sum = 0 then 3 else 4)
    = (if anyOf sum 3 = false ∧ countOf sum 2 = Fp.ofNat s.modules then 3 else 4) := by
  unfold State.rollDecision
  cases anyOf sum 3 with
  | true => rfl
  | false =>
    by_cases hall : countOf sum 2 = Fp.ofNat s.modules
    · simp [hall]
    · simp [hall]

variable (hcast : (s.sumTree 1).cast = true) (hlost : s.upd.lost = none) (hwait : s.stepWaits = false)
include hcast hlost hwait

theorem execCommitVote_waits (h : s.upd.voted = false ∨ (s.sumArrives 1 arrival.arrived).sumHere 1 = none) :
    exec (.commitVote arrival) s = .next (s.sumArrives 1 arrival.arrived) := by
  have hupd : (s.sumArrives 1 arrival.arrived).upd = s.upd := (State.sumArrives_evolves _ _ _).1 .upd rfl
  have hnone : (if (s.sumArrives 1 arrival.arrived).upd.voted then (s.sumArrives 1 arrival.arrived).sumHere 1 else none) = none := by
    rw [hupd]
    rcases h with h | h
    · rw [h]
      rfl
    · rw [h]
      split <;> rfl
  refine congrArg Host.Outcome.next ?_
  rw [if_neg (by simp [hcast, hlost, hwait])]
  dsimp only
  rw [hnone]

theorem execCommitVote_decides {sum : List F32} (hvoted : s.upd.voted = true)
    (h : (s.sumArrives 1 arrival.arrived).sumHere 1 = some sum) : ∃ lowest, exec (.commitVote arrival) s = .next
      (if countOf sum 1 = Fp.ofNat s.modules then (s.sumArrives 1 arrival.arrived).commit
        else (s.sumArrives 1 arrival.arrived).rollBackTo (s.rollDecision sum) lowest) := by
  have hupd : (s.sumArrives 1 arrival.arrived).upd = s.upd := (State.sumArrives_evolves _ _ _).1 .upd rfl
  have hmodules : (s.sumArrives 1 arrival.arrived).modules = s.modules := by
    unfold State.modules State.fnState State.zoneExtent State.odBytes State.odWritten
    rw [(State.sumArrives_evolves _ _ _).1 .dict rfl]
  refine ⟨min (if s.upd.fault.isSome then s.rank else 0xFFFFFFFF) (arrival.lowest.getD 0xFFFFFFFF), congrArg Host.Outcome.next ?_⟩
  rw [if_neg (by simp [hcast, hlost, hwait])]
  dsimp only
  rw [hupd, hvoted, if_pos rfl, h]
  dsimp only
  rw [hmodules]
  rfl

end

/-- Rank 0 has no module above it whose sum could arrive. -/
theorem State.sumArrives_root {s : State} (h : s.rank = 0) (kind : Nat) (arrived : List (Nat × List F32)) :
    s.sumArrives kind arrived = s := if_pos h

theorem State.committed_of_live {s : State} {r : CommitRec} (h : s.upd.live = r) : s.committed = r.step := congrArg CommitRec.step h

theorem State.curStep_of_committed {s : State} {k : Nat} (h : s.committed = some k) : s.curStep = k + 1 := by
  unfold State.curStep
  rw [h]

theorem State.commit_committed {s : State} (h : s.sound) : s.commit.committed = some s.curStep ∧ s.commit.curStep = s.curStep + 1 := by
  have hlive : s.commit.committed = some s.curStep := State.committed_of_live (State.commit_live h)
  exact ⟨hlive, State.curStep_of_committed hlive⟩

/-- Written halves, each once, change places, and no other half does (R291). -/
theorem State.commit_liveHalf {s : State} (h : s.sound) (hwrote : s.upd.wrote.Nodup) (e : Nat) :
    s.commit.liveHalf e = if s.upd.wrote.contains e then 1 - s.liveHalf e else s.liveHalf e := by
  unfold State.liveHalf
  rw [State.commit_live h]
  exact SMap.get_foldl_modify 0 _ _ hwrote _ _

theorem State.liveHalf_of_recs {s t : State} (h : t.upd.recs = s.upd.recs) (e : Nat) : t.liveHalf e = s.liveHalf e := by
  unfold State.liveHalf
  rw [Upd.live_congr h]

/-- Settles O28: until the whole sum is here nothing is decided; then every module of the job commits, or the step rolls back. -/
theorem commitVote : Obligations.CommitVote := by
  unfold Obligations.CommitVote
  intro s arrival hsound s1 c parts ready
  have harrive : s.evolves s1 [.fab] := State.sumArrives_evolves s 1 arrival.arrived
  have hsound1 : s1.sound := harrive.2 hsound
  have hupd : s1.upd = s.upd := harrive.1 .upd rfl
  have hnum : s1.num = s.num := harrive.1 .num rfl
  have hstep : s1.curStep = s.curStep := State.curStep_of_upd hupd
  refine ⟨fun h => execCommitVote_stays h, harrive.1, fun h => State.sumArrives_root h _ _, fun ⟨hcast, hlost, hwait⟩ h =>
    execCommitVote_waits hcast hlost hwait h, fun sum ⟨hcast, hlost, hwait⟩ hvoted hsum => ?_⟩
  obtain ⟨lowest, hexec⟩ : ∃ lowest, exec c s = .next
      (if countOf sum 1 = Fp.ofNat s.modules then s1.commit else s1.rollBackTo (s.rollDecision sum) lowest) :=
    execCommitVote_decides hcast hlost hwait hvoted hsum
  clear_value s1
  refine ⟨fun hall => ?_, fun hsome => ?_⟩
  · rw [if_pos hall] at hexec
    have hevolves : s.evolves s1.commit parts := State.evolves_step (State.commit_evolves s1) (State.evolves_wider harrive rfl) rfl
    obtain ⟨hcommitted, hnext⟩ := State.commit_committed hsound1
    obtain ⟨happlied, hwrote, hrows, hfull, hjournal, hpending⟩ := State.commit_begun hsound1
    obtain ⟨hdecided, hskip, -, hreduced, hdone, hlanes⟩ := State.commit_parts s1
    obtain ⟨hlen, hpasses⟩ := State.commit_passes s1
    refine State.runs_evolves hexec hevolves rfl ?_
    refine ⟨?_, ?_, fun hnodup e => ?_, hpending, fun hskip hchoice hsnap hlate => ?_,
      fun hlate => State.commit_late hsound1 ?_, happlied, hwrote, hrows, hfull, hjournal, hlanes, hreduced, hdone, hdecided, hskip,
      ?_, fun q p hp => hpasses q p ?_, fun f hf hgone => ?_⟩
    · rw [hcommitted, hstep]
    · rw [hnext, hstep]
    · have hhalf := State.commit_liveHalf hsound1 (hupd.symm ▸ hnodup) e
      rw [hupd, State.liveHalf_of_recs (congrArg Upd.recs hupd)] at hhalf
      exact hhalf
    · rw [State.commit_fault hsound1 (hnum.symm ▸ hskip) ((harrive.1 .emb rfl).symm ▸ hchoice) (hupd.symm ▸ hsnap)
        (by rw [hupd, hstep]; exact hlate), hupd]
    · rw [hupd, hstep]
      exact hlate
    · rw [hlen, hnum]
    · rw [hnum]
      exact hp
    · obtain ⟨hevents, hle, hwaiting⟩ := hgone
      exact State.commit_frames s1 f hf hevents hwaiting (hstep.symm ▸ hle)
  · rw [if_neg hsome] at hexec
    have hevolves : s.evolves (s1.rollBackTo (s.rollDecision sum) lowest) parts :=
      State.evolves_step (State.rollBackTo_evolves _ _ _) (State.evolves_wider harrive rfl) rfl
    obtain ⟨hrecs, hrolls, hrollbacks, hrerun, happlied, hwrote, hrows, hfull, hjournal⟩ :=
      State.rollBackTo_step s1 (s.rollDecision sum) lowest
    obtain ⟨hlanes, hdecided, hskip, hphases, hcontribs⟩ := State.rollBackTo_units s1 (s.rollDecision sum) lowest
    rw [hupd] at hrecs hrolls hrollbacks
    refine State.runs_evolves hexec hevolves rfl ?_
    refine ⟨State.committed_of_recs hrecs, State.liveHalf_of_recs hrecs, hrolls, hrollbacks, ?_,
      fun hclean => State.rollBackTo_clean _ _ _ ?_, happlied, hwrote, hrows, hfull, hjournal, hlanes, hdecided, hskip, hphases,
      hcontribs, fun hstop => ?_, State.rollBackTo_halted _ _ _ hsound1, fun hempty => ?_⟩
    · rw [hrerun]
      exact State.rollDecision_rerun s sum
    · rw [harrive.1 .dram rfl]
      exact hclean
    · have hdecision : s.rollDecision sum = 2 := if_pos hstop
      rw [hdecision]
      exact State.rollBackTo_stops _ _
    · rw [State.rollBackTo_mem _ _ _ (hupd.symm ▸ hempty)]
      exact harrive.1 .mem rfl

end Sys2Proof.Machine

/-! What sending a packet, a request and a reply leave of the fabric (R335, R340 to R346). -/

namespace Sys2Proof.Machine

/-! ### The module's place in the job rests on the settings -/

section
variable {s t : State} (h : s.keepsSettings t)
include h

theorem State.odBytes_of_keepsSettings (k : Nat) : t.odBytes k = s.odBytes k := by
  obtain ⟨hod, hbefore, -⟩ := h
  exact State.odBytes_of_dict hod hbefore k

theorem State.fnState_of_keepsSettings (fn : Nat) : t.fnState fn = s.fnState fn := by
  unfold State.fnState
  rw [State.fn_of_keepsSettings h]

theorem State.zone_of_keepsSettings (d : Nat) : t.zoneExtent d = s.zoneExtent d ∧ t.zoneOrigin d = s.zoneOrigin d ∧ t.hall d = s.hall d := by
  unfold State.zoneExtent State.zoneOrigin State.hall
  rw [State.odBytes_of_keepsSettings h, State.odBytes_of_keepsSettings h]
  exact ⟨rfl, rfl, rfl⟩

theorem State.node_of_keepsSettings : t.node = s.node := State.odNat_of_keepsSettings h _

theorem State.modules_of_keepsSettings : t.modules = s.modules := by
  unfold State.modules
  rw [State.fnState_of_keepsSettings h, State.fnState_of_keepsSettings h, (State.zone_of_keepsSettings h 0).1,
    (State.zone_of_keepsSettings h 1).1, (State.zone_of_keepsSettings h 2).1]

theorem State.nodeOfRank_of_keepsSettings (r : Nat) : t.nodeOfRank r = s.nodeOfRank r := by
  have hzone := State.zone_of_keepsSettings h
  unfold State.nodeOfRank
  simp only [(hzone _).1, (hzone _).2.1, (hzone _).2.2]

theorem State.rank_of_keepsSettings : t.rank = s.rank := by
  have hzone := State.zone_of_keepsSettings h
  unfold State.rank State.rankOf State.zoneOff
  simp only [State.modules_of_keepsSettings h, State.node_of_keepsSettings h, (hzone _).1, (hzone _).2.1, (hzone _).2.2]

/-- The children of the module in the tree of the job. -/
theorem State.children_of_keepsSettings : childLevels t.modules t.rank = childLevels s.modules s.rank := by
  rw [State.modules_of_keepsSettings h, State.rank_of_keepsSettings h]

theorem State.injecting_of_keepsSettings : t.injecting = s.injecting := by
  unfold State.injecting
  rw [State.fnState_of_keepsSettings h, State.odNat_of_keepsSettings h]

end

/-! ### Packets -/

/-- Only the queues of packets differ: those that leave, and those that were taken in, with their numbers. -/
def Fab.sends (a b : Fab) : Prop :=
  b = { a with ports := b.ports, pseq := b.pseq, inbox := b.inbox, heard := b.heard, early := b.early }

theorem Fab.sends_refl (a : Fab) : a.sends a := rfl

theorem Fab.sends_trans {a b c : Fab} (h : a.sends b) (k : b.sends c) : a.sends c :=
  k.trans (congrArg (fun f : Fab => { f with ports := c.ports, pseq := c.pseq, inbox := c.inbox, heard := c.heard, early := c.early }) h)

theorem Fab.takeRun_sends (n : Nat) (pk : Packet) (f : Fab) : f.sends (Fab.takeRun n pk f) := by
  induction n generalizing pk f with
  | zero => exact Fab.sends_refl f
  | succ k ih =>
    unfold Fab.takeRun
    dsimp only
    split
    · rfl
    · exact Fab.sends_trans (b := { f with inbox := _, heard := _, early := _ }) rfl (ih _ _)

theorem Fab.take_sends (f : Fab) (pk : Packet) : f.sends (f.take pk) := by
  unfold Fab.take
  dsimp only
  split
  · rfl
  · split
    · rfl
    · exact Fab.takeRun_sends _ _ _

theorem State.enqueue_sends (s : State) (pk : Packet) (dim : Option Nat) : s.fab.sends (s.enqueue pk dim).fab := by
  unfold State.enqueue
  split
  · exact Fab.take_sends _ _
  · rfl

theorem State.sendFlags_sends (s : State) (dst cls op flags : Nat) (data : Bytes) : s.fab.sends (s.sendFlags dst cls op flags data).fab := by
  unfold State.sendFlags
  dsimp only
  split
  · exact State.enqueue_sends _ _ _
  · exact Fab.sends_trans (b := { s.fab with pseq := _ }) rfl (State.enqueue_sends _ _ _)

/-! ### Requests and replies -/

/-- A request of an operation that there is waits for its reply. -/
theorem State.request_sends (s : State) (dst op sub cls addr a b : Nat) (data : Bytes) (phase : Bool) (why : Purpose)
    (hop : (op = 0 || decide (7 < op)) = false) :
    Fab.sends { s.fab with nextId := s.fab.nextId + 1, reqs := s.fab.reqs ++ [⟨s.fab.nextId, dst, op, s.time, phase, why⟩] }
      (s.request dst op sub cls addr a b data phase why).fab := by
  unfold State.request
  rw [if_neg (by rw [hop]; decide)]
  exact State.sendFlags_sends _ _ _ _ _ _

/-- The queues of packets and the answers to the module's own units differ, and nothing else. -/
def Fab.replies (a b : Fab) : Prop :=
  b = { a with
    ports := b.ports, pseq := b.pseq, inbox := b.inbox, heard := b.heard, early := b.early, answers := b.answers }

theorem Fab.replies_refl (a : Fab) : a.replies a := rfl

theorem Fab.replies_trans {a b c : Fab} (h : a.replies b) (k : b.replies c) : a.replies c :=
  k.trans (congrArg (fun f : Fab => { f with
    ports := c.ports, pseq := c.pseq, inbox := c.inbox, heard := c.heard, early := c.early, answers := c.answers }) h)

theorem Fab.replies_of_sends {a b : Fab} (h : a.sends b) : a.replies b := by
  unfold Fab.replies
  rw [h]

theorem Fab.replies_keeps {a b : Fab} (h : a.replies b) : b.reqs = a.reqs ∧ b.acks = a.acks ∧ b.ackStatus = a.ackStatus
    ∧ b.away = a.away ∧ b.posts = a.posts ∧ b.sync = a.sync := by
  rw [h]
  exact ⟨rfl, rfl, rfl, rfl, rfl, rfl⟩

theorem State.reply_replies (s : State) (src id status : Nat) (data : Bytes) (sync : Bool) :
    s.fab.replies (s.reply src id status data sync).fab := by
  unfold State.reply
  split
  · rfl
  · exact Fab.replies_of_sends (State.sendFlags_sends _ _ _ _ _ _)

theorem State.reply_own {s : State} {src : Nat} (h : src = s.node) (id status : Nat) (data : Bytes) (sync : Bool) :
    (s.reply src id status data sync).fab.answers = (id, status, data) :: s.fab.answers := by
  unfold State.reply
  rw [if_pos h]

/-- Replies to a list of requesters. -/
theorem State.replies_foldl {α : Type} (l : List α) (g : State → α → State) (hg : ∀ (a : State) (x : α), a.fab.replies (g a x).fab)
    (s : State) : s.fab.replies (l.foldl g s).fab :=
  List.foldlRecOn (motive := fun t : State => s.fab.replies t.fab) l g (Fab.replies_refl s.fab) fun _ ht x _ => Fab.replies_trans ht (hg _ x)

end Sys2Proof.Machine

/-! STEP_SYNC_UPDATE and STEP_SYNC_ACK (R346). -/

namespace Sys2Proof.Machine

/-! ### What an update does to the bounds of its step -/

theorem State.sendStatus_steps (s : State) (recs : List (Nat × Nat × Nat × Nat × Nat × Nat)) :
    (s.sendStatus recs).adm.steps = s.adm.steps := by
  unfold State.sendStatus State.sendStatusFor
  dsimp only
  split
  · rfl
  · rw [(State.sendFrame_evolves _ _ _ _ _ _ _ _).1 .adm rfl]

theorem State.raiseFrames_steps (s : State) (news : List (Nat × Nat)) : (s.raiseFrames news).adm.steps = s.adm.steps :=
  State.sendStatus_steps _ _

/-- Promises that are broken add no step to the admitted ones. -/
theorem State.breakFrames_steps (s : State) (cls step : Nat) (news : List (Nat × Nat)) :
    (s.breakFrames cls step news).adm.steps ⊆ s.adm.steps := by
  unfold State.breakFrames State.releaseNever
  dsimp only
  split
  · exact fun _ h => h
  · intro a ha
    have hmem : a ∈ ((s.event _ _).sendStatus _).adm.steps := (List.mem_filter.mp ha).1
    rw [State.sendStatus_steps, (State.event_evolves _ _ _).1 .adm rfl] at hmem
    exact hmem

/-- The admitted steps, with a step's C risen. -/
def State.risenSteps (s : State) (step up : Nat) : List AdmStep :=
  s.adm.steps.map fun a => if a.step % 0x10000000000 = step then a.later up else a

theorem State.risenSteps_zero (s : State) (step : Nat) : s.risenSteps step 0 = s.adm.steps := by
  have hsame : ∀ a : AdmStep, (if a.step % 0x10000000000 = step then a.later 0 else a) = a := fun a => by
    split <;> rfl
  unfold State.risenSteps
  simp only [hsame, List.map_id']

section
variable (s : State) (step ext delay cls : Nat)

theorem State.applyStepSync_fab : (s.applyStepSync step ext delay cls).fab =
    { s.fab with seen := (step, max ext (s.seenOf step).1, max delay (s.seenOf step).2) } := by
  unfold State.applyStepSync
  dsimp only
  split
  · rfl
  · split
    · exact (State.breakFrames_evolves _ _ _ _).1 .fab rfl
    · exact (State.raiseFrames_evolves _ _).1 .fab rfl

/-- What an update adds to the bounds of its step. -/
def State.riseOf (s : State) (step ext delay : Nat) : Nat := (ext - (s.seenOf step).1) + (delay - (s.seenOf step).2)

theorem State.applyStepSync_steps : (s.applyStepSync step ext delay cls).adm.steps ⊆ s.risenSteps step (s.riseOf step ext delay)
    ∧ (delay ≤ (s.seenOf step).2 →
      (s.applyStepSync step ext delay cls).adm.steps = s.risenSteps step (s.riseOf step ext delay)) := by
  unfold State.applyStepSync
  dsimp only
  split
  · next hzero =>
    have hrise : s.riseOf step ext delay = 0 := hzero
    rw [hrise, State.risenSteps_zero]
    exact ⟨fun _ h => h, fun _ => rfl⟩
  · split
    · next hdelay => exact ⟨State.breakFrames_steps _ _ _ _, fun hle => absurd hdelay (by omega)⟩
    · rw [State.raiseFrames_steps]
      exact ⟨fun _ h => h, fun _ => rfl⟩

theorem State.applyStepSync_idle (h : s.riseOf step ext delay = 0) : (s.applyStepSync step ext delay cls).adm = s.adm
    ∧ (s.applyStepSync step ext delay cls).vlk = s.vlk ∧ (s.applyStepSync step ext delay cls).regs = s.regs := by
  unfold State.applyStepSync
  dsimp only
  have hzero : ext - (s.seenOf step).1 + (delay - (s.seenOf step).2) = 0 := h
  rw [if_pos hzero]
  exact ⟨rfl, rfl, rfl⟩

end

/-! ### The update goes to the children -/

/-- Each update that is passed on waits for its acknowledgement. -/
theorem State.passUpdate_reqs (s : State) (v2 v3 cls : Nat) : (s.passUpdate v2 v3 cls).fab.acks = s.fab.acks
    ∧ (s.passUpdate v2 v3 cls).fab.reqs.length = s.fab.reqs.length + (childLevels s.modules s.rank).length := by
  have hone : ∀ (t : State) (dst : Nat), (t.request dst 6 subUpdate 0 2 v2 v3 (u8 cls) false .ack).fab.acks = t.fab.acks
      ∧ (t.request dst 6 subUpdate 0 2 v2 v3 (u8 cls) false .ack).fab.reqs.length = t.fab.reqs.length + 1 := by
    intro t dst
    have hsent := State.request_sends t dst 6 subUpdate 0 2 v2 v3 (u8 cls) false .ack rfl
    unfold Fab.sends at hsent
    rw [hsent]
    exact ⟨rfl, List.length_append⟩
  unfold State.passUpdate
  generalize childLevels s.modules s.rank = levels
  induction levels generalizing s with
  | nil => exact ⟨rfl, rfl⟩
  | cons l levels ih =>
    obtain ⟨hacks, hlen⟩ := ih (s.request (s.nodeOfRank (s.rank + pow2 (l - 1))) 6 subUpdate 0 2 v2 v3 (u8 cls) false .ack)
    obtain ⟨hacks1, hlen1⟩ := hone s (s.nodeOfRank (s.rank + pow2 (l - 1)))
    refine ⟨hacks.trans hacks1, hlen.trans ?_⟩
    rw [hlen1, List.length_cons]
    omega

theorem State.passUpdate_leaf {s : State} (h : childLevels s.modules s.rank = []) (v2 v3 cls : Nat) : s.passUpdate v2 v3 cls = s := by
  unfold State.passUpdate
  rw [h]
  rfl

/-! ### STEP_SYNC_UPDATE -/

/-- An update of a step's extension and delay is answered, applied and passed on. -/
def State.takeUpdate (s : State) (v2 v3 cls : Nat) : State :=
  let step := max (v2 / 0x1000000) (v3 / 0x1000000)
  let low := fun x => if x / 0x1000000 = step then x % 0x1000000 else 0
  ((s.answerUpdate step (low v2)).applyStepSync step (low v2) (low v3) cls).passUpdate v2 v3 cls

/-- The packet of an update. -/
def State.updatePacket (s : State) : Option Packet := s.fab.inbox.find? fun p => p.op = 6 && leAt p.data 5 1 = 16

theorem State.answerUpdate_keepsSettings (s : State) (step ext : Nat) : s.keepsSettings (s.answerUpdate step ext) :=
  State.keepsSettings_set_fab (State.keepsSettings_refl s)

theorem State.takeUpdate_evolves (s : State) (v2 v3 cls : Nat) : s.evolves (s.takeUpdate v2 v3 cls) [.regs, .fab, .vlk, .adm, .dict] :=
  State.evolves_step (State.passUpdate_evolves _ _ _ _) (State.evolves_step (State.applyStepSync_evolves _ _ _ _ _)
    (State.evolves_wider (State.answerUpdate_evolves _ _ _) rfl) rfl) rfl

theorem State.takeUpdate_keepsSettings (s : State) (v2 v3 cls : Nat) : s.keepsSettings (s.takeUpdate v2 v3 cls) :=
  State.keepsSettings_evolves (State.passUpdate_evolves _ _ _ _) rfl
    (State.keepsSettings_step (State.applyStepSync_keepsSettings _ _ _ _ _) (State.answerUpdate_keepsSettings _ _ _))

/-- An update that the module sums up itself: no packet asks for it. -/
theorem execStepSyncUpdate_own {s : State} (delay : Bool) (value : BitVec 64) (h : s.updatePacket = none) :
    exec (.stepSyncUpdate delay value) s = .next (s.takeUpdate (if delay then 0 else value.toNat) (if delay then value.toNat else 0) 5) := by
  have hnone : (s.fab.inbox.find? fun p => p.op = 6 && leAt p.data 5 1 = subUpdate) = none := h
  refine congrArg Host.Outcome.next ?_
  rw [hnone]
  rfl

/-- The packet of an update leaves the inbox. -/
def State.dropPacket (s : State) (pk : Packet) : State := { s with fab := { s.fab with inbox := s.fab.inbox.erase pk } }

/-- A leaf answers its update; another module owes the answer until its children have answered. -/
def State.owesUpdate (s : State) (pk : Packet) : State :=
  if (childLevels s.modules s.rank).isEmpty then s.reply pk.src (leAt pk.data 0 4) s.fab.ackStatus (u64 0) true
  else { s with fab := { s.fab with acks := s.fab.acks ++ [(pk.src, leAt pk.data 0 4)] } }

theorem execStepSyncUpdate_packet {s : State} {pk : Packet} (delay : Bool) (value : BitVec 64) (h : s.updatePacket = some pk) :
    exec (.stepSyncUpdate delay value) s
      = .next (((s.dropPacket pk).takeUpdate (leAt pk.data 16 8) (leAt pk.data 24 8) (leAt pk.data 32 1)).owesUpdate pk) := by
  have hsome : (s.fab.inbox.find? fun p => p.op = 6 && leAt p.data 5 1 = subUpdate) = some pk := h
  refine congrArg Host.Outcome.next ?_
  rw [hsome]
  dsimp only
  unfold State.owesUpdate State.takeUpdate State.dropPacket
  dsimp only

section
variable {s : State} (hleaf : childLevels s.modules s.rank = [])
include hleaf

/-- At a leaf an update changes the bounds of its step, and what the module answers. -/
theorem State.takeUpdate_leaf (v2 v3 cls : Nat) : s.takeUpdate v2 v3 cls =
    (s.answerUpdate (max (v2 / 0x1000000) (v3 / 0x1000000))
        (if v2 / 0x1000000 = max (v2 / 0x1000000) (v3 / 0x1000000) then v2 % 0x1000000 else 0)).applyStepSync
      (max (v2 / 0x1000000) (v3 / 0x1000000))
      (if v2 / 0x1000000 = max (v2 / 0x1000000) (v3 / 0x1000000) then v2 % 0x1000000 else 0)
      (if v3 / 0x1000000 = max (v2 / 0x1000000) (v3 / 0x1000000) then v3 % 0x1000000 else 0) cls := by
  refine State.passUpdate_leaf ?_ v2 v3 cls
  rw [State.children_of_keepsSettings (State.keepsSettings_step (State.applyStepSync_keepsSettings _ _ _ _ _)
    (State.answerUpdate_keepsSettings s _ _))]
  exact hleaf

/-- The same of an object whose word holds one step. -/
theorem State.takeUpdate_leaf_of {v2 v3 step ext delay : Nat} (hstep : max (v2 / 0x1000000) (v3 / 0x1000000) = step)
    (hext : (if v2 / 0x1000000 = step then v2 % 0x1000000 else 0) = ext)
    (hdelay : (if v3 / 0x1000000 = step then v3 % 0x1000000 else 0) = delay) (cls : Nat) :
    s.takeUpdate v2 v3 cls = (s.answerUpdate step ext).applyStepSync step ext delay cls := by
  rw [State.takeUpdate_leaf hleaf, hstep, hext, hdelay]

end

/-- The answer to a packet's update: to the parent at once, or when the children have answered. -/
theorem State.owesUpdate_evolves (s : State) (pk : Packet) : s.evolves (s.owesUpdate pk) [.fab] :=
  State.evolves_ite (State.reply_evolves _ _ _ _ _ _) (State.evolves_set_fab rfl (fun h => h) (State.evolves_refl s _))

theorem State.takeUpdate_acks (s : State) (v2 v3 cls : Nat) : (s.takeUpdate v2 v3 cls).fab.acks = s.fab.acks
    ∧ (s.takeUpdate v2 v3 cls).fab.reqs.length = s.fab.reqs.length + (childLevels s.modules s.rank).length := by
  unfold State.takeUpdate
  dsimp only
  generalize max (v2 / 0x1000000) (v3 / 0x1000000) = step
  generalize (if v2 / 0x1000000 = step then v2 % 0x1000000 else 0) = ext
  generalize (if v3 / 0x1000000 = step then v3 % 0x1000000 else 0) = delay
  have hfab := State.applyStepSync_fab (s.answerUpdate step ext) step ext delay cls
  have hset := State.children_of_keepsSettings (State.keepsSettings_step
    (State.applyStepSync_keepsSettings (s.answerUpdate step ext) step ext delay cls) (State.answerUpdate_keepsSettings s step ext))
  obtain ⟨hacks, hlen⟩ := State.passUpdate_reqs ((s.answerUpdate step ext).applyStepSync step ext delay cls) v2 v3 cls
  rw [hset, hfab] at hlen
  rw [hfab] at hacks
  exact ⟨hacks, hlen⟩

end Sys2Proof.Machine

/-! What STEP_SYNC_UPDATE and STEP_SYNC_ACK leave (R207, R346). -/

namespace Sys2Proof.Machine

section
variable {s : State}

/-- What the latest update said of a step, as a pair. -/
theorem State.seenOf_eq (s : State) (step : Nat) :
    (if s.fab.seen.1 = step then s.fab.seen else (step, 0, 0)).2 = s.seenOf step := by
  unfold State.seenOf
  split <;> rfl

/-- An update that the module sums up itself carries one step. -/
theorem State.takeUpdate_own (hleaf : childLevels s.modules s.rank = []) (delay : Bool) (v : Nat) :
    s.takeUpdate (if delay then 0 else v) (if delay then v else 0) 5
      = (s.answerUpdate (v / 0x1000000) (if delay then 0 else v % 0x1000000)).applyStepSync (v / 0x1000000)
          (if delay then 0 else v % 0x1000000) (if delay then v % 0x1000000 else 0) 5 := by
  cases delay <;> exact State.takeUpdate_leaf_of hleaf (by simp) (by simp) (by simp) 5

/-- The fabric after such an update. -/
theorem State.ownUpdate_fab (step ext delay cls : Nat) :
    ((s.answerUpdate step ext).applyStepSync step ext delay cls).fab = { s.fab with
      seen := (step, max ext (s.seenOf step).1, max delay (s.seenOf step).2)
      ackStatus := if s.fab.reqs.any (fun r => r.purpose = .ack) then max s.fab.ackStatus (if s.turnsAway step ext then 3 else 0)
        else if s.turnsAway step ext then 3 else 0
      away := if s.turnsAway step ext then some step else s.fab.away } := State.applyStepSync_fab _ _ _ _ _

/-- The steps after it. -/
theorem State.ownUpdate_steps (step ext delay cls : Nat) :
    ((s.answerUpdate step ext).applyStepSync step ext delay cls).adm.steps ⊆ s.risenSteps step (s.riseOf step ext delay)
    ∧ (delay ≤ (s.seenOf step).2 → ((s.answerUpdate step ext).applyStepSync step ext delay cls).adm.steps
      = s.risenSteps step (s.riseOf step ext delay)) := State.applyStepSync_steps (s.answerUpdate step ext) step ext delay cls

theorem State.ownUpdate_idle {step ext delay : Nat} (h : s.riseOf step ext delay = 0) (cls : Nat) :
    ((s.answerUpdate step ext).applyStepSync step ext delay cls).adm = s.adm
    ∧ ((s.answerUpdate step ext).applyStepSync step ext delay cls).vlk = s.vlk
    ∧ ((s.answerUpdate step ext).applyStepSync step ext delay cls).regs = s.regs :=
  State.applyStepSync_idle (s.answerUpdate step ext) step ext delay cls h

/-- What the update adds to the bounds, as the difference of what was seen. -/
theorem State.riseOf_eq (step ext delay : Nat) : (max ext (s.seenOf step).1 + max delay (s.seenOf step).2)
    - ((s.seenOf step).1 + (s.seenOf step).2) = s.riseOf step ext delay := by
  unfold State.riseOf
  omega

/-! ### The answer to the parent -/

variable (pk : Packet) (v2 v3 cls : Nat)

theorem State.packetUpdate_keepsSettings : s.keepsSettings ((s.dropPacket pk).takeUpdate v2 v3 cls) :=
  State.takeUpdate_keepsSettings (s.dropPacket pk) v2 v3 cls

/-- A module with children owes its answer until theirs are in. -/
theorem State.packetUpdate_parent (h : childLevels s.modules s.rank ≠ []) :
    (((s.dropPacket pk).takeUpdate v2 v3 cls).owesUpdate pk).fab.acks = s.fab.acks ++ [(pk.src, leAt pk.data 0 4)]
    ∧ (((s.dropPacket pk).takeUpdate v2 v3 cls).owesUpdate pk).fab.reqs.length
      = s.fab.reqs.length + (childLevels s.modules s.rank).length := by
  obtain ⟨hacks, hlen⟩ := State.takeUpdate_acks (s.dropPacket pk) v2 v3 cls
  have hset := State.packetUpdate_keepsSettings (s := s) pk v2 v3 cls
  have hparent : ¬ (childLevels ((s.dropPacket pk).takeUpdate v2 v3 cls).modules
      ((s.dropPacket pk).takeUpdate v2 v3 cls).rank).isEmpty = true := by
    rw [State.children_of_keepsSettings hset, List.isEmpty_iff]
    exact h
  generalize (s.dropPacket pk).takeUpdate v2 v3 cls = taken at hacks hlen hparent ⊢
  unfold State.owesUpdate
  rw [if_neg hparent]
  exact ⟨congrArg (· ++ [(pk.src, leAt pk.data 0 4)]) hacks, hlen⟩

/-- A leaf answers at once. -/
theorem State.packetUpdate_leaf (h : childLevels s.modules s.rank = []) :
    (((s.dropPacket pk).takeUpdate v2 v3 cls).owesUpdate pk).fab.acks = s.fab.acks
    ∧ (((s.dropPacket pk).takeUpdate v2 v3 cls).owesUpdate pk).fab.reqs = s.fab.reqs
    ∧ (pk.src = s.node → (((s.dropPacket pk).takeUpdate v2 v3 cls).owesUpdate pk).fab.answers
      = (leAt pk.data 0 4, (((s.dropPacket pk).takeUpdate v2 v3 cls).owesUpdate pk).fab.ackStatus, u64 0) :: s.fab.answers) := by
  have hset := State.packetUpdate_keepsSettings (s := s) pk v2 v3 cls
  have hleaf : (childLevels ((s.dropPacket pk).takeUpdate v2 v3 cls).modules
      ((s.dropPacket pk).takeUpdate v2 v3 cls).rank).isEmpty = true := by
    rw [State.children_of_keepsSettings hset, List.isEmpty_iff]
    exact h
  have hdrop : childLevels (s.dropPacket pk).modules (s.dropPacket pk).rank = [] := h
  have hkept : ((s.dropPacket pk).takeUpdate v2 v3 cls).fab.acks = s.fab.acks
      ∧ ((s.dropPacket pk).takeUpdate v2 v3 cls).fab.reqs = s.fab.reqs
      ∧ ((s.dropPacket pk).takeUpdate v2 v3 cls).fab.answers = s.fab.answers := by
    rw [State.takeUpdate_leaf hdrop, State.ownUpdate_fab]
    exact ⟨rfl, rfl, rfl⟩
  have hnode := State.node_of_keepsSettings hset
  generalize (s.dropPacket pk).takeUpdate v2 v3 cls = taken at hleaf hkept hnode ⊢
  obtain ⟨hacks, hreqs, hanswers⟩ := hkept
  obtain ⟨hreqs', hacks', hstatus, -⟩ := Fab.replies_keeps
    (State.reply_replies taken pk.src (leAt pk.data 0 4) taken.fab.ackStatus (u64 0) true)
  unfold State.owesUpdate
  rw [if_pos hleaf]
  refine ⟨hacks'.trans hacks, hreqs'.trans hreqs, fun hsrc => ?_⟩
  rw [State.reply_own (hsrc.trans hnode.symm), hanswers, hstatus]

end

/-! ### STEP_SYNC_ACK -/

theorem execStepSyncAck_stays {s : State} {delay : Bool} {value : BitVec 64} (h : s.fab.reqs.any (fun r => r.purpose = .ack) = true) :
    s.stays (.stepSyncAck delay value) := congrArg Host.Outcome.next (if_pos h)

/-- The posters of an object hear the answer. -/
def State.answerPosts (s : State) (o : Nat) : State :=
  (s.fab.posts.filter fun p => p.1 = o).foldl (fun s p => s.reply p.2.2.1 p.2.2.2 s.fab.ackStatus (u64 p.2.1.toNat) true)
    { s with fab := { s.fab with posts := s.fab.posts.filter fun p => p.1 ≠ o } }

theorem execStepSyncAck_answers {s : State} {delay : Bool} {value : BitVec 64} (h : s.fab.reqs.any (fun r => r.purpose = .ack) = false) :
    exec (.stepSyncAck delay value) s = .next (s.answerPosts (if delay then 3 else 2)) :=
  congrArg Host.Outcome.next (if_neg (by rw [h]; decide))

theorem State.answerPosts_fab (s : State) (o : Nat) :
    Fab.replies { s.fab with posts := s.fab.posts.filter fun p => p.1 ≠ o } (s.answerPosts o).fab :=
  State.replies_foldl _ _ (fun _ _ => State.reply_replies _ _ _ _ _ _) _

theorem State.answerPosts_evolves (s : State) (o : Nat) : s.evolves (s.answerPosts o) [.fab] :=
  State.evolves_foldl (State.evolves_set_fab rfl (fun h => h) (State.evolves_refl s _))
    fun _ _ h => State.evolves_step (State.reply_evolves _ _ _ _ _ _) h rfl

end Sys2Proof.Machine

/-! Replies at the requester (R342). -/

namespace Sys2Proof.Machine

/-! ### A reply reaches its request -/

theorem State.takeInbox_eq (s : State) (src op : Nat) :
    s.takeInbox src op = { s with fab := { s.fab with inbox := (s.takeInbox src op).fab.inbox } } := by
  unfold State.takeInbox
  split <;> rfl

/-- The request has ended, and its answer stands for the unit that asked. -/
def State.replyTaken (s : State) (r : Request) (id status : Nat) (data : ReplyData) : State :=
  { s with fab := { (s.takeInbox r.dst 0).fab with
    reqs := s.fab.reqs.erase r, answers := (id, status, data.bytes) :: s.fab.answers } }

section
variable {s : State} {id status : Nat} {data : ReplyData}

theorem execRemoteReply_none (h : (s.fab.reqs.find? fun r => r.id = id) = none) : s.stays (.remoteReply id status data) := by
  refine congrArg Host.Outcome.next ?_
  rw [h]

theorem execRemoteTimeout_none (h : (s.fab.reqs.find? fun r => r.id = id) = none) : s.stays (.remoteTimeout id) := by
  refine congrArg Host.Outcome.next ?_
  rw [h]

variable {r : Request} (h : (s.fab.reqs.find? fun r => r.id = id) = some r)
include h

theorem execRemoteReply_waits (hturn : s.turnOf r.dst 0 = false) : s.stays (.remoteReply id status data) := by
  refine congrArg Host.Outcome.next ?_
  rw [h]
  exact if_pos (by rw [hturn]; rfl)

theorem execRemoteReply_takes (hturn : s.turnOf r.dst 0 = true) :
    exec (.remoteReply id status data) s = .next ((s.replyTaken r id status data).takeReply r status data) := by
  have htaken : s.replyTaken r id status data = { s.takeInbox r.dst 0 with fab := { (s.takeInbox r.dst 0).fab with
      reqs := (s.takeInbox r.dst 0).fab.reqs.erase r, answers := (id, status, data.bytes) :: (s.takeInbox r.dst 0).fab.answers } } := by
    unfold State.replyTaken
    rw [State.takeInbox_eq]
  refine congrArg Host.Outcome.next ?_
  rw [h, htaken]
  exact if_neg (by rw [hturn]; decide)

end

/-! ### A reply that reports no memory error -/

/-- A memory error of an admitted phase is a fault of the job (R312). -/
theorem State.takeReply_failed (s : State) {r : Request} {status : Nat} (data : ReplyData) (hphase : r.phase = true)
    (hstatus : status = 1 ∨ status = 2) : s.takeReply r status data = (s.takePurpose r status data).jobFault 4 (some 0) := by
  have hfailed : (r.phase && (decide (status = stAddr) || decide (status = stPoison))) = true := by
    rcases hstatus with rfl | rfl <;> rw [hphase] <;> rfl
  unfold State.takeReply State.memoryFault
  rw [hfailed, if_pos rfl]

theorem State.takeReply_served (s : State) {r : Request} {status : Nat} (data : ReplyData)
    (h : ¬ (r.phase = true ∧ (status = 1 ∨ status = 2))) : s.takeReply r status data = s.takePurpose r status data := by
  have hserved : (r.phase && (decide (status = stAddr) || decide (status = stPoison))) = false := by
    rw [Bool.eq_false_iff]
    intro hfailed
    simp only [Bool.and_eq_true, Bool.or_eq_true, decide_eq_true_eq] at hfailed
    exact h hfailed
  unfold State.takeReply State.memoryFault
  rw [hserved]
  rfl

/-- A request that no outcome of a step hangs on changes no update unit. -/
theorem State.takePurpose_evolves_units (s : State) {r : Request} (status : Nat) (data : ReplyData) (h : ∀ n, r.purpose ≠ .record n) :
    s.evolves (s.takePurpose r status data) [.regs, .frets, .emb, .fab, .vlk, .adm, .dict] := by
  unfold State.takePurpose
  split
  · exact State.evolves_wider (State.rowReply_evolves _ _ _ _) rfl
  · next n hn => exact absurd hn (h n)
  · exact State.evolves_ite (State.evolves_refl _ _) (State.evolves_wider (State.refusePosted_evolves _ _) rfl)
  · exact State.evolves_wider (State.copyPart_evolves _ _ _) rfl
  · have hanswered : ∀ f : Fab, f.ports.length = s.fab.ports.length →
        s.evolves { s with fab := f } [.regs, .frets, .emb, .fab, .vlk, .adm, .dict] := fun f hf =>
      State.evolves_set_fab rfl (fun hs => hf.trans hs) (State.evolves_refl s _)
    refine State.evolves_ite (hanswered _ rfl) ?_
    exact State.evolves_foldl (hanswered _ rfl) fun _ _ h => State.evolves_step (State.reply_evolves _ _ _ _ _ _) h rfl
  · exact State.evolves_refl _ _
  · exact State.evolves_refl _ _

/-- Nobody waits for more than the answer itself. -/
theorem State.takePurpose_idle (s : State) {r : Request} {status : Nat} (data : ReplyData)
    (h : r.purpose = .delay ∨ r.purpose = .other ∨ (∃ n, r.purpose = .record n ∧ n ≠ s.curStep)
      ∨ (status = 0 ∧ ∃ f, r.purpose = .extension f)) : s.takePurpose r status data = s := by
  unfold State.takePurpose
  rcases h with h | h | ⟨n, h, hn⟩ | ⟨hstatus, f, h⟩ <;> rw [h]
  · exact if_neg hn
  · exact if_pos hstatus

theorem State.takePurpose_extension (s : State) {r : Request} {status f : Nat} (data : ReplyData) (hstatus : status ≠ 0)
    (h : r.purpose = .extension f) : s.takePurpose r status data = s.refusePosted f := by
  unfold State.takePurpose
  rw [h]
  exact if_neg hstatus

theorem State.takePurpose_copy (s : State) {r : Request} {job : Nat} (status : Nat) (data : ReplyData) (h : r.purpose = .copy job) :
    s.takePurpose r status data = s.copyPart job status := by
  unfold State.takePurpose
  rw [h]

theorem State.takePurpose_row (s : State) {r : Request} (status : Nat) (data : ReplyData) (h : r.purpose = .row) :
    s.takePurpose r status data = s.rowReply r.id status data := by
  unfold State.takePurpose
  rw [h]

theorem State.takePurpose_record (s : State) {r : Request} (status : Nat) (data : ReplyData) (h : r.purpose = .record s.curStep) :
    s.takePurpose r status data = s.takeOutcome ((recorded s.curStep (leAt data.bytes 0 8)).getD 2) := by
  unfold State.takePurpose
  rw [h]
  exact if_pos rfl

end Sys2Proof.Machine

/-! What a reply means to the unit that asked (R207, R250, R346, R347). -/

namespace Sys2Proof.Machine

/-! ### A refusal (R381, R382) -/

theorem State.sendFrame_out (s : State) (prio due type flags id step : Nat) (body : Bytes) :
    (s.sendFrame prio due type flags id step body).vlk.out
      = s.vlk.out ++ [⟨prio, due, moduleFrame type (flags + if s.injecting then 2 else 0) id step s.time body⟩] := rfl

theorem State.refuseId_refused (s : State) (id type step : Nat) (r : Turn) : s.refused (s.refuseId id type step r) id type step r := by
  have hevent := State.event_onlyRegs s 0x0502 (u8 r.cause ++ u8 type ++ u32 id ++ u64 step)
  have hparts := (State.event_evolves s 0x0502 (u8 r.cause ++ u8 type ++ u32 id ++ u64 step)).1
  have hinject := State.injecting_of_keepsSettings (State.event_keepsSettings s 0x0502 (u8 r.cause ++ u8 type ++ u32 id ++ u64 step))
  unfold State.refuseId
  generalize s.event 0x0502 (u8 r.cause ++ u8 type ++ u32 id ++ u64 step) = told at hevent hparts hinject
  have hcount : (((told.bump 6 Reg.auRefuseCount 1).flag 6 Reg.auStatus 0).setReg 6 Reg.auLastRefuse
      ((r.cause <<< 56) + (1 <<< 32) + id)).reg 6 Reg.auRefuseCount = cap32 (s.reg 6 Reg.auRefuseCount + 1) := by
    rw [State.reg_setReg_other _ _ _ _ _ _ (regKey_ne 6 (by decide)), State.reg_flag_other _ _ _ _ _ _ (regKey_ne 6 (by decide)),
      State.reg_bump_same, State.reg_of_onlyRegs hevent (by decide)]
  have hflag : ((((told.bump 6 Reg.auRefuseCount 1).flag 6 Reg.auStatus 0).setReg 6 Reg.auLastRefuse
      ((r.cause <<< 56) + (1 <<< 32) + id)).reg 6 Reg.auStatus).testBit 0 := by
    rw [State.reg_setReg_other _ _ _ _ _ _ (regKey_ne 6 (by decide))]
    exact State.flag_testBit _ _ _ _ (by decide)
  refine ⟨hcount, hflag, State.reg_setReg_same _ _ _ _, ?_, ?_⟩
  · exact congrArg (fun a : Adm => { a with counts := a.counts.modify r.cause fun c => cap32 (c + 1) }) (hparts .adm rfl)
  · have hout : told.vlk.out = s.vlk.out := congrArg (·.out) (hparts .vlk rfl)
    have htime : told.time = s.time := hparts .time rfl
    have hsent := State.sendFrame_out told 0 0 0x82 0 id step
      (u8 r.cause ++ u8 type ++ u16 0 ++ c32 r.detail ++ u64 r.retry ++ u64 step)
    rw [hout, hinject, htime, Nat.zero_add] at hsent
    exact hsent

/-- A refusal does not rest on the fabric. -/
theorem State.refused_of_fab {s t : State} {G : Fab} {id type step : Nat} {r : Turn}
    (h : ({ s with fab := G } : State).refused t id type step r) : s.refused t id type step r := h

/-! ### A frame whose extension could not be posted -/

section
variable {s : State} {G : Fab} (hG : G.seen = s.fab.seen)
include hG

theorem State.quote_of_fab (b : Bytes) (t : Nat) : ({ s with fab := G } : State).quote b t = s.quote b t := by
  unfold State.quote
  dsimp only
  rw [hG]
  rfl

/-- What the units besides the fabric hold decides what a step's figures are. -/
theorem State.requote_of_fab (step : Nat) : ({ s with fab := G } : State).requote step = { s.requote step with fab := G } := by
  have hquote : ∀ (x : State) (b : Bytes) (t : Nat), x.fab = s.fab → ({ x with fab := G } : State).quote b t = x.quote b t :=
    fun x b t hx => State.quote_of_fab (by rw [hx]; exact hG) b t
  have hframes : ({ s with fab := G } : State).stepFrames step = s.stepFrames step := rfl
  unfold State.requote
  rw [hframes]
  cases (s.stepFrames step).getLast? with
  | none => rfl
  | some h =>
    have hnew : (({ s with fab := G } : State).unhold h.id).quote h.bytes h.tLast = (s.unhold h.id).quote h.bytes h.tLast :=
      hquote (s.unhold h.id) h.bytes h.tLast rfl
    dsimp only
    rw [hnew]
    cases (s.unhold h.id).quote h.bytes h.tLast with
    | none => rfl
    | some q => rfl

/-- The same of a frame's refusal for want of its extension. -/
theorem State.refusePosted_of_fab {frame : Nat} {h : HeldFrame}
    (hfind : (s.adm.frames.find? fun f => f.id = frame && f.waiting = 2) = some h) :
    ((s.unhold frame).requote h.step).refused (({ s with fab := G } : State).refusePosted frame) (frId h.bytes) (frType h.bytes)
      (frStep h.bytes) ⟨cLength, cap32 h.ext, 0⟩ := by
  have hsame : ({ s with fab := G } : State).refusePosted frame
      = ({ (s.unhold frame).requote h.step with fab := G } : State).refuse h.bytes ⟨cLength, cap32 h.ext, 0⟩ := by
    have hfind' : (({ s with fab := G } : State).adm.frames.find? fun f => f.id = frame && f.waiting = 2) = some h := hfind
    have hrequote : (({ s with fab := G } : State).unhold frame).requote h.step = { (s.unhold frame).requote h.step with fab := G } :=
      State.requote_of_fab (s := s.unhold frame) hG h.step
    unfold State.refusePosted
    rw [hfind']
    dsimp only
    rw [hrequote]
  rw [hsame]
  exact State.refused_of_fab (State.refuseId_refused _ _ _ _ _)

end

/-! ### A row, and the acknowledgements of an update -/

theorem State.deliverRow_keepsAsks (s : State) (frame step : Nat) (t : Table) (row : Nat) (ps : List Pos) (bytes : Option Bytes) :
    (s.deliverRow frame step t row ps bytes).emb.asks = s.emb.asks := by
  have hpos : ∀ (l : List Pos) (valid : Bool) (b : Bytes) (x : State),
      (l.foldl (fun s p => s.deliverPos frame step p valid b) x).emb.asks = x.emb.asks := fun l valid b x =>
    List.foldlRecOn (motive := fun y : State => y.emb.asks = x.emb.asks) l _ rfl fun _ hy _ _ => hy
  cases bytes with
  | none =>
    unfold State.deliverRow
    extract_lets mine counted mb emb dropped
    have hcounted : counted.emb = (s.count step t.table 1 mine.length).emb := (State.bump_evolves _ _ _ _).1 .emb rfl
    exact (hpos mine false (zeroRow t) dropped).trans (congrArg Emb.asks hcounted : counted.emb.asks = _)
  | some b => exact hpos _ _ _ _

theorem State.release_keepsAsks (s : State) (frame : Nat) : (s.release frame).emb.asks = s.emb.asks := by
  have hslot : ∀ (x : State) (h : HeldFrame) (ps : List Pos), (x.releaseSlot h ps).emb.asks = x.emb.asks := by
    intro x h ps
    unfold State.releaseSlot
    refine List.foldlRecOn (motive := fun y : State × Bool => y.1.emb.asks = x.emb.asks) ps _ rfl fun y hy p _ => ?_
    split
    · exact hy
    · dsimp only
      split
      · exact hy
      · exact hy
  unfold State.release
  split
  · rfl
  · exact List.foldlRecOn (motive := fun y : State => y.emb.asks = s.emb.asks) _ _ rfl fun _ hy _ _ => (hslot _ _ _).trans hy

theorem State.rowReply_asks (s : State) (id status : Nat) (data : ReplyData) :
    (s.rowReply id status data).emb.asks = s.emb.asks.filter fun a => a.id ≠ id := by
  unfold State.rowReply
  dsimp only
  split
  · rfl
  · refine List.foldlRecOn (motive := fun y : State => y.emb.asks = s.emb.asks.filter fun a => a.id ≠ id) _ _ rfl fun y hy a _ => ?_
    split
    · exact hy
    · exact ((State.release_keepsAsks _ _).trans (State.deliverRow_keepsAsks _ _ _ _ _ _ _)).trans hy

/-- A child's answer to an update is noted: the worst one, and the step that was turned away. -/
def State.ackNoted (s : State) (status : Nat) : State :=
  { s with fab := { s.fab with
    ackStatus := max s.fab.ackStatus status
    away := if status = 0 then s.fab.away else some (s.syncObj 2 / 0x1000000) } }

/-- Whoever waits for the update is answered. -/
def State.acksAnswered (s : State) : State :=
  s.fab.acks.foldl (fun (x : State) (a : Nat × Nat) => x.reply a.1 a.2 x.fab.ackStatus (u64 0) true)
    { s with fab := { s.fab with acks := [] } }

theorem State.takePurpose_ack (s : State) {r : Request} (status : Nat) (data : ReplyData) (h : r.purpose = .ack) :
    s.takePurpose r status data =
      if s.fab.reqs.any fun q => q.purpose = .ack then s.ackNoted status else (s.ackNoted status).acksAnswered := by
  unfold State.takePurpose
  rw [h]
  rfl

theorem State.acksAnswered_fab (s : State) : Fab.replies { s.fab with acks := [] } s.acksAnswered.fab :=
  State.replies_foldl _ _ (fun _ _ => State.reply_replies _ _ _ _ _ _) { s with fab := { s.fab with acks := [] } }

/-- The last acknowledgement of an update answers whoever waits for it. -/
theorem State.takePurpose_ack_fab (s : State) {r : Request} (status : Nat) (data : ReplyData) (h : r.purpose = .ack) :
    (s.takePurpose r status data).fab.reqs = s.fab.reqs ∧ (s.takePurpose r status data).fab.ackStatus = max s.fab.ackStatus status
    ∧ (s.takePurpose r status data).fab.away = (if status = 0 then s.fab.away else some (s.syncObj 2 / 0x1000000))
    ∧ ((s.fab.reqs.any fun q => q.purpose = .ack) = true → (s.takePurpose r status data).fab.acks = s.fab.acks)
    ∧ ((s.fab.reqs.any fun q => q.purpose = .ack) = false → (s.takePurpose r status data).fab.acks = []) := by
  rw [State.takePurpose_ack s status data h]
  split
  · next hany =>
    refine ⟨rfl, rfl, rfl, fun _ => rfl, fun hnone => ?_⟩
    rw [hnone] at hany
    cases hany
  · next hnone =>
    obtain ⟨hreqs, hacks, hstatus, haway, -⟩ := Fab.replies_keeps (State.acksAnswered_fab (s.ackNoted status))
    exact ⟨hreqs, hstatus, haway, fun hany => absurd hany hnone, fun _ => hacks⟩

end Sys2Proof.Machine

/-! The recorded outcome of a step (R347), and a reply that does not come (R342). -/

namespace Sys2Proof.Machine

/-! ### The outcome that rank 0 recorded -/

/-- The step is decided at last. -/
def State.found (s : State) : State := { s with upd := { s.upd with lost := none } }

/-- Training ends where a fault of the zone is held. -/
def State.zoneStopped (s : State) : State := if s.fab.zoneFault then s.stopTraining else s

theorem State.takeOutcome_eq (s : State) (outcome : Nat) : s.takeOutcome outcome = State.zoneStopped
    (if outcome = 1 then s.found.commit else s.found.rollBackTo (if s.found.canRerun && !s.found.fab.zoneFault then 1 else 2)
      (if s.upd.fault.isSome then s.rank else 0xFFFFFFFF)) := rfl

theorem State.zoneStopped_keepsRolls (s : State) : s.keepsRolls s.zoneStopped :=
  State.keepsRolls_ite (State.stopTraining_keepsRolls s) (State.keepsRolls_refl s)

theorem State.memoryFault_keepsRolls (s : State) (phase : Bool) : s.keepsRolls (s.memoryFault phase) := by
  unfold State.memoryFault
  exact State.keepsRolls_ite (State.jobFault_keepsRolls _ _ _) (State.keepsRolls_refl s)

theorem State.found_sound {s : State} (h : s.sound) : s.found.sound :=
  (State.evolves_set_upd (P := [.upd]) rfl (fun hr => hr) (State.evolves_refl s [.upd])).2 h

theorem State.takeOutcome_committed {s : State} (h : s.sound) : (s.takeOutcome 1).committed = some s.curStep := by
  rw [State.takeOutcome_eq, if_pos rfl, State.committed_of_recs (State.zoneStopped_keepsRolls _).1]
  exact (State.commit_committed (State.found_sound h)).1

theorem State.takeOutcome_rolls (s : State) {outcome : Nat} (h : outcome ≠ 1) :
    (s.takeOutcome outcome).committed = s.committed ∧ (s.takeOutcome outcome).upd.rolls = s.upd.rolls + 1 := by
  rw [State.takeOutcome_eq, if_neg h]
  generalize (if s.found.canRerun && !s.found.fab.zoneFault then 1 else 2) = decision
  generalize (if s.upd.fault.isSome then s.rank else 0xFFFFFFFF) = lowest
  obtain ⟨hrecs, hrolls, -⟩ := State.rollBackTo_step s.found decision lowest
  obtain ⟨krecs, krolls, -⟩ := State.zoneStopped_keepsRolls (s.found.rollBackTo decision lowest)
  exact ⟨State.committed_of_recs (krecs.trans hrecs), krolls.trans hrolls⟩

/-- What rank 0 had recorded for the step; a rollback where it had recorded nothing. -/
theorem recorded_commit {step v : Nat} : (recorded step v).getD 2 = 1 ↔ v / 4 = step ∧ v % 4 = 1 := by
  unfold recorded
  by_cases hstep : v / 4 = step
  · by_cases hzero : v % 4 = 0
    · simp [hzero]
    · simp [hstep, hzero]
  · simp [hstep]

/-- A reply of rank 0 settles the step in progress. -/
theorem State.takeReply_record {s : State} {r : Request} (h : r.purpose = .record s.curStep) (status : Nat) (data : ReplyData) :
    (s.sound → leAt data.bytes 0 8 / 4 = s.curStep → leAt data.bytes 0 8 % 4 = 1 →
      (s.takeReply r status data).committed = some s.curStep)
    ∧ (¬ (leAt data.bytes 0 8 / 4 = s.curStep ∧ leAt data.bytes 0 8 % 4 = 1) →
      (s.takeReply r status data).committed = s.committed ∧ (s.takeReply r status data).upd.rolls = s.upd.rolls + 1) := by
  unfold State.takeReply
  rw [State.takePurpose_record s status data h]
  generalize hout : (recorded s.curStep (leAt data.bytes 0 8)).getD 2 = outcome
  obtain ⟨hrecs, hrolls, -⟩ := State.memoryFault_keepsRolls (s.takeOutcome outcome) (r.phase && (status = stAddr || status = stPoison))
  refine ⟨fun hsound hstep hcode => ?_, fun hnot => ?_⟩
  · rw [State.committed_of_recs hrecs]
    have hone : outcome = 1 := by
      rw [← hout]
      exact recorded_commit.mpr ⟨hstep, hcode⟩
    rw [hone]
    exact State.takeOutcome_committed hsound
  · have hne : outcome ≠ 1 := fun hone => hnot (recorded_commit.mp (hout.trans hone))
    obtain ⟨hcommitted, hcount⟩ := State.takeOutcome_rolls s hne
    exact ⟨(State.committed_of_recs hrecs).trans hcommitted, hrolls.trans hcount⟩

/-! ### A contribution to a sum leaves requests alone -/

/-- Requests, their answers and what is owed for updates are the same. -/
def Fab.keepsRequests (a b : Fab) : Prop := b.reqs = a.reqs ∧ b.answers = a.answers ∧ b.trouble = a.trouble ∧ b.posts = a.posts
  ∧ b.acks = a.acks ∧ b.away = a.away

theorem Fab.keepsRequests_refl (a : Fab) : a.keepsRequests a := ⟨rfl, rfl, rfl, rfl, rfl, rfl⟩

theorem Fab.keepsRequests_trans {a b c : Fab} (h : a.keepsRequests b) (k : b.keepsRequests c) : a.keepsRequests c := by
  obtain ⟨hreqs, hanswers, htrouble, hposts, hacks, haway⟩ := h
  obtain ⟨kreqs, kanswers, ktrouble, kposts, kacks, kaway⟩ := k
  exact ⟨kreqs.trans hreqs, kanswers.trans hanswers, ktrouble.trans htrouble, kposts.trans hposts, kacks.trans hacks, kaway.trans haway⟩

theorem Fab.keepsRequests_of_sends {a b : Fab} (h : a.sends b) : a.keepsRequests b := by
  rw [h]
  exact ⟨rfl, rfl, rfl, rfl, rfl, rfl⟩

theorem State.keepsRequests_foldl {α : Type} (l : List α) (g : State → α → State)
    (hg : ∀ (a : State) (x : α), a.fab.keepsRequests (g a x).fab) {s t : State} (h : s.fab.keepsRequests t.fab) :
    s.fab.keepsRequests (l.foldl g t).fab :=
  List.foldlRecOn (motive := fun u : State => s.fab.keepsRequests u.fab) l g h fun _ hu x _ => Fab.keepsRequests_trans hu (hg _ x)

theorem State.sendChunk_keepsRequests (s : State) (t : TreeOp) (rank chunk level : Nat) (down : Bool) (data : List F32) :
    s.fab.keepsRequests (s.sendChunk t rank chunk level down data).fab := Fab.keepsRequests_of_sends (State.sendFlags_sends _ _ _ _ _ _)

theorem State.chunkDown_keepsRequests (s : State) (t : TreeOp) (chunk : Nat) (data : List F32) :
    s.fab.keepsRequests (s.chunkDown t chunk data).fab :=
  State.keepsRequests_foldl _ _ (fun _ _ => State.sendChunk_keepsRequests _ _ _ _ _ _ _) ⟨rfl, rfl, rfl, rfl, rfl, rfl⟩

theorem State.recordOutcome_keepsRequests (s : State) (outcome : Nat) : s.fab.keepsRequests (s.recordOutcome outcome).fab := by
  unfold State.recordOutcome
  split <;> exact ⟨rfl, rfl, rfl, rfl, rfl, rfl⟩

theorem State.sumUp_keepsRequests (s : State) (t : TreeOp) (chunk : Nat) : s.fab.keepsRequests (s.sumUp t chunk).fab := by
  unfold State.sumUp
  dsimp only
  split
  · exact Fab.keepsRequests_refl _
  · split
    · unfold State.sumFormed
      split
      · exact State.chunkDown_keepsRequests _ _ _ _
      · split
        · exact Fab.keepsRequests_refl _
        · exact Fab.keepsRequests_trans (State.recordOutcome_keepsRequests _ _) (State.chunkDown_keepsRequests _ _ _ _)
    · exact State.sendChunk_keepsRequests _ _ _ _ _ _ _

theorem State.contribute_keepsRequests (s : State) (kind : Nat) (vec : List F32) : s.fab.keepsRequests (s.contribute kind vec).fab := by
  unfold State.contribute
  dsimp only
  split
  · exact Fab.keepsRequests_refl _
  · exact State.keepsRequests_foldl _ _ (fun _ _ => State.sumUp_keepsRequests _ _ _) ⟨rfl, rfl, rfl, rfl, rfl, rfl⟩

theorem State.jobFault_keepsRequests (s : State) (cls : Nat) (reload : Option Nat) : s.fab.keepsRequests (s.jobFault cls reload).fab := by
  unfold State.jobFault
  have hbreak : (s.breakStep cls (if s.canRerun then reload else none)).fab = s.fab := (State.breakStep_evolves _ _ _).1 .fab rfl
  rw [← hbreak]
  exact State.contribute_keepsRequests _ _ _

end Sys2Proof.Machine

/-! REMOTE_REPLY and REMOTE_TIMEOUT (R207, R250, R342, R346, R347). -/

namespace Sys2Proof.Machine

/-! ### The registers that a fault of the job writes -/

theorem State.onlyRegs_foldl {α : Type} {ks : List Nat} {g : State → α → State} (hg : ∀ (a : State) (x : α), a.onlyRegs (g a x) ks)
    (l : List α) {s t : State} (h : s.onlyRegs t ks) : s.onlyRegs (l.foldl g t) ks :=
  List.foldlRecOn (motive := fun u => s.onlyRegs u ks) l g h fun _ hu x _ => State.onlyRegs_trans hu (hg _ x)

theorem State.recordOutcome_onlyRegs (s : State) (outcome : Nat) : s.onlyRegs (s.recordOutcome outcome) [regKey 6 Reg.syncOpCount] := by
  unfold State.recordOutcome
  exact State.onlyRegs_ite (State.onlyRegs_bump (State.onlyRegs_evolves (State.setSync_evolves s _ _) rfl (State.onlyRegs_refl s _)) _ _ _
    (by decide)) (State.onlyRegs_refl s _)

theorem State.sumUp_onlyRegs (s : State) (t : TreeOp) (chunk : Nat) : s.onlyRegs (s.sumUp t chunk) [regKey 6 Reg.syncOpCount] := by
  have h0 := State.onlyRegs_refl s [regKey 6 Reg.syncOpCount]
  unfold State.sumUp
  refine State.onlyRegs_ite h0 (State.onlyRegs_ite ?_ ?_)
  · unfold State.sumFormed
    refine State.onlyRegs_ite (State.onlyRegs_evolves (State.chunkDown_evolves _ _ _ _) rfl h0) (State.onlyRegs_ite h0 ?_)
    exact State.onlyRegs_evolves (State.chunkDown_evolves _ _ _ _) rfl (State.recordOutcome_onlyRegs _ _)
  · exact State.onlyRegs_evolves (State.sendChunk_evolves _ _ _ _ _ _ _) rfl h0

theorem State.contribute_onlyRegs (s : State) (kind : Nat) (vec : List F32) :
    s.onlyRegs (s.contribute kind vec) [regKey 6 Reg.syncOpCount] := by
  unfold State.contribute
  refine State.onlyRegs_ite (State.onlyRegs_refl s _) (State.onlyRegs_foldl (fun _ _ => State.sumUp_onlyRegs _ _ _) _ ?_)
  exact State.onlyRegs_evolves (State.setTree_evolves _ _) rfl (State.onlyRegs_refl s _)

/-- What a fault of the job writes. -/
def jobFaultRegs : List Nat :=
  [regKey 6 Reg.mgmtStatus, regKey 6 Reg.auBrokenCount, regKey 6 Reg.auStatus, regKey 6 Reg.syncOpCount]

theorem State.breakStep_onlyRegs (s : State) (cls : Nat) (reload : Option Nat) : s.onlyRegs (s.breakStep cls reload) jobFaultRegs := by
  have hbroken := fun news => State.onlyRegs_wider (ls := jobFaultRegs) (State.breakFrames_onlyRegs s cls s.curStep news) (by decide)
  unfold State.breakStep
  cases reload with
  | none => exact hbroken _
  | some extra => exact State.onlyRegs_set_adm (hbroken _)

theorem State.jobFault_onlyRegs (s : State) (cls : Nat) (reload : Option Nat) : s.onlyRegs (s.jobFault cls reload) jobFaultRegs :=
  State.onlyRegs_trans (State.breakStep_onlyRegs _ _ _) (State.onlyRegs_wider (State.contribute_onlyRegs _ _ _) (by decide))

/-- What a refusal writes. -/
theorem State.refuse_onlyRegs (s : State) (f : Bytes) (r : Turn) : s.onlyRegs (s.refuse f r)
    [regKey 6 Reg.mgmtStatus, regKey 6 Reg.auRefuseCount, regKey 6 Reg.auStatus, regKey 6 Reg.auLastRefuse] := by
  unfold State.refuse State.refuseId
  refine State.onlyRegs_evolves (State.sendFrame_evolves _ _ _ _ _ _ _ _) rfl (State.onlyRegs_set_adm ?_)
  refine State.onlyRegs_setReg ?_ _ _ _ (by decide)
  refine State.onlyRegs_orReg (State.onlyRegs_bump ?_ _ _ _ (by decide)) _ _ _ (by decide)
  exact State.onlyRegs_wider (State.event_onlyRegs _ _ _) (by decide)

/-! ### A reply that does not come -/

/-- The request has ended without its reply, which is flagged and counted (R342). -/
def State.timedOut (s : State) (r : Request) (id : Nat) : State :=
  (({ s with fab := { s.fab with
      reqs := s.fab.reqs.erase r, answers := (id, stTimeout, []) :: s.fab.answers, trouble := some s.time } } : State).flag 6
    Reg.zfStatus 4).bump 6 Reg.zfTimeoutCount 1

theorem execRemoteTimeout_ends {s : State} {id : Nat} {r : Request} (h : (s.fab.reqs.find? fun r => r.id = id) = some r) :
    exec (.remoteTimeout id) s = .next
      (if r.phase then ((s.timedOut r id).noReply r).jobFault 5 (some 0) else (s.timedOut r id).noReply r) := by
  refine congrArg Host.Outcome.next ?_
  rw [h]
  rfl

theorem State.timedOut_regs (s : State) (r : Request) (id : Nat) : ((s.timedOut r id).reg 6 Reg.zfStatus).testBit 4
    ∧ (s.timedOut r id).reg 6 Reg.zfTimeoutCount = cap32 (s.reg 6 Reg.zfTimeoutCount + 1) := by
  unfold State.timedOut
  refine ⟨?_, ?_⟩
  · rw [State.reg_bump_other _ _ _ _ _ _ (regKey_ne 6 (by decide))]
    exact State.flag_testBit _ _ _ _ (by decide)
  · rw [State.reg_bump_same, State.reg_flag_other _ _ _ _ _ _ (regKey_ne 6 (by decide))]
    rfl

/-- The registers that the end of a request writes, whatever its purpose. -/
def noReplyRegs : List Nat :=
  [regKey 6 Reg.mgmtStatus, regKey 6 Reg.auRefuseCount, regKey 6 Reg.auStatus, regKey 6 Reg.auLastRefuse,
    regKey 2 Reg.updStatus, regKey 3 Reg.updStatus, regKey 4 Reg.updStatus, regKey 5 Reg.updStatus]

section
variable (s : State)

theorem State.refusePosted_onlyRegs (frame : Nat) : s.onlyRegs (s.refusePosted frame) noReplyRegs := by
  unfold State.refusePosted
  split
  · exact State.onlyRegs_refl s _
  · refine State.onlyRegs_trans ?_ (State.onlyRegs_wider (State.refuse_onlyRegs _ _ _) (by decide))
    exact State.onlyRegs_evolves (State.requote_evolves _ _) rfl (State.onlyRegs_refl s _)

theorem State.onlyRegs_set_upd {s t : State} {ks : List Nat} (h : s.onlyRegs t ks) {a : Upd} :
    s.onlyRegs { t with upd := a } ks := h

theorem State.arbiterLost_onlyRegs : s.onlyRegs s.arbiterLost noReplyRegs := by
  have hdies : ∀ d ∈ [2, 3, 4, 5], noReplyRegs.contains (regKey d Reg.updStatus) = true := by decide
  have hflags : s.onlyRegs ([2, 3, 4, 5].foldl (fun s d => s.flag d Reg.updStatus 6) s) noReplyRegs :=
    List.foldlRecOn (motive := fun t => s.onlyRegs t noReplyRegs) _ _ (State.onlyRegs_refl s _)
      fun _ ht d hd => State.onlyRegs_orReg ht _ _ _ (hdies d hd)
  unfold State.arbiterLost
  exact State.onlyRegs_evolves (State.sendStatus_evolves _ _) rfl (State.onlyRegs_set_upd hflags)

theorem State.arbiterLost_upd : s.arbiterLost.upd = { s.upd with lost := some s.curStep } := by
  have hflags : s.evolves ([2, 3, 4, 5].foldl (fun s d => s.flag d Reg.updStatus 6) s) [.regs] :=
    State.evolves_foldl (State.evolves_refl _ _) fun _ _ h => State.evolves_step (State.flag_evolves _ _ _ _) h rfl
  unfold State.arbiterLost
  rw [(State.sendStatus_evolves _ _).1 .upd rfl]
  have hupd := hflags.1 .upd rfl
  have hstep := State.curStep_of_upd hupd
  generalize [2, 3, 4, 5].foldl (fun s d => s.flag d Reg.updStatus 6) s = told at hupd hstep
  dsimp only
  rw [hupd, hstep]

variable (r : Request)

theorem State.noReply_onlyRegs : s.onlyRegs (s.noReply r) noReplyRegs := by
  have h0 := State.onlyRegs_refl s noReplyRegs
  unfold State.noReply
  split
  · exact h0
  · exact State.onlyRegs_ite (State.arbiterLost_onlyRegs s) h0
  · exact h0
  · exact State.refusePosted_onlyRegs s _
  · exact h0
  · exact h0
  · exact h0

theorem State.noReply_fab : (s.noReply r).fab.reqs = s.fab.reqs ∧ (s.noReply r).fab.answers = s.fab.answers
    ∧ (s.noReply r).fab.trouble = s.fab.trouble := by
  unfold State.noReply
  split
  · exact ⟨rfl, rfl, rfl⟩
  · split
    · rw [(State.arbiterLost_evolves s).1 .fab rfl]
      exact ⟨rfl, rfl, rfl⟩
    · exact ⟨rfl, rfl, rfl⟩
  · exact ⟨rfl, rfl, rfl⟩
  · rw [(State.refusePosted_evolves s _).1 .fab rfl]
    exact ⟨rfl, rfl, rfl⟩
  · exact ⟨rfl, rfl, rfl⟩
  · exact ⟨rfl, rfl, rfl⟩
  · exact ⟨rfl, rfl, rfl⟩

theorem State.noReply_ack (h : r.purpose = .ack) : (s.noReply r).fab.posts = [] ∧ (s.noReply r).fab.acks = []
    ∧ (s.noReply r).fab.away = some (s.syncObj 2 / 0x1000000) := by
  unfold State.noReply
  rw [h]
  exact ⟨rfl, rfl, rfl⟩

theorem State.noReply_record (h : r.purpose = .record s.curStep) : (s.noReply r).upd = { s.upd with lost := some s.curStep } := by
  unfold State.noReply
  rw [h]
  dsimp only
  rw [if_pos rfl]
  exact State.arbiterLost_upd s

theorem State.noReply_upd (h : ∀ n, r.purpose = .record n → n ≠ s.curStep) : (s.noReply r).upd = s.upd := by
  unfold State.noReply
  split
  · rfl
  · next n hn => rw [if_neg (h n hn)]
  · rfl
  · exact (State.refusePosted_evolves s _).1 .upd rfl
  · rfl
  · rfl
  · rfl

end

/-- What the end of a request leaves, whatever hung on it. -/
theorem State.remoteTimeout_leaves {s t : State} {r : Request} {id : Nat}
    (ht : t = if r.phase then ((s.timedOut r id).noReply r).jobFault 5 (some 0) else (s.timedOut r id).noReply r) :
    t.fab.reqs = s.fab.reqs.erase r ∧ t.fab.answers = (id, 4, []) :: s.fab.answers ∧ t.fab.trouble = some s.time
    ∧ (t.reg 6 Reg.zfStatus).testBit 4 ∧ t.reg 6 Reg.zfTimeoutCount = cap32 (s.reg 6 Reg.zfTimeoutCount + 1) := by
  obtain ⟨hreqs, hanswers, htrouble⟩ := State.noReply_fab (s.timedOut r id) r
  obtain ⟨hflag, hcount⟩ := State.timedOut_regs s r id
  have hregs := State.noReply_onlyRegs (s.timedOut r id) r
  generalize htimed : s.timedOut r id = timed at hreqs hanswers htrouble hflag hcount hregs ht
  have hfab : timed.fab.reqs = s.fab.reqs.erase r ∧ timed.fab.answers = (id, 4, []) :: s.fab.answers
      ∧ timed.fab.trouble = some s.time := by
    rw [← htimed]
    exact ⟨rfl, rfl, rfl⟩
  obtain ⟨hreqs0, hanswers0, htrouble0⟩ := hfab
  have hended : t.fab.reqs = (timed.noReply r).fab.reqs ∧ t.fab.answers = (timed.noReply r).fab.answers
      ∧ t.fab.trouble = (timed.noReply r).fab.trouble ∧ (timed.noReply r).onlyRegs t jobFaultRegs := by
    rw [ht]
    split
    · obtain ⟨kreqs, kanswers, ktrouble, -⟩ := State.jobFault_keepsRequests (timed.noReply r) 5 (some 0)
      exact ⟨kreqs, kanswers, ktrouble, State.jobFault_onlyRegs _ _ _⟩
    · exact ⟨rfl, rfl, rfl, State.onlyRegs_refl _ _⟩
  obtain ⟨kreqs, kanswers, ktrouble, kregs⟩ := hended
  refine ⟨kreqs.trans (hreqs.trans hreqs0), kanswers.trans (hanswers.trans hanswers0), ktrouble.trans (htrouble.trans htrouble0), ?_, ?_⟩
  · rw [State.reg_of_onlyRegs kregs (by decide), State.reg_of_onlyRegs hregs (by decide)]
    exact hflag
  · rw [State.reg_of_onlyRegs kregs (by decide), State.reg_of_onlyRegs hregs (by decide)]
    exact hcount

end Sys2Proof.Machine

/-! STEP_SYNC_UPDATE, STEP_SYNC_ACK, REMOTE_REPLY and REMOTE_TIMEOUT (R207, R250, R342, R346, R347). -/

namespace Sys2Proof.Machine

section
variable {s : State}

/-- STEP_SYNC_UPDATE at a leaf that sums up its own updates. -/
theorem stepSyncUpdate_own (delay : Bool) (value : BitVec 64)
    (hnone : (s.fab.inbox.find? fun p => p.op = 6 && leAt p.data 5 1 = 16) = none) (hleaf : childLevels s.modules s.rank = []) :
    let step := value.toNat / 0x1000000
    let old := if s.fab.seen.1 = step then s.fab.seen else (step, 0, 0)
    let ext := max (if delay then 0 else value.toNat % 0x1000000) old.2.1
    let dly := max (if delay then value.toNat % 0x1000000 else 0) old.2.2
    let up := (ext + dly) - (old.2.1 + old.2.2)
    s.runs (.stepSyncUpdate delay value) [.regs, .fab, .vlk, .adm, .dict] fun t =>
      (let away := s.turnsAway step (if delay then 0 else value.toNat % 0x1000000)
        let own := if away then 3 else 0
        t.fab = { s.fab with
          seen := (step, ext, dly)
          ackStatus := if s.fab.reqs.any (fun r => r.purpose = .ack) then max s.fab.ackStatus own else own
          away := if away then some step else s.fab.away })
      ∧ (let raised := s.adm.steps.map (fun a => if a.step % 0x10000000000 = step then a.later up else a)
        (∀ a ∈ t.adm.steps, a ∈ raised) ∧ (dly = old.2.2 → t.adm.steps = raised))
      ∧ (up = 0 → t.adm = s.adm ∧ t.vlk = s.vlk ∧ t.regs = s.regs) := by
  intro step old ext dly up
  have hold : old.2 = s.seenOf step := State.seenOf_eq s step
  have hexec := execStepSyncUpdate_own delay value hnone
  rw [State.takeUpdate_own hleaf] at hexec
  have hup : up = s.riseOf step (if delay then 0 else value.toNat % 0x1000000) (if delay then value.toNat % 0x1000000 else 0) := by
    rw [← State.riseOf_eq, ← hold]
  have hseen : (step, ext, dly) = (step, max (if delay then 0 else value.toNat % 0x1000000) (s.seenOf step).1,
      max (if delay then value.toNat % 0x1000000 else 0) (s.seenOf step).2) := by
    rw [← hold]
  obtain ⟨hsub, hraised⟩ := State.ownUpdate_steps (s := s) step (if delay then 0 else value.toNat % 0x1000000)
    (if delay then value.toNat % 0x1000000 else 0) 5
  rw [← hup] at hsub hraised
  refine State.runs_evolves hexec (State.evolves_step (State.applyStepSync_evolves _ _ _ _ _)
    (State.evolves_wider (State.answerUpdate_evolves s _ _) rfl) rfl : s.evolves _ [.regs, .fab, .vlk, .adm, .dict]) rfl
    ⟨?_, ⟨fun a ha => hsub ha, fun hdly => hraised ?_⟩, fun hzero => State.ownUpdate_idle (hup.symm.trans hzero) 5⟩
  · rw [hseen]
    exact State.ownUpdate_fab _ _ _ _
  · rw [← hold]
    exact (Nat.le_max_left _ _).trans (Nat.le_of_eq hdly)

/-- STEP_SYNC_UPDATE that a packet asks for. -/
theorem stepSyncUpdate_packet (delay : Bool) (value : BitVec 64) {pk : Packet}
    (hpk : (s.fab.inbox.find? fun p => p.op = 6 && leAt p.data 5 1 = 16) = some pk) :
    s.runs (.stepSyncUpdate delay value) [.regs, .fab, .vlk, .adm, .dict] fun t =>
      (childLevels s.modules s.rank ≠ [] → t.fab.acks = s.fab.acks ++ [(pk.src, leAt pk.data 0 4)]
        ∧ t.fab.reqs.length = s.fab.reqs.length + (childLevels s.modules s.rank).length)
      ∧ (childLevels s.modules s.rank = [] → t.fab.acks = s.fab.acks ∧ t.fab.reqs = s.fab.reqs
        ∧ (pk.src = s.node → t.fab.answers = (leAt pk.data 0 4, t.fab.ackStatus, u64 0) :: s.fab.answers)) := by
  have hdropped : s.evolves (s.dropPacket pk) [.regs, .fab, .vlk, .adm, .dict] :=
    State.evolves_set_fab rfl (fun h => h) (State.evolves_refl s _)
  refine State.runs_evolves (execStepSyncUpdate_packet delay value hpk)
    (State.evolves_step (State.owesUpdate_evolves _ _) (State.evolves_step (State.takeUpdate_evolves _ _ _ _) hdropped rfl) rfl) rfl
    ⟨fun h => State.packetUpdate_parent pk _ _ _ h, fun h => State.packetUpdate_leaf pk _ _ _ h⟩

/-! ### What a reply does -/

theorem State.replyTaken_evolves (s : State) (r : Request) (id status : Nat) (data : ReplyData) :
    s.evolves (s.replyTaken r id status data) [.fab] := by
  have hports : (s.takeInbox r.dst 0).fab.ports = s.fab.ports := by rw [State.takeInbox_eq]
  exact State.evolves_set_fab rfl (fun h => (congrArg List.length hports).trans h) (State.evolves_refl s _)

theorem State.ackNoted_evolves (s : State) (status : Nat) : s.evolves (s.ackNoted status) [.fab] :=
  State.evolves_set_fab rfl (fun hp => hp) (State.evolves_refl s _)

theorem State.acksAnswered_evolves (s : State) : s.evolves s.acksAnswered [.fab] :=
  State.evolves_foldl (State.evolves_set_fab rfl (fun hp => hp) (State.evolves_refl s _))
    fun _ _ h => State.evolves_step (State.reply_evolves _ _ _ _ _ _) h rfl

theorem State.replyTaken_fab (s : State) (r : Request) (id status : Nat) (data : ReplyData) : (s.replyTaken r id status data).fab =
    { s.fab with
      inbox := (s.takeInbox r.dst 0).fab.inbox, reqs := s.fab.reqs.erase r, answers := (id, status, data.bytes) :: s.fab.answers } := by
  unfold State.replyTaken
  rw [State.takeInbox_eq]

section
variable {id status : Nat} {data : ReplyData} {r : Request} (h : (s.fab.reqs.find? fun r => r.id = id) = some r)
  (hturn : s.turnOf r.dst 0 = true)
include h hturn

/-- A reply of an admitted phase that reports a memory error. -/
theorem remoteReply_failed (hfailed : r.phase = true ∧ (status = 1 ∨ status = 2)) (hpurpose : ∀ n, r.purpose ≠ .record n) :
    s.runs (.remoteReply id status data) [.regs, .frets, .emb, .upd, .fab, .vlk, .adm, .dict] fun t =>
      t.upd.voted = true ∧ t.upd.fault = some (s.upd.fault.getD 4) := by
  obtain ⟨hphase, hstatus⟩ := hfailed
  have hexec := execRemoteReply_takes (status := status) (data := data) h hturn
  have htaken := State.replyTaken_evolves s r id status data
  rw [State.takeReply_failed _ data hphase hstatus] at hexec
  have hunits := State.takePurpose_evolves_units (s.replyTaken r id status data) status data hpurpose
  refine State.runs_evolves hexec (State.evolves_step (State.jobFault_evolves _ _ _) (State.evolves_step hunits
    (State.evolves_wider htaken rfl) rfl) rfl : s.evolves _ [.regs, .frets, .emb, .upd, .fab, .vlk, .adm, .dict]) rfl ?_
  rw [State.jobFault_upd, hunits.1 .upd rfl, htaken.1 .upd rfl]
  exact ⟨rfl, rfl⟩

variable (hserved : ¬ (r.phase = true ∧ (status = 1 ∨ status = 2)))
include hserved

/-- Any other reply does what its purpose asks. -/
theorem execRemoteReply_serves : exec (.remoteReply id status data) s
    = .next ((s.replyTaken r id status data).takePurpose r status data) := by
  rw [execRemoteReply_takes h hturn, State.takeReply_served _ data hserved]

theorem remoteReply_extension {f : Nat} (hstatus : status ≠ 0) (hpurpose : r.purpose = .extension f) :
    s.runs (.remoteReply id status data) [.regs, .vlk, .adm, .dict, .fab] fun t => t.fab = (s.replyTaken r id status data).fab
      ∧ ∀ h, (s.adm.frames.find? fun y => y.id = f && y.waiting = 2) = some h →
        ((s.unhold f).requote h.step).refused t (frId h.bytes) (frType h.bytes) (frStep h.bytes) ⟨cLength, cap32 h.ext, 0⟩ := by
  have hexec := execRemoteReply_serves (data := data) h hturn hserved
  rw [State.takePurpose_extension _ data hstatus hpurpose] at hexec
  have hseen : (s.replyTaken r id status data).fab.seen = s.fab.seen := by rw [State.replyTaken_fab]
  refine State.runs_evolves hexec (State.evolves_step (State.refusePosted_evolves _ _)
    (State.evolves_wider (State.replyTaken_evolves s r id status data) rfl) rfl : s.evolves _ [.regs, .vlk, .adm, .dict, .fab]) rfl
    ⟨(State.refusePosted_evolves _ _).1 .fab rfl, fun g hg => State.refusePosted_of_fab hseen hg⟩

theorem remoteReply_idle (hidle : r.purpose = .delay ∨ r.purpose = .other ∨ (∃ n, r.purpose = .record n ∧ n ≠ s.curStep)
    ∨ (status = 0 ∧ ∃ f, r.purpose = .extension f)) :
    s.runs (.remoteReply id status data) [.fab] fun t => t.fab = (s.replyTaken r id status data).fab := by
  have hexec := execRemoteReply_serves (data := data) h hturn hserved
  have htaken := State.replyTaken_evolves s r id status data
  rw [State.takePurpose_idle _ data (by rw [State.curStep_of_upd (htaken.1 .upd rfl)]; exact hidle)] at hexec
  exact State.runs_evolves hexec htaken rfl rfl

theorem remoteReply_copy {job : Nat} (hpurpose : r.purpose = .copy job) :
    s.runs (.remoteReply id status data) [.fab] fun t => t.fab = { (s.replyTaken r id status data).fab with
      copies := s.fab.copies.map fun j =>
        (if copyJobNo j.src j.id = job then { j with left := j.left - 1, status := max j.status status } else j) } := by
  have hexec := execRemoteReply_serves (data := data) h hturn hserved
  rw [State.takePurpose_copy _ status data hpurpose] at hexec
  refine State.runs_evolves hexec (State.evolves_step (State.copyPart_evolves _ _ _) (State.replyTaken_evolves s r id status data) rfl)
    rfl ?_
  have hcopies := congrArg Fab.copies (State.replyTaken_fab s r id status data)
  unfold State.copyPart
  rw [hcopies]

theorem remoteReply_row (hpurpose : r.purpose = .row) :
    s.runs (.remoteReply id status data) [.regs, .frets, .emb, .fab] fun t => t.fab = (s.replyTaken r id status data).fab
      ∧ t.emb.asks = s.emb.asks.filter (fun a => a.id ≠ id) := by
  have hexec := execRemoteReply_serves (data := data) h hturn hserved
  have hid : r.id = id := by simpa using List.find?_some h
  rw [State.takePurpose_row _ status data hpurpose, hid] at hexec
  exact State.runs_evolves hexec (State.evolves_step (State.rowReply_evolves _ _ _ _)
    (State.evolves_wider (State.replyTaken_evolves s r id status data) rfl) rfl : s.evolves _ [.regs, .frets, .emb, .fab]) rfl
    ⟨(State.rowReply_evolves _ _ _ _).1 .fab rfl, State.rowReply_asks _ _ _ _⟩

theorem remoteReply_ack (hpurpose : r.purpose = .ack) : s.runs (.remoteReply id status data) [.fab] fun t =>
    t.fab.reqs = s.fab.reqs.erase r ∧ t.fab.ackStatus = max s.fab.ackStatus status
    ∧ t.fab.away = (if status = 0 then s.fab.away else some (s.syncObj 2 / 0x1000000))
    ∧ (((s.fab.reqs.erase r).any fun q => q.purpose = .ack) = true → t.fab.acks = s.fab.acks)
    ∧ (((s.fab.reqs.erase r).any fun q => q.purpose = .ack) = false → t.fab.acks = []) := by
  have hexec := execRemoteReply_serves (data := data) h hturn hserved
  have hfab := State.replyTaken_fab s r id status data
  have hevolves : s.evolves ((s.replyTaken r id status data).takePurpose r status data) [.fab] := by
    rw [State.takePurpose_ack _ status data hpurpose]
    have hnoted := State.evolves_step (State.ackNoted_evolves _ status) (State.replyTaken_evolves s r id status data) rfl
    exact State.evolves_ite hnoted (State.evolves_step (State.acksAnswered_evolves _) hnoted rfl)
  refine State.runs_evolves hexec hevolves rfl ?_
  have hleaves := State.takePurpose_ack_fab (s.replyTaken r id status data) status data hpurpose
  unfold State.syncObj at hleaves ⊢
  rw [hfab] at hleaves
  exact hleaves

end

/-- A reply of rank 0 about the step in progress. -/
theorem remoteReply_record {id status : Nat} {data : ReplyData} {r : Request} (h : (s.fab.reqs.find? fun r => r.id = id) = some r)
    (hturn : s.turnOf r.dst 0 = true) (hsound : s.sound) (hpurpose : r.purpose = .record s.curStep) :
    s.runs (.remoteReply id status data)
      [.mem, .regs, .frets, .slanes, .board, .num, .emb, .upd, .dram, .fab, .vlk, .adm, .dict, .life] fun t =>
      (leAt data.bytes 0 8 / 4 = s.curStep → leAt data.bytes 0 8 % 4 = 1 → t.committed = some s.curStep)
      ∧ (¬ (leAt data.bytes 0 8 / 4 = s.curStep ∧ leAt data.bytes 0 8 % 4 = 1) → t.committed = s.committed
        ∧ t.upd.rolls = s.upd.rolls + 1) := by
  have hexec := execRemoteReply_takes (status := status) (data := data) h hturn
  have htaken := State.replyTaken_evolves s r id status data
  have hupd : (s.replyTaken r id status data).upd = s.upd := htaken.1 .upd rfl
  have hstep := State.curStep_of_upd hupd
  obtain ⟨hcommits, hrolls⟩ := State.takeReply_record (s := s.replyTaken r id status data) (by rw [hstep]; exact hpurpose) status data
  rw [hstep] at hcommits hrolls
  rw [State.committed_of_recs (congrArg Upd.recs hupd), hupd] at hrolls
  exact State.runs_evolves hexec (State.evolves_step (State.takeReply_evolves _ _ _ _) (State.evolves_wider htaken rfl) rfl :
      s.evolves _ [.mem, .regs, .frets, .slanes, .board, .num, .emb, .upd, .dram, .fab, .vlk, .adm, .dict, .life]) rfl
    ⟨hcommits (htaken.2 hsound), hrolls⟩

/-! ### What a missing reply does -/

theorem State.timedOut_evolves (s : State) (r : Request) (id : Nat) : s.evolves (s.timedOut r id) [.regs, .fab] :=
  State.evolves_step (State.bump_evolves _ _ _ _) (State.evolves_step (State.flag_evolves _ _ _ _)
    (State.evolves_set_fab rfl (fun hp => hp) (State.evolves_refl s _)) rfl) rfl

theorem remoteTimeout_ends {id : Nat} {r : Request} (h : (s.fab.reqs.find? fun r => r.id = id) = some r) :
    s.runs (.remoteTimeout id) [.regs, .emb, .upd, .fab, .vlk, .adm, .dict] fun t =>
      t.fab.reqs = s.fab.reqs.erase r ∧ t.fab.answers = (id, 4, []) :: s.fab.answers ∧ t.fab.trouble = some s.time
      ∧ (t.reg 6 Reg.zfStatus).testBit 4 ∧ t.reg 6 Reg.zfTimeoutCount = cap32 (s.reg 6 Reg.zfTimeoutCount + 1)
      ∧ (r.phase = true → t.upd.voted = true)
      ∧ (r.purpose = .ack → r.phase = false → t.fab.posts = [] ∧ t.fab.acks = [] ∧ t.fab.away = some (s.syncObj 2 / 0x1000000))
      ∧ (r.phase = false → r.purpose = .record s.curStep → t.upd = { s.upd with lost := some s.curStep })
      ∧ (r.phase = false → (∀ n, r.purpose = .record n → n ≠ s.curStep) → t.upd = s.upd) := by
  have hexec := execRemoteTimeout_ends h
  have htimed := State.timedOut_evolves s r id
  have hupd : (s.timedOut r id).upd = s.upd := htimed.1 .upd rfl
  have hstep := State.curStep_of_upd hupd
  have hnoReply := State.noReply_evolves (s.timedOut r id) r
  have hevolves : s.evolves ((s.timedOut r id).noReply r) [.regs, .emb, .upd, .fab, .vlk, .adm, .dict] :=
    State.evolves_step hnoReply (State.evolves_wider htimed rfl) rfl
  obtain ⟨hreqs, hanswers, htrouble, hflag, hcount⟩ := State.remoteTimeout_leaves (s := s) (r := r) (id := id) rfl
  refine State.runs_evolves hexec (State.evolves_ite (State.evolves_step (State.jobFault_evolves _ _ _) hevolves rfl) hevolves) rfl
    ⟨hreqs, hanswers, htrouble, hflag, hcount, fun hphase => ?_, fun hpurpose hphase => ?_, fun hphase hpurpose => ?_,
      fun hphase hother => ?_⟩
  · rw [if_pos hphase, State.jobFault_upd]
  · rw [if_neg (by rw [hphase]; decide)]
    exact State.noReply_ack _ _ hpurpose
  · rw [if_neg (by rw [hphase]; decide), State.noReply_record _ _ (by rw [hstep]; exact hpurpose), hupd, hstep]
  · rw [if_neg (by rw [hphase]; decide), State.noReply_upd _ _ (fun n hn => by rw [hstep]; exact hother n hn), hupd]

end

/-- Settles O39: an update raises its step's bounds once and goes on down the tree; a reply ends its request and does what its purpose
asks. -/
theorem stepUpdatesAndReplies : Obligations.StepUpdatesAndReplies := by
  unfold Obligations.StepUpdatesAndReplies
  intro s
  refine ⟨fun delay value hnone hleaf => stepSyncUpdate_own delay value hnone hleaf,
    fun delay value pk hpk => stepSyncUpdate_packet delay value hpk, fun delay value => ⟨fun h => execStepSyncAck_stays h, fun h => ?_⟩,
    fun id status data h => ⟨execRemoteReply_none h, execRemoteTimeout_none h⟩, fun id r h => ⟨fun status data hturn =>
      execRemoteReply_waits h hturn, fun hturn status data => ⟨fun hfailed hpurpose => remoteReply_failed h hturn hfailed hpurpose,
        fun hserved hidle => remoteReply_idle h hturn hserved hidle,
        fun hserved f hstatus hpurpose => remoteReply_extension h hturn hserved hstatus hpurpose,
        fun hserved job hpurpose => remoteReply_copy h hturn hserved hpurpose,
        fun hserved hpurpose => remoteReply_row h hturn hserved hpurpose,
        fun hsound hpurpose => remoteReply_record h hturn hsound hpurpose,
        fun hserved hpurpose => remoteReply_ack h hturn hserved hpurpose⟩, remoteTimeout_ends h⟩⟩
  obtain ⟨hreqs, -, -, -, hposts, hsync⟩ := Fab.replies_keeps (State.answerPosts_fab s (if delay then 3 else 2))
  exact State.runs_evolves (execStepSyncAck_answers h) (State.answerPosts_evolves s _) rfl ⟨hposts, hsync, hreqs⟩

end Sys2Proof.Machine

/-! The count of accepted frames while memory fails, faults are reported and promises change (R207, R302 to R322, R396). -/

namespace Sys2Proof.Machine

/-! ### AU.ACCEPT_COUNT -/

/-- No frame is accepted: the count of accepted frames is the same. -/
def State.keepsAccepts (s t : State) : Prop := t.reg 6 Reg.auAcceptCount = s.reg 6 Reg.auAcceptCount

theorem State.keepsAccepts_refl (s : State) : s.keepsAccepts s := rfl

theorem State.keepsAccepts_step {s t u : State} (k : t.keepsAccepts u) (h : s.keepsAccepts t) : s.keepsAccepts u := k.trans h

theorem State.keepsAccepts_evolves {s t u : State} {P : List Part} (k : t.evolves u P) (hP : P.contains .regs = false)
    (h : s.keepsAccepts t) : s.keepsAccepts u := (State.reg_of_regs (k.1 .regs hP) _ _).trans h

theorem State.keepsAccepts_onlyRegs {s t : State} {ks : List Nat} (h : s.onlyRegs t ks) (hks : regKey 6 Reg.auAcceptCount ∉ ks) :
    s.keepsAccepts t := State.reg_of_onlyRegs h hks

theorem State.keepsAccepts_ite {s a b : State} {c : Prop} [Decidable c] (ha : s.keepsAccepts a) (hb : s.keepsAccepts b) :
    s.keepsAccepts (if c then a else b) := by
  split
  · exact ha
  · exact hb

theorem State.keepsAccepts_foldl {α : Type} {g : State → α → State} (hg : ∀ (a : State) (x : α), a.keepsAccepts (g a x))
    (l : List α) {s t : State} (h : s.keepsAccepts t) : s.keepsAccepts (l.foldl g t) :=
  List.foldlRecOn (motive := s.keepsAccepts) l g h fun _ ht x _ => State.keepsAccepts_step (hg _ x) ht

section
variable {s t : State} (h : s.keepsAccepts t)
include h

theorem State.keepsAccepts_set_dram {a : Dram} : s.keepsAccepts { t with dram := a } := h
theorem State.keepsAccepts_set_fab {a : Fab} : s.keepsAccepts { t with fab := a } := h
theorem State.keepsAccepts_set_adm {a : Adm} : s.keepsAccepts { t with adm := a } := h
theorem State.keepsAccepts_set_life {a : Life} : s.keepsAccepts { t with life := a } := h

/-- A write of another register. -/
theorem State.keepsAccepts_setReg (die n v : Nat) (hn : n % 0x200000 ≠ Reg.auAcceptCount) : s.keepsAccepts (t.setReg die n v) := by
  refine State.keepsAccepts_step (State.reg_setReg_other _ _ _ _ _ _ ?_) h
  unfold regKey Reg.auAcceptCount
  unfold Reg.auAcceptCount at hn
  omega

theorem State.keepsAccepts_clearReg (die n mask : Nat) (hn : n % 0x200000 ≠ Reg.auAcceptCount) : s.keepsAccepts (t.clearReg die n mask) :=
  State.keepsAccepts_setReg h die n _ hn

theorem State.keepsAccepts_flag (die n bit : Nat) (hn : n % 0x200000 ≠ Reg.auAcceptCount) : s.keepsAccepts (t.flag die n bit) :=
  State.keepsAccepts_setReg h die n _ hn

theorem State.keepsAccepts_bump (die n k : Nat) (hn : n % 0x200000 ≠ Reg.auAcceptCount) : s.keepsAccepts (t.bump die n k) :=
  State.keepsAccepts_setReg h die n _ hn

theorem State.keepsAccepts_flagCount (die f bit c k : Nat) (hf : f % 0x200000 ≠ Reg.auAcceptCount)
    (hc : c % 0x200000 ≠ Reg.auAcceptCount) : s.keepsAccepts (t.flagCount die f bit c k) :=
  State.keepsAccepts_ite h (State.keepsAccepts_bump (State.keepsAccepts_flag h die f bit hf) die c k hc)

end

/-! ### Promises -/

section
variable (s : State)

theorem State.event_keepsAccepts (code : Nat) (params : Bytes) : s.keepsAccepts (s.event code params) :=
  State.keepsAccepts_onlyRegs (State.event_onlyRegs s code params) (by decide)

theorem State.breakFrames_keepsAccepts (cls step : Nat) (news : List (Nat × Nat)) : s.keepsAccepts (s.breakFrames cls step news) :=
  State.keepsAccepts_onlyRegs (State.breakFrames_onlyRegs s cls step news) (by decide)

theorem State.raiseFrames_keepsAccepts (news : List (Nat × Nat)) : s.keepsAccepts (s.raiseFrames news) :=
  State.keepsAccepts_evolves (State.raiseFrames_evolves s news) rfl (State.keepsAccepts_refl s)

theorem State.applyStepSync_keepsAccepts (step ext delay cls : Nat) : s.keepsAccepts (s.applyStepSync step ext delay cls) := by
  have hseen := State.keepsAccepts_set_fab (State.keepsAccepts_refl s)
    (a := { s.fab with seen := (step, max ext (s.seenOf step).1, max delay (s.seenOf step).2) })
  unfold State.applyStepSync
  refine State.keepsAccepts_ite hseen (State.keepsAccepts_ite ?_ ?_)
  · exact State.keepsAccepts_step (State.breakFrames_keepsAccepts _ _ _ _) (State.keepsAccepts_set_adm hseen)
  · exact State.keepsAccepts_step (State.raiseFrames_keepsAccepts _ _) (State.keepsAccepts_set_adm hseen)

theorem State.fanOut_keepsAccepts (cls : Nat) : s.keepsAccepts (s.fanOut cls) := by
  unfold State.fanOut
  refine State.keepsAccepts_evolves (State.passUpdate_evolves _ _ _ _) rfl ?_
  refine State.keepsAccepts_step (State.applyStepSync_keepsAccepts _ _ _ _ _) ?_
  exact State.keepsAccepts_evolves (State.answerUpdate_evolves _ _ _) rfl (State.keepsAccepts_refl s)

theorem State.post_keepsAccepts (delay : Bool) (step ns cls : Nat) (why : Purpose) : s.keepsAccepts (s.post delay step ns cls why) := by
  have h0 := State.keepsAccepts_refl s
  have hop : ∀ sub o a, s.keepsAccepts (s.syncOp sub o a 0) := fun sub o a => State.reg_syncOp s sub o a 0 (by decide)
  unfold State.post
  refine State.keepsAccepts_ite h0 (State.keepsAccepts_ite ?_ ?_)
  · exact State.keepsAccepts_ite (hop _ _ _) (State.keepsAccepts_step (State.fanOut_keepsAccepts _ _) (hop _ _ _))
  · exact State.keepsAccepts_evolves (State.request_evolves _ _ _ _ _ _ _ _ _ _ _) rfl h0

theorem State.breakAll_keepsAccepts (cls ns : Nat) : s.keepsAccepts (s.breakAll cls ns) := by
  have hlater := fun news => State.breakFrames_keepsAccepts s cls s.curStep news
  unfold State.breakAll
  refine State.keepsAccepts_ite (State.keepsAccepts_set_adm (hlater _)) ?_
  exact State.keepsAccepts_step (State.post_keepsAccepts _ _ _ _ _ _)
    (State.keepsAccepts_set_fab (State.keepsAccepts_set_adm (hlater _)))

end

/-! ### Memory errors -/

theorem tierStatus_accepts (tier : Nat) : tierStatus tier % 0x200000 ≠ Reg.auAcceptCount := by
  unfold tierStatus
  split <;> decide

theorem tierErrLoc_accepts (tier : Nat) : tierErrLoc tier % 0x200000 ≠ Reg.auAcceptCount := by
  unfold tierErrLoc
  split <;> decide

section
variable (s : State)

theorem State.errLoc_keepsAccepts (kind : Nat) (p : Place) : s.keepsAccepts (s.errLoc kind p) :=
  State.keepsAccepts_setReg (State.keepsAccepts_refl s) _ _ _ (tierErrLoc_accepts p.tier)

theorem State.showTraining_keepsAccepts : s.keepsAccepts s.showTraining := by
  unfold State.showTraining
  refine State.keepsAccepts_foldl (fun a d => State.keepsAccepts_foldl (fun b tier => ?_) _ (State.keepsAccepts_refl a)) _
    (State.keepsAccepts_refl s)
  have h0 := State.keepsAccepts_refl b
  exact State.keepsAccepts_ite (State.keepsAccepts_flag h0 _ _ _ (tierStatus_accepts tier))
    (State.keepsAccepts_clearReg h0 _ _ _ (tierStatus_accepts tier))

theorem State.showSuspended_keepsAccepts : s.keepsAccepts s.showSuspended :=
  State.keepsAccepts_ite (State.keepsAccepts_flag (State.keepsAccepts_refl s) _ _ _ (by decide))
    (State.keepsAccepts_clearReg (State.keepsAccepts_refl s) _ _ _ (by decide))

theorem State.retrainTrigger_keepsAccepts (tier chan : Nat) (deferrable : Bool) :
    s.keepsAccepts (s.retrainTrigger tier chan deferrable) := by
  have h0 := State.keepsAccepts_refl s
  unfold State.retrainTrigger
  refine State.keepsAccepts_ite h0 (State.keepsAccepts_ite ?_ ?_)
  · exact State.keepsAccepts_ite h0 (State.keepsAccepts_set_dram h0)
  · refine State.keepsAccepts_step (State.showSuspended_keepsAccepts _) (State.keepsAccepts_step (State.showTraining_keepsAccepts _) ?_)
    refine State.keepsAccepts_step (State.breakAll_keepsAccepts _ _ _) ?_
    exact State.keepsAccepts_ite (State.keepsAccepts_set_dram h0) (State.keepsAccepts_set_adm (State.keepsAccepts_set_dram h0))

theorem State.lifeLog_keepsAccepts (kind die unit detail : Nat) : s.keepsAccepts (s.lifeLog kind die unit detail) := by
  have hflag : ∀ (t : State) (c : Prop) [Decidable c] (bit : Nat), t.keepsAccepts (if c then t.flag 6 Reg.lifeStatus bit else t) :=
    fun t _ _ bit => State.keepsAccepts_ite (State.keepsAccepts_flag (State.keepsAccepts_refl t) 6 _ bit (by decide))
      (State.keepsAccepts_refl t)
  unfold State.lifeLog State.framWrite
  exact State.keepsAccepts_set_life (State.keepsAccepts_step (hflag _ _ _) (hflag s _ _))

theorem State.rowEvent_keepsAccepts (kind : Nat) (p : Place) : s.keepsAccepts (s.rowEvent kind p) := by
  unfold State.rowEvent
  refine State.keepsAccepts_evolves (State.updSpare_evolves _ _) rfl ?_
  refine State.keepsAccepts_step (State.lifeLog_keepsAccepts _ _ _ _ _) (State.keepsAccepts_step (State.errLoc_keepsAccepts _ _ _) ?_)
  exact State.keepsAccepts_flag (State.event_keepsAccepts _ _ _) _ _ _ (tierStatus_accepts _)

theorem State.remapRow_keepsAccepts (p : Place) (n : Nat) : s.keepsAccepts (s.remapRow p n) := by
  unfold State.remapRow
  refine State.keepsAccepts_bump (State.keepsAccepts_set_dram (State.keepsAccepts_refl s)) _ _ _ ?_
  split <;> decide

theorem State.retireBank_keepsAccepts (p : Place) : s.keepsAccepts (s.retireBank p) :=
  State.keepsAccepts_ite (State.keepsAccepts_refl s)
    (State.keepsAccepts_step (State.rowEvent_keepsAccepts _ _ _) (State.keepsAccepts_set_dram (State.keepsAccepts_refl s)))

theorem State.repeatFail_keepsAccepts (p : Place) (spare : Option Nat) : s.keepsAccepts (s.repeatFail p spare) := by
  have hcounted := fun n => State.keepsAccepts_step (State.rowEvent_keepsAccepts { s with dram := { s.dram with repeats := n } } 4 p)
    (State.keepsAccepts_set_dram (State.keepsAccepts_refl s))
  have htold := fun n => State.keepsAccepts_ite (c := p.tier = 0)
    (State.keepsAccepts_bump (hcounted n) (2 + chanDie 0 p.chan) Reg.hbmcRemapRepeatCount 1 (by decide)) (hcounted n)
  unfold State.repeatFail
  dsimp only
  cases spare with
  | none => exact State.keepsAccepts_ite (State.keepsAccepts_step (State.retireBank_keepsAccepts _ _) (htold _)) (htold _)
  | some k =>
    have hmoved := fun n => State.keepsAccepts_flag (State.keepsAccepts_step (State.remapRow_keepsAccepts _ p k) (htold n))
      (2 + chanDie p.tier p.chan) (tierStatus p.tier) (2 + p.tier) (tierStatus_accepts _)
    exact State.keepsAccepts_ite (State.keepsAccepts_step (State.retireBank_keepsAccepts _ _) (hmoved _)) (hmoved _)

theorem State.rowFails_keepsAccepts (p : Place) : s.keepsAccepts (s.rowFails p) := by
  have hmarked := fun n => State.keepsAccepts_set_dram (State.keepsAccepts_refl s) (a := { s.dram with rowErrs := n })
  unfold State.rowFails
  refine State.keepsAccepts_ite (State.keepsAccepts_step (State.repeatFail_keepsAccepts _ _ _) (hmarked _)) ?_
  split
  · refine State.keepsAccepts_step (State.rowEvent_keepsAccepts _ _ _) ?_
    exact State.keepsAccepts_step (State.remapRow_keepsAccepts _ _ _) (hmarked _)
  · exact State.keepsAccepts_step (State.repeatFail_keepsAccepts _ _ _) (hmarked _)

theorem State.uncorrectableError_keepsAccepts (sector : Nat) : s.keepsAccepts (s.uncorrectableError sector) := by
  have h0 := State.keepsAccepts_refl s
  unfold State.uncorrectableError
  extract_lets p die counted located marked poisoned failed
  have hcounted : s.keepsAccepts counted := by
    refine State.keepsAccepts_ite ?_ ?_
    · exact State.keepsAccepts_bump (State.keepsAccepts_flagCount h0 _ _ _ _ _ (by decide) (by decide)) _ _ _ (by decide)
    · refine State.keepsAccepts_bump (State.keepsAccepts_flagCount ?_ _ _ _ _ _ (by decide) (by decide)) _ _ _ (by decide)
      exact State.keepsAccepts_flag h0 _ _ _ (by decide)
  have hlocated : s.keepsAccepts located := State.keepsAccepts_step (State.errLoc_keepsAccepts _ _ _) hcounted
  have hpoisoned : s.keepsAccepts poisoned := State.keepsAccepts_ite hlocated (State.keepsAccepts_set_dram hlocated)
  have hfailed : s.keepsAccepts failed := State.keepsAccepts_step (State.rowFails_keepsAccepts _ _) hpoisoned
  exact State.keepsAccepts_ite (State.keepsAccepts_step (State.retrainTrigger_keepsAccepts _ _ _ _) hfailed) hfailed

theorem State.meetPoison_keepsAccepts (a n : Nat) : s.keepsAccepts (s.meetPoison a n) :=
  State.keepsAccepts_foldl State.uncorrectableError_keepsAccepts _ (State.keepsAccepts_refl s)

theorem State.jobFault_keepsAccepts (cls : Nat) (reload : Option Nat) : s.keepsAccepts (s.jobFault cls reload) :=
  State.keepsAccepts_onlyRegs (State.jobFault_onlyRegs s cls reload) (by decide)

theorem State.failRead_keepsAccepts (a n : Nat) : s.keepsAccepts (s.failRead a n) :=
  State.keepsAccepts_step (State.jobFault_keepsAccepts _ _ _) (State.meetPoison_keepsAccepts s a n)

end

end Sys2Proof.Machine

/-! What gathering a frame's rows and taking its quotation leave of admission (R207, R248 to R254, R309, R379, R380). -/

namespace Sys2Proof.Machine

/-! ### No frame is accepted -/

/-- No frame enters the store or is accepted, no host frame is taken, and the count of accepted frames is the same. -/
def State.acceptsNone (s t : State) : Prop := s.keepsStore t ∧ s.keepsAccepts t

theorem State.acceptsNone_refl (s : State) : s.acceptsNone s := ⟨State.keepsStore_refl s, State.keepsAccepts_refl s⟩

theorem State.acceptsNone_step {s t u : State} (k : t.acceptsNone u) (h : s.acceptsNone t) : s.acceptsNone u :=
  ⟨State.keepsStore_step k.1 h.1, State.keepsAccepts_step k.2 h.2⟩

theorem State.acceptsNone_evolves {s t u : State} {P : List Part} (k : t.evolves u P)
    (hP : (P.contains .regs || P.contains .vlk || P.contains .adm) = false) (h : s.acceptsNone t) : s.acceptsNone u := by
  obtain ⟨⟨hregs, hvlk⟩, hadm⟩ : (P.contains .regs = false ∧ P.contains .vlk = false) ∧ P.contains .adm = false := by
    simpa only [Bool.or_eq_false_iff] using hP
  exact ⟨State.keepsStore_evolves k hvlk hadm h.1, State.keepsAccepts_evolves k hregs h.2⟩

theorem State.acceptsNone_ite {s a b : State} {c : Prop} [Decidable c] (ha : s.acceptsNone a) (hb : s.acceptsNone b) :
    s.acceptsNone (if c then a else b) := by
  split
  · exact ha
  · exact hb

theorem State.acceptsNone_foldl {α : Type} {g : State → α → State} (hg : ∀ (a : State) (x : α), a.acceptsNone (g a x))
    (l : List α) {s t : State} (h : s.acceptsNone t) : s.acceptsNone (l.foldl g t) :=
  List.foldlRecOn (motive := s.acceptsNone) l g h fun _ ht x _ => State.acceptsNone_step (hg _ x) ht

section
variable {s t : State} (h : s.acceptsNone t)
include h

theorem State.acceptsNone_set_emb {a : Emb} : s.acceptsNone { t with emb := a } := h

/-- The bounds of the steps change. -/
theorem State.acceptsNone_set_steps {l : List AdmStep} : s.acceptsNone { t with adm := { t.adm with steps := l } } := h

/-- A write of another register. -/
theorem State.acceptsNone_bump (die n k : Nat) (hn : n % 0x200000 ≠ Reg.auAcceptCount) : s.acceptsNone (t.bump die n k) :=
  ⟨State.keepsStore_evolves (State.bump_evolves t die n k) rfl rfl h.1, State.keepsAccepts_bump h.2 die n k hn⟩

theorem State.acceptsNone_flag (die n bit : Nat) (hn : n % 0x200000 ≠ Reg.auAcceptCount) : s.acceptsNone (t.flag die n bit) :=
  ⟨State.keepsStore_evolves (State.flag_evolves t die n bit) rfl rfl h.1, State.keepsAccepts_flag h.2 die n bit hn⟩

end

section
variable (s : State)

theorem State.breakFrames_acceptsNone (cls step : Nat) (news : List (Nat × Nat)) : s.acceptsNone (s.breakFrames cls step news) :=
  ⟨State.breakFrames_keepsStore s cls step news, State.breakFrames_keepsAccepts s cls step news⟩

theorem State.raiseFrames_acceptsNone (news : List (Nat × Nat)) : s.acceptsNone (s.raiseFrames news) :=
  ⟨State.raiseFrames_keepsStore s news, State.raiseFrames_keepsAccepts s news⟩

theorem State.post_acceptsNone (delay : Bool) (step ns cls : Nat) (why : Purpose) : s.acceptsNone (s.post delay step ns cls why) :=
  ⟨State.post_keepsStore s delay step ns cls why, State.post_keepsAccepts s delay step ns cls why⟩

theorem State.failRead_acceptsNone (a n : Nat) : s.acceptsNone (s.failRead a n) :=
  ⟨State.failRead_keepsStore s a n, State.failRead_keepsAccepts s a n⟩

/-! ### A frame's rows -/

theorem State.deliverPos_acceptsNone (frame step : Nat) (p : Pos) (valid : Bool) (bytes : Bytes) :
    s.acceptsNone (s.deliverPos frame step p valid bytes) :=
  State.acceptsNone_evolves (State.deliverPos_evolves s frame step p valid bytes) rfl (State.acceptsNone_refl s)

theorem State.deliverRow_acceptsNone (frame step : Nat) (t : Table) (row : Nat) (ps : List Pos) (bytes : Option Bytes) :
    s.acceptsNone (s.deliverRow frame step t row ps bytes) := by
  have hcounted := fun n => State.acceptsNone_bump (State.acceptsNone_evolves (State.count_evolves s step t.table 1 n) rfl
    (State.acceptsNone_refl s)) (2 + s.homeDie t.table row) Reg.embDropMissingCount n (by decide)
  unfold State.deliverRow
  cases bytes with
  | some b => exact State.acceptsNone_foldl (fun a p => State.deliverPos_acceptsNone a _ _ _ _ _) _ (State.acceptsNone_refl s)
  | none =>
    refine State.acceptsNone_foldl (fun a p => State.deliverPos_acceptsNone a _ _ _ _ _) _ ?_
    exact State.acceptsNone_set_emb (hcounted _)

theorem State.localRow_acceptsNone (frame step : Nat) (t : Table) (row : Nat) (ps : List Pos) :
    s.acceptsNone (s.localRow frame step t row ps) := by
  unfold State.localRow
  split
  · exact State.failRead_acceptsNone _ _ _
  · exact State.deliverRow_acceptsNone _ _ _ _ _ _ _

theorem State.fetchRow_acceptsNone (frame step : Nat) (ps : List Pos) (t : Table) (row : Nat) (combined : Bool) :
    s.acceptsNone (s.fetchRow frame step ps t row combined) := by
  have hheld : s.acceptsNone (s.holdRow frame step t.table row) :=
    State.acceptsNone_evolves (State.holdRow_evolves s frame step t.table row) rfl (State.acceptsNone_refl s)
  unfold State.fetchRow
  split
  · refine State.acceptsNone_ite ?_ hheld
    split
    · exact State.deliverRow_acceptsNone _ _ _ _ _ _ _
    · exact State.acceptsNone_refl s
  · refine State.acceptsNone_ite hheld ?_
    split
    · exact State.deliverRow_acceptsNone _ _ _ _ _ _ _
    · exact State.acceptsNone_evolves (State.askRow_evolves _ _ _ _ _ _) rfl (State.acceptsNone_refl s)
  · exact State.acceptsNone_ite (State.localRow_acceptsNone _ _ _ _ _ _) hheld

theorem State.gatherRow_acceptsNone (frame step : Nat) (ps : List Pos) (t : Table) (row : Nat) :
    s.acceptsNone (s.gatherRow frame step ps t row) := by
  unfold State.gatherRow
  refine State.acceptsNone_step (State.fetchRow_acceptsNone _ _ _ _ _ _ _) (State.acceptsNone_bump ?_ _ _ _ (by decide))
  exact State.acceptsNone_evolves (State.combine_evolves _ _ _ _ _) rfl (State.acceptsNone_refl s)

theorem State.gather_acceptsNone (frame step : Nat) (ps : List Pos) : s.acceptsNone (s.gather frame step ps) := by
  unfold State.gather
  refine State.acceptsNone_evolves (State.release_evolves _ _) rfl (State.acceptsNone_foldl (fun a r => ?_) _ ?_)
  · split
    · exact State.gatherRow_acceptsNone _ _ _ _ _ _
    · exact State.acceptsNone_refl a
  · refine State.acceptsNone_foldl (fun a p => ?_) _ (State.acceptsNone_refl s)
    split
    · exact State.acceptsNone_refl a
    · split
      · exact State.deliverPos_acceptsNone _ _ _ _ _ _
      · refine State.acceptsNone_step (State.deliverPos_acceptsNone _ _ _ _ _ _) (State.acceptsNone_bump ?_ _ _ _ (by decide))
        exact State.acceptsNone_evolves (State.count_evolves _ _ _ _ _) rfl (State.acceptsNone_refl a)
      · exact State.acceptsNone_refl a

/-! ### The frame itself -/

theorem State.startFrame_acceptsNone (h : HeldFrame) : s.acceptsNone (s.startFrame h) := by
  have hgathered : s.acceptsNone ((s.resolve h.step h.mb (s.positions h.bytes)).gather h.id h.step (s.positions h.bytes)) :=
    State.acceptsNone_step (State.gather_acceptsNone _ _ _ _)
      (State.acceptsNone_evolves (State.resolve_evolves _ _ _ _) rfl (State.acceptsNone_refl s))
  unfold State.startFrame
  dsimp only
  split
  · exact hgathered
  · exact State.acceptsNone_set_steps (State.acceptsNone_step (State.breakFrames_acceptsNone _ _ _ _) hgathered)

theorem State.takeQuote_acceptsNone (q : Quote) : s.acceptsNone (s.takeQuote q) := by
  have hflagged : ∀ late : Bool, s.acceptsNone (if late then s.flag 6 Reg.auStatus 2 else s) := fun late =>
    State.acceptsNone_ite (State.acceptsNone_flag (State.acceptsNone_refl s) _ _ _ (by decide)) (State.acceptsNone_refl s)
  unfold State.takeQuote
  dsimp only
  refine State.acceptsNone_ite (State.acceptsNone_set_steps (hflagged _)) (State.acceptsNone_ite ?_ ?_)
  · exact State.acceptsNone_set_steps (State.acceptsNone_step (State.breakFrames_acceptsNone _ _ _ _) (hflagged _))
  · refine State.acceptsNone_set_steps (State.acceptsNone_step (State.breakFrames_acceptsNone _ _ _ _) ?_)
    exact State.acceptsNone_step (State.raiseFrames_acceptsNone _ _) (hflagged _)

end

end Sys2Proof.Machine

/-! How an EVENTS frame is refused, accepted, or held for its extension (R204, R207, R378 to R382). -/

namespace Sys2Proof.Machine

/-! ### An acceptance -/

/-- What an acceptance leaves (R380, R382, R398): its count, the highest frame_id, an ACCEPT frame that waits to leave, and the host
frames that wait as they were. -/
def State.accepted (s t : State) (id step tLast bound : Nat) (extended : Bool) : Prop :=
  t.reg 6 Reg.auAcceptCount = cap32 (s.reg 6 Reg.auAcceptCount + 1) ∧ t.adm.highId = max s.adm.highId id
  ∧ s.acceptFrame id step tLast bound extended ∈ t.vlk.out ∧ t.vlk.arrived = s.vlk.arrived
  ∧ t.adm.behind = s.adm.behind

section
variable {s t : State} {id step tLast bound : Nat} {extended : Bool}

theorem State.acceptId_accepted (s : State) (id step tLast bound : Nat) (extended : Bool) :
    s.accepted (s.acceptId id step tLast bound extended) id step tLast bound extended := by
  have hinject : (s.bump 6 Reg.auAcceptCount 1).injecting = s.injecting :=
    State.injecting_of_keepsSettings (State.keepsSettings_evolves (State.bump_evolves s 6 _ 1) rfl (State.keepsSettings_refl s))
  refine ⟨State.reg_bump_same s 6 Reg.auAcceptCount 1, rfl, ?_, rfl, rfl⟩
  unfold State.acceptId
  rw [State.sendFrame_out]
  refine List.mem_append_right _ (List.mem_singleton.mpr ?_)
  unfold State.acceptFrame
  rw [← hinject, Nat.zero_add]
  rfl

/-- What comes after an acceptance and accepts nothing. -/
theorem State.accepted_after {u : State} (k : t.acceptsNone u) (h : s.accepted t id step tLast bound extended) :
    s.accepted u id step tLast bound extended := by
  obtain ⟨⟨-, khigh, kout, karrived, kbehind⟩, kcount⟩ := k
  obtain ⟨hcount, hhigh, hout, harrived, hbehind⟩ := h
  exact ⟨kcount.trans hcount, khigh.trans hhigh, kout hout, karrived.trans harrived, kbehind.trans hbehind⟩

theorem State.acceptFrame_of_keepsSettings {a : State} (hset : s.keepsSettings a) (htime : a.time = s.time)
    (id step tLast bound : Nat) (extended : Bool) :
    a.acceptFrame id step tLast bound extended = s.acceptFrame id step tLast bound extended := by
  unfold State.acceptFrame
  rw [State.injecting_of_keepsSettings hset, htime]

/-- What comes before an acceptance and accepts nothing. -/
theorem State.accepted_before {a : State} (h : s.acceptsNone a) (hset : s.keepsSettings a) (htime : a.time = s.time)
    (k : a.accepted t id step tLast bound extended) : s.accepted t id step tLast bound extended := by
  obtain ⟨⟨-, hhigh, -, harrived, hbehind⟩, hcount⟩ := h
  obtain ⟨kcount, khigh, kout, karrived, kbehind⟩ := k
  rw [hcount] at kcount
  rw [hhigh] at khigh
  rw [State.acceptFrame_of_keepsSettings hset htime] at kout
  exact ⟨kcount, khigh, kout, karrived.trans harrived, kbehind.trans hbehind⟩

/-- The frames of the store do not matter to an acceptance. -/
theorem State.accepted_of_hold {h : HeldFrame} (k : (s.hold h).accepted t id step tLast bound extended) :
    s.accepted t id step tLast bound extended := k

end

/-! ### The quotation of a step that takes a frame -/

section
variable (s : State)

theorem State.raiseFrames_keepsSettings (news : List (Nat × Nat)) : s.keepsSettings (s.raiseFrames news) :=
  State.keepsSettings_evolves (State.raiseFrames_evolves s news) rfl (State.keepsSettings_refl s)

theorem State.lateFlag_evolves (late : Bool) : s.evolves (if late then s.flag 6 Reg.auStatus 2 else s) [.regs] :=
  State.evolves_ite (State.flag_evolves s 6 _ 2) (State.evolves_refl s _)

theorem State.takeQuote_keepsSettings (q : Quote) : s.keepsSettings (s.takeQuote q) := by
  have hflagged : ∀ late : Bool, s.keepsSettings (if late then s.flag 6 Reg.auStatus 2 else s) := fun late =>
    State.keepsSettings_evolves (State.lateFlag_evolves s late) rfl (State.keepsSettings_refl s)
  unfold State.takeQuote
  dsimp only
  refine State.keepsSettings_ite (State.keepsSettings_set_adm (hflagged _)) (State.keepsSettings_ite ?_ ?_)
  · exact State.keepsSettings_set_adm (State.keepsSettings_step (State.breakFrames_keepsSettings _ _ _ _) (hflagged _))
  · refine State.keepsSettings_set_adm (State.keepsSettings_step (State.breakFrames_keepsSettings _ _ _ _) ?_)
    exact State.keepsSettings_step (State.raiseFrames_keepsSettings _ _) (hflagged _)

variable {s}

/-- In a larger job the frames in flight keep their bounds: no more than AU.STATUS and the steps' figures change. -/
theorem State.takeQuote_larger (hmulti : 1 < s.modules) (q : Quote) :
    s.evolves (s.takeQuote q) [.regs, .adm] ∧ (s.takeQuote q).adm.frames = s.adm.frames := by
  unfold State.takeQuote
  extract_lets step late late' flagged steps own next put
  have hflagged : s.evolves flagged [.regs] := State.lateFlag_evolves s late'
  have hmodules : flagged.modules = s.modules :=
    State.modules_of_keepsSettings (State.keepsSettings_evolves hflagged rfl (State.keepsSettings_refl s))
  have hframes : flagged.adm.frames = s.adm.frames := congrArg (·.frames) (hflagged.1 .adm rfl)
  rw [if_pos (by rw [hmodules]; exact hmulti)]
  exact ⟨State.evolves_set_adm rfl (fun h => h) (State.evolves_wider hflagged rfl), hframes⟩

end

/-! ### An admitted frame -/

section
variable {s : State} {f : Bytes} {t : Nat} {q : Quote}

/-- The frame as the store holds it, and whether it waits for its extension to be posted. -/
def State.quotedFrame (a : State) (f : Bytes) (t : Nat) (q : Quote) (ext wait : Bool) : HeldFrame :=
  { heldOf f t q.bound (if wait then 2 else 0) ext with
    ext := q.ext
    until' := if wait then (((a.stepFrames (frStep f)).filter fun h => h.waiting = 0).map fun h => h.tLast + h.bound).min? else none }

/-- The lateness that a frame brings to a larger job is posted. -/
def State.postLate (a : State) (step late : Nat) : State := if late = 0 then a else a.post true step late 0x0B .delay

theorem State.postLate_acceptsNone (a : State) (step late : Nat) : a.acceptsNone (a.postLate step late) :=
  State.acceptsNone_ite (State.acceptsNone_refl a) (State.post_acceptsNone _ _ _ _ _ _)

theorem State.admitFrame_eq (s : State) (f : Bytes) (t : Nat) (q : Quote) : s.admitFrame f t q =
    (let a := s.takeQuote q
    let wait := s.isExtended q && decide (1 < a.modules)
    let h := a.quotedFrame f t q (s.isExtended q) wait
    State.postLate (if wait then (a.hold h).post false h.step q.post 5 (.extension h.id)
      else ((a.hold h).acceptId h.id h.step t q.bound (s.isExtended q)).startFrame h) h.step q.late) := rfl

theorem State.admitFrame_accepted (hone : s.isExtended q = false ∨ s.modules ≤ 1) :
    s.accepted (s.admitFrame f t q) (frId f) (frStep f) t q.bound (s.isExtended q) := by
  have hset := State.takeQuote_keepsSettings s q
  have hnowait : (s.isExtended q && decide (1 < (s.takeQuote q).modules)) = false := by
    rw [State.modules_of_keepsSettings hset]
    rcases hone with hext | hmodules
    · rw [hext, Bool.false_and]
    · rw [decide_eq_false (Nat.not_lt.mpr hmodules), Bool.and_false]
  refine State.accepted_before (State.takeQuote_acceptsNone s q) hset ((State.takeQuote_evolves s q).1 .time rfl) ?_
  rw [State.admitFrame_eq]
  dsimp only
  rw [hnowait, if_neg (by decide)]
  refine State.accepted_after (State.postLate_acceptsNone _ _ _) (State.accepted_after (State.startFrame_acceptsNone _ _) ?_)
  exact State.accepted_of_hold (State.acceptId_accepted _ _ _ _ _ _)

end

/-! ### A frame whose extension is posted -/

section
variable {s : State} (hrank : s.rank ≠ 0)
include hrank

/-- Another module than rank 0 asks rank 0 to post. -/
theorem State.post_asks (delay : Bool) {ns : Nat} (hns : ¬ 0xFFFFFF < ns) (step cls : Nat) (why : Purpose) :
    s.post delay step ns cls why = s.request (s.nodeOfRank 0) 6 (if delay then 7 else 6) 0 (if delay then 3 else 2)
      (step % 0x10000000000 * 0x1000000 + ns) cls [] false why := by
  unfold State.post
  dsimp only
  rw [if_neg hns, if_neg hrank]

theorem State.post_evolves_asks (delay : Bool) (step ns cls : Nat) (why : Purpose) : s.evolves (s.post delay step ns cls why) [.fab] := by
  by_cases hns : 0xFFFFFF < ns
  · unfold State.post
    dsimp only
    rw [if_pos hns]
    exact State.evolves_refl s _
  · rw [State.post_asks hrank delay hns]
    exact State.request_evolves _ _ _ _ _ _ _ _ _ _ _

theorem State.post_asks_reqs (delay : Bool) {ns : Nat} (hns : ¬ 0xFFFFFF < ns) (step cls : Nat) (why : Purpose) :
    (s.post delay step ns cls why).fab.reqs
      = s.fab.reqs ++ [⟨s.fab.nextId, s.nodeOfRank 0, 6, s.time, false, why⟩] := by
  rw [State.post_asks hrank delay hns]
  exact congrArg Fab.reqs (State.request_sends s (s.nodeOfRank 0) 6 _ 0 _ _ cls [] false why rfl)

/-- A post loses no request. -/
theorem State.post_asks_prefix (delay : Bool) (step ns cls : Nat) (why : Purpose) :
    s.fab.reqs <+: (s.post delay step ns cls why).fab.reqs := by
  by_cases hns : 0xFFFFFF < ns
  · unfold State.post
    dsimp only
    rw [if_pos hns]
  · rw [State.post_asks_reqs hrank delay hns]
    exact List.prefix_append _ _

end

end Sys2Proof.Machine

/-! The frames that an extension and a tally hold (R207, R248, R378 to R382). -/

namespace Sys2Proof.Machine

/-! ### A frame that waits for its extension -/

section
variable {s : State} {f : Bytes} {t : Nat} {q : Quote}

theorem State.lengthTurn_of_judge (h : s.judge f t = .inr q) : s.lengthTurn f t q = false := by
  unfold State.judge at h
  dsimp only at h
  split at h
  · cases h
  · split at h
    · cases h
    · split at h
      · cases h
      · split at h
        · cases h
        · split at h
          · cases h
          · split at h
            · cases h
            · rename_i hlength
              split at h
              · cases h
              · split at h
                · cases h
                · split at h
                  · cases h
                  · cases h
                    exact Bool.eq_false_iff.mpr hlength

/-- An extension that a frame may bring to a larger job fits the request that posts it. -/
theorem State.post_of_judge (h : s.judge f t = .inr q) (hext : s.isExtended q = true) (hmulti : 1 < s.modules) : ¬ 0xFFFFFF < q.post := by
  have hlength := State.lengthTurn_of_judge h
  unfold State.lengthTurn at hlength
  dsimp only at hlength
  rw [hext, decide_eq_true hmulti] at hlength
  simp only [Bool.or_eq_false_iff, Bool.true_and, decide_eq_false_iff_not] at hlength
  omega

/-- A held frame's extension is on its way to rank 0, and so is the lateness that it brings. -/
theorem State.hold_posts (a : State) (h : HeldFrame) (late : Nat) {ns : Nat} (hrank : a.rank ≠ 0) (hns : ¬ 0xFFFFFF < ns) :
    a.evolves (State.postLate ((a.hold h).post false h.step ns 5 (.extension h.id)) h.step late) [.fab, .adm]
    ∧ (State.postLate ((a.hold h).post false h.step ns 5 (.extension h.id)) h.step late).adm.frames = a.adm.frames ++ [h]
    ∧ ∃ r : Request,
      (State.postLate ((a.hold h).post false h.step ns 5 (.extension h.id)) h.step late).fab.reqs[a.fab.reqs.length]? = some r
      ∧ r.purpose = .extension h.id ∧ r.dst = a.nodeOfRank 0 := by
  have hheld : a.evolves (a.hold h) [.adm] := State.hold_evolves a h
  have hset : a.keepsSettings (a.hold h) := State.keepsSettings_evolves hheld rfl (State.keepsSettings_refl a)
  have hheldrank : (a.hold h).rank ≠ 0 := by
    rw [State.rank_of_keepsSettings hset]
    exact hrank
  have hposted : (a.hold h).evolves ((a.hold h).post false h.step ns 5 (.extension h.id)) [.fab] :=
    State.post_evolves_asks hheldrank _ _ _ _ _
  have hreqs : ((a.hold h).post false h.step ns 5 (.extension h.id)).fab.reqs
      = a.fab.reqs ++ [⟨a.fab.nextId, a.nodeOfRank 0, 6, a.time, false, .extension h.id⟩] := by
    rw [State.post_asks_reqs hheldrank false hns, State.nodeOfRank_of_keepsSettings hset]
    rfl
  have hrank' : ((a.hold h).post false h.step ns 5 (.extension h.id)).rank ≠ 0 := by
    rw [State.rank_of_keepsSettings (State.post_keepsSettings (a.hold h) _ _ _ _ _)]
    exact hheldrank
  generalize (a.hold h).post false h.step ns 5 (.extension h.id) = b at hposted hreqs hrank'
  have hlate : b.evolves (b.postLate h.step late) [.fab] :=
    State.evolves_ite (State.evolves_refl b _) (State.post_evolves_asks hrank' _ _ _ _ _)
  have hprefix : b.fab.reqs <+: (b.postLate h.step late).fab.reqs := by
    unfold State.postLate
    split
    · exact List.prefix_rfl
    · exact State.post_asks_prefix hrank' _ _ _ _ _
  obtain ⟨more, hmore⟩ := hprefix
  refine ⟨State.evolves_step hlate (State.evolves_step hposted (State.evolves_wider hheld rfl) rfl) rfl, ?_, ?_⟩
  · rw [hlate.1 .adm rfl, hposted.1 .adm rfl]
    rfl
  · rw [← hmore, hreqs]
    exact ⟨_, by rw [List.append_assoc, List.getElem?_append_right (le_refl _), Nat.sub_self]; rfl, rfl, rfl⟩

/-- The quoted frame rests on the frames of its step. -/
theorem State.quotedFrame_waiting {a : State} (hframes : a.adm.frames = s.adm.frames) (f : Bytes) (t : Nat) (q : Quote) :
    a.quotedFrame f t q true true = { heldOf f t q.bound 2 true with
      ext := q.ext
      until' := (((s.stepFrames (frStep f)).filter fun h => h.waiting = 0).map fun h => h.tLast + h.bound).min? } := by
  have hstep : a.stepFrames (frStep f) = s.stepFrames (frStep f) := by
    unfold State.stepFrames
    rw [hframes]
  unfold State.quotedFrame
  rw [hstep]
  rfl

/-- What a frame that waits for its post leaves (R207): no answer yet, and a request that rank 0 is to post the extension. -/
theorem State.admitFrame_posts (hext : s.isExtended q = true) (hmulti : 1 < s.modules) (hrank : s.rank ≠ 0)
    (hpost : ¬ 0xFFFFFF < q.post) : s.evolves (s.admitFrame f t q) [.regs, .fab, .adm]
      ∧ s.keepsAccepts (s.admitFrame f t q)
      ∧ (s.admitFrame f t q).adm.frames = s.adm.frames ++ [{ heldOf f t q.bound 2 true with
        ext := q.ext
        until' := (((s.stepFrames (frStep f)).filter fun h => h.waiting = 0).map fun h => h.tLast + h.bound).min? }]
      ∧ ∃ r : Request, (s.admitFrame f t q).fab.reqs[s.fab.reqs.length]? = some r ∧ r.purpose = .extension (frId f)
        ∧ r.dst = s.nodeOfRank 0 := by
  obtain ⟨hquoted, hframes⟩ := State.takeQuote_larger hmulti q
  have hset := State.takeQuote_keepsSettings s q
  have haccepts := (State.takeQuote_acceptsNone s q).2
  have hwait : (s.isExtended q && decide (1 < (s.takeQuote q).modules)) = true := by
    rw [State.modules_of_keepsSettings hset, hext, decide_eq_true hmulti, Bool.and_true]
  rw [State.admitFrame_eq]
  dsimp only
  rw [hwait, if_pos rfl, hext]
  generalize s.takeQuote q = a at hquoted hframes hset haccepts
  have hrank' : a.rank ≠ 0 := by
    rw [State.rank_of_keepsSettings hset]
    exact hrank
  obtain ⟨hevolves, hheld, r, hr, hpurpose, hdst⟩ := State.hold_posts a (a.quotedFrame f t q true true) q.late hrank' hpost
  have hreqs : a.fab.reqs.length = s.fab.reqs.length := congrArg (fun b : Fab => b.reqs.length) (hquoted.1 .fab rfl)
  have hquote := State.quotedFrame_waiting hframes f t q
  rw [hframes] at hheld
  rw [hreqs] at hr
  rw [State.nodeOfRank_of_keepsSettings hset] at hdst
  exact ⟨State.evolves_step hevolves (State.evolves_wider hquoted rfl) rfl, State.keepsAccepts_evolves hevolves rfl haccepts,
    hheld.trans (congrArg (fun h => s.adm.frames ++ [h]) hquote), r, hr, hpurpose, hdst⟩

end

end Sys2Proof.Machine

/-! EVENTS, TALLY_COMPLETE and EXTENSION_POSTED (R204, R207, R248, R372, R377 to R382). -/

namespace Sys2Proof.Machine

/-! ### A refusal -/

theorem State.refuse_arrived (s : State) (f : Bytes) (r : Turn) : (s.refuse f r).vlk.arrived = s.vlk.arrived :=
  congrArg (·.arrived) ((State.event_evolves s 0x0502 (u8 r.cause ++ u8 (frType f) ++ u32 (frId f) ++ u64 (frStep f))).1 .vlk rfl)

/-! ### A frame that arrives -/

/-- The frame is taken from the link. -/
def State.takenIn (s : State) (f : Bytes) : State := { s with vlk := { s.vlk with arrived := s.vlk.arrived.erase f } }

section
variable {s : State} {f : Bytes}

theorem State.takenIn_evolves (s : State) (f : Bytes) : s.evolves (s.takenIn f) [.vlk] :=
  State.evolves_set_vlk rfl (State.evolves_refl s _)

theorem State.takenIn_generalTurn (s : State) (f g : Bytes) (type : Nat) :
    (s.takenIn f).generalTurn g type = s.generalTurn g type := rfl

theorem State.takenIn_judge (s : State) (f g : Bytes) (t : Nat) : (s.takenIn f).judge g t = s.judge g t := rfl

/-- A frame that came while an earlier one's tally is awaited. -/
def State.putBehind (s : State) (f : Bytes) : State := { s with adm := { s.adm with behind := s.adm.behind ++ [(s.time, f)] } }

theorem State.putBehind_evolves (s : State) (f : Bytes) : s.evolves (s.putBehind f) [.adm] :=
  State.evolves_set_adm rfl (fun h => h) (State.evolves_refl s _)

/-- What was taken from the link does not matter to an acceptance. -/
theorem State.accepted_of_takenIn {t : State} {id step tLast bound : Nat} {extended : Bool}
    (h : (s.takenIn f).accepted t id step tLast bound extended) :
    t.reg 6 Reg.auAcceptCount = cap32 (s.reg 6 Reg.auAcceptCount + 1) ∧ t.adm.highId = max s.adm.highId id
    ∧ s.acceptFrame id step tLast bound extended ∈ t.vlk.out ∧ t.vlk.arrived = s.vlk.arrived.erase f := by
  obtain ⟨hcount, hhigh, hout, harrived, -⟩ := h
  rw [State.acceptFrame_of_keepsSettings
    (State.keepsSettings_evolves (State.takenIn_evolves s f) rfl (State.keepsSettings_refl s)) rfl] at hout
  exact ⟨hcount, hhigh, hout, harrived⟩

theorem execEvents_held (h : ¬ (s.held 6 14 = false ∧ s.held 6 15 = false)) : exec (.events f) s = .next s := by
  have hheld : (s.held 6 14 || s.held 6 15) = true := by
    cases h14 : s.held 6 14
    · exact (Bool.not_eq_false _).mp fun h15 => h ⟨h14, h15⟩
    · rfl
  refine congrArg Host.Outcome.next ?_
  unfold State.arrive
  rw [if_pos hheld]

theorem State.decideEvents_judged (hgeneral : s.generalTurn f 1 = none) (hclass : s.anyClassified = false) :
    (s.takenIn f).decideEvents f s.time = (s.takenIn f).decideTallied f s.time := by
  have hnone : (s.takenIn f).anyClassified = false := hclass
  unfold State.decideEvents
  rw [State.takenIn_generalTurn, hgeneral]
  exact if_neg (by rw [hnone]; decide)

variable (hunits : s.held 6 14 = false ∧ s.held 6 15 = false)
include hunits

theorem State.arrive_taken (decide' : State → Bytes → Nat → State) : s.arrive f decide' = if s.tallying = true
      then (s.takenIn f).putBehind f else decide' (s.takenIn f) f s.time := by
  obtain ⟨h14, h15⟩ := hunits
  unfold State.arrive
  rw [h14, h15]
  rfl

theorem events_behind (htally : s.tallying = true) : s.runs (.events f) [.vlk, .adm] fun t =>
    t.adm = { s.adm with behind := s.adm.behind ++ [(s.time, f)] }
    ∧ t.vlk = { s.vlk with arrived := s.vlk.arrived.erase f } := by
  have hexec : exec (.events f) s = .next ((s.takenIn f).putBehind f) := by
    refine congrArg Host.Outcome.next ?_
    rw [State.arrive_taken hunits, if_pos htally]
  exact State.runs_evolves hexec (State.evolves_step (State.putBehind_evolves _ f) (State.evolves_wider (State.takenIn_evolves s f) rfl) rfl
    : s.evolves _ [.vlk, .adm]) rfl ⟨rfl, rfl⟩

variable (htally : s.tallying = false)
include htally

theorem execEvents_decides : exec (.events f) s = .next ((s.takenIn f).decideEvents f s.time) := by
  refine congrArg Host.Outcome.next ?_
  rw [State.arrive_taken hunits, if_neg (by rw [htally]; decide)]

/-- A frame that is refused in its turn. -/
theorem events_refuses {r : Turn} (hturn : (s.takenIn f).decideEvents f s.time = (s.takenIn f).refuse f r) :
    s.runs (.events f) [.regs, .vlk, .adm, .dict] fun t =>
      s.refused t (frId f) (frType f) (frStep f) r ∧ t.vlk.arrived = s.vlk.arrived.erase f := by
  have hexec := execEvents_decides (f := f) hunits htally
  rw [hturn] at hexec
  exact State.runs_evolves hexec (State.evolves_step (State.refuse_evolves _ f r) (State.evolves_wider (State.takenIn_evolves s f) rfl) rfl
    : s.evolves _ [.regs, .vlk, .adm, .dict]) rfl
    ⟨State.refuseId_refused (s.takenIn f) (frId f) (frType f) (frStep f) r, State.refuse_arrived _ f r⟩

theorem events_general {r : Turn} (hgeneral : s.generalTurn f 1 = some r) : s.runs (.events f) [.regs, .vlk, .adm, .dict] fun t =>
    s.refused t (frId f) (frType f) (frStep f) r ∧ t.vlk.arrived = s.vlk.arrived.erase f := by
  refine events_refuses hunits htally ?_
  unfold State.decideEvents
  rw [State.takenIn_generalTurn, hgeneral]

variable (hgeneral : s.generalTurn f 1 = none)
include hgeneral

theorem events_tallied (hclass : s.anyClassified = true) : s.runs (.events f) [.vlk, .adm] fun t =>
    t.adm = { s.adm with frames := s.adm.frames ++ [heldOf f s.time 0 1 false] }
    ∧ t.vlk = { s.vlk with arrived := s.vlk.arrived.erase f } := by
  have hdecide : (s.takenIn f).decideEvents f s.time = (s.takenIn f).hold (heldOf f s.time 0 1 false) := by
    unfold State.decideEvents
    rw [State.takenIn_generalTurn, hgeneral]
    exact if_pos hclass
  have hexec := execEvents_decides (f := f) hunits htally
  rw [hdecide] at hexec
  exact State.runs_evolves hexec (State.evolves_step (State.hold_evolves _ _) (State.evolves_wider (State.takenIn_evolves s f) rfl) rfl
    : s.evolves _ [.vlk, .adm]) rfl ⟨rfl, rfl⟩

variable (hclass : s.anyClassified = false)
include hclass

theorem events_judged {r : Turn} (hjudge : s.judge f s.time = .inl r) : s.runs (.events f) [.regs, .vlk, .adm, .dict] fun t =>
    s.refused t (frId f) (frType f) (frStep f) r ∧ t.vlk.arrived = s.vlk.arrived.erase f := by
  refine events_refuses hunits htally ((State.decideEvents_judged hgeneral hclass).trans ?_)
  unfold State.decideTallied
  rw [State.takenIn_judge, hjudge]

theorem execEvents_admits {q : Quote} (hjudge : s.judge f s.time = .inr q) :
    exec (.events f) s = .next ((s.takenIn f).admitFrame f s.time q) := by
  rw [execEvents_decides hunits htally, State.decideEvents_judged hgeneral hclass]
  unfold State.decideTallied
  rw [State.takenIn_judge, hjudge]

theorem events_accepted {q : Quote} (hjudge : s.judge f s.time = .inr q) (hone : s.isExtended q = false ∨ s.modules ≤ 1) :
    s.runs (.events f) [.regs, .frets, .emb, .upd, .dram, .fab, .vlk, .adm, .dict, .life] fun t =>
      t.reg 6 Reg.auAcceptCount = cap32 (s.reg 6 Reg.auAcceptCount + 1) ∧ t.adm.highId = max s.adm.highId (frId f)
      ∧ s.acceptFrame (frId f) (frStep f) s.time q.bound (s.isExtended q) ∈ t.vlk.out
      ∧ t.vlk.arrived = s.vlk.arrived.erase f := by
  have hset : s.keepsSettings (s.takenIn f) :=
    State.keepsSettings_evolves (State.takenIn_evolves s f) rfl (State.keepsSettings_refl s)
  have hext : (s.takenIn f).isExtended q = s.isExtended q := by
    unfold State.isExtended
    rw [State.odNat_of_keepsSettings hset]
  have haccepted := State.admitFrame_accepted (s := s.takenIn f) (f := f) (t := s.time) (q := q)
    (by rw [hext, State.modules_of_keepsSettings hset]; exact hone)
  rw [hext] at haccepted
  exact State.runs_evolves (execEvents_admits hunits htally hgeneral hclass hjudge)
    (State.evolves_step (State.admitFrame_evolves _ _ _ _) (State.evolves_wider (State.takenIn_evolves s f) rfl) rfl
      : s.evolves _ [.regs, .frets, .emb, .upd, .dram, .fab, .vlk, .adm, .dict, .life]) rfl (State.accepted_of_takenIn haccepted)

theorem events_posted {q : Quote} (hjudge : s.judge f s.time = .inr q) (hext : s.isExtended q = true) (hmulti : 1 < s.modules)
    (hrank : s.rank ≠ 0) : s.runs (.events f) [.regs, .fab, .vlk, .adm] fun t =>
      t.adm.frames = s.adm.frames ++ [{ heldOf f s.time q.bound 2 true with
        ext := q.ext
        until' := (((s.stepFrames (frStep f)).filter fun h => h.waiting = 0).map fun h => h.tLast + h.bound).min? }]
      ∧ t.vlk.out = s.vlk.out ∧ t.reg 6 Reg.auAcceptCount = s.reg 6 Reg.auAcceptCount
      ∧ ∃ r : Request, t.fab.reqs[s.fab.reqs.length]? = some r ∧ r.purpose = .extension (frId f) ∧ r.dst = s.nodeOfRank 0 := by
  have hset : s.keepsSettings (s.takenIn f) :=
    State.keepsSettings_evolves (State.takenIn_evolves s f) rfl (State.keepsSettings_refl s)
  have hext' : (s.takenIn f).isExtended q = true := by
    unfold State.isExtended
    rw [State.odNat_of_keepsSettings hset]
    exact hext
  obtain ⟨hevolves, haccepts, hframes, r, hr, hpurpose, hdst⟩ := State.admitFrame_posts (s := s.takenIn f) (f := f) (t := s.time) hext'
    (by rw [State.modules_of_keepsSettings hset]; exact hmulti) (by rw [State.rank_of_keepsSettings hset]; exact hrank)
    (State.post_of_judge hjudge hext hmulti)
  rw [State.nodeOfRank_of_keepsSettings hset] at hdst
  exact State.runs_evolves (execEvents_admits hunits htally hgeneral hclass hjudge)
    (State.evolves_step hevolves (State.evolves_wider (State.takenIn_evolves s f) rfl) rfl : s.evolves _ [.regs, .fab, .vlk, .adm]) rfl
    ⟨hframes, congrArg (·.out) (hevolves.1 .vlk rfl), haccepts, r, hr, hpurpose, hdst⟩

end

end Sys2Proof.Machine

/-! TALLY_COMPLETE, EXTENSION_POSTED, and what an EVENTS frame meets (R204, R207, R248, R372, R377 to R382). -/

namespace Sys2Proof.Machine

/-! ### A tally is complete -/

/-- A frame's tally is taken, and the frame is to be decided. -/
def State.tallied (s : State) (h : HeldFrame) (frame : Nat) : State := (s.takeTally h).unhold frame

section
variable {s : State} {frame : Nat} {h : HeldFrame}

theorem State.tallied_evolves (s : State) (h : HeldFrame) (frame : Nat) : s.evolves (s.tallied h frame) [.emb, .adm] :=
  State.evolves_step (State.unhold_evolves _ frame) (State.evolves_wider (State.takeTally_evolves s h) rfl) rfl

/-- The tally is all that is new beside the frame's place in the store. -/
theorem State.unhold_evolves_tallied (s : State) (h : HeldFrame) (frame : Nat) : (s.unhold frame).evolves (s.tallied h frame) [.emb] :=
  State.evolves_set_emb rfl (State.evolves_refl (s.unhold frame) _)

/-- A refusal does not rest on the tallies. -/
theorem State.refused_before_emb {a t : State} {id type step : Nat} {r : Turn} (ha : s.evolves a [.emb])
    (k : a.refused t id type step r) : s.refused t id type step r := by
  unfold State.refused at k
  rw [State.reg_of_regs (ha.1 .regs rfl), ha.1 .adm rfl, ha.1 .vlk rfl, ha.1 .time rfl,
    State.injecting_of_keepsSettings (State.keepsSettings_evolves ha rfl (State.keepsSettings_refl s))] at k
  exact k

/-- A refused frame's tally goes. -/
theorem State.refused_after_emb {t u : State} {id type step : Nat} {r : Turn} (hu : t.evolves u [.emb])
    (k : s.refused t id type step r) : s.refused u id type step r := by
  unfold State.refused
  rw [State.reg_of_regs (hu.1 .regs rfl), State.reg_of_regs (hu.1 .regs rfl), State.reg_of_regs (hu.1 .regs rfl), hu.1 .adm rfl,
    hu.1 .vlk rfl]
  exact k

/-- No frame waits to be decided. -/
theorem State.drainBehind_nothing {t : State} (hnone : t.adm.behind = []) : State.drainBehind t.adm.behind.length t = t := by
  rw [hnone]
  rfl

theorem execTallyComplete_none (hfind : (s.adm.frames.find? fun f => f.id = frame && f.waiting = 1) = none) :
    exec (.tallyComplete frame) s = .next s := by
  refine congrArg Host.Outcome.next ?_
  rw [hfind]

variable (hfind : (s.adm.frames.find? fun f => f.id = frame && f.waiting = 1) = some h)
include hfind

/-- Where no frame waits behind the tally, nothing more is decided. -/
theorem execTallyComplete_decides {t : State} (ht : (s.tallied h frame).decideTallied h.bytes h.tLast = t) (hnone : t.adm.behind = []) :
    exec (.tallyComplete frame) s = .next (t.dropTally frame) := by
  have hdropped : (t.dropTally frame).adm.behind = [] := by
    rw [(State.dropTally_evolves t frame).1 .adm rfl]
    exact hnone
  refine (congrArg Host.Outcome.next ?_ : exec (.tallyComplete frame) s
    = .next (State.drainBehind (t.dropTally frame).adm.behind.length (t.dropTally frame))).trans
    (congrArg Host.Outcome.next (State.drainBehind_nothing hdropped))
  unfold State.tallied at ht
  rw [hfind]
  dsimp only
  rw [ht]

variable (hbehind : s.adm.behind = [])
include hbehind

theorem tallyComplete_refused {r : Turn} (hjudge : (s.tallied h frame).judge h.bytes h.tLast = .inl r) :
    s.runs (.tallyComplete frame) [.regs, .emb, .vlk, .adm, .dict] fun t =>
      (s.unhold frame).refused t (frId h.bytes) (frType h.bytes) (frStep h.bytes) r := by
  have hdecide : (s.tallied h frame).decideTallied h.bytes h.tLast = (s.tallied h frame).refuse h.bytes r := by
    unfold State.decideTallied
    rw [hjudge]
  have hrefused : (s.tallied h frame).refused ((s.tallied h frame).refuse h.bytes r) (frId h.bytes) (frType h.bytes)
      (frStep h.bytes) r := State.refuseId_refused _ _ _ _ _
  have hnone : ((s.tallied h frame).refuse h.bytes r).adm.behind = [] := by
    obtain ⟨-, -, -, hadm, -⟩ := hrefused
    exact (congrArg (·.behind) hadm).trans hbehind
  have hdropped := State.dropTally_evolves ((s.tallied h frame).refuse h.bytes r) frame
  have hleft := State.refused_after_emb hdropped (State.refused_before_emb (State.unhold_evolves_tallied s h frame) hrefused)
  exact State.runs_evolves (execTallyComplete_decides hfind hdecide hnone)
    (State.evolves_step hdropped (State.evolves_step (State.refuse_evolves _ h.bytes r)
      (State.evolves_wider (State.tallied_evolves s h frame) rfl) rfl) rfl : s.evolves _ [.regs, .emb, .vlk, .adm, .dict]) rfl
    hleft

theorem tallyComplete_accepted {q : Quote} (hjudge : (s.tallied h frame).judge h.bytes h.tLast = .inr q)
    (hone : s.isExtended q = false ∨ s.modules ≤ 1) :
    s.runs (.tallyComplete frame) [.regs, .frets, .emb, .upd, .dram, .fab, .vlk, .adm, .dict, .life] fun t =>
      t.reg 6 Reg.auAcceptCount = cap32 (s.reg 6 Reg.auAcceptCount + 1)
      ∧ s.acceptFrame (frId h.bytes) (frStep h.bytes) h.tLast q.bound (s.isExtended q) ∈ t.vlk.out := by
  have hdecide : (s.tallied h frame).decideTallied h.bytes h.tLast = (s.tallied h frame).admitFrame h.bytes h.tLast q := by
    unfold State.decideTallied
    rw [hjudge]
  have hset : s.keepsSettings (s.tallied h frame) :=
    State.keepsSettings_evolves (State.tallied_evolves s h frame) rfl (State.keepsSettings_refl s)
  have hext : (s.tallied h frame).isExtended q = s.isExtended q := by
    unfold State.isExtended
    rw [State.odNat_of_keepsSettings hset]
  have haccepted := State.admitFrame_accepted (s := s.tallied h frame) (f := h.bytes) (t := h.tLast) (q := q)
    (by rw [hext, State.modules_of_keepsSettings hset]; exact hone)
  have hdropped := State.dropTally_evolves ((s.tallied h frame).admitFrame h.bytes h.tLast q) frame
  have hnone : ((s.tallied h frame).admitFrame h.bytes h.tLast q).adm.behind = [] := by
    obtain ⟨-, -, -, -, hkept⟩ := haccepted
    exact hkept.trans hbehind
  obtain ⟨hcount, -, hout, -, -⟩ :=
    State.accepted_after (State.acceptsNone_evolves hdropped rfl (State.acceptsNone_refl _)) haccepted
  rw [hext, State.acceptFrame_of_keepsSettings hset rfl] at hout
  exact State.runs_evolves (execTallyComplete_decides hfind hdecide hnone)
    (State.evolves_step hdropped (State.evolves_step (State.admitFrame_evolves _ _ _ _)
      (State.evolves_wider (State.tallied_evolves s h frame) rfl) rfl) rfl
      : s.evolves _ [.regs, .frets, .emb, .upd, .dram, .fab, .vlk, .adm, .dict, .life]) rfl ⟨hcount, hout⟩

end

/-! ### An extension is posted -/

/-- Did the post take until after the first bound that stood before it? -/
def State.pastUntil (s : State) (h : HeldFrame) : Bool :=
  match h.until' with
  | some u => decide (u < s.time)
  | none => false

theorem State.pastUntil_iff (s : State) (h : HeldFrame) : s.pastUntil h = true ↔ ∃ u, h.until' = some u ∧ u < s.time := by
  unfold State.pastUntil
  cases h.until' with
  | none => simp
  | some u => simp

/-- The bound with the extension. -/
def State.postedBound (s : State) (h : HeldFrame) : Nat :=
  match s.admStep h.step with
  | some a => a.commit - h.tLast
  | none => h.bound

/-- The frame waits no more. -/
def State.takeExtension (s : State) (frame : Nat) (h : HeldFrame) : State :=
  { s with adm := { s.adm with frames := s.adm.frames.map fun f =>
    if f.id = frame then { h with waiting := 0, bound := s.postedBound h } else f } }

theorem State.takeExtension_evolves (s : State) (frame : Nat) (h : HeldFrame) : s.evolves (s.takeExtension frame h) [.adm] :=
  State.evolves_set_adm rfl (fun k => k) (State.evolves_refl s _)

section
variable {s : State} {frame : Nat} {h : HeldFrame}

theorem execExtensionPosted_waits
    (hwait : (s.adm.frames.find? fun f => f.id = frame && f.waiting = 2) = none ∨ s.postDone frame = false) :
    exec (.extensionPosted frame) s = .next s := by
  refine congrArg Host.Outcome.next ?_
  split
  · rfl
  · rename_i g hg
    rcases hwait with hnone | hdone
    · rw [hnone] at hg
      cases hg
    · rw [hdone]
      rfl

variable (hfind : (s.adm.frames.find? fun f => f.id = frame && f.waiting = 2) = some h) (hdone : s.postDone frame = true)
include hfind hdone

theorem execExtensionPosted_done : exec (.extensionPosted frame) s = .next
    (if s.rank = 0 && s.fab.away = some (h.step % 0x10000000000) then s.refusePosted frame
      else if s.pastUntil h then s.refusePosted frame
      else ((s.takeExtension frame h).acceptId h.id h.step h.tLast (s.postedBound h) true).startFrame
        { h with waiting := 0, bound := s.postedBound h }) := by
  refine congrArg Host.Outcome.next ?_
  rw [hfind]
  dsimp only
  rw [hdone]
  rfl

theorem extensionPosted_refused (hlate : (s.rank = 0 ∧ s.fab.away = some (h.step % 0x10000000000))
      ∨ ∃ u, h.until' = some u ∧ u < s.time) : s.runs (.extensionPosted frame) [.regs, .vlk, .adm, .dict] fun t =>
    ((s.unhold frame).requote h.step).refused t (frId h.bytes) (frType h.bytes) (frStep h.bytes) ⟨cLength, cap32 h.ext, 0⟩ := by
  have hrefused : ((s.unhold frame).requote h.step).refused (s.refusePosted frame) (frId h.bytes) (frType h.bytes)
      (frStep h.bytes) ⟨cLength, cap32 h.ext, 0⟩ := by
    unfold State.refusePosted
    rw [hfind]
    exact State.refuseId_refused _ _ _ _ _
  have hexec : exec (.extensionPosted frame) s = .next (s.refusePosted frame) := by
    rw [execExtensionPosted_done hfind hdone]
    rcases hlate with ⟨hrank, haway⟩ | hpast
    · rw [if_pos (by rw [decide_eq_true hrank, decide_eq_true haway]; rfl)]
    · rw [if_pos ((State.pastUntil_iff s h).mpr hpast), ite_self]
  exact State.runs_evolves hexec (State.refusePosted_evolves s frame) rfl hrefused

theorem extensionPosted_accepted (hturned : ¬ (s.rank = 0 ∧ s.fab.away = some (h.step % 0x10000000000)))
    (hlate : ¬ ∃ u, h.until' = some u ∧ u < s.time) :
    s.runs (.extensionPosted frame) [.regs, .frets, .emb, .upd, .dram, .fab, .vlk, .adm, .dict, .life] fun t =>
      t.reg 6 Reg.auAcceptCount = cap32 (s.reg 6 Reg.auAcceptCount + 1)
      ∧ s.acceptFrame h.id h.step h.tLast (s.postedBound h) true ∈ t.vlk.out := by
  have hexec := execExtensionPosted_done hfind hdone
  rw [if_neg (by simpa using hturned), if_neg (fun hpast => hlate ((State.pastUntil_iff s h).mp hpast))] at hexec
  have htaken := State.takeExtension_evolves s frame h
  obtain ⟨hcount, -, hout, -, -⟩ := State.accepted_after
    (State.startFrame_acceptsNone ((s.takeExtension frame h).acceptId h.id h.step h.tLast (s.postedBound h) true)
      { h with waiting := 0, bound := s.postedBound h }) (State.acceptId_accepted _ _ _ _ _ _)
  rw [State.acceptFrame_of_keepsSettings (State.keepsSettings_evolves htaken rfl (State.keepsSettings_refl s)) rfl] at hout
  exact State.runs_evolves hexec (State.evolves_step (State.startFrame_evolves _ _) (State.evolves_step (State.acceptId_evolves _ _ _ _ _ _)
      (State.evolves_wider htaken rfl) rfl) rfl
      : s.evolves _ [.regs, .frets, .emb, .upd, .dram, .fab, .vlk, .adm, .dict, .life]) rfl ⟨hcount, hout⟩

end

/-! ### EVENTS, TALLY_COMPLETE and EXTENSION_POSTED -/

/-- Settles O42: a frame is refused, accepted or held by the decision that it meets; gathering its rows and taking its quotation accept
no other frame and take no other from the link. -/
theorem eventsAdmission : Obligations.EventsAdmission := by
  unfold Obligations.EventsAdmission
  intro s
  refine ⟨fun f => ⟨execEvents_held, fun hunits => ⟨events_behind hunits, fun r htally => events_general hunits htally,
      fun htally => events_tallied hunits htally,
      fun r htally hgeneral hclass hjudge => events_judged hunits htally hgeneral hclass hjudge,
      fun q htally hgeneral hclass hjudge => events_accepted hunits htally hgeneral hclass hjudge,
      fun q htally hgeneral hclass hjudge => events_posted hunits htally hgeneral hclass hjudge⟩⟩,
    fun frame => execTallyComplete_none, fun frame h r hfind hbehind => tallyComplete_refused hfind hbehind,
    fun frame h q hfind hbehind => tallyComplete_accepted hfind hbehind, fun frame => execExtensionPosted_waits,
    fun frame h hfind hdone => ⟨extensionPosted_refused hfind hdone, extensionPosted_accepted hfind hdone⟩⟩

end Sys2Proof.Machine
